-- ==== Sys2Proof/Word.lean ====
section
/-!
DEFINITION. The word types of the model: the 32-bit register word (R8), the octet, and who issues an access (R27, R53).
-/

namespace Sys2Proof

/-- A register or memory word (R8). -/
abbrev Word := BitVec 32

/-- An octet. -/
abbrev Byte := BitVec 8

/-- The two cores of R27. -/
inductive CoreId where
  | core0 | core1
  deriving DecidableEq, Repr

/-- Who makes an access: the core and whether it runs in machine mode (R44 records the mode of a refusal). -/
structure Origin where
  core : CoreId
  mmode : Bool
  deriving DecidableEq, Repr

end Sys2Proof
end

