-- ==== Sys2Proof/Syntax.lean ====
section
/-!
DEFINITION. The commands of the block: one constructor for each row of spec/opcode_table.json, and the operand types
they carry. The table gives a row no operands: these are the model's (log entry 1), each the input that the row's
rule names.
-/

namespace Sys2Proof

/-! ### Operand types -/

/-- The atomic memory operations of the A extension (R27, R30). -/
inductive AmoOp where
  | swap | add | xor | and | or | min | max | minu | maxu
  deriving DecidableEq, Repr

/-- What a core does at an address (MEMORY_ACCESS). -/
inductive MemOp where
  | load | store | fetch | lr | sc
  | amo (f : AmoOp)
  deriving DecidableEq, Repr

/-- What the SECDED code finds in the words an access touches (R34): an input of the access. -/
inductive EccFind where
  | clean | single | double
  deriving DecidableEq, Repr

/-- What the bulk store reports of a command (R40): all blocks done, an uncorrectable block met after `i` blocks, or a
failed write after `i` blocks. -/
inductive StoreFind where
  | ok
  | ecc (i : Nat)
  | store (i : Nat)
  deriving DecidableEq, Repr


/-- A frame as RFE detects it (R84-R89): its channel, whether its PHR is accepted, its rate (0 50, 1 100 kbit/s), FEC,
whitening, 2-octet FCS, the branches' measured RSSI and the SNR in 0.25 dB, the frequency offset in 10 Hz, ns from the path
boundary to the end of its SFD, and its PSDU. -/
structure RxFrame where
  chan : Nat
  phr : Bool
  rate : Nat
  fec : Bool
  white : Bool
  fcs2 : Bool
  rssiA : Int
  rssiB : Int
  snr : Int
  cfo : Int
  sof : Nat
  psdu : List (BitVec 8)
  deriving DecidableEq, Repr

/-- What RFE has observed of the path that ends (R94, R102, R104): the frames in demodulation at the boundary, the
synchronisation headers each branch detected, whether each branch's AGC stayed at minimum gain, and the mean noise floors
per channel (branch A, branch B) over the evaluation so far, in 0.5 dB. -/
structure PathObs where
  demod : Nat
  detA : Nat
  detB : Nat
  agcA : Bool
  agcB : Bool
  floors : List (Int × Int)
  deriving DecidableEq, Repr

/-- What MTR's decimators give for a cycle of a feeder (R300, R307): its samples, the samples since the crossing before it,
and by input the decimator outputs, oldest first, the last being that of the cycle's last sample; they reach back as far as
the delays of R303 and R309 do. -/
structure CycleObs where
  n : Nat
  period : Nat
  acc : List (List Nat)
  deriving DecidableEq, Repr

/-- A frame on the field bus as FBC sees it (R444-R448): identifier, 29-bit, FD, rate switched, ESI, remote, DLC, data, a
recessive res bit after FDF, ns since its SOF edge. -/
structure FbFrame where
  id : Nat
  xtd : Bool
  fdf : Bool
  brs : Bool
  esi : Bool
  rtr : Bool
  dlc : Nat
  data : List (BitVec 8)
  pex : Bool
  sof : Nat
  deriving DecidableEq, Repr

/-- How a transmit buffer's frame ends on the bus (R443): sent, arbitration lost, an error with the amount the transmit
error counter gains, its code of `FBC_ERR` and whether it fell in the data phase. -/
inductive TxEnd where
  | sent
  | lost
  | error (inc code : Nat) (dphase : Bool)
  deriving DecidableEq, Repr

/-- A CoAP request as DTLS hands it over (R409-R412): confirmable, Message ID, token, method (0.01-0.04 as 1-4), Uri-Path,
Content-Format and Accept, the Block1 and Block2 options (number, more, SZX), whether it has an unrecognised critical option,
and its payload. -/
structure CoapMsg where
  con : Bool
  mid : Nat
  token : List (BitVec 8)
  code : Nat
  path : List String
  format : Option Nat
  accept : Option Nat
  block1 : Option (Nat × Bool × Nat)
  block2 : Option (Nat × Bool × Nat)
  badOption : Bool
  payload : List (BitVec 8)
  deriving DecidableEq, Repr

/-- How a request reaches the dictionary (R395): the transfer frame at the head of the field bus's receive queue, or a CoAP
message of a DTLS session. -/
inductive ReqVia where
  | bus
  | coap (session : Nat) (m : CoapMsg)
  deriving DecidableEq, Repr

/-- How a session is opened (R395, R403): an open frame at the head of the field bus's receive queue, or a DTLS handshake on an
interface (1 backhaul, 2 ETH1, 3 USB) by a peer, with what its credential is: authenticated, and of the factory. -/
inductive OpenVia where
  | bus
  | dtls (iface : Nat) (peer : List (BitVec 8)) (port : Nat) (authentic factory : Bool)
  deriving DecidableEq, Repr


/-- The commands: one constructor for each row of spec/opcode_table.json, in its order (R-numbers are the rows' own). -/
inductive Instr where
  /-- REGISTER_WRITE (R52): A core writes a register that has no row of its own; each field acts by its I, S or L code. -/
  | registerWrite (o : Origin) (addr value hw : Word)
  /-- MEMORY_ACCESS (R31): A core loads, stores or fetches at an address of the address map. -/
  | memoryAccess (o : Origin) (op : MemOp) (size : Nat) (addr value : Word) (found : EccFind)
  /-- PATROL_SCRUB (R34): The patrol scrubber completes a pass over SRAM every 10 s or DRAM every 600 s. -/
  | patrolScrub (dram : Bool) (singles doubles : List Word)
  /-- BSC_READ (R38): A write of BSC_Cn_GO.read starts a bulk store read command on channel n. -/
  | bscRead (o : Origin) (n : Nat)
  /-- BSC_WRITE (R38): A write of BSC_Cn_GO.write starts a bulk store write command on channel n. -/
  | bscWrite (o : Origin) (n : Nat)
  /-- BSC_TRIM (R38): A write of BSC_Cn_GO.trim releases the content of the named blocks. -/
  | bscTrim (o : Origin) (n : Nat)
  /-- BSC_COMMAND_DONE (R40): A bulk store command ends with its status and block count and raises BSC_done or BSC_err. -/
  | bscCommandDone (n : Nat) (found : StoreFind)
  /-- CORE1_RUN_WRITE (R28): A write of SYS_CTRL.c1_run releases core 1 at SYS_C1BOOT or holds it in reset. -/
  | core1RunWrite (o : Origin) (run : Bool)
  /-- SYSRST (R612): A write of SYS_CTRL.sysrst resets the module with cause sysrst. -/
  | sysrst (o : Origin)
  /-- SEAL (R45): A write of SYS_CTRL.seal seals the plane locks until the next reset. -/
  | seal (o : Origin)
  /-- POWER_MODE_WRITE (R603): A write of SYS_PWR.mode selects run or timetable-keeping. -/
  | powerModeWrite (o : Origin) (mode : BitVec 3)
  /-- WDT0_KICK (R46): A write to SYS_WDT0_KICK restarts the core 0 watchdog or, with another value, sets cfg_err. -/
  | wdt0Kick (o : Origin) (key : Word)
  /-- WDT0_WARN (R46): The core 0 watchdog reaches 400 ms without a kick and raises SYS_wdt0_warn. -/
  | wdt0Warn
  /-- WDT0_EXPIRY (R46): The core 0 watchdog reaches 500 ms, resets the module and stops the heartbeats. -/
  | wdt0Expiry
  /-- WDT1_KICK (R48): A write to SYS_WDT1_KICK restarts the core 1 watchdog. -/
  | wdt1Kick (o : Origin) (key : Word)
  /-- WDT1_EXPIRY (R48): The core 1 watchdog expires, holds core 1 in reset and records an event. -/
  | wdt1Expiry
  /-- PATH_BOUNDARY (R74): Network time passes a whole multiple of L and NTB passes a path boundary with its marks to TTE. -/
  | pathBoundary (obs : PathObs)
  /-- NTB_RUN (R63): A write of NTB_CTRL.run starts the network time count; clearing it is refused. -/
  | ntbRun (o : Origin) (run : Bool)
  /-- TIME_READ (R57): A read of NTB_TIME_NS returns nanoseconds and latches seconds, fraction and path number. -/
  | timeRead (o : Origin)
  /-- TIME_SET (R60): A write of NTB_ADJ_GO.set requests that network time take the latched value. -/
  | timeSet (o : Origin)
  /-- TIME_STEP (R60): A write of NTB_ADJ_GO.step requests that the latched value be added to network time. -/
  | timeStep (o : Origin)
  /-- TIME_ADJUST_APPLY (R61): At the second tick after the request a set or step is judged by the jump guard and applied or refused. -/
  | timeAdjustApply (obs : PathObs)
  /-- SOURCE_FED (R67): A write of NTB_CTRL.fed marks an accepted source sample and sets locked. -/
  | sourceFed (o : Origin)
  /-- TIME_INVALIDATE (R62): A write of NTB_CTRL.invalidate moves network time to state provisional. -/
  | timeInvalidate (o : Origin)
  /-- SOURCE_HOLD_EXPIRY (R67): NTB_HOLD elapses without a fed sample; locked falls and srclost is raised. -/
  | sourceHoldExpiry
  /-- PATH_LENGTH_CHANGE (R75): At a 5.12 s multiple a shadowed plen takes effect, renumbering paths with pjump. -/
  | pathLengthChange (obs : PathObs)
  /-- COMPARATOR_ENABLE (R78): A write of CMPn_CFG.en arms a comparator, advancing past instants or refusing bad settings. -/
  | comparatorEnable (o : Origin) (n : Nat) (cfg : Word)
  /-- COMPARATOR_FIRE (R76): A comparator reaches its instant, fires and sends a pulse with locked to its route. -/
  | comparatorFire (n : Nat)
  /-- CAPTURE (R79): A capture input event stores the network time of the capturing tick or sets ovr. -/
  | capture (src : Nat) (rising : Bool)
  /-- NTP_POLL (R70): Every 16 s the NTP client sends a request to its time source. -/
  | ntpPoll
  /-- NTP_RESPONSE (R469): An NTP response is checked, turned into an offset sample and fed to NTB. -/
  | ntpResponse (k : Nat)
  /-- NTP_REQUEST (R470): An NTP mode 3 request is answered with a mode 4 response while tstate is valid. -/
  | ntpRequest (k : Nat)
  /-- TERMINUS_ANNOUNCE (R71): At each multiple of 10 s the terminus sends its announcement to its subscribers. -/
  | terminusAnnounce
  /-- ANNOUNCE_MISSED (R72): One second after a 10 s multiple the deputy counts an announcement it has not accepted as missed. -/
  | announceMissed
  /-- DEPUTY_CLAIM (R72): After three missed announcements the deputy claims the terminus role at the next 10 s multiple. -/
  | deputyClaim
  /-- TERMINUS_READY (R73): A returned terminus locked for 600 s sends its ready message. -/
  | terminusReady
  /-- HANDBACK_SECOND (R73): At hand-back second H the deputy stops announcing and the terminus announces. -/
  | handbackSecond
  /-- SUBSCRIBE_SEND (R471): Every 60 s and after a backhaul change a module sends a subscribe to terminus and deputy. -/
  | subscribeSend
  /-- TERMINUS_MESSAGE_RECEIVE (R473): A terminus message datagram is verified and acted on by its kind. -/
  | terminusMessageReceive (k : Nat)
  /-- SUBSCRIBER_EXPIRY (R471): A subscriber is dropped 180 s after its last subscribe. -/
  | subscriberExpiry (uid : Nat)
  /-- CONFLICT_EXPIRY (R474): A conflict ends 180 s after the last conflict message. -/
  | conflictExpiry
  /-- RX_FRAME (R89): A frame that passes its PHR is received on a channel and handed to TTE with its reception report. -/
  | rxFrame (f : RxFrame)
  /-- TX_FRAME_END (R101): A chain finishes a frame, records its power and return loss and may leave service. -/
  | txFrameEnd (c : Nat) (fwd : Int) (rl : Nat) (unlock : Bool)
  /-- RFE_STOP (R95): A write of RFE_CTRL.stop ramps down every transmission, turns receive off and sets mode 0. -/
  | rfeStop (o : Origin)
  /-- TXEN_WRITE (R95): A write of RFE_CTRL.txen enables transmit or, with 0, cuts frames on air and withdraws granted ones. -/
  | txenWrite (o : Origin) (en : Bool)
  /-- BAND_REGISTER_WRITE (R96): A write to a band register set is checked for overlap and ranges and applied or refused whole. -/
  | bandRegisterWrite (o : Origin) (b k : Nat) (w : Word)
  /-- DUTY_BUCKET_CLOSE (R98): At each 60 s multiple every duty counter drops its oldest bucket and opens a new one. -/
  | dutyBucketClose
  /-- READMIT (R103): Every 64 timetables the resident firmware re-admits an excluded branch or chain. -/
  | readmit
  /-- TTE_RUN_WRITE (R141): A write of TTE_CTRL.run arms path opening or stops TTE at the next path boundary. -/
  | tteRunWrite (o : Origin) (run : Bool)
  /-- TTE_OPEN (R141): A write of TTE_CTRL.open opens paths at the next path boundary without a route 7 pulse. -/
  | tteOpen (o : Origin)
  /-- SILENT_FIFO_READ (R126): A read of TTE_SILENT returns and removes the oldest silent node. -/
  | silentFifoRead (o : Origin)
  /-- JOIN_RESPONSE_EXPIRY (R129): A join response that has waited two timetables is discarded. -/
  | joinResponseExpiry
  /-- NODE_RELEASE (R138): Six timetables after the last frame from a silent node its cells are released. -/
  | nodeRelease (short : BitVec 13)
  /-- JOIN_CELLS_REDUCE (R130): After 90 % of stored nodes are heard or 64 timetables pass J is set to 16. -/
  | joinCellsReduce
  /-- STANDBY_BEACON_RESYNC (R139): With its sync lapsed a standby sets NTB from the SFD end of its partner's next beacon. -/
  | standbyBeaconResync (path sof : Nat)
  /-- EPOCH_DELIVERY_END (R172): Key delivery ends when every node acknowledged or after 8 timetables and the countdown begins. -/
  | epochDeliveryEnd
  /-- EPOCH_AGE_LIMIT (R164): An epoch reaching 180 days or its counter limit starts a new epoch. -/
  | epochAgeLimit
  /-- JOIN_REQUEST_RECEIVE (R177): The resident firmware handles a join request and queues an accepting or refusing response. -/
  | joinRequestReceive
  /-- REPORT_RECEIVE (R205): The resident firmware handles a node report: results, faults, energy and flags. -/
  | reportReceive
  /-- DATA_FRAME_RECEIVE (R214): The resident firmware handles a data frame: image status or read answer. -/
  | dataFrameReceive
  /-- ALARM_RECEIVE (R212): The resident firmware handles an alarm frame from a node. -/
  | alarmReceive
  /-- FORWARD_ENTRY_READ (R259): The resident firmware takes an entry from the forward queue and acts on presence and carpet links. -/
  | forwardEntryRead
  /-- COMMAND_RETRY (R200): A unicast command unacknowledged after two report cells is sent again, or dropped after 5 sends. -/
  | commandRetry (short : BitVec 13)
  /-- DISTRIBUTION_PASS_END (R221): After a pass of blocks the module polls the targets and sends the union of missing blocks. -/
  | distributionPassEnd
  /-- LFE_RUN_WRITE (R254): A write of LFE_CTRL.run starts LFE or stops ingestion and ends after the cycle in progress. -/
  | lfeRunWrite (o : Origin) (run : Bool)
  /-- LFE_INGEST (R229): LFE takes a queue entry, forwards it and writes mapped measurements or events. -/
  | lfeIngest (n : Nat)
  /-- LFE_GO (R235): A write of LFE_CTRL.go starts an inner cycle as a pulse. -/
  | lfeGo (o : Origin)
  /-- INNER_CYCLE_START (R235): A route 1 pulse starts an inner cycle that snapshots and runs the due zones. -/
  | innerCycleStart
  /-- CYCLE_OVERRUN (R252): A pulse arriving during a cycle is counted as an overrun and starts nothing. -/
  | cycleOverrun
  /-- CYCLE_COMPLETE (R239): The last zone of a cycle finishes and LFE_done is raised. -/
  | cycleComplete
  /-- ENGINE_WORD_ACCESS (R251): An access to LFE_EDATA reads or writes an engine SRAM word and advances the address. -/
  | engineWordAccess (o : Origin) (write : Option Word)
  /-- GAIN_SURVEY (R255): The survey command holds a zone open and starts measuring one input's gain. -/
  | gainSurvey (via : ReqVia)
  /-- SURVEY_STEP (R255): A timed step of the survey records reports, overrides, cancels or writes results. -/
  | surveyStep
  /-- ZONE_MODEL_APPLY (R269): An accepted zone model file is written, commands sent and the directory switched. -/
  | zoneModelApply
  /-- ZONE_MODEL_MAPS_WRITE (R269): After the directory switch shows, the new measurement and presence maps are written. -/
  | zoneModelMapsWrite
  /-- LOCAL_MIDNIGHT (R274): At local midnight wall times, sunrise and sunset are converted for the new date. -/
  | localMidnight
  /-- AIN_SAMPLE (R626): Every 100 ms IOC samples AIN0 and AIN1 and writes IOC_AIN. -/
  | ainSample (a0 a1 : Int)
  /-- PHOTOCELL_MEAN (R279): Once per second the photocell mean is formed and faults are judged. -/
  | photocellMean
  /-- PHOTOCELL_POINT (R280): A photocell switch point fires after its condition held 60 s or at the end of its window. -/
  | photocellPoint
  /-- PROGRAM_POINT (R283): At a point's instant every program is evaluated and plan sets updated. -/
  | programPoint
  /-- CALENDAR_EVENT_EDGE (R284): A calendar event starts or ends and effective sets are recomputed. -/
  | calendarEventEdge
  /-- TRAFFIC_EVALUATION (R285): At each 900 s multiple each traffic meter's class is set from its rate. -/
  | trafficEvaluation
  /-- R_SCHED_WRITE (R287): Between cycles the new effective set's r_sched values are written into the target table. -/
  | rSchedWrite
  /-- INPUT_OVERRIDE (R293): The input override command holds one input at a level for a hold time. -/
  | inputOverride (via : ReqVia)
  /-- ZONE_OVERRIDE (R293): The zone override command holds every input of a zone at a level. -/
  | zoneOverride (via : ReqVia)
  /-- GROUP_OVERRIDE (R293): The group override command holds the nodes of a command group at a level. -/
  | groupOverride (via : ReqVia)
  /-- ZONE_SET_OVERRIDE (R286): The zone set override command forces a zone's effective set. -/
  | zoneSetOverride (via : ReqVia)
  /-- OVERRIDE_RENEW (R293): Every 1,800 s a standing radio override is renewed. -/
  | overrideRenew
  /-- OVERRIDE_END (R292): An override's hold time ends and it releases the inputs it still holds. -/
  | overrideEnd
  /-- METER_RUN_WRITE (R306): A write of MTR_CTRL.run starts metering after checks or stops it at the cycle ends. -/
  | meterRunWrite (o : Origin) (run : Bool)
  /-- METER_LOAD (R321): A write of MTR_CTRL.load loads the newer valid save image. -/
  | meterLoad (o : Origin)
  /-- METER_SAVE (R319): A write of MTR_CTRL.save snapshots the registers and writes an image. -/
  | meterSave (o : Origin)
  /-- METER_SAVE_DONE (R319): A save image write completes and raises MTR_save. -/
  | meterSaveDone
  /-- METER_CLEAR (R321): A write of MTR_CTRL.clear zeroes all registers while MTR is stopped. -/
  | meterClear (o : Origin)
  /-- METER_CLOSE (R315): A write of MTR_CTRL.close marks every feeder close-pending. -/
  | meterClose (o : Origin)
  /-- LINE_CYCLE_END (R310): A feeder's line cycle ends at a crossing and its energy is sorted into the registers. -/
  | lineCycleEnd (f : Nat) (c : CycleObs)
  /-- LINE_CYCLE_TIMEOUT (R307): A cycle without a crossing ends as timed out after floor(fs/45) samples. -/
  | lineCycleTimeout (f : Nat) (c : CycleObs)
  /-- PSEUDO_CYCLE_ENTRY (R307): A feeder without a valid cycle for 100 ms enters pseudo-cycles. -/
  | pseudoCycleEntry (f : Nat)
  /-- PROFILE_RECORD_COPY (R317): The resident firmware copies a profile record to partition 7 and advances ri. -/
  | profileRecordCopy
  /-- MODULATOR_STUCK (R299): An enabled input shows no transition for 2 ms and is faulted. -/
  | modulatorStuck (k : Nat)
  /-- CLOCK_FAULT (R299): A driven modulator clock reads back wrongly at 4 edges or a received clock stops for 10 µs. -/
  | clockFault (n : Nat)
  /-- OVER_RANGE (R299): A decimated sample reaches 15/16 of full scale and sets MTR_OVR. -/
  | overRange (k acc : Nat)
  /-- FAULT_LIVE_END (R299): A stuck or clock fault stops being live 10 ms after its condition ends. -/
  | faultLiveEnd (clock : Bool) (n : Nat)
  /-- BALANCE_COMPUTE (R331): At E + G the resident firmware balances a feeder record and writes the result. -/
  | balanceCompute
  /-- MAPPING_CHECK (R335): The mapping check command starts switching a node channel to find its feeder. -/
  | mappingCheck (via : ReqVia)
  /-- MAPPING_CHECK_STEP (R335): A timed step of the mapping check averages power, overrides or cancels and records the result. -/
  | mappingCheckStep
  /-- SDC_RUN_WRITE (R357): A write of SDC_CTRL.run starts a siding after checks or stops it after the frame in progress. -/
  | sdcRunWrite (o : Origin) (run : BitVec 4)
  /-- SDC_GO (R346): A write of SDC_CTRL.go starts a luminaire frame on a siding. -/
  | sdcGo (o : Origin) (go : BitVec 4)
  /-- SDC_CFGALL (R347): A write of SDC_CTRL.cfgall makes config and phase pending for every device. -/
  | sdcCfgall (o : Origin)
  /-- CHAIN_LATCH (R346): LAT rises at the path boundary and the devices apply the frame. -/
  | chainLatch (n : Nat) (st : List (List (BitVec 8)))
  /-- MATRIX_ROW_SLOT (R354): A matrix siding begins a row slot: blank, latch, light and shift the next row. -/
  | matrixRowSlot (n : Nat) (st : List (List (BitVec 8)))
  /-- SDC_TABLE_ACCESS (R358): An access to SDC_TDATA reads or writes a table word and advances the address. -/
  | sdcTableAccess (o : Origin) (write : Option Word)
  /-- TOKEN_CLAIM (R362): A write of TKN_CTRL.claim asserts ILK_OUT if ILK_IN was released for 2 µs, else is refused. -/
  | tokenClaim (o : Origin)
  /-- TOKEN_RELEASE (R362): A write of TKN_CTRL.release releases ILK_OUT and hardware ownership. -/
  | tokenRelease (o : Origin)
  /-- TKN_RUN_WRITE (R366): A write of TKN_CTRL.run starts heartbeats and the link or stops them and releases ILK_OUT. -/
  | tknRunWrite (o : Origin) (run : Bool)
  /-- AUTO_CLAIM (R364): With arm set TKN claims by itself when a partner-loss or handover condition holds. -/
  | autoClaim
  /-- ILK_IN_CHANGE (R361): ILK_IN changes level and hardware ownership is recomputed. -/
  | ilkInChange (asserted : Bool)
  /-- INTERLOCK_CONFLICT (R363): Both interlock lines asserted for 10 µs make side 1 release. -/
  | interlockConflict
  /-- FB_HEARTBEAT_SEND (R366): Every fbper ms TKN sends its heartbeat from transmit buffer 0. -/
  | fbHeartbeatSend
  /-- LINK_CYCLE_FRAME_SEND (R380): At each millisecond the timekeeper sends the cycle frame. -/
  | linkCycleFrameSend
  /-- SLOT_FRAME_SEND (R381): In its own slot window a module sends its heartbeat and items. -/
  | slotFrameSend
  /-- LINK_FRAME_RECEIVE (R379): A stack link frame is received, checked and its heartbeat and items taken. -/
  | linkFrameReceive (frame : List (BitVec 8)) (uid sid : Nat)
  /-- LINK_SILENCE (R378): Three cycles without a cycle frame stop a follower's sending on the link. -/
  | linkSilence
  /-- KEEPER_START (R384): Member m becomes keeper after 10 × m cycles without cycle frames and member 0 silent. -/
  | keeperStart
  /-- ADMISSION_TIMEOUT (R383): A module not admitted within 2 s opens no paths and records the cause. -/
  | admissionTimeout
  /-- SLOT_COLLISION_BACKOFF (R383): After a slot collision a sender resumes after its random wait. -/
  | slotCollisionBackoff
  /-- HEARTBEAT_PATH_LOSS (R367): A heartbeat path times out, or returns, and the fault objects are updated. -/
  | heartbeatPathLoss (fb : Bool)
  /-- STREAM_RESEND (R386): When ack has not advanced for 5 cycles the active resends from ack. -/
  | streamResend
  /-- STREAM_SNAPSHOT (R386): The active starts a full snapshot on request or when ack falls outside 4 MiB. -/
  | streamSnapshot
  /-- START_LISTEN_END (R371): After 200 ms of listening a starting module claims or becomes standby. -/
  | startListenEnd
  /-- START_WAIT_END (R371): The non-preferred side claims after a further 1,000 ms if no active partner is heard. -/
  | startWaitEnd
  /-- BECOME_ACTIVE (R369): A module becoming active stores and writes a raised token number. -/
  | becomeActive
  /-- YIELD (R373): An active module hearing a higher-ranked active partner releases and announces yielding. -/
  | yield
  /-- YIELD_END (R373): After 100 ms yielding the module becomes standby. -/
  | yieldEnd
  /-- TAKEOVER (R376): After gaining ownership in a takeover the firmware raises the token and reopens air and engine. -/
  | takeover
  /-- HANDOVER (R389): The handover command sets ho and a beacon interval H for a planned change of active twin. -/
  | handover (via : ReqVia)
  /-- HANDOVER_PREPARE (R389): Before P the standby writes zone states, reopens TTE and shadows token and air. -/
  | handoverPrepare
  /-- HANDOVER_SWITCH (R389): At path P the active releases ILK_OUT and the standby claims. -/
  | handoverSwitch
  /-- HANDOVER_ABANDON (R390): Without an echo by H − 1 or on a path loss the handover is abandoned. -/
  | handoverAbandon
  /-- OD_READ (R391): A dictionary read request returns an element's value or a result code. -/
  | odRead (via : ReqVia)
  /-- OD_WRITE (R399): A dictionary write is checked, stored, applied, recorded and answered. -/
  | odWrite (via : ReqVia)
  /-- SESSION_OPEN (R395): A field bus open frame or DTLS handshake opens a session with a version. -/
  | sessionOpen (via : OpenVia)
  /-- SESSION_CLOSE (R395): A client closes its session. -/
  | sessionClose (id : Nat)
  /-- SESSION_IDLE_TIMEOUT (R395): A session idle past its interface's timeout is closed and recorded. -/
  | sessionIdleTimeout (id : Nat)
  /-- VERSION_POST (R403): A CoAP version request agrees a dictionary version. -/
  | versionPost (session : Nat) (m : CoapMsg)
  /-- TRANSFER_SEGMENT (R408): A field bus segment frame of a transfer is received. -/
  | transferSegment
  /-- SEGMENT_ACKNOWLEDGEMENT (R408): A segment acknowledgement lets the sender continue. -/
  | segmentAcknowledgement
  /-- TRANSFER_ABORT (R407): An abort frame ends a transfer. -/
  | transferAbort
  /-- TRANSFER_TIMEOUT (R408): 500 ms without an awaited frame abandons the transfer with aborted. -/
  | transferTimeout
  /-- COAP_REQUEST (R409): A CoAP message is deduplicated and routed to a dictionary resource. -/
  | coapRequest (session : Nat) (m : CoapMsg)
  /-- BLOCK1_DISCARD (R411): An incomplete Block1 body is discarded after 60 s. -/
  | block1Discard (session : Nat)
  /-- SEPARATE_RESPONSE (R412): An answer taking over 1 s is sent as a separate confirmable message. -/
  | separateResponse (session : Nat) (m : CoapMsg)
  /-- MODULE_RESTART (R416): Command 1:0E00 restarts the module through SYS_CTRL.sysrst within 1 s. -/
  | moduleRestart (via : ReqVia)
  /-- RESTORE_FACTORY (R402): Command 1:0F00 writes factory values and resets the module. -/
  | restoreFactory (via : ReqVia)
  /-- FORCED_SET (R62): Command 2:0004 invalidates time so the next source sample is accepted whatever its size. -/
  | forcedSet (via : ReqVia)
  /-- IDENTIFY (R197): Command element 81 sends identify 0x09 to a node. -/
  | identify (via : ReqVia)
  /-- CLEAR_NODE_FAULT (R197): Command element 82 sends clear fault 0x0C to a node. -/
  | clearNodeFault (via : ReqVia)
  /-- REJOIN (R204): Command element 83 sends rejoin 0x0D to a node. -/
  | rejoin (via : ReqVia)
  /-- LEAVE (R204): Command element 84 sends leave 0x0E to a node. -/
  | leave (via : ReqVia)
  /-- NODE_READ (R198): Command element 85 sends Read 0x0A and the answer appears in element 86. -/
  | nodeRead (via : ReqVia)
  /-- CLEAR_REGISTERS (R321): Command 7:0005 clears the metering registers while metering is stopped. -/
  | clearRegisters (via : ReqVia)
  /-- NEW_EPOCH (R172): Command B:0002 starts a segment key epoch change. -/
  | newEpoch (via : ReqVia)
  /-- ARM (R542): Command D:0002 arms every stored item for an activation second. -/
  | arm (via : ReqVia)
  /-- DISARM (R545): Command D:0003 returns armed items to stored and disables comparator 3. -/
  | disarm (via : ReqVia)
  /-- CONFIRM (R548): Command D:0005 confirms a trial and raises the floors. -/
  | confirm (via : ReqVia)
  /-- REVERT (R548): Command D:0006 reverts a trial. -/
  | revert (via : ReqVia)
  /-- NODE_DISTRIBUTION (R218): Command D:0011 starts a node image distribution session. -/
  | nodeDistribution (via : ReqVia)
  /-- LOAD_OPEN (R532): Command D:0020 opens or resumes an image load after header checks. -/
  | loadOpen (via : ReqVia)
  /-- LOAD_DATA (R532): Command D:0021 appends a payload chunk at its offset. -/
  | loadData (via : ReqVia)
  /-- LOAD_CLOSE (R533): Command D:0022 starts the digest, decrypt and content checks of a complete load. -/
  | loadClose (via : ReqVia)
  /-- LOAD_ABORT (R532): Command D:0024 aborts the load and leaves its place invalid. -/
  | loadAbort (via : ReqVia)
  /-- LOAD_IDLE_TIMEOUT (R532): A load with no data write for 600 s is aborted. -/
  | loadIdleTimeout
  /-- LOAD_VERIFY_DONE (R533): The checks of a closed load end with state stored or refused with a reason. -/
  | loadVerifyDone
  /-- CLEAR_FAULT (R557): Command E:0003 ends latching faults whose condition is absent. -/
  | clearFault (via : ReqVia)
  /-- TEST_TRANSMISSION (R431): Command F:00F0 runs a factory test transmission in RFE mode 3. -/
  | testTransmission (via : ReqVia)
  /-- FB_FRAME_RECEIVE (R444): FBC receives a valid frame, routes heartbeats to TKN and filters it into the queue. -/
  | fbFrameReceive (f : FbFrame)
  /-- XNC8_STATUS_RECEIVE (R457): An XN-C8 status is checked for feedback, supply and lagging cseq. -/
  | xnc8StatusReceive
  /-- INPUT_EVENT_RECEIVE (R458): A field bus input event frame is deduplicated and turned into event items. -/
  | inputEventReceive
  /-- CLAIM_RECEIVE (R452): A claim naming the own node number makes the module send its own claim within 10 ms. -/
  | claimReceive
  /-- FB_TX_REQUEST (R442): A write of FBC_TXREQ.req makes a transmit buffer pending. -/
  | fbTxRequest (o : Origin) (req : BitVec 3)
  /-- FB_TX_ABORT (R443): A write of FBC_TXREQ.abort removes a pending buffer or stops its retry. -/
  | fbTxAbort (o : Origin) (abort : BitVec 3)
  /-- FB_TX_COMPLETE (R443): A transmit buffer ends sent or failed. -/
  | fbTxComplete (e : TxEnd)
  /-- FB_ERROR (R447): FBC detects a bus error and applies fault confinement. -/
  | fbError (inc code : Nat) (dphase : Bool)
  /-- FB_BUS_OFF (R450): FBC enters bus-off and starts recovery if auto_rec is set. -/
  | fbBusOff
  /-- FB_RECOVER (R450): A write of FBC_CTRL.recover starts bus-off recovery. -/
  | fbRecover (o : Origin)
  /-- FB_BUS_OFF_RECOVERED (R450): After 128 × 11 recessive bits FBC returns to error active. -/
  | fbBusOffRecovered
  /-- FB_RECOVER_PAUSE_END (R450): 10 s after repeated bus-offs the resident firmware writes recover. -/
  | fbRecoverPauseEnd
  /-- FBC_RUN_WRITE (R434): A write of FBC_CTRL.run starts or stops the controller. -/
  | fbcRunWrite (o : Origin) (run : Bool)
  /-- FB_WAKEUP_PATTERN (R434): The transceiver in low-power mode detects a WUP and raises FBC_wake. -/
  | fbWakeupPattern
  /-- FB_CLAIM_START (R451): After 50 ms restricted listening the firmware sends its field bus claim. -/
  | fbClaimStart
  /-- FB_CLAIM_LISTEN_END (R451): After 200 ms of listening without dupsrc heartbeats start. -/
  | fbClaimListenEnd
  /-- FB_DUP_RECHECK (R453): Every 60 s a module holding a duplicate runs the claim check again. -/
  | fbDupRecheck
  /-- CONTACTOR_COMMAND_SEND (R455): Every 100 ms or on a change the owner broadcasts a contactor command. -/
  | contactorCommandSend
  /-- XNC8_STATUS_MISSING (R457): An XN-C8 status missing for 3 s is recorded as a fault. -/
  | xnc8StatusMissing (node : Nat)
  /-- ETH_FRAME_RECEIVE (R475): BHN stamps a received Ethernet or USB frame and queues it. -/
  | ethFrameReceive (k : Nat) (frame : List (BitVec 8)) (fcs : Bool)
  /-- ETH_FRAME_SEND (R475): BHN sends a committed transmit entry, padding it and appending the FCS. -/
  | ethFrameSend (k : Nat)
  /-- PPP_FRAME_RECEIVE (R462): BHN unframes a PPP frame from the modem UART and checks its FCS. -/
  | pppFrameReceive (raw : List (BitVec 8)) (framing : Bool)
  /-- PPP_FRAME_SEND (R462): BHN frames and escapes a transmit entry onto the modem UART. -/
  | pppFrameSend
  /-- PORT_LINK_CHANGE (R466): A port's link changes and the backhaul in use may change, closing sessions. -/
  | portLinkChange (k : Nat) (up spd fdx pause usable : Bool)
  /-- BACKHAUL_RETURN (R466): After ETH0 holds link and an address for 60 s the backhaul returns to it. -/
  | backhaulReturn
  /-- PAUSE_REPEAT (R482): While a receive queue stays high BHN repeats its PAUSE frame. -/
  | pauseRepeat
  /-- DNS_RESOLVE (R464): Every 3,600 s the host names of area A are resolved again. -/
  | dnsResolve (found : List (Option (List (BitVec 8))))
  /-- PQU_RUN_WRITE (R647): A write of PQU_CTRL.run activates or freezes queues and ports. -/
  | pquRunWrite (o : Origin) (run : Bool)
  /-- HW_QUEUE_WRITE (R478): A hardware producer writes and commits an entry that fits, or discards it. -/
  | hwQueueWrite (agent n : Nat) (tag : Byte) (body : List Byte)
  /-- PORT_SELECT (R479): A write of PQU_PRTk_SEL takes or gives up a queue, rewinding uncommitted entries. -/
  | portSelect (o : Origin) (k : Nat) (sel : Word)
  /-- PORT_HDR_WRITE (R478): A write of PQU_PRTk_HDR reserves space for a new entry or refuses it. -/
  | portHdrWrite (o : Origin) (k : Nat) (hdr : Word)
  /-- PORT_DATA_WRITE (R478): A write of PQU_PRTk_DATA stores the next body word of the open entry. -/
  | portDataWrite (o : Origin) (k : Nat) (data : Word)
  /-- PORT_HDR_READ (R479): A read of PQU_PRTk_HDR returns the head entry's header and restarts DATA. -/
  | portHdrRead (o : Origin) (k : Nat) (bad : Bool)
  /-- PORT_DATA_READ (R479): A read of PQU_PRTk_DATA returns the next body word of the head entry. -/
  | portDataRead (o : Origin) (k : Nat)
  /-- PORT_COMMIT (R476): PQU_PRTk_CMD.commit makes every entry written since the last commit visible. -/
  | portCommit (o : Origin) (k : Nat)
  /-- PORT_REWIND (R476): PQU_PRTk_CMD.rewind discards everything written since the last commit. -/
  | portRewind (o : Origin) (k : Nat)
  /-- PORT_NEXT (R476): PQU_PRTk_CMD.next releases the head entry. -/
  | portNext (o : Origin) (k : Nat)
  /-- REGEN (R485): A write of KVT_CTRL.regen rebuilds the root key and sets the vault state. -/
  | regen (o : Origin) (rebuilt : Bool)
  /-- ZEROIZE (R509): A write of KVT_CTRL.zeroize clears the root key, slots, contexts and cache. -/
  | zeroize (o : Origin)
  /-- WIPE (R509): A write of KVT_CTRL.wipe zeroizes and erases the helper mask. -/
  | wipe (o : Origin)
  /-- HOPLOAD (R488): A write of KVT_CTRL.hopload computes and loads the hop table. -/
  | hopload (o : Origin)
  /-- FLUSHALL (R493): A write of KVT_CTRL.flushall empties the link key cache. -/
  | flushall (o : Origin)
  /-- CACHE_FLUSH (R494): A write of KVT_CFLUSH removes one node's cached link key. -/
  | cacheFlush (o : Origin) (short : BitVec 13)
  /-- CONTEXT_LOAD (R496): KVT_CTXc_CFG.load derives the epoch key into a context from slot 2 or 3. -/
  | contextLoad (o : Origin) (c : Nat) (cfg : Word)
  /-- CEILING_RAISE (R497): On KVT_ceil the firmware stores and writes a ceiling 4,096 higher. -/
  | ceilingRaise
  /-- AES_CTR (R499): KVT command op 0x01 runs AES-CTR under a slot. -/
  | aesCtr
  /-- AES_GCM_ENCRYPT (R499): KVT command op 0x02 encrypts with AES-GCM. -/
  | aesGcmEncrypt
  /-- AES_GCM_DECRYPT (R499): KVT command op 0x03 decrypts with AES-GCM and checks the tag. -/
  | aesGcmDecrypt
  /-- AES_CMAC (R499): KVT command op 0x04 computes an AES-CMAC. -/
  | aesCmac
  /-- AES_KEY_WRAP (R499): KVT command op 0x05 wraps a key by RFC 3394. -/
  | aesKeyWrap
  /-- SHA256 (R499): KVT command op 0x07 computes or continues a SHA-256 digest. -/
  | sha256
  /-- ECDSA_VERIFY (R499): KVT command op 0x08 verifies a P-256 signature. -/
  | ecdsaVerify
  /-- ECDSA_SIGN (R499): KVT command op 0x09 signs a digest with the device key. -/
  | ecdsaSign
  /-- EPHEMERAL_ECDH (R499): KVT command op 0x0A performs an ephemeral P-256 ECDH. -/
  | ephemeralEcdh
  /-- RANDOM (R499): KVT command op 0x0B writes DRBG output. -/
  | random
  /-- INSTALL_SECRET_KEY (R503): Key update op 1 installs a wrapped secret key into a slot. -/
  | installSecretKey
  /-- INVALIDATE (R504): Key update op 2 invalidates a slot. -/
  | invalidate
  /-- INSTALL_PUBLIC_KEY (R504): Key update op 3 installs a public key anchor. -/
  | installPublicKey
  /-- ENROL (R508): Key update op 4 enrols the vault with a new secret and mask. -/
  | enrol
  /-- CERTIFICATE_PART (R505): Key update op 5 stores a certificate part and replaces B:0010 when complete. -/
  | certificatePart
  /-- KVT_ABORT (R500): A write of KVT_CMD_GO.abort ends the command after its chunk with result 7. -/
  | kvtAbort (o : Origin)
  /-- KVT_COMMAND_DONE (R500): A KVT command ends and writes its result. -/
  | kvtCommandDone
  /-- ENTROPY_HEALTH_FAIL (R499): A failed entropy health test raises KVT_health and blocks random operations. -/
  | entropyHealthFail
  /-- EVENT_POST (R513): A block posts an event through its internal input and EVR stages or folds it. -/
  | eventPost (src code : Nat) (data : List Byte) (fnd : Bool)
  /-- PORT_POST (R513): A write of EVR_Pk_POST posts an event from a core port. -/
  | portPost (o : Origin) (k : Nat) (post : Word)
  /-- REPEAT_ENTRY_CLOSE (R514): A repeat entry closes after 60 s and stages its repeat record. -/
  | repeatEntryClose (j : Nat)
  /-- EVR_RUN_WRITE (R516): A write of EVR_CTRL.run numbers the staged records and starts numbering. -/
  | evrRunWrite (o : Origin) (run : Bool)
  /-- EVR_SPILL (R520): A write of EVR_CTRL.spill writes the staging queue to the spill area. -/
  | evrSpill (o : Origin)
  /-- SPILL_COMPLETE (R520): A spill finishes and raises EVR_spill. -/
  | spillComplete
  /-- EVR_RELEASE (R517): A write of EVR_REL releases the oldest durable records and may stage a loss record. -/
  | evrRelease (o : Origin) (n : Word)
  /-- RECORD_READ (R517): A read of EVR_RD_DATA returns a staged record word and advances the word. -/
  | recordRead (o : Origin)
  /-- RECORD_BLOCK_WRITE (R517): The firmware writes a filled or one-second-old record block to partition 6. -/
  | recordBlockWrite
  /-- JOURNAL_BLOCK_WRITE (R525): With 384 entries in the head the oldest 64 are written to partition 9. -/
  | journalBlockWrite
  /-- UPD_HASH (R552): UPD_GO.go with op 0 hashes bulk store blocks. -/
  | updHash (o : Origin)
  /-- UPD_DECRYPT (R552): UPD_GO.go with op 1 hashes, decrypts and writes back blocks. -/
  | updDecrypt (o : Origin)
  /-- UPD_ABORT (R552): A write of UPD_GO.abort ends the job after the block in progress. -/
  | updAbort (o : Origin)
  /-- UPD_JOB_DONE (R552): A UPD job ends with its result and digest. -/
  | updJobDone (found : StoreFind) (done : Nat)
  /-- ACTIVATION (R543): The firmware applies or misses the armed activation at T. -/
  | activation
  /-- TRIAL_START_CHECK (R547): Within 300 s of the first start after T the start checks confirm or revert. -/
  | trialStartCheck
  /-- TRIAL_EXPIRY (R547): A trial window ending unconfirmed reverts automatically. -/
  | trialExpiry
  /-- STANDBY_TRIAL_RESTART (R550): The standby restarts into its armed bank at max(T − 300 s, ARM + 1 s). -/
  | standbyTrialRestart
  /-- FAULT_END (R557): A non-latching fault ends after its condition has been absent for 10 s. -/
  | faultEnd (code source : Nat)
  /-- FAULT_HANDLER_END (R558): A fault handler ends and the next queued handler runs. -/
  | faultHandlerEnd
  /-- ESCALATION (R559): A handler faulting or running 500 ms stops kicking the watchdog. -/
  | escalation (byHandler : Bool)
  /-- JOURNAL_REPLAY (R562): After TTE opens or a takeover the entries in flight are replayed in jseq order. -/
  | journalReplay
  /-- IRQ_REQUEST_CHANGE (R568): A source's request line changes and its state moves under the trigger type. -/
  | irqRequestChange (n : Nat)
  /-- IRQ_CLAIM (R575): A read of ICU_Tt_CLAIM claims the winning eligible source. -/
  | irqClaim (o : Origin) (t : Nat)
  /-- IRQ_COMPLETE (R576): A write of ICU_Tt_COMPL completes an active source. -/
  | irqComplete (o : Origin) (t : Nat) (id : Word)
  /-- SOFTWARE_INTERRUPT (R566): A write of ICU_CTRL.sw gives a software source one edge. -/
  | softwareInterrupt (o : Origin) (sw : BitVec 7)
  /-- PRIORITY_WRITE (R574): A write of ICU_PRIOn changes priority, target or trigger unless the target is locked. -/
  | priorityWrite (o : Origin) (n : Nat) (w : Word)
  /-- THRESHOLD_WRITE (R573): A write of ICU_Tt_THR changes threshold or hold and delivery follows. -/
  | thresholdWrite (o : Origin) (t : Nat) (w : Word)
  /-- WAKE_LATCH_SET (R581): A wake latch input reaches its active state past its filter and sets the latch. -/
  | wakeLatchSet (k held : Nat)
  /-- WAKE_LATCH_CLEAR (R582): A write of 1 to ICU_WLAT clears a latch, in forerunner mode only if its input left. -/
  | wakeLatchClear (o : Origin) (w active : Word)
  /-- CALENDAR_SET (R588): A write of BKD_CTRL.set sets the calendar after checks or raises date_err. -/
  | calendarSet (o : Origin)
  /-- CALENDAR_SHIFT (R589): A write of BKD_CTRL.shift moves the calendar forward or holds it. -/
  | calendarShift (o : Origin)
  /-- CELL_MEASURE (R594): A write of BKD_CTRL.meas suspends the charger and measures the backup cell. -/
  | cellMeasure (o : Origin)
  /-- CELL_MEASURE_DONE (R594): The measurement ends and cell_low is judged. -/
  | cellMeasureDone (mv : Nat)
  /-- CALENDAR_SECOND (R591): At each whole second BKD raises tick and checks alarm and periodic wake. -/
  | calendarSecond
  /-- TRIM_WINDOW (R590): A 2^20-tick trim window ends and a new trim takes effect. -/
  | trimWindow
  /-- CHARGER_SWITCH (R593): VBAK reaching its target or falling 100 mV below stops or restarts the charger. -/
  | chargerSwitch (mv : Nat)
  /-- TAMPER (R595): An enabled tamper input passes its filter, latches and starts zeroize. -/
  | tamper (k : Nat) (level : Bool) (held : Nat)
  /-- BACKUP_POWER_ON (R584): VAON rises above 1.7 V after loss and the backup domain restarts from reset values. -/
  | backupPowerOn
  /-- BKD_WRITE_CARRIED (R585): A BKD register write is carried into the backup domain within 61 µs. -/
  | bkdWriteCarried
  /-- MIRROR_CHECKPOINT (R597): Every second the firmware writes a backup mirror copy. -/
  | mirrorCheckpoint
  /-- CALENDAR_DISCIPLINE (R592): Every 3,600 s while locked the calendar is shifted or set to network time and trimmed. -/
  | calendarDiscipline
  /-- EARLY_WARNING (R609): VIN falls below V_ew and the module releases ownership and commits metering and records. -/
  | earlyWarning (vin vref : Nat)
  /-- VIN_RECOVERY (R610): VIN recovers for 10 ms without a reset and PG rises. -/
  | vinRecovery (vin : Nat)
  /-- BROWN_OUT (R612): VIN below V_bor for 10 µs resets the module with cause bor. -/
  | brownOut (vin : Nat)
  /-- POWER_ON_RESET (R612): VIN rising through V_on resets the module with cause por. -/
  | powerOnReset (vin : Nat)
  /-- PIN_RESET (R612): RST_N low for 1 µs or more resets the module with cause pin. -/
  | pinReset (ns : Nat)
  /-- BOOT_ROM (R614): On reset release or wake the boot ROM fills memory, regenerates the vault and selects a bank. -/
  | bootRom (rebuilt : Bool)
  /-- FIRMWARE_START (R615): The resident firmware reconciles, loads and starts every block in order. -/
  | firmwareStart (bad : List Nat)
  /-- HIBERNATE_ENTER (R605): A write of SYS_PWR.mode = 2 starts hibernate entry or is refused. -/
  | hibernateEnter (o : Origin)
  /-- HIBERNATE_POWER_DOWN (R606): 2 ms after entry the latches are sampled and domains power down or entry is abandoned. -/
  | hibernatePowerDown
  /-- WAKE (R607): An enabled wake latch in hibernate starts rails and the boot ROM. -/
  | wake
  /-- TIMETABLE_KEEPING_CHANGE (R604): After two dark inner cycles the firmware enters mode 1, or leaves it when a level rises. -/
  | timetableKeepingChange
  /-- PLL_LOCK (R602): A started PLL locks and the waiting block begins to act. -/
  | pllLock (e : Bool)
  /-- GPIO_EDGE (R623): A selected GPIO edge sets its flag and pulses its interrupt source. -/
  | gpioEdge (n : Nat) (level : Option Bool)
  /-- GPIO_PULSE_END (R623): A comparator-driven GPIO returns low 10 µs after its last firing. -/
  | gpioPulseEnd (n : Nat)
  /-- DIN_EDGE (R624): A DIN input holds a new level for its filter time and changes its filtered state. -/
  | dinEdge (k : Nat) (level : Bool) (held : Nat)
  /-- CONTACTOR_TRIP (R625): Overcurrent for 20 µs turns a contactor driver off and sets its trip bit. -/
  | contactorTrip (n : Nat)
  /-- CONTACTOR_OPEN_LOAD (R625): A driver on with under 10 mA for 100 ms sets its open-load bit. -/
  | contactorOpenLoad (n : Nat)
  /-- TEMPERATURE_HIGH (R626): The module temperature rises through IOC_TEMP.hi and sets the temp flag. -/
  | temperatureHigh (t : Int)
  /-- REGISTER_READ (R50): A core reads a register with no read row of its own; RC fields return their state and clear, with same-clock hardware changes kept. -/
  | registerRead (o : Origin) (addr : Word) (gained : List (Nat × Nat))
  /-- CALENDAR_READ (R587): A read of BKD_SUB returns the subsecond and latches date and time of the same tick into the core's holding registers. -/
  | calendarRead (o : Origin)
  /-- METER_VALUE_READ (R312): A read of MTR_RD_LO returns the low word and latches the high word, fraction and validity of the selected quantity. -/
  | meterValueRead (o : Origin)
  /-- PSEUDO_CYCLE_END (R307): A feeder's pseudo-cycle ends after floor(fs/50) samples, its energy is counted as a no-voltage cycle and a pending close completes. -/
  | pseudoCycleEnd (f : Nat) (c : CycleObs)
  /-- CALENDAR_SHIFT_END (R589): A negative shift's hold of the subsecond count ends and shift_busy clears. -/
  | calendarShiftEnd
  /-- BACKUP_DOMAIN_LOSS (R584): VAON falls below 1.6 V and the backup domain, its counters, calendar and helper mask are lost. -/
  | backupDomainLoss
  /-- ENTROPY_HEALTH_PASS (R499): A later entropy health test passes and ops 0x09, 0x0A, 0x0B and 0x0C stop ending with result 6. -/
  | entropyHealthPass
  /-- TEST_TRANSMISSION_END (R431): A factory test transmission's seconds run out and RFE returns to its previous mode and the end is recorded. -/
  | testTransmissionEnd
  /-- CONTACTOR_CURRENT_RETURN (R625): Current returns through a driver flagged open-load and its ctc_open bit clears. -/
  | contactorCurrentReturn (n : Nat)
  /-- DAYLIGHT_SAVING_TRANSITION (R275): At the start or end instant of the daylight-saving rule dst changes, wall times are reconverted and fallback commands with the new toff are sent. -/
  | daylightSavingTransition
  /-- LEAP_SECOND (R69): At an announced leap second the resident firmware changes Δ without stepping NTB and the node toff follows. -/
  | leapSecond (insert : Bool)
  deriving DecidableEq, Repr

end Sys2Proof
end

