-- ==== Sys2Proof/Machine/Bytes.lean ====
section
/-!
DEFINITION. Numbers and octet strings: bit fields, byte order (R6), signs, saturation, and the CRCs of the spec.
-/

namespace Sys2Proof.Machine

/-! ### Numbers and octets -/

/-- Bits [lsb + width - 1 : lsb] of `n`. -/
def bits (n lsb width : Nat) : Nat := n / 2 ^ lsb % 2 ^ width

/-- Whether bit `i` of `n` is 1. -/
def bit (n i : Nat) : Bool := n / 2 ^ i % 2 == 1

/-- 1 for true, 0 for false. -/
def b2n (b : Bool) : Nat := if b then 1 else 0

/-- `n` with bits [lsb + width - 1 : lsb] replaced by `v`. -/
def putBits (n lsb width v : Nat) : Nat :=
  n % 2 ^ lsb + 2 ^ lsb * (v % 2 ^ width) + 2 ^ (lsb + width) * (n / 2 ^ (lsb + width))

/-- `k` octets of `n`, least significant first (R6). -/
def leBytes : Nat → Nat → List Byte
  | 0, _ => []
  | k + 1, n => BitVec.ofNat 8 n :: leBytes k (n / 256)

/-- The number whose octets, least significant first, are `bs`. -/
def leNat : List Byte → Nat
  | [] => 0
  | b :: t => b.toNat + 256 * leNat t

/-- `k` octets of `n`, most significant first. -/
def beBytes (k n : Nat) : List Byte := (leBytes k n).reverse

/-- The number whose octets, most significant first, are `bs`. -/
def beNat (bs : List Byte) : Nat := bs.foldl (fun a b => 256 * a + b.toNat) 0

/-- `n` octets of `bs` from octet `i`, zeros where it ends. -/
def octets (bs : List Byte) (i n : Nat) : List Byte :=
  let t := (bs.drop i).take n
  t ++ List.replicate (n - t.length) 0

/-- The little-endian number in `n` octets of `bs` from octet `i`. -/
def leAt (bs : List Byte) (i n : Nat) : Nat := leNat (octets bs i n)

/-- `bs` cut or padded with zeros to `n` octets. -/
def padTo (n : Nat) (bs : List Byte) : List Byte := octets bs 0 n

/-- The two's complement value of the low `w` bits of `n`. -/
def signed (w n : Nat) : Int := if n % 2 ^ w < 2 ^ (w - 1) then (n % 2 ^ w : Nat) else (n % 2 ^ w : Nat) - (2 ^ w : Nat)

/-- The two's complement code of `v` in `w` bits. -/
def unsigned (w : Nat) (v : Int) : Nat := (v % (2 ^ w : Nat)).toNat

/-- `v` held within `lo` and `hi`. -/
def clampInt (lo hi v : Int) : Int := if v < lo then lo else if hi < v then hi else v

/-- `a + b` in a counter of `w` bits that saturates. -/
def satAdd (w a b : Nat) : Nat := min (a + b) (2 ^ w - 1)

/-- One step of the reflected CRC with polynomial `p`. -/
def crcBits (p : Nat) : Nat → Nat → Nat
  | 0, c => c
  | k + 1, c => crcBits p k (if c % 2 = 1 then (c / 2) ^^^ p else c / 2)

/-- CRC-32 (IEEE 802.3) of the octets `bs`. -/
def crc32 (bs : List Byte) : Nat :=
  (bs.foldl (fun c b => crcBits 0xEDB88320 8 (c ^^^ b.toNat)) 0xFFFFFFFF) ^^^ 0xFFFFFFFF

/-- The 16-bit CRC of PPP and X.25 (reflected polynomial 0x8408) of the octets `bs`. -/
def crc16 (bs : List Byte) : Nat :=
  (bs.foldl (fun c b => crcBits 0x8408 8 (c ^^^ b.toNat)) 0xFFFF) ^^^ 0xFFFF

/-- One step of the CRC of R341, most significant bit first. -/
def crcMsb : Nat → Nat → Nat
  | 0, c => c
  | k + 1, c => crcMsb k (if 0x8000 ≤ c then (2 * c % 65536) ^^^ 0x1021 else 2 * c)

/-- CRC-16 with polynomial 0x1021, initial value 0xFFFF, not reflected (R341). -/
def crcCcitt (bs : List Byte) : Nat := bs.foldl (fun c b => crcMsb 8 (c ^^^ (256 * b.toNat))) 0xFFFF

/-- Replaces element `i` of a list. -/
def setAt {α : Type} (l : List α) (i : Nat) (v : α) : List α := l.set i v

/-- Element `i` of a list of numbers, 0 beyond its end. -/
def natAt (l : List Nat) (i : Nat) : Nat := l.getD i 0

/-- Applies `f` to `s` for 0, 1, …, n - 1 in order. -/
def upTo {σ : Type} (n : Nat) (f : Nat → σ → σ) (s : σ) : σ := (List.range n).foldl (fun a i => f i a) s

end Sys2Proof.Machine
end

