-- ==== Sys2Proof/Machine/Catalog.lean ====
section
/-!
DEFINITION. The object catalogue of chapter 16 (R415-R431) with the loading objects of chapter 21: every object the
module serves, with each element's type, access kind, catalogue default, range, effect timing and the minor from which
it is served.
-/

namespace Sys2Proof.Machine

/-- The value types of R392. -/
inductive OdType where
  | bool | u8 | u16 | u32 | u64 | i8 | i16 | i32 | i64 | fix | time | date | enum
  | str (n : Nat)
  | oct (n : Nat)
  deriving DecidableEq, Repr

/-- The access kinds of R393. -/
inductive OdAccess where
  | ro | rw | rwp | wo | cmd | fac | ucal
  deriving DecidableEq, Repr

/-- The effect timing of an element (R397, R416, R427): none, I, L, S at a register's boundary, S at the restart, at the
activation, at the hour. -/
inductive OdWhen where
  | none | imm | lock | shadow | restart | activation | hour
  deriving DecidableEq, Repr

/-- One element. A number is accepted from `lo` to `hi` or where `extra` lists it. -/
structure OdElem where
  ty : OdType
  acc : OdAccess
  dflt : List Byte
  lo : Int
  hi : Int
  extra : List Int
  timing : OdWhen
  minor : Nat
  deriving DecidableEq, Repr

/-- One catalogue row: an object, or `count` objects `stride` apart. -/
structure OdObject where
  area : Nat
  base : Nat
  stride : Nat
  count : Nat
  elems : List OdElem
  deriving DecidableEq, Repr

/-- The octets of a number type, 0 for the types that are no numbers. -/
def odWidth : OdType → Nat
  | .bool => 1 | .u8 => 1 | .u16 => 2 | .u32 => 4 | .u64 => 8 | .i8 => 1 | .i16 => 2 | .i32 => 4 | .i64 => 8
  | .fix => 4 | .enum => 1 | _ => 0

/-- The encoding of a number (R392). -/
def odEncode (t : OdType) (v : Int) : List Byte := leBytes (odWidth t) (unsigned (8 * odWidth t) v)

/-- The empty value of a type: zeros, or an empty string. -/
def odZero : OdType → List Byte
  | .time => List.replicate 12 0
  | .date => [0, 0, 0, 0]
  | .str _ => [0]
  | .oct _ => [0, 0]
  | t => odEncode t 0

/-- A number element. -/
def oN (t : OdType) (a : OdAccess) (d lo hi : Int) (w : OdWhen) (extra : List Int := []) (minor : Nat := 0) : OdElem :=
  ⟨t, a, odEncode t d, lo, hi, extra, w, minor⟩

/-- An element read only. -/
def oR (t : OdType) (minor : Nat := 0) : OdElem := ⟨t, .ro, odZero t, 0, 0, [], .none, minor⟩

/-- A command whose argument is of type `t`. -/
def oC (t : OdType) (minor : Nat := 0) : OdElem := ⟨t, .cmd, odZero t, 0, (2 : Int) ^ 64, [], .none, minor⟩

/-- A BOOL element. -/
def oB (a : OdAccess) (d : Int) (w : OdWhen) : OdElem := oN .bool a d 0 1 w

/-- An element of any other value, with its default's encoding. -/
def oV (t : OdType) (a : OdAccess) (d : List Byte) (w : OdWhen) (minor : Nat := 0) : OdElem :=
  ⟨t, a, d, 0, 0, [], w, minor⟩

def Catalog.areas0to2 : List OdObject := [
  ⟨0, 0x0001, 1, 1, [oR .u16]⟩,
  ⟨0, 0x0002, 1, 1, [oR .u8]⟩,
  ⟨0, 0x0003, 1, 1, List.replicate 4 (oR .u32)⟩,
  ⟨0, 0x0004, 1, 1, [oR (.str 32)]⟩,
  ⟨0, 0x0005, 1, 1, [oR .u8, oR .u8]⟩,
  ⟨0, 0x0006, 1, 1, List.replicate 4 (oR .u8)⟩,
  ⟨0, 0x0007, 1, 1, [oR (.str 16)]⟩,
  ⟨0, 0x0008, 1, 1, [oR (.str 32)]⟩,
  ⟨0, 0x0010, 1, 1, [oR .u8, oR .u16, oR .u8, oR .u8]⟩,
  ⟨0, 0x0020, 1, 1, [oV (.str 64) .rwp [0] .imm]⟩,
  ⟨1, 0x0001, 1, 1, [oR .u8]⟩,
  ⟨1, 0x0002, 1, 1, [oR .u64]⟩,
  ⟨1, 0x0003, 1, 1, [oR .u32]⟩,
  ⟨1, 0x0004, 1, 1, [oR .u16, oR .u16, oR .i16]⟩,
  ⟨1, 0x0010, 1, 1, [oN .enum .rwp 0 0 5 .imm, oN .enum .rwp 1 0 2 .imm]⟩,
  ⟨1, 0x0011, 1, 1, [oN .enum .rwp 1 0 1 .imm]⟩,
  ⟨1, 0x0020, 1, 1, [oB .rwp 0 .restart]⟩,
  ⟨1, 0x0021, 1, 1, [oN .u32 .rwp 0x7309 0 0x3FFFF .restart]⟩,
  ⟨1, 0x0022, 1, 1, [oN .u32 .rwp 0 0 0x3FFFF .restart]⟩,
  ⟨1, 0x0023, 1, 1, [oN .u8 .rwp 16 0 16 .restart, oN .u8 .rwp 16 0 16 .restart, oB .rwp 1 .restart]⟩,
  ⟨1, 0x0024, 1, 1, [oN .u32 .rwp 0x10100000 0 0xFFFFFFFF .restart]⟩,
  ⟨1, 0x0025, 1, 1, [oN .u32 .rwp 0x04000400 0 0xFFFFFFFF .restart]⟩,
  ⟨1, 0x0026, 1, 1, [oN .u32 .rwp 0xFF00FF00 0 0xFFFFFFFF .restart]⟩,
  ⟨1, 0x0027, 1, 1, [oB .rwp 0 .restart, oN .u16 .rwp 50 1 4095 .restart]⟩,
  ⟨1, 0x0030, 1, 1, List.replicate 4 (oB .rwp 0 .imm)⟩,
  ⟨1, 0x0031, 1, 1, [oR .u8]⟩,
  ⟨1, 0x0E00, 1, 1, [oC .u32]⟩,
  ⟨1, 0x0F00, 1, 1, [oC .u32]⟩,
  ⟨2, 0x0001, 1, 1, [oR .time]⟩,
  ⟨2, 0x0002, 1, 1, [oR .u8, oR .bool, oR .u8]⟩,
  ⟨2, 0x0003, 1, 1, [oN .i32 .rwp 0 (-86400) 86400 .imm]⟩,
  ⟨2, 0x0004, 1, 1, [oC .u32]⟩,
  ⟨2, 0x0005, 1, 1, [oN .u32 .rwp 128000 1000 10000000 .imm]⟩,
  ⟨2, 0x0006, 1, 1, [oN .u16 .rwp 60 10 600 .imm]⟩,
  ⟨2, 0x0010, 1, 1, [oN .i16 .rwp 0 (-720) 840 .imm]⟩,
  ⟨2, 0x0011, 1, 1, [oN .u8 .rwp 1 1 12 .imm, oN .u8 .rwp 1 1 5 .imm, oN .u8 .rwp 1 1 7 .imm, oN .u16 .rwp 0 0 1439 .imm,
    oN .u8 .rwp 1 1 12 .imm, oN .u8 .rwp 1 1 5 .imm, oN .u8 .rwp 1 1 7 .imm, oN .u16 .rwp 0 0 1439 .imm]⟩,
  ⟨2, 0x0012, 1, 1, [oN .u8 .rwp 60 0 120 .imm]⟩,
  ⟨2, 0x0013, 1, 1, [oR .time, oR .i16]⟩,
  ⟨2, 0x0020, 1, 1, [oR .date, oR .u32, oR .bool]⟩]

def Catalog.area3 : List OdObject := [
  ⟨3, 0x0001, 1, 1, [oN .enum .rwp 0 0 2 .activation]⟩,
  ⟨3, 0x0002, 1, 1, [oN .enum .rwp 1 0 1 .activation, oB .rwp 0 .activation]⟩,
  ⟨3, 0x0003, 1, 1, [oN .u8 .rwp 8 4 15 .activation]⟩,
  ⟨3, 0x0004, 1, 1, [oN .u8 .rwp 100 10 200 .shadow]⟩,
  ⟨3, 0x0005, 1, 1, [oN .u16 .rwp 8680 4700 9600 .restart]⟩,
  ⟨3, 0x0006, 1, 1, [oR .u32, oR .u32]⟩,
  ⟨3, 0x0007, 1, 1, List.replicate 4 (oR .u8)⟩,
  ⟨3, 0x0008, 1, 1, [oN .u8 .rwp 48 0 68 .shadow, oN .u8 .rwp 48 0 68 .shadow]⟩,
  ⟨3, 0x0009, 1, 1, [oN .u8 .rwp 1 0 4 .shadow, oN .u8 .rwp 2 0 4 .shadow, oN .u8 .rwp 15 0 15 .shadow]⟩,
  ⟨3, 0x000A, 1, 1, [oN .u8 .rwp 3 1 15 .imm]⟩,
  ⟨3, 0x000B, 1, 1, [oB .rwp 1 .imm, oB .rwp 1 .imm]⟩,
  ⟨3, 0x000C, 1, 1, [oN .u8 .rwp 6 2 60 .imm, oN .u16 .rwp 256 0 65535 .imm]⟩,
  ⟨3, 0x000D, 1, 1, [oR (.oct 256)]⟩,
  ⟨3, 0x0010, 1, 1, [oR .u8, oR .u8, oR .u16, oR .u8]⟩,
  ⟨3, 0x0011, 1, 1, List.replicate 16 (oR .u32)⟩]

/-- The elements 16c + 16 to 16c + 31 of a node's channel c (R420, R421). -/
def Catalog.nodeChannel : List OdElem := [
  oN .u16 .rwp 0 0 1000 .imm, oN .u16 .rwp 1000 0 1000 .imm, oN .u16 .rwp 0 0 10000 .imm, oN .u16 .rwp 0 0 10000 .imm,
  oB .rwp 1 .imm, oN .u8 .rwp 0xFF 0 3 .imm [0xFF], oN .u8 .rwp 0xFF 0 11 .imm [0xFF], oN .enum .rwp 0 0 6 .imm,
  oR .u8, oN .u16 .rwp 0 0 1000 .imm, oN .u16 .rwp 0 0 65535 .imm,
  oV (.oct 34) .rwp [6, 0, 0xE8, 0x03, 0, 0, 0xE8, 0x03] .imm,
  oR .enum, oR .u16, oR .u16, oR .u32]

/-- Object 4:nnnn. -/
def Catalog.node : List OdElem := [
  oR (.oct 8), oR .u8, oR .u8, oR .enum, oR .u16, oR .u8, oR .time, oR .u8,
  oN .u16 .rwp 0 0xFF80 0xFFFE .imm [0], oN .u16 .rwp 0 0xFF80 0xFFFE .imm [0], oN .u16 .rwp 0 0xFF80 0xFFFE .imm [0],
  oN .u8 .rwp 0 0 3 .imm, oN .u8 .rwp 0 0 3 .imm, oN .u8 .rwp 0 0 3 .imm, oR .enum,
  oN .u16 .rwp 0 0xFF00 0xFFFE .imm [0] 1]
  ++ Catalog.nodeChannel ++ Catalog.nodeChannel ++ Catalog.nodeChannel ++ Catalog.nodeChannel
  ++ [oR .u64, oC .u8, oC .u8, oC .u8, oC .u32, oC .u8, oR (.oct 64)]

def Catalog.areas4to6 : List OdObject := [
  ⟨4, 0x0001, 1, 8191, Catalog.node⟩,
  ⟨5, 0x0001, 1, 1, [oB .rw 0 .shadow]⟩,
  ⟨5, 0x0002, 1, 1, [oR .u8, oR .u8]⟩,
  ⟨5, 0x0003, 1, 1, [oN .u8 .rwp 12 1 15 .imm]⟩,
  ⟨5, 0x0004, 1, 1, [oR .time, oR (.str 32), oR .u8, oR .enum]⟩,
  ⟨5, 0x0010, 1, 1, [oC (.oct 4) 3]⟩,
  ⟨5, 0x0011, 1, 1, [oR .enum 3, oR .u8 3, oR .u8 3] ++ List.replicate 64 (oR .fix 3)⟩,
  ⟨5, 0x1000, 1, 128, [oR .bool, oR .u8, oR .u8, oR .u8, oR .u8, oR .u8, oR .u16, oR .u32, oR .bool, oR .u8, oR (.oct 64),
    oR (.oct 128)]⟩,
  ⟨6, 0x0001, 1, 1, [oN .i32 .rwp 0 (-90000000) 90000000 .imm]⟩,
  ⟨6, 0x0002, 1, 1, [oN .i32 .rwp 0 (-180000000) 180000000 .imm]⟩,
  ⟨6, 0x0003, 1, 1, [oN .i16 .rwp (-83) (-1800) 500 .imm]⟩,
  ⟨6, 0x0004, 1, 1, [oN .u8 .rwp 60 5 240 .imm]⟩,
  ⟨6, 0x0005, 1, 1, [oR .time, oR .time]⟩,
  ⟨6, 0x0010, 1, 2, [oN .i16 .ucal 0 (-32768) 32767 .imm, oN .u16 .ucal 2 0 65535 .imm, oR .u16, oR .bool]⟩,
  ⟨6, 0x0100, 1, 16, List.replicate 7 (oN .u8 .rwp 0 0 15 .imm) ++ [oN .u8 .rwp 0xFF 0 7 .imm [0xFF]]⟩,
  ⟨6, 0x0200, 1, 16, oN .u8 .rwp 0 0 16 .imm :: List.replicate 16 (oV (.oct 7) .rwp [7, 0, 0, 0, 0, 0, 0, 0, 0] .imm)⟩,
  ⟨6, 0x0400, 1, 128, [oN .u8 .rwp 0xFF 0 15 .imm [0xFF], oR .u8, oR .enum]⟩,
  ⟨6, 0x0500, 1, 1, [oC (.oct 6)]⟩,
  ⟨6, 0x0501, 1, 1, [oC (.oct 5)]⟩,
  ⟨6, 0x0502, 1, 1, [oC (.oct 6)]⟩,
  ⟨6, 0x0503, 1, 1, [oC (.oct 4)]⟩,
  ⟨6, 0x0510, 1, 1, [oR (.oct 3072)]⟩,
  ⟨6, 0x0600, 1, 64, [oV .time .rwp (List.replicate 12 0) .imm, oV .time .rwp (List.replicate 12 0) .imm,
    oN .u16 .rwp 0 0 65535 .imm, oN .enum .rwp 0 0 1 .imm, oN .u8 .rwp 0 0 15 .imm, oB .rwp 0 .imm]⟩,
  ⟨6, 0x0700, 1, 8, [oN .u16 .rwp 100 0 65535 .imm, oN .u16 .rwp 300 0 65535 .imm, oN .u16 .rwp 600 0 65535 .imm,
    oR .u8, oR .u16]⟩,
  ⟨6, 0x0800, 1, 64, [oN .u16 .rwp 0 0 0 .imm ((List.range 8).map (fun (k : Nat) => (0x100 + k : Int)) ++
    (List.range 8).map (fun (k : Nat) => (0x110 + k : Int)) ++ [0x200, 0x201] ++ (List.range 128).map (fun (k : Nat) => (0x300 + k : Int))),
    oN .u8 .rwp 0 0 127 .imm, oN .u8 .rwp 0 0 63 .imm, oN .enum .rwp 1 1 3 .imm, oN .i16 .rwp 16 (-32768) 32767 .imm,
    oN .u8 .rwp 0xFF 0 7 .imm [0xFF]]⟩,
  ⟨6, 0x0900, 1, 8, [oN .enum .rwp 0 0 3 .imm, oN .enum .rwp 0 0 1 .imm, oN .u8 .rwp 20 1 255 .imm,
    oN .u8 .rwp 0 0 127 .imm, oN .u16 .rwp 1000 0 1000 .imm]⟩]

/-- The elements of 6:1000 + 8z + s: 32 per target set. -/
def Catalog.targets : List OdElem := List.replicate 32 (oN .i16 .rwp (-32768) (-32768) 32767 .imm)

def Catalog.area7 : List OdObject := [
  ⟨7, 0x0001, 1, 1, [oN .u8 .rwp 8 2 16 .shadow [] 2]⟩,
  ⟨7, 0x0002, 1, 1, [oR .u16 2]⟩,
  ⟨7, 0x0003, 1, 1, [oC (.oct 3) 2]⟩,
  ⟨7, 0x0004, 1, 1, [oR .enum 2, oR .u8 2]⟩,
  ⟨7, 0x0005, 1, 1, [oC .u32]⟩,
  ⟨7, 0x0006, 1, 1, [oN .u8 .rwp 15 1 6 .hour [10, 12, 15, 20, 30, 60]]⟩,
  ⟨7, 0x0007, 1, 1, [oB .rwp 1 .imm]⟩,
  ⟨7, 0x0008, 1, 1, [oN .u8 .rwp 20 10 40 .lock, oN .u8 .rwp 20 10 40 .lock, oN .enum .rwp 2 0 3 .lock]⟩,
  ⟨7, 0x0009, 1, 1, [oR .enum, oR .u32]⟩,
  ⟨7, 0x0100, 1, 4, [oB .rwp 0 .lock, oB .rwp 0 .lock, oN .u8 .rwp 0 0 15 .lock,
    oN .bool .rwp 0 0 1 .shadow [] 2, oN .u16 .rwp 0 0 65535 .shadow [] 2, oN .u16 .rwp 0 0 10000 .shadow [] 2,
    oN .u32 .rwp 50 1 4000000 .shadow [] 2, oN .u16 .rwp 10 1 1000 .shadow [] 2, oN .u8 .rwp 95 50 100 .shadow [] 2,
    oR .u64, oR .u64, oR .u64, oR .u64, oR .i64, oR .u32, oR .u32, oR (.oct 48) 2, oR (.oct 64)]⟩,
  ⟨7, 0x0200, 1, 12, [oN .u8 .rwp 0 0 15 .lock, oN .u8 .rwp 0 0 15 .lock, oN .u8 .rwp 0 0 3 .lock, oB .rwp 0 .lock,
    oN .u32 .ucal 0x40000000 0x20000000 0x7FFFFFFF .shadow, oN .u32 .ucal 0x40000000 0x20000000 0x7FFFFFFF .shadow,
    oN .i16 .ucal 0 (-32768) 32767 .shadow, oN .u16 .rwp 10 0 65535 .shadow, oN .u16 .rwp 0 0 65535 .shadow,
    oR .u64, oR .u64, oR .u64, oR .u64, oR .u32, oR .u32, oR .i64, oR .i32]⟩,
  ⟨7, 0x0300, 1, 16, [oB .rwp 0 .lock, oN .u8 .rwp 0 0 1 .lock, oN .i32 .ucal 0 (-2147483648) 2147483647 .shadow,
    oN .u32 .ucal 0x40000000 0x20000000 0x7FFFFFFF .shadow, oN .u16 .ucal 0 0 65535 .shadow,
    oN .u32 .ucal 0 0 0xFFFFFFFF .shadow, oR .bool, oR .bool]⟩]

def Catalog.area8 : List OdObject := [
  ⟨8, 0x0001, 1, 1, [oN .u8 .rwp 4 1 0 .lock [1, 2, 4, 8, 16, 32, 64]]⟩,
  ⟨8, 0x0100, 1, 4, [oN .enum .rwp 0 0 2 .lock, oN .u8 .rwp 1 1 128 .lock, oN .u8 .rwp 0 0 8 .lock,
    oN .u8 .rwp 0 0 15 .lock, oN .u8 .rwp 4 1 4 .lock, oN .u16 .rwp 625 100 5000 .lock, oN .u16 .rwp 25 0 4095 .lock,
    oN .u16 .rwp 25 0 4095 .lock, oN .i8 .rwp 70 (-128) 127 .shadow, oN .u8 .rwp 0 0 255 .shadow,
    oN .u16 .rwp 500 0 1000 .shadow, oN .u8 .rwp 0 0 255 .shadow, oN .u16 .rwp 0xFFFF 0 65535 .shadow,
    oB .rw 0 .imm, oB .rwp 0 .imm, oR .bool]⟩,
  ⟨8, 0x0200, 1, 32, [oN .i16 .rwp 250 (-32768) 32767 .shadow [] 4, oN .i16 .rwp 0 (-32768) 32767 .shadow [] 4,
    oN .i16 .rwp 0 (-32768) 32767 .shadow [] 4, oN .u8 .rwp 0 0 127 .shadow [] 4, oN .u8 .rwp 0 0 1 .shadow [] 4,
    oN .u8 .rwp 0 0 255 .shadow [] 4, oN .u16 .rwp 0 0 65535 .shadow [] 4, oR .u16 4]⟩,
  ⟨8, 0x0300, 1, 16, [oV (.oct 4096) .rwp (0 :: 0x10 :: List.replicate 4096 0) .imm]⟩,
  ⟨8, 0x1000, 1, 512, [oN .u8 .rwp 0x16 0 0 .lock [0x16, 0x04], oR .u8, oR .u16, oR .i16, oR .u16, oR .u16, oR .u16,
    oR .u16, oR .bool]⟩,
  ⟨8, 0x2000, 1, 8192, [oB .rwp 0 .shadow, oN .u16 .rwp 0 0 1000 .shadow, oN .u16 .rwp 1000 0 1000 .shadow,
    oN .u16 .rwp 0 0 65535 .shadow, oN .u16 .rwp 0 0 65535 .shadow, oB .rwp 1 .shadow, oN .enum .rwp 0 0 6 .shadow,
    oN .enum .rwp 0 0 1 .shadow, oN .u8 .rwp 0 0 7 .shadow, oN .u8 .rwp 0xFF 0 3 .imm [0xFF],
    oN .u8 .rwp 0xFF 0 11 .imm [0xFF], oR .u8, oR .u16]⟩]

def Catalog.areas9toB : List OdObject := [
  ⟨9, 0x0001, 1, 1, [oN .u16 .rwp 0xFFFF 0 1023 .restart [0xFFFF]]⟩,
  ⟨9, 0x0002, 1, 1, [oN .enum .rwp 0 0 2 .restart]⟩,
  ⟨9, 0x0003, 1, 1, [oB .rwp 0 .restart, oN .u8 .rwp 0 0 1 .restart, oN .u8 .rwp 0 0 3 .restart, oB .rwp 0 .restart,
    oN .u16 .rwp 0 0 1023 .restart]⟩,
  ⟨9, 0x0004, 1, 1, [oN .u8 .rwp 10 0 127 .imm, oN .u8 .rwp 40 0 255 .imm, oN .u8 .rwp 40 0 255 .imm]⟩,
  ⟨9, 0x0005, 1, 1, [oR .enum, oR .u32, oR .bool, oR .bool, oR .bool, oR .u8]⟩,
  ⟨9, 0x0006, 1, 1, [oC .u32]⟩,
  ⟨9, 0x0007, 1, 1, [oR .u8, oR .bool]⟩,
  ⟨10, 0x0001, 1, 1, [oN .u8 .rwp 1 1 127 .restart]⟩,
  ⟨10, 0x0002, 1, 1, [oN .enum .rwp 2 0 3 .restart, oN .enum .rwp 2 0 3 .restart]⟩,
  ⟨10, 0x0010, 1, 1, [oN .enum .rwp 0 0 2 .restart, oV (.oct 16) .rwp [0, 0] .restart, oN .u8 .rwp 0 0 128 .restart,
    oV (.oct 16) .rwp [0, 0] .restart]⟩,
  ⟨10, 0x0011, 1, 1, [oN .enum .rwp 2 0 2 .restart, oV (.oct 4) .rwp [0, 0] .restart, oN .u8 .rwp 0 0 32 .restart,
    oV (.oct 4) .rwp [0, 0] .restart]⟩,
  ⟨10, 0x0012, 1, 1, [oV (.str 64) .rwp [0] .imm, oV (.str 64) .rwp [0] .imm]⟩,
  ⟨10, 0x0013, 1, 1, [oV (.str 64) .rwp [0] .imm, oV (.str 64) .rwp [0] .imm]⟩,
  ⟨10, 0x0014, 1, 1, [oN .u32 .rwp 115200 9600 4000000 .restart, oB .rwp 0 .restart]⟩,
  ⟨10, 0x0020, 1, 1, List.replicate 3 (oR .bool)⟩,
  ⟨11, 0x0001, 1, 1, [oR .u8, oR .time]⟩,
  ⟨11, 0x0002, 1, 1, [oC .u32]⟩,
  ⟨11, 0x0003, 1, 1, [oR .enum]⟩,
  ⟨11, 0x0004, 1, 1, [oC (.oct 512)]⟩,
  ⟨11, 0x0010, 1, 1, [oR (.oct 1024)]⟩,
  ⟨11, 0x2000, 1, 4096, [oV (.oct 8) .rwp [8, 0, 0, 0, 0, 0, 0, 0, 0, 0] .imm, oV (.oct 16) .wo [0, 0] .imm, oR .enum]⟩]

def Catalog.areasCtoF : List OdObject := [
  ⟨12, 0x0001, 1, 1, [oR .u64, oR .u64, oR .u32, oR .u32]⟩,
  ⟨12, 0x0002, 1, 1, [oN .u64 .rw 0 0 ((2 : Int) ^ 64) .imm, oR (.oct 4096)]⟩,
  ⟨12, 0x0003, 1, 1, [oR .u32]⟩,
  ⟨13, 0x0001, 1, 1, [oR .enum, oR .enum, oR .u8]⟩,
  ⟨13, 0x0002, 1, 1, [oC .time]⟩,
  ⟨13, 0x0003, 1, 1, [oC .u32]⟩,
  ⟨13, 0x0004, 1, 1, [oR .time, oR .enum, oR .bool]⟩,
  ⟨13, 0x0005, 1, 2, [oC .u32]⟩,
  ⟨13, 0x0010, 1, 1, [oN .u8 .rwp 50 10 100 .imm [] 1]⟩,
  ⟨13, 0x0011, 1, 1, [oC (.oct 4) 1]⟩,
  ⟨13, 0x0012, 1, 1, [oR .u8 1, oR .u8 1, oR .u16 1, oR .u16 1, oR .u16 1]⟩,
  ⟨13, 0x0020, 1, 1, [oC (.oct 512)]⟩,
  ⟨13, 0x0021, 1, 1, [oC (.oct 65535)]⟩,
  ⟨13, 0x0022, 1, 1, [oC .u32]⟩,
  ⟨13, 0x0023, 1, 1, [oR .enum, oR .u32, oR .u8, oR .u8]⟩,
  ⟨13, 0x0024, 1, 1, [oC .u32]⟩,
  ⟨14, 0x0001, 1, 1, [oR .u16]⟩,
  ⟨14, 0x0002, 1, 1, [oR (.oct 1024)]⟩,
  ⟨14, 0x0003, 1, 1, [oC .u16]⟩,
  ⟨14, 0x0010, 1, 1, List.replicate 6 (oR .u8)⟩,
  ⟨14, 0x0011, 1, 1, List.replicate 4 (oR .bool)⟩,
  ⟨14, 0x0012, 1, 1, List.replicate 2 (oR .bool)⟩,
  ⟨14, 0x0013, 1, 1, [oR .u16]⟩,
  ⟨14, 0x0014, 1, 1, List.replicate 2 (oR .u16)⟩,
  ⟨14, 0x0015, 1, 1, List.replicate 2 (oR .bool)⟩,
  ⟨15, 0x0001, 1, 1, [oV (.str 16) .fac [0] .imm, oV .date .fac [0, 0, 0, 0] .imm]⟩,
  ⟨15, 0x0010, 1, 1, [oN .i8 .fac 0 (-128) 127 .imm, oN .i8 .fac 0 (-128) 127 .imm]⟩,
  ⟨15, 0x0011, 1, 1, [oN .i16 .fac (-236) (-32768) 32767 .imm, oN .i16 .fac (-236) (-32768) 32767 .imm]⟩,
  ⟨15, 0x0020, 1, 16, [oN .i32 .fac 0 (-2147483648) 2147483647 .shadow, oN .u32 .fac 0x40000000 0x20000000 0x7FFFFFFF .shadow,
    oN .u16 .fac 0 0 65535 .shadow, oN .u32 .fac 0 0 0xFFFFFFFF .shadow]⟩,
  ⟨15, 0x0040, 1, 12, [oN .u32 .fac 0x40000000 0x20000000 0x7FFFFFFF .shadow, oN .u32 .fac 0x40000000 0x20000000 0x7FFFFFFF .shadow,
    oN .i16 .fac 0 (-32768) 32767 .shadow]⟩,
  ⟨15, 0x0060, 1, 2, [oN .i16 .fac 0 (-32768) 32767 .imm, oN .u16 .fac 2 0 65535 .imm]⟩,
  ⟨15, 0x00F0, 1, 1, [oC (.oct 4)]⟩]

/-- The objects of an area. -/
def Catalog.rows (area : Nat) : List OdObject :=
  if area ≤ 2 then Catalog.areas0to2
  else if area = 3 then Catalog.area3
  else if area ≤ 6 then Catalog.areas4to6
  else if area = 7 then Catalog.area7
  else if area = 8 then Catalog.area8
  else if area ≤ 11 then Catalog.areas9toB
  else Catalog.areasCtoF

/-- The elements of an object, none where the catalogue has no such object. -/
def odObject (area obj : Nat) : Option (List OdElem) :=
  if area = 6 ∧ 0x1000 ≤ obj ∧ obj < 0x1400 then some Catalog.targets else
  match (Catalog.rows area).find? (fun r => r.area == area && r.base ≤ obj && obj < r.base + r.stride * r.count &&
      (obj - r.base) % r.stride == 0) with
  | some r => some r.elems
  | none => none

/-- An element of the catalogue. -/
def odElem (area obj el : Nat) : Option OdElem :=
  match odObject area obj with
  | some es => es[el]?
  | none => none

/-- The key of a dictionary address. -/
def odKey (area obj el : Nat) : Nat := area * 0x1000000 + obj * 0x100 + el

/-- The catalogue default of the element at a key. -/
def odDefault (k : Nat) : List Byte :=
  match odElem (k / 0x1000000) (k / 0x100 % 0x10000) (k % 0x100) with
  | some e => e.dflt
  | none => []

end Sys2Proof.Machine
end

