-- ==== Sys2Proof/Config.lean ====
section
/-!
DEFINITION. What one implementation or the outside world fixes and the spec leaves open: opaque constants with no body,
so that every claim holds for every value of them.
-/

namespace Sys2Proof

/-- The value number `n` of width `w` that the spec leaves open (random output, an unstated result). The steps that need
one apply it to the counter `State.free`. Log entry 4. -/
opaque Config.freeBits (w n : Nat) : BitVec w

/-- The factory-set words `SYS_UID0`-`SYS_UID3` of the unit identity (the table of chapter 02 gives the reset value
"factory"). Log entry 5. -/
opaque Config.uid (k : Nat) : Word

/-- The PUF secret S and the helper mask of enrolment number `k`; number 0 is the factory's (R484, R508). Log entry 7. -/
opaque Config.pufSecret (k : Nat) : BitVec 256
opaque Config.pufMask (k : Nat) : BitVec 256

/-- The public keys X ‖ Y of the two anchors in the boot ROM: 0 manufacturing (slot 8), 1 image (slot 9) (R486). Log entry 7. -/
opaque Config.anchor (k : Nat) : BitVec 512

/-- The module certificate made at enrolment `k`; number 0 is the factory's (R508). Log entry 7. -/
opaque Config.certificate (k : Nat) : List Byte

/-- Whether the module takes the upper neighbour of `num / den` where the spec does not state how an inexact quotient (or a
tie of a rounded one, or an inexact square root with `den` = 0) comes out. Log entry 8. -/
opaque Config.roundUp (num : Int) (den : Nat) : Bool

/-- The content of the boot ROM, octet by octet: the spec does not give it. Log entry 11. -/
opaque Config.rom (a : Nat) : Byte

/-- The frame, without FCS, in which the resident firmware puts a datagram: BHN port, IP protocol, peer address, source and
destination ports, payload. The IP and link headers follow standards the spec only names. Log entry 12. -/
opaque Config.ipFrame (port proto : Nat) (peer : List Byte) (sport dport : Nat) (payload : List Byte) : List Byte

/-- The DTLS record in which message number `n` of session `id` travels (R465). Log entry 12. -/
opaque Config.dtlsRecord (id n : Nat) (plain : List Byte) : List Byte

/-- What a regional profile's payload says (its layout is not given): word `k` of band set `b`, the channel list's two words
(`b` = 4) and the four beacon channels (`b` = 5). Log entry 13. -/
opaque Config.profileWord (payload : List Byte) (b k : Nat) : Word

/-- The file of the factory's resident firmware in bank A, header and payload (R528). Log entry 14. -/
opaque Config.factoryImage : List Byte

/-- The number of case `which` of a code list `what` whose numbers the spec does not give (log entry 10). -/
opaque Config.code (what which : Nat) : Nat

end Sys2Proof
end

