-- ==== Sys2Proof/Machine/Regs.lean ====
section
/-!
DEFINITION. The register plane as the register tables of the chapters of spec/ give it (R9, R10, R31, R42): every
register's address, and for every field its bits, its type (R49), its effect-timing code (R52) and its reset value.
`A.<register>` is a register's address, `R.<register>_<field>` the place of one field; a register that repeats takes
its index. `Regs.table` gives the types, codes and reset values of one block's registers.
-/

namespace Sys2Proof.Machine

/-- The register types of R10 and R49. -/
inductive FieldType where
  | rw | ro | wo | w1c | sc | rc | cmd
  deriving DecidableEq, Repr

/-- The boundaries at which a shadowed field takes effect (the When column of the register tables). -/
inductive Boundary where
  | path | timetable | innerCycle | demand | chainFrame | beacon | trim | plen
  deriving DecidableEq, Repr

/-- The effect-timing codes of R10 and R52: none (—), I, L, and S with its boundary. -/
inductive When where
  | none | imm | lock
  | shadow (b : Boundary)
  deriving DecidableEq, Repr

/-- The place of a field: its register's address, its lowest bit and its width. -/
structure Field where
  addr : Nat
  lsb : Nat
  width : Nat
  deriving DecidableEq, Repr

/-- One row of a register table. -/
structure FieldInfo where
  lsb : Nat
  width : Nat
  ty : FieldType
  timing : When
  reset : Nat
  deriving DecidableEq, Repr

/-- One register of a table, or a register repeated `count` times every `stride` octets (and that group `count2`
times every `stride2` octets). -/
structure RegInfo where
  base : Nat
  stride : Nat
  count : Nat
  stride2 : Nat
  count2 : Nat
  fields : List FieldInfo
  deriving DecidableEq, Repr


/-! ### SYS -/

def A.SYS_CTRL : Nat := 0x40000000
def R.SYS_CTRL_c1_run : Field := ⟨A.SYS_CTRL, 0, 1⟩
def R.SYS_CTRL_sysrst : Field := ⟨A.SYS_CTRL, 4, 1⟩
def R.SYS_CTRL_seal : Field := ⟨A.SYS_CTRL, 8, 1⟩

def A.SYS_STAT : Nat := 0x40000004
def R.SYS_STAT_plane_err : Field := ⟨A.SYS_STAT, 0, 1⟩
def R.SYS_STAT_ecc_ue : Field := ⟨A.SYS_STAT, 1, 1⟩
def R.SYS_STAT_wdt1_exp : Field := ⟨A.SYS_STAT, 2, 1⟩
def R.SYS_STAT_c1_busy : Field := ⟨A.SYS_STAT, 8, 1⟩
def R.SYS_STAT_sealed : Field := ⟨A.SYS_STAT, 9, 1⟩
def R.SYS_STAT_busy : Field := ⟨A.SYS_STAT, 29, 1⟩
def R.SYS_STAT_shd_pend : Field := ⟨A.SYS_STAT, 30, 1⟩
def R.SYS_STAT_cfg_err : Field := ⟨A.SYS_STAT, 31, 1⟩

def A.SYS_IEN : Nat := 0x40000008
def R.SYS_IEN_en : Field := ⟨A.SYS_IEN, 0, 5⟩
def R.SYS_IEN_cfg_err : Field := ⟨A.SYS_IEN, 31, 1⟩

def A.SYS_IFLG : Nat := 0x4000000C
def R.SYS_IFLG_plane_err : Field := ⟨A.SYS_IFLG, 0, 1⟩
def R.SYS_IFLG_ecc_ue : Field := ⟨A.SYS_IFLG, 1, 1⟩
def R.SYS_IFLG_wdt0_warn : Field := ⟨A.SYS_IFLG, 2, 1⟩
def R.SYS_IFLG_wdt1_exp : Field := ⟨A.SYS_IFLG, 3, 1⟩
def R.SYS_IFLG_ecc_ce : Field := ⟨A.SYS_IFLG, 4, 1⟩
def R.SYS_IFLG_cfg_err : Field := ⟨A.SYS_IFLG, 31, 1⟩

def A.SYS_ID : Nat := 0x40000010
def R.SYS_ID_type : Field := ⟨A.SYS_ID, 0, 16⟩
def R.SYS_ID_rev : Field := ⟨A.SYS_ID, 16, 8⟩
def R.SYS_ID_cores : Field := ⟨A.SYS_ID, 24, 4⟩

def A.SYS_UIDk (n : Nat) : Nat := 0x40000014 + 0x4 * n
def R.SYS_UIDk_uid (n : Nat) : Field := ⟨A.SYS_UIDk n, 0, 32⟩

def A.SYS_RSTCAUSE : Nat := 0x40000024
def R.SYS_RSTCAUSE_por : Field := ⟨A.SYS_RSTCAUSE, 0, 1⟩
def R.SYS_RSTCAUSE_bor : Field := ⟨A.SYS_RSTCAUSE, 1, 1⟩
def R.SYS_RSTCAUSE_wdt0 : Field := ⟨A.SYS_RSTCAUSE, 2, 1⟩
def R.SYS_RSTCAUSE_sysrst : Field := ⟨A.SYS_RSTCAUSE, 3, 1⟩
def R.SYS_RSTCAUSE_pin : Field := ⟨A.SYS_RSTCAUSE, 4, 1⟩

def A.SYS_CLK : Nat := 0x40000028
def R.SYS_CLK_c0_div : Field := ⟨A.SYS_CLK, 0, 4⟩
def R.SYS_CLK_c1_div : Field := ⟨A.SYS_CLK, 4, 4⟩
def R.SYS_CLK_c1_gate : Field := ⟨A.SYS_CLK, 8, 1⟩

def A.SYS_PWR : Nat := 0x4000002C
def R.SYS_PWR_mode : Field := ⟨A.SYS_PWR, 0, 3⟩

def A.SYS_C1BOOT : Nat := 0x40000030
def R.SYS_C1BOOT_addr : Field := ⟨A.SYS_C1BOOT, 2, 30⟩

def A.SYS_C1MEM : Nat := 0x40000034
def R.SYS_C1MEM_sram64 : Field := ⟨A.SYS_C1MEM, 0, 5⟩
def R.SYS_C1MEM_dram16 : Field := ⟨A.SYS_C1MEM, 16, 5⟩
def R.SYS_C1MEM_nv : Field := ⟨A.SYS_C1MEM, 24, 1⟩

def A.SYS_PLANE_WR : Nat := 0x40000040
def R.SYS_PLANE_WR_lock : Field := ⟨A.SYS_PLANE_WR, 0, 18⟩

def A.SYS_PLANE_RD : Nat := 0x40000044
def R.SYS_PLANE_RD_lock : Field := ⟨A.SYS_PLANE_RD, 0, 18⟩

def A.SYS_PLANE_LOG : Nat := 0x40000048
def R.SYS_PLANE_LOG_addr : Field := ⟨A.SYS_PLANE_LOG, 0, 32⟩

def A.SYS_PLANE_LOGI : Nat := 0x4000004C
def R.SYS_PLANE_LOGI_count : Field := ⟨A.SYS_PLANE_LOGI, 0, 16⟩
def R.SYS_PLANE_LOGI_wr : Field := ⟨A.SYS_PLANE_LOGI, 16, 1⟩
def R.SYS_PLANE_LOGI_mmode : Field := ⟨A.SYS_PLANE_LOGI, 17, 1⟩

def A.SYS_WDT0_KICK : Nat := 0x40000050
def R.SYS_WDT0_KICK_key : Field := ⟨A.SYS_WDT0_KICK, 0, 32⟩

def A.SYS_WDT1_CTRL : Nat := 0x40000054
def R.SYS_WDT1_CTRL_to : Field := ⟨A.SYS_WDT1_CTRL, 0, 12⟩
def R.SYS_WDT1_CTRL_en : Field := ⟨A.SYS_WDT1_CTRL, 16, 1⟩

def A.SYS_WDT1_KICK : Nat := 0x40000058
def R.SYS_WDT1_KICK_key : Field := ⟨A.SYS_WDT1_KICK, 0, 32⟩

def A.SYS_ECC : Nat := 0x40000060
def R.SYS_ECC_ce : Field := ⟨A.SYS_ECC, 0, 16⟩
def R.SYS_ECC_ue : Field := ⟨A.SYS_ECC, 16, 8⟩

def A.SYS_ECC_ADDR : Nat := 0x40000064
def R.SYS_ECC_ADDR_addr : Field := ⟨A.SYS_ECC_ADDR, 0, 32⟩

def Regs.sysPart0 : List RegInfo := [
  ⟨0x40000000, 0x4, 1, 0x4, 1, [⟨0, 1, .rw, .imm, 0⟩, ⟨4, 1, .cmd, .none, 0⟩, ⟨8, 1, .cmd, .none, 0⟩]⟩,
  ⟨0x40000004, 0x4, 1, 0x4, 1, [⟨0, 1, .w1c, .none, 0⟩, ⟨1, 1, .w1c, .none, 0⟩, ⟨2, 1, .w1c, .none, 0⟩, ⟨8, 1, .ro, .none,
    0⟩, ⟨9, 1, .ro, .none, 0⟩, ⟨29, 1, .ro, .none, 1⟩, ⟨30, 1, .ro, .none, 0⟩, ⟨31, 1, .w1c, .none, 0⟩]⟩,
  ⟨0x40000008, 0x4, 1, 0x4, 1, [⟨0, 5, .rw, .imm, 0⟩, ⟨31, 1, .rw, .imm, 0⟩]⟩,
  ⟨0x4000000C, 0x4, 1, 0x4, 1, [⟨0, 1, .w1c, .none, 0⟩, ⟨1, 1, .w1c, .none, 0⟩, ⟨2, 1, .w1c, .none, 0⟩, ⟨3, 1, .w1c, .none,
    0⟩, ⟨4, 1, .w1c, .none, 0⟩, ⟨31, 1, .w1c, .none, 0⟩]⟩,
  ⟨0x40000010, 0x4, 1, 0x4, 1, [⟨0, 16, .ro, .none, 0x7a41⟩, ⟨16, 8, .ro, .none, 2⟩, ⟨24, 4, .ro, .none, 2⟩]⟩,
  ⟨0x40000014, 0x4, 4, 0x4, 1, [⟨0, 32, .ro, .none, 0⟩]⟩,
  ⟨0x40000024, 0x4, 1, 0x4, 1, [⟨0, 1, .w1c, .none, 1⟩, ⟨1, 1, .w1c, .none, 0⟩, ⟨2, 1, .w1c, .none, 0⟩, ⟨3, 1, .w1c, .none,
    0⟩, ⟨4, 1, .w1c, .none, 0⟩]⟩,
  ⟨0x40000028, 0x4, 1, 0x4, 1, [⟨0, 4, .rw, .imm, 0⟩, ⟨4, 4, .rw, .imm, 0⟩, ⟨8, 1, .rw, .imm, 0⟩]⟩,
  ⟨0x4000002C, 0x4, 1, 0x4, 1, [⟨0, 3, .rw, .imm, 0⟩]⟩,
  ⟨0x40000030, 0x4, 1, 0x4, 1, [⟨2, 30, .rw, .lock, 0x4040000⟩]⟩,
  ⟨0x40000034, 0x4, 1, 0x4, 1, [⟨0, 5, .rw, .lock, 16⟩, ⟨16, 5, .rw, .lock, 16⟩, ⟨24, 1, .rw, .lock, 1⟩]⟩,
  ⟨0x40000040, 0x4, 1, 0x4, 1, [⟨0, 18, .rw, .imm, 0x7109⟩]⟩,
  ⟨0x40000044, 0x4, 1, 0x4, 1, [⟨0, 18, .rw, .imm, 0⟩]⟩,
  ⟨0x40000048, 0x4, 1, 0x4, 1, [⟨0, 32, .ro, .none, 0⟩]⟩,
  ⟨0x4000004C, 0x4, 1, 0x4, 1, [⟨0, 16, .ro, .none, 0⟩, ⟨16, 1, .ro, .none, 0⟩, ⟨17, 1, .ro, .none, 0⟩]⟩,
  ⟨0x40000050, 0x4, 1, 0x4, 1, [⟨0, 32, .wo, .none, 0⟩]⟩,
  ⟨0x40000054, 0x4, 1, 0x4, 1, [⟨0, 12, .rw, .lock, 50⟩, ⟨16, 1, .rw, .imm, 0⟩]⟩,
  ⟨0x40000058, 0x4, 1, 0x4, 1, [⟨0, 32, .wo, .none, 0⟩]⟩,
  ⟨0x40000060, 0x4, 1, 0x4, 1, [⟨0, 16, .rc, .none, 0⟩, ⟨16, 8, .rc, .none, 0⟩]⟩,
  ⟨0x40000064, 0x4, 1, 0x4, 1, [⟨0, 32, .ro, .none, 0⟩]⟩]

/-- The registers of SYS. -/
def Regs.sys : List RegInfo := Regs.sysPart0

/-! ### ICU -/

def A.ICU_CTRL : Nat := 0x40010000
def R.ICU_CTRL_sw : Field := ⟨A.ICU_CTRL, 0, 7⟩

def A.ICU_STAT : Nat := 0x40010004
def R.ICU_STAT_busy : Field := ⟨A.ICU_STAT, 29, 1⟩
def R.ICU_STAT_shd_pend : Field := ⟨A.ICU_STAT, 30, 1⟩
def R.ICU_STAT_cfg_err : Field := ⟨A.ICU_STAT, 31, 1⟩

def A.ICU_IEN : Nat := 0x40010008
def R.ICU_IEN_wake : Field := ⟨A.ICU_IEN, 0, 1⟩
def R.ICU_IEN_cfg_err : Field := ⟨A.ICU_IEN, 31, 1⟩

def A.ICU_IFLG : Nat := 0x4001000C
def R.ICU_IFLG_wake : Field := ⟨A.ICU_IFLG, 0, 1⟩
def R.ICU_IFLG_cfg_err : Field := ⟨A.ICU_IFLG, 31, 1⟩

def A.ICU_PENDk (n : Nat) : Nat := 0x40010010 + 0x4 * n
def R.ICU_PENDk_p (n : Nat) : Field := ⟨A.ICU_PENDk n, 0, 32⟩

def A.ICU_ACTk (n : Nat) : Nat := 0x40010030 + 0x4 * n
def R.ICU_ACTk_a (n : Nat) : Field := ⟨A.ICU_ACTk n, 0, 32⟩

def A.ICU_SRC_SEL : Nat := 0x40010050
def R.ICU_SRC_SEL_src : Field := ⟨A.ICU_SRC_SEL, 0, 8⟩

def A.ICU_SRC_INFO : Nat := 0x40010054
def R.ICU_SRC_INFO_state : Field := ⟨A.ICU_SRC_INFO, 0, 2⟩
def R.ICU_SRC_INFO_req : Field := ⟨A.ICU_SRC_INFO, 2, 1⟩
def R.ICU_SRC_INFO_cprio : Field := ⟨A.ICU_SRC_INFO, 8, 4⟩
def R.ICU_SRC_INFO_count : Field := ⟨A.ICU_SRC_INFO, 16, 8⟩

def A.ICU_WEN : Nat := 0x40010060
def R.ICU_WEN_en : Field := ⟨A.ICU_WEN, 0, 24⟩

def A.ICU_WPOL : Nat := 0x40010064
def R.ICU_WPOL_pol : Field := ⟨A.ICU_WPOL, 0, 24⟩

def A.ICU_WLAT : Nat := 0x40010068
def R.ICU_WLAT_lat : Field := ⟨A.ICU_WLAT, 0, 24⟩

def A.ICU_WCFG : Nat := 0x4001006C
def R.ICU_WCFG_flt : Field := ⟨A.ICU_WCFG, 0, 2⟩
def R.ICU_WCFG_compat : Field := ⟨A.ICU_WCFG, 4, 1⟩

def A.ICU_Tt_THR (n : Nat) : Nat := 0x40010080 + 0x10 * n
def R.ICU_Tt_THR_thr (n : Nat) : Field := ⟨A.ICU_Tt_THR n, 0, 4⟩
def R.ICU_Tt_THR_hold (n : Nat) : Field := ⟨A.ICU_Tt_THR n, 8, 1⟩

def A.ICU_Tt_CLAIM (n : Nat) : Nat := 0x40010084 + 0x10 * n
def R.ICU_Tt_CLAIM_id (n : Nat) : Field := ⟨A.ICU_Tt_CLAIM n, 0, 8⟩

def A.ICU_Tt_COMPL (n : Nat) : Nat := 0x40010088 + 0x10 * n
def R.ICU_Tt_COMPL_id (n : Nat) : Field := ⟨A.ICU_Tt_COMPL n, 0, 8⟩

def A.ICU_Tt_RUN (n : Nat) : Nat := 0x4001008C + 0x10 * n
def R.ICU_Tt_RUN_run (n : Nat) : Field := ⟨A.ICU_Tt_RUN n, 0, 4⟩
def R.ICU_Tt_RUN_depth (n : Nat) : Field := ⟨A.ICU_Tt_RUN n, 4, 4⟩

def A.ICU_PRIOn (n : Nat) : Nat := 0x40010200 + 0x4 * n
def R.ICU_PRIOn_prio (n : Nat) : Field := ⟨A.ICU_PRIOn n, 0, 4⟩
def R.ICU_PRIOn_tgt (n : Nat) : Field := ⟨A.ICU_PRIOn n, 4, 1⟩
def R.ICU_PRIOn_edge (n : Nat) : Field := ⟨A.ICU_PRIOn n, 5, 1⟩

def Regs.icuPart0 : List RegInfo := [
  ⟨0x40010000, 0x4, 1, 0x4, 1, [⟨0, 7, .cmd, .none, 0⟩]⟩,
  ⟨0x40010004, 0x4, 1, 0x4, 1, [⟨29, 1, .ro, .none, 1⟩, ⟨30, 1, .ro, .none, 0⟩, ⟨31, 1, .w1c, .none, 0⟩]⟩,
  ⟨0x40010008, 0x4, 1, 0x4, 1, [⟨0, 1, .rw, .imm, 0⟩, ⟨31, 1, .rw, .imm, 0⟩]⟩,
  ⟨0x4001000C, 0x4, 1, 0x4, 1, [⟨0, 1, .w1c, .none, 0⟩, ⟨31, 1, .w1c, .none, 0⟩]⟩,
  ⟨0x40010010, 0x4, 5, 0x4, 1, [⟨0, 32, .ro, .none, 0⟩]⟩,
  ⟨0x40010030, 0x4, 5, 0x4, 1, [⟨0, 32, .ro, .none, 0⟩]⟩,
  ⟨0x40010050, 0x4, 1, 0x4, 1, [⟨0, 8, .rw, .imm, 0⟩]⟩,
  ⟨0x40010054, 0x4, 1, 0x4, 1, [⟨0, 2, .ro, .none, 0⟩, ⟨2, 1, .ro, .none, 0⟩, ⟨8, 4, .ro, .none, 0⟩, ⟨16, 8, .ro, .none, 0⟩]⟩,
  ⟨0x40010060, 0x4, 1, 0x4, 1, [⟨0, 24, .rw, .imm, 0⟩]⟩,
  ⟨0x40010064, 0x4, 1, 0x4, 1, [⟨0, 24, .rw, .imm, 0⟩]⟩,
  ⟨0x40010068, 0x4, 1, 0x4, 1, [⟨0, 24, .w1c, .none, 0⟩]⟩,
  ⟨0x4001006C, 0x4, 1, 0x4, 1, [⟨0, 2, .rw, .imm, 0⟩, ⟨4, 1, .rw, .imm, 0⟩]⟩,
  ⟨0x40010080, 0x10, 2, 0x4, 1, [⟨0, 4, .rw, .imm, 0⟩, ⟨8, 1, .rw, .imm, 0⟩]⟩,
  ⟨0x40010084, 0x10, 2, 0x4, 1, [⟨0, 8, .ro, .none, 0⟩]⟩,
  ⟨0x40010088, 0x10, 2, 0x4, 1, [⟨0, 8, .wo, .none, 0⟩]⟩,
  ⟨0x4001008C, 0x10, 2, 0x4, 1, [⟨0, 4, .ro, .none, 0⟩, ⟨4, 4, .ro, .none, 0⟩]⟩,
  ⟨0x40010200, 0x4, 160, 0x4, 1, [⟨0, 4, .rw, .imm, 0⟩, ⟨4, 1, .rw, .imm, 0⟩, ⟨5, 1, .rw, .imm, 0⟩]⟩]

/-- The registers of ICU. -/
def Regs.icu : List RegInfo := Regs.icuPart0

/-! ### NTB -/

def A.NTB_CTRL : Nat := 0x40020000
def R.NTB_CTRL_run : Field := ⟨A.NTB_CTRL, 0, 1⟩
def R.NTB_CTRL_fed : Field := ⟨A.NTB_CTRL, 4, 1⟩
def R.NTB_CTRL_invalidate : Field := ⟨A.NTB_CTRL, 8, 1⟩

def A.NTB_STAT : Nat := 0x40020004
def R.NTB_STAT_tstate : Field := ⟨A.NTB_STAT, 0, 2⟩
def R.NTB_STAT_locked : Field := ⟨A.NTB_STAT, 2, 1⟩
def R.NTB_STAT_adj_busy : Field := ⟨A.NTB_STAT, 3, 1⟩
def R.NTB_STAT_plen_act : Field := ⟨A.NTB_STAT, 8, 2⟩
def R.NTB_STAT_busy : Field := ⟨A.NTB_STAT, 29, 1⟩
def R.NTB_STAT_shd_pend : Field := ⟨A.NTB_STAT, 30, 1⟩
def R.NTB_STAT_cfg_err : Field := ⟨A.NTB_STAT, 31, 1⟩

def A.NTB_IEN : Nat := 0x40020008
def R.NTB_IEN_en : Field := ⟨A.NTB_IEN, 0, 8⟩
def R.NTB_IEN_cfg_err : Field := ⟨A.NTB_IEN, 31, 1⟩

def A.NTB_IFLG : Nat := 0x4002000C
def R.NTB_IFLG_trig : Field := ⟨A.NTB_IFLG, 0, 1⟩
def R.NTB_IFLG_cap : Field := ⟨A.NTB_IFLG, 1, 1⟩
def R.NTB_IFLG_jump : Field := ⟨A.NTB_IFLG, 2, 1⟩
def R.NTB_IFLG_jref : Field := ⟨A.NTB_IFLG, 3, 1⟩
def R.NTB_IFLG_srclost : Field := ⟨A.NTB_IFLG, 4, 1⟩
def R.NTB_IFLG_path : Field := ⟨A.NTB_IFLG, 5, 1⟩
def R.NTB_IFLG_bint : Field := ⟨A.NTB_IFLG, 6, 1⟩
def R.NTB_IFLG_plen : Field := ⟨A.NTB_IFLG, 7, 1⟩
def R.NTB_IFLG_cfg_err : Field := ⟨A.NTB_IFLG, 31, 1⟩

def A.NTB_INC : Nat := 0x40020010
def R.NTB_INC_inc : Field := ⟨A.NTB_INC, 0, 32⟩

def A.NTB_GUARD : Nat := 0x40020014
def R.NTB_GUARD_us : Field := ⟨A.NTB_GUARD, 0, 24⟩

def A.NTB_HOLD : Nat := 0x40020018
def R.NTB_HOLD_s : Field := ⟨A.NTB_HOLD, 0, 10⟩

def A.NTB_PATHCFG : Nat := 0x4002001C
def R.NTB_PATHCFG_plen : Field := ⟨A.NTB_PATHCFG, 0, 2⟩

def A.NTB_TIME_NS : Nat := 0x40020020
def R.NTB_TIME_NS_ns : Field := ⟨A.NTB_TIME_NS, 0, 30⟩

def A.NTB_TIME_SLO : Nat := 0x40020024
def R.NTB_TIME_SLO_s : Field := ⟨A.NTB_TIME_SLO, 0, 32⟩

def A.NTB_TIME_SHI : Nat := 0x40020028
def R.NTB_TIME_SHI_s : Field := ⟨A.NTB_TIME_SHI, 0, 32⟩

def A.NTB_TIME_FRAC : Nat := 0x4002002C
def R.NTB_TIME_FRAC_frac : Field := ⟨A.NTB_TIME_FRAC, 0, 24⟩

def A.NTB_PATH_LO : Nat := 0x40020030
def R.NTB_PATH_LO_p : Field := ⟨A.NTB_PATH_LO, 0, 32⟩

def A.NTB_PATH_HI : Nat := 0x40020034
def R.NTB_PATH_HI_p : Field := ⟨A.NTB_PATH_HI, 0, 16⟩

def A.NTB_ADJ_SLO : Nat := 0x40020040
def R.NTB_ADJ_SLO_s : Field := ⟨A.NTB_ADJ_SLO, 0, 32⟩

def A.NTB_ADJ_SHI : Nat := 0x40020044
def R.NTB_ADJ_SHI_s : Field := ⟨A.NTB_ADJ_SHI, 0, 32⟩

def A.NTB_ADJ_NS : Nat := 0x40020048
def R.NTB_ADJ_NS_ns : Field := ⟨A.NTB_ADJ_NS, 0, 30⟩
def R.NTB_ADJ_NS_src : Field := ⟨A.NTB_ADJ_NS, 31, 1⟩

def A.NTB_ADJ_GO : Nat := 0x4002004C
def R.NTB_ADJ_GO_set : Field := ⟨A.NTB_ADJ_GO, 0, 1⟩
def R.NTB_ADJ_GO_step : Field := ⟨A.NTB_ADJ_GO, 1, 1⟩

def A.NTB_JDIFF : Nat := 0x40020050
def R.NTB_JDIFF_us : Field := ⟨A.NTB_JDIFF, 0, 32⟩

def A.NTB_C1OWN : Nat := 0x40020058
def R.NTB_C1OWN_cmp : Field := ⟨A.NTB_C1OWN, 0, 16⟩
def R.NTB_C1OWN_cap : Field := ⟨A.NTB_C1OWN, 16, 16⟩

def A.CMPn_CFG (n : Nat) : Nat := 0x40020100 + 0x20 * n
def R.CMPn_CFG_en (n : Nat) : Field := ⟨A.CMPn_CFG n, 0, 1⟩
def R.CMPn_CFG_mode (n : Nat) : Field := ⟨A.CMPn_CFG n, 1, 1⟩
def R.CMPn_CFG_route (n : Nat) : Field := ⟨A.CMPn_CFG n, 4, 3⟩

def A.CMPn_NXT_SLO (n : Nat) : Nat := 0x40020104 + 0x20 * n
def R.CMPn_NXT_SLO_s (n : Nat) : Field := ⟨A.CMPn_NXT_SLO n, 0, 32⟩

def A.CMPn_NXT_SHI (n : Nat) : Nat := 0x40020108 + 0x20 * n
def R.CMPn_NXT_SHI_s (n : Nat) : Field := ⟨A.CMPn_NXT_SHI n, 0, 32⟩

def A.CMPn_NXT_NS (n : Nat) : Nat := 0x4002010C + 0x20 * n
def R.CMPn_NXT_NS_ns (n : Nat) : Field := ⟨A.CMPn_NXT_NS n, 0, 30⟩

def A.CMPn_PER_S (n : Nat) : Nat := 0x40020110 + 0x20 * n
def R.CMPn_PER_S_s (n : Nat) : Field := ⟨A.CMPn_PER_S n, 0, 32⟩

def A.CMPn_PER_NS (n : Nat) : Nat := 0x40020114 + 0x20 * n
def R.CMPn_PER_NS_ns (n : Nat) : Field := ⟨A.CMPn_PER_NS n, 0, 30⟩

def A.CMPn_CST (n : Nat) : Nat := 0x40020118 + 0x20 * n
def R.CMPn_CST_fired (n : Nat) : Field := ⟨A.CMPn_CST n, 0, 1⟩
def R.CMPn_CST_skip (n : Nat) : Field := ⟨A.CMPn_CST n, 1, 1⟩
def R.CMPn_CST_past (n : Nat) : Field := ⟨A.CMPn_CST n, 2, 1⟩
def R.CMPn_CST_lockd (n : Nat) : Field := ⟨A.CMPn_CST n, 3, 1⟩
def R.CMPn_CST_nskip (n : Nat) : Field := ⟨A.CMPn_CST n, 8, 8⟩

def A.CAPn_CFG (n : Nat) : Nat := 0x40020300 + 0x10 * n
def R.CAPn_CFG_en (n : Nat) : Field := ⟨A.CAPn_CFG n, 0, 1⟩
def R.CAPn_CFG_edge (n : Nat) : Field := ⟨A.CAPn_CFG n, 1, 1⟩
def R.CAPn_CFG_src (n : Nat) : Field := ⟨A.CAPn_CFG n, 4, 9⟩
def R.CAPn_CFG_full (n : Nat) : Field := ⟨A.CAPn_CFG n, 30, 1⟩
def R.CAPn_CFG_ovr (n : Nat) : Field := ⟨A.CAPn_CFG n, 31, 1⟩

def A.CAPn_NS (n : Nat) : Nat := 0x40020304 + 0x10 * n
def R.CAPn_NS_ns (n : Nat) : Field := ⟨A.CAPn_NS n, 0, 30⟩

def A.CAPn_SLO (n : Nat) : Nat := 0x40020308 + 0x10 * n
def R.CAPn_SLO_s (n : Nat) : Field := ⟨A.CAPn_SLO n, 0, 32⟩

def A.CAPn_SHI (n : Nat) : Nat := 0x4002030C + 0x10 * n
def R.CAPn_SHI_s (n : Nat) : Field := ⟨A.CAPn_SHI n, 0, 32⟩

def Regs.ntbPart0 : List RegInfo := [
  ⟨0x40020000, 0x4, 1, 0x4, 1, [⟨0, 1, .rw, .imm, 0⟩, ⟨4, 1, .cmd, .none, 0⟩, ⟨8, 1, .cmd, .none, 0⟩]⟩,
  ⟨0x40020004, 0x4, 1, 0x4, 1, [⟨0, 2, .ro, .none, 0⟩, ⟨2, 1, .ro, .none, 0⟩, ⟨3, 1, .ro, .none, 0⟩, ⟨8, 2, .ro, .none, 0⟩,
    ⟨29, 1, .ro, .none, 0⟩, ⟨30, 1, .ro, .none, 0⟩, ⟨31, 1, .w1c, .none, 0⟩]⟩,
  ⟨0x40020008, 0x4, 1, 0x4, 1, [⟨0, 8, .rw, .imm, 0⟩, ⟨31, 1, .rw, .imm, 0⟩]⟩,
  ⟨0x4002000C, 0x4, 1, 0x4, 1, [⟨0, 1, .w1c, .none, 0⟩, ⟨1, 1, .w1c, .none, 0⟩, ⟨2, 1, .w1c, .none, 0⟩, ⟨3, 1, .w1c, .none,
    0⟩, ⟨4, 1, .w1c, .none, 0⟩, ⟨5, 1, .w1c, .none, 0⟩, ⟨6, 1, .w1c, .none, 0⟩, ⟨7, 1, .w1c, .none, 0⟩, ⟨31, 1, .w1c, .none,
    0⟩]⟩,
  ⟨0x40020010, 0x4, 1, 0x4, 1, [⟨0, 32, .rw, .imm, 0x14000000⟩]⟩,
  ⟨0x40020014, 0x4, 1, 0x4, 1, [⟨0, 24, .rw, .imm, 0x1f400⟩]⟩,
  ⟨0x40020018, 0x4, 1, 0x4, 1, [⟨0, 10, .rw, .imm, 60⟩]⟩,
  ⟨0x4002001C, 0x4, 1, 0x4, 1, [⟨0, 2, .rw, .shadow .plen, 0⟩]⟩,
  ⟨0x40020020, 0x4, 1, 0x4, 1, [⟨0, 30, .ro, .none, 0⟩]⟩,
  ⟨0x40020024, 0x4, 1, 0x4, 1, [⟨0, 32, .ro, .none, 0⟩]⟩,
  ⟨0x40020028, 0x4, 1, 0x4, 1, [⟨0, 32, .ro, .none, 0⟩]⟩,
  ⟨0x4002002C, 0x4, 1, 0x4, 1, [⟨0, 24, .ro, .none, 0⟩]⟩,
  ⟨0x40020030, 0x4, 1, 0x4, 1, [⟨0, 32, .ro, .none, 0⟩]⟩,
  ⟨0x40020034, 0x4, 1, 0x4, 1, [⟨0, 16, .ro, .none, 0⟩]⟩,
  ⟨0x40020040, 0x4, 1, 0x4, 1, [⟨0, 32, .rw, .imm, 0⟩]⟩,
  ⟨0x40020044, 0x4, 1, 0x4, 1, [⟨0, 32, .rw, .imm, 0⟩]⟩,
  ⟨0x40020048, 0x4, 1, 0x4, 1, [⟨0, 30, .rw, .imm, 0⟩, ⟨31, 1, .rw, .imm, 0⟩]⟩,
  ⟨0x4002004C, 0x4, 1, 0x4, 1, [⟨0, 1, .cmd, .none, 0⟩, ⟨1, 1, .cmd, .none, 0⟩]⟩,
  ⟨0x40020050, 0x4, 1, 0x4, 1, [⟨0, 32, .ro, .none, 0⟩]⟩,
  ⟨0x40020058, 0x4, 1, 0x4, 1, [⟨0, 16, .rw, .imm, 0xff00⟩, ⟨16, 16, .rw, .imm, 0xff00⟩]⟩]

def Regs.ntbPart1 : List RegInfo := [
  ⟨0x40020100, 0x20, 16, 0x4, 1, [⟨0, 1, .rw, .imm, 0⟩, ⟨1, 1, .rw, .lock, 0⟩, ⟨4, 3, .rw, .lock, 0⟩]⟩,
  ⟨0x40020104, 0x20, 16, 0x4, 1, [⟨0, 32, .rw, .lock, 0⟩]⟩,
  ⟨0x40020108, 0x20, 16, 0x4, 1, [⟨0, 32, .rw, .lock, 0⟩]⟩,
  ⟨0x4002010C, 0x20, 16, 0x4, 1, [⟨0, 30, .rw, .lock, 0⟩]⟩,
  ⟨0x40020110, 0x20, 16, 0x4, 1, [⟨0, 32, .rw, .lock, 0⟩]⟩,
  ⟨0x40020114, 0x20, 16, 0x4, 1, [⟨0, 30, .rw, .lock, 0⟩]⟩,
  ⟨0x40020118, 0x20, 16, 0x4, 1, [⟨0, 1, .w1c, .none, 0⟩, ⟨1, 1, .w1c, .none, 0⟩, ⟨2, 1, .w1c, .none, 0⟩, ⟨3, 1, .ro, .none,
    0⟩, ⟨8, 8, .ro, .none, 0⟩]⟩,
  ⟨0x40020300, 0x10, 16, 0x4, 1, [⟨0, 1, .rw, .imm, 0⟩, ⟨1, 1, .rw, .lock, 0⟩, ⟨4, 9, .rw, .lock, 0⟩, ⟨30, 1, .w1c, .none,
    0⟩, ⟨31, 1, .w1c, .none, 0⟩]⟩,
  ⟨0x40020304, 0x10, 16, 0x4, 1, [⟨0, 30, .ro, .none, 0⟩]⟩,
  ⟨0x40020308, 0x10, 16, 0x4, 1, [⟨0, 32, .ro, .none, 0⟩]⟩,
  ⟨0x4002030C, 0x10, 16, 0x4, 1, [⟨0, 32, .ro, .none, 0⟩]⟩]

/-- The registers of NTB. -/
def Regs.ntb : List RegInfo := Regs.ntbPart0 ++ Regs.ntbPart1

/-! ### BKD -/

def A.BKD_CTRL : Nat := 0x40030000
def R.BKD_CTRL_set : Field := ⟨A.BKD_CTRL, 0, 1⟩
def R.BKD_CTRL_shift : Field := ⟨A.BKD_CTRL, 1, 1⟩
def R.BKD_CTRL_meas : Field := ⟨A.BKD_CTRL, 2, 1⟩

def A.BKD_STAT : Nat := 0x40030004
def R.BKD_STAT_cal_inv : Field := ⟨A.BKD_STAT, 0, 1⟩
def R.BKD_STAT_time_lost : Field := ⟨A.BKD_STAT, 1, 1⟩
def R.BKD_STAT_sync : Field := ⟨A.BKD_STAT, 2, 1⟩
def R.BKD_STAT_shift_busy : Field := ⟨A.BKD_STAT, 3, 1⟩
def R.BKD_STAT_meas_busy : Field := ⟨A.BKD_STAT, 4, 1⟩
def R.BKD_STAT_chg : Field := ⟨A.BKD_STAT, 5, 1⟩
def R.BKD_STAT_cell_low : Field := ⟨A.BKD_STAT, 6, 1⟩
def R.BKD_STAT_busy : Field := ⟨A.BKD_STAT, 29, 1⟩
def R.BKD_STAT_shd_pend : Field := ⟨A.BKD_STAT, 30, 1⟩
def R.BKD_STAT_cfg_err : Field := ⟨A.BKD_STAT, 31, 1⟩

def A.BKD_IEN : Nat := 0x40030008
def R.BKD_IEN_en : Field := ⟨A.BKD_IEN, 0, 6⟩
def R.BKD_IEN_cfg_err : Field := ⟨A.BKD_IEN, 31, 1⟩

def A.BKD_IFLG : Nat := 0x4003000C
def R.BKD_IFLG_tamper : Field := ⟨A.BKD_IFLG, 0, 1⟩
def R.BKD_IFLG_alarm : Field := ⟨A.BKD_IFLG, 1, 1⟩
def R.BKD_IFLG_tick : Field := ⟨A.BKD_IFLG, 2, 1⟩
def R.BKD_IFLG_date_err : Field := ⟨A.BKD_IFLG, 3, 1⟩
def R.BKD_IFLG_time_lost : Field := ⟨A.BKD_IFLG, 4, 1⟩
def R.BKD_IFLG_cell_low : Field := ⟨A.BKD_IFLG, 5, 1⟩
def R.BKD_IFLG_cfg_err : Field := ⟨A.BKD_IFLG, 31, 1⟩

def A.BKD_DATE : Nat := 0x40030010
def R.BKD_DATE_day : Field := ⟨A.BKD_DATE, 0, 5⟩
def R.BKD_DATE_month : Field := ⟨A.BKD_DATE, 8, 4⟩
def R.BKD_DATE_year : Field := ⟨A.BKD_DATE, 16, 12⟩
def R.BKD_DATE_wday : Field := ⟨A.BKD_DATE, 28, 3⟩

def A.BKD_TIME : Nat := 0x40030014
def R.BKD_TIME_sec : Field := ⟨A.BKD_TIME, 0, 6⟩
def R.BKD_TIME_min : Field := ⟨A.BKD_TIME, 8, 6⟩
def R.BKD_TIME_hour : Field := ⟨A.BKD_TIME, 16, 5⟩

def A.BKD_SUB : Nat := 0x40030018
def R.BKD_SUB_sub : Field := ⟨A.BKD_SUB, 0, 15⟩

def A.BKD_SETD : Nat := 0x4003001C
def R.BKD_SETD_day : Field := ⟨A.BKD_SETD, 0, 5⟩
def R.BKD_SETD_month : Field := ⟨A.BKD_SETD, 8, 4⟩
def R.BKD_SETD_year : Field := ⟨A.BKD_SETD, 16, 12⟩
def R.BKD_SETD_valid : Field := ⟨A.BKD_SETD, 31, 1⟩

def A.BKD_SETT : Nat := 0x40030020
def R.BKD_SETT_sec : Field := ⟨A.BKD_SETT, 0, 6⟩
def R.BKD_SETT_min : Field := ⟨A.BKD_SETT, 8, 6⟩
def R.BKD_SETT_hour : Field := ⟨A.BKD_SETT, 16, 5⟩

def A.BKD_SETS : Nat := 0x40030024
def R.BKD_SETS_sub : Field := ⟨A.BKD_SETS, 0, 15⟩

def A.BKD_SHIFT : Nat := 0x40030028
def R.BKD_SHIFT_ticks : Field := ⟨A.BKD_SHIFT, 0, 16⟩

def A.BKD_TRIM : Nat := 0x4003002C
def R.BKD_TRIM_ppm : Field := ⟨A.BKD_TRIM, 0, 10⟩

def A.BKD_ALMT : Nat := 0x40030030
def R.BKD_ALMT_sec : Field := ⟨A.BKD_ALMT, 0, 6⟩
def R.BKD_ALMT_min : Field := ⟨A.BKD_ALMT, 8, 6⟩
def R.BKD_ALMT_hour : Field := ⟨A.BKD_ALMT, 16, 5⟩
def R.BKD_ALMT_en : Field := ⟨A.BKD_ALMT, 24, 1⟩
def R.BKD_ALMT_any_h : Field := ⟨A.BKD_ALMT, 25, 1⟩
def R.BKD_ALMT_any_m : Field := ⟨A.BKD_ALMT, 26, 1⟩

def A.BKD_ALMD : Nat := 0x40030034
def R.BKD_ALMD_day : Field := ⟨A.BKD_ALMD, 0, 5⟩
def R.BKD_ALMD_wday : Field := ⟨A.BKD_ALMD, 8, 3⟩
def R.BKD_ALMD_use_d : Field := ⟨A.BKD_ALMD, 12, 1⟩
def R.BKD_ALMD_use_w : Field := ⟨A.BKD_ALMD, 13, 1⟩

def A.BKD_PWAKE : Nat := 0x40030038
def R.BKD_PWAKE_s : Field := ⟨A.BKD_PWAKE, 0, 16⟩
def R.BKD_PWAKE_en : Field := ⟨A.BKD_PWAKE, 16, 1⟩

def A.BKD_CHG : Nat := 0x4003003C
def R.BKD_CHG_cur : Field := ⟨A.BKD_CHG, 0, 3⟩
def R.BKD_CHG_volt : Field := ⟨A.BKD_CHG, 4, 2⟩

def A.BKD_VBAK : Nat := 0x40030040
def R.BKD_VBAK_mv : Field := ⟨A.BKD_VBAK, 0, 12⟩
def R.BKD_VBAK_thr : Field := ⟨A.BKD_VBAK, 16, 12⟩

def A.BKD_TMPCFG : Nat := 0x40030044
def R.BKD_TMPCFG_enk (k : Nat) : Field := ⟨A.BKD_TMPCFG, 0 + 8 * k, 1⟩
def R.BKD_TMPCFG_polk (k : Nat) : Field := ⟨A.BKD_TMPCFG, 1 + 8 * k, 1⟩
def R.BKD_TMPCFG_fltk (k : Nat) : Field := ⟨A.BKD_TMPCFG, 2 + 8 * k, 2⟩

def A.BKD_TMPIN : Nat := 0x40030048
def R.BKD_TMPIN_lvl : Field := ⟨A.BKD_TMPIN, 0, 4⟩
def R.BKD_TMPIN_lat : Field := ⟨A.BKD_TMPIN, 8, 4⟩

def A.BKD_TCNT : Nat := 0x4003004C
def R.BKD_TCNT_n : Field := ⟨A.BKD_TCNT, 0, 32⟩

def A.BKD_PCYC : Nat := 0x40030050
def R.BKD_PCYC_n : Field := ⟨A.BKD_PCYC, 0, 32⟩

def A.BKD_OPT_LO : Nat := 0x40030054
def R.BKD_OPT_LO_s : Field := ⟨A.BKD_OPT_LO, 0, 32⟩

def A.BKD_OPT_HI : Nat := 0x40030058
def R.BKD_OPT_HI_s : Field := ⟨A.BKD_OPT_HI, 0, 32⟩

def Regs.bkdPart0 : List RegInfo := [
  ⟨0x40030000, 0x4, 1, 0x4, 1, [⟨0, 1, .cmd, .none, 0⟩, ⟨1, 1, .cmd, .none, 0⟩, ⟨2, 1, .cmd, .none, 0⟩]⟩,
  ⟨0x40030004, 0x4, 1, 0x4, 1, [⟨0, 1, .ro, .none, 1⟩, ⟨1, 1, .w1c, .none, 1⟩, ⟨2, 1, .ro, .none, 0⟩, ⟨3, 1, .ro, .none, 0⟩,
    ⟨4, 1, .ro, .none, 0⟩, ⟨5, 1, .ro, .none, 0⟩, ⟨6, 1, .ro, .none, 0⟩, ⟨29, 1, .ro, .none, 1⟩, ⟨30, 1, .ro, .none, 0⟩, ⟨31,
    1, .w1c, .none, 0⟩]⟩,
  ⟨0x40030008, 0x4, 1, 0x4, 1, [⟨0, 6, .rw, .imm, 0⟩, ⟨31, 1, .rw, .imm, 0⟩]⟩,
  ⟨0x4003000C, 0x4, 1, 0x4, 1, [⟨0, 1, .w1c, .none, 0⟩, ⟨1, 1, .w1c, .none, 0⟩, ⟨2, 1, .w1c, .none, 0⟩, ⟨3, 1, .w1c, .none,
    0⟩, ⟨4, 1, .w1c, .none, 1⟩, ⟨5, 1, .w1c, .none, 0⟩, ⟨31, 1, .w1c, .none, 0⟩]⟩,
  ⟨0x40030010, 0x4, 1, 0x4, 1, [⟨0, 5, .ro, .none, 1⟩, ⟨8, 4, .ro, .none, 1⟩, ⟨16, 12, .ro, .none, 2000⟩, ⟨28, 3, .ro, .none,
    6⟩]⟩,
  ⟨0x40030014, 0x4, 1, 0x4, 1, [⟨0, 6, .ro, .none, 0⟩, ⟨8, 6, .ro, .none, 0⟩, ⟨16, 5, .ro, .none, 0⟩]⟩,
  ⟨0x40030018, 0x4, 1, 0x4, 1, [⟨0, 15, .ro, .none, 0⟩]⟩,
  ⟨0x4003001C, 0x4, 1, 0x4, 1, [⟨0, 5, .rw, .imm, 1⟩, ⟨8, 4, .rw, .imm, 1⟩, ⟨16, 12, .rw, .imm, 2000⟩, ⟨31, 1, .rw, .imm, 0⟩]⟩,
  ⟨0x40030020, 0x4, 1, 0x4, 1, [⟨0, 6, .rw, .imm, 0⟩, ⟨8, 6, .rw, .imm, 0⟩, ⟨16, 5, .rw, .imm, 0⟩]⟩,
  ⟨0x40030024, 0x4, 1, 0x4, 1, [⟨0, 15, .rw, .imm, 0⟩]⟩,
  ⟨0x40030028, 0x4, 1, 0x4, 1, [⟨0, 16, .rw, .imm, 0⟩]⟩,
  ⟨0x4003002C, 0x4, 1, 0x4, 1, [⟨0, 10, .rw, .shadow .trim, 0⟩]⟩,
  ⟨0x40030030, 0x4, 1, 0x4, 1, [⟨0, 6, .rw, .imm, 0⟩, ⟨8, 6, .rw, .imm, 0⟩, ⟨16, 5, .rw, .imm, 0⟩, ⟨24, 1, .rw, .imm, 0⟩,
    ⟨25, 1, .rw, .imm, 0⟩, ⟨26, 1, .rw, .imm, 0⟩]⟩,
  ⟨0x40030034, 0x4, 1, 0x4, 1, [⟨0, 5, .rw, .imm, 1⟩, ⟨8, 3, .rw, .imm, 1⟩, ⟨12, 1, .rw, .imm, 0⟩, ⟨13, 1, .rw, .imm, 0⟩]⟩,
  ⟨0x40030038, 0x4, 1, 0x4, 1, [⟨0, 16, .rw, .imm, 60⟩, ⟨16, 1, .rw, .imm, 0⟩]⟩,
  ⟨0x4003003C, 0x4, 1, 0x4, 1, [⟨0, 3, .rw, .imm, 0⟩, ⟨4, 2, .rw, .imm, 1⟩]⟩,
  ⟨0x40030040, 0x4, 1, 0x4, 1, [⟨0, 12, .ro, .none, 0⟩, ⟨16, 12, .rw, .imm, 2200⟩]⟩,
  ⟨0x40030044, 0x4, 1, 0x4, 1, [⟨0, 1, .rw, .imm, 0⟩, ⟨1, 1, .rw, .imm, 0⟩, ⟨2, 2, .rw, .imm, 2⟩, ⟨8, 1, .rw, .imm, 0⟩, ⟨9,
    1, .rw, .imm, 0⟩, ⟨10, 2, .rw, .imm, 2⟩, ⟨16, 1, .rw, .imm, 0⟩, ⟨17, 1, .rw, .imm, 0⟩, ⟨18, 2, .rw, .imm, 2⟩, ⟨24, 1,
    .rw, .imm, 0⟩, ⟨25, 1, .rw, .imm, 0⟩, ⟨26, 2, .rw, .imm, 2⟩]⟩,
  ⟨0x40030048, 0x4, 1, 0x4, 1, [⟨0, 4, .ro, .none, 0⟩, ⟨8, 4, .ro, .none, 0⟩]⟩,
  ⟨0x4003004C, 0x4, 1, 0x4, 1, [⟨0, 32, .rw, .imm, 0⟩]⟩]

def Regs.bkdPart1 : List RegInfo := [
  ⟨0x40030050, 0x4, 1, 0x4, 1, [⟨0, 32, .rw, .imm, 0⟩]⟩,
  ⟨0x40030054, 0x4, 1, 0x4, 1, [⟨0, 32, .rw, .imm, 0⟩]⟩,
  ⟨0x40030058, 0x4, 1, 0x4, 1, [⟨0, 32, .rw, .imm, 0⟩]⟩]

/-- The registers of BKD. -/
def Regs.bkd : List RegInfo := Regs.bkdPart0 ++ Regs.bkdPart1

/-! ### PQU -/

def A.PQU_CTRL : Nat := 0x40040000
def R.PQU_CTRL_run : Field := ⟨A.PQU_CTRL, 0, 1⟩

def A.PQU_STAT : Nat := 0x40040004
def R.PQU_STAT_busy : Field := ⟨A.PQU_STAT, 29, 1⟩
def R.PQU_STAT_shd_pend : Field := ⟨A.PQU_STAT, 30, 1⟩
def R.PQU_STAT_cfg_err : Field := ⟨A.PQU_STAT, 31, 1⟩

def A.PQU_IEN : Nat := 0x40040008
def R.PQU_IEN_en : Field := ⟨A.PQU_IEN, 0, 4⟩
def R.PQU_IEN_cfg_err : Field := ⟨A.PQU_IEN, 31, 1⟩

def A.PQU_IFLG : Nat := 0x4004000C
def R.PQU_IFLG_wmhi : Field := ⟨A.PQU_IFLG, 0, 1⟩
def R.PQU_IFLG_wmlo : Field := ⟨A.PQU_IFLG, 1, 1⟩
def R.PQU_IFLG_full : Field := ⟨A.PQU_IFLG, 2, 1⟩
def R.PQU_IFLG_ecc : Field := ⟨A.PQU_IFLG, 3, 1⟩
def R.PQU_IFLG_cfg_err : Field := ⟨A.PQU_IFLG, 31, 1⟩

def A.PQU_WMST : Nat := 0x40040010
def R.PQU_WMST_st : Field := ⟨A.PQU_WMST, 0, 32⟩

def A.PQU_FULLQ : Nat := 0x40040014
def R.PQU_FULLQ_q : Field := ⟨A.PQU_FULLQ, 0, 32⟩

def A.PQU_FC : Nat := 0x40040018
def R.PQU_FC_qk (k : Nat) : Field := ⟨A.PQU_FC, 0 + 8 * k, 5⟩
def R.PQU_FC_enk (k : Nat) : Field := ⟨A.PQU_FC, 5 + 8 * k, 1⟩
def R.PQU_FC_invk (k : Nat) : Field := ⟨A.PQU_FC, 6 + 8 * k, 1⟩

def A.PQU_C1OWN : Nat := 0x4004001C
def R.PQU_C1OWN_q : Field := ⟨A.PQU_C1OWN, 0, 32⟩

def A.PQU_Qn_CFG (n : Nat) : Nat := 0x40040100 + 0x10 * n
def R.PQU_Qn_CFG_base (n : Nat) : Field := ⟨A.PQU_Qn_CFG n, 0, 9⟩
def R.PQU_Qn_CFG_size (n : Nat) : Field := ⟨A.PQU_Qn_CFG n, 16, 9⟩
def R.PQU_Qn_CFG_prod (n : Nat) : Field := ⟨A.PQU_Qn_CFG n, 25, 3⟩
def R.PQU_Qn_CFG_cons (n : Nat) : Field := ⟨A.PQU_Qn_CFG n, 28, 3⟩
def R.PQU_Qn_CFG_en (n : Nat) : Field := ⟨A.PQU_Qn_CFG n, 31, 1⟩

def A.PQU_Qn_WM (n : Nat) : Nat := 0x40040104 + 0x10 * n
def R.PQU_Qn_WM_hi (n : Nat) : Field := ⟨A.PQU_Qn_WM n, 0, 12⟩
def R.PQU_Qn_WM_lo (n : Nat) : Field := ⟨A.PQU_Qn_WM n, 16, 12⟩

def A.PQU_Qn_FILL (n : Nat) : Nat := 0x40040108 + 0x10 * n
def R.PQU_Qn_FILL_oct (n : Nat) : Field := ⟨A.PQU_Qn_FILL n, 0, 20⟩
def R.PQU_Qn_FILL_ent (n : Nat) : Field := ⟨A.PQU_Qn_FILL n, 20, 12⟩

def A.PQU_Qn_CNT (n : Nat) : Nat := 0x4004010C + 0x10 * n
def R.PQU_Qn_CNT_drop (n : Nat) : Field := ⟨A.PQU_Qn_CNT n, 0, 16⟩
def R.PQU_Qn_CNT_ovr (n : Nat) : Field := ⟨A.PQU_Qn_CNT n, 16, 16⟩

def A.PQU_PRTk_SEL (n : Nat) : Nat := 0x40040300 + 0x10 * n
def R.PQU_PRTk_SEL_q (n : Nat) : Field := ⟨A.PQU_PRTk_SEL n, 0, 5⟩
def R.PQU_PRTk_SEL_role (n : Nat) : Field := ⟨A.PQU_PRTk_SEL n, 8, 1⟩
def R.PQU_PRTk_SEL_en (n : Nat) : Field := ⟨A.PQU_PRTk_SEL n, 9, 1⟩
def R.PQU_PRTk_SEL_full (n : Nat) : Field := ⟨A.PQU_PRTk_SEL n, 16, 1⟩
def R.PQU_PRTk_SEL_open (n : Nat) : Field := ⟨A.PQU_PRTk_SEL n, 17, 1⟩

def A.PQU_PRTk_HDR (n : Nat) : Nat := 0x40040304 + 0x10 * n
def R.PQU_PRTk_HDR_len (n : Nat) : Field := ⟨A.PQU_PRTk_HDR n, 0, 16⟩
def R.PQU_PRTk_HDR_tag (n : Nat) : Field := ⟨A.PQU_PRTk_HDR n, 16, 8⟩
def R.PQU_PRTk_HDR_ecc (n : Nat) : Field := ⟨A.PQU_PRTk_HDR n, 30, 1⟩
def R.PQU_PRTk_HDR_valid (n : Nat) : Field := ⟨A.PQU_PRTk_HDR n, 31, 1⟩

def A.PQU_PRTk_DATA (n : Nat) : Nat := 0x40040308 + 0x10 * n
def R.PQU_PRTk_DATA_d (n : Nat) : Field := ⟨A.PQU_PRTk_DATA n, 0, 32⟩

def A.PQU_PRTk_CMD (n : Nat) : Nat := 0x4004030C + 0x10 * n
def R.PQU_PRTk_CMD_commit (n : Nat) : Field := ⟨A.PQU_PRTk_CMD n, 0, 1⟩
def R.PQU_PRTk_CMD_rewind (n : Nat) : Field := ⟨A.PQU_PRTk_CMD n, 1, 1⟩
def R.PQU_PRTk_CMD_next (n : Nat) : Field := ⟨A.PQU_PRTk_CMD n, 2, 1⟩

def Regs.pquPart0 : List RegInfo := [
  ⟨0x40040000, 0x4, 1, 0x4, 1, [⟨0, 1, .rw, .imm, 0⟩]⟩,
  ⟨0x40040004, 0x4, 1, 0x4, 1, [⟨29, 1, .ro, .none, 0⟩, ⟨30, 1, .ro, .none, 0⟩, ⟨31, 1, .w1c, .none, 0⟩]⟩,
  ⟨0x40040008, 0x4, 1, 0x4, 1, [⟨0, 4, .rw, .imm, 0⟩, ⟨31, 1, .rw, .imm, 0⟩]⟩,
  ⟨0x4004000C, 0x4, 1, 0x4, 1, [⟨0, 1, .w1c, .none, 0⟩, ⟨1, 1, .w1c, .none, 0⟩, ⟨2, 1, .w1c, .none, 0⟩, ⟨3, 1, .w1c, .none,
    0⟩, ⟨31, 1, .w1c, .none, 0⟩]⟩,
  ⟨0x40040010, 0x4, 1, 0x4, 1, [⟨0, 32, .ro, .none, 0⟩]⟩,
  ⟨0x40040014, 0x4, 1, 0x4, 1, [⟨0, 32, .w1c, .none, 0⟩]⟩,
  ⟨0x40040018, 0x4, 1, 0x4, 1, [⟨0, 5, .rw, .imm, 0⟩, ⟨5, 1, .rw, .imm, 0⟩, ⟨6, 1, .rw, .imm, 0⟩, ⟨8, 5, .rw, .imm, 0⟩, ⟨13,
    1, .rw, .imm, 0⟩, ⟨14, 1, .rw, .imm, 0⟩, ⟨16, 5, .rw, .imm, 0⟩, ⟨21, 1, .rw, .imm, 0⟩, ⟨22, 1, .rw, .imm, 0⟩, ⟨24, 5,
    .rw, .imm, 0⟩, ⟨29, 1, .rw, .imm, 0⟩, ⟨30, 1, .rw, .imm, 0⟩]⟩,
  ⟨0x4004001C, 0x4, 1, 0x4, 1, [⟨0, 32, .rw, .imm, 0xe0000000⟩]⟩,
  ⟨0x40040100, 0x10, 32, 0x4, 1, [⟨0, 9, .rw, .lock, 0⟩, ⟨16, 9, .rw, .lock, 0⟩, ⟨25, 3, .rw, .lock, 0⟩, ⟨28, 3, .rw, .imm,
    0⟩, ⟨31, 1, .rw, .imm, 0⟩]⟩,
  ⟨0x40040104, 0x10, 32, 0x4, 1, [⟨0, 12, .rw, .imm, 0⟩, ⟨16, 12, .rw, .imm, 0⟩]⟩,
  ⟨0x40040108, 0x10, 32, 0x4, 1, [⟨0, 20, .ro, .none, 0⟩, ⟨20, 12, .ro, .none, 0⟩]⟩,
  ⟨0x4004010C, 0x10, 32, 0x4, 1, [⟨0, 16, .rc, .none, 0⟩, ⟨16, 16, .rc, .none, 0⟩]⟩,
  ⟨0x40040300, 0x10, 4, 0x4, 1, [⟨0, 5, .rw, .imm, 0⟩, ⟨8, 1, .rw, .imm, 0⟩, ⟨9, 1, .rw, .imm, 0⟩, ⟨16, 1, .ro, .none, 0⟩,
    ⟨17, 1, .ro, .none, 0⟩]⟩,
  ⟨0x40040304, 0x10, 4, 0x4, 1, [⟨0, 16, .rw, .imm, 0⟩, ⟨16, 8, .rw, .imm, 0⟩, ⟨30, 1, .ro, .none, 0⟩, ⟨31, 1, .ro, .none, 0⟩]⟩,
  ⟨0x40040308, 0x10, 4, 0x4, 1, [⟨0, 32, .rw, .imm, 0⟩]⟩,
  ⟨0x4004030C, 0x10, 4, 0x4, 1, [⟨0, 1, .cmd, .none, 0⟩, ⟨1, 1, .cmd, .none, 0⟩, ⟨2, 1, .cmd, .none, 0⟩]⟩]

/-- The registers of PQU. -/
def Regs.pqu : List RegInfo := Regs.pquPart0

/-! ### FBC -/

def A.FBC_CTRL : Nat := 0x40050000
def R.FBC_CTRL_run : Field := ⟨A.FBC_CTRL, 0, 1⟩
def R.FBC_CTRL_restr : Field := ⟨A.FBC_CTRL, 1, 1⟩
def R.FBC_CTRL_auto_rec : Field := ⟨A.FBC_CTRL, 2, 1⟩
def R.FBC_CTRL_recover : Field := ⟨A.FBC_CTRL, 3, 1⟩
def R.FBC_CTRL_txprio : Field := ⟨A.FBC_CTRL, 4, 1⟩
def R.FBC_CTRL_pexd : Field := ⟨A.FBC_CTRL, 5, 1⟩
def R.FBC_CTRL_wupen : Field := ⟨A.FBC_CTRL, 8, 1⟩

def A.FBC_STAT : Nat := 0x40050004
def R.FBC_STAT_state : Field := ⟨A.FBC_STAT, 0, 2⟩
def R.FBC_STAT_ewarn : Field := ⟨A.FBC_STAT, 2, 1⟩
def R.FBC_STAT_restr : Field := ⟨A.FBC_STAT, 3, 1⟩
def R.FBC_STAT_idle : Field := ⟨A.FBC_STAT, 4, 1⟩
def R.FBC_STAT_tx : Field := ⟨A.FBC_STAT, 5, 1⟩
def R.FBC_STAT_rx : Field := ⟨A.FBC_STAT, 6, 1⟩
def R.FBC_STAT_busy : Field := ⟨A.FBC_STAT, 29, 1⟩
def R.FBC_STAT_shd_pend : Field := ⟨A.FBC_STAT, 30, 1⟩
def R.FBC_STAT_cfg_err : Field := ⟨A.FBC_STAT, 31, 1⟩

def A.FBC_IEN : Nat := 0x40050008
def R.FBC_IEN_en : Field := ⟨A.FBC_IEN, 0, 13⟩
def R.FBC_IEN_cfg_err : Field := ⟨A.FBC_IEN, 31, 1⟩

def A.FBC_IFLG : Nat := 0x4005000C
def R.FBC_IFLG_rx : Field := ⟨A.FBC_IFLG, 0, 1⟩
def R.FBC_IFLG_rxwm : Field := ⟨A.FBC_IFLG, 1, 1⟩
def R.FBC_IFLG_rxovr : Field := ⟨A.FBC_IFLG, 2, 1⟩
def R.FBC_IFLG_hpm : Field := ⟨A.FBC_IFLG, 3, 1⟩
def R.FBC_IFLG_txdone : Field := ⟨A.FBC_IFLG, 4, 1⟩
def R.FBC_IFLG_txfail : Field := ⟨A.FBC_IFLG, 5, 1⟩
def R.FBC_IFLG_ewarn : Field := ⟨A.FBC_IFLG, 6, 1⟩
def R.FBC_IFLG_epass : Field := ⟨A.FBC_IFLG, 7, 1⟩
def R.FBC_IFLG_boff : Field := ⟨A.FBC_IFLG, 8, 1⟩
def R.FBC_IFLG_brec : Field := ⟨A.FBC_IFLG, 9, 1⟩
def R.FBC_IFLG_pex : Field := ⟨A.FBC_IFLG, 10, 1⟩
def R.FBC_IFLG_dupsrc : Field := ⟨A.FBC_IFLG, 11, 1⟩
def R.FBC_IFLG_wake : Field := ⟨A.FBC_IFLG, 12, 1⟩
def R.FBC_IFLG_cfg_err : Field := ⟨A.FBC_IFLG, 31, 1⟩

def A.FBC_NBT : Nat := 0x40050010
def R.FBC_NBT_tseg1 : Field := ⟨A.FBC_NBT, 0, 9⟩
def R.FBC_NBT_tseg2 : Field := ⟨A.FBC_NBT, 9, 7⟩
def R.FBC_NBT_sjw : Field := ⟨A.FBC_NBT, 16, 7⟩
def R.FBC_NBT_brp : Field := ⟨A.FBC_NBT, 23, 5⟩

def A.FBC_DBT : Nat := 0x40050014
def R.FBC_DBT_tseg1 : Field := ⟨A.FBC_DBT, 0, 6⟩
def R.FBC_DBT_tseg2 : Field := ⟨A.FBC_DBT, 6, 5⟩
def R.FBC_DBT_sjw : Field := ⟨A.FBC_DBT, 11, 5⟩
def R.FBC_DBT_brp : Field := ⟨A.FBC_DBT, 16, 5⟩
def R.FBC_DBT_brse : Field := ⟨A.FBC_DBT, 24, 1⟩

def A.FBC_TDC : Nat := 0x40050018
def R.FBC_TDC_offset : Field := ⟨A.FBC_TDC, 0, 7⟩
def R.FBC_TDC_en : Field := ⟨A.FBC_TDC, 8, 1⟩

def A.FBC_NODE : Nat := 0x4005001C
def R.FBC_NODE_node : Field := ⟨A.FBC_NODE, 0, 7⟩
def R.FBC_NODE_dupchk : Field := ⟨A.FBC_NODE, 16, 1⟩

def A.FBC_ERR : Nat := 0x40050020
def R.FBC_ERR_tec : Field := ⟨A.FBC_ERR, 0, 8⟩
def R.FBC_ERR_rec : Field := ⟨A.FBC_ERR, 8, 7⟩
def R.FBC_ERR_rp : Field := ⟨A.FBC_ERR, 15, 1⟩
def R.FBC_ERR_lec : Field := ⟨A.FBC_ERR, 16, 3⟩
def R.FBC_ERR_dlec : Field := ⟨A.FBC_ERR, 20, 3⟩

def A.FBC_FLTA : Nat := 0x40050024
def R.FBC_FLTA_addr : Field := ⟨A.FBC_FLTA, 3, 29⟩

def A.FBC_FLTC : Nat := 0x40050028
def R.FBC_FLTC_n : Field := ⟨A.FBC_FLTC, 0, 8⟩
def R.FBC_FLTC_nm : Field := ⟨A.FBC_FLTC, 8, 1⟩

def A.FBC_RXQ : Nat := 0x4005002C
def R.FBC_RXQ_addr : Field := ⟨A.FBC_RXQ, 4, 28⟩

def A.FBC_RXIDX : Nat := 0x40050030
def R.FBC_RXIDX_wi : Field := ⟨A.FBC_RXIDX, 0, 7⟩
def R.FBC_RXIDX_ri : Field := ⟨A.FBC_RXIDX, 8, 7⟩
def R.FBC_RXIDX_wm : Field := ⟨A.FBC_RXIDX, 16, 7⟩

def A.FBC_TXREQ : Nat := 0x40050034
def R.FBC_TXREQ_req : Field := ⟨A.FBC_TXREQ, 0, 3⟩
def R.FBC_TXREQ_abort : Field := ⟨A.FBC_TXREQ, 4, 3⟩

def A.FBC_TXSTAT : Nat := 0x40050038
def R.FBC_TXSTAT_pend : Field := ⟨A.FBC_TXSTAT, 0, 3⟩
def R.FBC_TXSTAT_done : Field := ⟨A.FBC_TXSTAT, 4, 3⟩
def R.FBC_TXSTAT_fail : Field := ⟨A.FBC_TXSTAT, 8, 3⟩

def A.FBC_CNT_RX : Nat := 0x4005003C
def R.FBC_CNT_RX_n : Field := ⟨A.FBC_CNT_RX, 0, 32⟩

def A.FBC_CNT_TX : Nat := 0x40050040
def R.FBC_CNT_TX_n : Field := ⟨A.FBC_CNT_TX, 0, 32⟩

def A.FBC_CNT_ERR : Nat := 0x40050044
def R.FBC_CNT_ERR_boff : Field := ⟨A.FBC_CNT_ERR, 0, 8⟩
def R.FBC_CNT_ERR_rxovr : Field := ⟨A.FBC_CNT_ERR, 8, 8⟩
def R.FBC_CNT_ERR_pex : Field := ⟨A.FBC_CNT_ERR, 16, 8⟩
def R.FBC_CNT_ERR_dupsrc : Field := ⟨A.FBC_CNT_ERR, 24, 8⟩

def A.FBC_TBk_ID (n : Nat) : Nat := 0x40050100 + 0x80 * n
def R.FBC_TBk_ID_id (n : Nat) : Field := ⟨A.FBC_TBk_ID n, 0, 29⟩
def R.FBC_TBk_ID_xtd (n : Nat) : Field := ⟨A.FBC_TBk_ID n, 29, 1⟩

def A.FBC_TBk_CTL (n : Nat) : Nat := 0x40050104 + 0x80 * n
def R.FBC_TBk_CTL_dlc (n : Nat) : Field := ⟨A.FBC_TBk_CTL n, 0, 4⟩
def R.FBC_TBk_CTL_fdf (n : Nat) : Field := ⟨A.FBC_TBk_CTL n, 4, 1⟩
def R.FBC_TBk_CTL_brs (n : Nat) : Field := ⟨A.FBC_TBk_CTL n, 5, 1⟩
def R.FBC_TBk_CTL_ss (n : Nat) : Field := ⟨A.FBC_TBk_CTL n, 6, 1⟩
def R.FBC_TBk_CTL_rtr (n : Nat) : Field := ⟨A.FBC_TBk_CTL n, 7, 1⟩

def A.FBC_TBk_Dj (n j : Nat) : Nat := 0x40050140 + 0x80 * n + 4 * j
def R.FBC_TBk_Dj_d (n j : Nat) : Field := ⟨A.FBC_TBk_Dj n j, 0, 32⟩

def Regs.fbcPart0 : List RegInfo := [
  ⟨0x40050000, 0x4, 1, 0x4, 1, [⟨0, 1, .rw, .imm, 0⟩, ⟨1, 1, .rw, .imm, 0⟩, ⟨2, 1, .rw, .imm, 1⟩, ⟨3, 1, .cmd, .none, 0⟩, ⟨4,
    1, .rw, .lock, 0⟩, ⟨5, 1, .rw, .lock, 0⟩, ⟨8, 1, .rw, .imm, 0⟩]⟩,
  ⟨0x40050004, 0x4, 1, 0x4, 1, [⟨0, 2, .ro, .none, 0⟩, ⟨2, 1, .ro, .none, 0⟩, ⟨3, 1, .ro, .none, 0⟩, ⟨4, 1, .ro, .none, 0⟩,
    ⟨5, 1, .ro, .none, 0⟩, ⟨6, 1, .ro, .none, 0⟩, ⟨29, 1, .ro, .none, 0⟩, ⟨30, 1, .ro, .none, 0⟩, ⟨31, 1, .w1c, .none, 0⟩]⟩,
  ⟨0x40050008, 0x4, 1, 0x4, 1, [⟨0, 13, .rw, .imm, 0⟩, ⟨31, 1, .rw, .imm, 0⟩]⟩,
  ⟨0x4005000C, 0x4, 1, 0x4, 1, [⟨0, 1, .w1c, .none, 0⟩, ⟨1, 1, .w1c, .none, 0⟩, ⟨2, 1, .w1c, .none, 0⟩, ⟨3, 1, .w1c, .none,
    0⟩, ⟨4, 1, .w1c, .none, 0⟩, ⟨5, 1, .w1c, .none, 0⟩, ⟨6, 1, .w1c, .none, 0⟩, ⟨7, 1, .w1c, .none, 0⟩, ⟨8, 1, .w1c, .none,
    0⟩, ⟨9, 1, .w1c, .none, 0⟩, ⟨10, 1, .w1c, .none, 0⟩, ⟨11, 1, .w1c, .none, 0⟩, ⟨12, 1, .w1c, .none, 0⟩, ⟨31, 1, .w1c,
    .none, 0⟩]⟩,
  ⟨0x40050010, 0x4, 1, 0x4, 1, [⟨0, 9, .rw, .lock, 126⟩, ⟨9, 7, .rw, .lock, 31⟩, ⟨16, 7, .rw, .lock, 31⟩, ⟨23, 5, .rw, .lock,
    0⟩]⟩,
  ⟨0x40050014, 0x4, 1, 0x4, 1, [⟨0, 6, .rw, .lock, 28⟩, ⟨6, 5, .rw, .lock, 9⟩, ⟨11, 5, .rw, .lock, 9⟩, ⟨16, 5, .rw, .lock,
    0⟩, ⟨24, 1, .rw, .lock, 1⟩]⟩,
  ⟨0x40050018, 0x4, 1, 0x4, 1, [⟨0, 7, .rw, .lock, 30⟩, ⟨8, 1, .rw, .lock, 1⟩]⟩,
  ⟨0x4005001C, 0x4, 1, 0x4, 1, [⟨0, 7, .rw, .lock, 1⟩, ⟨16, 1, .rw, .imm, 1⟩]⟩,
  ⟨0x40050020, 0x4, 1, 0x4, 1, [⟨0, 8, .ro, .none, 0⟩, ⟨8, 7, .ro, .none, 0⟩, ⟨15, 1, .ro, .none, 0⟩, ⟨16, 3, .rc, .none, 0⟩,
    ⟨20, 3, .rc, .none, 0⟩]⟩,
  ⟨0x40050024, 0x4, 1, 0x4, 1, [⟨3, 29, .rw, .imm, 0⟩]⟩,
  ⟨0x40050028, 0x4, 1, 0x4, 1, [⟨0, 8, .rw, .imm, 0⟩, ⟨8, 1, .rw, .imm, 0⟩]⟩,
  ⟨0x4005002C, 0x4, 1, 0x4, 1, [⟨4, 28, .rw, .lock, 0⟩]⟩,
  ⟨0x40050030, 0x4, 1, 0x4, 1, [⟨0, 7, .ro, .none, 0⟩, ⟨8, 7, .rw, .imm, 0⟩, ⟨16, 7, .rw, .imm, 0⟩]⟩,
  ⟨0x40050034, 0x4, 1, 0x4, 1, [⟨0, 3, .cmd, .none, 0⟩, ⟨4, 3, .cmd, .none, 0⟩]⟩,
  ⟨0x40050038, 0x4, 1, 0x4, 1, [⟨0, 3, .ro, .none, 0⟩, ⟨4, 3, .w1c, .none, 0⟩, ⟨8, 3, .w1c, .none, 0⟩]⟩,
  ⟨0x4005003C, 0x4, 1, 0x4, 1, [⟨0, 32, .rc, .none, 0⟩]⟩,
  ⟨0x40050040, 0x4, 1, 0x4, 1, [⟨0, 32, .rc, .none, 0⟩]⟩,
  ⟨0x40050044, 0x4, 1, 0x4, 1, [⟨0, 8, .rc, .none, 0⟩, ⟨8, 8, .rc, .none, 0⟩, ⟨16, 8, .rc, .none, 0⟩, ⟨24, 8, .rc, .none, 0⟩]⟩,
  ⟨0x40050100, 0x80, 3, 0x4, 1, [⟨0, 29, .rw, .imm, 0⟩, ⟨29, 1, .rw, .imm, 0⟩]⟩,
  ⟨0x40050104, 0x80, 3, 0x4, 1, [⟨0, 4, .rw, .imm, 0⟩, ⟨4, 1, .rw, .imm, 0⟩, ⟨5, 1, .rw, .imm, 0⟩, ⟨6, 1, .rw, .imm, 0⟩, ⟨7,
    1, .rw, .imm, 0⟩]⟩]

def Regs.fbcPart1 : List RegInfo := [
  ⟨0x40050140, 0x4, 16, 0x80, 3, [⟨0, 32, .rw, .imm, 0⟩]⟩]

/-- The registers of FBC. -/
def Regs.fbc : List RegInfo := Regs.fbcPart0 ++ Regs.fbcPart1

/-! ### RFE -/

def A.RFE_CTRL : Nat := 0x40060000
def R.RFE_CTRL_mode : Field := ⟨A.RFE_CTRL, 0, 2⟩
def R.RFE_CTRL_txen : Field := ⟨A.RFE_CTRL, 4, 1⟩
def R.RFE_CTRL_stop : Field := ⟨A.RFE_CTRL, 5, 1⟩
def R.RFE_CTRL_brsel : Field := ⟨A.RFE_CTRL, 8, 2⟩
def R.RFE_CTRL_tchain : Field := ⟨A.RFE_CTRL, 12, 2⟩
def R.RFE_CTRL_tchan : Field := ⟨A.RFE_CTRL, 16, 6⟩
def R.RFE_CTRL_tpwr : Field := ⟨A.RFE_CTRL, 24, 7⟩

def A.RFE_STAT : Nat := 0x40060004
def R.RFE_STAT_rx_on : Field := ⟨A.RFE_STAT, 0, 1⟩
def R.RFE_STAT_tx_on : Field := ⟨A.RFE_STAT, 1, 1⟩
def R.RFE_STAT_pll_lock : Field := ⟨A.RFE_STAT, 2, 1⟩
def R.RFE_STAT_busy : Field := ⟨A.RFE_STAT, 29, 1⟩
def R.RFE_STAT_shd_pend : Field := ⟨A.RFE_STAT, 30, 1⟩
def R.RFE_STAT_cfg_err : Field := ⟨A.RFE_STAT, 31, 1⟩

def A.RFE_IEN : Nat := 0x40060008
def R.RFE_IEN_en : Field := ⟨A.RFE_IEN, 0, 7⟩
def R.RFE_IEN_cfg_err : Field := ⟨A.RFE_IEN, 31, 1⟩

def A.RFE_IFLG : Nat := 0x4006000C
def R.RFE_IFLG_rx_fail : Field := ⟨A.RFE_IFLG, 0, 1⟩
def R.RFE_IFLG_tx_fail : Field := ⟨A.RFE_IFLG, 1, 1⟩
def R.RFE_IFLG_duty_warn : Field := ⟨A.RFE_IFLG, 2, 1⟩
def R.RFE_IFLG_duty_ref : Field := ⟨A.RFE_IFLG, 3, 1⟩
def R.RFE_IFLG_cut : Field := ⟨A.RFE_IFLG, 4, 1⟩
def R.RFE_IFLG_nf : Field := ⟨A.RFE_IFLG, 5, 1⟩
def R.RFE_IFLG_ovld : Field := ⟨A.RFE_IFLG, 6, 1⟩
def R.RFE_IFLG_cfg_err : Field := ⟨A.RFE_IFLG, 31, 1⟩

def A.RFE_WIN : Nat := 0x40060010
def R.RFE_WIN_fc : Field := ⟨A.RFE_WIN, 0, 14⟩

def A.RFE_PHY : Nat := 0x40060014
def R.RFE_PHY_rxrate : Field := ⟨A.RFE_PHY, 0, 1⟩
def R.RFE_PHY_pre_len : Field := ⟨A.RFE_PHY, 4, 4⟩
def R.RFE_PHY_whiten : Field := ⟨A.RFE_PHY, 8, 1⟩
def R.RFE_PHY_fcs2 : Field := ⟨A.RFE_PHY, 9, 1⟩

def A.RFE_CHMASK_LO : Nat := 0x40060018
def R.RFE_CHMASK_LO_m : Field := ⟨A.RFE_CHMASK_LO, 0, 32⟩

def A.RFE_CHMASK_HI : Nat := 0x4006001C
def R.RFE_CHMASK_HI_m : Field := ⟨A.RFE_CHMASK_HI, 0, 32⟩

def A.RFE_BRANCH : Nat := 0x40060020
def R.RFE_BRANCH_ok : Field := ⟨A.RFE_BRANCH, 0, 2⟩

def A.RFE_TXOK : Nat := 0x40060024
def R.RFE_TXOK_ok : Field := ⟨A.RFE_TXOK, 0, 4⟩

def A.RFE_MON : Nat := 0x40060028
def R.RFE_MON_fwd_tol : Field := ⟨A.RFE_MON, 0, 8⟩
def R.RFE_MON_rl_min : Field := ⟨A.RFE_MON, 8, 8⟩
def R.RFE_MON_nf_lo : Field := ⟨A.RFE_MON, 16, 8⟩
def R.RFE_MON_nf_hi : Field := ⟨A.RFE_MON, 24, 8⟩

def A.RFE_NFCAL : Nat := 0x4006002C
def R.RFE_NFCAL_nf_a : Field := ⟨A.RFE_NFCAL, 0, 16⟩
def R.RFE_NFCAL_nf_b : Field := ⟨A.RFE_NFCAL, 16, 16⟩

def A.RFE_RSSI_TRIM : Nat := 0x40060030
def R.RFE_RSSI_TRIM_a : Field := ⟨A.RFE_RSSI_TRIM, 0, 8⟩
def R.RFE_RSSI_TRIM_b : Field := ⟨A.RFE_RSSI_TRIM, 8, 8⟩

def A.RFE_CNT_RX : Nat := 0x40060034
def R.RFE_CNT_RX_n : Field := ⟨A.RFE_CNT_RX, 0, 32⟩

def A.RFE_CNT_ERR : Nat := 0x40060038
def R.RFE_CNT_ERR_phr : Field := ⟨A.RFE_CNT_ERR, 0, 16⟩
def R.RFE_CNT_ERR_fcs : Field := ⟨A.RFE_CNT_ERR, 16, 16⟩

def A.RFE_CNT_CUT : Nat := 0x4006003C
def R.RFE_CNT_CUT_rx : Field := ⟨A.RFE_CNT_CUT, 0, 16⟩
def R.RFE_CNT_CUT_tx : Field := ⟨A.RFE_CNT_CUT, 16, 16⟩

def A.RFE_BANDb_EDGE (n : Nat) : Nat := 0x40060040 + 0x10 * n
def R.RFE_BANDb_EDGE_lo (n : Nat) : Field := ⟨A.RFE_BANDb_EDGE n, 0, 14⟩
def R.RFE_BANDb_EDGE_hi (n : Nat) : Field := ⟨A.RFE_BANDb_EDGE n, 16, 14⟩
def R.RFE_BANDb_EDGE_en (n : Nat) : Field := ⟨A.RFE_BANDb_EDGE n, 31, 1⟩

def A.RFE_BANDb_LIM (n : Nat) : Nat := 0x40060044 + 0x10 * n
def R.RFE_BANDb_LIM_pmax (n : Nat) : Field := ⟨A.RFE_BANDb_LIM n, 0, 7⟩
def R.RFE_BANDb_LIM_duty (n : Nat) : Field := ⟨A.RFE_BANDb_LIM n, 16, 14⟩

def A.RFE_BANDb_RSV (n : Nat) : Nat := 0x40060048 + 0x10 * n
def R.RFE_BANDb_RSV_rsv (n : Nat) : Field := ⟨A.RFE_BANDb_RSV n, 0, 14⟩
def R.RFE_BANDb_RSV_warn (n : Nat) : Field := ⟨A.RFE_BANDb_RSV n, 16, 7⟩

def A.RFE_DUTY_SEL : Nat := 0x40060080
def R.RFE_DUTY_SEL_chain : Field := ⟨A.RFE_DUTY_SEL, 0, 2⟩
def R.RFE_DUTY_SEL_band : Field := ⟨A.RFE_DUTY_SEL, 4, 2⟩
def R.RFE_DUTY_SEL_bkt : Field := ⟨A.RFE_DUTY_SEL, 8, 6⟩

def A.RFE_DUTY_USED : Nat := 0x40060084
def R.RFE_DUTY_USED_us : Field := ⟨A.RFE_DUTY_USED, 0, 32⟩

def A.RFE_DUTY_BKT : Nat := 0x40060088
def R.RFE_DUTY_BKT_us : Field := ⟨A.RFE_DUTY_BKT, 0, 32⟩

def A.RFE_CNT_REF : Nat := 0x4006008C
def R.RFE_CNT_REF_duty : Field := ⟨A.RFE_CNT_REF, 0, 8⟩
def R.RFE_CNT_REF_band : Field := ⟨A.RFE_CNT_REF, 8, 8⟩
def R.RFE_CNT_REF_sep : Field := ⟨A.RFE_CNT_REF, 16, 8⟩
def R.RFE_CNT_REF_late : Field := ⟨A.RFE_CNT_REF, 24, 8⟩

def A.RFE_CHc_MON (n : Nat) : Nat := 0x400600A0 + 0x4 * n
def R.RFE_CHc_MON_fwd (n : Nat) : Field := ⟨A.RFE_CHc_MON n, 0, 8⟩
def R.RFE_CHc_MON_rl (n : Nat) : Field := ⟨A.RFE_CHc_MON n, 8, 8⟩
def R.RFE_CHc_MON_cause (n : Nat) : Field := ⟨A.RFE_CHc_MON n, 16, 3⟩

def A.RFE_BRb_MON (n : Nat) : Nat := 0x400600B0 + 0x4 * n
def R.RFE_BRb_MON_nf (n : Nat) : Field := ⟨A.RFE_BRb_MON n, 0, 16⟩
def R.RFE_BRb_MON_det (n : Nat) : Field := ⟨A.RFE_BRb_MON n, 16, 8⟩
def R.RFE_BRb_MON_cause (n : Nat) : Field := ⟨A.RFE_BRb_MON n, 24, 3⟩

def A.RFE_NFCH_SEL : Nat := 0x400600C0
def R.RFE_NFCH_SEL_chan : Field := ⟨A.RFE_NFCH_SEL, 0, 6⟩

def A.RFE_NFCH : Nat := 0x400600C4
def R.RFE_NFCH_nf_a : Field := ⟨A.RFE_NFCH, 0, 16⟩
def R.RFE_NFCH_nf_b : Field := ⟨A.RFE_NFCH, 16, 16⟩

def Regs.rfePart0 : List RegInfo := [
  ⟨0x40060000, 0x4, 1, 0x4, 1, [⟨0, 2, .rw, .shadow .path, 0⟩, ⟨4, 1, .rw, .imm, 0⟩, ⟨5, 1, .cmd, .none, 0⟩, ⟨8, 2, .rw,
    .shadow .path, 0⟩, ⟨12, 2, .rw, .lock, 0⟩, ⟨16, 6, .rw, .lock, 0⟩, ⟨24, 7, .rw, .lock, 0⟩]⟩,
  ⟨0x40060004, 0x4, 1, 0x4, 1, [⟨0, 1, .ro, .none, 0⟩, ⟨1, 1, .ro, .none, 0⟩, ⟨2, 1, .ro, .none, 0⟩, ⟨29, 1, .ro, .none, 0⟩,
    ⟨30, 1, .ro, .none, 0⟩, ⟨31, 1, .w1c, .none, 0⟩]⟩,
  ⟨0x40060008, 0x4, 1, 0x4, 1, [⟨0, 7, .rw, .imm, 0⟩, ⟨31, 1, .rw, .imm, 0⟩]⟩,
  ⟨0x4006000C, 0x4, 1, 0x4, 1, [⟨0, 1, .w1c, .none, 0⟩, ⟨1, 1, .w1c, .none, 0⟩, ⟨2, 1, .w1c, .none, 0⟩, ⟨3, 1, .w1c, .none,
    0⟩, ⟨4, 1, .w1c, .none, 0⟩, ⟨5, 1, .w1c, .none, 0⟩, ⟨6, 1, .w1c, .none, 0⟩, ⟨31, 1, .w1c, .none, 0⟩]⟩,
  ⟨0x40060010, 0x4, 1, 0x4, 1, [⟨0, 14, .rw, .lock, 0x21e8⟩]⟩,
  ⟨0x40060014, 0x4, 1, 0x4, 1, [⟨0, 1, .rw, .shadow .path, 1⟩, ⟨4, 4, .rw, .shadow .path, 8⟩, ⟨8, 1, .rw, .shadow .path, 1⟩,
    ⟨9, 1, .rw, .shadow .path, 0⟩]⟩,
  ⟨0x40060018, 0x4, 1, 0x4, 1, [⟨0, 32, .rw, .shadow .path, 0⟩]⟩,
  ⟨0x4006001C, 0x4, 1, 0x4, 1, [⟨0, 32, .rw, .shadow .path, 0⟩]⟩,
  ⟨0x40060020, 0x4, 1, 0x4, 1, [⟨0, 2, .sc, .imm, 3⟩]⟩,
  ⟨0x40060024, 0x4, 1, 0x4, 1, [⟨0, 4, .sc, .imm, 15⟩]⟩,
  ⟨0x40060028, 0x4, 1, 0x4, 1, [⟨0, 8, .rw, .imm, 6⟩, ⟨8, 8, .rw, .imm, 12⟩, ⟨16, 8, .rw, .imm, 10⟩, ⟨24, 8, .rw, .imm, 20⟩]⟩,
  ⟨0x4006002C, 0x4, 1, 0x4, 1, [⟨0, 16, .rw, .imm, 0xff14⟩, ⟨16, 16, .rw, .imm, 0xff14⟩]⟩,
  ⟨0x40060030, 0x4, 1, 0x4, 1, [⟨0, 8, .rw, .imm, 0⟩, ⟨8, 8, .rw, .imm, 0⟩]⟩,
  ⟨0x40060034, 0x4, 1, 0x4, 1, [⟨0, 32, .rc, .none, 0⟩]⟩,
  ⟨0x40060038, 0x4, 1, 0x4, 1, [⟨0, 16, .rc, .none, 0⟩, ⟨16, 16, .rc, .none, 0⟩]⟩,
  ⟨0x4006003C, 0x4, 1, 0x4, 1, [⟨0, 16, .rc, .none, 0⟩, ⟨16, 16, .rc, .none, 0⟩]⟩,
  ⟨0x40060040, 0x10, 4, 0x4, 1, [⟨0, 14, .rw, .shadow .path, 0⟩, ⟨16, 14, .rw, .shadow .path, 0⟩, ⟨31, 1, .rw, .shadow .path,
    0⟩]⟩,
  ⟨0x40060044, 0x10, 4, 0x4, 1, [⟨0, 7, .rw, .shadow .path, 0⟩, ⟨16, 14, .rw, .shadow .path, 0⟩]⟩,
  ⟨0x40060048, 0x10, 4, 0x4, 1, [⟨0, 14, .rw, .shadow .path, 0⟩, ⟨16, 7, .rw, .shadow .path, 90⟩]⟩,
  ⟨0x40060080, 0x4, 1, 0x4, 1, [⟨0, 2, .rw, .imm, 0⟩, ⟨4, 2, .rw, .imm, 0⟩, ⟨8, 6, .rw, .imm, 0⟩]⟩]

def Regs.rfePart1 : List RegInfo := [
  ⟨0x40060084, 0x4, 1, 0x4, 1, [⟨0, 32, .ro, .none, 0⟩]⟩,
  ⟨0x40060088, 0x4, 1, 0x4, 1, [⟨0, 32, .rw, .lock, 0⟩]⟩,
  ⟨0x4006008C, 0x4, 1, 0x4, 1, [⟨0, 8, .rc, .none, 0⟩, ⟨8, 8, .rc, .none, 0⟩, ⟨16, 8, .rc, .none, 0⟩, ⟨24, 8, .rc, .none, 0⟩]⟩,
  ⟨0x400600A0, 0x4, 4, 0x4, 1, [⟨0, 8, .ro, .none, 0⟩, ⟨8, 8, .ro, .none, 0⟩, ⟨16, 3, .ro, .none, 0⟩]⟩,
  ⟨0x400600B0, 0x4, 2, 0x4, 1, [⟨0, 16, .ro, .none, 0⟩, ⟨16, 8, .ro, .none, 0⟩, ⟨24, 3, .ro, .none, 0⟩]⟩,
  ⟨0x400600C0, 0x4, 1, 0x4, 1, [⟨0, 6, .rw, .imm, 0⟩]⟩,
  ⟨0x400600C4, 0x4, 1, 0x4, 1, [⟨0, 16, .ro, .none, 0⟩, ⟨16, 16, .ro, .none, 0⟩]⟩]

/-- The registers of RFE. -/
def Regs.rfe : List RegInfo := Regs.rfePart0 ++ Regs.rfePart1

/-! ### TTE -/

def A.TTE_CTRL : Nat := 0x40070000
def R.TTE_CTRL_run : Field := ⟨A.TTE_CTRL, 0, 1⟩
def R.TTE_CTRL_open : Field := ⟨A.TTE_CTRL, 4, 1⟩
def R.TTE_CTRL_follow : Field := ⟨A.TTE_CTRL, 8, 1⟩

def A.TTE_STAT : Nat := 0x40070004
def R.TTE_STAT_open : Field := ⟨A.TTE_STAT, 0, 1⟩
def R.TTE_STAT_keys : Field := ⟨A.TTE_STAT, 1, 1⟩
def R.TTE_STAT_own : Field := ⟨A.TTE_STAT, 2, 1⟩
def R.TTE_STAT_psdu_max : Field := ⟨A.TTE_STAT, 8, 8⟩
def R.TTE_STAT_n_ch : Field := ⟨A.TTE_STAT, 16, 7⟩
def R.TTE_STAT_busy : Field := ⟨A.TTE_STAT, 29, 1⟩
def R.TTE_STAT_shd_pend : Field := ⟨A.TTE_STAT, 30, 1⟩
def R.TTE_STAT_cfg_err : Field := ⟨A.TTE_STAT, 31, 1⟩

def A.TTE_IEN : Nat := 0x40070008
def R.TTE_IEN_en : Field := ⟨A.TTE_IEN, 0, 8⟩
def R.TTE_IEN_cfg_err : Field := ⟨A.TTE_IEN, 31, 1⟩

def A.TTE_IFLG : Nat := 0x4007000C
def R.TTE_IFLG_rx : Field := ⟨A.TTE_IFLG, 0, 1⟩
def R.TTE_IFLG_bcn : Field := ⟨A.TTE_IFLG, 1, 1⟩
def R.TTE_IFLG_silent : Field := ⟨A.TTE_IFLG, 2, 1⟩
def R.TTE_IFLG_drop : Field := ⟨A.TTE_IFLG, 3, 1⟩
def R.TTE_IFLG_qfull : Field := ⟨A.TTE_IFLG, 4, 1⟩
def R.TTE_IFLG_drift : Field := ⟨A.TTE_IFLG, 5, 1⟩
def R.TTE_IFLG_stop : Field := ⟨A.TTE_IFLG, 6, 1⟩
def R.TTE_IFLG_plan : Field := ⟨A.TTE_IFLG, 7, 1⟩
def R.TTE_IFLG_cfg_err : Field := ⟨A.TTE_IFLG, 31, 1⟩

def A.TTE_TIMING : Nat := 0x40070010
def R.TTE_TIMING_guard : Field := ⟨A.TTE_TIMING, 0, 8⟩
def R.TTE_TIMING_silent_n : Field := ⟨A.TTE_TIMING, 8, 4⟩
def R.TTE_TIMING_drift : Field := ⟨A.TTE_TIMING, 16, 8⟩

def A.TTE_CFG : Nat := 0x40070014
def R.TTE_CFG_fec : Field := ⟨A.TTE_CFG, 0, 1⟩
def R.TTE_CFG_pwr : Field := ⟨A.TTE_CFG, 8, 7⟩
def R.TTE_CFG_bcnpwr : Field := ⟨A.TTE_CFG, 16, 7⟩

def A.TTE_CHL_LO : Nat := 0x40070018
def R.TTE_CHL_LO_m : Field := ⟨A.TTE_CHL_LO, 0, 32⟩

def A.TTE_CHL_HI : Nat := 0x4007001C
def R.TTE_CHL_HI_m : Field := ⟨A.TTE_CHL_HI, 0, 32⟩

def A.TTE_BCNCH : Nat := 0x40070020
def R.TTE_BCNCH_ch0 : Field := ⟨A.TTE_BCNCH, 0, 6⟩
def R.TTE_BCNCH_ch1 : Field := ⟨A.TTE_BCNCH, 8, 6⟩
def R.TTE_BCNCH_ch2 : Field := ⟨A.TTE_BCNCH, 16, 6⟩
def R.TTE_BCNCH_ch3 : Field := ⟨A.TTE_BCNCH, 24, 6⟩

def A.TTE_JOIN : Nat := 0x40070024
def R.TTE_JOIN_cnt : Field := ⟨A.TTE_JOIN, 0, 2⟩

def A.TTE_SHARE : Nat := 0x40070028
def R.TTE_SHARE_alrm : Field := ⟨A.TTE_SHARE, 0, 3⟩
def R.TTE_SHARE_pres : Field := ⟨A.TTE_SHARE, 4, 3⟩
def R.TTE_SHARE_map : Field := ⟨A.TTE_SHARE, 8, 4⟩

def A.TTE_PLAN_A : Nat := 0x4007002C
def R.TTE_PLAN_A_addr : Field := ⟨A.TTE_PLAN_A, 16, 16⟩

def A.TTE_PLAN_B : Nat := 0x40070030
def R.TTE_PLAN_B_addr : Field := ⟨A.TTE_PLAN_B, 16, 16⟩

def A.TTE_PLANSEL : Nat := 0x40070034
def R.TTE_PLANSEL_sel : Field := ⟨A.TTE_PLANSEL, 0, 1⟩

def A.TTE_NST : Nat := 0x40070038
def R.TTE_NST_addr : Field := ⟨A.TTE_NST, 17, 15⟩

def A.TTE_FPT : Nat := 0x4007003C
def R.TTE_FPT_addr : Field := ⟨A.TTE_FPT, 15, 17⟩

def A.TTE_RXQ : Nat := 0x40070040
def R.TTE_RXQ_base : Field := ⟨A.TTE_RXQ, 0, 5⟩

def A.TTE_TXQ : Nat := 0x40070044
def R.TTE_TXQ_base : Field := ⟨A.TTE_TXQ, 0, 5⟩

def A.TTE_SILENT : Nat := 0x40070048
def R.TTE_SILENT_addr : Field := ⟨A.TTE_SILENT, 0, 13⟩
def R.TTE_SILENT_valid : Field := ⟨A.TTE_SILENT, 31, 1⟩

def A.TTE_HOP_SEL : Nat := 0x4007004C
def R.TTE_HOP_SEL_idx : Field := ⟨A.TTE_HOP_SEL, 0, 12⟩

def A.TTE_HOP : Nat := 0x40070050
def R.TTE_HOP_hop : Field := ⟨A.TTE_HOP, 0, 6⟩

def A.TTE_CNT_RX : Nat := 0x40070054
def R.TTE_CNT_RX_n : Field := ⟨A.TTE_CNT_RX, 0, 32⟩

def A.TTE_CNT_DROP : Nat := 0x40070058
def R.TTE_CNT_DROP_rx : Field := ⟨A.TTE_CNT_DROP, 0, 16⟩
def R.TTE_CNT_DROP_tx : Field := ⟨A.TTE_CNT_DROP, 16, 16⟩

def Regs.ttePart0 : List RegInfo := [
  ⟨0x40070000, 0x4, 1, 0x4, 1, [⟨0, 1, .rw, .imm, 0⟩, ⟨4, 1, .cmd, .none, 0⟩, ⟨8, 1, .rw, .lock, 0⟩]⟩,
  ⟨0x40070004, 0x4, 1, 0x4, 1, [⟨0, 1, .ro, .none, 0⟩, ⟨1, 1, .ro, .none, 0⟩, ⟨2, 1, .ro, .none, 0⟩, ⟨8, 8, .ro, .none, 84⟩,
    ⟨16, 7, .ro, .none, 64⟩, ⟨29, 1, .ro, .none, 0⟩, ⟨30, 1, .ro, .none, 0⟩, ⟨31, 1, .w1c, .none, 0⟩]⟩,
  ⟨0x40070008, 0x4, 1, 0x4, 1, [⟨0, 8, .rw, .imm, 0⟩, ⟨31, 1, .rw, .imm, 0⟩]⟩,
  ⟨0x4007000C, 0x4, 1, 0x4, 1, [⟨0, 1, .w1c, .none, 0⟩, ⟨1, 1, .w1c, .none, 0⟩, ⟨2, 1, .w1c, .none, 0⟩, ⟨3, 1, .w1c, .none,
    0⟩, ⟨4, 1, .w1c, .none, 0⟩, ⟨5, 1, .w1c, .none, 0⟩, ⟨6, 1, .w1c, .none, 0⟩, ⟨7, 1, .w1c, .none, 0⟩, ⟨31, 1, .w1c, .none,
    0⟩]⟩,
  ⟨0x40070010, 0x4, 1, 0x4, 1, [⟨0, 8, .rw, .shadow .timetable, 100⟩, ⟨8, 4, .rw, .imm, 3⟩, ⟨16, 8, .rw, .imm, 50⟩]⟩,
  ⟨0x40070014, 0x4, 1, 0x4, 1, [⟨0, 1, .rw, .shadow .path, 0⟩, ⟨8, 7, .rw, .shadow .path, 48⟩, ⟨16, 7, .rw, .shadow .path,
    48⟩]⟩,
  ⟨0x40070018, 0x4, 1, 0x4, 1, [⟨0, 32, .rw, .lock, 0xffffffff⟩]⟩,
  ⟨0x4007001C, 0x4, 1, 0x4, 1, [⟨0, 32, .rw, .lock, 0xffffffff⟩]⟩,
  ⟨0x40070020, 0x4, 1, 0x4, 1, [⟨0, 6, .rw, .lock, 0⟩, ⟨8, 6, .rw, .lock, 21⟩, ⟨16, 6, .rw, .lock, 42⟩, ⟨24, 6, .rw, .lock,
    63⟩]⟩,
  ⟨0x40070024, 0x4, 1, 0x4, 1, [⟨0, 2, .rw, .shadow .timetable, 0⟩]⟩,
  ⟨0x40070028, 0x4, 1, 0x4, 1, [⟨0, 3, .rw, .shadow .timetable, 1⟩, ⟨4, 3, .rw, .shadow .timetable, 2⟩, ⟨8, 4, .rw, .shadow
    .timetable, 15⟩]⟩,
  ⟨0x4007002C, 0x4, 1, 0x4, 1, [⟨16, 16, .rw, .lock, 0x8000⟩]⟩,
  ⟨0x40070030, 0x4, 1, 0x4, 1, [⟨16, 16, .rw, .lock, 0x8001⟩]⟩,
  ⟨0x40070034, 0x4, 1, 0x4, 1, [⟨0, 1, .rw, .shadow .timetable, 0⟩]⟩,
  ⟨0x40070038, 0x4, 1, 0x4, 1, [⟨17, 15, .rw, .lock, 0x4001⟩]⟩,
  ⟨0x4007003C, 0x4, 1, 0x4, 1, [⟨15, 17, .rw, .lock, 0x10008⟩]⟩,
  ⟨0x40070040, 0x4, 1, 0x4, 1, [⟨0, 5, .rw, .lock, 0⟩]⟩,
  ⟨0x40070044, 0x4, 1, 0x4, 1, [⟨0, 5, .rw, .lock, 4⟩]⟩,
  ⟨0x40070048, 0x4, 1, 0x4, 1, [⟨0, 13, .rc, .none, 0⟩, ⟨31, 1, .rc, .none, 0⟩]⟩,
  ⟨0x4007004C, 0x4, 1, 0x4, 1, [⟨0, 12, .rw, .imm, 0⟩]⟩]

def Regs.ttePart1 : List RegInfo := [
  ⟨0x40070050, 0x4, 1, 0x4, 1, [⟨0, 6, .ro, .none, 0⟩]⟩,
  ⟨0x40070054, 0x4, 1, 0x4, 1, [⟨0, 32, .rc, .none, 0⟩]⟩,
  ⟨0x40070058, 0x4, 1, 0x4, 1, [⟨0, 16, .rc, .none, 0⟩, ⟨16, 16, .rc, .none, 0⟩]⟩]

/-- The registers of TTE. -/
def Regs.tte : List RegInfo := Regs.ttePart0 ++ Regs.ttePart1

/-! ### KVT -/

def A.KVT_CTRL : Nat := 0x40080000
def R.KVT_CTRL_run : Field := ⟨A.KVT_CTRL, 0, 1⟩
def R.KVT_CTRL_regen : Field := ⟨A.KVT_CTRL, 4, 1⟩
def R.KVT_CTRL_zeroize : Field := ⟨A.KVT_CTRL, 5, 1⟩
def R.KVT_CTRL_wipe : Field := ⟨A.KVT_CTRL, 6, 1⟩
def R.KVT_CTRL_hopload : Field := ⟨A.KVT_CTRL, 8, 1⟩
def R.KVT_CTRL_flushall : Field := ⟨A.KVT_CTRL, 9, 1⟩

def A.KVT_STAT : Nat := 0x40080004
def R.KVT_STAT_vstate : Field := ⟨A.KVT_STAT, 0, 2⟩
def R.KVT_STAT_cause : Field := ⟨A.KVT_STAT, 4, 2⟩
def R.KVT_STAT_cmd_busy : Field := ⟨A.KVT_STAT, 8, 1⟩
def R.KVT_STAT_hop : Field := ⟨A.KVT_STAT, 9, 1⟩
def R.KVT_STAT_busy : Field := ⟨A.KVT_STAT, 29, 1⟩
def R.KVT_STAT_shd_pend : Field := ⟨A.KVT_STAT, 30, 1⟩
def R.KVT_STAT_cfg_err : Field := ⟨A.KVT_STAT, 31, 1⟩

def A.KVT_IEN : Nat := 0x40080008
def R.KVT_IEN_en : Field := ⟨A.KVT_IEN, 0, 6⟩
def R.KVT_IEN_cfg_err : Field := ⟨A.KVT_IEN, 31, 1⟩

def A.KVT_IFLG : Nat := 0x4008000C
def R.KVT_IFLG_done : Field := ⟨A.KVT_IFLG, 0, 1⟩
def R.KVT_IFLG_err : Field := ⟨A.KVT_IFLG, 1, 1⟩
def R.KVT_IFLG_gen : Field := ⟨A.KVT_IFLG, 2, 1⟩
def R.KVT_IFLG_ceil : Field := ⟨A.KVT_IFLG, 3, 1⟩
def R.KVT_IFLG_zero : Field := ⟨A.KVT_IFLG, 4, 1⟩
def R.KVT_IFLG_health : Field := ⟨A.KVT_IFLG, 5, 1⟩
def R.KVT_IFLG_cfg_err : Field := ⟨A.KVT_IFLG, 31, 1⟩

def A.KVT_CMD_ADDR : Nat := 0x40080010
def R.KVT_CMD_ADDR_addr : Field := ⟨A.KVT_CMD_ADDR, 5, 27⟩

def A.KVT_CMD_GO : Nat := 0x40080014
def R.KVT_CMD_GO_go : Field := ⟨A.KVT_CMD_GO, 0, 1⟩
def R.KVT_CMD_GO_abort : Field := ⟨A.KVT_CMD_GO, 1, 1⟩

def A.KVT_CMD_RES : Nat := 0x40080018
def R.KVT_CMD_RES_res : Field := ⟨A.KVT_CMD_RES, 0, 4⟩
def R.KVT_CMD_RES_sub : Field := ⟨A.KVT_CMD_RES, 8, 4⟩

def A.KVT_SLOT_SEL : Nat := 0x40080020
def R.KVT_SLOT_SEL_slot : Field := ⟨A.KVT_SLOT_SEL, 0, 6⟩

def A.KVT_SLOT_INFO : Nat := 0x40080024
def R.KVT_SLOT_INFO_kind : Field := ⟨A.KVT_SLOT_INFO, 0, 4⟩
def R.KVT_SLOT_INFO_usage : Field := ⟨A.KVT_SLOT_INFO, 8, 5⟩
def R.KVT_SLOT_INFO_gen : Field := ⟨A.KVT_SLOT_INFO, 16, 16⟩

def A.KVT_JT : Nat := 0x40080028
def R.KVT_JT_addr : Field := ⟨A.KVT_JT, 5, 27⟩

def A.KVT_JT_N : Nat := 0x4008002C
def R.KVT_JT_N_n : Field := ⟨A.KVT_JT_N, 0, 13⟩

def A.KVT_LI : Nat := 0x40080030
def R.KVT_LI_addr : Field := ⟨A.KVT_LI, 18, 14⟩

def A.KVT_CFLUSH : Nat := 0x40080034
def R.KVT_CFLUSH_short : Field := ⟨A.KVT_CFLUSH, 0, 13⟩

def A.KVT_EP : Nat := 0x40080038
def R.KVT_EP_sel : Field := ⟨A.KVT_EP, 0, 1⟩

def A.KVT_CNT : Nat := 0x4008003C
def R.KVT_CNT_miss : Field := ⟨A.KVT_CNT, 0, 16⟩
def R.KVT_CNT_genref : Field := ⟨A.KVT_CNT, 16, 8⟩
def R.KVT_CNT_ceilref : Field := ⟨A.KVT_CNT, 24, 8⟩

def A.KVT_ZLOG : Nat := 0x40080040
def R.KVT_ZLOG_cause : Field := ⟨A.KVT_ZLOG, 0, 4⟩
def R.KVT_ZLOG_tmp : Field := ⟨A.KVT_ZLOG, 4, 4⟩

def A.KVT_CTXc_CFG (n : Nat) : Nat := 0x40080100 + 0x10 * n
def R.KVT_CTXc_CFG_en (n : Nat) : Field := ⟨A.KVT_CTXc_CFG n, 0, 1⟩
def R.KVT_CTXc_CFG_load (n : Nat) : Field := ⟨A.KVT_CTXc_CFG n, 4, 1⟩
def R.KVT_CTXc_CFG_src (n : Nat) : Field := ⟨A.KVT_CTXc_CFG n, 5, 1⟩
def R.KVT_CTXc_CFG_epoch (n : Nat) : Field := ⟨A.KVT_CTXc_CFG n, 8, 8⟩
def R.KVT_CTXc_CFG_pgen (n : Nat) : Field := ⟨A.KVT_CTXc_CFG n, 16, 16⟩

def A.KVT_CTXc_CTR (n : Nat) : Nat := 0x40080104 + 0x10 * n
def R.KVT_CTXc_CTR_ctr (n : Nat) : Field := ⟨A.KVT_CTXc_CTR n, 0, 32⟩

def A.KVT_CTXc_CEIL (n : Nat) : Nat := 0x40080108 + 0x10 * n
def R.KVT_CTXc_CEIL_ceil (n : Nat) : Field := ⟨A.KVT_CTXc_CEIL n, 0, 32⟩

def A.KVT_CTXc_NCEIL (n : Nat) : Nat := 0x4008010C + 0x10 * n
def R.KVT_CTXc_NCEIL_ceil (n : Nat) : Field := ⟨A.KVT_CTXc_NCEIL n, 0, 32⟩

def Regs.kvtPart0 : List RegInfo := [
  ⟨0x40080000, 0x4, 1, 0x4, 1, [⟨0, 1, .rw, .imm, 0⟩, ⟨4, 1, .cmd, .none, 0⟩, ⟨5, 1, .cmd, .none, 0⟩, ⟨6, 1, .cmd, .none, 0⟩,
    ⟨8, 1, .cmd, .none, 0⟩, ⟨9, 1, .cmd, .none, 0⟩]⟩,
  ⟨0x40080004, 0x4, 1, 0x4, 1, [⟨0, 2, .ro, .none, 3⟩, ⟨4, 2, .ro, .none, 0⟩, ⟨8, 1, .ro, .none, 0⟩, ⟨9, 1, .ro, .none, 0⟩,
    ⟨29, 1, .ro, .none, 0⟩, ⟨30, 1, .ro, .none, 0⟩, ⟨31, 1, .w1c, .none, 0⟩]⟩,
  ⟨0x40080008, 0x4, 1, 0x4, 1, [⟨0, 6, .rw, .imm, 0⟩, ⟨31, 1, .rw, .imm, 0⟩]⟩,
  ⟨0x4008000C, 0x4, 1, 0x4, 1, [⟨0, 1, .w1c, .none, 0⟩, ⟨1, 1, .w1c, .none, 0⟩, ⟨2, 1, .w1c, .none, 0⟩, ⟨3, 1, .w1c, .none,
    0⟩, ⟨4, 1, .w1c, .none, 0⟩, ⟨5, 1, .w1c, .none, 0⟩, ⟨31, 1, .w1c, .none, 0⟩]⟩,
  ⟨0x40080010, 0x4, 1, 0x4, 1, [⟨5, 27, .rw, .imm, 0⟩]⟩,
  ⟨0x40080014, 0x4, 1, 0x4, 1, [⟨0, 1, .cmd, .none, 0⟩, ⟨1, 1, .cmd, .none, 0⟩]⟩,
  ⟨0x40080018, 0x4, 1, 0x4, 1, [⟨0, 4, .ro, .none, 0⟩, ⟨8, 4, .ro, .none, 0⟩]⟩,
  ⟨0x40080020, 0x4, 1, 0x4, 1, [⟨0, 6, .rw, .imm, 0⟩]⟩,
  ⟨0x40080024, 0x4, 1, 0x4, 1, [⟨0, 4, .ro, .none, 0⟩, ⟨8, 5, .ro, .none, 0⟩, ⟨16, 16, .ro, .none, 0⟩]⟩,
  ⟨0x40080028, 0x4, 1, 0x4, 1, [⟨5, 27, .rw, .imm, 0⟩]⟩,
  ⟨0x4008002C, 0x4, 1, 0x4, 1, [⟨0, 13, .rw, .imm, 0⟩]⟩,
  ⟨0x40080030, 0x4, 1, 0x4, 1, [⟨18, 14, .rw, .lock, 0x2002⟩]⟩,
  ⟨0x40080034, 0x4, 1, 0x4, 1, [⟨0, 13, .wo, .none, 0⟩]⟩,
  ⟨0x40080038, 0x4, 1, 0x4, 1, [⟨0, 1, .rw, .shadow .timetable, 0⟩]⟩,
  ⟨0x4008003C, 0x4, 1, 0x4, 1, [⟨0, 16, .rc, .none, 0⟩, ⟨16, 8, .rc, .none, 0⟩, ⟨24, 8, .rc, .none, 0⟩]⟩,
  ⟨0x40080040, 0x4, 1, 0x4, 1, [⟨0, 4, .ro, .none, 0⟩, ⟨4, 4, .ro, .none, 0⟩]⟩,
  ⟨0x40080100, 0x10, 3, 0x4, 1, [⟨0, 1, .rw, .imm, 0⟩, ⟨4, 1, .cmd, .none, 0⟩, ⟨5, 1, .rw, .lock, 0⟩, ⟨8, 8, .rw, .lock, 0⟩,
    ⟨16, 16, .ro, .none, 0⟩]⟩,
  ⟨0x40080104, 0x10, 3, 0x4, 1, [⟨0, 32, .rw, .lock, 1⟩]⟩,
  ⟨0x40080108, 0x10, 3, 0x4, 1, [⟨0, 32, .rw, .imm, 0⟩]⟩,
  ⟨0x4008010C, 0x10, 3, 0x4, 1, [⟨0, 32, .rw, .imm, 0⟩]⟩]

/-- The registers of KVT. -/
def Regs.kvt : List RegInfo := Regs.kvtPart0

/-! ### MTR -/

def A.MTR_CTRL : Nat := 0x40090000
def R.MTR_CTRL_run : Field := ⟨A.MTR_CTRL, 0, 1⟩
def R.MTR_CTRL_load : Field := ⟨A.MTR_CTRL, 4, 1⟩
def R.MTR_CTRL_save : Field := ⟨A.MTR_CTRL, 5, 1⟩
def R.MTR_CTRL_clear : Field := ⟨A.MTR_CTRL, 6, 1⟩
def R.MTR_CTRL_close : Field := ⟨A.MTR_CTRL, 7, 1⟩
def R.MTR_CTRL_ckdrv : Field := ⟨A.MTR_CTRL, 8, 2⟩

def A.MTR_STAT : Nat := 0x40090004
def R.MTR_STAT_aligned : Field := ⟨A.MTR_STAT, 0, 1⟩
def R.MTR_STAT_save_busy : Field := ⟨A.MTR_STAT, 1, 1⟩
def R.MTR_STAT_ck_drv : Field := ⟨A.MTR_STAT, 2, 1⟩
def R.MTR_STAT_load_res : Field := ⟨A.MTR_STAT, 4, 2⟩
def R.MTR_STAT_busy : Field := ⟨A.MTR_STAT, 29, 1⟩
def R.MTR_STAT_shd_pend : Field := ⟨A.MTR_STAT, 30, 1⟩
def R.MTR_STAT_cfg_err : Field := ⟨A.MTR_STAT, 31, 1⟩

def A.MTR_IEN : Nat := 0x40090008
def R.MTR_IEN_en : Field := ⟨A.MTR_IEN, 0, 6⟩
def R.MTR_IEN_cfg_err : Field := ⟨A.MTR_IEN, 31, 1⟩

def A.MTR_IFLG : Nat := 0x4009000C
def R.MTR_IFLG_close : Field := ⟨A.MTR_IFLG, 0, 1⟩
def R.MTR_IFLG_save : Field := ⟨A.MTR_IFLG, 1, 1⟩
def R.MTR_IFLG_flt : Field := ⟨A.MTR_IFLG, 2, 1⟩
def R.MTR_IFLG_ovr : Field := ⟨A.MTR_IFLG, 3, 1⟩
def R.MTR_IFLG_nov : Field := ⟨A.MTR_IFLG, 4, 1⟩
def R.MTR_IFLG_prf : Field := ⟨A.MTR_IFLG, 5, 1⟩
def R.MTR_IFLG_cfg_err : Field := ⟨A.MTR_IFLG, 31, 1⟩

def A.MTR_CLK : Nat := 0x40090010
def R.MTR_CLK_div0 : Field := ⟨A.MTR_CLK, 0, 6⟩
def R.MTR_CLK_div1 : Field := ⟨A.MTR_CLK, 8, 6⟩
def R.MTR_CLK_osr : Field := ⟨A.MTR_CLK, 16, 2⟩

def A.MTR_IN : Nat := 0x40090014
def R.MTR_IN_en : Field := ⟨A.MTR_IN, 0, 16⟩
def R.MTR_IN_cksel : Field := ⟨A.MTR_IN, 16, 16⟩

def A.MTR_FLT : Nat := 0x40090018
def R.MTR_FLT_stuck : Field := ⟨A.MTR_FLT, 0, 16⟩
def R.MTR_FLT_ck : Field := ⟨A.MTR_FLT, 16, 2⟩

def A.MTR_ALGN : Nat := 0x4009001C
def R.MTR_ALGN_phase : Field := ⟨A.MTR_ALGN, 0, 9⟩
def R.MTR_ALGN_nsmp : Field := ⟨A.MTR_ALGN, 12, 20⟩

def A.MTR_DI : Nat := 0x40090020
def R.MTR_DI_min : Field := ⟨A.MTR_DI, 0, 6⟩

def A.MTR_PRF : Nat := 0x40090024
def R.MTR_PRF_addr : Field := ⟨A.MTR_PRF, 12, 20⟩

def A.MTR_PRF_IDX : Nat := 0x40090028
def R.MTR_PRF_IDX_wi : Field := ⟨A.MTR_PRF_IDX, 0, 6⟩
def R.MTR_PRF_IDX_ri : Field := ⟨A.MTR_PRF_IDX, 8, 6⟩

def A.MTR_SAVE : Nat := 0x4009002C
def R.MTR_SAVE_seq : Field := ⟨A.MTR_SAVE, 0, 32⟩

def A.MTR_RD_SEL : Nat := 0x40090030
def R.MTR_RD_SEL_kind : Field := ⟨A.MTR_RD_SEL, 0, 2⟩
def R.MTR_RD_SEL_idx : Field := ⟨A.MTR_RD_SEL, 4, 4⟩
def R.MTR_RD_SEL_qty : Field := ⟨A.MTR_RD_SEL, 8, 8⟩

def A.MTR_RD_LO : Nat := 0x40090034
def R.MTR_RD_LO_v : Field := ⟨A.MTR_RD_LO, 0, 32⟩

def A.MTR_RD_HI : Nat := 0x40090038
def R.MTR_RD_HI_v : Field := ⟨A.MTR_RD_HI, 0, 32⟩

def A.MTR_RD_FR : Nat := 0x4009003C
def R.MTR_RD_FR_nwh : Field := ⟨A.MTR_RD_FR, 0, 20⟩
def R.MTR_RD_FR_valid : Field := ⟨A.MTR_RD_FR, 31, 1⟩

def A.MTR_OVR : Nat := 0x40090040
def R.MTR_OVR_ovr : Field := ⟨A.MTR_OVR, 0, 16⟩

def A.MTR_CNT : Nat := 0x40090044
def R.MTR_CNT_prf_lost : Field := ⟨A.MTR_CNT, 0, 16⟩
def R.MTR_CNT_save_ab : Field := ⟨A.MTR_CNT, 16, 16⟩

def A.INk_OFF (n : Nat) : Nat := 0x40090100 + 0x10 * n
def R.INk_OFF_off (n : Nat) : Field := ⟨A.INk_OFF n, 0, 32⟩

def A.INk_GAIN (n : Nat) : Nat := 0x40090104 + 0x10 * n
def R.INk_GAIN_g (n : Nat) : Field := ⟨A.INk_GAIN n, 0, 32⟩

def A.INk_DLY (n : Nat) : Nat := 0x40090108 + 0x10 * n
def R.INk_DLY_d (n : Nat) : Field := ⟨A.INk_DLY n, 0, 13⟩

def A.INk_KFS (n : Nat) : Nat := 0x4009010C + 0x10 * n
def R.INk_KFS_kfs (n : Nat) : Field := ⟨A.INk_KFS n, 0, 32⟩

def A.ELe_CFG (n : Nat) : Nat := 0x40090200 + 0x10 * n
def R.ELe_CFG_vin (n : Nat) : Field := ⟨A.ELe_CFG n, 0, 4⟩
def R.ELe_CFG_iin (n : Nat) : Field := ⟨A.ELe_CFG n, 4, 4⟩
def R.ELe_CFG_fdr (n : Nat) : Field := ⟨A.ELe_CFG n, 8, 2⟩
def R.ELe_CFG_en (n : Nat) : Field := ⟨A.ELe_CFG n, 15, 1⟩

def A.ELe_VTRIM (n : Nat) : Nat := 0x40090204 + 0x10 * n
def R.ELe_VTRIM_g (n : Nat) : Field := ⟨A.ELe_VTRIM n, 0, 32⟩

def A.ELe_ITRIM (n : Nat) : Nat := 0x40090208 + 0x10 * n
def R.ELe_ITRIM_g (n : Nat) : Field := ⟨A.ELe_ITRIM n, 0, 32⟩

def A.ELe_TRIM2 (n : Nat) : Nat := 0x4009020C + 0x10 * n
def R.ELe_TRIM2_ph (n : Nat) : Field := ⟨A.ELe_TRIM2 n, 0, 16⟩
def R.ELe_TRIM2_creep (n : Nat) : Field := ⟨A.ELe_TRIM2 n, 16, 16⟩

def A.FDf_CFG (n : Nat) : Nat := 0x40090300 + 0x10 * n
def R.FDf_CFG_nin (n : Nat) : Field := ⟨A.FDf_CFG n, 0, 4⟩
def R.FDf_CFG_nen (n : Nat) : Field := ⟨A.FDf_CFG n, 4, 1⟩
def R.FDf_CFG_en (n : Nat) : Field := ⟨A.FDf_CFG n, 7, 1⟩

def Regs.mtrPart0 : List RegInfo := [
  ⟨0x40090000, 0x4, 1, 0x4, 1, [⟨0, 1, .rw, .imm, 0⟩, ⟨4, 1, .cmd, .none, 0⟩, ⟨5, 1, .cmd, .none, 0⟩, ⟨6, 1, .cmd, .none, 0⟩,
    ⟨7, 1, .cmd, .none, 0⟩, ⟨8, 2, .rw, .lock, 0⟩]⟩,
  ⟨0x40090004, 0x4, 1, 0x4, 1, [⟨0, 1, .ro, .none, 0⟩, ⟨1, 1, .ro, .none, 0⟩, ⟨2, 1, .ro, .none, 0⟩, ⟨4, 2, .ro, .none, 3⟩,
    ⟨29, 1, .ro, .none, 0⟩, ⟨30, 1, .ro, .none, 0⟩, ⟨31, 1, .w1c, .none, 0⟩]⟩,
  ⟨0x40090008, 0x4, 1, 0x4, 1, [⟨0, 6, .rw, .imm, 0⟩, ⟨31, 1, .rw, .imm, 0⟩]⟩,
  ⟨0x4009000C, 0x4, 1, 0x4, 1, [⟨0, 1, .w1c, .none, 0⟩, ⟨1, 1, .w1c, .none, 0⟩, ⟨2, 1, .w1c, .none, 0⟩, ⟨3, 1, .w1c, .none,
    0⟩, ⟨4, 1, .w1c, .none, 0⟩, ⟨5, 1, .w1c, .none, 0⟩, ⟨31, 1, .w1c, .none, 0⟩]⟩,
  ⟨0x40090010, 0x4, 1, 0x4, 1, [⟨0, 6, .rw, .lock, 20⟩, ⟨8, 6, .rw, .lock, 20⟩, ⟨16, 2, .rw, .lock, 2⟩]⟩,
  ⟨0x40090014, 0x4, 1, 0x4, 1, [⟨0, 16, .rw, .lock, 0⟩, ⟨16, 16, .rw, .lock, 0⟩]⟩,
  ⟨0x40090018, 0x4, 1, 0x4, 1, [⟨0, 16, .w1c, .none, 0⟩, ⟨16, 2, .w1c, .none, 0⟩]⟩,
  ⟨0x4009001C, 0x4, 1, 0x4, 1, [⟨0, 9, .ro, .none, 0⟩, ⟨12, 20, .ro, .none, 0⟩]⟩,
  ⟨0x40090020, 0x4, 1, 0x4, 1, [⟨0, 6, .rw, .shadow .demand, 15⟩]⟩,
  ⟨0x40090024, 0x4, 1, 0x4, 1, [⟨12, 20, .rw, .lock, 0x80060⟩]⟩,
  ⟨0x40090028, 0x4, 1, 0x4, 1, [⟨0, 6, .ro, .none, 0⟩, ⟨8, 6, .rw, .imm, 0⟩]⟩,
  ⟨0x4009002C, 0x4, 1, 0x4, 1, [⟨0, 32, .ro, .none, 0⟩]⟩,
  ⟨0x40090030, 0x4, 1, 0x4, 1, [⟨0, 2, .rw, .imm, 0⟩, ⟨4, 4, .rw, .imm, 0⟩, ⟨8, 8, .rw, .imm, 0⟩]⟩,
  ⟨0x40090034, 0x4, 1, 0x4, 1, [⟨0, 32, .ro, .none, 0⟩]⟩,
  ⟨0x40090038, 0x4, 1, 0x4, 1, [⟨0, 32, .ro, .none, 0⟩]⟩,
  ⟨0x4009003C, 0x4, 1, 0x4, 1, [⟨0, 20, .ro, .none, 0⟩, ⟨31, 1, .ro, .none, 0⟩]⟩,
  ⟨0x40090040, 0x4, 1, 0x4, 1, [⟨0, 16, .w1c, .none, 0⟩]⟩,
  ⟨0x40090044, 0x4, 1, 0x4, 1, [⟨0, 16, .rc, .none, 0⟩, ⟨16, 16, .rc, .none, 0⟩]⟩,
  ⟨0x40090100, 0x10, 16, 0x4, 1, [⟨0, 32, .rw, .shadow .demand, 0⟩]⟩,
  ⟨0x40090104, 0x10, 16, 0x4, 1, [⟨0, 32, .rw, .shadow .demand, 0x40000000⟩]⟩]

def Regs.mtrPart1 : List RegInfo := [
  ⟨0x40090108, 0x10, 16, 0x4, 1, [⟨0, 13, .rw, .shadow .demand, 0⟩]⟩,
  ⟨0x4009010C, 0x10, 16, 0x4, 1, [⟨0, 32, .rw, .shadow .demand, 0⟩]⟩,
  ⟨0x40090200, 0x10, 12, 0x4, 1, [⟨0, 4, .rw, .lock, 0⟩, ⟨4, 4, .rw, .lock, 0⟩, ⟨8, 2, .rw, .lock, 0⟩, ⟨15, 1, .rw, .lock, 0⟩]⟩,
  ⟨0x40090204, 0x10, 12, 0x4, 1, [⟨0, 32, .rw, .shadow .demand, 0x40000000⟩]⟩,
  ⟨0x40090208, 0x10, 12, 0x4, 1, [⟨0, 32, .rw, .shadow .demand, 0x40000000⟩]⟩,
  ⟨0x4009020C, 0x10, 12, 0x4, 1, [⟨0, 16, .rw, .shadow .demand, 0⟩, ⟨16, 16, .rw, .shadow .demand, 10⟩]⟩,
  ⟨0x40090300, 0x10, 4, 0x4, 1, [⟨0, 4, .rw, .lock, 0⟩, ⟨4, 1, .rw, .lock, 0⟩, ⟨7, 1, .rw, .lock, 0⟩]⟩]

/-- The registers of MTR. -/
def Regs.mtr : List RegInfo := Regs.mtrPart0 ++ Regs.mtrPart1

/-! ### LFE -/

def A.LFE_CTRL : Nat := 0x400A0000
def R.LFE_CTRL_run : Field := ⟨A.LFE_CTRL, 0, 1⟩
def R.LFE_CTRL_quiet : Field := ⟨A.LFE_CTRL, 1, 1⟩
def R.LFE_CTRL_go : Field := ⟨A.LFE_CTRL, 4, 1⟩
def R.LFE_CTRL_ingest : Field := ⟨A.LFE_CTRL, 8, 1⟩

def A.LFE_STAT : Nat := 0x400A0004
def R.LFE_STAT_cyc_act : Field := ⟨A.LFE_STAT, 0, 1⟩
def R.LFE_STAT_ing_hold : Field := ⟨A.LFE_STAT, 1, 1⟩
def R.LFE_STAT_dir_act : Field := ⟨A.LFE_STAT, 2, 1⟩
def R.LFE_STAT_busy : Field := ⟨A.LFE_STAT, 29, 1⟩
def R.LFE_STAT_shd_pend : Field := ⟨A.LFE_STAT, 30, 1⟩
def R.LFE_STAT_cfg_err : Field := ⟨A.LFE_STAT, 31, 1⟩

def A.LFE_IEN : Nat := 0x400A0008
def R.LFE_IEN_en : Field := ⟨A.LFE_IEN, 0, 8⟩
def R.LFE_IEN_cfg_err : Field := ⟨A.LFE_IEN, 31, 1⟩

def A.LFE_IFLG : Nat := 0x400A000C
def R.LFE_IFLG_done : Field := ⟨A.LFE_IFLG, 0, 1⟩
def R.LFE_IFLG_ovr : Field := ⟨A.LFE_IFLG, 1, 1⟩
def R.LFE_IFLG_sat : Field := ⟨A.LFE_IFLG, 2, 1⟩
def R.LFE_IFLG_zerr : Field := ⟨A.LFE_IFLG, 3, 1⟩
def R.LFE_IFLG_fwddrop : Field := ⟨A.LFE_IFLG, 4, 1⟩
def R.LFE_IFLG_pubdrop : Field := ⟨A.LFE_IFLG, 5, 1⟩
def R.LFE_IFLG_evbad : Field := ⟨A.LFE_IFLG, 6, 1⟩
def R.LFE_IFLG_dir : Field := ⟨A.LFE_IFLG, 7, 1⟩
def R.LFE_IFLG_cfg_err : Field := ⟨A.LFE_IFLG, 31, 1⟩

def A.LFE_CYC : Nat := 0x400A0010
def R.LFE_CYC_kcode : Field := ⟨A.LFE_CYC, 0, 3⟩
def R.LFE_CYC_nouter : Field := ⟨A.LFE_CYC, 8, 5⟩

def A.LFE_DIR_A : Nat := 0x400A0014
def R.LFE_DIR_A_addr : Field := ⟨A.LFE_DIR_A, 12, 20⟩

def A.LFE_DIR_B : Nat := 0x400A0018
def R.LFE_DIR_B_addr : Field := ⟨A.LFE_DIR_B, 12, 20⟩

def A.LFE_DIRSEL : Nat := 0x400A001C
def R.LFE_DIRSEL_sel : Field := ⟨A.LFE_DIRSEL, 0, 1⟩

def A.LFE_QCFG : Nat := 0x400A0020
def R.LFE_QCFG_rq0 : Field := ⟨A.LFE_QCFG, 0, 5⟩
def R.LFE_QCFG_rq1 : Field := ⟨A.LFE_QCFG, 8, 5⟩
def R.LFE_QCFG_evq : Field := ⟨A.LFE_QCFG, 16, 5⟩
def R.LFE_QCFG_fwd : Field := ⟨A.LFE_QCFG, 24, 5⟩

def A.LFE_TXQ : Nat := 0x400A0024
def R.LFE_TXQ_base : Field := ⟨A.LFE_TXQ, 0, 5⟩

def A.LFE_PUB : Nat := 0x400A0028
def R.LFE_PUB_pwr : Field := ⟨A.LFE_PUB, 0, 8⟩

def A.LFE_CNT_CYC : Nat := 0x400A0030
def R.LFE_CNT_CYC_n : Field := ⟨A.LFE_CNT_CYC, 0, 32⟩

def A.LFE_CNT_OVR : Nat := 0x400A0034
def R.LFE_CNT_OVR_ovr : Field := ⟨A.LFE_CNT_OVR, 0, 16⟩
def R.LFE_CNT_OVR_zerr : Field := ⟨A.LFE_CNT_OVR, 16, 16⟩

def A.LFE_CNT_SAT : Nat := 0x400A0038
def R.LFE_CNT_SAT_n : Field := ⟨A.LFE_CNT_SAT, 0, 32⟩

def A.LFE_CNT_ING : Nat := 0x400A003C
def R.LFE_CNT_ING_miss : Field := ⟨A.LFE_CNT_ING, 0, 16⟩
def R.LFE_CNT_ING_fwd : Field := ⟨A.LFE_CNT_ING, 16, 16⟩

def A.LFE_CNT_PUB : Nat := 0x400A0040
def R.LFE_CNT_PUB_frames : Field := ⟨A.LFE_CNT_PUB, 0, 16⟩
def R.LFE_CNT_PUB_drop : Field := ⟨A.LFE_CNT_PUB, 16, 16⟩

def A.LFE_LAST : Nat := 0x400A0044
def R.LFE_LAST_c : Field := ⟨A.LFE_LAST, 0, 32⟩

def A.LFE_TIME : Nat := 0x400A0048
def R.LFE_TIME_us : Field := ⟨A.LFE_TIME, 0, 20⟩

def A.LFE_TMAX : Nat := 0x400A004C
def R.LFE_TMAX_us : Field := ⟨A.LFE_TMAX, 0, 20⟩

def A.LFE_ZERR : Nat := 0x400A0050
def R.LFE_ZERR_zone : Field := ⟨A.LFE_ZERR, 0, 7⟩
def R.LFE_ZERR_cause : Field := ⟨A.LFE_ZERR, 8, 4⟩

def A.LFE_SATLOG : Nat := 0x400A0054
def R.LFE_SATLOG_zone : Field := ⟨A.LFE_SATLOG, 0, 7⟩
def R.LFE_SATLOG_step : Field := ⟨A.LFE_SATLOG, 8, 4⟩
def R.LFE_SATLOG_valid : Field := ⟨A.LFE_SATLOG, 31, 1⟩

def A.LFE_EADDR : Nat := 0x400A0060
def R.LFE_EADDR_addr : Field := ⟨A.LFE_EADDR, 2, 18⟩

def A.LFE_EDATA : Nat := 0x400A0064
def R.LFE_EDATA_d : Field := ⟨A.LFE_EDATA, 0, 32⟩

def Regs.lfePart0 : List RegInfo := [
  ⟨0x400A0000, 0x4, 1, 0x4, 1, [⟨0, 1, .rw, .imm, 0⟩, ⟨1, 1, .rw, .shadow .innerCycle, 0⟩, ⟨4, 1, .cmd, .none, 0⟩, ⟨8, 1,
    .rw, .imm, 1⟩]⟩,
  ⟨0x400A0004, 0x4, 1, 0x4, 1, [⟨0, 1, .ro, .none, 0⟩, ⟨1, 1, .ro, .none, 0⟩, ⟨2, 1, .ro, .none, 0⟩, ⟨29, 1, .ro, .none, 0⟩,
    ⟨30, 1, .ro, .none, 0⟩, ⟨31, 1, .w1c, .none, 0⟩]⟩,
  ⟨0x400A0008, 0x4, 1, 0x4, 1, [⟨0, 8, .rw, .imm, 0⟩, ⟨31, 1, .rw, .imm, 0⟩]⟩,
  ⟨0x400A000C, 0x4, 1, 0x4, 1, [⟨0, 1, .w1c, .none, 0⟩, ⟨1, 1, .w1c, .none, 0⟩, ⟨2, 1, .w1c, .none, 0⟩, ⟨3, 1, .w1c, .none,
    0⟩, ⟨4, 1, .w1c, .none, 0⟩, ⟨5, 1, .w1c, .none, 0⟩, ⟨6, 1, .w1c, .none, 0⟩, ⟨7, 1, .w1c, .none, 0⟩, ⟨31, 1, .w1c, .none,
    0⟩]⟩,
  ⟨0x400A0010, 0x4, 1, 0x4, 1, [⟨0, 3, .rw, .shadow .innerCycle, 2⟩, ⟨8, 5, .rw, .shadow .innerCycle, 1⟩]⟩,
  ⟨0x400A0014, 0x4, 1, 0x4, 1, [⟨12, 20, .rw, .lock, 0x80050⟩]⟩,
  ⟨0x400A0018, 0x4, 1, 0x4, 1, [⟨12, 20, .rw, .lock, 0x80051⟩]⟩,
  ⟨0x400A001C, 0x4, 1, 0x4, 1, [⟨0, 1, .rw, .shadow .innerCycle, 0⟩]⟩,
  ⟨0x400A0020, 0x4, 1, 0x4, 1, [⟨0, 5, .rw, .lock, 0⟩, ⟨8, 5, .rw, .lock, 1⟩, ⟨16, 5, .rw, .lock, 17⟩, ⟨24, 5, .rw, .lock,
    18⟩]⟩,
  ⟨0x400A0024, 0x4, 1, 0x4, 1, [⟨0, 5, .rw, .lock, 4⟩]⟩,
  ⟨0x400A0028, 0x4, 1, 0x4, 1, [⟨0, 8, .rw, .shadow .innerCycle, 255⟩]⟩,
  ⟨0x400A0030, 0x4, 1, 0x4, 1, [⟨0, 32, .rc, .none, 0⟩]⟩,
  ⟨0x400A0034, 0x4, 1, 0x4, 1, [⟨0, 16, .rc, .none, 0⟩, ⟨16, 16, .rc, .none, 0⟩]⟩,
  ⟨0x400A0038, 0x4, 1, 0x4, 1, [⟨0, 32, .rc, .none, 0⟩]⟩,
  ⟨0x400A003C, 0x4, 1, 0x4, 1, [⟨0, 16, .rc, .none, 0⟩, ⟨16, 16, .rc, .none, 0⟩]⟩,
  ⟨0x400A0040, 0x4, 1, 0x4, 1, [⟨0, 16, .rc, .none, 0⟩, ⟨16, 16, .rc, .none, 0⟩]⟩,
  ⟨0x400A0044, 0x4, 1, 0x4, 1, [⟨0, 32, .ro, .none, 0⟩]⟩,
  ⟨0x400A0048, 0x4, 1, 0x4, 1, [⟨0, 20, .ro, .none, 0⟩]⟩,
  ⟨0x400A004C, 0x4, 1, 0x4, 1, [⟨0, 20, .rc, .none, 0⟩]⟩,
  ⟨0x400A0050, 0x4, 1, 0x4, 1, [⟨0, 7, .ro, .none, 0⟩, ⟨8, 4, .ro, .none, 0⟩]⟩]

def Regs.lfePart1 : List RegInfo := [
  ⟨0x400A0054, 0x4, 1, 0x4, 1, [⟨0, 7, .ro, .none, 0⟩, ⟨8, 4, .ro, .none, 0⟩, ⟨31, 1, .w1c, .none, 0⟩]⟩,
  ⟨0x400A0060, 0x4, 1, 0x4, 1, [⟨2, 18, .rw, .imm, 0⟩]⟩,
  ⟨0x400A0064, 0x4, 1, 0x4, 1, [⟨0, 32, .rw, .imm, 0⟩]⟩]

/-- The registers of LFE. -/
def Regs.lfe : List RegInfo := Regs.lfePart0 ++ Regs.lfePart1

/-! ### SDC -/

def A.SDC_CTRL : Nat := 0x400B0000
def R.SDC_CTRL_run : Field := ⟨A.SDC_CTRL, 0, 4⟩
def R.SDC_CTRL_blank : Field := ⟨A.SDC_CTRL, 8, 4⟩
def R.SDC_CTRL_go : Field := ⟨A.SDC_CTRL, 16, 4⟩
def R.SDC_CTRL_cfgall : Field := ⟨A.SDC_CTRL, 24, 1⟩

def A.SDC_STAT : Nat := 0x400B0004
def R.SDC_STAT_own : Field := ⟨A.SDC_STAT, 0, 1⟩
def R.SDC_STAT_drv : Field := ⟨A.SDC_STAT, 4, 4⟩
def R.SDC_STAT_chflt : Field := ⟨A.SDC_STAT, 8, 4⟩
def R.SDC_STAT_act : Field := ⟨A.SDC_STAT, 12, 4⟩
def R.SDC_STAT_busy : Field := ⟨A.SDC_STAT, 29, 1⟩
def R.SDC_STAT_shd_pend : Field := ⟨A.SDC_STAT, 30, 1⟩
def R.SDC_STAT_cfg_err : Field := ⟨A.SDC_STAT, 31, 1⟩

def A.SDC_IEN : Nat := 0x400B0008
def R.SDC_IEN_en : Field := ⟨A.SDC_IEN, 0, 8⟩
def R.SDC_IEN_cfg_err : Field := ⟨A.SDC_IEN, 31, 1⟩

def A.SDC_IFLG : Nat := 0x400B000C
def R.SDC_IFLG_frame : Field := ⟨A.SDC_IFLG, 0, 1⟩
def R.SDC_IFLG_dev : Field := ⟨A.SDC_IFLG, 1, 1⟩
def R.SDC_IFLG_load : Field := ⟨A.SDC_IFLG, 2, 1⟩
def R.SDC_IFLG_derate : Field := ⟨A.SDC_IFLG, 3, 1⟩
def R.SDC_IFLG_late : Field := ⟨A.SDC_IFLG, 4, 1⟩
def R.SDC_IFLG_chain : Field := ⟨A.SDC_IFLG, 5, 1⟩
def R.SDC_IFLG_por : Field := ⟨A.SDC_IFLG, 6, 1⟩
def R.SDC_IFLG_gain : Field := ⟨A.SDC_IFLG, 7, 1⟩
def R.SDC_IFLG_cfg_err : Field := ⟨A.SDC_IFLG, 31, 1⟩

def A.SDC_TADDR : Nat := 0x400B0010
def R.SDC_TADDR_addr : Field := ⟨A.SDC_TADDR, 2, 16⟩

def A.SDC_TDATA : Nat := 0x400B0014
def R.SDC_TDATA_d : Field := ⟨A.SDC_TDATA, 0, 32⟩

def A.SDC_Cn_CFG (n : Nat) : Nat := 0x400B0100 + 0x20 * n
def R.SDC_Cn_CFG_mode (n : Nat) : Field := ⟨A.SDC_Cn_CFG n, 0, 2⟩
def R.SDC_Cn_CFG_ndev (n : Nat) : Field := ⟨A.SDC_Cn_CFG n, 8, 8⟩
def R.SDC_Cn_CFG_ckdiv (n : Nat) : Field := ⟨A.SDC_Cn_CFG n, 16, 4⟩
def R.SDC_Cn_CFG_dly (n : Nat) : Field := ⟨A.SDC_Cn_CFG n, 24, 4⟩

def A.SDC_Cn_ROW (n : Nat) : Nat := 0x400B0104 + 0x20 * n
def R.SDC_Cn_ROW_rows (n : Nat) : Field := ⟨A.SDC_Cn_ROW n, 0, 3⟩
def R.SDC_Cn_ROW_row_us (n : Nat) : Field := ⟨A.SDC_Cn_ROW n, 16, 13⟩

def A.SDC_Cn_BLK (n : Nat) : Nat := 0x400B0108 + 0x20 * n
def R.SDC_Cn_BLK_toff (n : Nat) : Field := ⟨A.SDC_Cn_BLK n, 0, 12⟩
def R.SDC_Cn_BLK_ton (n : Nat) : Field := ⟨A.SDC_Cn_BLK n, 16, 12⟩

def A.SDC_Cn_DER (n : Nat) : Nat := 0x400B010C + 0x20 * n
def R.SDC_Cn_DER_knee (n : Nat) : Field := ⟨A.SDC_Cn_DER n, 0, 8⟩
def R.SDC_Cn_DER_slope (n : Nat) : Field := ⟨A.SDC_Cn_DER n, 8, 8⟩
def R.SDC_Cn_DER_floor (n : Nat) : Field := ⟨A.SDC_Cn_DER n, 16, 10⟩

def A.SDC_Cn_FB (n : Nat) : Nat := 0x400B0110 + 0x20 * n
def R.SDC_Cn_FB_fb_to (n : Nat) : Field := ⟨A.SDC_Cn_FB n, 0, 8⟩
def R.SDC_Cn_FB_fb_code (n : Nat) : Field := ⟨A.SDC_Cn_FB n, 16, 16⟩

def A.SDC_Cn_CNT (n : Nat) : Nat := 0x400B0114 + 0x20 * n
def R.SDC_Cn_CNT_frames (n : Nat) : Field := ⟨A.SDC_Cn_CNT n, 0, 16⟩
def R.SDC_Cn_CNT_late (n : Nat) : Field := ⟨A.SDC_Cn_CNT n, 16, 8⟩
def R.SDC_Cn_CNT_bad (n : Nat) : Field := ⟨A.SDC_Cn_CNT n, 24, 8⟩

def A.SDC_Cn_LAST (n : Nat) : Nat := 0x400B0118 + 0x20 * n
def R.SDC_Cn_LAST_seq (n : Nat) : Field := ⟨A.SDC_Cn_LAST n, 0, 8⟩
def R.SDC_Cn_LAST_fdev (n : Nat) : Field := ⟨A.SDC_Cn_LAST n, 16, 7⟩

def Regs.sdcPart0 : List RegInfo := [
  ⟨0x400B0000, 0x4, 1, 0x4, 1, [⟨0, 4, .rw, .imm, 0⟩, ⟨8, 4, .rw, .imm, 0⟩, ⟨16, 4, .cmd, .none, 0⟩, ⟨24, 1, .cmd, .none, 0⟩]⟩,
  ⟨0x400B0004, 0x4, 1, 0x4, 1, [⟨0, 1, .ro, .none, 0⟩, ⟨4, 4, .ro, .none, 0⟩, ⟨8, 4, .ro, .none, 0⟩, ⟨12, 4, .ro, .none, 0⟩,
    ⟨29, 1, .ro, .none, 0⟩, ⟨30, 1, .ro, .none, 0⟩, ⟨31, 1, .w1c, .none, 0⟩]⟩,
  ⟨0x400B0008, 0x4, 1, 0x4, 1, [⟨0, 8, .rw, .imm, 0⟩, ⟨31, 1, .rw, .imm, 0⟩]⟩,
  ⟨0x400B000C, 0x4, 1, 0x4, 1, [⟨0, 1, .w1c, .none, 0⟩, ⟨1, 1, .w1c, .none, 0⟩, ⟨2, 1, .w1c, .none, 0⟩, ⟨3, 1, .w1c, .none,
    0⟩, ⟨4, 1, .w1c, .none, 0⟩, ⟨5, 1, .w1c, .none, 0⟩, ⟨6, 1, .w1c, .none, 0⟩, ⟨7, 1, .w1c, .none, 0⟩, ⟨31, 1, .w1c, .none,
    0⟩]⟩,
  ⟨0x400B0010, 0x4, 1, 0x4, 1, [⟨2, 16, .rw, .imm, 0⟩]⟩,
  ⟨0x400B0014, 0x4, 1, 0x4, 1, [⟨0, 32, .rw, .imm, 0⟩]⟩,
  ⟨0x400B0100, 0x20, 4, 0x4, 1, [⟨0, 2, .rw, .lock, 0⟩, ⟨8, 8, .rw, .lock, 0⟩, ⟨16, 4, .rw, .lock, 0⟩, ⟨24, 4, .rw, .lock, 0⟩]⟩,
  ⟨0x400B0104, 0x20, 4, 0x4, 1, [⟨0, 3, .rw, .lock, 4⟩, ⟨16, 13, .rw, .lock, 625⟩]⟩,
  ⟨0x400B0108, 0x20, 4, 0x4, 1, [⟨0, 12, .rw, .lock, 25⟩, ⟨16, 12, .rw, .lock, 25⟩]⟩,
  ⟨0x400B010C, 0x20, 4, 0x4, 1, [⟨0, 8, .rw, .shadow .chainFrame, 70⟩, ⟨8, 8, .rw, .shadow .chainFrame, 0⟩, ⟨16, 10, .rw,
    .shadow .chainFrame, 500⟩]⟩,
  ⟨0x400B0110, 0x20, 4, 0x4, 1, [⟨0, 8, .rw, .shadow .chainFrame, 0⟩, ⟨16, 16, .rw, .shadow .chainFrame, 0xffff⟩]⟩,
  ⟨0x400B0114, 0x20, 4, 0x4, 1, [⟨0, 16, .rc, .none, 0⟩, ⟨16, 8, .rc, .none, 0⟩, ⟨24, 8, .rc, .none, 0⟩]⟩,
  ⟨0x400B0118, 0x20, 4, 0x4, 1, [⟨0, 8, .ro, .none, 0⟩, ⟨16, 7, .ro, .none, 0⟩]⟩]

/-- The registers of SDC. -/
def Regs.sdc : List RegInfo := Regs.sdcPart0

/-! ### EVR -/

def A.EVR_CTRL : Nat := 0x400C0000
def R.EVR_CTRL_run : Field := ⟨A.EVR_CTRL, 0, 1⟩
def R.EVR_CTRL_spill : Field := ⟨A.EVR_CTRL, 4, 1⟩

def A.EVR_STAT : Nat := 0x400C0004
def R.EVR_STAT_fill : Field := ⟨A.EVR_STAT, 0, 9⟩
def R.EVR_STAT_spill_busy : Field := ⟨A.EVR_STAT, 12, 1⟩
def R.EVR_STAT_busy : Field := ⟨A.EVR_STAT, 29, 1⟩
def R.EVR_STAT_shd_pend : Field := ⟨A.EVR_STAT, 30, 1⟩
def R.EVR_STAT_cfg_err : Field := ⟨A.EVR_STAT, 31, 1⟩

def A.EVR_IEN : Nat := 0x400C0008
def R.EVR_IEN_en : Field := ⟨A.EVR_IEN, 0, 4⟩
def R.EVR_IEN_cfg_err : Field := ⟨A.EVR_IEN, 31, 1⟩

def A.EVR_IFLG : Nat := 0x400C000C
def R.EVR_IFLG_stage : Field := ⟨A.EVR_IFLG, 0, 1⟩
def R.EVR_IFLG_wm : Field := ⟨A.EVR_IFLG, 1, 1⟩
def R.EVR_IFLG_lost : Field := ⟨A.EVR_IFLG, 2, 1⟩
def R.EVR_IFLG_spill : Field := ⟨A.EVR_IFLG, 3, 1⟩
def R.EVR_IFLG_cfg_err : Field := ⟨A.EVR_IFLG, 31, 1⟩

def A.EVR_CFG : Nat := 0x400C0010
def R.EVR_CFG_wm : Field := ⟨A.EVR_CFG, 0, 9⟩

def A.EVR_SEQ_LO : Nat := 0x400C0014
def R.EVR_SEQ_LO_s : Field := ⟨A.EVR_SEQ_LO, 0, 32⟩

def A.EVR_SEQ_HI : Nat := 0x400C0018
def R.EVR_SEQ_HI_s : Field := ⟨A.EVR_SEQ_HI, 0, 32⟩

def A.EVR_LOST : Nat := 0x400C001C
def R.EVR_LOST_pend : Field := ⟨A.EVR_LOST, 0, 16⟩
def R.EVR_LOST_total : Field := ⟨A.EVR_LOST, 16, 16⟩

def A.EVR_SPILL : Nat := 0x400C0020
def R.EVR_SPILL_addr : Field := ⟨A.EVR_SPILL, 14, 18⟩

def A.EVR_RPT_N : Nat := 0x400C0024
def R.EVR_RPT_N_n : Field := ⟨A.EVR_RPT_N, 0, 6⟩

def A.EVR_Pk_Dj (n j : Nat) : Nat := 0x400C0040 + 0x20 * n + 4 * j
def R.EVR_Pk_Dj_d (n j : Nat) : Field := ⟨A.EVR_Pk_Dj n j, 0, 32⟩

def A.EVR_Pk_POST (n : Nat) : Nat := 0x400C0054 + 0x20 * n
def R.EVR_Pk_POST_src (n : Nat) : Field := ⟨A.EVR_Pk_POST n, 0, 8⟩
def R.EVR_Pk_POST_code (n : Nat) : Field := ⟨A.EVR_Pk_POST n, 8, 16⟩
def R.EVR_Pk_POST_fnd (n : Nat) : Field := ⟨A.EVR_Pk_POST n, 24, 1⟩
def R.EVR_Pk_POST_norpt (n : Nat) : Field := ⟨A.EVR_Pk_POST n, 25, 1⟩

def A.EVR_RD_SEL : Nat := 0x400C0080
def R.EVR_RD_SEL_rec : Field := ⟨A.EVR_RD_SEL, 0, 8⟩
def R.EVR_RD_SEL_word : Field := ⟨A.EVR_RD_SEL, 8, 4⟩

def A.EVR_RD_DATA : Nat := 0x400C0084
def R.EVR_RD_DATA_d : Field := ⟨A.EVR_RD_DATA, 0, 32⟩

def A.EVR_REL : Nat := 0x400C0088
def R.EVR_REL_n : Field := ⟨A.EVR_REL, 0, 9⟩

def Regs.evrPart0 : List RegInfo := [
  ⟨0x400C0000, 0x4, 1, 0x4, 1, [⟨0, 1, .rw, .imm, 0⟩, ⟨4, 1, .cmd, .none, 0⟩]⟩,
  ⟨0x400C0004, 0x4, 1, 0x4, 1, [⟨0, 9, .ro, .none, 0⟩, ⟨12, 1, .ro, .none, 0⟩, ⟨29, 1, .ro, .none, 0⟩, ⟨30, 1, .ro, .none,
    0⟩, ⟨31, 1, .w1c, .none, 0⟩]⟩,
  ⟨0x400C0008, 0x4, 1, 0x4, 1, [⟨0, 4, .rw, .imm, 0⟩, ⟨31, 1, .rw, .imm, 0⟩]⟩,
  ⟨0x400C000C, 0x4, 1, 0x4, 1, [⟨0, 1, .w1c, .none, 0⟩, ⟨1, 1, .w1c, .none, 0⟩, ⟨2, 1, .w1c, .none, 0⟩, ⟨3, 1, .w1c, .none,
    0⟩, ⟨31, 1, .w1c, .none, 0⟩]⟩,
  ⟨0x400C0010, 0x4, 1, 0x4, 1, [⟨0, 9, .rw, .imm, 64⟩]⟩,
  ⟨0x400C0014, 0x4, 1, 0x4, 1, [⟨0, 32, .rw, .lock, 0⟩]⟩,
  ⟨0x400C0018, 0x4, 1, 0x4, 1, [⟨0, 32, .rw, .lock, 0⟩]⟩,
  ⟨0x400C001C, 0x4, 1, 0x4, 1, [⟨0, 16, .ro, .none, 0⟩, ⟨16, 16, .rc, .none, 0⟩]⟩,
  ⟨0x400C0020, 0x4, 1, 0x4, 1, [⟨14, 18, .rw, .lock, 0x800d⟩]⟩,
  ⟨0x400C0024, 0x4, 1, 0x4, 1, [⟨0, 6, .ro, .none, 0⟩]⟩,
  ⟨0x400C0040, 0x4, 5, 0x20, 2, [⟨0, 32, .rw, .imm, 0⟩]⟩,
  ⟨0x400C0054, 0x20, 2, 0x4, 1, [⟨0, 8, .wo, .none, 0⟩, ⟨8, 16, .wo, .none, 0⟩, ⟨24, 1, .wo, .none, 0⟩, ⟨25, 1, .wo, .none,
    0⟩]⟩,
  ⟨0x400C0080, 0x4, 1, 0x4, 1, [⟨0, 8, .rw, .imm, 0⟩, ⟨8, 4, .rw, .imm, 0⟩]⟩,
  ⟨0x400C0084, 0x4, 1, 0x4, 1, [⟨0, 32, .ro, .none, 0⟩]⟩,
  ⟨0x400C0088, 0x4, 1, 0x4, 1, [⟨0, 9, .wo, .none, 0⟩]⟩]

/-- The registers of EVR. -/
def Regs.evr : List RegInfo := Regs.evrPart0

/-! ### TKN -/

def A.TKN_CTRL : Nat := 0x400D0000
def R.TKN_CTRL_run : Field := ⟨A.TKN_CTRL, 0, 1⟩
def R.TKN_CTRL_claim : Field := ⟨A.TKN_CTRL, 4, 1⟩
def R.TKN_CTRL_release : Field := ⟨A.TKN_CTRL, 5, 1⟩
def R.TKN_CTRL_arm : Field := ⟨A.TKN_CTRL, 8, 1⟩

def A.TKN_STAT : Nat := 0x400D0004
def R.TKN_STAT_ilk_out : Field := ⟨A.TKN_STAT, 1, 1⟩
def R.TKN_STAT_ilk_in : Field := ⟨A.TKN_STAT, 2, 1⟩
def R.TKN_STAT_hw : Field := ⟨A.TKN_STAT, 3, 1⟩
def R.TKN_STAT_air : Field := ⟨A.TKN_STAT, 4, 1⟩
def R.TKN_STAT_sl_ok : Field := ⟨A.TKN_STAT, 5, 1⟩
def R.TKN_STAT_fb_ok : Field := ⟨A.TKN_STAT, 6, 1⟩
def R.TKN_STAT_plost : Field := ⟨A.TKN_STAT, 7, 1⟩
def R.TKN_STAT_cyc_ok : Field := ⟨A.TKN_STAT, 8, 1⟩
def R.TKN_STAT_adm : Field := ⟨A.TKN_STAT, 9, 1⟩
def R.TKN_STAT_busy : Field := ⟨A.TKN_STAT, 29, 1⟩
def R.TKN_STAT_shd_pend : Field := ⟨A.TKN_STAT, 30, 1⟩
def R.TKN_STAT_cfg_err : Field := ⟨A.TKN_STAT, 31, 1⟩

def A.TKN_IEN : Nat := 0x400D0008
def R.TKN_IEN_en : Field := ⟨A.TKN_IEN, 0, 9⟩
def R.TKN_IEN_cfg_err : Field := ⟨A.TKN_IEN, 31, 1⟩

def A.TKN_IFLG : Nat := 0x400D000C
def R.TKN_IFLG_claimed : Field := ⟨A.TKN_IFLG, 0, 1⟩
def R.TKN_IFLG_lost : Field := ⟨A.TKN_IFLG, 1, 1⟩
def R.TKN_IFLG_ppath : Field := ⟨A.TKN_IFLG, 2, 1⟩
def R.TKN_IFLG_plost : Field := ⟨A.TKN_IFLG, 3, 1⟩
def R.TKN_IFLG_conflict : Field := ⟨A.TKN_IFLG, 4, 1⟩
def R.TKN_IFLG_refused : Field := ⟨A.TKN_IFLG, 5, 1⟩
def R.TKN_IFLG_ilkf : Field := ⟨A.TKN_IFLG, 6, 1⟩
def R.TKN_IFLG_link : Field := ⟨A.TKN_IFLG, 7, 1⟩
def R.TKN_IFLG_ho : Field := ⟨A.TKN_IFLG, 8, 1⟩
def R.TKN_IFLG_cfg_err : Field := ⟨A.TKN_IFLG, 31, 1⟩

def A.TKN_CFG : Nat := 0x400D0010
def R.TKN_CFG_twin : Field := ⟨A.TKN_CFG, 0, 1⟩
def R.TKN_CFG_side : Field := ⟨A.TKN_CFG, 1, 1⟩
def R.TKN_CFG_member : Field := ⟨A.TKN_CFG, 2, 2⟩
def R.TKN_CFG_pref : Field := ⟨A.TKN_CFG, 4, 1⟩
def R.TKN_CFG_sid : Field := ⟨A.TKN_CFG, 16, 10⟩

def A.TKN_TOKEN : Nat := 0x400D0014
def R.TKN_TOKEN_tok : Field := ⟨A.TKN_TOKEN, 0, 32⟩

def A.TKN_AIR : Nat := 0x400D0018
def R.TKN_AIR_en : Field := ⟨A.TKN_AIR, 0, 1⟩

def A.TKN_ROLE : Nat := 0x400D001C
def R.TKN_ROLE_role : Field := ⟨A.TKN_ROLE, 0, 2⟩
def R.TKN_ROLE_ready : Field := ⟨A.TKN_ROLE, 4, 1⟩
def R.TKN_ROLE_ho : Field := ⟨A.TKN_ROLE, 8, 1⟩
def R.TKN_ROLE_ho_bi : Field := ⟨A.TKN_ROLE, 16, 16⟩

def A.TKN_HB : Nat := 0x400D0020
def R.TKN_HB_fbper : Field := ⟨A.TKN_HB, 0, 7⟩
def R.TKN_HB_fb_to : Field := ⟨A.TKN_HB, 8, 8⟩
def R.TKN_HB_sl_to : Field := ⟨A.TKN_HB, 16, 8⟩

def A.TKN_PARTk (n : Nat) : Nat := 0x400D0024 + 0x4 * n
def R.TKN_PARTk_w (n : Nat) : Field := ⟨A.TKN_PARTk n, 0, 32⟩

def A.TKN_SL : Nat := 0x400D0034
def R.TKN_SL_slot : Field := ⟨A.TKN_SL, 0, 3⟩
def R.TKN_SL_sync : Field := ⟨A.TKN_SL, 8, 4⟩
def R.TKN_SL_keeper : Field := ⟨A.TKN_SL, 12, 1⟩
def R.TKN_SL_adm : Field := ⟨A.TKN_SL, 16, 8⟩

def A.TKN_LDLY : Nat := 0x400D0038
def R.TKN_LDLY_ns : Field := ⟨A.TKN_LDLY, 0, 10⟩

def A.TKN_SLQ : Nat := 0x400D003C
def R.TKN_SLQ_tx : Field := ⟨A.TKN_SLQ, 0, 5⟩
def R.TKN_SLQ_rx : Field := ⟨A.TKN_SLQ, 8, 5⟩

def A.TKN_CNT : Nat := 0x400D0040
def R.TKN_CNT_crc : Field := ⟨A.TKN_CNT, 0, 16⟩
def R.TKN_CNT_miss : Field := ⟨A.TKN_CNT, 16, 16⟩

def Regs.tknPart0 : List RegInfo := [
  ⟨0x400D0000, 0x4, 1, 0x4, 1, [⟨0, 1, .rw, .imm, 0⟩, ⟨4, 1, .cmd, .none, 0⟩, ⟨5, 1, .cmd, .none, 0⟩, ⟨8, 1, .rw, .imm, 0⟩]⟩,
  ⟨0x400D0004, 0x4, 1, 0x4, 1, [⟨1, 1, .ro, .none, 0⟩, ⟨2, 1, .ro, .none, 0⟩, ⟨3, 1, .ro, .none, 0⟩, ⟨4, 1, .ro, .none, 0⟩,
    ⟨5, 1, .ro, .none, 0⟩, ⟨6, 1, .ro, .none, 0⟩, ⟨7, 1, .ro, .none, 0⟩, ⟨8, 1, .ro, .none, 0⟩, ⟨9, 1, .ro, .none, 0⟩, ⟨29,
    1, .ro, .none, 0⟩, ⟨30, 1, .ro, .none, 0⟩, ⟨31, 1, .w1c, .none, 0⟩]⟩,
  ⟨0x400D0008, 0x4, 1, 0x4, 1, [⟨0, 9, .rw, .imm, 0⟩, ⟨31, 1, .rw, .imm, 0⟩]⟩,
  ⟨0x400D000C, 0x4, 1, 0x4, 1, [⟨0, 1, .w1c, .none, 0⟩, ⟨1, 1, .w1c, .none, 0⟩, ⟨2, 1, .w1c, .none, 0⟩, ⟨3, 1, .w1c, .none,
    0⟩, ⟨4, 1, .w1c, .none, 0⟩, ⟨5, 1, .w1c, .none, 0⟩, ⟨6, 1, .w1c, .none, 0⟩, ⟨7, 1, .w1c, .none, 0⟩, ⟨8, 1, .w1c, .none,
    0⟩, ⟨31, 1, .w1c, .none, 0⟩]⟩,
  ⟨0x400D0010, 0x4, 1, 0x4, 1, [⟨0, 1, .rw, .lock, 0⟩, ⟨1, 1, .rw, .lock, 0⟩, ⟨2, 2, .rw, .lock, 0⟩, ⟨4, 1, .rw, .lock, 0⟩,
    ⟨16, 10, .rw, .lock, 0⟩]⟩,
  ⟨0x400D0014, 0x4, 1, 0x4, 1, [⟨0, 32, .rw, .shadow .beacon, 0⟩]⟩,
  ⟨0x400D0018, 0x4, 1, 0x4, 1, [⟨0, 1, .rw, .shadow .beacon, 0⟩]⟩,
  ⟨0x400D001C, 0x4, 1, 0x4, 1, [⟨0, 2, .rw, .imm, 0⟩, ⟨4, 1, .rw, .imm, 0⟩, ⟨8, 1, .rw, .imm, 0⟩, ⟨16, 16, .rw, .imm, 0⟩]⟩,
  ⟨0x400D0020, 0x4, 1, 0x4, 1, [⟨0, 7, .rw, .imm, 10⟩, ⟨8, 8, .rw, .imm, 40⟩, ⟨16, 8, .rw, .imm, 40⟩]⟩,
  ⟨0x400D0024, 0x4, 4, 0x4, 1, [⟨0, 32, .ro, .none, 0⟩]⟩,
  ⟨0x400D0034, 0x4, 1, 0x4, 1, [⟨0, 3, .ro, .none, 0⟩, ⟨8, 4, .rw, .lock, 15⟩, ⟨12, 1, .rw, .imm, 0⟩, ⟨16, 8, .ro, .none, 0⟩]⟩,
  ⟨0x400D0038, 0x4, 1, 0x4, 1, [⟨0, 10, .rw, .imm, 100⟩]⟩,
  ⟨0x400D003C, 0x4, 1, 0x4, 1, [⟨0, 5, .rw, .lock, 19⟩, ⟨8, 5, .rw, .lock, 20⟩]⟩,
  ⟨0x400D0040, 0x4, 1, 0x4, 1, [⟨0, 16, .rc, .none, 0⟩, ⟨16, 16, .rc, .none, 0⟩]⟩]

/-- The registers of TKN. -/
def Regs.tkn : List RegInfo := Regs.tknPart0

/-! ### UPD -/

def A.UPD_CTRL : Nat := 0x400E0000
def R.UPD_CTRL_run : Field := ⟨A.UPD_CTRL, 0, 1⟩
def R.UPD_CTRL_arm : Field := ⟨A.UPD_CTRL, 4, 1⟩

def A.UPD_STAT : Nat := 0x400E0004
def R.UPD_STAT_job : Field := ⟨A.UPD_STAT, 0, 1⟩
def R.UPD_STAT_res : Field := ⟨A.UPD_STAT, 4, 3⟩
def R.UPD_STAT_busy : Field := ⟨A.UPD_STAT, 29, 1⟩
def R.UPD_STAT_shd_pend : Field := ⟨A.UPD_STAT, 30, 1⟩
def R.UPD_STAT_cfg_err : Field := ⟨A.UPD_STAT, 31, 1⟩

def A.UPD_IEN : Nat := 0x400E0008
def R.UPD_IEN_en : Field := ⟨A.UPD_IEN, 0, 3⟩
def R.UPD_IEN_cfg_err : Field := ⟨A.UPD_IEN, 31, 1⟩

def A.UPD_IFLG : Nat := 0x400E000C
def R.UPD_IFLG_done : Field := ⟨A.UPD_IFLG, 0, 1⟩
def R.UPD_IFLG_err : Field := ⟨A.UPD_IFLG, 1, 1⟩
def R.UPD_IFLG_act : Field := ⟨A.UPD_IFLG, 2, 1⟩
def R.UPD_IFLG_cfg_err : Field := ⟨A.UPD_IFLG, 31, 1⟩

def A.UPD_JOB : Nat := 0x400E0010
def R.UPD_JOB_op : Field := ⟨A.UPD_JOB, 0, 2⟩
def R.UPD_JOB_part : Field := ⟨A.UPD_JOB, 8, 4⟩
def R.UPD_JOB_slot : Field := ⟨A.UPD_JOB, 16, 6⟩

def A.UPD_BLK : Nat := 0x400E0014
def R.UPD_BLK_blk : Field := ⟨A.UPD_BLK, 0, 20⟩

def A.UPD_LEN : Nat := 0x400E0018
def R.UPD_LEN_len : Field := ⟨A.UPD_LEN, 0, 27⟩

def A.UPD_GO : Nat := 0x400E001C
def R.UPD_GO_go : Field := ⟨A.UPD_GO, 0, 1⟩
def R.UPD_GO_abort : Field := ⟨A.UPD_GO, 1, 1⟩

def A.UPD_CTRk (n : Nat) : Nat := 0x400E0020 + 0x4 * n
def R.UPD_CTRk_c (n : Nat) : Field := ⟨A.UPD_CTRk n, 0, 32⟩

def A.UPD_DIGk (n : Nat) : Nat := 0x400E0030 + 0x4 * n
def R.UPD_DIGk_d (n : Nat) : Field := ⟨A.UPD_DIGk n, 0, 32⟩

def A.UPD_ACT : Nat := 0x400E0050
def R.UPD_ACT_fired : Field := ⟨A.UPD_ACT, 0, 1⟩
def R.UPD_ACT_lockd : Field := ⟨A.UPD_ACT, 1, 1⟩
def R.UPD_ACT_count : Field := ⟨A.UPD_ACT, 8, 8⟩

def A.UPD_BOOT : Nat := 0x400E0054
def R.UPD_BOOT_bank : Field := ⟨A.UPD_BOOT, 0, 1⟩
def R.UPD_BOOT_trial : Field := ⟨A.UPD_BOOT, 1, 1⟩
def R.UPD_BOOT_reverted : Field := ⟨A.UPD_BOOT, 2, 1⟩
def R.UPD_BOOT_fallback : Field := ⟨A.UPD_BOOT, 3, 1⟩
def R.UPD_BOOT_tries : Field := ⟨A.UPD_BOOT, 4, 4⟩

def Regs.updPart0 : List RegInfo := [
  ⟨0x400E0000, 0x4, 1, 0x4, 1, [⟨0, 1, .rw, .imm, 0⟩, ⟨4, 1, .rw, .imm, 0⟩]⟩,
  ⟨0x400E0004, 0x4, 1, 0x4, 1, [⟨0, 1, .ro, .none, 0⟩, ⟨4, 3, .ro, .none, 0⟩, ⟨29, 1, .ro, .none, 0⟩, ⟨30, 1, .ro, .none, 0⟩,
    ⟨31, 1, .w1c, .none, 0⟩]⟩,
  ⟨0x400E0008, 0x4, 1, 0x4, 1, [⟨0, 3, .rw, .imm, 0⟩, ⟨31, 1, .rw, .imm, 0⟩]⟩,
  ⟨0x400E000C, 0x4, 1, 0x4, 1, [⟨0, 1, .w1c, .none, 0⟩, ⟨1, 1, .w1c, .none, 0⟩, ⟨2, 1, .w1c, .none, 0⟩, ⟨31, 1, .w1c, .none,
    0⟩]⟩,
  ⟨0x400E0010, 0x4, 1, 0x4, 1, [⟨0, 2, .rw, .lock, 0⟩, ⟨8, 4, .rw, .lock, 0⟩, ⟨16, 6, .rw, .lock, 0⟩]⟩,
  ⟨0x400E0014, 0x4, 1, 0x4, 1, [⟨0, 20, .rw, .lock, 0⟩]⟩,
  ⟨0x400E0018, 0x4, 1, 0x4, 1, [⟨0, 27, .rw, .lock, 0⟩]⟩,
  ⟨0x400E001C, 0x4, 1, 0x4, 1, [⟨0, 1, .cmd, .none, 0⟩, ⟨1, 1, .cmd, .none, 0⟩]⟩,
  ⟨0x400E0020, 0x4, 4, 0x4, 1, [⟨0, 32, .rw, .lock, 0⟩]⟩,
  ⟨0x400E0030, 0x4, 8, 0x4, 1, [⟨0, 32, .ro, .none, 0⟩]⟩,
  ⟨0x400E0050, 0x4, 1, 0x4, 1, [⟨0, 1, .w1c, .none, 0⟩, ⟨1, 1, .ro, .none, 0⟩, ⟨8, 8, .ro, .none, 0⟩]⟩,
  ⟨0x400E0054, 0x4, 1, 0x4, 1, [⟨0, 1, .rw, .imm, 0⟩, ⟨1, 1, .rw, .imm, 0⟩, ⟨2, 1, .rw, .imm, 0⟩, ⟨3, 1, .rw, .imm, 0⟩, ⟨4,
    4, .rw, .imm, 0⟩]⟩]

/-- The registers of UPD. -/
def Regs.upd : List RegInfo := Regs.updPart0

/-! ### BHN -/

def A.BHN_CTRL : Nat := 0x400F0000
def R.BHN_CTRL_en : Field := ⟨A.BHN_CTRL, 0, 4⟩

def A.BHN_STAT : Nat := 0x400F0004
def R.BHN_STAT_link : Field := ⟨A.BHN_STAT, 0, 4⟩
def R.BHN_STAT_spd0 : Field := ⟨A.BHN_STAT, 4, 1⟩
def R.BHN_STAT_fdx : Field := ⟨A.BHN_STAT, 5, 2⟩
def R.BHN_STAT_pause : Field := ⟨A.BHN_STAT, 7, 2⟩
def R.BHN_STAT_busy : Field := ⟨A.BHN_STAT, 29, 1⟩
def R.BHN_STAT_shd_pend : Field := ⟨A.BHN_STAT, 30, 1⟩
def R.BHN_STAT_cfg_err : Field := ⟨A.BHN_STAT, 31, 1⟩

def A.BHN_IEN : Nat := 0x400F0008
def R.BHN_IEN_en : Field := ⟨A.BHN_IEN, 0, 6⟩
def R.BHN_IEN_cfg_err : Field := ⟨A.BHN_IEN, 31, 1⟩

def A.BHN_IFLG : Nat := 0x400F000C
def R.BHN_IFLG_link : Field := ⟨A.BHN_IFLG, 0, 1⟩
def R.BHN_IFLG_rxdrop : Field := ⟨A.BHN_IFLG, 1, 1⟩
def R.BHN_IFLG_err : Field := ⟨A.BHN_IFLG, 2, 1⟩
def R.BHN_IFLG_rxsfd : Field := ⟨A.BHN_IFLG, 3, 1⟩
def R.BHN_IFLG_txsfd : Field := ⟨A.BHN_IFLG, 4, 1⟩
def R.BHN_IFLG_pause : Field := ⟨A.BHN_IFLG, 5, 1⟩
def R.BHN_IFLG_cfg_err : Field := ⟨A.BHN_IFLG, 31, 1⟩

def A.BHN_ETH0 : Nat := 0x400F0010
def R.BHN_ETH0_an : Field := ⟨A.BHN_ETH0, 0, 1⟩
def R.BHN_ETH0_s100 : Field := ⟨A.BHN_ETH0, 1, 1⟩
def R.BHN_ETH0_fdx : Field := ⟨A.BHN_ETH0, 2, 1⟩
def R.BHN_ETH0_padv : Field := ⟨A.BHN_ETH0, 3, 1⟩
def R.BHN_ETH0_mdix : Field := ⟨A.BHN_ETH0, 4, 1⟩

def A.BHN_ETH1 : Nat := 0x400F0014
def R.BHN_ETH1_an : Field := ⟨A.BHN_ETH1, 0, 1⟩
def R.BHN_ETH1_fdx : Field := ⟨A.BHN_ETH1, 2, 1⟩
def R.BHN_ETH1_padv : Field := ⟨A.BHN_ETH1, 3, 1⟩
def R.BHN_ETH1_mdix : Field := ⟨A.BHN_ETH1, 4, 1⟩

def A.BHN_MACp_LO (n : Nat) : Nat := 0x400F0018 + 0x8 * n
def R.BHN_MACp_LO_a (n : Nat) : Field := ⟨A.BHN_MACp_LO n, 0, 32⟩

def A.BHN_MACp_HI (n : Nat) : Nat := 0x400F001C + 0x8 * n
def R.BHN_MACp_HI_a (n : Nat) : Field := ⟨A.BHN_MACp_HI n, 0, 16⟩

def A.BHN_QMAP0 : Nat := 0x400F0028
def R.BHN_QMAP0_e0rx : Field := ⟨A.BHN_QMAP0, 0, 5⟩
def R.BHN_QMAP0_e0tx : Field := ⟨A.BHN_QMAP0, 8, 5⟩
def R.BHN_QMAP0_e1rx : Field := ⟨A.BHN_QMAP0, 16, 5⟩
def R.BHN_QMAP0_e1tx : Field := ⟨A.BHN_QMAP0, 24, 5⟩

def A.BHN_QMAP1 : Nat := 0x400F002C
def R.BHN_QMAP1_usbrx : Field := ⟨A.BHN_QMAP1, 0, 5⟩
def R.BHN_QMAP1_usbtx : Field := ⟨A.BHN_QMAP1, 8, 5⟩
def R.BHN_QMAP1_mrx : Field := ⟨A.BHN_QMAP1, 16, 5⟩
def R.BHN_QMAP1_mtx : Field := ⟨A.BHN_QMAP1, 24, 5⟩

def A.BHN_UART : Nat := 0x400F0030
def R.BHN_UART_div : Field := ⟨A.BHN_UART, 0, 20⟩
def R.BHN_UART_flow : Field := ⟨A.BHN_UART, 24, 1⟩

def A.BHN_TSF : Nat := 0x400F0034
def R.BHN_TSF_port : Field := ⟨A.BHN_TSF, 0, 16⟩
def R.BHN_TSF_en : Field := ⟨A.BHN_TSF, 16, 1⟩

def A.BHN_PAUSE : Nat := 0x400F0038
def R.BHN_PAUSE_quanta : Field := ⟨A.BHN_PAUSE, 0, 16⟩
def R.BHN_PAUSE_en : Field := ⟨A.BHN_PAUSE, 16, 1⟩

def A.BHN_CNT_RX : Nat := 0x400F0040
def R.BHN_CNT_RX_n : Field := ⟨A.BHN_CNT_RX, 0, 32⟩

def A.BHN_CNT_TX : Nat := 0x400F0044
def R.BHN_CNT_TX_n : Field := ⟨A.BHN_CNT_TX, 0, 32⟩

def A.BHN_CNT_ERR : Nat := 0x400F0048
def R.BHN_CNT_ERR_drop : Field := ⟨A.BHN_CNT_ERR, 0, 16⟩
def R.BHN_CNT_ERR_fcs : Field := ⟨A.BHN_CNT_ERR, 16, 16⟩

def Regs.bhnPart0 : List RegInfo := [
  ⟨0x400F0000, 0x4, 1, 0x4, 1, [⟨0, 4, .rw, .imm, 0⟩]⟩,
  ⟨0x400F0004, 0x4, 1, 0x4, 1, [⟨0, 4, .ro, .none, 0⟩, ⟨4, 1, .ro, .none, 0⟩, ⟨5, 2, .ro, .none, 0⟩, ⟨7, 2, .ro, .none, 0⟩,
    ⟨29, 1, .ro, .none, 0⟩, ⟨30, 1, .ro, .none, 0⟩, ⟨31, 1, .w1c, .none, 0⟩]⟩,
  ⟨0x400F0008, 0x4, 1, 0x4, 1, [⟨0, 6, .rw, .imm, 0⟩, ⟨31, 1, .rw, .imm, 0⟩]⟩,
  ⟨0x400F000C, 0x4, 1, 0x4, 1, [⟨0, 1, .w1c, .none, 0⟩, ⟨1, 1, .w1c, .none, 0⟩, ⟨2, 1, .w1c, .none, 0⟩, ⟨3, 1, .w1c, .none,
    0⟩, ⟨4, 1, .w1c, .none, 0⟩, ⟨5, 1, .w1c, .none, 0⟩, ⟨31, 1, .w1c, .none, 0⟩]⟩,
  ⟨0x400F0010, 0x4, 1, 0x4, 1, [⟨0, 1, .rw, .lock, 1⟩, ⟨1, 1, .rw, .lock, 1⟩, ⟨2, 1, .rw, .lock, 1⟩, ⟨3, 1, .rw, .lock, 1⟩,
    ⟨4, 1, .rw, .lock, 1⟩]⟩,
  ⟨0x400F0014, 0x4, 1, 0x4, 1, [⟨0, 1, .rw, .lock, 1⟩, ⟨2, 1, .rw, .lock, 1⟩, ⟨3, 1, .rw, .lock, 1⟩, ⟨4, 1, .rw, .lock, 1⟩]⟩,
  ⟨0x400F0018, 0x8, 2, 0x4, 1, [⟨0, 32, .ro, .none, 0⟩]⟩,
  ⟨0x400F001C, 0x8, 2, 0x4, 1, [⟨0, 16, .ro, .none, 0⟩]⟩,
  ⟨0x400F0028, 0x4, 1, 0x4, 1, [⟨0, 5, .rw, .lock, 21⟩, ⟨8, 5, .rw, .lock, 22⟩, ⟨16, 5, .rw, .lock, 23⟩, ⟨24, 5, .rw, .lock,
    24⟩]⟩,
  ⟨0x400F002C, 0x4, 1, 0x4, 1, [⟨0, 5, .rw, .lock, 25⟩, ⟨8, 5, .rw, .lock, 26⟩, ⟨16, 5, .rw, .lock, 27⟩, ⟨24, 5, .rw, .lock,
    28⟩]⟩,
  ⟨0x400F0030, 0x4, 1, 0x4, 1, [⟨0, 20, .rw, .lock, 0x6c82⟩, ⟨24, 1, .rw, .lock, 1⟩]⟩,
  ⟨0x400F0034, 0x4, 1, 0x4, 1, [⟨0, 16, .rw, .imm, 123⟩, ⟨16, 1, .rw, .imm, 0⟩]⟩,
  ⟨0x400F0038, 0x4, 1, 0x4, 1, [⟨0, 16, .rw, .imm, 0xffff⟩, ⟨16, 1, .rw, .imm, 0⟩]⟩,
  ⟨0x400F0040, 0x4, 1, 0x4, 1, [⟨0, 32, .rc, .none, 0⟩]⟩,
  ⟨0x400F0044, 0x4, 1, 0x4, 1, [⟨0, 32, .rc, .none, 0⟩]⟩,
  ⟨0x400F0048, 0x4, 1, 0x4, 1, [⟨0, 16, .rc, .none, 0⟩, ⟨16, 16, .rc, .none, 0⟩]⟩]

/-- The registers of BHN. -/
def Regs.bhn : List RegInfo := Regs.bhnPart0

/-! ### IOC -/

def A.IOC_CTRL : Nat := 0x40100000
def R.IOC_CTRL_ctc : Field := ⟨A.IOC_CTRL, 0, 4⟩
def R.IOC_CTRL_ain_en : Field := ⟨A.IOC_CTRL, 8, 1⟩

def A.IOC_STAT : Nat := 0x40100004
def R.IOC_STAT_ctc_on : Field := ⟨A.IOC_STAT, 0, 4⟩
def R.IOC_STAT_ctc_trip : Field := ⟨A.IOC_STAT, 4, 4⟩
def R.IOC_STAT_ctc_open : Field := ⟨A.IOC_STAT, 8, 4⟩
def R.IOC_STAT_vin_ok : Field := ⟨A.IOC_STAT, 16, 1⟩
def R.IOC_STAT_hw : Field := ⟨A.IOC_STAT, 17, 1⟩
def R.IOC_STAT_busy : Field := ⟨A.IOC_STAT, 29, 1⟩
def R.IOC_STAT_shd_pend : Field := ⟨A.IOC_STAT, 30, 1⟩
def R.IOC_STAT_cfg_err : Field := ⟨A.IOC_STAT, 31, 1⟩

def A.IOC_IEN : Nat := 0x40100008
def R.IOC_IEN_en : Field := ⟨A.IOC_IEN, 0, 16⟩
def R.IOC_IEN_cfg_err : Field := ⟨A.IOC_IEN, 31, 1⟩

def A.IOC_IFLG : Nat := 0x4010000C
def R.IOC_IFLG_din : Field := ⟨A.IOC_IFLG, 0, 8⟩
def R.IOC_IFLG_vinew : Field := ⟨A.IOC_IFLG, 8, 1⟩
def R.IOC_IFLG_vinok : Field := ⟨A.IOC_IFLG, 9, 1⟩
def R.IOC_IFLG_ctc : Field := ⟨A.IOC_IFLG, 10, 4⟩
def R.IOC_IFLG_ain : Field := ⟨A.IOC_IFLG, 14, 1⟩
def R.IOC_IFLG_temp : Field := ⟨A.IOC_IFLG, 15, 1⟩
def R.IOC_IFLG_cfg_err : Field := ⟨A.IOC_IFLG, 31, 1⟩

def A.IOC_GIEN : Nat := 0x40100010
def R.IOC_GIEN_en : Field := ⟨A.IOC_GIEN, 0, 16⟩

def A.IOC_GIFLG : Nat := 0x40100014
def R.IOC_GIFLG_f : Field := ⟨A.IOC_GIFLG, 0, 16⟩

def A.IOC_GDIR : Nat := 0x40100018
def R.IOC_GDIR_out : Field := ⟨A.IOC_GDIR, 0, 16⟩

def A.IOC_GOUT : Nat := 0x4010001C
def R.IOC_GOUT_v : Field := ⟨A.IOC_GOUT, 0, 16⟩

def A.IOC_GIN : Nat := 0x40100020
def R.IOC_GIN_v : Field := ⟨A.IOC_GIN, 0, 16⟩

def A.IOC_GFUNC : Nat := 0x40100024
def R.IOC_GFUNC_f : Field := ⟨A.IOC_GFUNC, 0, 32⟩

def A.IOC_GPULL : Nat := 0x40100028
def R.IOC_GPULL_up : Field := ⟨A.IOC_GPULL, 0, 16⟩

def A.IOC_GEDGE : Nat := 0x4010002C
def R.IOC_GEDGE_fall : Field := ⟨A.IOC_GEDGE, 0, 16⟩
def R.IOC_GEDGE_both : Field := ⟨A.IOC_GEDGE, 16, 16⟩

def A.IOC_C1OWN : Nat := 0x40100030
def R.IOC_C1OWN_g : Field := ⟨A.IOC_C1OWN, 0, 16⟩

def A.IOC_DIN : Nat := 0x40100034
def R.IOC_DIN_pol : Field := ⟨A.IOC_DIN, 0, 8⟩
def R.IOC_DIN_lvl : Field := ⟨A.IOC_DIN, 8, 8⟩
def R.IOC_DIN_raw : Field := ⟨A.IOC_DIN, 16, 8⟩

def A.IOC_DINF0 : Nat := 0x40100038
def R.IOC_DINF0_ms (k : Nat) : Field := ⟨A.IOC_DINF0, 0 + 8 * k, 8⟩

def A.IOC_DINF1 : Nat := 0x4010003C
def R.IOC_DINF1_ms (k : Nat) : Field := ⟨A.IOC_DINF1, 0 + 8 * k, 8⟩

def A.IOC_DCNTk (n : Nat) : Nat := 0x40100040 + 0x4 * n
def R.IOC_DCNTk_n (n : Nat) : Field := ⟨A.IOC_DCNTk n, 0, 32⟩

def A.IOC_AIN : Nat := 0x40100060
def R.IOC_AIN_a0 : Field := ⟨A.IOC_AIN, 0, 16⟩
def R.IOC_AIN_a1 : Field := ⟨A.IOC_AIN, 16, 16⟩

def A.IOC_MON : Nat := 0x40100064
def R.IOC_MON_vin : Field := ⟨A.IOC_MON, 0, 16⟩
def R.IOC_MON_temp : Field := ⟨A.IOC_MON, 16, 16⟩

def A.IOC_TEMP : Nat := 0x40100068
def R.IOC_TEMP_hi : Field := ⟨A.IOC_TEMP, 0, 16⟩

def Regs.iocPart0 : List RegInfo := [
  ⟨0x40100000, 0x4, 1, 0x4, 1, [⟨0, 4, .rw, .imm, 0⟩, ⟨8, 1, .rw, .imm, 0⟩]⟩,
  ⟨0x40100004, 0x4, 1, 0x4, 1, [⟨0, 4, .ro, .none, 0⟩, ⟨4, 4, .w1c, .none, 0⟩, ⟨8, 4, .ro, .none, 0⟩, ⟨16, 1, .ro, .none, 0⟩,
    ⟨17, 1, .ro, .none, 0⟩, ⟨29, 1, .ro, .none, 1⟩, ⟨30, 1, .ro, .none, 0⟩, ⟨31, 1, .w1c, .none, 0⟩]⟩,
  ⟨0x40100008, 0x4, 1, 0x4, 1, [⟨0, 16, .rw, .imm, 0⟩, ⟨31, 1, .rw, .imm, 0⟩]⟩,
  ⟨0x4010000C, 0x4, 1, 0x4, 1, [⟨0, 8, .w1c, .none, 0⟩, ⟨8, 1, .w1c, .none, 0⟩, ⟨9, 1, .w1c, .none, 0⟩, ⟨10, 4, .w1c, .none,
    0⟩, ⟨14, 1, .w1c, .none, 0⟩, ⟨15, 1, .w1c, .none, 0⟩, ⟨31, 1, .w1c, .none, 0⟩]⟩,
  ⟨0x40100010, 0x4, 1, 0x4, 1, [⟨0, 16, .rw, .imm, 0⟩]⟩,
  ⟨0x40100014, 0x4, 1, 0x4, 1, [⟨0, 16, .w1c, .none, 0⟩]⟩,
  ⟨0x40100018, 0x4, 1, 0x4, 1, [⟨0, 16, .rw, .imm, 0⟩]⟩,
  ⟨0x4010001C, 0x4, 1, 0x4, 1, [⟨0, 16, .sc, .imm, 0⟩]⟩,
  ⟨0x40100020, 0x4, 1, 0x4, 1, [⟨0, 16, .ro, .none, 0⟩]⟩,
  ⟨0x40100024, 0x4, 1, 0x4, 1, [⟨0, 32, .rw, .imm, 0⟩]⟩,
  ⟨0x40100028, 0x4, 1, 0x4, 1, [⟨0, 16, .rw, .imm, 0⟩]⟩,
  ⟨0x4010002C, 0x4, 1, 0x4, 1, [⟨0, 16, .rw, .imm, 0⟩, ⟨16, 16, .rw, .imm, 0⟩]⟩,
  ⟨0x40100030, 0x4, 1, 0x4, 1, [⟨0, 16, .rw, .imm, 0xff00⟩]⟩,
  ⟨0x40100034, 0x4, 1, 0x4, 1, [⟨0, 8, .rw, .imm, 0⟩, ⟨8, 8, .ro, .none, 0⟩, ⟨16, 8, .ro, .none, 0⟩]⟩,
  ⟨0x40100038, 0x4, 1, 0x4, 1, [⟨0, 8, .rw, .imm, 20⟩, ⟨8, 8, .rw, .imm, 20⟩, ⟨16, 8, .rw, .imm, 20⟩, ⟨24, 8, .rw, .imm, 20⟩]⟩,
  ⟨0x4010003C, 0x4, 1, 0x4, 1, [⟨0, 8, .rw, .imm, 20⟩, ⟨8, 8, .rw, .imm, 20⟩, ⟨16, 8, .rw, .imm, 20⟩, ⟨24, 8, .rw, .imm, 20⟩]⟩,
  ⟨0x40100040, 0x4, 8, 0x4, 1, [⟨0, 32, .ro, .none, 0⟩]⟩,
  ⟨0x40100060, 0x4, 1, 0x4, 1, [⟨0, 16, .ro, .none, 0⟩, ⟨16, 16, .ro, .none, 0⟩]⟩,
  ⟨0x40100064, 0x4, 1, 0x4, 1, [⟨0, 16, .ro, .none, 0⟩, ⟨16, 16, .ro, .none, 0⟩]⟩,
  ⟨0x40100068, 0x4, 1, 0x4, 1, [⟨0, 16, .rw, .imm, 950⟩]⟩]

/-- The registers of IOC. -/
def Regs.ioc : List RegInfo := Regs.iocPart0

/-! ### BSC -/

def A.BSC_CTRL : Nat := 0x40110000
def R.BSC_CTRL_run : Field := ⟨A.BSC_CTRL, 0, 1⟩

def A.BSC_STAT : Nat := 0x40110004
def R.BSC_STAT_ready : Field := ⟨A.BSC_STAT, 0, 1⟩
def R.BSC_STAT_busy : Field := ⟨A.BSC_STAT, 29, 1⟩
def R.BSC_STAT_shd_pend : Field := ⟨A.BSC_STAT, 30, 1⟩
def R.BSC_STAT_cfg_err : Field := ⟨A.BSC_STAT, 31, 1⟩

def A.BSC_IEN : Nat := 0x40110008
def R.BSC_IEN_done : Field := ⟨A.BSC_IEN, 0, 2⟩
def R.BSC_IEN_err : Field := ⟨A.BSC_IEN, 2, 2⟩
def R.BSC_IEN_cfg_err : Field := ⟨A.BSC_IEN, 31, 1⟩

def A.BSC_IFLG : Nat := 0x4011000C
def R.BSC_IFLG_done : Field := ⟨A.BSC_IFLG, 0, 2⟩
def R.BSC_IFLG_err : Field := ⟨A.BSC_IFLG, 2, 2⟩
def R.BSC_IFLG_cfg_err : Field := ⟨A.BSC_IFLG, 31, 1⟩

def A.BSC_C1ACC : Nat := 0x40110010
def R.BSC_C1ACC_rd : Field := ⟨A.BSC_C1ACC, 0, 12⟩
def R.BSC_C1ACC_wr : Field := ⟨A.BSC_C1ACC, 16, 12⟩

def A.BSC_HEALTH : Nat := 0x40110014
def R.BSC_HEALTH_life : Field := ⟨A.BSC_HEALTH, 0, 8⟩
def R.BSC_HEALTH_spare : Field := ⟨A.BSC_HEALTH, 8, 8⟩

def A.BSC_Cn_LOC (n : Nat) : Nat := 0x40110020 + 0x20 * n
def R.BSC_Cn_LOC_blk (n : Nat) : Field := ⟨A.BSC_Cn_LOC n, 0, 20⟩
def R.BSC_Cn_LOC_part (n : Nat) : Field := ⟨A.BSC_Cn_LOC n, 24, 4⟩

def A.BSC_Cn_CNT (n : Nat) : Nat := 0x40110024 + 0x20 * n
def R.BSC_Cn_CNT_cnt (n : Nat) : Field := ⟨A.BSC_Cn_CNT n, 0, 9⟩

def A.BSC_Cn_ADDR (n : Nat) : Nat := 0x40110028 + 0x20 * n
def R.BSC_Cn_ADDR_addr (n : Nat) : Field := ⟨A.BSC_Cn_ADDR n, 2, 30⟩

def A.BSC_Cn_GO (n : Nat) : Nat := 0x4011002C + 0x20 * n
def R.BSC_Cn_GO_read (n : Nat) : Field := ⟨A.BSC_Cn_GO n, 0, 1⟩
def R.BSC_Cn_GO_write (n : Nat) : Field := ⟨A.BSC_Cn_GO n, 1, 1⟩
def R.BSC_Cn_GO_trim (n : Nat) : Field := ⟨A.BSC_Cn_GO n, 2, 1⟩

def A.BSC_Cn_RES (n : Nat) : Nat := 0x40110030 + 0x20 * n
def R.BSC_Cn_RES_status (n : Nat) : Field := ⟨A.BSC_Cn_RES n, 0, 3⟩
def R.BSC_Cn_RES_done (n : Nat) : Field := ⟨A.BSC_Cn_RES n, 8, 9⟩

def Regs.bscPart0 : List RegInfo := [
  ⟨0x40110000, 0x4, 1, 0x4, 1, [⟨0, 1, .rw, .imm, 0⟩]⟩,
  ⟨0x40110004, 0x4, 1, 0x4, 1, [⟨0, 1, .ro, .none, 0⟩, ⟨29, 1, .ro, .none, 0⟩, ⟨30, 1, .ro, .none, 0⟩, ⟨31, 1, .w1c, .none,
    0⟩]⟩,
  ⟨0x40110008, 0x4, 1, 0x4, 1, [⟨0, 2, .rw, .imm, 0⟩, ⟨2, 2, .rw, .imm, 0⟩, ⟨31, 1, .rw, .imm, 0⟩]⟩,
  ⟨0x4011000C, 0x4, 1, 0x4, 1, [⟨0, 2, .w1c, .none, 0⟩, ⟨2, 2, .w1c, .none, 0⟩, ⟨31, 1, .w1c, .none, 0⟩]⟩,
  ⟨0x40110010, 0x4, 1, 0x4, 1, [⟨0, 12, .rw, .imm, 1024⟩, ⟨16, 12, .rw, .imm, 1024⟩]⟩,
  ⟨0x40110014, 0x4, 1, 0x4, 1, [⟨0, 8, .ro, .none, 0⟩, ⟨8, 8, .ro, .none, 100⟩]⟩,
  ⟨0x40110020, 0x20, 2, 0x4, 1, [⟨0, 20, .rw, .imm, 0⟩, ⟨24, 4, .rw, .imm, 0⟩]⟩,
  ⟨0x40110024, 0x20, 2, 0x4, 1, [⟨0, 9, .rw, .imm, 1⟩]⟩,
  ⟨0x40110028, 0x20, 2, 0x4, 1, [⟨2, 30, .rw, .imm, 0⟩]⟩,
  ⟨0x4011002C, 0x20, 2, 0x4, 1, [⟨0, 1, .cmd, .none, 0⟩, ⟨1, 1, .cmd, .none, 0⟩, ⟨2, 1, .cmd, .none, 0⟩]⟩,
  ⟨0x40110030, 0x20, 2, 0x4, 1, [⟨0, 3, .ro, .none, 0⟩, ⟨8, 9, .ro, .none, 0⟩]⟩]

/-- The registers of BSC. -/
def Regs.bsc : List RegInfo := Regs.bscPart0

/-- The registers of the block of bit index `i` (R42). -/
def Regs.table (i : Nat) : List RegInfo :=
  match i with
  | 0 => Regs.sys
  | 1 => Regs.icu
  | 2 => Regs.ntb
  | 3 => Regs.bkd
  | 4 => Regs.pqu
  | 5 => Regs.fbc
  | 6 => Regs.rfe
  | 7 => Regs.tte
  | 8 => Regs.kvt
  | 9 => Regs.mtr
  | 10 => Regs.lfe
  | 11 => Regs.sdc
  | 12 => Regs.evr
  | 13 => Regs.tkn
  | 14 => Regs.upd
  | 15 => Regs.bhn
  | 16 => Regs.ioc
  | 17 => Regs.bsc
  | _ => []

/-- Whether register row `r` covers address `a`. -/
def RegInfo.covers (r : RegInfo) (a : Nat) : Bool :=
  if a < r.base then false else
  let d := a - r.base
  if r.count2 ≤ 1 then d % r.stride == 0 && d / r.stride < r.count
  else d / r.stride2 < r.count2 && d % r.stride2 % r.stride == 0 && d % r.stride2 / r.stride < r.count

/-- The block of bit index `a[20:16]` of a register-plane address (R42). -/
def blockIndex (a : Nat) : Nat := a / 0x10000 % 32

/-- The register row at address `a`, none where no register is defined (R31). -/
def regAt (a : Nat) : Option RegInfo := (Regs.table (blockIndex a)).find? (·.covers a)

end Sys2Proof.Machine
end

