-- ==== Sys2Proof/Machine/Sparse.lean ====
section
/-!
DEFINITION. Sparse data by key, in one canonical form: a list of (key, value) pairs with strictly rising keys. A map
that has a default value for unlisted keys lists no entry equal to that default, so that equal maps are equal lists.
-/

namespace Sys2Proof.Machine

/-- The value listed at key `k`, if any. -/
def slook {α : Type} : List (Nat × α) → Nat → Option α
  | [], _ => none
  | (k', v) :: t, k => if k = k' then some v else if k < k' then none else slook t k

/-- Lists `v` at key `k`. -/
def sins {α : Type} : List (Nat × α) → Nat → α → List (Nat × α)
  | [], k, v => [(k, v)]
  | (k', v') :: t, k, v =>
    if k < k' then (k, v) :: (k', v') :: t
    else if k = k' then (k, v) :: t
    else (k', v') :: sins t k v

/-- Removes the entry at key `k`. -/
def sdel {α : Type} : List (Nat × α) → Nat → List (Nat × α)
  | [], _ => []
  | (k', v') :: t, k =>
    if k < k' then (k', v') :: t
    else if k = k' then t
    else (k', v') :: sdel t k

/-- The value at key `k`, `d k` where none is listed. -/
def sget {α : Type} (d : Nat → α) (m : List (Nat × α)) (k : Nat) : α :=
  match slook m k with
  | some v => v
  | none => d k

/-- Gives key `k` the value `v`, listing nothing where `v` is the default. -/
def sput {α : Type} [DecidableEq α] (d : Nat → α) (m : List (Nat × α)) (k : Nat) (v : α) : List (Nat × α) :=
  if v = d k then sdel m k else sins m k v

/-- The keys rise strictly. -/
abbrev Rising {α : Type} (m : List (Nat × α)) : Prop := m.Pairwise (fun a b => a.1 < b.1)

/-- The canonical form of a sparse map with default `d`. -/
abbrev Canonical {α : Type} [DecidableEq α] (d : Nat → α) (m : List (Nat × α)) : Prop :=
  Rising m ∧ ∀ p ∈ m, p.2 ≠ d p.1

end Sys2Proof.Machine
end

