-- ==== Sys2Proof/Machine/State.lean ====
section
/-!
DEFINITION. The state of the module as plain data: the register plane, the memories, each block's own state beside its
registers, the resident firmware's state, and the queue of waiting commands. A field's default is its value at reset.
-/

namespace Sys2Proof.Machine

/-- No command of the model ends in a fault: the type has no constructor that a meaning answers with but this one, which
says that the state is not one the block can be in; no meaning raises it (safe). -/
inductive Fault where
  | stuck
  deriving DecidableEq, Repr

/-- Why a command has no effect in the model. -/
inductive Refusal where
  /-- Raised by the dispatch for a command that has no meaning yet (safe). -/
  | notModelled (mnemonic : String)
  deriving DecidableEq, Repr

/-! ### Bus -/

/-- What an access returns to the core that made it (R31, R32, R33, R44, R50). -/
inductive BusResult where
  | done
  | value (w : Word)
  | busError
  | accessFault
  | misaligned
  deriving DecidableEq, Repr

/-- SYS beside its registers: the results of the cores' last accesses, the reservations of LR/SC (R27, R30), core 1's
watchdog and core 0's (R46-R48), the words that hold an uncorrectable error (R34). -/
structure SysState where
  result0 : BusResult := .done
  result1 : BusResult := .done
  reserve0 : Option Nat := none
  reserve1 : Option Nat := none
  wdt0From : Nat := 0
  wdt0Warned : Bool := false
  wdt1From : Nat := 0
  eccBad : List Nat := []
  deriving DecidableEq, Repr

/-- The operations of a BSC command (R38). -/
inductive BscOp where
  | read | write | trim
  deriving DecidableEq, Repr

/-- A command that a BSC channel is running (R38, R40). -/
structure BscJob where
  op : BscOp
  part : Nat
  blk : Nat
  cnt : Nat
  buf : Nat
  deriving DecidableEq, Repr

structure BscState where
  job0 : Option BscJob := none
  job1 : Option BscJob := none
  deriving DecidableEq, Repr

/-! ### EVR -/

/-- An event record of R511 (its CRC is computed when it is encoded); `seq` is none while EVR does not number (R516). -/
structure EvtRecord where
  seq : Option Nat
  sec : Nat
  ns : Nat
  optime : Nat
  pcyc : Nat
  src : Nat
  tstate : Nat
  fnd : Bool
  rpt : Bool
  partner : Bool
  full : Bool
  code : Nat
  rep : Nat
  seg : Nat
  first : Nat
  data : List Byte
  deriving DecidableEq, Repr

/-- An entry of the repeat table (R514). -/
structure RptEntry where
  src : Nat
  code : Nat
  data : List Byte
  fnd : Bool
  partner : Bool
  openedAt : Nat
  firstSec : Nat
  count : Nat
  sec : Nat
  ns : Nat
  tstate : Nat
  optime : Nat
  pcyc : Nat
  deriving DecidableEq, Repr

/-- EVR and the firmware's side of it: staging queue, repeat table oldest first, pending losses, a spill in progress
(R513-R520); the open block of partition 6 and the foundation count (R517-R519). -/
structure EvrState where
  staging : List EvtRecord := []
  rpt : List RptEntry := []
  pend : Nat := 0
  lostFirst : Nat := 0
  lostLast : Nat := 0
  spill : Option (List Byte) := none
  deriving DecidableEq, Repr

/-- A journal entry of R524 (its CRC is computed when it is encoded). -/
structure JEntry where
  jseq : Nat
  kind : Nat
  flags : Nat
  who : Nat
  cseq : Nat
  made : Nat
  body : List Byte
  deriving DecidableEq, Repr

/-- The journal head of R525: its ring of entries, the next jseq, the next block of partition 9, the checkpoint block. -/
structure Journal where
  head : List JEntry := []
  next : Nat := 0
  block : Nat := 0
  checkpoint : Nat := 0
  deriving DecidableEq, Repr

/-! ### NTB -/

/-- A core's holding registers of R57. -/
structure TimeHold where
  sec : Nat := 0
  frac : Nat := 0
  path : Nat := 0
  deriving DecidableEq, Repr

/-- A set or step that waits (R60): its latched value and the tick at which it is applied. -/
structure TimeAdj where
  step : Bool
  sec : Nat
  ns : Nat
  src : Bool
  due : Nat
  deriving DecidableEq, Repr

/-- NTB beside its registers: the count of R55, the holding registers of the two cores (R57), the waiting request (R60),
the tick of the last accepted sample (R67), the number of the path in progress (R65, R74), the network time at which a
shadowed path length takes effect (R75), the samples in a row beyond the guard with the tick of the first (R62), the waiting firings of the path comparators by comparator, as network time in ns
(R76), and the destinations that got a pulse in the tick `pulseAt`, and the pulses that have not
yet reached their blocks, by route, with the path number of their tick (R77), and the kind of the source of the last
accepted time (element 2 of 2:0002). -/
structure NtbState where
  sec : Nat := 0
  ns : Nat := 0
  frac : Nat := 0
  hold0 : TimeHold := {}
  hold1 : TimeHold := {}
  adj : Option TimeAdj := none
  fedAt : Option Nat := none
  path : Nat := 0
  plenAt : Option Nat := none
  disagree : Nat := 0
  disagreeAt : Nat := 0
  waiting : List (Nat × Nat) := []
  pulseAt : Nat := 0
  pulsed : List Nat := []
  pulses : List (Nat × Nat) := []
  source : Nat := 0
  deriving DecidableEq, Repr

/-! ### PQU -/

/-- An entry of a queue: its tag, its body, whether a word of it is uncorrectable (R475), and the tick of its commit. -/
structure QEntry where
  tag : Nat
  body : List Byte
  bad : Bool := false
  at_ : Nat := 0
  deriving DecidableEq, Repr

/-- A queue: the committed entries oldest first, the entries written since the last commit, the agent that consumes it
now, and whether that agent holds the head entry (R476, R477). -/
structure Queue where
  entries : List QEntry := []
  fresh : List QEntry := []
  cons : Nat := 0
  held : Bool := false
  deriving DecidableEq, Repr

/-- A core port: the entry that awaits words (length, tag, octets so far) and the next body word to read (R478, R479). -/
structure Port where
  opened : Option (Nat × Nat × List Byte) := none
  next : Nat := 0
  deriving DecidableEq, Repr

structure PquState where
  queues : List (Nat × Queue) := []
  ports : List (Nat × Port) := []
  deriving DecidableEq, Repr

/-! ### TKN -/

/-- A record of the twin's stream (R386, R387). -/
structure StreamRec where
  rtype : Nat
  essential : Bool
  body : List Byte
  deriving DecidableEq, Repr

/-- One heartbeat path (R367): when the partner was last heard on it, whether it is up (none: not heard since the start),
and whether the last heartbeat on it carried `down`. -/
structure HbPath where
  heard : Nat := 0
  up : Option Bool := none
  down : Bool := false
  deriving DecidableEq, Repr

/-- An item that goes out in two successive link cycles (R382). -/
structure LinkItem where
  body : List Byte
  times : Nat
  deriving DecidableEq, Repr

/-- TKN beside its registers and the firmware's side of it. The pads: ILK_IN with the tick of its last release, the tick since
which both lines are asserted (R361-R363). Heartbeats: the paths, the partner's last block, `down`, the highest token seen,
the tick of the start (R364-R369). The link: the last cycle frame received or sent, whether the module's slot is taken, a
back-off's end, the admission table by slot and the window centres by member, what a refused admission bars (R378-R384), the
last `iseq` by slot, items that repeat. The stream: kept records, the offsets of the first kept octet, of the head, of the
next octet to send, of the partner's `ack` with the cycle it advanced in; on the standby the octets received but not yet a
record, the next offset expected, whether a snapshot is complete, whether one is wanted, essential records skipped (R386-R388).
`essential` says that one of the skipped was; `gapAt` is the tick of a gap not yet filled; the last zone states by zone.
Roles: the tick a role's timer started, whether the second wait of R371 runs, a split that has not been resolved, the handover
in hand and the path at which the switch came, `pmark`, `side_dup` (R374), the timetable after that of the last `stale_beacon`, the event items kept for the switch
(R371-R390). -/
structure TknState where
  stream : List StreamRec := []
  sseq : Nat := 0
  ilkIn : Bool := false
  inSince : Nat := 0
  bothSince : Option Nat := none
  sl : HbPath := {}
  fb : HbPath := {}
  partner : Option (List Byte) := none
  down : Bool := false
  seen : Nat := 0
  runAt : Nat := 0
  hoNow : Bool := false
  cycAt : Nat := 0
  cycNo : Nat := 0
  cycMine : Bool := false
  taken : Bool := false
  backoff : Option Nat := none
  admUid : List (Nat × Nat) := []
  fcs : List (Nat × Nat) := []
  barred : Bool := false
  missed : Bool := true
  iseqs : List (Nat × Nat) := []
  iseq : Nat := 0
  items : List LinkItem := []
  base : Nat := 0
  sent : Nat := 0
  ack : Nat := 0
  ackAt : Nat := 0
  rx : List Byte := []
  expect : Nat := 0
  synced : Bool := false
  wantSnap : Bool := false
  skipped : Nat := 0
  essential : Bool := false
  gapAt : Option Nat := none
  zstates : List (Nat × List Byte) := []
  roleAt : Nat := 0
  waiting : Bool := false
  split : Bool := false
  partnerFb0 : Nat := 0
  handover : Bool := false
  switched : Option Nat := none
  pmark : Nat := 0
  sideDup : Bool := false
  staleAt : Nat := 0
  keptItems : List (List Byte) := []
  deriving DecidableEq, Repr

/-! ### KVT -/

/-- A slot of the vault: kind and usage of R502, the content in clear, the generation of R490. -/
structure Slot where
  kind : Nat := 0
  usage : Nat := 0
  gen : Nat := 0
  key : List Byte := []
  deriving DecidableEq, Repr

/-- The epoch key in a cipher context, the slot it descends from and that slot's generation then (R490, R496). -/
structure CtxKey where
  slot : Nat
  gen : Nat
  key : List Byte
  deriving DecidableEq, Repr

/-- A KVT command that runs (R500): its descriptor, the slot's content and generation at the start, and its result and
check code once it has ended but not been published. -/
structure KvtJob where
  addr : Nat
  op : Nat
  slot : Nat
  flags : Nat
  len : Nat
  src : Nat
  dst : Nat
  aux : Nat
  aux2 : Nat
  gen : Nat
  key : List Byte
  result : Option (Nat × Nat) := none
  deriving DecidableEq, Repr

/-- The certificate parts held until all have come (R505). -/
structure CertParts where
  count : Nat := 0
  last : Nat := 0
  parts : List (Nat × List Byte) := []
  deriving DecidableEq, Repr

/-- KVT beside its registers: the enrolment whose root key stands (R483), the epoch keys of contexts 0 and 1, the link key
cache most recently used first (R493), the running command, the kept digest's message (R499), a failed health test, the
certificate parts, the hop key of the loaded table (R488), and a zeroize that TTE has not yet followed (R143). -/
structure VaultState where
  rk : Option Nat := none
  ctx0 : Option CtxKey := none
  ctx1 : Option CtxKey := none
  cache : List (Nat × List Byte) := []
  job : Option KvtJob := none
  sha : List Byte := []
  unhealthy : Bool := false
  parts : CertParts := {}
  hop : Option (List Byte) := none
  zeroed : Bool := false
  deriving DecidableEq, Repr

/-! ### The fault manager -/

/-- A standing fault (R557): code, source, network seconds of its raise, the tick since which its condition is absent, and
whether its handler has run or waits in the queue (R558). -/
structure FaultEntry where
  code : Nat
  source : Nat
  since : Nat
  gone : Option Nat
  handled : Bool
  deriving DecidableEq, Repr

/-- The fault manager: E:0002 in order of raising, the standing faults it has no place for, the handler that runs with
its start tick, the waiting handlers, escalation (R557-R559). -/
structure FaultState where
  list : List FaultEntry := []
  unlisted : List FaultEntry := []
  running : Option (Nat × Nat × Nat) := none
  queue : List (Nat × Nat) := []
  escalated : Bool := false
  deriving DecidableEq, Repr

/-! ### RFE -/

/-- A frame granted to a chain or on air: its band, whether it is a beacon, its airtime in µs, the network times in ns of
its first bit and of the end of its ramp-down, the power code it is sent at, and its PSDU (R90-R97). -/
structure AirTx where
  chain : Nat
  chan : Nat
  band : Nat
  beacon : Bool
  airtime : Nat
  start : Nat
  finish : Nat
  power : Nat
  psdu : List Byte
  deriving DecidableEq, Repr

/-- RFE beside its registers and the firmware's side of it: the chain and channel of every frame granted in this path (R91),
the frames granted or on air, the duty buckets by 60 × (4 × band + chain) + minute mod 60 with the current minute (R97, R98),
whether this path and the one before are listened (R117), the evaluation in progress: up paths and headers detected (R102),
the channel floors (R102), the exclusions in a row by element (branches 0, 1; chains 2-5) and the timetable of the last
re-admission (R103), the tick at which a stop ends (R95), and the test transmission's end and mode to return to (R431). -/
structure RfeState where
  granted : List (Nat × Nat) := []
  air : List AirTx := []
  duty : List (Nat × Nat) := []
  minute : Nat := 0
  listened : Bool := false
  listenedBefore : Bool := false
  evalPaths : Nat := 0
  detA : Nat := 0
  detB : Nat := 0
  floorA : List (Nat × Int) := []
  floorB : List (Nat × Int) := []
  excl : List (Nat × Nat) := []
  readmitAt : Nat := 0
  stopAt : Option Nat := none
  test : Option (Nat × Nat) := none
  deriving DecidableEq, Repr

/-! ### TTE -/

/-- A cell of the path in hand: its channel, offset (0xFF for a join cell), kind as the cell tag numbers it, owner, and
whether the module listens in it (R113-R117, R124). -/
structure Cell where
  chan : Nat
  off : Nat
  kind : Nat
  owner : Nat
  listen : Bool
  deriving DecidableEq, Repr

/-- A replay window of R167: the highest counter accepted and its bits. -/
structure Window where
  h : Nat
  w : Nat
  deriving DecidableEq, Repr

/-- An acknowledgement item that waits, with the down paths it has waited through (R127). -/
structure AckItem where
  item : List Byte
  waited : Nat
  deriving DecidableEq, Repr

/-- A fast-path frame that TTE builds for a lane: its group and items (R134, R151). -/
structure FastFrame where
  lane : Nat
  group : Nat
  items : List (List Byte)
  deriving DecidableEq, Repr

/-- TTE beside its registers: a stop that waits for the next boundary, an opening that waits (R141, R143), the cells of
this path and of the one before with the owners heard in their report cells (R124, R126), the acknowledgement items by lane
and the fast-path frames, the replay windows by sender and key, the highest join counters by EUI-64, the last beacon path by
CSI (R167), the silent FIFO oldest first and the number of nodes with the silent bit (R126), the countdown that beacons
carry (R172), and the low 16 bits of the counter of the last frame sent under a link key by 16 × short + type (R147). -/
structure TteState where
  stopping : Bool := false
  opening : Bool := false
  cells : List Cell := []
  cellsBefore : List Cell := []
  heard : List Nat := []
  heardBefore : List Nat := []
  acks : List (Nat × AckItem) := []
  fast : List FastFrame := []
  windows : List (Nat × Window) := []
  joins : List (Nat × Nat) := []
  beacons : List (Nat × Nat) := []
  silent : List Nat := []
  silentCount : Nat := 0
  cd : Nat := 0
  sent : List (Nat × Nat) := []
  deriving DecidableEq, Repr

/-! ### LFE -/

/-- An inner cycle in progress: its number and the tick of its trigger (R235). -/
structure LfeCycle where
  c : Nat
  started : Nat
  deriving DecidableEq, Repr

/-- LFE beside its registers: the octets of the engine SRAM up to 0x4_FFFF that are not 0 (R250), and the cycle in progress. -/
structure LfeState where
  sram : List (Nat × Byte) := []
  cyc : Option LfeCycle := none
  deriving DecidableEq, Repr

/-! ### SDC -/

/-- One slot of a chain frame: its operation, W1-W16, and for a luminaire Level slot the level and `app` of each channel
(R340-R342, R352). -/
structure SdcSlot where
  op : Nat
  words : List Nat
  levels : List (Nat × Nat)
  deriving DecidableEq, Repr

/-- A frame that waits or shifts: its sequence number, the path at whose boundary it latches, its slots by device. -/
structure SdcFrame where
  seq : Nat
  path : Nat
  slots : List SdcSlot
  deriving DecidableEq, Repr

/-- A channel's transition: the starting level, the latches since word 0 was written, the level at the last latch (R348). -/
structure SdcChan where
  c0 : Nat := 0
  k : Nat := 0
  prev : Nat := 0
  deriving DecidableEq, Repr

/-- A siding: whether it runs (R52), the frame in hand, the next `seq`, the frame latched last (what the devices hold),
whether the statuses that come next are those of the first frame, the matrix row in hand and the tick of its next slot,
and the devices that derate (R346-R356). -/
structure Siding where
  runs : Bool := false
  frame : Option SdcFrame := none
  seq : Nat := 0
  shown : Option SdcFrame := none
  fresh : Bool := true
  row : Nat := 0
  rowAt : Nat := 0
  derated : List Nat := []
  deriving DecidableEq, Repr

/-- SDC beside its registers: the table memory by address (words that differ from reset, R358), channels and sidings. -/
structure SdcState where
  tab : List (Nat × Nat) := []
  chans : List (Nat × SdcChan) := []
  sidings : List (Nat × Siding) := []
  deriving DecidableEq, Repr

/-! ### MTR -/

/-- The four energy registers of an element or feeder, in units of 2^-62 µW × 5 ns: 720,000,000 × 2^62 of them are one nWh
(R302, R310). -/
structure Energy where
  ai : Nat := 0
  ae : Nat := 0
  qp : Nat := 0
  qn : Nat := 0
  deriving DecidableEq, Repr

/-- The sums of a 1 s window of an element: cycles, samples, squares of voltage and current, products, and whether a fault
cycle fell in it (R311). -/
structure ElemWin where
  cycles : Nat := 0
  n : Nat := 0
  v2 : Nat := 0
  i2 : Nat := 0
  p : Int := 0
  q : Int := 0
  bad : Bool := false
  deriving DecidableEq, Repr

/-- The sums of a 1 s window of a feeder: cycles, samples, squares of the neutral and residual currents, valid cycles and
their samples, whether a pseudo-cycle or a fault cycle fell in it. -/
structure FeederWin where
  cycles : Nat := 0
  n : Nat := 0
  n2 : Nat := 0
  r2 : Nat := 0
  vcyc : Nat := 0
  vsmp : Nat := 0
  pseudo : Bool := false
  bad : Bool := false
  deriving DecidableEq, Repr

/-- The samples of an input in a 1 s window: their number, sum, sum of squares, the last `s`. -/
structure InputWin where
  n : Nat := 0
  sum : Int := 0
  sq : Nat := 0
  last : Int := 0
  deriving DecidableEq, Repr

/-- A close that waits for the cycle end (R315, R316). -/
structure ClosePend where
  stop : Nat
  locked : Bool
  forced : Bool
  deriving DecidableEq, Repr

/-- A feeder's interval and cycles: the last-close snapshot in nWh, the open interval's start with its `tstate`, a pending
close, the record flags gathered, the counts of R317, whether it runs pseudo-cycles, the tick and length in samples of
its last valid cycle, the inputs that were live-faulted in the cycle in progress, and whether it has stopped (R306-R318). -/
structure MFeeder where
  reg : Energy := {}
  last : List Nat := [0, 0, 0, 0]
  start : Option Nat := none
  tstate : Nat := 0
  pend : Option ClosePend := none
  cut : Bool := false
  long : Bool := false
  ovr : Bool := false
  merged : Bool := false
  first : Bool := false
  fcyc : Nat := 0
  ncyc : Nat := 0
  umin : Option Nat := none
  umax : Nat := 0
  pseudo : Bool := false
  validAt : Nat := 0
  period : Nat := 0
  tainted : List Nat := []
  stopped : Bool := false
  deriving DecidableEq, Repr

/-- A save image (R319): its registers and intervals, the record counter, network seconds, `pf`, the sequence number. -/
structure MeterImage where
  elems : List (Nat × Energy)
  fdrs : List (Nat × MFeeder)
  rec_ : Nat
  sec : Nat
  pf : Bool
  seq : Nat
  deriving DecidableEq, Repr

/-- A core's holding registers of R312: the high word, the fraction, validity. -/
structure MeterHold where
  hi : Nat := 0
  fr : Nat := 0
  valid : Bool := false
  deriving DecidableEq, Repr

/-- MTR beside its registers: elements, feeders, the open and the latched 1 s windows with the latched energies, the record
counter, an image on its way with the copy it goes to, live inputs and clocks (R299), the tick of the first alignment and
the samples at the last pulse (R301), the cores' holding registers and core 1's MTR_RD_SEL (R312). -/
structure MtrState where
  elems : List (Nat × Energy) := []
  fdrs : List (Nat × MFeeder) := []
  ewin : List (Nat × ElemWin) := []
  fwin : List (Nat × FeederWin) := []
  iwin : List (Nat × InputWin) := []
  elat : List (Nat × ElemWin) := []
  flat : List (Nat × FeederWin) := []
  ilat : List (Nat × InputWin) := []
  eregs : List (Nat × Energy) := []
  fregs : List (Nat × Energy) := []
  rec_ : Nat := 0
  saving : Option (Nat × MeterImage) := none
  liveIn : List Nat := []
  liveCk : List Nat := []
  alignAt : Nat := 0
  samples : Nat := 0
  hold0 : MeterHold := {}
  hold1 : MeterHold := {}
  sel1 : Word := 0
  deriving DecidableEq, Repr

/-! ### BKD -/

/-- A register write on its way into the backup domain (R585). -/
structure BkdCarry where
  o : Origin
  addr : Nat
  word : Word
  deriving DecidableEq, Repr

/-- The backup domain beside its registers: the helper mask, by the number of its enrolment (R484); the calendar as
1/32,768 s since 2000-01-01 at crystal tick `calAt`, `winPos` ticks into the trim window that began at crystal tick `winAt`,
the ticks it is still held (R586-R590); the second of its last `tick`; the seconds since a periodic wake (R591); the waiting
low word of BKD_OPT; writes on their way (R585); the cores' holding registers of R587 (date, time); the charger's state
before a measurement and its start (R594); whether the domain is lost (R584). Of the firmware: the last discipline check
(R592), whether the domain was found lost at the last start (R597). -/
structure BkdState where
  mask : Option Nat := some 0
  cal : Nat := 0
  calAt : Nat := 0
  winAt : Nat := 0
  winPos : Nat := 0
  hold : Nat := 0
  second : Nat := 0
  wakeCount : Nat := 0
  optLo : Option Nat := none
  carry : List BkdCarry := []
  hold0 : Nat × Nat := (0, 0)
  hold1 : Nat × Nat := (0, 0)
  measAt : Nat := 0
  chgWas : Bool := false
  lost : Bool := false
  checkAt : Option Nat := none
  checkState : Nat := 0
  lostAtStart : Bool := false
  deriving DecidableEq, Repr

/-! ### ICU, IOC and power -/

/-- A source of ICU: 0 inactive, 1 pending, 2 active, 3 active-pending; its request as ICU holds it; its count; its claim
priority (R568-R571). -/
structure IcuSrc where
  state : Nat := 0
  req : Bool := false
  count : Nat := 0
  cprio : Nat := 0
  deriving DecidableEq, Repr

/-- ICU beside its registers: the sources, the pulses on their way from the pads and from software (R567), the two
interrupt lines (R572). -/
structure IcuState where
  srcs : List (Nat × IcuSrc) := []
  flight : List Nat := []
  irq0 : Bool := false
  irq1 : Bool := false
  deriving DecidableEq, Repr

/-- IOC beside its registers: what drives each GPIO pad from outside (none: nothing), the filtered levels of the DIN pads,
the tick at which a comparator's pulse ends, the contactor drivers' loads in mA, whether the temperature may set its flag
again (R623-R626). -/
structure IocState where
  drive : List (Nat × Bool) := []
  filt : Nat := 0
  pulseEnd : List (Nat × Nat) := []
  armed : Bool := true
  deriving DecidableEq, Repr

/-- Power and reset (R599-R615): VIN above V_on since the last brown-out, whether the supervisor was
unpowered, the early warning, the reference mean's samples
in mV, hibernate (entry under way since a tick, powered down), the latches that set in it, a reset that holds with its cause,
the boot ROM done, the firmware started, the PLLs E and R locked, an LFE `go` held for PLL E, consecutive dark inner
cycles (R604). -/
structure PwrState where
  vin : Bool := true
  cold : Bool := false
  warning : Bool := false
  vref : Nat := 0
  entering : Option Nat := none
  asleep : Bool := false
  woken : List Nat := []
  booted : Bool := false
  begun : Bool := false
  started : Bool := false
  pllE : Bool := false
  pllR : Bool := false
  heldGo : Bool := false
  dark : Nat := 0
  deriving DecidableEq, Repr

/-! ### FBC -/

/-- A frame of the firmware that waits for a transmit buffer: the buffer it must use, identifier, data, single shot. -/
structure FbWant where
  buffer : Option Nat
  id : Nat
  data : List Byte
  ss : Bool
  deriving DecidableEq, Repr

/-- An XN-C8 as the owning module sees it (R457): its last status, since when its `cseq` lags, whether it is missed. -/
structure Xnc8 where
  at_ : Nat := 0
  lag : Option Nat := none
  missed : Bool := false
  deriving DecidableEq, Repr

/-- FBC beside its registers and the firmware's side of it: the buffer on the bus with an abort that waits for its end, a
stop that waits for bus idle, the error counters of R447, the start tick of a bus-off recovery, frames that wait for a
buffer; the claim of R451 (0 none, 1 listening restricted, 2 trying, 3 listening, 4 passed, 5 duplicate) with its last tick
and tries; recent bus-offs and the pause of R450; the last heartbeat and contactor command with its `cseq` and states
(R455); the XN-C8 modules; the last event by input (R458) and the counts of unmapped inputs. -/
structure FbState where
  onBus : Option Nat := none
  abort : Bool := false
  stopping : Bool := false
  tec : Nat := 0
  rec_ : Nat := 0
  recovering : Option Nat := none
  wait : List FbWant := []
  claim : Nat := 0
  claimAt : Nat := 0
  tries : Nat := 0
  boffs : List Nat := []
  pauseAt : Option Nat := none
  hbAt : Option Nat := none
  cmdAt : Option Nat := none
  cseq : Nat := 0
  on : Nat := 0
  xnc8 : List (Nat × Xnc8) := []
  inputs : List (Nat × (Nat × Nat × Nat)) := []
  unmapped : List (Nat × Nat) := []
  deriving DecidableEq, Repr

/-! ### The node table and the firmware's dialogue with nodes (chapter 07) -/

/-- A node table entry (R125, R154, R387): what join fixed, the next unicast command sequence, whether it is released. -/
structure NodeEntry where
  eui : List Byte := []
  nkind : Nat := 0
  version : Nat := 2
  lane : Nat := 0
  depth : Nat := 1
  relay : Bool := false
  parent : Nat := 0
  repU : Nat := 0
  repO : Nat := 0
  nnonce : List Byte := []
  mnonce : List Byte := []
  seq : Nat := 0
  released : Bool := false
  deriving DecidableEq, Repr

/-- A command that waits for a node: its code, the slot or channel of the settings it carries, its parameters where they are
not built from the settings at sending (R422). -/
structure NodeWant where
  code : Nat
  idx : Nat
  body : Option (List Byte)
  deriving DecidableEq, Repr

/-- The unacknowledged unicast command of a node (R200): code, slot or channel, payload, sequence, sends so far, the path of
the last send, its journal entry. -/
structure NodeCmd where
  code : Nat
  idx : Nat
  body : List Byte
  seq : Nat
  sends : Nat
  sentPath : Nat
  jseq : Nat
  deriving DecidableEq, Repr

/-- An energy latch (R325): its network time in ns, the node's energy in mWh since join, the number of its series. -/
structure NodeLatch where
  at_ : Nat
  mwh : Nat
  series : Nat
  deriving DecidableEq, Repr

/-- What the firmware holds of a node beside its entry: last report, energy in mWh since join with the last raw count, latches
oldest first and the series' number, lamp-on hours, the last answer, commands, the state elements of R422 (slots; channels),
clamps told since an envelope change, the last event number, a pending key delivery (next epoch, path sent), the image
status of a distribution (state, pass, base, bitmap), the mean mW of its last covered interval (R327). -/
structure NodeLive where
  fault : Nat := 0
  fb : Bool := false
  outs : List (Nat × Nat) := []
  pwrs : List (Nat × Nat) := []
  energy : Nat := 0
  raw : Option Nat := none
  latches : List NodeLatch := []
  series : Nat := 0
  pwrAt : List (Nat × Nat × Nat) := []
  hours : List Nat := []
  answer : List Byte := []
  cmd : Option NodeCmd := none
  wants : List NodeWant := []
  slots : Nat := 0
  chans : List (Nat × Nat) := []
  clampTold : List Nat := []
  event : Option Nat := none
  key : Option (Bool × Nat) := none
  image : Option (Nat × Nat × List Nat) := none
  mean : Option Nat := none
  deriving DecidableEq, Repr

/-- A group command whose repeats are not all sent (R201): group, payload, sequence, the lanes that have not yet taken its
copies, whether any has, its journal entry. -/
structure GroupCmd where
  group : Nat
  body : List Byte
  lanes : List Nat
  jseq : Nat
  deriving DecidableEq, Repr

/-- A distribution (R218-R222): session, library image, group, its octets, block size, targets, passes polled, what waits to
be sent on each lane, the path at which the poll of the pass went out, the nodes recorded as missed, those whose version
was read, and the path of Activate once known. -/
structure Distribution where
  session : Nat
  library : Nat
  group : Nat
  image : List Byte
  version : Nat
  nkind : Nat
  hwvar : Nat
  bsize : Nat
  targets : List Nat
  pass : Nat
  queue : List (Nat × List Byte)
  polledAt : Option Nat
  running : Bool
  missed : List Nat
  read : List Nat
  act : Option Nat
  deriving DecidableEq, Repr

/-- An epoch change in progress (R172): 0 none, 1 keys go out, 2 countdown, 3 switched; the new epoch and its context; the
path at which it began; the nodes that have not acknowledged. -/
structure EpochChange where
  phase : Nat := 0
  epoch : Nat := 0
  ctx : Nat := 0
  since : Nat := 0
  left : List Nat := []
  switchAt : Nat := 0
  deriving DecidableEq, Repr

/-- The gain survey (R255, R256): its state (0 idle, 1 running, 2 done, 3 invalid, 4 aborted), zone, input, step Δ, what it
does now (1 records before, 2 waits, 3 records after), the path that began, the samples of the step (element, value) and
whether one was bad, those before, whether the step is repeated, the photocell's mean at its start, the gains by element. -/
structure Survey where
  state : Nat := 0
  zone : Nat := 0
  input : Nat := 0
  delta : Int := 0
  step : Nat := 0
  from_ : Nat := 0
  samples : List (Nat × Int) := []
  bad : Bool := false
  before : List (Nat × Int) := []
  again : Bool := false
  photo : Int := 0
  gains : List (Nat × Int) := []
  deriving DecidableEq, Repr

/-- The firmware's node dialogue beside the node table: live nodes by short address, group commands, the group sequence's
copies, the cells each plan holds by 64 × index + offset (R113), data cells assigned, the epoch change, distributions,
`toff` in force (R275), the path of the start and whether J was reduced (R130), whether the rejoin of R164 was ordered, the
gain survey, whether the journal waits to be replayed (R562). -/
structure NodesState where
  live : List (Nat × NodeLive) := []
  groups : List GroupCmd := []
  planA : List (Nat × Nat) := []
  planB : List (Nat × Nat) := []
  data : List (Nat × Nat) := []
  epoch : EpochChange := {}
  dist : Option Distribution := none
  session : Nat := 0
  toff : Int := 0
  startPath : Nat := 0
  joinsReduced : Bool := true
  rejoinTold : Bool := false
  survey : Survey := {}
  replay : Bool := false
  deriving DecidableEq, Repr

/-! ### Zone models, schedules and overrides (chapters 09, 10) -/

/-- A zone model on its way into force (R269): the file to apply, whether its maps wait for the directory switch, the inputs
whose nodes get their group and position then (short address, channel, zone, position), and the result of the last load. -/
structure ZonesState where
  apply : Option (List Byte) := none
  wait : Bool := false
  moved : List (Nat × Nat × Nat × Nat) := []
  load : Nat := 0
  deriving DecidableEq, Repr

/-- An override in force (R291, R294): kind 1 input, 2 zone, 3 group, 4 zone set, 5 key switch; the level or set; its end and
its next renewal in network seconds (end 0: none); the inputs it holds; for a key switch its DIN in `input`. -/
structure Override where
  kind : Nat
  rank : Nat
  zone : Nat
  input : Nat
  group : Nat
  level : Nat
  stop : Nat
  renew : Nat
  holds : List (Nat × Nat)
  deriving DecidableEq, Repr

/-- A photocell input (R279, R280): the last 100 samples in mV, oldest first; the last 60 means in 1/16 lx; the readings in
range in a row up to 100; whether it is faulty. -/
structure Photocell where
  samples : List Int := []
  means : List Nat := []
  good : Nat := 0
  faulty : Bool := false
  deriving DecidableEq, Repr

/-- The schedules: photocells by AIN, the instants in network seconds at which photocell points fired, by date, day plan and
point; the effective set and its source by zone as last evaluated and as last written; counts of the traffic meters by
meter and network minute, their classes, rates and the multiple of 900 s evaluated last; the local date evaluated last
(R277-R288). -/
structure SchedState where
  cells : List (Nat × Photocell) := []
  fired : List (Nat × Nat × Nat × Nat) := []
  sets : List (Nat × (Nat × Nat)) := []
  written : List (Nat × Nat) := []
  counts : List (Nat × (Nat × Nat)) := []
  classes : List (Nat × Nat) := []
  rates : List (Nat × Nat) := []
  trafficAt : Nat := 0
  date : Option Nat := none
  deriving DecidableEq, Repr

/-! ### The feeder balance (chapter 12) -/

/-- What the balance takes from a 1 s window: its network second, the current of each element in mA (the last valid one), the
feeders' P in mW, and what the wired channels of each feeder drew, in nJ (R328, R329, R335). -/
structure BalWin where
  sec : Nat
  irms : List Nat
  p : List Int
  wired : List Nat
  deriving DecidableEq, Repr

/-- A profile record that waits for its balance, with the parameters in force at its close (R324): `bal_en`, `p_fix`, `p_sb`,
`d_abs`, `d_rel`, `cov_min`, `grace`, and `r_e` of the elements. -/
structure BalJob where
  feeder : Nat
  record : List Byte
  params : List Nat
  re : List Nat
  deriving DecidableEq, Repr

/-- The mapping check (R335): result of 7:0004 (1 running), feeder found, the node's channel with its mapping, the step (1
averages, 2 waits, 3 averages again), the network second or path it began at, five windows' P before, the power before. -/
structure MapCheck where
  result : Nat := 0
  g : Nat := 0
  short : Nat := 0
  ch : Nat := 0
  feeder : Nat := 0xFF
  step : Nat := 0
  from_ : Nat := 0
  before : List Int := []
  pwr : Nat := 0
  ranAt : Nat := 0
  deriving DecidableEq, Repr

/-- The balance: windows oldest first, the last valid current by element, records that wait, the latest balance record by
feeder, the feeders in alarm, results of 0 in a row, the mapping check, the nodes of other members by 8192 × member + short
address with their feeders (R330). -/
structure BalanceState where
  wins : List BalWin := []
  lastI : List (Nat × Nat) := []
  jobs : List BalJob := []
  latest : List (Nat × List Byte) := []
  alarm : List Nat := []
  oks : List (Nat × Nat) := []
  check : MapCheck := {}
  foreign : List (Nat × NodeLive) := []
  foreignFdr : List (Nat × Nat) := []
  deriving DecidableEq, Repr

/-! ### Sessions of the dictionary (chapter 15) -/

/-- A transfer on the field bus in progress (R408): whether the module sends it, its `op`, `tid` and address, the length in
all, the octets so far (received) or in all (sent) with the failing element and result of the response, the next segment
number, and the tick of the last frame. -/
structure Xfer where
  sending : Bool
  op : Nat
  tid : Nat
  area : Nat
  obj : Nat
  el : Nat
  total : Nat
  octets_ : List Byte
  seg : Nat
  at_ : Nat
  deriving DecidableEq, Repr

/-- An incomplete Block1 body (R411): its path, the octets so far, the tick of its last block. -/
structure CoapBody where
  path : List String
  got : List Byte
  at_ : Nat
  deriving DecidableEq, Repr

/-- A kept CoAP response (R412): the Message ID it answers, its tick, its octets. -/
structure CoapKept where
  mid : Nat
  at_ : Nat
  msg : List Byte
  deriving DecidableEq, Repr

/-- A session (R395): its identifier, interface of R401, session number on the field bus (1-4), the client's node number or
address, the agreed version, factory or not, the tick it was last used; the transfer in progress and the kept response with
its `tid` (R408); the Block1 body, the kept responses and the next Message ID of the module (R411, R412); the first sequence
number of its read window, C:0002 element 0 (R521); the DTLS records sent. -/
structure Session where
  id : Nat
  iface : Nat
  sid : Nat
  peer : List Byte
  version : Option (Nat × Nat)
  factory : Bool
  usedAt : Nat
  xfer : Option Xfer := none
  kept : Option (Nat × Nat × Nat × List Byte) := none
  body : Option CoapBody := none
  answers : List CoapKept := []
  mid : Nat := 0
  window : Nat := 0
  sent : Nat := 0
  deriving DecidableEq, Repr

/-- The dictionary: open sessions, the number opened since the start, the tick by which a restart that a command asked for
comes (R402, R415). -/
structure DictState where
  sessions : List Session := []
  opened : Nat := 0
  restartAt : Option Nat := none
  deriving DecidableEq, Repr

/-! ### BHN and the IP side of the firmware -/

/-- An NTP request that waits for its response (R469): the server's address, whether it is an upstream server, the transmit
timestamp it carries, the network time in ns at which it left. -/
structure NtpAsked where
  peer : List Byte
  upstream : Bool
  origin : List Byte
  left : Option Nat
  deriving DecidableEq, Repr

/-- An NTP sample: θ and δ in ns and its tick. -/
structure NtpSample where
  theta : Int
  delta : Nat
  at_ : Nat
  deriving DecidableEq, Repr

/-- A datagram that arrives in fragments (R464): sender, identification and protocol, the parts by offset, its length once the
last part is in. -/
structure Fragment where
  peer : List Byte
  ident : Nat
  proto : Nat
  parts : List (Nat × List Byte)
  total : Option Nat
  deriving DecidableEq, Repr

/-- A subscriber (R471): its `seg` word, its SYS_UID0 and its twin's, its interface and address, the ticks of its first and
last subscribe. -/
structure Subscriber where
  seg : Nat
  uid : Nat
  twin : Nat
  peer : List Byte
  first : Nat
  last : Nat
  deriving DecidableEq, Repr

/-- BHN beside its registers and the firmware's IP side. Ports: until when a PAUSE that was received holds a port, the last
PAUSE sent while its queue stays high (R482). The backhaul: whether ETH0 has a usable address, since when it has link and
address, the backhaul in use (0 none, 1 ETH0, 2 modem; R466), resolved addresses of A:0012 and A:0013 (0-3; R464), datagrams
discarded (R463, R473). NTP: the waiting request, the last samples newest first, the tick of the newest one used, the
source's stratum, the upstream server in use, the tick since which the module is locked (R469, R470). The terminus: whether
the deputy is followed, whether this module claims the role, whether a returned terminus follows the deputy, the subscribers,
the last `secs` by 8 × sender + kind, the last announcement's multiple, sender and `secs` by sender, misses, ready sent, the
hand-back second, the tick of the last conflict message, the mismatch (R70-R73, R471-R474). -/
structure BhnState where
  pausedTo : List (Nat × Nat) := []
  pauseAt : List (Nat × Nat) := []
  usable : Bool := false
  heldSince : Option Nat := none
  inUse : Nat := 0
  addrs : List (Nat × List Byte) := []
  discards : Nat := 0
  frags : List Fragment := []
  asked : Option NtpAsked := none
  polledAt : Option Nat := none
  samples : List NtpSample := []
  usedAt : Nat := 0
  stratum : Nat := 0
  upstream : Nat := 0
  lockedAt : Option Nat := none
  deputy : Bool := false
  claims : Bool := false
  ceded : Bool := false
  announced : Option Nat := none
  subs : List Subscriber := []
  last : List (Nat × Nat) := []
  heard : Nat := 0
  claimants : List (Nat × Nat) := []
  missed : Nat := 0
  readyAt : Option Nat := none
  handback : Option Nat := none
  conflictAt : Option Nat := none
  mismatch : Bool := false
  deriving DecidableEq, Repr

/-! ### Image update (chapter 21) -/

/-- A UPD job (R552): its operation and operands, the slot with its generation and content at the start, an abort that
waits for the end of the block in progress. -/
structure UpdJob where
  op : Nat
  part : Nat
  blk : Nat
  len : Nat
  ctr : List Byte
  slot : Nat
  gen : Nat
  key : List Byte
  aborted : Bool
  deriving DecidableEq, Repr

/-- The load in hand (R531-R534): its state (0 idle, 1 receiving, 2 verifying, 3 stored, 4 refused), header, octets received,
reason, library entry, the tick of the last data, the interface and session of its close, the check of R533 in hand (1 hash,
2 decryption, 3 hash in clear) and whether its job has started. -/
structure ImageLoad where
  state : Nat := 0
  header : List Byte := []
  got : Nat := 0
  reason : Nat := 0
  entry : Nat := 0
  at_ : Nat := 0
  iface : Nat := 0
  session : Nat := 0
  phase : Nat := 0
  started : Bool := false
  deriving DecidableEq, Repr

/-- UPD beside its registers: the job that runs, the load in hand, the tick of the start that began the start checks (R547),
the pair's part in an update of firmware (R550, R551): 0 none, 1 the handover is set up, 2 a revert waits for the standby to go,
3 it waits for its `ready`, 4 the standby has gone to restart and its `ready` is awaited. -/
structure UpdState where
  job : Option UpdJob := none
  load : ImageLoad := {}
  checkAt : Option Nat := none
  pair : Nat := 0
  deriving DecidableEq, Repr

/-- A place of the bulk store that holds a settings item or a library image: its state (R536), `sub` and `hw`, and the
interface and session of its load's close. -/
structure ImagePlace where
  state : Nat := 0
  sub : Nat := 0
  hw : Nat := 0
  iface : Nat := 0
  session : Nat := 0
  deriving DecidableEq, Repr

/-- The armed or last activation (R542, D:0004): its second, state (0 none, 1 armed, 2 applied, 3 missed), items (0 the
candidate bank, 1 bundle, 2 zone model, 3 profile), identity, its journal entry, the network second of the ARM, whether the
path length changes with it and whether `plen` was written. -/
structure Activation where
  at_ : Nat := 0
  state : Nat := 0
  items : List Nat := []
  identity : List Byte := []
  jseq : Option Nat := none
  armedAt : Nat := 0
  plen : Bool := false
  plenWritten : Bool := false
  deriving DecidableEq, Repr

/-- A trial (R547): its T, the end of its window in network seconds (none: confirmed at the start checks), its items, the
journal entry it releases, whether it holds firmware. -/
structure Trial where
  at_ : Nat
  stop : Option Nat
  items : List Nat
  jseq : Option Nat
  firmware : Bool
  deriving DecidableEq, Repr

/-- What the update keeps across resets: the banks' states, the settings items 1-3, the library, the activation, the trial,
whether a snapshot stands in partition 3 (R536, R540, R547). -/
structure UpdNv where
  banks : List Nat := [5, 0]
  items : List (Nat × ImagePlace) := []
  library : List (Nat × ImagePlace) := []
  act : Activation := {}
  trial : Option Trial := none
  snapshot : Bool := false
  deriving DecidableEq, Repr

/-! ### What the cell store and the bulk store keep in a structured form -/

/-- Nonvolatile state of the resident firmware whose octet layout the spec does not give: it survives every reset. -/
structure NvState where
  journal : Journal := {}
  fndCount : Nat := 0
  fullTold : Bool := false
  /-- The slot store (R487), the update counters by anchor (R506), the helper data by its enrolment (R508), the number of
  enrolments after the factory's, the installed certificate (B:0010), the stored ceilings by context (R497). -/
  slots : List (Nat × Slot) := []
  updCtr : List (Nat × Nat) := []
  helper : Option Nat := some 0
  enrolments : Nat := 0
  cert : Option (List Byte) := none
  ceil : List (Nat × Nat) := []
  /-- The copy of the duty buckets and the network minute it was made at (R100). -/
  duty : List (Nat × Nat) := []
  dutyMinute : Option Nat := none
  /-- The two copies of the metering save image (R319), and the metering profile store, oldest record first (R317, R333). -/
  image0 : Option MeterImage := none
  image1 : Option MeterImage := none
  profile : List (List Byte) := []
  /-- The node table by short address, the next group command sequence, the start of the segment key epoch and the epoch
  in force (R12, R172, R200). -/
  nodes : List (Nat × NodeEntry) := []
  groupSeq : Nat := 0
  epochStart : Nat := 0
  epochNo : Nat := 0
  /-- The zone model file in force and the one before it (R271), and each zone's generation (R267). -/
  zfile : List Byte := []
  zfileOld : List Byte := []
  zgen : List (Nat × Nat) := []
  /-- The overrides in force, oldest first (R294). -/
  overrides : List Override := []
  /-- The image update (chapter 21). -/
  upd : UpdNv := {}
  /-- The last starts, newest first: the operating time and whether `wdt0` caused it (R560). -/
  starts : List (Nat × Bool) := []
  deriving DecidableEq, Repr

/-! ### What leaves the module -/

/-- Where octets leave the module: the stack link, the field bus, an Ethernet port, the PPP port. -/
inductive OutPort where
  | link | fieldBus
  | eth (k : Nat)
  | ppp
  deriving DecidableEq, Repr

/-- A frame that has left the module. -/
structure OutMsg where
  port : OutPort
  data : List Byte
  deriving DecidableEq, Repr

/-! ### The whole machine -/

structure State where
  /-- Ticks of the 50 MHz clock since the model's start (R55). -/
  now : Nat := 0
  /-- The next free value's number: the model's own field. -/
  free : Nat := 0
  /-- The commands that wait, first in, first out. -/
  pending : List Instr := []
  /-- Frames that have left the module on its wired ports, the newest first (log entry 9). -/
  out : List OutMsg := []
  /-- Register words that differ from their reset values, by address: the values in force. -/
  regs : List (Nat × Word) := []
  /-- Shadowed values that wait for their boundary (R52), by 32 × address + lowest bit. -/
  shadows : List (Nat × Nat) := []
  /-- SRAM, cell store and DRAM octets other than 0, by address. -/
  mem : List Host.Cell := []
  /-- Bulk store blocks that are not all zeros, by block number (R37). -/
  bulk : List (Nat × List Byte) := []
  /-- Dictionary values that differ from the catalogue defaults, in their encoding (R392), by address. -/
  od : List (Nat × List Byte) := []
  /-- The values in force of dictionary elements whose stored value waits for the restart or an activation (R416). -/
  odHeld : List (Nat × List Byte) := []
  sys : SysState := {}
  bsc : BscState := {}
  evr : EvrState := {}
  ntb : NtbState := {}
  pqu : PquState := {}
  tkn : TknState := {}
  vault : VaultState := {}
  bkd : BkdState := {}
  flt : FaultState := {}
  rfe : RfeState := {}
  tte : TteState := {}
  lfe : LfeState := {}
  sdc : SdcState := {}
  mtr : MtrState := {}
  fb : FbState := {}
  icu : IcuState := {}
  ioc : IocState := {}
  pwr : PwrState := {}
  nodes : NodesState := {}
  zones : ZonesState := {}
  sched : SchedState := {}
  bal : BalanceState := {}
  bhn : BhnState := {}
  dict : DictState := {}
  upd : UpdState := {}
  nv : NvState := {}
  deriving DecidableEq, Repr

/-- The machine right after its first power-on reset. -/
def State.reset : State := {}

end Sys2Proof.Machine
end

