-- ==== Sys2Proof/Machine/Ops.lean ====
section
/-!
DEFINITION. The named operations every meaning is made of: register fields and their
shadows, flags, memory and bulk store octets, free values, time measured in ticks.
-/

namespace Sys2Proof.Machine

/-! ### Time -/

/-- Ticks of 20 ns in `n` milliseconds, microseconds, seconds. -/
def msTicks (n : Nat) : Nat := n * 50000
def usTicks (n : Nat) : Nat := n * 50
def secTicks (n : Nat) : Nat := n * 50000000

/-! ### Free values -/

/-- The next free value of width `w`, and the state with the counter advanced. -/
def takeFree (w : Nat) (s : State) : Nat × State :=
  ((Config.freeBits w s.free).toNat, { s with free := s.free + 1 })

/-! ### Registers -/

/-- The register word at reset (the tables' Reset column, with the values that depend on the index). -/
def resetWord (a : Nat) : Word :=
  let w := match regAt a with
    | some r => r.fields.foldl (fun acc f => acc + f.reset * 2 ^ f.lsb) 0
    | none => 0
  let w := if a = A.CAPn_CFG 0 then w + 0x100 * 2 ^ 4 else w
  let n := (a - A.ICU_PRIOn 0) / 4
  let w := if A.ICU_PRIOn 0 ≤ a ∧ a ≤ A.ICU_PRIOn 159 ∧ (102 ≤ n ∧ n ≤ 125 ∨ 153 ≤ n) then w + 0x20 else w
  BitVec.ofNat 32 w

/-- The word in force in the register at `a`. -/
def reg (s : State) (a : Nat) : Word := sget resetWord s.regs a

/-- Sets the word in force of the register at `a`. -/
def setReg (s : State) (a : Nat) (w : Word) : State := { s with regs := sput resetWord s.regs a w }

/-- The value in force of a field. -/
def fld (s : State) (f : Field) : Nat := bits (reg s f.addr).toNat f.lsb f.width

/-- Whether a one-bit field is 1. -/
def isSet (s : State) (f : Field) : Bool := fld s f == 1

/-- Sets a field's value in force. -/
def setFld (s : State) (f : Field) (v : Nat) : State :=
  setReg s f.addr (BitVec.ofNat 32 (putBits (reg s f.addr).toNat f.lsb f.width v))

/-- Sets a one-bit field or flag. -/
def raise (s : State) (f : Field) : State := setFld s f 1

/-- Clears a one-bit field or flag. -/
def lower (s : State) (f : Field) : State := setFld s f 0

/-- Sets a field to 1 or 0. -/
def setBool (s : State) (f : Field) (b : Bool) : State := setFld s f (b2n b)

/-- Sets bit `i` of a flag field of several bits. -/
def raiseBit (s : State) (f : Field) (i : Nat) : State := raise s ⟨f.addr, f.lsb + i, 1⟩

/-- Clears bit `i` of a field of several bits. -/
def lowerBit (s : State) (f : Field) (i : Nat) : State := lower s ⟨f.addr, f.lsb + i, 1⟩

/-- Bit `i` of a field of several bits. -/
def fldBit (s : State) (f : Field) (i : Nat) : Bool := bit (fld s f) i

/-- Adds `n` to a counter field that saturates at its limit. -/
def bump (s : State) (f : Field) (n : Nat) : State := setFld s f (satAdd f.width (fld s f) n)

/-- Adds `n` to a counter field that wraps. -/
def bumpWrap (s : State) (f : Field) (n : Nat) : State := setFld s f ((fld s f + n) % 2 ^ f.width)

/-- The base address of the block of bit index `i` (R42). -/
def blockBase (i : Nat) : Nat := 0x40000000 + 0x10000 * i

/-- `cfg_err` in `_STAT` and `_IFLG` of the block of bit index `i` (R51). -/
def cfgErr (s : State) (i : Nat) : State :=
  raise (raise s ⟨blockBase i + 4, 31, 1⟩) ⟨blockBase i + 12, 31, 1⟩

/-- Whether the block of bit index `i` runs: bit 29 of its `_STAT` (R51). -/
def busy (s : State) (i : Nat) : Bool := isSet s ⟨blockBase i + 4, 29, 1⟩

/-! ### Shadows (R52) -/

def shadowKey (f : Field) : Nat := 32 * f.addr + f.lsb

/-- The value software reads in a field: its shadow while one waits, else the value in force. -/
def fldRead (s : State) (f : Field) : Nat := (slook s.shadows (shadowKey f)).getD (fld s f)

/-- Puts a value in a field's shadow. -/
def shadow (s : State) (f : Field) (v : Nat) : State := { s with shadows := sins s.shadows (shadowKey f) (v % 2 ^ f.width) }

/-- Whether block `i` has a shadow waiting (`shd_pend`). -/
def shadowPending (s : State) (i : Nat) : Bool := s.shadows.any (fun p => blockIndex (p.1 / 32) == i)

/-- The field row of the register at `a` whose lowest bit is `lsb`. -/
def fieldInfoAt (a lsb : Nat) : Option FieldInfo :=
  match regAt a with
  | some r => r.fields.find? (fun f => f.lsb == lsb)
  | none => none

/-- Whether the shadow at key `k` belongs to block `i` and waits for boundary `b`. -/
def waitsFor (i : Nat) (b : Boundary) (k : Nat) : Bool :=
  blockIndex (k / 32) == i &&
    match fieldInfoAt (k / 32) (k % 32) with
    | some f => f.timing == .shadow b
    | none => false

/-- Gives the shadows of the list their effect. -/
def applyShadows (s : State) (l : List (Nat × Nat)) : State :=
  l.foldl (fun s p =>
    match fieldInfoAt (p.1 / 32) (p.1 % 32) with
    | some f => setFld { s with shadows := sdel s.shadows p.1 } ⟨p.1 / 32, f.lsb, f.width⟩ p.2
    | none => s) s

/-- Boundary `b` of block `i`: its waiting shadows take effect. -/
def transferShadows (s : State) (i : Nat) (b : Boundary) : State :=
  applyShadows s (s.shadows.filter (fun p => waitsFor i b p.1))

/-- Block `i` starts: `busy` rises. -/
def blockStart (s : State) (i : Nat) : State := raise s ⟨blockBase i + 4, 29, 1⟩

/-- Block `i` stops: every waiting shadow takes effect as `busy` falls (R52). -/
def blockStop (s : State) (i : Nat) : State :=
  lower (applyShadows s (s.shadows.filter (fun p => blockIndex (p.1 / 32) == i))) ⟨blockBase i + 4, 29, 1⟩

/-! ### Memory -/

/-- What an octet of memory that nothing has written reads as. -/
def memDefault (_ : Nat) : Byte := 0

/-- The octet at address `a`. -/
def memByte (s : State) (a : Nat) : Byte := sget memDefault s.mem a

/-- Writes one octet. -/
def setByte (s : State) (a : Nat) (b : Byte) : State := { s with mem := sput memDefault s.mem a b }

/-- `n` octets from address `a`. -/
def memBytes (s : State) (a n : Nat) : List Byte := (List.range n).map (fun i => memByte s (a + i))

/-- Writes octets from address `a` on. -/
def setBytes (s : State) (a : Nat) : List Byte → State
  | [] => s
  | b :: t => setBytes (setByte s a b) (a + 1) t

/-- The little-endian number of `n` octets at address `a`. -/
def memNat (s : State) (a n : Nat) : Nat := leNat (memBytes s a n)

/-- Writes the `n` octets of `v` at address `a`, least significant first. -/
def setMemNat (s : State) (a n v : Nat) : State := setBytes s a (leBytes n v)

/-- The canonical form of the memory. -/
abbrev Memory.wf (m : List Host.Cell) : Prop := Canonical memDefault m

/-- The ranges of the address map (R31). -/
def inRom (a : Nat) : Bool := a < 0x10000
def inSram (a : Nat) : Bool := 0x10000000 ≤ a && a < 0x10200000
def inCell (a : Nat) : Bool := 0x20000000 ≤ a && a < 0x20040000
def inPlane (a : Nat) : Bool := 0x40000000 ≤ a && a < 0x40120000
def inDram (a : Nat) : Bool := 0x80000000 ≤ a && a < 0xA0000000

/-- Whether `n` octets from `a` lie wholly in SRAM or wholly in DRAM. -/
def inOneRam (a n : Nat) : Bool := (inSram a && inSram (a + n - 1)) || (inDram a && inDram (a + n - 1))

/-! ### Dictionary values -/

/-- The stored value of a dictionary element, in its encoding. -/
def odGet (s : State) (area obj el : Nat) : List Byte := sget odDefault s.od (odKey area obj el)

/-- Stores a dictionary element's value. -/
def odSet (s : State) (area obj el : Nat) (v : List Byte) : State :=
  { s with od := sput odDefault s.od (odKey area obj el) v }

/-- The stored value of a number element. -/
def odNat (s : State) (area obj el : Nat) : Nat := leNat (odGet s area obj el)

/-- The stored value of a signed number element of `w` bits. -/
def odInt (w : Nat) (s : State) (area obj el : Nat) : Int := signed w (odNat s area obj el)

/-- Stores a number of `n` octets. -/
def odSetNat (s : State) (area obj el n v : Nat) : State := odSet s area obj el (leBytes n v)

/-- The value in force of an element: the held one while a stored one waits (R416). -/
def odForce (s : State) (area obj el : Nat) : List Byte := (slook s.odHeld (odKey area obj el)).getD (odGet s area obj el)

/-- The number in force of an element. -/
def odForceNat (s : State) (area obj el : Nat) : Nat := leNat (odForce s area obj el)

/-! ### Whole-module views -/

/-- The word `seg` of the spec's records: segment number, member and side (R511). -/
def segWord (s : State) : Nat :=
  odForceNat s 9 1 0 % 1024 + 1024 * fld s R.TKN_CFG_member + 4096 * fld s R.TKN_CFG_side

/-- Network time in nanoseconds, and in whole seconds. -/
def netNs (s : State) : Nat := s.ntb.sec * 1000000000 + s.ntb.ns
def netSec (s : State) : Nat := s.ntb.sec

/-- TIME of R55 in its 12 octets. -/
def timeBytes (sec ns : Nat) : List Byte := leBytes 8 sec ++ leBytes 4 ns

/-- Whether this module is the active one of its pair (R365); a module without a twin always is. -/
def isActive (s : State) : Bool := !isSet s R.TKN_CFG_twin || fld s R.TKN_ROLE_role == 2

/-- The octets of a stream record: its header and body (R387). -/
def encodeStream (r : StreamRec) : List Byte :=
  leBytes 1 r.rtype ++ leBytes 1 (b2n r.essential) ++ leBytes 2 r.body.length ++ r.body

/-- Drops the oldest records while more than 4 MiB are kept (R386). -/
def trimStream : List StreamRec → Nat → Nat → List StreamRec × Nat
  | [], base, _ => ([], base)
  | r :: t, base, head =>
    if 4194304 < head - base then trimStream t (base + 4 + r.body.length) head else (r :: t, base)

/-- Appends a record to the twin's stream (R386). -/
def streamPut (rtype : Nat) (essential : Bool) (body : List Byte) (s : State) : State :=
  if isSet s R.TKN_CFG_twin && fld s R.TKN_ROLE_role == 2 then
    let head := s.tkn.sseq + 4 + body.length
    let (l, base) := trimStream (s.tkn.stream ++ [⟨rtype, essential, body⟩]) s.tkn.base head
    { s with tkn := { s.tkn with stream := l, base := base, sseq := head } }
  else s

/-- A frame leaves the module. -/
def emit (port : OutPort) (data : List Byte) (s : State) : State := { s with out := ⟨port, data⟩ :: s.out }

/-! ### The PLLs of R601 -/

/-- Whether PLL E and PLL R have something to run for. -/
def pllEWanted (s : State) : Bool := busy s 10 || fld s R.BHN_CTRL_en != 0
def pllRWanted (s : State) : Bool := fld s R.RFE_CTRL_mode != 0 || busy s 6

/-- A PLL that nothing needs stops; it locks again after its next start (R602). RFE shows PLL R as its synthesiser's lock. -/
def pllSettle (s : State) : State :=
  let r := s.pwr.pllR && pllRWanted s
  setBool { s with pwr := { s.pwr with pllE := s.pwr.pllE && pllEWanted s, pllR := r, heldGo := s.pwr.heldGo && busy s 10 } }
    R.RFE_STAT_pll_lock r

/-! ### Bulk store -/

/-- An empty block. -/
def zeroBlock : List Byte := []

/-- The first block of a partition and its size in blocks (R37). -/
def partitionFirst : Nat → Nat
  | 0 => 0x000000 | 1 => 0x004000 | 2 => 0x008000 | 3 => 0x028000 | 4 => 0x02A000 | 5 => 0x02C000
  | 6 => 0x03C000 | 7 => 0x04C400 | 8 => 0x08C400 | 9 => 0x10C400 | 10 => 0x110400 | 11 => 0x190400
  | _ => 0

def partitionBlocks : Nat → Nat
  | 0 => 16384 | 1 => 16384 | 2 => 131072 | 3 => 8192 | 4 => 8192 | 5 => 65536
  | 6 => 66560 | 7 => 262144 | 8 => 524288 | 9 => 16384 | 10 => 524288 | 11 => 457728
  | _ => 0

/-- The 4,096 octets of block `b` of partition `p`; trimmed and unwritten blocks read as zeros (R38). -/
def bulkBlock (s : State) (p b : Nat) : List Byte :=
  padTo 4096 (sget (fun _ => zeroBlock) s.bulk (partitionFirst p + b))

/-- Makes block `b` of partition `p` hold `bs`. -/
def setBulk (s : State) (p b : Nat) (bs : List Byte) : State :=
  let v := if (padTo 4096 bs).all (· == 0) then zeroBlock else padTo 4096 bs
  { s with bulk := sput (fun _ => zeroBlock) s.bulk (partitionFirst p + b) v }

/-- Octets `[i, i + n)` of a run of blocks of partition `p` that starts at block `b`. -/
def bulkBytes (s : State) (p b i n : Nat) : List Byte :=
  let first := i / 4096
  let last := (i + n + 4095) / 4096
  octets ((List.range (last - first)).flatMap (fun k => bulkBlock s p (b + first + k))) (i - 4096 * first) n

/-- Writes octets at offset `i` of a run of blocks of partition `p` that starts at block `b`. -/
def setBulkBytes (s : State) (p b i : Nat) (bs : List Byte) : State :=
  let first := i / 4096
  let last := (i + bs.length + 4095) / 4096
  let old := (List.range (last - first)).flatMap (fun k => bulkBlock s p (b + first + k))
  let off := i - 4096 * first
  let new := old.take off ++ bs ++ old.drop (off + bs.length)
  upTo (last - first) (fun k s => setBulk s p (b + first + k) (octets new (4096 * k) 4096)) s

end Sys2Proof.Machine
end

