-- ==== Sys2Proof/Machine/Operands.lean ====
section
/-!
DEFINITION. What a written value may be: for every register field, whether the block takes it, ignores it, or ignores it
with `cfg_err`, and whether an L field is locked (R52, R54 and the register tables of the chapters).
-/

namespace Sys2Proof.Machine

/-- How a block takes the value written to a field: as it is, as another value, or not at all; `err` sets `cfg_err`. -/
structure Admit where
  value : Option Nat
  err : Bool
  deriving DecidableEq, Repr

/-- The value is taken. -/
def Admit.take (v : Nat) : Admit := ⟨some v, false⟩
/-- The value is ignored and `cfg_err` is set. -/
def Admit.refuse : Admit := ⟨none, true⟩
/-- The value is ignored. -/
def Admit.drop : Admit := ⟨none, false⟩

/-- Taken where `c` holds, refused otherwise. -/
def Admit.when (c : Bool) (v : Nat) : Admit := if c then .take v else .refuse

/-- Whether the plane is sealed (R45). -/
def sealed (s : State) : Bool := isSet s R.SYS_STAT_sealed

/-- A sealed word of bits: bits are set and never cleared (R45). -/
def Admit.onlySet (s : State) (old v : Nat) : Admit :=
  if sealed s then ⟨some (old ||| v), old ||| v != v⟩ else .take v

/-- Core 1's SRAM window (R33). -/
def c1SramFrom (s : State) : Nat := 0x10200000 - 0x10000 * fld s R.SYS_C1MEM_sram64
/-- Core 1's DRAM window (R33). -/
def c1DramFrom (s : State) : Nat := 0xA0000000 - 0x1000000 * fld s R.SYS_C1MEM_dram16

/-- Whether core 1 may run at `SYS_C1BOOT` (R54). -/
def c1BootOk (s : State) : Bool :=
  let a := 4 * fld s R.SYS_C1BOOT_addr
  c1SramFrom s ≤ a && a < 0x10200000

/-- Whether a write of mode 2 is taken (R605). -/
def mayHibernate (s : State) : Bool :=
  !isSet s R.SYS_STAT_c1_busy && [6, 7, 10, 9, 11, 13, 5, 15, 17, 14].all (fun b => !busy s b) &&
    !isSet s R.KVT_STAT_cmd_busy && fld s R.ICU_WEN_en != 0

def admitSys (s : State) (a lsb v : Nat) : Admit :=
  if a = A.SYS_PWR then .when (v < 3 && (v != 2 || mayHibernate s)) v
  else if a = A.SYS_CTRL ∧ lsb = 0 ∧ v = 1 then .when (isSet s R.SYS_CTRL_c1_run || c1BootOk s) v
  else if a = A.SYS_C1MEM then
    let old := fld s ⟨a, lsb, if lsb = 24 then 1 else 5⟩
    if sealed s then (if v = old then .take v else .refuse)
    else if lsb = 24 then .take v
    else .when (v ≤ 16) v
  else if a = A.SYS_PLANE_WR then
    if sealed s then .onlySet s (fld s R.SYS_PLANE_WR_lock) (v ||| 1) else .take (v ||| 1)
  else if a = A.SYS_PLANE_RD then .onlySet s (fld s R.SYS_PLANE_RD_lock) v
  else if a = A.SYS_WDT1_CTRL ∧ lsb = 0 then .when (1 ≤ v) v
  else .take v

def admitBsc (s : State) (a lsb v : Nat) : Admit :=
  if a = A.BSC_C1ACC then .onlySet s (fld s ⟨a, lsb, 12⟩) v else .take v

def admitNtb (s : State) (a lsb v : Nat) (w : Word) : Admit :=
  if a = A.NTB_CTRL ∧ lsb = 0 then .when (v = 1 || !isSet s R.NTB_CTRL_run) v
  else if a = A.NTB_INC then .when (0x13000000 ≤ v && v ≤ 0x15000000) v
  else if a = A.NTB_GUARD then .when (1000 ≤ v && v ≤ 10000000) v
  else if a = A.NTB_HOLD then .when (10 ≤ v && v ≤ 600) v
  else if a = A.NTB_PATHCFG then .when (v < 3) v
  else if a = A.NTB_C1OWN then .when (!sealed s || w == reg s A.NTB_C1OWN) v
  else .take v

/-- Whether queue `n` may be enabled with CFG word `w`: a ring inside 512 KiB that overlaps no enabled ring, and a
producer that exists. -/
def ringOk (s : State) (n : Nat) (w : Word) : Bool :=
  let base := bits w.toNat 0 9
  let size := bits w.toNat 16 9
  1 ≤ size && size ≤ 511 && base + size ≤ 512 && bits w.toNat 25 3 ≤ 4 &&
    (List.range 32).all (fun m => m == n || !isSet s (R.PQU_Qn_CFG_en m) ||
      fld s (R.PQU_Qn_CFG_base m) + fld s (R.PQU_Qn_CFG_size m) ≤ base || base + size ≤ fld s (R.PQU_Qn_CFG_base m))

/-- The queue at the queue SRAM's place `n`. -/
def queueAt (s : State) (n : Nat) : Queue := sget (fun _ => {}) s.pqu.queues n

/-- Whether port `k` holds queue `q` in role `role` (0 producer, 1 consumer). -/
def portHolds (s : State) (k q role : Nat) : Bool :=
  isSet s (R.PQU_PRTk_SEL_en k) && fld s (R.PQU_PRTk_SEL_q k) == q && fld s (R.PQU_PRTk_SEL_role k) == role

/-- Whether port `k` may select the queue that SEL word `w` names (R479). -/
def maySelect (s : State) (k : Nat) (w : Word) : Bool :=
  let q := bits w.toNat 0 5
  let role := bits w.toNat 8 1
  (if role = 0 then fld s (R.PQU_Qn_CFG_prod q) == 0 else (queueAt s q).cons == 0) &&
    (List.range 4).all (fun j => j == k || !portHolds s j q role) && (k < 2 || fldBit s R.PQU_C1OWN_q q)

def admitPqu (s : State) (a lsb v : Nat) (w : Word) : Admit :=
  if a = A.PQU_C1OWN then .onlySet s (fld s R.PQU_C1OWN_q) v
  else if A.PQU_Qn_CFG 0 ≤ a ∧ a < A.PQU_Qn_CFG 32 then
    let n := (a - A.PQU_Qn_CFG 0) / 0x10
    if a = A.PQU_Qn_CFG n then
      if lsb = 28 then .when (v ≤ 4) v
      else if lsb = 31 ∧ v = 1 then .when (isSet s (R.PQU_Qn_CFG_en n) || ringOk s n w) v
      else .take v
    else if a = A.PQU_Qn_WM n then .when (bits w.toNat 0 12 == 0 || bits w.toNat 16 12 < bits w.toNat 0 12) v
    else .take v
  else if A.PQU_PRTk_SEL 0 ≤ a ∧ a < A.PQU_PRTk_SEL 4 then
    let k := (a - A.PQU_PRTk_SEL 0) / 0x10
    if a = A.PQU_PRTk_SEL k then .when (bits w.toNat 9 1 == 0 || maySelect s k w) v else .take v
  else .take v

def admitEvr (_s : State) (a _lsb v : Nat) : Admit :=
  if a = A.EVR_CFG then .when (1 ≤ v && v ≤ 255) v
  else if a = A.EVR_SPILL then .when (inCell (0x4000 * v) && inCell (0x4000 * v + 0x3FFF)) v
  else .take v

/-- The band registers as they will stand: the written word for its own register, shadows for the others (R96). -/
def bandWill (s : State) (a : Nat) (w : Word) (f : Field) : Nat :=
  if f.addr = a then bits w.toNat f.lsb f.width else fldRead s f

/-- Whether a write of a band register is taken (R96). -/
def bandOk (s : State) (a : Nat) (w : Word) : Bool :=
  let b := (a - A.RFE_BANDb_EDGE 0) / 0x10
  let v := bandWill s a w
  let lo := v (R.RFE_BANDb_EDGE_lo b)
  let hi := v (R.RFE_BANDb_EDGE_hi b)
  (50 ≤ v (R.RFE_BANDb_RSV_warn b) && v (R.RFE_BANDb_RSV_warn b) ≤ 100 || a != A.RFE_BANDb_RSV b) &&
  (v (R.RFE_BANDb_EDGE_en b) == 0 ||
    (lo < hi && 1 ≤ v (R.RFE_BANDb_LIM_duty b) && v (R.RFE_BANDb_LIM_duty b) ≤ 10000 &&
      v (R.RFE_BANDb_RSV_rsv b) < v (R.RFE_BANDb_LIM_duty b) &&
      (List.range 4).all (fun c => c == b || v (R.RFE_BANDb_EDGE_en c) == 0 ||
        hi ≤ v (R.RFE_BANDb_EDGE_lo c) || v (R.RFE_BANDb_EDGE_hi c) ≤ lo)))

/-- The channel list of R109. -/
def chanList (s : State) : List Nat :=
  (List.range 64).filter (fun k => if k < 32 then fldBit s R.TTE_CHL_LO_m k else fldBit s R.TTE_CHL_HI_m (k - 32))

/-- The beacon channel of beacon interval `b` (R111). -/
def beaconChan (s : State) (b : Nat) : Nat :=
  match b % 4 with
  | 0 => fld s R.TTE_BCNCH_ch0
  | 1 => fld s R.TTE_BCNCH_ch1
  | 2 => fld s R.TTE_BCNCH_ch2
  | _ => fld s R.TTE_BCNCH_ch3

/-- Whether TTE may run: 16 to 64 channels, the beacon channels in the list (R109), no queue in both roles. -/
def tteMayRun (s : State) : Bool :=
  let l := chanList s
  let rx := fld s R.TTE_RXQ_base
  let tx := fld s R.TTE_TXQ_base
  16 ≤ l.length && (List.range 4).all (fun b => l.contains (beaconChan s b)) && (rx + 4 ≤ tx || tx + 13 ≤ rx)

def admitRfe (s : State) (a lsb v : Nat) (w : Word) : Admit :=
  if a = A.RFE_WIN then .when (4700 ≤ v && v ≤ 9600) v
  else if a = A.RFE_CTRL ∧ lsb = 8 then .when (v != 3) v
  else if a = A.RFE_PHY ∧ lsb = 4 then .when (4 ≤ v) v
  else if A.RFE_BANDb_EDGE 0 ≤ a ∧ a < A.RFE_BANDb_EDGE 4 then .when (bandOk s a w) v
  else if a = A.RFE_DUTY_SEL ∧ lsb = 8 then .when (v < 60) v
  else .take v

def admitTte (s : State) (a lsb v : Nat) : Admit :=
  if a = A.TTE_TIMING ∧ lsb = 0 then .when (10 ≤ v && v ≤ 200) v
  else if a = A.TTE_TIMING ∧ lsb = 8 then .when (1 ≤ v) v
  else if a = A.TTE_SHARE ∧ (lsb = 0 ∨ lsb = 4) then .when (v ≤ 4) v
  else if a = A.TTE_RXQ then .when (v ≤ 28) v
  else if a = A.TTE_TXQ then .when (v ≤ 19) v
  else if a = A.TTE_CTRL ∧ lsb = 0 ∧ v = 1 then .when (busy s 7 || tteMayRun s) v
  else .take v

def admitKvt (s : State) (a v : Nat) : Admit :=
  if a = A.KVT_JT_N then .when (v ≤ 4096) v
  else if A.KVT_CTXc_CFG 0 ≤ a ∧ a < A.KVT_CTXc_CFG 3 ∧ a % 16 = 8 then
    .when (fld s (R.KVT_CTXc_CTR_ctr ((a - A.KVT_CTXc_CFG 0) / 16)) < v) v
  else .take v

def admitLfe (s : State) (a lsb v : Nat) : Admit :=
  if a = A.LFE_CYC ∧ lsb = 0 then .when (v ≤ 4) v
  else if a = A.LFE_CYC ∧ lsb = 8 then .when (1 ≤ v && v ≤ 16) v
  else if a = A.LFE_TXQ then .when (v ≤ 28) v
  else if a = A.LFE_CTRL ∧ lsb = 0 ∧ v = 1 then
    let fwd := fld s R.LFE_QCFG_fwd
    .when (isSet s R.LFE_CTRL_run || !(fwd == fld s R.LFE_QCFG_rq0 || fwd == fld s R.LFE_QCFG_rq1 || fwd == fld s R.LFE_QCFG_evq)) v
  else .take v

/-- A siding as it stands. -/
def sidingAt (s : State) (n : Nat) : Siding := sget (fun _ => {}) s.sdc.sidings n

/-- The reset value of a word of the SDC table memory: g of a coefficient set is 1.0 (R358). -/
def sdcDefault (a : Nat) : Nat := if 0x22000 ≤ a ∧ a < 0x22200 ∧ a % 16 = 12 then 0x4000 else 0

/-- A word of the SDC table memory. -/
def sdcWord (s : State) (a : Nat) : Nat := sget sdcDefault s.sdc.tab a

/-- The address of word 0 of device `d` of siding `n`. -/
def sdcDevAddr (n d : Nat) : Nat := 0x20000 + 16 * (128 * n + d)

/-- The type a device is expected to have (R358). -/
def sdcXtype (s : State) (n d : Nat) : Nat := bits (sdcWord s (sdcDevAddr n d + 12)) 8 8

/-- The divisor of the chain clock (R338). -/
def sdcDiv (k : Nat) : Nat := natAt [8, 10, 16, 20, 25, 40, 50, 80, 100] k

/-- Whether siding `n` may start (R357). -/
def sidingOk (s : State) (n : Nat) : Bool :=
  let mode := fld s (R.SDC_Cn_CFG_mode n)
  let nd := fld s (R.SDC_Cn_CFG_ndev n)
  let ck := fld s (R.SDC_Cn_CFG_ckdiv n)
  let rows := fld s (R.SDC_Cn_ROW_rows n)
  let us := fld s (R.SDC_Cn_ROW_row_us n)
  (mode == 1 || mode == 2) && 1 ≤ nd && nd ≤ 128 && ck ≤ 8 &&
    (mode != 1 || (List.range nd).all (fun d => sdcXtype s n d == 0x16)) &&
    (mode != 2 || ((List.range nd).any (fun d => sdcXtype s n d == 0x04) && 1 ≤ rows && rows ≤ 4 && 100 ≤ us && us ≤ 5000 &&
      (288 * nd + fld s (R.SDC_Cn_BLK_toff n) + fld s (R.SDC_Cn_BLK_ton n) + 2) * sdcDiv ck ≤ us * 200))

def admitSdc (s : State) (a lsb v : Nat) : Admit :=
  if a = A.SDC_CTRL ∧ lsb = 0 then
    let ok := (List.range 4).foldl (fun acc n =>
      if bit v n && (fldBit s R.SDC_CTRL_run n || sidingOk s n) then acc + 2 ^ n else acc) 0
    ⟨some ok, ok != v⟩
  else if A.SDC_Cn_CFG 0 ≤ a ∧ a < A.SDC_Cn_CFG 4 then
    let n := (a - A.SDC_Cn_CFG 0) / 0x20
    if a = A.SDC_Cn_CFG n ∧ lsb = 0 then .when (v ≤ 2) v
    else if a = A.SDC_Cn_DER n ∧ lsb = 16 then .when (v ≤ 1000) v
    else .take v
  else .take v

/-- The enabled elements of feeder `f`, lowest first. -/
def feederElems (s : State) (f : Nat) : List Nat :=
  (List.range 12).filter (fun e => isSet s (R.ELe_CFG_en e) && fld s (R.ELe_CFG_fdr e) == f)

/-- The enabled feeders. -/
def feedersOn (s : State) : List Nat := (List.range 4).filter (fun f => isSet s (R.FDf_CFG_en f))

/-- The neutral inputs of enabled feeders. -/
def neutrals (s : State) : List Nat :=
  ((feedersOn s).filter (fun f => isSet s (R.FDf_CFG_nen f))).map (fun f => fld s (R.FDf_CFG_nin f))

/-- Whether MTR may run (R306). -/
def meterOk (s : State) : Bool :=
  let es := (List.range 12).filter (fun e => isSet s (R.ELe_CFG_en e))
  let ii := es.map (fun e => fld s (R.ELe_CFG_iin e))
  (List.range 4).all (fun f => (feederElems s f).length ≤ 3) &&
    es.all (fun e => fldBit s R.MTR_IN_en (fld s (R.ELe_CFG_vin e)) && fldBit s R.MTR_IN_en (fld s (R.ELe_CFG_iin e)) &&
      fld s (R.ELe_CFG_vin e) != fld s (R.ELe_CFG_iin e)) &&
    decide ii.Nodup && (neutrals s).all (fun k => !ii.contains k) &&
    (feedersOn s).all (fun f => feederElems s f != [])

/-- The delay dk of input `k` with `INk_DLY` = `d` and element `e`'s phase trim `ph` (R302): a current input adds its element's. -/
def inputDelay (s : State) (k : Nat) (d : Int) (ph : Nat → Int) : Int :=
  match (List.range 12).find? (fun e => isSet s (R.ELe_CFG_en e) && fld s (R.ELe_CFG_iin e) == k) with
  | some e => d + ph e
  | none => d

def admitMtr (s : State) (a lsb v : Nat) : Admit :=
  let dlyOk (x : Int) : Bool := 0 ≤ x && x ≤ 4096
  let gainOk : Bool := 0x20000000 ≤ v && v ≤ 0x7FFFFFFF
  let trim (e : Nat) : Int := signed 16 (fldRead s (R.ELe_TRIM2_ph e))
  if a = A.MTR_CTRL ∧ lsb = 0 ∧ v = 1 then .when (isSet s R.MTR_CTRL_run || meterOk s) v
  else if a = A.MTR_CTRL ∧ lsb = 8 then .when (v != 3) v
  else if a = A.MTR_CLK ∧ lsb < 16 then .when (10 ≤ v && v ≤ 40) v
  else if a = A.MTR_DI then .when ([1, 2, 3, 4, 5, 6, 10, 12, 15, 20, 30, 60].contains v) v
  else if A.INk_OFF 0 ≤ a ∧ a < A.INk_OFF 16 then
    let k := (a - A.INk_OFF 0) / 0x10
    if a = A.INk_GAIN k then .when gainOk v
    else if a = A.INk_DLY k then .when (dlyOk (inputDelay s k v trim)) v
    else .take v
  else if A.ELe_CFG 0 ≤ a ∧ a < A.ELe_CFG 12 then
    let e := (a - A.ELe_CFG 0) / 0x10
    if a = A.ELe_VTRIM e ∨ a = A.ELe_ITRIM e then .when gainOk v
    else if a = A.ELe_TRIM2 e ∧ lsb = 0 then
      let k := fld s (R.ELe_CFG_iin e)
      .when (!isSet s (R.ELe_CFG_en e) || dlyOk (fldRead s (R.INk_DLY_d k) + signed 16 v)) v
    else .take v
  else .take v

def admitTkn (s : State) (a lsb v : Nat) (w : Word) : Admit :=
  let per (p : Nat) : Nat := if 10 ≤ p ∧ p ≤ 100 then p else fld s R.TKN_HB_fbper
  if a = A.TKN_TOKEN then .when (v != 0xFFFFFFFF && fld s R.TKN_TOKEN_tok ≤ v) v
  else if a = A.TKN_HB ∧ lsb = 0 then .when (10 ≤ v && v ≤ 100) v
  else if a = A.TKN_HB ∧ lsb = 8 then .when (20 ≤ v && v ≤ 250 && 2 * per (bits w.toNat 0 7) ≤ v) v
  else if a = A.TKN_HB ∧ lsb = 16 then .when (10 ≤ v && v ≤ 250) v
  else if a = A.TKN_SL ∧ lsb = 8 then .when (v ≤ 8 || v == 15) v
  else .take v

def admitBkd (s : State) (a lsb v : Nat) : Admit :=
  if a = A.BKD_CHG ∧ lsb = 0 then .when (v ≤ 5) v
  else if a = A.BKD_CHG then .when (v ≤ 2) v
  else if a = A.BKD_PWAKE ∧ lsb = 0 then .when (1 ≤ v) v
  else if a = A.BKD_VBAK then .when (1800 ≤ v && v ≤ 3600) v
  else if a = A.BKD_ALMT ∧ lsb < 16 then .when (v ≤ 59) v
  else if a = A.BKD_ALMT ∧ lsb = 16 then .when (v ≤ 23) v
  else if a = A.BKD_ALMD ∧ lsb = 0 then .when (1 ≤ v) v
  else if a = A.BKD_ALMD ∧ lsb = 8 then .when (1 ≤ v) v
  else if a = A.BKD_TCNT then .when (fld s R.BKD_TCNT_n ≤ v) v
  else if a = A.BKD_PCYC then .when (fld s R.BKD_PCYC_n ≤ v) v
  else if a = A.BKD_OPT_LO ∨ a = A.BKD_OPT_HI then .drop
  else .take v

/-- Whether FBC may run: a node number, a legal sjw, a receive queue in SRAM. -/
def fbMayRun (s : State) : Bool :=
  let q := 16 * fld s R.FBC_RXQ_addr
  fld s R.FBC_NODE_node != 0 && fld s R.FBC_NBT_sjw ≤ fld s R.FBC_NBT_tseg2 && inSram q && inSram (q + 5119)

def admitFbc (s : State) (a lsb v : Nat) (w : Word) : Admit :=
  if a = A.FBC_CTRL ∧ lsb = 0 ∧ v = 1 then .when (isSet s R.FBC_CTRL_run || fbMayRun s) v
  else if a = A.FBC_FLTC ∧ lsb = 0 then .when (v ≤ 128) v
  else if a = A.FBC_RXIDX ∧ lsb = 8 then .when ((fld s R.FBC_RXIDX_wi + 128 - v) % 128 ≤ 64) v
  else if A.FBC_TBk_ID 0 ≤ a ∧ a < A.FBC_TBk_ID 3 then
    let k := (a - A.FBC_TBk_ID 0) / 0x80
    if k = 0 then .drop
    else if fldBit s R.FBC_TXSTAT_pend k then .refuse
    else if a = A.FBC_TBk_CTL k ∧ lsb = 0 then .when (v ≤ 8 || bit w.toNat 4) v
    else if a = A.FBC_TBk_CTL k ∧ lsb = 7 then .when (v = 0 || !bit w.toNat 4) v
    else .take v
  else .take v

/-- The GPIO functions as a write of IOC_GFUNC leaves them: pairs of 2 and 3 keep what stands (R623). -/
def gfuncTaken (old v : Nat) : Nat :=
  (List.range 16).foldl (fun acc n => acc + 2 ^ (2 * n) * (if bits v (2 * n) 2 ≤ 1 then bits v (2 * n) 2 else bits old (2 * n) 2)) 0

def admitIoc (s : State) (a v : Nat) (w : Word) : Admit :=
  if a = A.IOC_GFUNC then ⟨some (gfuncTaken (fld s R.IOC_GFUNC_f) v), gfuncTaken (fld s R.IOC_GFUNC_f) v != v⟩
  else if a = A.IOC_C1OWN then .when (!sealed s || w == reg s A.IOC_C1OWN) v
  else .take v

/-- Whether source `n` of ICU is active or active-pending. -/
def icuActive (s : State) (n : Nat) : Bool := 2 ≤ (sget (fun _ => {}) s.icu.srcs n).state

def admitIcu (s : State) (a v : Nat) (w : Word) : Admit :=
  if A.ICU_PRIOn 0 ≤ a ∧ a ≤ A.ICU_PRIOn 159 then
    let n := (a - A.ICU_PRIOn 0) / 4
    .when (!icuActive s n || bits w.toNat 4 1 == fld s (R.ICU_PRIOn_tgt n)) v
  else .take v

/-- What the block of a register does with the value `v` written to the field at `lsb`, `w` being the whole word. -/
def admitField (s : State) (_o : Origin) (a lsb v : Nat) (w : Word) : Admit :=
  match blockIndex a with
  | 0 => admitSys s a lsb v
  | 1 => admitIcu s a v w
  | 2 => admitNtb s a lsb v w
  | 3 => admitBkd s a lsb v
  | 4 => admitPqu s a lsb v w
  | 5 => admitFbc s a lsb v w
  | 6 => admitRfe s a lsb v w
  | 7 => admitTte s a lsb v
  | 8 => admitKvt s a v
  | 9 => admitMtr s a lsb v
  | 10 => admitLfe s a lsb v
  | 11 => admitSdc s a lsb v
  | 12 => admitEvr s a lsb v
  | 13 => admitTkn s a lsb v w
  | 15 => if a = A.BHN_UART ∧ lsb = 0 then .when (800 ≤ v && v ≤ 333334) v else .take v
  | 16 => admitIoc s a v w
  | 17 => admitBsc s a lsb v
  | _ => .take v

/-- Whether the L field at `lsb` of register `a` is locked now: what "runs" means for it (R52 and the chapters). -/
def locked (s : State) (a lsb : Nat) : Bool :=
  if a = A.SYS_C1BOOT ∨ a = A.SYS_C1MEM then isSet s R.SYS_STAT_c1_busy
  else if a = A.SYS_WDT1_CTRL then isSet s R.SYS_WDT1_CTRL_en
  else if A.CMPn_CFG 0 ≤ a ∧ a < A.CMPn_CFG 16 then isSet s (R.CMPn_CFG_en ((a - A.CMPn_CFG 0) / 0x20))
  else if A.CAPn_CFG 0 ≤ a ∧ a < A.CAPn_CFG 16 then isSet s (R.CAPn_CFG_en ((a - A.CAPn_CFG 0) / 0x10))
  else if A.PQU_Qn_CFG 0 ≤ a ∧ a < A.PQU_Qn_CFG 32 then isSet s (R.PQU_Qn_CFG_en ((a - A.PQU_Qn_CFG 0) / 0x10))
  else if A.KVT_CTXc_CFG 0 ≤ a ∧ a < A.KVT_CTXc_CFG 3 then isSet s (R.KVT_CTXc_CFG_en ((a - A.KVT_CTXc_CFG 0) / 0x10))
  else if A.SDC_Cn_CFG 0 ≤ a ∧ a < A.SDC_Cn_CFG 4 then (sidingAt s ((a - A.SDC_Cn_CFG 0) / 0x20)).runs
  else if blockIndex a = 15 then
    let port := if a = A.BHN_ETH0 then 0 else if a = A.BHN_ETH1 then 1
      else if a = A.BHN_QMAP0 then lsb / 16 else if a = A.BHN_QMAP1 then 2 + lsb / 16 else 3
    fldBit s R.BHN_CTRL_en port
  else busy s (blockIndex a)

/-- Whether the S fields of register `a` go to their shadows now: while the block runs, but for `plen` in `tstate` 0
(R52, R75). -/
def shadowing (s : State) (a : Nat) : Bool :=
  if A.SDC_Cn_CFG 0 ≤ a ∧ a < A.SDC_Cn_CFG 4 then (sidingAt s ((a - A.SDC_Cn_CFG 0) / 0x20)).runs else
  busy s (blockIndex a) && !(a == A.NTB_PATHCFG && fld s R.NTB_STAT_tstate == 0)

end Sys2Proof.Machine
end

