-- ==== Sys2Proof/Machine/Recorder.lean ====
section
/-!
DEFINITION. The event recorder and the journal (chapter 20): posting, folding, staging, losses, spill, release, the
durable areas, and the journal's entries.
-/

namespace Sys2Proof.Machine

/-! ### Records (R511) -/

/-- The 64 octets of a record. -/
def encodeRecord (r : EvtRecord) : List Byte :=
  let b := leBytes 8 (r.seq.getD 0) ++ timeBytes r.sec r.ns ++ leBytes 4 r.optime ++ leBytes 4 r.pcyc ++ leBytes 1 r.src
    ++ leBytes 1 (r.tstate + 4 * b2n r.fnd + 8 * b2n r.rpt + 16 * b2n r.partner + 32 * b2n r.full)
    ++ leBytes 2 r.code ++ leBytes 2 r.rep ++ leBytes 2 r.seg ++ leBytes 4 r.first ++ padTo 20 r.data
  b ++ leBytes 4 (crc32 b)

/-- The fill and the pending losses as the registers show them. -/
def evrShow (s : State) : State :=
  let s := setFld s R.EVR_STAT_fill s.evr.staging.length
  let s := setFld s R.EVR_LOST_pend (min s.evr.pend 65535)
  setFld s R.EVR_RPT_N_n s.evr.rpt.length

/-- The next record number, `EVR_SEQ`. -/
def evrSeq (s : State) : Nat := fld s R.EVR_SEQ_LO_s + 2 ^ 32 * fld s R.EVR_SEQ_HI_s

def setEvrSeq (s : State) (n : Nat) : State :=
  setFld (setFld s R.EVR_SEQ_LO_s (n % 2 ^ 32)) R.EVR_SEQ_HI_s (n / 2 ^ 32 % 2 ^ 32)

/-- Puts a record at the end of the staging queue; it is numbered while `run` = 1 (R516). -/
def evrStage (r : EvtRecord) (s : State) : State :=
  let run := isSet s R.EVR_CTRL_run
  let q := evrSeq s
  let r := if run then { r with seq := some q } else r
  let s := if run then setEvrSeq s (q + 1) else s
  let s := { s with evr := { s.evr with staging := s.evr.staging ++ [r] } }
  let s := raise s R.EVR_IFLG_stage
  let s := if s.evr.staging.length = fld s R.EVR_CFG_wm then raise s R.EVR_IFLG_wm else s
  evrShow s

/-- Discards a post for want of room (R515). -/
def evrLose (s : State) : State :=
  let first := if s.evr.pend = 0 then netSec s % 2 ^ 32 else s.evr.lostFirst
  let s := { s with evr := { s.evr with pend := s.evr.pend + 1, lostFirst := first, lostLast := netSec s % 2 ^ 32 } }
  evrShow (raise (bump s R.EVR_LOST_total 1) R.EVR_IFLG_lost)

/-- Stages a record, or loses it when the fill would pass 255 (R515). -/
def evrStageOrLose (r : EvtRecord) (s : State) : State :=
  if 255 ≤ s.evr.staging.length then evrLose s else evrStage r s

/-- The operating time and power-cycle count of the backup counters (R513). -/
def opTime (s : State) : Nat := fld s R.BKD_OPT_LO_s + 2 ^ 32 * fld s R.BKD_OPT_HI_s
def pcycCount (s : State) : Nat := fld s R.BKD_PCYC_n

/-- A record as posted now. -/
def evrRecord (s : State) (src code : Nat) (data : List Byte) (fnd partner : Bool) : EvtRecord :=
  { seq := none, sec := s.ntb.sec, ns := s.ntb.ns, optime := opTime s % 2 ^ 32, pcyc := pcycCount s, src, tstate := fld s R.NTB_STAT_tstate,
    fnd, rpt := false, partner, full := false, code, rep := 0, seg := segWord s, first := 0, data := padTo 20 data }

/-- The loss record, staged as soon as the fill is below 255 with losses pending (R515). -/
def evrLossRecord (s : State) : State :=
  if 0 < s.evr.pend ∧ s.evr.staging.length < 255 then
    let d := leBytes 4 s.evr.pend ++ leBytes 4 s.evr.lostFirst ++ leBytes 4 s.evr.lostLast
    let r := evrRecord s 0x0C 0x01 d false false
    evrStage r { s with evr := { s.evr with pend := 0 } }
  else s

/-! ### The repeat table (R514) -/

/-- The repeat record of an entry. -/
def rptRecord (s : State) (e : RptEntry) : EvtRecord :=
  { seq := none, sec := e.sec, ns := e.ns, optime := e.optime, pcyc := e.pcyc, src := e.src, tstate := e.tstate,
    fnd := e.fnd, rpt := true, partner := e.partner, full := false, code := e.code, rep := e.count, seg := segWord s,
    first := e.firstSec % 2 ^ 32, data := e.data }

/-- Closes entry `i`: its repeat record is staged when it counted a repeat. -/
def rptClose (i : Nat) (s : State) : State :=
  match s.evr.rpt[i]? with
  | none => s
  | some e =>
    let s := { s with evr := { s.evr with rpt := s.evr.rpt.eraseIdx i } }
    if 1 ≤ e.count then evrStageOrLose (rptRecord s e) (evrShow s) else evrShow s

/-- Whether an entry matches a post: equal source, code and data, its original staged less than 60 s ago. -/
def rptMatches (s : State) (src code : Nat) (data : List Byte) (e : RptEntry) : Bool :=
  e.src == src && e.code == code && e.data == data && s.now - e.openedAt < secTicks 60

/-- Counts a repeat in entry `e`. -/
def rptCount (s : State) (e : RptEntry) : RptEntry :=
  { e with count := min (e.count + 1) 65535, sec := s.ntb.sec, ns := s.ntb.ns, tstate := fld s R.NTB_STAT_tstate,
           optime := opTime s % 2 ^ 32, pcyc := pcycCount s }

/-- A post that reaches EVR (R513-R515). -/
def evrPost (src code : Nat) (data : List Byte) (fnd norpt partner : Bool) (s : State) : State :=
  let d := padTo 20 data
  let r := evrRecord s src code d fnd partner
  if norpt || src == 0x20 then evrStageOrLose r s
  else match s.evr.rpt.findIdx? (rptMatches s src code d) with
  | some i =>
    match s.evr.rpt[i]? with
    | some e => { s with evr := { s.evr with rpt := setAt s.evr.rpt i (rptCount s e) } }
    | none => s
  | none =>
    if 255 ≤ s.evr.staging.length then evrLose s else
    let s := if 32 ≤ s.evr.rpt.length then rptClose 0 s else s
    if 255 ≤ s.evr.staging.length then evrLose s else
    let s := evrStage r s
    let e : RptEntry := { src, code, data := d, fnd, partner, openedAt := s.now, firstSec := s.ntb.sec, count := 0,
                          sec := s.ntb.sec, ns := s.ntb.ns, tstate := r.tstate, optime := r.optime, pcyc := r.pcyc }
    evrShow { s with evr := { s.evr with rpt := s.evr.rpt ++ [e] } }

/-- An event of a block or of the resident firmware, not a foundation event. -/
def post (src code : Nat) (data : List Byte) (s : State) : State := evrPost src code data false false false s

/-- A foundation event (R519). -/
def postFnd (src code : Nat) (data : List Byte) (s : State) : State := evrPost src code data true false false s

/-! ### Spill (R520) -/

/-- The image of the spill area: the header and up to 255 records, oldest first. -/
def spillImage (s : State) : List Byte :=
  let rs := (s.evr.staging.take 255).map encodeRecord
  let h := leBytes 4 rs.length ++ leBytes 4 0 ++ leBytes 8 (evrSeq s) ++ leBytes 4 s.evr.pend ++ List.replicate 40 0
  let body := rs.flatten
  h ++ leBytes 4 (crc32 (h ++ body)) ++ body

/-- Starts a spill with the queue as it stands, abandoning one that runs. -/
def spillStart (s : State) : State :=
  raise { s with evr := { s.evr with spill := some (spillImage s) } } R.EVR_STAT_spill_busy

/-- A spill on command; ignored with `cfg_err` while one runs. -/
def spillCommand (s : State) : State :=
  if isSet s R.EVR_STAT_spill_busy then cfgErr s 12 else spillStart s

/-- The address of the spill area. -/
def spillAddr (s : State) : Nat := 0x4000 * fld s R.EVR_SPILL_addr

/-- The spill in progress reaches its area. -/
def spillFinish (s : State) : State :=
  match s.evr.spill with
  | none => s
  | some b =>
    let s := setBytes s (spillAddr s) b
    raise (lower { s with evr := { s.evr with spill := none } } R.EVR_STAT_spill_busy) R.EVR_IFLG_spill

/-- Whether the header of the spill area is valid. -/
def spillValid (s : State) : Bool :=
  let a := spillAddr s
  let n := memNat s a 4
  n ≤ 255 && memNat s (a + 60) 4 == crc32 (memBytes s a 60 ++ memBytes s (a + 64) (64 * n))

/-! ### Release and the durable areas (R517-R519) -/

/-- Releases the `n` oldest records (the EVR_REL register). -/
def evrRelease (n : Nat) (s : State) : State :=
  if s.evr.staging.length < n then cfgErr s 12
  else evrLossRecord (evrShow { s with evr := { s.evr with staging := s.evr.staging.drop n } })

/-- The block and octet offset of partition 6 at which record number `q` stands (R518). -/
def rollingAt (q : Nat) : Nat × Nat := (1024 + q / 64 % 65536, 64 * (q % 64))

/-- Writes one record to the rolling area; a block's unused positions are zeros. -/
def writeRolling (q : Nat) (b : List Byte) (s : State) : State :=
  let (blk, off) := rollingAt q
  if off = 0 then setBulk s 6 blk b else setBulkBytes s 6 blk off b

/-- Whether the foundation area has room for a record (R519). -/
def fndRoom (s : State) : Bool := s.nv.fndCount < 65536

/-- One more record stands in the foundation area. -/
def fndCounted (s : State) : State := { s with nv := { s.nv with fndCount := s.nv.fndCount + 1 } }

/-- Writes a record at the next place of the foundation area. -/
def fndStore (r : EvtRecord) (s : State) : State :=
  fndCounted (setBulkBytes s 6 (s.nv.fndCount / 64) (64 * (s.nv.fndCount % 64)) (encodeRecord r))

/-- Makes one staged record durable, a foundation record in the foundation area also (R519). -/
def recordDurable (r : EvtRecord) (s : State) : State :=
  let q := r.seq.getD 0
  if r.fnd then
    if fndRoom s then
      writeRolling q (encodeRecord r) (fndStore r s)
    else
      let told := s.nv.fullTold
      let s := writeRolling q (encodeRecord { r with full := true }) { s with nv := { s.nv with fullTold := true } }
      if told then s else post 0x0C 0x02 [] s
  else writeRolling q (encodeRecord r) s

/-- The staged records that stand in the same block of the rolling area as the oldest one. -/
def blockRecords (s : State) : List EvtRecord :=
  match s.evr.staging with
  | [] => []
  | r :: t => (r :: t).takeWhile (fun x => x.seq.isSome && x.seq.getD 0 / 64 == r.seq.getD 0 / 64)

/-- The firmware writes the block buffer and then releases what it holds (R517). -/
def recordBlockWrite (s : State) : State :=
  let rs := blockRecords s
  evrRelease rs.length (rs.foldl (fun s r => recordDurable r s) s)

/-! ### The journal (R523-R527) -/

/-- The 64 octets of a journal entry. -/
def encodeJ (e : JEntry) : List Byte :=
  let b := leBytes 8 e.jseq ++ leBytes 1 e.kind ++ leBytes 1 e.flags ++ leBytes 2 e.who ++ leBytes 2 e.cseq
    ++ leBytes 2 e.body.length ++ leBytes 6 e.made ++ [0, 0] ++ padTo 36 e.body
  b ++ leBytes 4 (crc32 b)

/-- The entry in 64 octets; none where its CRC fails, as if it had never been written (R526). -/
def decodeJ (b : List Byte) : Option JEntry :=
  if leAt b 60 4 = crc32 (octets b 0 60) then
    some { jseq := leAt b 0 8, kind := leAt b 8 1, flags := leAt b 9 1, who := leAt b 10 2, cseq := leAt b 12 2,
           made := leAt b 16 6, body := octets b 24 (min 36 (leAt b 14 2)) }
  else none

/-- The entries of block `b` of partition 9. -/
def journalBlock (s : State) (b : Nat) : List JEntry :=
  let o := bulkBlock s 9 b
  (List.range 64).filterMap (fun i => decodeJ (octets o (64 * i) 64))

/-- Blocks of partition 9 from the checkpoint up to the next one written. -/
def journalBlocks (s : State) : List Nat :=
  let j := s.nv.journal
  (List.range ((j.block + 16384 - j.checkpoint) % 16384)).map (fun i => (j.checkpoint + i) % 16384)

/-- The entries at or after the checkpoint block or in the head. -/
def journalAll (s : State) : List JEntry := (journalBlocks s).flatMap (journalBlock s) ++ s.nv.journal.head

/-- The numbers that the release entries of a list release. -/
def releasedBy (es : List JEntry) : List Nat := (es.filter (fun e => e.kind == 0x80)).map (fun e => leNat e.body)

/-- The entries in flight (R526): no valid release. -/
def inFlight (s : State) : List JEntry :=
  let es := journalAll s
  let rel := releasedBy es
  es.filter (fun e => e.kind != 0x80 && !rel.contains e.jseq)

/-- Puts an entry in the head and streams it (R525, R527). -/
def journalPut (e : JEntry) (s : State) : State :=
  let s := { s with nv := { s.nv with journal := { s.nv.journal with head := s.nv.journal.head ++ [e] } } }
  if e.kind = 0x80 then streamPut 0x41 true (padTo 8 e.body) s else streamPut 0x40 true (encodeJ e) s

/-- The body cut into pieces of 36 octets; at least one. -/
def pieces : Nat → List Byte → List (List Byte)
  | 0, b => [b.take 36]
  | n + 1, b => if b.length ≤ 36 then [b] else b.take 36 :: pieces n (b.drop 36)

/-- Writes the entry or entries of a piece of work and gives their first number (R523, R524). -/
def journalWrite (kind who cseq : Nat) (body : List Byte) (s : State) : Nat × State :=
  let ps := pieces (body.length / 36) body
  let n0 := s.nv.journal.next
  let s := { s with nv := { s.nv with journal := { s.nv.journal with next := n0 + ps.length } } }
  let es := ps.mapIdx (fun i p => { jseq := n0 + i, kind, flags := b2n (i + 1 < ps.length), who, cseq,
                                    made := netSec s % 2 ^ 48, body := p : JEntry })
  (n0, es.foldl (fun s e => journalPut e s) s)

/-- Writes the release of entry `n` and of the entries that continue it. -/
def journalRelease (n : Nat) (s : State) : State :=
  let es := (journalAll s).filter (fun e => e.kind != 0x80 && n ≤ e.jseq)
  let rec run (k : Nat) : List JEntry → List Nat
    | [] => []
    | e :: t => if e.jseq = k then (if e.flags % 2 = 1 then k :: run (k + 1) t else [k]) else run k t
  (run n es).foldl (fun s k =>
    let m := s.nv.journal.next
    journalPut { jseq := m, kind := 0x80, flags := 0, who := 0, cseq := 0, made := netSec s % 2 ^ 48, body := leBytes 8 k }
      { s with nv := { s.nv with journal := { s.nv.journal with next := m + 1 } } }) s

/-- The checkpoint moves on while its block holds no entry without a release (R525). -/
def checkpointStep (rel : List Nat) : Nat → State → State
  | 0, s => s
  | n + 1, s =>
    let j := s.nv.journal
    if j.checkpoint = j.block then s
    else if (journalBlock s j.checkpoint).all (fun e => e.kind == 0x80 || rel.contains e.jseq) then
      checkpointStep rel n { s with nv := { s.nv with journal := { j with checkpoint := (j.checkpoint + 1) % 16384 } } }
    else s

/-- The oldest 64 entries of a head of 384 or more become a block of partition 9 (R525). -/
def journalBlockWrite (s : State) : State :=
  let j := s.nv.journal
  if j.head.length < 384 then s else
  let rel := releasedBy (journalAll s)
  let full := (j.block + 1) % 16384 = j.checkpoint
  -- before the ring would reach the checkpoint, the checkpoint block's unreleased entries go into the head again
  let carried := if full then (journalBlock s j.checkpoint).filter (fun e => e.kind != 0x80 && !rel.contains e.jseq) else []
  let s := setBulk s 9 j.block ((j.head.take 64).flatMap encodeJ)
  let cp := if full then (j.checkpoint + 1) % 16384 else j.checkpoint
  let s := { s with nv := { s.nv with journal :=
    { j with head := j.head.drop 64 ++ carried, block := (j.block + 1) % 16384, checkpoint := cp } } }
  let s := if full then post 0x0C 0x04 (leBytes 2 carried.length) s else s
  checkpointStep rel 64 s

/-! ### The commands -/

/-- A block posts an event (EVENT_POST, R513): block inputs are never cut, whatever core writes. -/
def execEventPost (src code : Nat) (data : List Byte) (fnd : Bool) (s : State) : Host.Outcome State Fault Refusal :=
  .next (evrPost (src % 256) (code % 65536) data fnd false false s)

/-- A repeat entry closes 60 s after its original record (REPEAT_ENTRY_CLOSE, R514). -/
def execRepeatEntryClose (i : Nat) (s : State) : Host.Outcome State Fault Refusal :=
  match s.evr.rpt[i]? with
  | some e => .next (if secTicks 60 ≤ s.now - e.openedAt then rptClose i s else s)
  | none => .next s

/-- A spill finishes (SPILL_COMPLETE, R520). -/
def execSpillComplete (s : State) : Host.Outcome State Fault Refusal := .next (spillFinish s)

/-- The firmware writes the record block to partition 6 (RECORD_BLOCK_WRITE, R517). -/
def execRecordBlockWrite (s : State) : Host.Outcome State Fault Refusal := .next (recordBlockWrite s)

/-- The firmware writes a journal block to partition 9 (JOURNAL_BLOCK_WRITE, R525). -/
def execJournalBlockWrite (s : State) : Host.Outcome State Fault Refusal := .next (journalBlockWrite s)

/-! ### EVR registers -/

/-- What a write of an EVR register starts beside its fields (R513, R516, R517, R520). -/
def evrWritten (o : Origin) (a : Nat) (w : Word) (old s : State) : State :=
  if a = A.EVR_CTRL then
    let s := if isSet s R.EVR_CTRL_run && !isSet old R.EVR_CTRL_run then
        -- the staged records are numbered in staging order from EVR_SEQ
        let q := evrSeq s
        let k := (s.evr.staging.filter (·.seq.isSome)).length
        let n := s.evr.staging.length - k
        blockStart (setEvrSeq { s with evr := { s.evr with
          staging := s.evr.staging.mapIdx (fun i r => if r.seq.isSome then r else { r with seq := some (q + i - k) }) } } (q + n)) 12
      else if !isSet s R.EVR_CTRL_run && isSet old R.EVR_CTRL_run then blockStop s 12 else s
    if bit w.toNat 4 then spillCommand s else s
  else if a = A.EVR_Pk_POST 0 ∨ a = A.EVR_Pk_POST 1 then
    let k := if a = A.EVR_Pk_POST 0 then 0 else 1
    let d := (List.range 5).flatMap (fun j => leBytes 4 (reg s (A.EVR_Pk_Dj k j)).toNat)
    let src := if o.core = .core1 then 0x30 else bits w.toNat 0 8
    evrPost src (bits w.toNat 8 16) d (bit w.toNat 24) (bit w.toNat 25) false s
  else if a = A.EVR_REL then evrRelease (bits w.toNat 0 9) s
  else s

/-- A read of EVR_RD_DATA returns the selected word and advances `word` (R517). -/
def evrRead (a : Nat) (v : Word) (s : State) : Word × State :=
  if a = A.EVR_RD_DATA then
    let r := fld s R.EVR_RD_SEL_rec
    let k := fld s R.EVR_RD_SEL_word
    let w := match s.evr.staging[r]? with
      | some e => BitVec.ofNat 32 (leAt (encodeRecord e) (4 * k) 4)
      | none => 0
    (w, setFld s R.EVR_RD_SEL_word ((k + 1) % 16))
  else (v, s)

end Sys2Proof.Machine
end

