-- ==== Sys2Proof/Machine/Plane.lean ====
section
/-!
DEFINITION. Access to the register plane (chapter 02): who may reach a register (R31-R33, R41-R45 and the core 1 rules
of the blocks), how a write acts on each field by its type and effect-timing code (R49-R54), how a read answers (R49-R51).
-/

namespace Sys2Proof.Machine

/-! ### Results -/

/-- Records what an access returned to its core. -/
def setResult (o : Origin) (r : BusResult) (s : State) : State :=
  match o.core with
  | .core0 => { s with sys := { s.sys with result0 := r } }
  | .core1 => { s with sys := { s.sys with result1 := r } }

/-- The result of the last access of a core. -/
def lastResult (s : State) (c : CoreId) : BusResult :=
  match c with
  | .core0 => s.sys.result0
  | .core1 => s.sys.result1

/-! ### Refusals of core 1 (R33, R44) -/

/-- A refused core 1 access: an access fault, the log, the count and the event (R44). -/
def planeRefuse (o : Origin) (a : Nat) (wr : Bool) (s : State) : State :=
  let s := if isSet s R.SYS_STAT_plane_err then s else
    let s := setFld s R.SYS_PLANE_LOG_addr a
    let s := setBool s R.SYS_PLANE_LOGI_wr wr
    setBool s R.SYS_PLANE_LOGI_mmode o.mmode
  let s := bump s R.SYS_PLANE_LOGI_count 1
  let s := raise (raise s R.SYS_STAT_plane_err) R.SYS_IFLG_plane_err
  let info := fld s R.SYS_PLANE_LOGI_count + 0x10000 * b2n wr + 0x20000 * b2n o.mmode
  setResult o .accessFault (post 0x00 0x02 (leBytes 4 a ++ leBytes 4 info) s)

/-- What becomes of an access to the register plane before it reaches a register. -/
inductive Verdict where
  | pass | refuse | busError | ignore
  deriving DecidableEq, Repr

/-- The registers core 1 may write whatever the lock bits say (R43). -/
def lockExempt (a : Nat) : Bool :=
  a == A.SYS_WDT1_KICK || (A.EVR_Pk_Dj 1 0 ≤ a && a ≤ A.EVR_Pk_POST 1)

/-- Whether the plane lock refuses core 1 the block (R42). -/
def planeLocked (s : State) (a : Nat) (wr : Bool) : Bool :=
  if wr then fldBit s R.SYS_PLANE_WR_lock (blockIndex a) && !lockExempt a
  else fldBit s R.SYS_PLANE_RD_lock (blockIndex a)

/-- Registers at which one core's access returns a bus error: the other core's BSC channel (R38), EVR port, PQU ports
(R479), claim and complete registers (R579). -/
def otherCores (c : CoreId) (a : Nat) : Bool :=
  let is0 := c == .core0
  if A.BSC_Cn_LOC 0 ≤ a ∧ a ≤ A.BSC_Cn_RES 0 then !is0
  else if A.BSC_Cn_LOC 1 ≤ a ∧ a ≤ A.BSC_Cn_RES 1 then is0
  else if A.EVR_Pk_Dj 0 0 ≤ a ∧ a ≤ A.EVR_Pk_POST 0 then !is0
  else if A.EVR_Pk_Dj 1 0 ≤ a ∧ a ≤ A.EVR_Pk_POST 1 then is0
  else if A.PQU_PRTk_SEL 0 ≤ a ∧ a ≤ A.PQU_PRTk_CMD 1 then !is0
  else if A.PQU_PRTk_SEL 2 ≤ a ∧ a ≤ A.PQU_PRTk_CMD 3 then is0
  else if a = A.ICU_Tt_CLAIM 0 ∨ a = A.ICU_Tt_COMPL 0 then !is0
  else if a = A.ICU_Tt_CLAIM 1 ∨ a = A.ICU_Tt_COMPL 1 then is0
  else false

/-- The pad bits an IOC GPIO write touches: bit n, bit n + 16 of an SC register or of a field of two bits per pad. -/
def gpioTouched (s : State) (a : Nat) (w : Word) : Nat :=
  let low (x : Nat) : Nat := (x % 65536) ||| (x / 65536)
  let pairs (x : Nat) : Nat := (List.range 16).foldl (fun acc n => acc + b2n (bits x (2 * n) 2 != 0) * 2 ^ n) 0
  if a = A.IOC_GIEN ∨ a = A.IOC_GDIR ∨ a = A.IOC_GPULL then (reg s a).toNat ^^^ (w.toNat % 65536)
  else if a = A.IOC_GIFLG ∨ a = A.IOC_GOUT then low w.toNat
  else if a = A.IOC_GEDGE then low ((reg s a).toNat ^^^ w.toNat)
  else if a = A.IOC_GFUNC then pairs ((reg s a).toNat ^^^ w.toNat)
  else 0

/-- The rules of the blocks for core 1 writes that hold whatever the lock bits say (R41, R44, R81, R435, R501, R579, R627). -/
def core1Write (s : State) (a : Nat) (w : Word) : Verdict :=
  if a = A.BSC_C1ACC ∨ a = A.PQU_C1OWN ∨ a = A.SYS_WDT1_CTRL then .refuse
  else match blockIndex a with
  | 1 =>
    if a = A.ICU_Tt_THR 0 ∨ a = A.ICU_WEN ∨ a = A.ICU_WPOL ∨ a = A.ICU_WCFG then .refuse
    else if A.ICU_PRIOn 0 ≤ a ∧ a ≤ A.ICU_PRIOn 159 then
      let n := (a - A.ICU_PRIOn 0) / 4
      if fld s (R.ICU_PRIOn_tgt n) = 0 ∨ bits w.toNat 4 1 ≠ fld s (R.ICU_PRIOn_tgt n) then .refuse else .pass
    else .pass
  | 2 =>
    if A.CMPn_CFG 0 ≤ a ∧ a < A.CMPn_CFG 16 then
      if fldBit s R.NTB_C1OWN_cmp ((a - A.CMPn_CFG 0) / 0x20) then .pass else .refuse
    else if A.CAPn_CFG 0 ≤ a ∧ a < A.CAPn_CFG 16 then
      if fldBit s R.NTB_C1OWN_cap ((a - A.CAPn_CFG 0) / 0x10) then .pass else .refuse
    else .refuse
  | 5 => .refuse
  | 8 => .refuse
  | 16 =>
    if a = A.IOC_CTRL ∨ a = A.IOC_DIN ∨ a = A.IOC_DINF0 ∨ a = A.IOC_DINF1 ∨ a = A.IOC_TEMP ∨ a = A.IOC_C1OWN then .refuse
    else if gpioTouched s a w &&& (65535 - fld s R.IOC_C1OWN_g) = 0 then .pass else .ignore
  | _ => .pass

/-- The verdict on an access: the lock is judged before the offset, the offset before the blocks' own rules (R44). -/
def judge (s : State) (o : Origin) (a : Nat) (wr : Option Word) : Verdict :=
  if o.core = .core1 ∧ planeLocked s a wr.isSome then .refuse
  else if (regAt a).isNone then .busError
  else if otherCores o.core a then .busError
  else match o.core, wr with
    | .core1, some w => core1Write s a w
    | _, _ => .pass

/-! ### Writes (R49, R52, R54) -/

/-- A write of value `v` to one field, judged as the block stood before the write (`old`). -/
def writeField (old : State) (o : Origin) (a : Nat) (w : Word) (s : State) (fi : FieldInfo) : State :=
  let f : Field := ⟨a, fi.lsb, fi.width⟩
  let v := bits w.toNat fi.lsb fi.width
  match fi.ty with
  | .rw =>
    let ad := admitField old o a fi.lsb v w
    let s := if ad.err then cfgErr s (blockIndex a) else s
    match ad.value with
    | none => s
    | some v =>
      match fi.timing with
      | .shadow _ => if shadowing old a then shadow s f v else setFld s f v
      | .lock => if locked old a fi.lsb then (if v = fld old f then s else cfgErr s (blockIndex a)) else setFld s f v
      | _ => setFld s f v
  | .w1c => setFld s f (fld s f &&& (2 ^ fi.width - 1 - v))
  | .sc =>
    let on := bits w.toNat fi.lsb fi.width
    let off := bits w.toNat (fi.lsb + 16) fi.width
    let both := on &&& off
    let s := if both = 0 then s else cfgErr s (blockIndex a)
    setFld s f ((fld s f ||| (on - both)) &&& (2 ^ fi.width - 1 - (off - both)))
  | _ => s

/-- A write of a register's fields, each by its own type and code. -/
def writeFields (o : Origin) (a : Nat) (w : Word) (s : State) : State :=
  match regAt a with
  | some r => r.fields.foldl (writeField s o a w) s
  | none => s

/-- What a block does after its register's fields were written: origin, address, word, the state before, the state now. -/
abbrev WriteHook := Origin → Nat → Word → State → State → State

/-- A write that reaches its register: the fields, then what the block starts. -/
def regWrite (hook : WriteHook) (o : Origin) (a : Nat) (w : Word) (s : State) : State :=
  hook o a w s (writeFields o a w s)

/-- A core's write to the register plane. -/
def coreWrite (hook : WriteHook) (o : Origin) (a : Nat) (w : Word) (s : State) : State :=
  match judge s o a (some w) with
  | .pass => setResult o .done (regWrite hook o a w s)
  | .refuse => planeRefuse o a true s
  | .busError => setResult o .busError s
  | .ignore => setResult o .done (cfgErr s (blockIndex a))

/-! ### Reads (R49-R51) -/

/-- The word a read returns: shadows where they wait, 0 in WO and CMD fields, `shd_pend` computed. -/
def readWord (s : State) (a : Nat) : Word :=
  match regAt a with
  | none => 0
  | some r =>
    let n := r.fields.foldl (fun acc fi =>
      match fi.ty with
      | .wo => acc
      | .cmd => acc
      | _ => acc + 2 ^ fi.lsb * fldRead s ⟨a, fi.lsb, fi.width⟩) 0
    let n := if a = blockBase (blockIndex a) + 4 then putBits n 30 1 (b2n (shadowPending s (blockIndex a))) else n
    BitVec.ofNat 32 n

/-- The word a register holds as far as software may write it back: what a read returns of its RW fields. -/
def rwWord (s : State) (a : Nat) : Word :=
  match regAt a with
  | none => 0
  | some r => BitVec.ofNat 32 (r.fields.foldl (fun acc fi =>
      match fi.ty with
      | .rw => acc + 2 ^ fi.lsb * fldRead s ⟨a, fi.lsb, fi.width⟩
      | _ => acc) 0)

/-- The word that writes `v` to field `f` and every other RW field of its register as it reads. -/
def wordWith (s : State) (f : Field) (v : Nat) : Word :=
  BitVec.ofNat 32 (putBits (rwWord s f.addr).toNat f.lsb f.width v)

/-- Clears the RC fields of a register that has been read; `gained` is what hardware added to each, by its lowest bit, in
the clock of the read (R50). -/
def clearRc (gained : List (Nat × Nat)) (a : Nat) (s : State) : State :=
  match regAt a with
  | none => s
  | some r => r.fields.foldl (fun s fi =>
      match fi.ty with
      | .rc => setFld s ⟨a, fi.lsb, fi.width⟩ (min ((slook gained fi.lsb).getD 0) (2 ^ fi.width - 1))
      | _ => s) s

/-- What a block answers to a read and does with it: origin, address, the word as the fields stand, the state. -/
abbrev ReadHook := Origin → Nat → Word → State → Word × State

/-- A read that reaches its register. -/
def regRead (hook : ReadHook) (gained : List (Nat × Nat)) (o : Origin) (a : Nat) (s : State) : Word × State :=
  hook o a (readWord s a) (clearRc gained a s)

/-- A core's read of the register plane. -/
def coreRead (hook : ReadHook) (gained : List (Nat × Nat)) (o : Origin) (a : Nat) (s : State) : State :=
  match judge s o a none with
  | .pass => let (w, s) := regRead hook gained o a s; setResult o (.value w) s
  | .refuse => planeRefuse o a false s
  | _ => setResult o .busError s

/-- Core 0 in machine mode: the resident firmware. -/
def firmware : Origin := ⟨.core0, true⟩

/-- The resident firmware's write of one register. -/
def fwWrite (hook : WriteHook) (a : Nat) (w : Word) (s : State) : State := regWrite hook firmware a w s

/-- The resident firmware's write of one field, the register's others as they read. -/
def fwField (hook : WriteHook) (f : Field) (v : Nat) (s : State) : State := fwWrite hook f.addr (wordWith s f v) s

/-- No further effect than the fields'. -/
def noHook : WriteHook := fun _ _ _ _ s => s

/-! ### EVR's rows -/

/-- A core posts through its port (PORT_POST, R513): a write of EVR_Pk_POST. -/
def execPortPost (o : Origin) (k : Nat) (post : Word) (s : State) : Host.Outcome State Fault Refusal :=
  .next (coreWrite evrWritten o (A.EVR_Pk_POST k) post s)

/-- A write of EVR_CTRL.run (EVR_RUN_WRITE, R516). -/
def execEvrRunWrite (o : Origin) (run : Bool) (s : State) : Host.Outcome State Fault Refusal :=
  .next (coreWrite evrWritten o A.EVR_CTRL (wordWith s R.EVR_CTRL_run (b2n run)) s)

/-- A write of EVR_CTRL.spill (EVR_SPILL, R520). -/
def execEvrSpill (o : Origin) (s : State) : Host.Outcome State Fault Refusal :=
  .next (coreWrite evrWritten o A.EVR_CTRL (rwWord s A.EVR_CTRL ||| 0x10) s)

/-- A write of EVR_REL (EVR_RELEASE, R517). -/
def execEvrRelease (o : Origin) (n : Word) (s : State) : Host.Outcome State Fault Refusal :=
  .next (coreWrite evrWritten o A.EVR_REL n s)

/-- A read of EVR_RD_DATA (RECORD_READ, R517). -/
def execRecordRead (o : Origin) (s : State) : Host.Outcome State Fault Refusal :=
  .next (coreRead (fun _ a v s => evrRead a v s) [] o A.EVR_RD_DATA s)

end Sys2Proof.Machine
end

