-- ==== Sys2Proof/Machine/Queues.lean ====
section
/-!
DEFINITION. The packet queues (chapter 18, R475-R482, R647): rings of entries with commit, rewind and release, hardware
producers and consumers, the four core ports, watermarks and the flow-control pins.
-/

namespace Sys2Proof.Machine

/-- The agents a queue may name (R477). -/
def agentCore : Nat := 0
def agentTte : Nat := 1
def agentLfe : Nat := 2
def agentTkn : Nat := 3
def agentBhn : Nat := 4

/-- The octets an entry takes in its ring: a header word and the body in whole words (R475). -/
def entrySize (len : Nat) : Nat := 4 + (len + 3) / 4 * 4

def setQueue (n : Nat) (q : Queue) (s : State) : State :=
  { s with pqu := { s.pqu with queues := sput (fun _ => {}) s.pqu.queues n q } }

def portAt (s : State) (k : Nat) : Port := sget (fun _ => {}) s.pqu.ports k

def setPort (k : Nat) (p : Port) (s : State) : State :=
  { s with pqu := { s.pqu with ports := sput (fun _ => {}) s.pqu.ports k p } }

/-- The fill of a queue in octets: its committed entries. -/
def fillOf (q : Queue) : Nat := (q.entries.map (fun e => entrySize e.body.length)).sum

/-- The octets a port's unfinished entry has reserved in queue `n`. -/
def reserved (s : State) (n : Nat) : Nat :=
  ((List.range 4).map (fun k => if portHolds s k n 0 then match (portAt s k).opened with
    | some (len, _, _) => entrySize len
    | none => 0 else 0)).sum

/-- Whether queue `n` takes an entry of `len` octets: it is enabled, PQU runs, and the free space holds it (R476, R478, R647). -/
def hasRoom (s : State) (n len : Nat) : Bool :=
  let q := queueAt s n
  isSet s R.PQU_CTRL_run && isSet s (R.PQU_Qn_CFG_en n) &&
    fillOf q + (q.fresh.map (fun e => entrySize e.body.length)).sum + reserved s n + entrySize len
      ≤ 1024 * fld s (R.PQU_Qn_CFG_size n)

/-- The drop counter of queue `n`, one of 32. -/
def dropCount (n : Nat) : Field := R.PQU_Qn_CNT_drop (n % 32)

/-- Counts a refused entry and says so (R478). -/
def refuseEntry (n : Nat) (s : State) : State :=
  let told := fldBit s R.PQU_FULLQ_q n
  let s := bump s (dropCount n) 1
  let s := raise (raiseBit s R.PQU_FULLQ_q n) R.PQU_IFLG_full
  if told then s else post 0x04 0x01 (leBytes 1 n ++ leBytes 2 (fld s (dropCount n))) s

/-- The watermark state of queue `n`. -/
def wmState (s : State) (n : Nat) : Bool := fldBit s R.PQU_WMST_st n

/-- After a commit: the high mark (R480). -/
def wmCommit (n : Nat) (s : State) : State :=
  let hi := fld s (R.PQU_Qn_WM_hi n)
  if hi ≠ 0 ∧ ¬ wmState s n ∧ hi * 256 ≤ fillOf (queueAt s n) then raise (raiseBit s R.PQU_WMST_st n) R.PQU_IFLG_wmhi else s

/-- After a release: the low mark (R480). -/
def wmRelease (n : Nat) (s : State) : State :=
  if fld s (R.PQU_Qn_WM_hi n) ≠ 0 ∧ wmState s n ∧ fillOf (queueAt s n) ≤ fld s (R.PQU_Qn_WM_lo n) * 256 then
    raise (lowerBit s R.PQU_WMST_st n) R.PQU_IFLG_wmlo
  else s

/-- Makes every entry written since the last commit visible (R476). -/
def commitQueue (n : Nat) (s : State) : State :=
  let q := queueAt s n
  if q.fresh = [] then s else
  wmCommit n (setQueue n { q with entries := q.entries ++ q.fresh.map (fun e => { e with at_ := s.now }), fresh := [] } s)

/-- Discards everything written since the last commit (R476). -/
def rewindQueue (n : Nat) (s : State) : State := setQueue n { queueAt s n with fresh := [] } s

/-- Releases the head entry; a waiting change of consumer takes effect (R476, R477). -/
def releaseHead (n : Nat) (s : State) : State :=
  let q := queueAt s n
  wmRelease n (setQueue n { q with entries := q.entries.drop 1, held := false, cons := fld s (R.PQU_Qn_CFG_cons n) } s)

/-- An agent that a queue does not name: counted and `cfg_err` (R477). -/
def wrongAgent (n : Nat) (s : State) : State := cfgErr (bump s (dropCount n) 1) 4

/-- A hardware producer writes and commits an entry (R478). Whether it was taken stands beside the state. -/
def hwWrite (agent n tag : Nat) (body : List Byte) (s : State) : Bool × State :=
  if fld s (R.PQU_Qn_CFG_prod n) ≠ agent then (false, wrongAgent n s)
  else if hasRoom s n body.length then
    let q := queueAt s n
    let s := setQueue n { q with entries := q.entries ++ [{ tag, body, at_ := s.now }] } s
    (true, wmCommit n s)
  else (false, refuseEntry n s)

/-- The head entry a hardware consumer sees: none while PQU is stopped or where the queue does not name it (R477, R647). -/
def hwHead (agent n : Nat) (s : State) : Option QEntry :=
  if isSet s R.PQU_CTRL_run ∧ (queueAt s n).cons = agent then (queueAt s n).entries.head? else none

/-- A hardware consumer releases the head entry it was shown. -/
def hwNext (agent n : Nat) (s : State) : State := if (hwHead agent n s).isSome then releaseHead n s else s

/-- The resident firmware writes and commits an entry to a queue of the core port. -/
def coreQueue (n tag : Nat) (body : List Byte) (s : State) : Bool × State := hwWrite agentCore n tag body s

/-- The resident firmware takes the head entry of a queue of the core port. -/
def coreTake (n : Nat) (s : State) : Option QEntry × State :=
  match hwHead agentCore n s with
  | some e => (some e, releaseHead n s)
  | none => (none, s)

/-! ### The core ports (R478, R479) -/

/-- The queue a port holds in a role. -/
def portQueue (s : State) (k role : Nat) : Option Nat :=
  if isSet s (R.PQU_PRTk_SEL_en k) ∧ fld s (R.PQU_PRTk_SEL_role k) = role then some (fld s (R.PQU_PRTk_SEL_q k)) else none

/-- Shows whether the port's entry awaits words. -/
def showOpen (k : Nat) (s : State) : State := setBool s (R.PQU_PRTk_SEL_open k) (portAt s k).opened.isSome

/-- A write of HDR: space for a new entry is reserved, or refused. -/
def portHdr (k : Nat) (w : Word) (s : State) : State :=
  if !isSet s R.PQU_CTRL_run then cfgErr s 4 else
  match portQueue s k 0 with
  | none => cfgErr s 4
  | some n =>
    if fld s (R.PQU_Qn_CFG_prod n) ≠ agentCore then wrongAgent n s
    else if (portAt s k).opened.isSome then cfgErr s 4
    else
      let len := bits w.toNat 0 16
      let tag := bits w.toNat 16 8
      if hasRoom s n len then
        let s := lower s (R.PQU_PRTk_SEL_full k)
        if len = 0 then setQueue n { queueAt s n with fresh := (queueAt s n).fresh ++ [{ tag, body := [] }] } s
        else showOpen k (setPort k { portAt s k with opened := some (len, tag, []) } s)
      else refuseEntry n (raise s (R.PQU_PRTk_SEL_full k))

/-- A write of DATA: the next body word of the open entry. -/
def portData (k : Nat) (w : Word) (s : State) : State :=
  if !isSet s R.PQU_CTRL_run then cfgErr s 4 else
  match portQueue s k 0 with
  | none => cfgErr s 4
  | some n =>
    match (portAt s k).opened with
    | none => cfgErr (bump s (R.PQU_Qn_CNT_ovr n) 1) 4
    | some (len, tag, got) =>
      let got := got ++ leBytes 4 w.toNat
      if len ≤ got.length then
        let s := setQueue n { queueAt s n with fresh := (queueAt s n).fresh ++ [{ tag, body := got.take len }] } s
        showOpen k (setPort k { portAt s k with opened := none } s)
      else setPort k { portAt s k with opened := some (len, tag, got) } s

/-- Commit through a port; ignored with `cfg_err` while an entry is short of words. -/
def portCommit (k : Nat) (s : State) : State :=
  match portQueue s k 0 with
  | none => cfgErr s 4
  | some n => if (portAt s k).opened.isSome then cfgErr s 4 else commitQueue n s

/-- Rewind through a port, with its short entry. -/
def portRewind (k : Nat) (s : State) : State :=
  match portQueue s k 0 with
  | none => cfgErr s 4
  | some n => showOpen k (setPort k { portAt s k with opened := none } (rewindQueue n s))

/-- Release of the head entry through a port. -/
def portNext (k : Nat) (s : State) : State :=
  match portQueue s k 1 with
  | none => cfgErr s 4
  | some n =>
    if (hwHead agentCore n s).isSome then setPort k { portAt s k with next := 0 } (releaseHead n s) else cfgErr s 4

/-- A write of CMD. -/
def portCmd (k : Nat) (w : Word) (s : State) : State :=
  if w.toNat % 8 = 0 then s
  else if !isSet s R.PQU_CTRL_run then cfgErr s 4
  else
    let s := if bit w.toNat 0 then portCommit k s else s
    let s := if bit w.toNat 1 then portRewind k s else s
    if bit w.toNat 2 then portNext k s else s

/-- After a write of SEL: a producer port that gives its queue up rewinds it; a consumer port gives up the head (R477, R479). -/
def portSelected (k : Nat) (old s : State) : State :=
  let q := fld old (R.PQU_PRTk_SEL_q k)
  let gave := isSet old (R.PQU_PRTk_SEL_en k) &&
    (!isSet s (R.PQU_PRTk_SEL_en k) || fld s (R.PQU_PRTk_SEL_q k) != q ||
      fld s (R.PQU_PRTk_SEL_role k) != fld old (R.PQU_PRTk_SEL_role k))
  if gave then
    let s := if fld old (R.PQU_PRTk_SEL_role k) = 0 then rewindQueue q s
      else setQueue q { queueAt s q with held := false, cons := fld s (R.PQU_Qn_CFG_cons q) } s
    showOpen k (setPort k {} s)
  else s

/-- Queue `n` emptied as its `en` clears (R480). -/
def emptyQueue (n : Nat) (s : State) : State :=
  let s := setQueue n { entries := [], fresh := [], cons := fld s (R.PQU_Qn_CFG_cons n), held := false } s
  let s := lowerBit s R.PQU_WMST_st n
  upTo 4 (fun k s => if portHolds s k n 0 then showOpen k (setPort k {} s) else s) s

/-- What a write of a PQU register starts beside its fields. -/
def pquWritten (_o : Origin) (a : Nat) (w : Word) (old s : State) : State :=
  if a = A.PQU_CTRL then
    if isSet s R.PQU_CTRL_run then blockStart s 4 else blockStop s 4
  else if A.PQU_Qn_CFG 0 ≤ a ∧ a < A.PQU_Qn_CFG 32 then
    let n := (a - A.PQU_Qn_CFG 0) / 0x10
    if a = A.PQU_Qn_CFG n then
      let q := queueAt s n
      let s := if q.held then s else setQueue n { q with cons := fld s (R.PQU_Qn_CFG_cons n) } s
      if isSet s (R.PQU_Qn_CFG_en n) then s else if isSet old (R.PQU_Qn_CFG_en n) then emptyQueue n s else s
    else if a = A.PQU_Qn_WM n then
      if fld s (R.PQU_Qn_WM_hi n) = 0 then lowerBit s R.PQU_WMST_st n else s
    else s
  else if A.PQU_PRTk_SEL 0 ≤ a ∧ a < A.PQU_PRTk_SEL 4 then
    let k := (a - A.PQU_PRTk_SEL 0) / 0x10
    if a = A.PQU_PRTk_SEL k then portSelected k old s
    else if a = A.PQU_PRTk_HDR k then portHdr k w s
    else if a = A.PQU_PRTk_DATA k then portData k w s
    else portCmd k w s
  else s

/-- What PQU answers to a read. -/
def pquRead (_o : Origin) (a : Nat) (v : Word) (s : State) : Word × State :=
  if A.PQU_Qn_CFG 0 ≤ a ∧ a < A.PQU_Qn_CFG 32 then
    let n := (a - A.PQU_Qn_CFG 0) / 0x10
    if a = A.PQU_Qn_FILL n then
      let q := queueAt s n
      (BitVec.ofNat 32 (fillOf q % 2 ^ 20 + 2 ^ 20 * min q.entries.length 4095), s)
    else (v, s)
  else if A.PQU_PRTk_SEL 0 ≤ a ∧ a < A.PQU_PRTk_SEL 4 then
    let k := (a - A.PQU_PRTk_SEL 0) / 0x10
    if !isSet s R.PQU_CTRL_run && (a == A.PQU_PRTk_HDR k || a == A.PQU_PRTk_DATA k) then (0, s) else
    match portQueue s k 1 with
    | none => (v, s)
    | some n =>
      if a = A.PQU_PRTk_HDR k then
        let s := setPort k { portAt s k with next := 0 } s
        match hwHead agentCore n s with
        | none => (0, s)
        | some e =>
          (BitVec.ofNat 32 (e.body.length % 65536 + 0x10000 * (e.tag % 256) + 0x40000000 * b2n e.bad + 0x80000000),
            setQueue n { queueAt s n with held := true } s)
      else if a = A.PQU_PRTk_DATA k then
        let i := (portAt s k).next
        match hwHead agentCore n s with
        | none => (0, cfgErr s 4)
        | some e =>
          if 4 * i < e.body.length then (BitVec.ofNat 32 (leAt e.body (4 * i) 4), setPort k { portAt s k with next := i + 1 } s)
          else (0, cfgErr s 4)
      else (v, s)
  else (v, s)

/-- The level of flow-control pin FCk: none while it is not driven (R481). -/
def fcPin (s : State) (k : Nat) : Option Bool :=
  if isSet s (R.PQU_FC_enk k) then some (wmState s (fld s (R.PQU_FC_qk k)) != isSet s (R.PQU_FC_invk k)) else none

/-! ### The commands -/

/-- A write of PQU_CTRL.run (PQU_RUN_WRITE, R647). -/
def execPquRunWrite (o : Origin) (run : Bool) (s : State) : Host.Outcome State Fault Refusal :=
  .next (coreWrite pquWritten o A.PQU_CTRL (wordWith s R.PQU_CTRL_run (b2n run)) s)

/-- A hardware producer writes an entry (HW_QUEUE_WRITE, R478). -/
def execHwQueueWrite (agent n : Nat) (tag : Byte) (body : List Byte) (s : State) : Host.Outcome State Fault Refusal :=
  .next (hwWrite agent (n % 32) tag.toNat body s).2

/-- A write of PQU_PRTk_SEL (PORT_SELECT, R479). -/
def execPortSelect (o : Origin) (k : Nat) (sel : Word) (s : State) : Host.Outcome State Fault Refusal :=
  .next (coreWrite pquWritten o (A.PQU_PRTk_SEL k) sel s)

/-- A write of PQU_PRTk_HDR (PORT_HDR_WRITE, R478). -/
def execPortHdrWrite (o : Origin) (k : Nat) (hdr : Word) (s : State) : Host.Outcome State Fault Refusal :=
  .next (coreWrite pquWritten o (A.PQU_PRTk_HDR k) hdr s)

/-- A write of PQU_PRTk_DATA (PORT_DATA_WRITE, R478). -/
def execPortDataWrite (o : Origin) (k : Nat) (data : Word) (s : State) : Host.Outcome State Fault Refusal :=
  .next (coreWrite pquWritten o (A.PQU_PRTk_DATA k) data s)

/-- A consumer finds an uncorrectable word in the head entry (R475). -/
def markBad (n : Nat) (s : State) : State :=
  match (queueAt s n).entries with
  | [] => s
  | e :: t => post 0x04 0x02 (leBytes 1 n)
      (raise (setQueue n { queueAt s n with entries := { e with bad := true } :: t } s) R.PQU_IFLG_ecc)

/-- A read of PQU_PRTk_HDR (PORT_HDR_READ, R479); `bad` says that the read meets an uncorrectable word (R475). -/
def execPortHdrRead (o : Origin) (k : Nat) (bad : Bool) (s : State) : Host.Outcome State Fault Refusal :=
  let s := match bad && judge s o (A.PQU_PRTk_HDR k) none == .pass, portQueue s k 1 with
    | true, some n => markBad n s
    | _, _ => s
  .next (coreRead pquRead [] o (A.PQU_PRTk_HDR k) s)

/-- A read of PQU_PRTk_DATA (PORT_DATA_READ, R479). -/
def execPortDataRead (o : Origin) (k : Nat) (s : State) : Host.Outcome State Fault Refusal :=
  .next (coreRead pquRead [] o (A.PQU_PRTk_DATA k) s)

/-- PQU_PRTk_CMD.commit (PORT_COMMIT, R476). -/
def execPortCommit (o : Origin) (k : Nat) (s : State) : Host.Outcome State Fault Refusal :=
  .next (coreWrite pquWritten o (A.PQU_PRTk_CMD k) 1 s)

/-- PQU_PRTk_CMD.rewind (PORT_REWIND, R476). -/
def execPortRewind (o : Origin) (k : Nat) (s : State) : Host.Outcome State Fault Refusal :=
  .next (coreWrite pquWritten o (A.PQU_PRTk_CMD k) 2 s)

/-- PQU_PRTk_CMD.next (PORT_NEXT, R476). -/
def execPortNext (o : Origin) (k : Nat) (s : State) : Host.Outcome State Fault Refusal :=
  .next (coreWrite pquWritten o (A.PQU_PRTk_CMD k) 4 s)

end Sys2Proof.Machine
end

