-- ==== Sys2Proof/Machine/Faults.lean ====
section
/-!
DEFINITION. The fault manager (chapter 22): raising, clearing, handlers one at a time, escalation.
-/

namespace Sys2Proof.Machine

/-- The latching codes of R556. -/
def latching (code : Nat) : Bool :=
  [0x0101, 0x0104, 0x0105, 0x0203, 0x0204, 0x0205, 0x0601, 0x0602, 0x0603].contains code

def setFlt (f : FaultState) (s : State) : State := { s with flt := f }

/-- Marks the handler of a fault as queued or run. -/
def markHandled (code source : Nat) (s : State) : State :=
  setFlt { s.flt with list := s.flt.list.map (fun e => if e.code = code ∧ e.source = source then { e with handled := true } else e) } s

/-- The manager takes a fault: its handler starts, waits, or is left unhandled (R558). -/
def handlerFor (code source : Nat) (s : State) : State :=
  match s.flt.running with
  | none => markHandled code source (setFlt { s.flt with running := some (code, source, s.now) } s)
  | some _ =>
    if s.flt.queue.length < 32 then
      post 0x21 0x03 [] (markHandled code source (setFlt { s.flt with queue := s.flt.queue ++ [(code, source)] } s))
    else s

/-- Raises a fault (R557): nothing before the resident firmware's start begins. `stands` says whether its condition lasts until
it is reported absent. -/
def faultRaise (code source : Nat) (stands : Bool) (s : State) : State :=
  let gone := if stands then none else some s.now
  let same (e : FaultEntry) : Bool := e.code == code && e.source == source
  let again (l : List FaultEntry) := l.map (fun e => if same e then { e with gone := gone } else e)
  if !s.pwr.begun then s
  else if s.flt.list.any same then setFlt { s.flt with list := again s.flt.list } s
  else if s.flt.unlisted.any same then setFlt { s.flt with unlisted := again s.flt.unlisted } s
  else
    let e : FaultEntry := ⟨code, source, netSec s % 2 ^ 32, gone, false⟩
    let s := if s.flt.list.length < 128 then setFlt { s.flt with list := s.flt.list ++ [e] } s
             else setFlt { s.flt with unlisted := s.flt.unlisted ++ [e] } s
    handlerFor code source (post 0x21 0x01 (leBytes 2 code ++ leBytes 2 source) s)

/-- Reports a fault's condition absent. -/
def faultGone (code source : Nat) (s : State) : State :=
  let upd (l : List FaultEntry) := l.map (fun e =>
    if e.code = code ∧ e.source = source ∧ e.gone = none then { e with gone := some s.now } else e)
  setFlt { s.flt with list := upd s.flt.list, unlisted := upd s.flt.unlisted } s

/-- Raises a fault or reports its condition absent. -/
def faultSet (code source : Nat) (on : Bool) (s : State) : State :=
  if on then faultRaise code source true s else faultGone code source s

/-- Whether a fault stands. -/
def faultStands (s : State) (code : Nat) : Bool := (s.flt.list ++ s.flt.unlisted).any (fun e => e.code == code)

/-- Ends the faults that `p` picks: each stages code 0x02; standing faults without a place enter the list (R557). -/
def faultsEnd (p : FaultEntry → Bool) (s : State) : State :=
  let n := (s.flt.list ++ s.flt.unlisted).countP p
  let list := s.flt.list.filter (fun e => !p e)
  let rest := s.flt.unlisted.filter (fun e => !p e)
  let room := 128 - list.length
  let s := setFlt { s.flt with list := list ++ rest.take room, unlisted := rest.drop room } s
  upTo n (fun _ s => post 0x21 0x02 [] s) s

/-- Ten seconds without its condition end a fault that is not latching (R557). -/
def faultEnd (code source : Nat) (s : State) : State :=
  faultsEnd (fun e => e.code == code && e.source == source && !latching code &&
    match e.gone with
    | some t => t + secTicks 10 ≤ s.now
    | none => false) s

/-- E:0003: ends the latching faults of `code` (0 all) whose condition is absent (R557). -/
def clearFaults (code : Nat) (s : State) : State :=
  faultsEnd (fun e => latching e.code && (code == 0 || e.code == code) && e.gone.isSome) s

/-- The running handler ends; the next one starts (R558). -/
def handlerEnd (s : State) : State :=
  match s.flt.running, s.flt.queue with
  | none, _ => s
  | some _, (c, src) :: rest => setFlt { s.flt with running := some (c, src, s.now), queue := rest } s
  | some _, [] =>
    match s.flt.list.find? (fun e => !e.handled) with
    | some e => markHandled e.code e.source (setFlt { s.flt with running := some (e.code, e.source, s.now) } s)
    | none => setFlt { s.flt with running := none } s

/-- The manager escalates: the running handler raised a fault itself, or has run for 500 ms (R559). -/
def escalate (byHandler : Bool) (s : State) : State :=
  match s.flt.running with
  | none => s
  | some (_, _, t) =>
    if s.flt.escalated || !(byHandler || t + msTicks 500 ≤ s.now) then s
    else
      let s := setFlt { s.flt with escalated := true } (postFnd 0x21 0x04 [] s)
      { s with sys := { s.sys with wdt0From := s.now, wdt0Warned := false } }

/-- A fault's ten seconds end (FAULT_END, R557). -/
def execFaultEnd (code source : Nat) (s : State) : Host.Outcome State Fault Refusal := .next (faultEnd code source s)

/-- A handler ends (FAULT_HANDLER_END, R558). -/
def execFaultHandlerEnd (s : State) : Host.Outcome State Fault Refusal := .next (handlerEnd s)

/-- Escalation (ESCALATION, R559). -/
def execEscalation (byHandler : Bool) (s : State) : Host.Outcome State Fault Refusal := .next (escalate byHandler s)

end Sys2Proof.Machine
end

