-- ==== Sys2Proof/Machine/Time.lean ====
section
/-!
DEFINITION. Network time (chapter 03): the count, its reading, the requests to set and step it, its sources, comparators
as they are armed, captures. What a path boundary, a jump and a firing do in the other blocks is in PathClock.lean.
-/

namespace Sys2Proof.Machine

/-! ### The count (R55, R56) -/

/-- One tick of the count: `NTB_INC` is added while `run` = 1. -/
def ntbTick (s : State) : State :=
  if isSet s R.NTB_CTRL_run then
    let u := s.ntb.ns * 2 ^ 24 + s.ntb.frac + fld s R.NTB_INC_inc
    let ns := u / 2 ^ 24
    let carry := 1000000000 ≤ ns
    { s with ntb := { s.ntb with frac := u % 2 ^ 24
                                 ns := if carry then ns - 1000000000 else ns
                                 sec := if carry then (s.ntb.sec + 1) % 2 ^ 64 else s.ntb.sec } }
  else s

/-- The path length in nanoseconds of a `plen` code (R75). -/
def plenNs (code : Nat) : Nat := if code = 0 then 10000000 else if code = 1 then 5000000 else 20000000

/-- The path length in force. -/
def pathLen (s : State) : Nat := plenNs (fld s R.NTB_STAT_plen_act)

/-- The number of the path in progress. -/
def pathNow (s : State) : Nat := s.ntb.path

/-- R67: `tstate` = 2 and the last accepted sample less than the hold ago, in elapsed ticks. -/
def timeLocked (s : State) : Bool :=
  fld s R.NTB_STAT_tstate == 2 &&
    match s.ntb.fedAt with
    | some t => s.now - t < secTicks (fld s R.NTB_HOLD_s)
    | none => false

/-! ### Reading (R57) -/

def timeHold (s : State) (c : CoreId) : TimeHold :=
  match c with
  | .core0 => s.ntb.hold0
  | .core1 => s.ntb.hold1

/-- What NTB answers to a read: the latched snapshot of the reading core, and `locked` as it stands. -/
def ntbRead (o : Origin) (a : Nat) (v : Word) (s : State) : Word × State :=
  if a = A.NTB_TIME_NS then
    let h : TimeHold := ⟨s.ntb.sec, s.ntb.frac, s.ntb.path % 2 ^ 48⟩
    (BitVec.ofNat 32 s.ntb.ns,
      match o.core with
      | .core0 => { s with ntb := { s.ntb with hold0 := h } }
      | .core1 => { s with ntb := { s.ntb with hold1 := h } })
  else
    let h := timeHold s o.core
    if a = A.NTB_TIME_SLO then (BitVec.ofNat 32 h.sec, s)
    else if a = A.NTB_TIME_SHI then (BitVec.ofNat 32 (h.sec / 2 ^ 32), s)
    else if a = A.NTB_TIME_FRAC then (BitVec.ofNat 32 h.frac, s)
    else if a = A.NTB_PATH_LO then (BitVec.ofNat 32 h.path, s)
    else if a = A.NTB_PATH_HI then (BitVec.ofNat 32 (h.path / 2 ^ 32), s)
    else if a = A.NTB_STAT then (BitVec.ofNat 32 (putBits v.toNat 2 1 (b2n (timeLocked s))), s)
    else (v, s)

/-! ### Comparators as they are armed (R76, R78) -/

/-- A comparator's next instant and its period, in ns; a path comparator's K, J and delay. -/
def cmpNext (s : State) (n : Nat) : Nat :=
  (fld s (R.CMPn_NXT_SLO_s n) + 2 ^ 32 * fld s (R.CMPn_NXT_SHI_s n)) * 1000000000 + fld s (R.CMPn_NXT_NS_ns n)
def cmpPeriod (s : State) (n : Nat) : Nat := fld s (R.CMPn_PER_S_s n) * 1000000000 + fld s (R.CMPn_PER_NS_ns n)
def cmpK (s : State) (n : Nat) : Nat := bits (fld s (R.CMPn_PER_S_s n)) 0 12
def cmpJ (s : State) (n : Nat) : Nat := bits (fld s (R.CMPn_PER_S_s n)) 16 12
def cmpDelay (s : State) (n : Nat) : Nat := fld s (R.CMPn_PER_NS_ns n)

/-- Writes a comparator's next instant. -/
def setCmpNext (n t : Nat) (s : State) : State :=
  let sec := t / 1000000000
  setFld (setFld (setFld s (R.CMPn_NXT_SLO_s n) (sec % 2 ^ 32)) (R.CMPn_NXT_SHI_s n) (sec / 2 ^ 32 % 2 ^ 32))
    (R.CMPn_NXT_NS_ns n) (t % 1000000000)

/-- The first instant of the series `next`, `next + per`, … after `t`. -/
def advancePast (next per t : Nat) : Nat := if t < next then next else next + ((t - next) / per + 1) * per

/-- A setting that is refused when `en` is set. -/
def cmpBad (s : State) (n : Nat) : Bool :=
  if isSet s (R.CMPn_CFG_mode n) then
    cmpK s n == 0 || cmpK s n > 4096 || cmpK s n ≤ cmpJ s n || pathLen s ≤ cmpDelay s n
  else cmpPeriod s n != 0 && cmpPeriod s n < 100000

/-- Comparator `n` after `en` was set (R78). -/
def cmpArm (n : Nat) (s : State) : State :=
  if cmpBad s n then cfgErr (lower s (R.CMPn_CFG_en n)) 2
  else if !isSet s (R.CMPn_CFG_mode n) && cmpNext s n ≤ netNs s then
    if cmpPeriod s n = 0 then
      post 0x02 0x05 (leBytes 1 n) (raise (lower s (R.CMPn_CFG_en n)) (R.CMPn_CST_past n))
    else setCmpNext n (advancePast (cmpNext s n) (cmpPeriod s n) (netNs s)) s
  else s

/-- Comparator `n` disarmed: a waiting firing is dropped. -/
def cmpDisarm (n : Nat) (s : State) : State := { s with ntb := { s.ntb with waiting := sdel s.ntb.waiting n } }

/-- R78: at a new path length an enabled path comparator whose delay does not fit is disabled. -/
def cmpPlenCheck (s : State) : State :=
  upTo 16 (fun n s =>
    if isSet s (R.CMPn_CFG_en n) && isSet s (R.CMPn_CFG_mode n) && pathLen s ≤ cmpDelay s n then
      post 0x02 0x07 (leBytes 1 n) (cfgErr (lower s (R.CMPn_CFG_en n)) 2)
    else s) s

/-! ### Captures (R79) -/

/-- The sources a capture may name. -/
def capSrcOk (src : Nat) : Bool := src ≤ 0x9F || (0x100 ≤ src && src ≤ 0x108) || (0x110 ≤ src && src ≤ 0x123)

/-- An input event of capture source `src` at network time `t` in ns; `rising` is the edge of a pad source. -/
def captureAt (t src : Nat) (rising : Bool) (s : State) : State :=
  upTo 16 (fun n s =>
    let pad := 0x100 ≤ src && src ≤ 0x11F
    if isSet s (R.CAPn_CFG_en n) && fld s (R.CAPn_CFG_src n) == src && (!pad || isSet s (R.CAPn_CFG_edge n) != rising) then
      if isSet s (R.CAPn_CFG_full n) then raise s (R.CAPn_CFG_ovr n)
      else
        let s := setFld s (R.CAPn_NS_ns n) (t % 1000000000)
        let s := setFld s (R.CAPn_SLO_s n) (t / 1000000000 % 2 ^ 32)
        let s := setFld s (R.CAPn_SHI_s n) (t / 1000000000 / 2 ^ 32 % 2 ^ 32)
        raise (raise s (R.CAPn_CFG_full n)) R.NTB_IFLG_cap
    else s) s

/-- An input event of capture source `src` in this tick. -/
def captureEvent (src : Nat) (rising : Bool) (s : State) : State := captureAt (netNs s) src rising s

/-! ### Writes -/

/-- The next network time, in ns, that is a whole multiple of 5.12 s (R75). -/
def nextPlenMultiple (s : State) : Nat := (netNs s / 5120000000 + 1) * 5120000000

/-- A path length that takes effect without a boundary, in `tstate` 0 (R75). -/
def plenNow (s : State) : State :=
  let s := setFld s R.NTB_STAT_plen_act (fld s R.NTB_PATHCFG_plen)
  let s := { s with ntb := { s.ntb with path := netNs s / pathLen s } }
  raise (cmpPlenCheck s) R.NTB_IFLG_plen

/-- A set or step is requested (R60). -/
def requestAdjust (w : Word) (s : State) : State :=
  let set := bit w.toNat 0
  let step := bit w.toNat 1
  if !set && !step then s
  else if (set && step) || s.ntb.adj.isSome || 999999999 < fld s R.NTB_ADJ_NS_ns then cfgErr s 2
  else
    let r : TimeAdj := { step, sec := fld s R.NTB_ADJ_SLO_s + 2 ^ 32 * fld s R.NTB_ADJ_SHI_s,
                         ns := fld s R.NTB_ADJ_NS_ns, src := isSet s R.NTB_ADJ_NS_src, due := s.now + 2 }
    raise { s with ntb := { s.ntb with adj := some r } } R.NTB_STAT_adj_busy

/-- What a write of an NTB register starts beside its fields. -/
def ntbWritten (_o : Origin) (a : Nat) (w : Word) (old s : State) : State :=
  if a = A.NTB_CTRL then
    let s := if isSet s R.NTB_CTRL_run && !isSet old R.NTB_CTRL_run then blockStart s 2 else s
    let s := if bit w.toNat 4 then { s with ntb := { s.ntb with fedAt := some s.now } } else s
    if bit w.toNat 8 then setFld s R.NTB_STAT_tstate 1 else s
  else if a = A.NTB_PATHCFG then
    if shadowing old a then
      if s.shadows = old.shadows then s
      else { s with ntb := { s.ntb with plenAt := some (s.ntb.plenAt.getD (nextPlenMultiple s)) } }
    else if bits w.toNat 0 2 < 3 then plenNow s else s
  else if a = A.NTB_ADJ_GO then requestAdjust w s
  else if A.CMPn_CFG 0 ≤ a ∧ a < A.CMPn_CFG 16 then
    let n := (a - A.CMPn_CFG 0) / 0x20
    if a = A.CMPn_CFG n then
      if isSet s (R.CMPn_CFG_en n) then (if isSet old (R.CMPn_CFG_en n) then s else cmpArm n s) else cmpDisarm n s
    else if a = A.CMPn_CST n then
      if isSet s (R.CMPn_CST_skip n) then s else setFld s (R.CMPn_CST_nskip n) 0
    else s
  else if A.CAPn_CFG 0 ≤ a ∧ a < A.CAPn_CFG 16 then
    let n := (a - A.CAPn_CFG 0) / 0x10
    if a = A.CAPn_CFG n && isSet s (R.CAPn_CFG_en n) && !isSet old (R.CAPn_CFG_en n) && !capSrcOk (fld s (R.CAPn_CFG_src n)) then
      cfgErr (lower s (R.CAPn_CFG_en n)) 2
    else s
  else s

/-! ### The firmware's comparators (R78) -/

/-- Comparator `n` off. -/
def cmpOff (n : Nat) (s : State) : State := fwWrite ntbWritten (A.CMPn_CFG n) 0 s

/-- Comparator `n` as a path comparator with K, J and no delay. -/
def cmpPath (n k j route : Nat) (s : State) : State :=
  let s := fwWrite ntbWritten (A.CMPn_PER_S n) (BitVec.ofNat 32 (k + 65536 * j)) (cmpOff n s)
  fwWrite ntbWritten (A.CMPn_CFG n) (BitVec.ofNat 32 (3 + 16 * route)) (fwWrite ntbWritten (A.CMPn_PER_NS n) 0 s)

/-- Comparator `n` as a time comparator from the instant `next` in ns, every `per` ns (0: once). -/
def cmpTime (n next per route : Nat) (s : State) : State :=
  let s := setCmpNext n next (cmpOff n s)
  let s := fwWrite ntbWritten (A.CMPn_PER_S n) (BitVec.ofNat 32 (per / 1000000000)) s
  fwWrite ntbWritten (A.CMPn_CFG n) (BitVec.ofNat 32 (1 + 16 * route)) (fwWrite ntbWritten (A.CMPn_PER_NS n) (BitVec.ofNat 32 (per % 1000000000)) s)

/-- The next whole multiple of `per` ns. -/
def nextMultiple (s : State) (per : Nat) : Nat := (netNs s / per + 1) * per

/-! ### Samples (R62, R67) -/

/-- The resident firmware asks for a step by `d` ns. -/
def askStep (d : Int) (s : State) : State :=
  let s := fwWrite ntbWritten A.NTB_ADJ_SLO (BitVec.ofNat 32 (unsigned 64 (d / 1000000000))) s
  let s := fwWrite ntbWritten A.NTB_ADJ_SHI (BitVec.ofNat 32 (unsigned 64 (d / 1000000000) / 2 ^ 32)) s
  let s := fwWrite ntbWritten A.NTB_ADJ_NS (BitVec.ofNat 32 ((d % 1000000000).toNat + 2 ^ 31)) s
  fwWrite ntbWritten A.NTB_ADJ_GO 2 s

/-- The increment with which the firmware slews and corrects its frequency: the spec bounds the slew by 500 ppm and leaves the
rate and the learned correction (at most 0.5 ppm) open, so the word is a free value within 500.5 ppm of the nominal one. -/
def slew (s : State) : State :=
  let (v, s) := takeFree 32 s
  fwWrite ntbWritten A.NTB_INC (BitVec.ofNat 32 (0x14000000 - 167939 + v % (2 * 167939 + 1))) s

/-- The resident firmware takes a sample of its source that finds network time `d` ns behind the source's: within the guard
it slews, beyond it or without valid time it asks for the step; it feeds NTB unless the guard refuses that. -/
def timeSample (d : Int) (s : State) : State :=
  if fld s R.NTB_STAT_tstate = 2 ∧ 1000 * fld s R.NTB_GUARD_us < d.natAbs then
    let s := askStep d s
    let first := if s.ntb.disagree = 0 then s.now else s.ntb.disagreeAt
    let k := s.ntb.disagree + 1
    let s := { s with ntb := { s.ntb with disagree := k, disagreeAt := first } }
    if 16 ≤ k ∧ secTicks 600 ≤ s.now - first then faultRaise 0x0503 0 true (post 0x02 0x04 [] s) else s
  else
    let s := if fld s R.NTB_STAT_tstate = 2 then slew s else askStep d s
    let s := { s with ntb := { s.ntb with disagree := 0 } }
    fwWrite ntbWritten A.NTB_CTRL (rwWord s A.NTB_CTRL ||| 0x10) (faultGone 0x0502 0 (faultGone 0x0503 0 s))

/-! ### The commands -/

/-- A write of NTB_CTRL.run (NTB_RUN, R63). -/
def execNtbRun (o : Origin) (run : Bool) (s : State) : Host.Outcome State Fault Refusal :=
  .next (coreWrite ntbWritten o A.NTB_CTRL (wordWith s R.NTB_CTRL_run (b2n run)) s)

/-- A read of NTB_TIME_NS (TIME_READ, R57). -/
def execTimeRead (o : Origin) (s : State) : Host.Outcome State Fault Refusal :=
  .next (coreRead ntbRead [] o A.NTB_TIME_NS s)

/-- A write of NTB_ADJ_GO.set (TIME_SET, R60). -/
def execTimeSet (o : Origin) (s : State) : Host.Outcome State Fault Refusal :=
  .next (coreWrite ntbWritten o A.NTB_ADJ_GO 1 s)

/-- A write of NTB_ADJ_GO.step (TIME_STEP, R60). -/
def execTimeStep (o : Origin) (s : State) : Host.Outcome State Fault Refusal :=
  .next (coreWrite ntbWritten o A.NTB_ADJ_GO 2 s)

/-- A write of NTB_CTRL.fed (SOURCE_FED, R67). -/
def execSourceFed (o : Origin) (s : State) : Host.Outcome State Fault Refusal :=
  .next (coreWrite ntbWritten o A.NTB_CTRL (rwWord s A.NTB_CTRL ||| 0x10) s)

/-- A write of NTB_CTRL.invalidate (TIME_INVALIDATE, R62). -/
def execTimeInvalidate (o : Origin) (s : State) : Host.Outcome State Fault Refusal :=
  .next (coreWrite ntbWritten o A.NTB_CTRL (rwWord s A.NTB_CTRL ||| 0x100) s)

/-- The hold elapses without an accepted sample (SOURCE_HOLD_EXPIRY, R67). -/
def sourceHoldExpiry (s : State) : State :=
  match s.ntb.fedAt with
  | none => s
  | some t =>
    if s.now - t < secTicks (fld s R.NTB_HOLD_s) then s
    else
      let s := { s with ntb := { s.ntb with fedAt := none } }
      if fld s R.NTB_STAT_tstate = 2 then faultRaise 0x0502 0 true (post 0x02 0x03 [] (raise s R.NTB_IFLG_srclost)) else s

def execSourceHoldExpiry (s : State) : Host.Outcome State Fault Refusal := .next (sourceHoldExpiry s)

/-- A write of CMPn_CFG (COMPARATOR_ENABLE, R78). -/
def execComparatorEnable (o : Origin) (n : Nat) (cfg : Word) (s : State) : Host.Outcome State Fault Refusal :=
  .next (coreWrite ntbWritten o (A.CMPn_CFG n) cfg s)

end Sys2Proof.Machine
end

