-- ==== Sys2Proof/Machine/Ports.lean ====
section
/-!
DEFINITION. The ports of BHN in hardware (chapter 18, R460-R462, R467, R475, R482): Ethernet and USB frames, PPP frames on the
modem UART, PAUSE, the link bits. The firmware's side is in Backhaul.lean.
-/

namespace Sys2Proof.Machine

def setBhn (b : BhnState) (s : State) : State := { s with bhn := b }

/-- The ports: 0 ETH0, 1 ETH1, 2 USB, 3 modem UART. A port acts while it is enabled, and an Ethernet port once PLL E is locked. -/
def portOn (s : State) (k : Nat) : Bool := fldBit s R.BHN_CTRL_en k && (s.pwr.pllE || 2 ≤ k)
def portLink (s : State) (k : Nat) : Bool := fldBit s R.BHN_STAT_link k

/-- The queues of a port: receive and transmit. -/
def portRx (s : State) (k : Nat) : Nat :=
  match k with
  | 0 => fld s R.BHN_QMAP0_e0rx
  | 1 => fld s R.BHN_QMAP0_e1rx
  | 2 => fld s R.BHN_QMAP1_usbrx
  | _ => fld s R.BHN_QMAP1_mrx
def portTx (s : State) (k : Nat) : Nat :=
  match k with
  | 0 => fld s R.BHN_QMAP0_e0tx
  | 1 => fld s R.BHN_QMAP0_e1tx
  | 2 => fld s R.BHN_QMAP1_usbtx
  | _ => fld s R.BHN_QMAP1_mtx

/-- Where a port's octets leave the module. -/
def portOut (k : Nat) : OutPort := if k < 3 then .eth k else .ppp

/-- The Ethernet address of ETH0, with 0x06 as its first octet that of ETH1 (R461). -/
def macOf (k : Nat) : List Byte :=
  (if k = 0 then 0x02 else 0x06) :: (beBytes 4 (Config.uid 0).toNat ++ leBytes 1 (Config.uid 1).toNat)

/-- BHN answers its address registers itself (R461). -/
def bhnRead (_o : Origin) (a : Nat) (v : Word) (s : State) : Word × State :=
  let m (k : Nat) : List Byte := macOf k
  if a = A.BHN_MACp_LO 0 then (BitVec.ofNat 32 (beNat ((m 0).drop 2)), s)
  else if a = A.BHN_MACp_LO 1 then (BitVec.ofNat 32 (beNat ((m 1).drop 2)), s)
  else if a = A.BHN_MACp_HI 0 then (BitVec.ofNat 32 (beNat ((m 0).take 2)), s)
  else if a = A.BHN_MACp_HI 1 then (BitVec.ofNat 32 (beNat ((m 1).take 2)), s)
  else (v, s)

/-! ### PAUSE (R482) -/

/-- The ticks of 512 bit times of port `k`. -/
def pauseUnit (s : State) (k : Nat) : Nat := if k = 0 ∧ !isSet s R.BHN_STAT_spd0 then 2560 else 256

/-- An Ethernet frame on the wire: padded to 60 octets, with its FCS. -/
def withFcs (frame : List Byte) : List Byte :=
  let f := if frame.length < 60 then padTo 60 frame else frame
  f ++ leBytes 4 (crc32 f)

/-- A PAUSE frame leaves port `k`. -/
def pauseSend (k quanta : Nat) (s : State) : State :=
  let f := [0x01, 0x80, 0xC2, 0x00, 0x00, 0x01] ++ macOf k ++ [0x88, 0x08, 0x00, 0x01] ++ beBytes 2 quanta
  raise (emit (portOut k) (withFcs f) s) R.BHN_IFLG_pause

/-- Whether port `k` may send PAUSE: enabled, negotiated, full duplex, link. -/
def mayPause (s : State) (k : Nat) : Bool :=
  isSet s R.BHN_PAUSE_en && fldBit s R.BHN_STAT_pause k && fldBit s R.BHN_STAT_fdx k && portOn s k && portLink s k

/-- PAUSE on port `k` as its receive queue stands: sent at state 1, repeated after half its time, ended with quanta 0. -/
def pauseSettle (k : Nat) (s : State) : State :=
  let high := wmState s (portRx s k)
  let sent := slook s.bhn.pauseAt k
  if high && mayPause s k then
    let q := fld s R.BHN_PAUSE_quanta
    match sent with
    | some t => if t + q * pauseUnit s k / 2 ≤ s.now then pauseSend k q (setBhn { s.bhn with pauseAt := sins s.bhn.pauseAt k s.now } s) else s
    | none => pauseSend k q (setBhn { s.bhn with pauseAt := sins s.bhn.pauseAt k s.now } s)
  else if sent.isSome && !high then
    let s := setBhn { s.bhn with pauseAt := sdel s.bhn.pauseAt k } s
    if mayPause s k then pauseSend k 0 s else s
  else s

/-- Both Ethernet ports. -/
def pausesSettle (s : State) : State := pauseSettle 1 (pauseSettle 0 s)

/-- MDM_RTS_N asserted: the modem may send (R482). -/
def modemReady (s : State) : Bool := !(isSet s R.BHN_UART_flow && wmState s (portRx s 3))

/-! ### Receiving -/

/-- A frame with a bad FCS, or a framing error. -/
def rxError (s : State) : State := raise (bump s R.BHN_CNT_ERR_fcs 1) R.BHN_IFLG_err

/-- The UDP destination port of an Ethernet frame that is a UDP datagram without extension headers (R467). -/
def udpPort (f : List Byte) : Option Nat :=
  let kind := beNat (octets f 12 2)
  let o (i : Nat) : Nat := beNat (octets f i 1)
  if kind = 0x0800 ∧ o 14 = 0x45 ∧ o 23 = 17 ∧ beNat (octets f 20 2) % 0x4000 = 0 then some (beNat (octets f 36 2))
  else if kind = 0x86DD ∧ o 20 = 17 then some (beNat (octets f 56 2))
  else none

/-- Queues what port `k` received: the stamp of R475, then the frame. -/
def rxQueued (k : Nat) (frame : List Byte) (s : State) : State :=
  let (ok, s) := hwWrite agentBhn (portRx s k) 0 (leBytes 4 s.ntb.ns ++ leBytes 4 (s.ntb.sec % 2 ^ 32) ++ frame) s
  if ok then pauseSettle k (bumpWrap s R.BHN_CNT_RX_n 1)
  else raise (bump s R.BHN_CNT_ERR_drop 1) R.BHN_IFLG_rxdrop

/-- A frame arrives on an Ethernet port or USB, without its FCS; `fcsOk` says whether that was right. -/
def ethReceive (k : Nat) (frame : List Byte) (fcsOk : Bool) (s : State) : State :=
  let kind := beNat (octets frame 12 2)
  if 2 < k ∨ !portOn s k ∨ !portLink s k then s
  else if !fcsOk then rxError s
  else if kind = 0x8100 ∨ 1514 < frame.length ∨ (k < 2 ∧ frame.length < 60) then s
  else if kind = 0x8808 ∧ k < 2 then
    if beNat (octets frame 14 2) = 1 ∧ fldBit s R.BHN_STAT_fdx k then
      raise (setBhn { s.bhn with pausedTo := sins s.bhn.pausedTo k (s.now + beNat (octets frame 16 2) * pauseUnit s k) } s) R.BHN_IFLG_pause
    else s
  else
    let s := if isSet s R.BHN_TSF_en ∧ k < 2 ∧ udpPort frame = some (fld s R.BHN_TSF_port) then raise s R.BHN_IFLG_rxsfd else s
    rxQueued k frame s

/-- The octets of a PPP frame with its escapes undone. -/
def pppUnescape : List Byte → List Byte
  | [] => []
  | [b] => if b = 0x7D then [] else [b]
  | b :: c :: t => if b = 0x7D then (c ^^^ 0x20) :: pppUnescape t else b :: pppUnescape (c :: t)

/-- The octets that BHN escapes. -/
def pppEscape (b : List Byte) : List Byte :=
  b.flatMap (fun x => if x = 0x7D ∨ x = 0x7E ∨ x.toNat < 0x20 then [0x7D, x ^^^ 0x20] else [x])

/-- A PPP frame arrives on the modem UART: the octets between two flags; `framing` says that the UART found a framing error. -/
def pppReceive (raw : List Byte) (framing : Bool) (s : State) : State :=
  if !portOn s 3 then s
  else
    let b := pppUnescape raw
    let n := b.length - 2
    if framing ∨ b.length < 2 ∨ crc16 (b.take n) ≠ leNat (b.drop n) then rxError s else rxQueued 3 (b.take n) s

/-! ### Sending -/

/-- What has left a port: counted, and stamped where the entry's tag asks for it; the firmware's own waiting request takes the
stamp (R467, R469). -/
def txDone (k : Nat) (e : QEntry) (s : State) : State :=
  let s := bumpWrap (hwNext agentBhn (portTx s k) s) R.BHN_CNT_TX_n 1
  if bit e.tag 0 then
    let s := if k < 2 then raise s R.BHN_IFLG_txsfd else s
    match s.bhn.asked with
    | some r => if r.left.isNone then setBhn { s.bhn with asked := some { r with left := some (netNs s) } } s else s
    | none => s
  else s

/-- The head entry of a port's transmit queue leaves through ETH0, ETH1 or USB; a received PAUSE holds it. -/
def ethSend (k : Nat) (s : State) : State :=
  if 2 < k ∨ !portOn s k ∨ !portLink s k ∨ s.now < sget (fun _ => 0) s.bhn.pausedTo k then s
  else match hwHead agentBhn (portTx s k) s with
    | none => s
    | some e => txDone k e (emit (portOut k) (withFcs e.body) s)

/-- The head entry of the modem's queue leaves in PPP framing; MDM_CTS_N holds it while flow control is on. -/
def pppSend (s : State) : State :=
  if !portOn s 3 ∨ (isSet s R.BHN_UART_flow ∧ !portLink s 3) then s
  else match hwHead agentBhn (portTx s 3) s with
    | none => s
    | some e =>
      let f := e.body ++ leBytes 2 (crc16 e.body)
      txDone 3 e (emit .ppp ([0x7E] ++ pppEscape f ++ [0x7E]) s)

/-! ### The commands -/

/-- A frame arrives (ETH_FRAME_RECEIVE, R475). -/
def execEthFrameReceive (k : Nat) (frame : List (BitVec 8)) (fcs : Bool) (s : State) : Host.Outcome State Fault Refusal :=
  .next (ethReceive k frame fcs s)

/-- A frame leaves (ETH_FRAME_SEND, R475). -/
def execEthFrameSend (k : Nat) (s : State) : Host.Outcome State Fault Refusal := .next (ethSend k s)

/-- A PPP frame arrives (PPP_FRAME_RECEIVE, R462). -/
def execPppFrameReceive (raw : List (BitVec 8)) (framing : Bool) (s : State) : Host.Outcome State Fault Refusal :=
  .next (pppReceive raw framing s)

/-- A PPP frame leaves (PPP_FRAME_SEND, R462). -/
def execPppFrameSend (s : State) : Host.Outcome State Fault Refusal := .next (pppSend s)

/-- Half a PAUSE's time has passed, or the queue has fallen (PAUSE_REPEAT, R482). -/
def execPauseRepeat (s : State) : Host.Outcome State Fault Refusal := .next (pausesSettle s)

end Sys2Proof.Machine
end

