-- ==== Sys2Proof/Machine/Sessions.lean ====
section
/-!
DEFINITION. The sessions of the object dictionary (R395, R401): opening under the limits of each interface, closing, the idle
timeouts, and their records.
-/

namespace Sys2Proof.Machine

def setDict (d : DictState) (s : State) : State := { s with dict := d }

/-- The session with identifier `id`. -/
def sessionOf (s : State) (id : Nat) : Option Session := s.dict.sessions.find? (fun x => x.id == id)

/-- Puts a session's new value in its place. -/
def putSession (x : Session) (s : State) : State :=
  setDict { s.dict with sessions := s.dict.sessions.map (fun y => if y.id = x.id then x else y) } s

/-- The record of a session (code 0x03): 0 open, 1 close, 2 timeout, 3 refused. -/
def sessionEvent (iface id what : Nat) (s : State) : State :=
  post 0x20 0x03 (leBytes 1 iface ++ leBytes 2 id ++ leBytes 1 what) s

/-- Closes a session. -/
def closeSession (id what : Nat) (s : State) : State :=
  match sessionOf s id with
  | none => s
  | some x => sessionEvent x.iface id what (setDict { s.dict with sessions := s.dict.sessions.filter (fun y => y.id != id) } s)

/-- Closes every session of an interface (R466). -/
def closeSessions (iface what : Nat) (s : State) : State :=
  (s.dict.sessions.filter (fun x => x.iface == iface)).foldl (fun s x => closeSession x.id what s) s

/-- The sessions that count against an interface's limit: ETH1 and USB make one service endpoint. -/
def sessionsOn (s : State) (iface : Nat) : Nat :=
  s.dict.sessions.countP (fun x => if iface ≤ 1 then x.iface == iface else 2 ≤ x.iface)

def sessionLimit (iface : Nat) : Nat := natAt [4, 8, 2, 2] iface

/-- The idle timeout of an interface in ticks. -/
def sessionIdle (iface : Nat) : Nat := secTicks (if iface = 0 then 60 else 600)

/-- Opens a session; none where the interface has no room, or for a second factory session, or one off the service
endpoint. -/
def openSession (iface sid : Nat) (peer : List Byte) (factory : Bool) (version : Option (Nat × Nat)) (s : State) :
    Option Session × State :=
  if sessionLimit iface ≤ sessionsOn s iface ∨ (factory ∧ (iface < 2 ∨ s.dict.sessions.any (·.factory))) then
    (none, sessionEvent iface 0 3 s)
  else
    let id := (s.dict.opened + 1) % 65536
    let x : Session := { id, iface, sid, peer, version, factory, usedAt := s.now }
    (some x, sessionEvent iface id 0 (setDict { s.dict with sessions := s.dict.sessions ++ [x], opened := id } s))

/-- A session's idle timeout has passed. -/
def sessionExpire (id : Nat) (s : State) : State :=
  match sessionOf s id with
  | some x => if x.usedAt + sessionIdle x.iface ≤ s.now then closeSession id 2 s else s
  | none => s

/-- A session's idle timeout (SESSION_IDLE_TIMEOUT, R395). -/
def execSessionIdleTimeout (id : Nat) (s : State) : Host.Outcome State Fault Refusal := .next (sessionExpire id s)

end Sys2Proof.Machine
end

