-- ==== Sys2Proof/Machine/Radio.lean ====
section
/-!
DEFINITION. The radio front end (chapter 04): channels, the checks of R91, airtime and duty, frames on air, chains and
branches, reception gating and the reception report; and the times inside a path (R107).
-/

namespace Sys2Proof.Machine

/-! ### Times inside a path (R107) -/

/-- The duration of a bit in ns at the segment's rate. -/
def bitNs (s : State) : Nat := if fld s R.RFE_PHY_rxrate = 1 then 10000 else 20000

/-- The effective guard g in ns. -/
def guardNs (s : State) : Nat := min (fld s R.TTE_TIMING_guard * 10000) (pathLen s / 10)

/-- tx_off in ns. -/
def txOff (s : State) : Nat := guardNs s + 200000

/-- psdu_max. -/
def psduMax (s : State) : Nat :=
  min 255 ((pathLen s - 2 * guardNs s - 290000) / (8 * bitNs s) - fld s R.RFE_PHY_pre_len - 4)

/-- Octets of the FCS of sent frames. -/
def fcsLen (s : State) : Nat := if isSet s R.RFE_PHY_fcs2 then 2 else 4

/-- The network time in ns at which path `p` begins (R24). -/
def pathStart (s : State) (p : Nat) : Nat := p * pathLen s

/-- The end of the SFD of an on-time frame, in ns from the path boundary. -/
def nominalSof (s : State) : Nat := txOff s + (fld s R.RFE_PHY_pre_len + 2) * 8 * bitNs s

/-- The bits on air of a frame with a PSDU of `n` octets; PHR and PSDU are coded with FEC (R97). -/
def frameBits (s : State) (fec : Bool) (n : Nat) : Nat :=
  8 * (fld s R.RFE_PHY_pre_len + 2) +
    (if fec then 2 * (16 + 8 * n + (if n % 2 = 1 then 8 else 16)) else 8 * (2 + n))

/-- The airtime in µs from the start of the ramp-up to the end of the ramp-down (R97). -/
def airtimeUs (s : State) (n : Nat) : Nat := frameBits s (isSet s R.TTE_CFG_fec) n * bitNs s / 1000 + 40

/-! ### Channels and bands (R82, R83, R96) -/

/-- The centre of channel `k` in units of 100 kHz. -/
def chanCentre (s : State) (k : Nat) : Nat := fld s R.RFE_WIN_fc + 2 * k - 63

/-- The mask as it reads: written bits, and the bits hardware forces (R83). -/
def chanMasked (s : State) (k : Nat) : Bool :=
  (if k < 32 then fldBit s R.RFE_CHMASK_LO_m k else fldBit s R.RFE_CHMASK_HI_m (k - 32)) ||
    chanCentre s k < 4700 || 9600 < chanCentre s k

def chanUsable (s : State) (k : Nat) : Bool := k < 64 && !chanMasked s k

/-- The band in force that holds channel `k`'s span. -/
def bandOf (s : State) (k : Nat) : Option Nat :=
  let c := chanCentre s k
  (List.range 4).find? (fun b => isSet s (R.RFE_BANDb_EDGE_en b) && fld s (R.RFE_BANDb_EDGE_lo b) + 1 ≤ c &&
    c + 1 ≤ fld s (R.RFE_BANDb_EDGE_hi b))

/-! ### The duty accountant (R97-R100) -/

/-- The place of the bucket of band `b`, chain `c` for minute `m`. -/
def bucketKey (b c m : Nat) : Nat := 60 * (4 * b + c) + m % 60

def bucket (s : State) (k : Nat) : Nat := sget (fun _ => 0) s.rfe.duty k

def setBucket (k us : Nat) (s : State) : State := { s with rfe := { s.rfe with duty := sput (fun _ => 0) s.rfe.duty k us } }

/-- `used` of a counter. -/
def dutyUsed (s : State) (b c : Nat) : Nat := ((List.range 60).map (fun m => bucket s (bucketKey b c m))).sum

/-- Adds airtime to the current bucket; crossing `warn` percent of the limit upward is flagged (R99). -/
def dutyAdd (b c us : Nat) (s : State) : State :=
  let used := dutyUsed s b c
  let k := bucketKey b c s.rfe.minute
  let warn := fld s (R.RFE_BANDb_RSV_warn b) * fld s (R.RFE_BANDb_LIM_duty b) * 360000
  let s := setBucket k (bucket s k + us) s
  if used * 100 < warn ∧ warn ≤ (used + us) * 100 then raise s R.RFE_IFLG_duty_warn else s

/-- Drops the buckets that network time has passed (R98). -/
def dutyRotate (s : State) : State :=
  let m := netSec s / 60
  let n := min (m - s.rfe.minute) 60
  if n = 0 then s else
  let s := upTo n (fun i s => upTo 16 (fun bc s => setBucket (60 * bc + (s.rfe.minute + 1 + i) % 60) 0 s) s) s
  { s with rfe := { s.rfe with minute := m } }

/-- At a bucket close the firmware copies the buckets to the cell store (R100). -/
def dutyCopy (s : State) : State := { s with nv := { s.nv with duty := s.rfe.duty, dutyMinute := some s.rfe.minute } }

/-- Before the first start after a reset the firmware writes the copy back, or zeros (R100). -/
def dutyRestore (s : State) : State :=
  let m := netSec s / 60
  match s.nv.dutyMinute with
  | some c =>
    if fld s R.NTB_STAT_tstate = 0 ∨ m < c ∨ 60 < m - c then
      post 0x06 0x05 [] { s with rfe := { s.rfe with duty := [], minute := m } }
    else dutyRotate { s with rfe := { s.rfe with duty := s.nv.duty, minute := c } }
  | none => post 0x06 0x05 [] { s with rfe := { s.rfe with duty := [], minute := m } }

/-- A 60 s multiple is passed (DUTY_BUCKET_CLOSE, R98). -/
def dutyClose (s : State) : State := if s.rfe.minute < netSec s / 60 then dutyCopy (dutyRotate s) else s

/-! ### The checks of R91 -/

/-- The refusal codes. -/
inductive TxRefusal where
  | off | path | chain | mask | band | sep | duty | late
  deriving DecidableEq, Repr

/-- The verdict on a frame: granted in a band with its start and finish, or refused. -/
inductive TxVerdict where
  | grant (band start finish : Nat)
  | refuse (r : TxRefusal)
  deriving DecidableEq, Repr

/-- The checks of R91 on a frame of `n` octets offered to a chain on a channel in path `p`. -/
def txJudge (s : State) (p chain chan n : Nat) (beacon : Bool) : TxVerdict :=
  let mode := fld s R.RFE_CTRL_mode
  if ¬ (isSet s R.RFE_CTRL_txen ∧ 2 ≤ mode) then .refuse .off
  else if mode = 2 ∧ p % 4 ≠ 0 then .refuse .path
  else if !fldBit s R.RFE_TXOK_ok chain || s.rfe.granted.any (fun g => g.1 == chain) then .refuse .chain
  else if !chanUsable s chan then .refuse .mask
  else match bandOf s chan with
    | none => .refuse .band
    | some b =>
      if s.rfe.granted.any (fun g => g.2 == chan || (g.1 / 2 == chain / 2 && g.2 < chan + 2 && chan < g.2 + 2)) then .refuse .sep
      else
        let limit := (if beacon then fld s (R.RFE_BANDb_LIM_duty b)
          else fld s (R.RFE_BANDb_LIM_duty b) - fld s (R.RFE_BANDb_RSV_rsv b)) * 360000
        if limit < dutyUsed s b chain + airtimeUs s n then .refuse .duty
        else
          let start := max (pathStart s p + txOff s) (if netNs s ≤ pathStart s p + txOff s then 0 else netNs s + 20000)
          let finish := start + frameBits s (isSet s R.TTE_CFG_fec) n * bitNs s + 20000
          if pathStart s (p + 1) < finish + 50000 then .refuse .late else .grant b start finish

/-- What a refusal counts and flags. -/
def txRefused (r : TxRefusal) (s : State) : State :=
  match r with
  | .mask => bump s R.RFE_CNT_REF_band 1
  | .band => bump s R.RFE_CNT_REF_band 1
  | .sep => bump s R.RFE_CNT_REF_sep 1
  | .duty => raise (bump s R.RFE_CNT_REF_duty 1) R.RFE_IFLG_duty_ref
  | .late => bump s R.RFE_CNT_REF_late 1
  | _ => s

/-- Grants a frame: it is sent at its power or the band's `pmax` (R92). -/
def txGrant (chain chan power : Nat) (beacon : Bool) (psdu : List Byte) (band start finish : Nat) (s : State) : State :=
  let f : AirTx := { chain, chan, band, beacon, start, finish, psdu
                     airtime := airtimeUs s psdu.length, power := min power (fld s (R.RFE_BANDb_LIM_pmax band)) }
  raise { s with rfe := { s.rfe with granted := (chain, chan) :: s.rfe.granted, air := s.rfe.air ++ [f] } } R.RFE_STAT_tx_on

/-! ### Frames dropped by TTE (R108, R121, R122) -/

/-- A transmit frame is dropped and counted. -/
def tteDrop (s : State) : State := raise (bump s R.TTE_CNT_DROP_tx 1) R.TTE_IFLG_drop

/-! ### The end of frames -/

/-- Takes a frame off the air. -/
def airRemove (f : AirTx) (s : State) : State :=
  let l := s.rfe.air.filter (fun g => g != f)
  setBool { s with rfe := { s.rfe with air := l } } R.RFE_STAT_tx_on (!l.isEmpty)

/-- Cuts one frame: ramped down over 20 µs and counted, or withdrawn when its ramp-up has not begun and `withdraw` holds (R94, R95). -/
def airCut (withdraw : Bool) (s : State) (f : AirTx) : State :=
  let t := netNs s
  let s := airRemove f s
  if t + 20000 < f.start then
    if withdraw then (if f.beacon then raise s R.TTE_IFLG_drop else tteDrop s) else s
  else
    let us := (min f.finish (t + 20000) + 20000 - f.start + 999) / 1000
    raise (bump (dutyAdd f.band f.chain us s) R.RFE_CNT_CUT_tx 1) R.RFE_IFLG_cut

/-- Cuts every transmission that has not finished. -/
def airCutAll (withdraw : Bool) (s : State) : State :=
  (s.rfe.air.filter (fun f => netNs s < f.finish)).foldl (airCut withdraw) s

/-- The causes of R101 for a frame's measurement: 1 forward low, 2 forward high, 3 return loss, 4 unlock. -/
def chainCause (s : State) (f : AirTx) (fwd : Int) (rl : Nat) (unlock : Bool) : Nat :=
  let want : Int := (f.power : Int) - 20
  let tol : Int := fld s R.RFE_MON_fwd_tol
  if fwd < want - tol then 1 else if want + tol < fwd then 2 else if rl < fld s R.RFE_MON_rl_min then 3
  else if unlock then 4 else 0

/-- The exclusions in a row of an element: branches 0, 1; chains 2-5 (E:0010). -/
def exclusions (s : State) (el : Nat) : Nat := sget (fun _ => 0) s.rfe.excl el

def setExclusions (el n : Nat) (s : State) : State := { s with rfe := { s.rfe with excl := sput (fun _ => 0) s.rfe.excl el n } }

/-- An element is excluded or found healthy: its count in a row and its fault (R103, R556). -/
def judged (el : Nat) (bad : Bool) (s : State) : State :=
  let s := setExclusions el (if bad then min (exclusions s el + 1) 255 else 0) s
  faultSet (if el < 2 then 0x0303 else 0x0304) (if el < 2 then el else el - 2) bad s

/-- The frame on chain `c` ends with its measurement (R101). -/
def txEnd (c : Nat) (fwd : Int) (rl : Nat) (unlock : Bool) (s : State) : State :=
  match s.rfe.air.find? (fun f => f.chain == c && f.finish ≤ netNs s) with
  | none => s
  | some f =>
    let s := dutyAdd f.band c f.airtime (airRemove f s)
    let s := setFld (setFld s (R.RFE_CHc_MON_fwd c) (unsigned 8 fwd)) (R.RFE_CHc_MON_rl c) rl
    let cause := chainCause s f fwd rl unlock
    let s := if f.beacon then captureAt (f.start + (fld s R.RFE_PHY_pre_len + 2) * 8 * bitNs s) 0x121 true s else s
    let s := judged (c + 2) (cause != 0) (setFld s (R.RFE_CHc_MON_cause c) cause)
    if cause = 0 then s
    else post 0x06 0x01 (leBytes 1 c ++ leBytes 1 cause) (raise (lowerBit s R.RFE_TXOK_ok c) R.RFE_IFLG_tx_fail)

/-! ### Receiving -/

/-- Whether branch `b` (0 A, 1 B) is admitted and selected. -/
def branchOn (s : State) (b : Nat) : Bool :=
  fldBit s R.RFE_BRANCH_ok b && (fld s R.RFE_CTRL_brsel == 0 || fld s R.RFE_CTRL_brsel == b + 1)

/-- Whether RFE receives in path `p`, the one in hand or the one before (R93). -/
def rxOn (s : State) (p : Nat) : Bool :=
  (branchOn s 0 || branchOn s 1) &&
    (fld s R.RFE_CTRL_mode == 1 ||
      (fld s R.RFE_CTRL_mode == 2 && p % 4 != 0 && (if p = s.ntb.path then s.rfe.listened else s.rfe.listenedBefore)))

/-- The RSSI octet of a branch: the trimmed value as −128 + value / 2 dBm, 0 with weight 0 (R89). -/
def rssiCode (on : Bool) (m trim : Int) : Nat := if on then (clampInt 0 255 ((m + trim + 513) / 2)).toNat else 0

/-- The FCS of a PSDU's content (R144). The 2-octet FCS starts from 0 and is not inverted. -/
def fcsOf (two : Bool) (bs : List Byte) : List Byte :=
  if two then leBytes 2 (bs.foldl (fun c b => crcBits 0x8408 8 (c ^^^ b.toNat)) 0) else leBytes 4 (crc32 bs)

/-- Whether a received PSDU's FCS matches. -/
def fcsOk (f : RxFrame) : Bool :=
  let n := f.psdu.length - (if f.fcs2 then 2 else 4)
  fcsOf f.fcs2 (f.psdu.take n) == f.psdu.drop n

/-- The 12-octet reception report (R89). -/
def rxReport (s : State) (f : RxFrame) : List Byte :=
  let a := branchOn s 0
  let b := branchOn s 1
  leBytes 1 f.chan ++
  leBytes 1 (f.rate + 2 * b2n f.fec + 4 * b2n (fcsOk f) + 8 * b2n a + 16 * b2n b + 32 * b2n f.white + 64 * b2n f.fcs2) ++
  leBytes 1 (rssiCode a f.rssiA (signed 8 (fld s R.RFE_RSSI_TRIM_a))) ++
  leBytes 1 (rssiCode b f.rssiB (signed 8 (fld s R.RFE_RSSI_TRIM_b))) ++
  leBytes 1 (unsigned 8 f.snr) ++ leBytes 1 (clampInt 0 255 (2 * f.snr + 32)).toNat ++
  leBytes 2 (unsigned 16 f.cfo) ++ leBytes 4 f.sof

/-! ### Path and timetable boundaries (R94, R102, R104) -/

/-- At the boundary of path `p`: frames are cut, the chains are free again, listening as marked later (R94). -/
def radioBoundary (p : Nat) (o : PathObs) (s : State) : State :=
  let mode := fld s R.RFE_CTRL_mode
  let s := if mode = 2 ∧ p % 4 = 0 ∧ 0 < o.demod then raise (bump s R.RFE_CNT_CUT_rx o.demod) R.RFE_IFLG_cut else s
  let s := if mode = 2 then airCutAll true s else s
  let was := s.rfe.listened || mode == 1
  let s := upTo 2 (fun b s =>
    if (if b = 0 then o.agcA else o.agcB) && was && branchOn s b then
      post 0x06 0x04 (leBytes 1 b) (raise s R.RFE_IFLG_ovld) else s) s
  let counts := was && s.ntb.path % 4 != 0
  let r := s.rfe
  let r := if counts then { r with evalPaths := r.evalPaths + 1, detA := r.detA + o.detA, detB := r.detB + o.detB } else r
  { s with rfe := { r with granted := [], listenedBefore := r.listened, listened := false } }

/-- The mean of the floors of the unmasked channels in 0.5 dB, rounded half up; none without an unmasked channel. -/
def meanFloor (s : State) (fl : List (Nat × Int)) : Option (Int × Int) :=
  let l := (fl.filter (fun p => !chanMasked s p.1)).map (·.2)
  if l = [] then none else some (l.sum, l.length)

/-- The verdict of R102 on branch `b`. -/
def branchCause (s : State) (b : Nat) (fl : List (Nat × Int)) (det other : Nat) : Nat :=
  let cal := signed 16 (fld s (if b = 0 then R.RFE_NFCAL_nf_a else R.RFE_NFCAL_nf_b))
  let lo : Int := 2 * fld s R.RFE_MON_nf_lo
  let hi : Int := 2 * fld s R.RFE_MON_nf_hi
  match meanFloor s fl with
  | some (sum, n) =>
    if sum < (cal - lo) * n then 1 else if (cal + hi) * n < sum then 2
    else if 8 ≤ other ∧ det = 0 ∧ branchOn s (1 - b) then 3 else 0
  | none => if 8 ≤ other ∧ det = 0 ∧ branchOn s (1 - b) then 3 else 0

/-- Evaluates branch `b` (R102). -/
def branchEvaluate (o : PathObs) (b : Nat) (s : State) : State :=
  if !branchOn s b then s else
  let fl := (List.range o.floors.length).map (fun k => (k, let p := o.floors.getD k (0, 0); if b = 0 then p.1 else p.2))
  let s := { s with rfe := if b = 0 then { s.rfe with floorA := fl } else { s.rfe with floorB := fl } }
  let det := if b = 0 then s.rfe.detA else s.rfe.detB
  let other := if b = 0 then s.rfe.detB else s.rfe.detA
  let cause := branchCause s b fl det other
  let mean : Int := match meanFloor s fl with
    | some (sum, n) => (2 * sum + n) / (2 * n)
    | none => signed 16 (fld s (R.RFE_BRb_MON_nf b))
  let s := setFld (setFld s (R.RFE_BRb_MON_nf b) (unsigned 16 mean)) (R.RFE_BRb_MON_det b) (min det 255)
  let s := judged b (cause != 0) (setFld s (R.RFE_BRb_MON_cause b) cause)
  if cause = 0 then s
  else post 0x06 0x02 (leBytes 1 b ++ leBytes 1 cause) (raise (lowerBit s R.RFE_BRANCH_ok b) R.RFE_IFLG_rx_fail)

/-- The evaluation at a timetable boundary: once 16 listened up paths are covered (R102). -/
def radioTimetable (o : PathObs) (s : State) : State :=
  if s.rfe.evalPaths < 16 then s else
  let s := branchEvaluate o 1 (branchEvaluate o 0 s)
  raise { s with rfe := { s.rfe with evalPaths := 0, detA := 0, detB := 0 } } R.RFE_IFLG_nf

/-- Every 64 timetables the firmware re-admits what was excluded, but for elements out three times in a row (R103). -/
def readmit (s : State) : State :=
  let t := s.ntb.path / 256
  if t < s.rfe.readmitAt + 64 then s else
  let s := { s with rfe := { s.rfe with readmitAt := t } }
  upTo 6 (fun el s =>
    let (f, i) := if el < 2 then (R.RFE_BRANCH_ok, el) else (R.RFE_TXOK_ok, el - 2)
    if fldBit s f i || 3 ≤ exclusions s el then s
    else post 0x06 0x03 (leBytes 1 el) (raiseBit s f i)) s

/-- The installer's clear of a radio fault lets the element in again (R103). -/
def radioCleared (code : Nat) (s : State) : State :=
  upTo 6 (fun el s =>
    let c := if el < 2 then 0x0303 else 0x0304
    if (code = 0 ∨ code = c) ∧ 3 ≤ exclusions s el then
      let (f, i) := if el < 2 then (R.RFE_BRANCH_ok, el) else (R.RFE_TXOK_ok, el - 2)
      setExclusions el 0 (raiseBit s f i)
    else s) s

/-! ### Register hooks -/

/-- What a write of an RFE register starts (R93, R95, R100). -/
def rfeWritten (_o : Origin) (a : Nat) (w : Word) (old s : State) : State :=
  if a = A.RFE_CTRL then
    let on := fld s R.RFE_CTRL_mode ≠ 0
    let s := if on ∧ !busy old 6 then blockStart s 6 else s
    let s := if isSet old R.RFE_CTRL_txen && !isSet s R.RFE_CTRL_txen then airCutAll true s else s
    if bit w.toNat 5 then
      let s := airCutAll true s
      let s := { s with shadows := sdel s.shadows (shadowKey R.RFE_CTRL_mode) }
      let s := lower (setFld s R.RFE_CTRL_mode 0) R.RFE_STAT_rx_on
      { s with rfe := { s.rfe with listened := false, listenedBefore := false, stopAt := some (s.now + usTicks 50) } }
    else s
  else if a = A.RFE_DUTY_BKT then
    if busy old 6 then s else
    let k := bucketKey (fld s R.RFE_DUTY_SEL_band) (fld s R.RFE_DUTY_SEL_chain) (s.rfe.minute + 60 - fld s R.RFE_DUTY_SEL_bkt)
    setBucket k w.toNat s
  else s

/-- What RFE answers to a read: forced mask bits, the selected duty counter, bucket and floors. -/
def rfeRead (_o : Origin) (a : Nat) (v : Word) (s : State) : Word × State :=
  let mask (from_ : Nat) : Nat := ((List.range 32).map (fun k =>
    if chanCentre s (from_ + k) < 4700 ∨ 9600 < chanCentre s (from_ + k) then 2 ^ k else 0)).sum
  let floor (l : List (Nat × Int)) : Nat :=
    match l.find? (fun p => p.1 == fld s R.RFE_NFCH_SEL_chan) with
    | some p => unsigned 16 p.2
    | none => 0
  let b := fld s R.RFE_DUTY_SEL_band
  let c := fld s R.RFE_DUTY_SEL_chain
  if a = A.RFE_CHMASK_LO then (v ||| BitVec.ofNat 32 (mask 0), s)
  else if a = A.RFE_CHMASK_HI then (v ||| BitVec.ofNat 32 (mask 32), s)
  else if a = A.RFE_DUTY_USED then (BitVec.ofNat 32 (dutyUsed s b c), s)
  else if a = A.RFE_DUTY_BKT then (BitVec.ofNat 32 (bucket s (bucketKey b c (s.rfe.minute + 60 - fld s R.RFE_DUTY_SEL_bkt))), s)
  else if a = A.RFE_NFCH then (BitVec.ofNat 32 (floor s.rfe.floorA + 65536 * floor s.rfe.floorB), s)
  else (v, s)

/-- The stop's 50 µs end: `busy` falls (R95). -/
def radioTick (s : State) : State :=
  match s.rfe.stopAt with
  | some t => if t ≤ s.now then pllSettle (blockStop { s with rfe := { s.rfe with stopAt := none } } 6) else s
  | none => s

/-- `busy` and receive after a boundary: RFE runs while the mode in force is not 0. -/
def rfeShow (s : State) : State :=
  let s := if fld s R.RFE_CTRL_mode = 0 then (if busy s 6 ∧ s.rfe.stopAt = none then blockStop s 6 else s) else blockStart s 6
  pllSettle (setBool s R.RFE_STAT_rx_on (rxOn s s.ntb.path))

/-! ### The commands -/

/-- A chain finishes a frame (TX_FRAME_END, R101). -/
def execTxFrameEnd (c : Nat) (fwd : Int) (rl : Nat) (unlock : Bool) (s : State) : Host.Outcome State Fault Refusal :=
  .next (txEnd c fwd rl unlock s)

/-- `RFE_CTRL.stop` (RFE_STOP, R95). -/
def execRfeStop (o : Origin) (s : State) : Host.Outcome State Fault Refusal :=
  .next (coreWrite rfeWritten o A.RFE_CTRL (rwWord s A.RFE_CTRL ||| 0x20) s)

/-- `RFE_CTRL.txen` (TXEN_WRITE, R95). -/
def execTxenWrite (o : Origin) (en : Bool) (s : State) : Host.Outcome State Fault Refusal :=
  .next (coreWrite rfeWritten o A.RFE_CTRL (wordWith s R.RFE_CTRL_txen (b2n en)) s)

/-- A write of register `k` (EDGE, LIM, RSV) of band set `b` (BAND_REGISTER_WRITE, R96). -/
def execBandRegisterWrite (o : Origin) (b k : Nat) (w : Word) (s : State) : Host.Outcome State Fault Refusal :=
  .next (coreWrite rfeWritten o (A.RFE_BANDb_EDGE b + 4 * k) w s)

/-- A bucket close (DUTY_BUCKET_CLOSE, R98). -/
def execDutyBucketClose (s : State) : Host.Outcome State Fault Refusal := .next (dutyClose s)

/-- Re-admission (READMIT, R103). -/
def execReadmit (s : State) : Host.Outcome State Fault Refusal := .next (readmit s)

end Sys2Proof.Machine
end

