-- ==== Sys2Proof/Machine/Crypto.lean ====
section
/-!
DEFINITION. The ciphers the spec names by their standards (PRESUMED from those standards, log entry 6): AES (FIPS 197),
AES-CMAC (RFC 4493), the KDF of R158 and R484, CCM* (R159), CTR and GCM, key wrap (RFC 3394), SHA-256 (FIPS 180-4),
ECDSA and ECDH over P-256 (FIPS 186).
-/

namespace Sys2Proof.Machine

/-! ### AES -/

/-- The S-box, entry a in octet a of the number. -/
def sboxTable : Nat := 0x16BB54B00F2D99416842E6BF0D89A18CDF2855CEE9871E9B948ED9691198F8E19E1DC186B95735610EF6034866B53E708A8BBD4B1F74DDE8C6B4A61C2E2578BA08AE7A65EAF4566CA94ED58D6D37C8E779E4959162ACD3C25C2406490A3A32E0DB0B5EDE14B8EE4688902A22DC4F816073195D643D7EA7C41744975FEC130CCDD2F3FF1021DAB6BCF5389D928F40A351A89F3C507F02F94585334D43FBAAEFD0CF584C4A39BECB6A5BB1FC20ED00D153842FE329B3D63B52A05A6E1B1A2C830975B227EBE28012079A059618C323C7041531D871F1E5A534CCF73F362693FDB7C072A49CAFA2D4ADF04759FA7DC982CA76ABD7FE2B670130C56F6BF27B777C63

/-- The inverse S-box. -/
def invSboxTable : Nat := 0x7D0C2155631469E126D677BA7E042B17619953833CBBEBC8B0F52AAE4D3BE0A0EF9CC9939F7AE52D0D4AB519A97F51605FEC8027591012B131C7078833A8DD1FF45ACD78FEC0DB9A2079D2C64B3E56FC1BBE18AA0E62B76F89C5291D711AF1476EDF751CE837F9E28535ADE72274AC9673E6B4F0CECFF297EADC674F4111913A6B8A130103BDAFC1020F3FCA8F1E2CD00645B3B80558E4F70AD3BC8C00ABD890849D8DA75746155EDAB9EDFD5048706C92B6655DCC5CA4D41698688664F6F87225D18B6D49A25B76B224D92866A12E084EC3FA420B954CEE3D23C2A632947B54CBE9DEC444438E3487FF2F9B8239E37CFBD7F3819EA340BF38A53630D56A0952

def sbox (a : Nat) : Nat := (sboxTable >>> (8 * a)) % 256
def invSbox (a : Nat) : Nat := (invSboxTable >>> (8 * a)) % 256

/-- Multiplication by x in the field of AES. -/
def xtime (a : Nat) : Nat := if a < 128 then 2 * a else (2 * a) ^^^ 0x11B

/-- Multiplication by a constant below 16 in the field of AES. -/
def fieldMul (k a : Nat) : Nat :=
  let a2 := xtime a
  let a4 := xtime a2
  let a8 := xtime a4
  (if k % 2 = 1 then a else 0) ^^^ (if k / 2 % 2 = 1 then a2 else 0) ^^^ (if k / 4 % 2 = 1 then a4 else 0)
    ^^^ (if k / 8 % 2 = 1 then a8 else 0)

def xorList : List Nat → List Nat → List Nat
  | a :: s, b :: t => (a ^^^ b) :: xorList s t
  | _, _ => []

/-- The key schedule: `ws` holds the words made so far, newest first; `n` more follow. -/
def expandKey (nk : Nat) : Nat → Nat → Nat → List (List Nat) → List (List Nat)
  | 0, _, _, ws => ws.reverse
  | n + 1, i, rc, ws =>
    let prev := ws.headD []
    let back := ws.getD (nk - 1) []
    if i % nk = 0 then
      let r := match prev with
        | [a, b, c, d] => [sbox b ^^^ rc, sbox c, sbox d, sbox a]
        | _ => prev
      expandKey nk n (i + 1) (xtime rc) (xorList back r :: ws)
    else if nk > 6 ∧ i % nk = 4 then expandKey nk n (i + 1) rc (xorList back (prev.map sbox) :: ws)
    else expandKey nk n (i + 1) rc (xorList back prev :: ws)

/-- A list cut into groups of `k`; `n` groups at most. -/
def groupsOf {α : Type} (k : Nat) : Nat → List α → List (List α)
  | 0, _ => []
  | n + 1, l => if l.isEmpty then [] else l.take k :: groupsOf k n (l.drop k)

/-- The round keys of a key of 16 or 32 octets. -/
def roundKeys (key : List Nat) : List (List Nat) :=
  let nk := key.length / 4
  let ws := expandKey nk (4 * (nk + 7) - nk) nk 1 (groupsOf 4 nk key).reverse
  (groupsOf 4 (nk + 7) ws).map List.flatten

/-- ShiftRows and its inverse, on the 16 octets of the state. -/
def shiftRows (s : List Nat) : List Nat := (List.range 16).map (fun i => s.getD ((i + 4 * (i % 4)) % 16) 0)
def invShiftRows (s : List Nat) : List Nat := (List.range 16).map (fun i => s.getD ((i + 16 - 4 * (i % 4)) % 16) 0)

/-- A column times the circulant matrix of (a, b, c, d). -/
def mixWith (a b c d : Nat) (col : List Nat) : List Nat :=
  match col with
  | [w, x, y, z] => [fieldMul a w ^^^ fieldMul b x ^^^ fieldMul c y ^^^ fieldMul d z,
      fieldMul d w ^^^ fieldMul a x ^^^ fieldMul b y ^^^ fieldMul c z,
      fieldMul c w ^^^ fieldMul d x ^^^ fieldMul a y ^^^ fieldMul b z,
      fieldMul b w ^^^ fieldMul c x ^^^ fieldMul d y ^^^ fieldMul a z]
  | _ => col

def mixColumns (s : List Nat) : List Nat := (groupsOf 4 4 s).flatMap (mixWith 2 3 1 1)
def invMixColumns (s : List Nat) : List Nat := (groupsOf 4 4 s).flatMap (mixWith 14 11 13 9)

def aesRounds : List (List Nat) → List Nat → List Nat
  | [], s => s
  | [k], s => xorList (shiftRows (s.map sbox)) k
  | k :: ks, s => aesRounds ks (xorList (mixColumns (shiftRows (s.map sbox))) k)

/-- AES on one block of 16 octets. -/
def aesBlock (key block : List Nat) : List Nat :=
  match roundKeys key with
  | [] => block
  | k :: ks => aesRounds ks (xorList block k)

def aesInvRounds : List (List Nat) → List Nat → List Nat
  | [], s => s
  | [k], s => xorList ((invShiftRows s).map invSbox) k
  | k :: ks, s => aesInvRounds ks (invMixColumns (xorList ((invShiftRows s).map invSbox) k))

/-- The inverse cipher. -/
def aesInvBlock (key block : List Nat) : List Nat :=
  match (roundKeys key).reverse with
  | [] => block
  | k :: ks => aesInvRounds ks (xorList block k)

def toNats (b : List Byte) : List Nat := b.map BitVec.toNat
def toBytes (n : List Nat) : List Byte := n.map (BitVec.ofNat 8)

/-- AES on octets. -/
def aes (key block : List Byte) : List Byte := toBytes (aesBlock (toNats key) (toNats (padTo 16 block)))
def aesInv (key block : List Byte) : List Byte := toBytes (aesInvBlock (toNats key) (toNats (padTo 16 block)))

def xorBytes (a b : List Byte) : List Byte := List.zipWith (· ^^^ ·) a b

/-- A list in blocks of 16 octets. -/
def blocks16 (b : List Byte) : List (List Byte) := groupsOf 16 (b.length / 16 + 1) b

/-! ### CMAC and the KDF -/

/-- Doubling in the field of CMAC. -/
def cmacDouble (b : List Byte) : List Byte :=
  let v := 2 * beNat b
  beBytes 16 (if v < 2 ^ 128 then v else (v - 2 ^ 128) ^^^ 0x87)

/-- The chain of CBC-MAC from `x` over blocks. -/
def cbcMac (key : List Byte) (x : List Byte) (bs : List (List Byte)) : List Byte :=
  bs.foldl (fun x b => aes key (xorBytes x b)) x

/-- AES-CMAC (RFC 4493), with AES-128 or AES-256 by the key's length. -/
def cmac (key msg : List Byte) : List Byte :=
  let k1 := cmacDouble (aes key (List.replicate 16 0))
  let bs := blocks16 msg
  let last := bs.getLastD []
  let fin := if last.length = 16 then xorBytes last k1
    else xorBytes (last ++ 0x80 :: List.replicate (15 - last.length) 0) (cmacDouble k1)
  cbcMac key (List.replicate 16 0) (bs.dropLast ++ [fin])

/-- KDF(K, label, context, L) of R158 and R484. -/
def kdf (key label context : List Byte) (bitsOut : Nat) : List Byte :=
  (List.range (bitsOut / 128)).flatMap (fun i =>
    cmac key (BitVec.ofNat 8 (i + 1) :: label ++ [0] ++ context ++ beBytes 2 bitsOut))

/-- ASCII octets of a label. -/
def ascii (t : String) : List Byte := t.toList.map (fun c => BitVec.ofNat 8 c.toNat)

/-! ### CTR, CCM*, GCM -/

/-- The key stream blocks of CTR from a 16-octet counter block: the last `w` octets count. -/
def ctrStream (key ctr : List Byte) (w n : Nat) : List Byte :=
  (List.range n).flatMap (fun i =>
    aes key (ctr.take (16 - w) ++ beBytes w ((beNat (ctr.drop (16 - w)) + i) % 256 ^ w)))

/-- AES-CTR with a 16-octet counter block. -/
def aesCtr (key ctr data : List Byte) : List Byte := xorBytes data (ctrStream key (padTo 16 ctr) 16 ((data.length + 15) / 16))

def pad16 (b : List Byte) : List Byte := b ++ List.replicate ((16 - b.length % 16) % 16) 0

/-- The CBC-MAC of CCM* with M = 8 and L = 2: 13-octet nonce, associated data, message. -/
def ccmMac (key nonce a m : List Byte) : List Byte :=
  let flags := (if a.isEmpty then 0 else 0x40) + 8 * 3 + 1
  let b0 := BitVec.ofNat 8 flags :: nonce ++ beBytes 2 m.length
  let ad := if a.isEmpty then [] else pad16 (beBytes 2 a.length ++ a)
  (cbcMac key (List.replicate 16 0) (blocks16 (b0 ++ ad ++ pad16 m))).take 8

/-- The counter block of CCM*. -/
def ccmCounter (nonce : List Byte) (i : Nat) : List Byte := 0x01 :: nonce ++ beBytes 2 i

def ccmMask (key nonce : List Byte) : List Byte := (aes key (ccmCounter nonce 0)).take 8

def ccmCrypt (key nonce data : List Byte) : List Byte :=
  xorBytes data (ctrStream key (ccmCounter nonce 1) 2 ((data.length + 15) / 16))

/-- CCM* sealing: the octets sent and the 8-octet integrity code; `enc` is level 6, else level 2 (R159). -/
def ccmSeal (enc : Bool) (key nonce a m : List Byte) : List Byte × List Byte :=
  if enc then (ccmCrypt key nonce m, xorBytes (ccmMac key nonce a m) (ccmMask key nonce))
  else (m, xorBytes (ccmMac key nonce (a ++ m) []) (ccmMask key nonce))

/-- CCM* opening: the message where the integrity code verifies. -/
def ccmOpen (enc : Bool) (key nonce a c mic : List Byte) : Option (List Byte) :=
  let m := if enc then ccmCrypt key nonce c else c
  if (ccmSeal enc key nonce a m).2 = mic then some m else none

/-- Multiplication in the field of GCM, bit 127 of a number being the first. -/
def ghashMul : Nat → Nat → Nat → Nat → Nat
  | 0, _, _, z => z
  | n + 1, x, v, z =>
    ghashMul n (2 * x) (if v % 2 = 1 then (v / 2) ^^^ (0xE1 * 2 ^ 120) else v / 2)
      (if x / 2 ^ 127 % 2 = 1 then z ^^^ v else z)

/-- The GCM tag of a ciphertext without additional data. -/
def gcmTag (key iv c : List Byte) : List Byte :=
  let h := beNat (aes key (List.replicate 16 0))
  let bs := blocks16 (pad16 c) ++ [beBytes 8 0 ++ beBytes 8 (8 * c.length)]
  let y := bs.foldl (fun y b => ghashMul 128 (y ^^^ beNat b) h 0) 0
  xorBytes (beBytes 16 y) (aes key (iv ++ [0, 0, 0, 1]))

def gcmCrypt (key iv data : List Byte) : List Byte :=
  xorBytes data (ctrStream key (iv ++ [0, 0, 0, 2]) 4 ((data.length + 15) / 16))

/-! ### Key wrap (RFC 3394) -/

def wrapIv : List Byte := List.replicate 8 0xA6

/-- One pass of wrapping over the registers `r`, from step `t`: the new `a` and registers. -/
def wrapPass (kek : List Byte) : List (List Byte) → List Byte → Nat → List Byte × List (List Byte)
  | [], a, _ => (a, [])
  | r :: rs, a, t =>
    let b := aes kek (a ++ r)
    let (a', rs') := wrapPass kek rs (xorBytes (b.take 8) (beBytes 8 t)) (t + 1)
    (a', b.drop 8 :: rs')

def wrapPasses (kek : List Byte) : Nat → Nat → List Byte → List (List Byte) → List Byte
  | 0, _, a, r => a ++ r.flatten
  | n + 1, t, a, r => let (a, r') := wrapPass kek r a t; wrapPasses kek n (t + r.length) a r'

/-- The key `k` wrapped under `kek`. -/
def keyWrap (kek k : List Byte) : List Byte := wrapPasses kek 6 1 wrapIv (groupsOf 8 (k.length / 8) k)

/-- One pass of unwrapping, over the registers from the last to the first, step `t` counting down. -/
def unwrapPass (kek : List Byte) : List (List Byte) → List Byte → Nat → List Byte × List (List Byte)
  | [], a, _ => (a, [])
  | r :: rs, a, t =>
    let b := aesInv kek (xorBytes a (beBytes 8 t) ++ r)
    let (a', rs') := unwrapPass kek rs (b.take 8) (t - 1)
    (a', b.drop 8 :: rs')

def unwrapPasses (kek : List Byte) : Nat → Nat → List Byte → List (List Byte) → Option (List Byte)
  | 0, _, a, r => if a = wrapIv then some r.reverse.flatten else none
  | n + 1, t, a, r => let (a, r') := unwrapPass kek r a t; unwrapPasses kek n (t - r.length) a r'

/-- The key in `w`, where the check of RFC 3394 verifies. -/
def keyUnwrap (kek w : List Byte) : Option (List Byte) :=
  if w.length < 24 ∨ w.length % 8 ≠ 0 then none else
  let r := groupsOf 8 (w.length / 8) (w.drop 8)
  unwrapPasses kek 6 (6 * r.length) (w.take 8) r.reverse

/-! ### SHA-256 -/

def shaK : List Nat := [
  0x428A2F98, 0x71374491, 0xB5C0FBCF, 0xE9B5DBA5, 0x3956C25B, 0x59F111F1, 0x923F82A4, 0xAB1C5ED5,
  0xD807AA98, 0x12835B01, 0x243185BE, 0x550C7DC3, 0x72BE5D74, 0x80DEB1FE, 0x9BDC06A7, 0xC19BF174,
  0xE49B69C1, 0xEFBE4786, 0x0FC19DC6, 0x240CA1CC, 0x2DE92C6F, 0x4A7484AA, 0x5CB0A9DC, 0x76F988DA,
  0x983E5152, 0xA831C66D, 0xB00327C8, 0xBF597FC7, 0xC6E00BF3, 0xD5A79147, 0x06CA6351, 0x14292967,
  0x27B70A85, 0x2E1B2138, 0x4D2C6DFC, 0x53380D13, 0x650A7354, 0x766A0ABB, 0x81C2C92E, 0x92722C85,
  0xA2BFE8A1, 0xA81A664B, 0xC24B8B70, 0xC76C51A3, 0xD192E819, 0xD6990624, 0xF40E3585, 0x106AA070,
  0x19A4C116, 0x1E376C08, 0x2748774C, 0x34B0BCB5, 0x391C0CB3, 0x4ED8AA4A, 0x5B9CCA4F, 0x682E6FF3,
  0x748F82EE, 0x78A5636F, 0x84C87814, 0x8CC70208, 0x90BEFFFA, 0xA4506CEB, 0xBEF9A3F7, 0xC67178F2]

def shaH0 : List Nat := [
  0x6A09E667, 0xBB67AE85, 0x3C6EF372, 0xA54FF53A, 0x510E527F, 0x9B05688C, 0x1F83D9AB, 0x5BE0CD19]

def rotr (n x : Nat) : Nat := x / 2 ^ n + x % 2 ^ n * 2 ^ (32 - n)

/-- The message schedule: `ws` newest first; `n` more words follow. -/
def shaSchedule : Nat → List Nat → List Nat
  | 0, ws => ws.reverse
  | n + 1, ws =>
    let w (i : Nat) : Nat := ws.getD (i - 1) 0
    let s0 := rotr 7 (w 15) ^^^ rotr 18 (w 15) ^^^ (w 15 / 8)
    let s1 := rotr 17 (w 2) ^^^ rotr 19 (w 2) ^^^ (w 2 / 1024)
    shaSchedule n ((w 16 + s0 + w 7 + s1) % 2 ^ 32 :: ws)

/-- One round of the compression function on (a … h). -/
def shaRound (v : List Nat) (kw : Nat) : List Nat :=
  match v with
  | [a, b, c, d, e, f, g, h] =>
    let s1 := rotr 6 e ^^^ rotr 11 e ^^^ rotr 25 e
    let ch := (e &&& f) ^^^ ((0xFFFFFFFF - e) &&& g)
    let t1 := h + s1 + ch + kw
    let s0 := rotr 2 a ^^^ rotr 13 a ^^^ rotr 22 a
    let mj := (a &&& b) ^^^ (a &&& c) ^^^ (b &&& c)
    [(t1 + s0 + mj) % 2 ^ 32, a, b, c, (d + t1) % 2 ^ 32, e, f, g]
  | _ => v

def shaBlock (h : List Nat) (b : List Byte) : List Nat :=
  let ws := shaSchedule 48 ((groupsOf 4 16 b).map beNat).reverse
  List.zipWith (fun x y => (x + y) % 2 ^ 32) h ((List.zipWith (· + ·) shaK ws).foldl shaRound h)

/-- SHA-256. -/
def sha256 (msg : List Byte) : List Byte :=
  let z := (119 - msg.length % 64) % 64
  let m := msg ++ 0x80 :: List.replicate z 0 ++ beBytes 8 (8 * msg.length)
  ((groupsOf 64 (m.length / 64) m).foldl shaBlock shaH0).flatMap (beBytes 4)

/-! ### P-256 -/

def p256P : Nat := 0xFFFFFFFF00000001000000000000000000000000FFFFFFFFFFFFFFFFFFFFFFFF
def p256N : Nat := 0xFFFFFFFF00000000FFFFFFFFFFFFFFFFBCE6FAADA7179E84F3B9CAC2FC632551
def p256B : Nat := 0x5AC635D8AA3A93E7B3EBBD55769886BC651D06B0CC53B0F63BCE3C3E27D2604B
def p256Gx : Nat := 0x6B17D1F2E12C4247F8BCE6E563A440F277037D812DEB33A0F4A13945D898C296
def p256Gy : Nat := 0x4FE342E2FE1A7F9B8EE7EB4A7C0F9E162BCE33576B315ECECBB6406837BF51F5

/-- b to the power of the lowest `n` bits of e, modulo m. -/
def powMod (m : Nat) : Nat → Nat → Nat → Nat
  | 0, _, _ => 1 % m
  | n + 1, b, e => let r := powMod m n (b * b % m) (e / 2); if e % 2 = 1 then r * b % m else r

/-- The inverse modulo a prime of 256 bits. -/
def invMod (m a : Nat) : Nat := powMod m 256 (a % m) (m - 2)

/-- Subtraction modulo p. -/
def subP (a b : Nat) : Nat := (a + p256P - b % p256P) % p256P

/-- The sum of two points; none is the point at infinity. -/
def ecAdd (a b : Option (Nat × Nat)) : Option (Nat × Nat) :=
  match a, b with
  | none, _ => b
  | _, none => a
  | some (x1, y1), some (x2, y2) =>
    if x1 = x2 ∧ (y1 + y2) % p256P = 0 then none else
    let l := if x1 = x2 then (3 * x1 * x1 + p256P - 3) * invMod p256P (2 * y1) % p256P
      else subP y2 y1 * invMod p256P (subP x2 x1) % p256P
    let x := subP (l * l) (x1 + x2)
    some (x, subP (l * subP x1 x) y1)

/-- k times a point, over the lowest `n` bits of k. -/
def ecMul : Nat → Nat → Option (Nat × Nat) → Option (Nat × Nat)
  | 0, _, _ => none
  | n + 1, k, p => let q := ecMul n (k / 2) (ecAdd p p); if k % 2 = 1 then ecAdd p q else q

def ecBase : Option (Nat × Nat) := some (p256Gx, p256Gy)

/-- The point in X ‖ Y, where it lies on the curve. -/
def ecPoint (b : List Byte) : Option (Nat × Nat) :=
  let x := beNat (octets b 0 32)
  let y := beNat (octets b 32 32)
  if x < p256P ∧ y < p256P ∧ y * y % p256P = (x * x * x + p256P * 3 - 3 * x + p256B) % p256P then some (x, y) else none

def ecBytes : Option (Nat × Nat) → List Byte
  | some (x, y) => beBytes 32 x ++ beBytes 32 y
  | none => List.replicate 64 0

/-- ECDSA P-256 verification of r ‖ s over a digest under the public key X ‖ Y. -/
def ecdsaVerify (pub digest sig : List Byte) : Bool :=
  let r := beNat (octets sig 0 32)
  let t := beNat (octets sig 32 32)
  match ecPoint pub with
  | none => false
  | some q =>
    if r = 0 ∨ t = 0 ∨ p256N ≤ r ∨ p256N ≤ t then false else
    let w := invMod p256N t
    let e := beNat (octets digest 0 32)
    match ecAdd (ecMul 256 (e * w % p256N) ecBase) (ecMul 256 (r * w % p256N) (some q)) with
    | none => false
    | some (x, _) => x % p256N == r

/-- ECDSA P-256 signature r ‖ s of a digest with private key d and nonce k. -/
def ecdsaSign (d k : Nat) (digest : List Byte) : List Byte :=
  match ecMul 256 k ecBase with
  | none => List.replicate 64 0
  | some (x, _) =>
    let r := x % p256N
    let e := beNat (octets digest 0 32)
    beBytes 32 r ++ beBytes 32 (invMod p256N k * ((e + r * d) % p256N) % p256N)

end Sys2Proof.Machine
end

