-- ==== Sys2Proof/Machine/Vault.lean ====
section
/-!
DEFINITION. The key vault (chapter 19): the root key, the slots and what descends from them, the cipher contexts, the link
key cache, the command engine, key update messages, zeroize.
-/

namespace Sys2Proof.Machine

/-! ### Roots, slots (R484-R487) -/

/-- The unit identity: the four words of SYS_UID, each little-endian (R484). -/
def unitId : List Byte := (List.range 4).flatMap (fun k => leBytes 4 (Config.uid k).toNat)

/-- RK of enrolment `k` (R484). -/
def rootKey (k : Nat) : List Byte :=
  kdf (leBytes 32 (Config.pufSecret k).toNat) (ascii "XN-RK") (leBytes 32 (Config.pufMask k).toNat) 256

/-- JTK of enrolment `k` (R487). -/
def joinTableKey (k : Nat) : List Byte := kdf (rootKey k) (ascii "XN-JTK") unitId 256

/-- SKEK of enrolment `k` (R487). -/
def storageKey (k : Nat) : List Byte := kdf (rootKey k) (ascii "XN-SKEK") unitId 256

/-- The device key of enrolment `k`, d of R487. -/
def deviceKey (k : Nat) : Nat :=
  let d (i : Nat) : Nat := beNat (kdf (rootKey k) (ascii "XN-DEV") (unitId ++ leBytes 1 i) 256)
  match (List.range 256).find? (fun i => 1 ≤ d i && d i < p256N) with
  | some i => d i
  | none => 0

/-- Slot `n` as the slot store holds it. -/
def slotStore (s : State) (n : Nat) : Slot := sget (fun _ => ({} : Slot)) s.nv.slots n

def setSlot (n : Nat) (v : Slot) (s : State) : State :=
  { s with nv := { s.nv with slots := sput (fun _ => ({} : Slot)) s.nv.slots n v } }

/-- Changes a slot's content; its generation rises by 1 (R490). -/
def changeSlot (n kind usage : Nat) (key : List Byte) (s : State) : State :=
  setSlot n { kind, usage, key, gen := ((slotStore s n).gen + 1) % 65536 } s

/-- Slot `n` as an operation finds it: derived, from the boot ROM, or stored; a stored or derived slot needs RK (R486, R509). -/
def slotView (s : State) (n : Nat) : Slot :=
  let g := (slotStore s n).gen
  if n = 8 then { kind := 3, usage := 16, gen := g, key := beBytes 64 (Config.anchor 0).toNat }
  else if n = 9 then { kind := 3, usage := 16, gen := g, key := beBytes 64 (Config.anchor 1).toNat }
  else match s.vault.rk with
    | none => { gen := g }
    | some k =>
      if n = 0 then { kind := 4, usage := 0, gen := g, key := beBytes 32 (deviceKey k) }
      else if n = 1 then { kind := 2, usage := 4, gen := g, key := storageKey k }
      else if n = 4 then { kind := 2, usage := 4, gen := g, key := joinTableKey k }
      else slotStore s n

/-- The content of slot `n`, none where it is empty. -/
def slotKey (s : State) (n : Nat) : Option (List Byte) :=
  let v := slotView s n
  if v.kind = 0 then none else some v.key

/-- The segment and member as the derivations take them (R487). -/
def segmentId (s : State) : List Byte := leBytes 2 (odForceNat s 9 1 0) ++ leBytes 1 (fld s R.TKN_CFG_member)

/-- SK_e from a segment master key (R487). -/
def epochKey (s : State) (smk : List Byte) (e : Nat) : List Byte :=
  kdf smk (ascii "XN-SK") (segmentId s ++ leBytes 1 e) 128

/-- HK from slot 2's key (R487). -/
def hopKeyOf (s : State) (smk : List Byte) : List Byte := kdf smk (ascii "XN-HOP") (segmentId s) 128

/-- The link key of R158. -/
def linkKey (joinKey eui nnonce mnonce : List Byte) : List Byte :=
  kdf joinKey (ascii "XN-LK") (eui ++ nnonce ++ mnonce) 128

/-- Entry `j` of the hop table computed under key `hk` (R110). -/
def hopEntry (hk : List Byte) (j : Nat) : Nat :=
  natAt (toNats (aes hk (leBytes 4 (j / 16)))) (j % 16) % 64

/-- `TTE_STAT.keys`: the hop table is loaded and contexts 0 and 2 are enabled (R488). -/
def showKeys (s : State) : State :=
  setBool s R.TTE_STAT_keys (s.vault.hop.isSome && isSet s (R.KVT_CTXc_CFG_en 0) && isSet s (R.KVT_CTXc_CFG_en 2))

/-! ### Regeneration and zeroize (R485, R509) -/

/-- Whether a tamper input is latched in the backup domain. -/
def tamperLatched (s : State) : Bool := fld s R.BKD_TMPIN_lat != 0

/-- Regeneration (R485). `rebuilt` says whether the code could rebuild S from the pattern. -/
def regenerate (rebuilt : Bool) (s : State) : State :=
  let done (vs cause : Nat) (s : State) : State := setFld (setFld s R.KVT_STAT_vstate vs) R.KVT_STAT_cause cause
  match s.nv.helper with
  | none => postFnd 0x08 0x01 [2, 0] (done 2 0 { s with vault := { s.vault with rk := none } })
  | some k =>
    if rebuilt ∧ s.bkd.mask = some k then done 0 0 { s with vault := { s.vault with rk := some k } }
    else
      let c := if tamperLatched s then 1 else 2
      postFnd 0x08 0x01 [1, BitVec.ofNat 8 c] (done 1 c { s with vault := { s.vault with rk := none } })

/-- Ends the running command: its result octet, the registers and the flags (R500). -/
def jobEnd (res sub : Nat) (s : State) : State :=
  match s.vault.job with
  | none => s
  | some j =>
    let s := { s with vault := { s.vault with job := none } }
    let s := if inOneRam j.addr 32 then setByte s (j.addr + 3) (BitVec.ofNat 8 res) else s
    let s := setFld (setFld s R.KVT_CMD_RES_res res) R.KVT_CMD_RES_sub sub
    let s := raise (lower s R.KVT_STAT_cmd_busy) R.KVT_IFLG_done
    if res = 0 then s else raise s R.KVT_IFLG_err

/-- What every zeroize clears (R509); a UPD job ends (R552). -/
def clearKeys (s : State) : State :=
  let s := jobEnd 7 0 s
  let s := { s with upd := { s.upd with job := s.upd.job.map (fun (j : UpdJob) => { j with aborted := true }) } }
  let s := { s with vault := { s.vault with rk := none, ctx0 := none, ctx1 := none, cache := [], sha := [], hop := none,
                                            parts := {}, zeroed := true } }
  let s := upTo 3 (fun c s => lower s (R.KVT_CTXc_CFG_en c)) s
  lower (lower s R.KVT_STAT_hop) R.TTE_STAT_keys

/-- Zeroize by cause: 1 tamper with its inputs, 2 `zeroize`, 3 `wipe` (R509, R510). -/
def zeroize (cause tmp : Nat) (s : State) : State :=
  let s := clearKeys s
  let s := if cause = 2 then s else { s with bkd := { s.bkd with mask := none } }
  let s := setFld s R.KVT_STAT_vstate (if cause = 2 then 3 else 1)
  let s := setFld s R.KVT_STAT_cause (if cause = 2 then 0 else cause)
  let s := setFld (setFld s R.KVT_ZLOG_cause cause) R.KVT_ZLOG_tmp tmp
  postFnd 0x08 0x02 (leBytes 1 (cause + 16 * (tmp % 16))) (raise s R.KVT_IFLG_zero)

/-! ### The hop table (R488) -/

/-- `hopload`. -/
def hopload (s : State) : State :=
  let loaded (hk : List Byte) (s : State) : State :=
    showKeys (raise { s with vault := { s.vault with hop := some hk } } R.KVT_STAT_hop)
  if fld s R.KVT_STAT_vstate ≠ 0 then cfgErr s 8
  else match slotKey s 7, slotKey s 2 with
    | some hk, _ => loaded hk s
    | none, some smk => let hk := hopKeyOf s smk; loaded hk (changeSlot 7 1 8 hk s)
    | none, none => cfgErr s 8

/-! ### Cipher contexts (R490, R496-R498) -/

def ctxKey (s : State) (c : Nat) : Option CtxKey := if c = 0 then s.vault.ctx0 else if c = 1 then s.vault.ctx1 else none

def setCtxKey (c : Nat) (k : Option CtxKey) (s : State) : State :=
  if c = 0 then { s with vault := { s.vault with ctx0 := k } }
  else if c = 1 then { s with vault := { s.vault with ctx1 := k } } else s

/-- A use refused for a stale generation of slot `n` (R490). -/
def staleUse (n : Nat) (s : State) : State :=
  post 0x08 0x03 (leBytes 1 n) (bump (raise s R.KVT_IFLG_gen) R.KVT_CNT_genref 1)

/-- `KVT_CTXc_CFG.load` (R496). -/
def contextLoad (c : Nat) (s : State) : State :=
  let n := if isSet s (R.KVT_CTXc_CFG_src c) then 3 else 2
  if 2 ≤ c ∨ fld s R.KVT_STAT_vstate ≠ 0 then cfgErr s 8
  else match slotKey s n with
    | none => cfgErr s 8
    | some smk =>
      let g := (slotView s n).gen
      setFld (setCtxKey c (some ⟨n, g, epochKey s smk (fld s (R.KVT_CTXc_CFG_epoch c))⟩) s) (R.KVT_CTXc_CFG_pgen c) g

/-- The key that context `c` gives now: none where it is disabled, holds none, or is stale, which is recorded (R490, R496). -/
def ctxUse (c : Nat) (s : State) : Option (List Byte) × State :=
  if ¬ (isSet s R.KVT_CTRL_run ∧ isSet s (R.KVT_CTXc_CFG_en c)) then (none, s)
  else match ctxKey s c with
    | none => (none, s)
    | some k => if (slotView s k.slot).gen = k.gen then (some k.key, s) else (none, staleUse k.slot s)

/-- The context in force (R496). -/
def ctxInForce (s : State) : Nat := fld s R.KVT_EP_sel

/-- The context that a received segment-key frame of parity `ep` is checked under (R496). -/
def ctxForParity (s : State) (ep : Nat) : Option Nat :=
  let f := ctxInForce s
  let fits (c : Nat) : Bool := isSet s (R.KVT_CTXc_CFG_en c) && fld s (R.KVT_CTXc_CFG_epoch c) % 2 == ep
  if fits f then some f else if fits (1 - f) then some (1 - f) else none

/-- The next counter of context `c`, or none where it refuses to secure (R497). -/
def nextCounter (c : Nat) (s : State) : Option Nat × State :=
  let n := fld s (R.KVT_CTXc_CTR_ctr c)
  let ceil := fld s (R.KVT_CTXc_CEIL_ceil c)
  if ¬ (isSet s R.KVT_CTRL_run ∧ isSet s (R.KVT_CTXc_CFG_en c)) then (none, s)
  else if ceil ≤ n ∨ 0xFFFFFFFE ≤ n then (none, bump s R.KVT_CNT_ceilref 1)
  else
    let s := setFld s (R.KVT_CTXc_CTR_ctr c) (n + 1)
    (some n, if n + 1 + 1024 = ceil then raise s R.KVT_IFLG_ceil else s)

/-- A new token comes into force: counters at 1, ceilings from NCEIL (R498). -/
def tokenCounters (s : State) : State :=
  upTo 3 (fun c s =>
    if isSet s (R.KVT_CTXc_CFG_en c) then
      setFld (setFld s (R.KVT_CTXc_CTR_ctr c) 1) (R.KVT_CTXc_CEIL_ceil c) (fld s (R.KVT_CTXc_NCEIL_ceil c))
    else s) s

/-- The resident firmware raises the ceiling of every context that has come within 1,024 of it (R497). -/
def ceilingRaise (s : State) : State :=
  if !isSet s R.KVT_IFLG_ceil then s else
  let s := lower s R.KVT_IFLG_ceil
  upTo 3 (fun c s =>
    let ceil := fld s (R.KVT_CTXc_CEIL_ceil c)
    if isSet s (R.KVT_CTXc_CFG_en c) && ceil ≤ fld s (R.KVT_CTXc_CTR_ctr c) + 1024 then
      let n := min (ceil + 4096) 0xFFFFFFFF
      setFld { s with nv := { s.nv with ceil := sput (fun _ => 0) s.nv.ceil c n } } (R.KVT_CTXc_CEIL_ceil c) n
    else s) s

/-! ### Join keys and link keys (R491-R494) -/

/-- Entry `i` of the join table. -/
def joinEntry (s : State) (i : Nat) : List Byte := memBytes s (32 * fld s R.KVT_JT_addr + 32 * i) 32

/-- The EUI-64s of the join table as numbers, in the table's order. -/
def joinEuis (s : State) : List Nat :=
  (List.range (fld s R.KVT_JT_N_n)).map (fun i => beNat ((joinEntry s i).take 8))

/-- The join key of a node, unwrapped under JTK (R491). A table that is not sorted gives a free value. -/
def joinKey (eui : List Byte) (s : State) : Option (List Byte) × State :=
  match s.vault.rk with
  | none => (none, s)
  | some k =>
    let l := joinEuis s
    if ¬ l.Pairwise (· < ·) then let (v, s) := takeFree 128 s; (some (leBytes 16 v), s)
    else match l.findIdx? (· == beNat eui) with
      | none => (none, s)
      | some i => (keyUnwrap (joinTableKey k) (((joinEntry s i).drop 8).take 24), s)

/-- Entry `a` of the link input table: EUI-64, `nnonce`, `mnonce`, valid (R492). -/
def linkInput (s : State) (a : Nat) : List Byte := memBytes s (0x40000 * fld s R.KVT_LI_addr + 32 * a) 32
def linkValid (e : List Byte) : Bool := bit (leAt e 24 4) 0

/-- The link key of node `a`, from the cache or derived (R493). -/
def linkKeyUse (a : Nat) (s : State) : Option (List Byte) × State :=
  if !isSet s R.KVT_CTRL_run || s.vault.rk.isNone then (none, s)
  else match s.vault.cache.find? (fun e => e.1 == a) with
    | some e => (some e.2, { s with vault := { s.vault with cache := e :: s.vault.cache.filter (fun e => e.1 != a) } })
    | none =>
      let s := bump s R.KVT_CNT_miss 1
      let e := linkInput s a
      if !linkValid e then (none, s)
      else match joinKey (e.take 8) s with
        | (none, s) => (none, s)
        | (some jk, s) =>
          let lk := linkKey jk (e.take 8) (octets e 8 8) (octets e 16 8)
          (some lk, { s with vault := { s.vault with cache := ((a, lk) :: s.vault.cache).take 256 } })

/-- Removes node `a`'s cached link key (R494). -/
def cacheFlush (a : Nat) (s : State) : State :=
  { s with vault := { s.vault with cache := s.vault.cache.filter (fun e => e.1 != a) } }

def flushAll (s : State) : State := { s with vault := { s.vault with cache := [] } }

/-! ### Commands (R499, R500) -/

/-- Whether `n` octets at `a` lie in SRAM or DRAM. -/
def operandOk (a n : Nat) : Bool := n == 0 || inOneRam a n

/-- Whether every operand of a command lies in SRAM or DRAM and its `len` is in range. -/
def operandsOk (j : KvtJob) : Bool :=
  let src := operandOk j.src
  let dst := operandOk j.dst
  let aux := operandOk j.aux
  match j.op with
  | 0x01 => src j.len && dst j.len && aux 16
  | 0x02 => src j.len && dst j.len && aux 12 && operandOk j.aux2 16
  | 0x03 => src j.len && dst j.len && aux 12 && operandOk j.aux2 16
  | 0x04 => src j.len && dst 16
  | 0x05 => (j.len == 16 || j.len == 32) && src j.len && dst (j.len + 8)
  | 0x07 => src j.len && dst 32
  | 0x08 => src 32 && aux 64
  | 0x09 => src 32 && dst 64
  | 0x0A => src 64 && dst 64 && aux 32
  | 0x0B => dst j.len
  | 0x0C => src j.len
  | _ => true

/-- The result with which a command ends at once, if any: operands, root key and health, the slot (R500). -/
def startResult (s : State) (j : KvtJob) : Option Nat :=
  let v := slotView s j.slot
  let bySlot (ok : Bool) : Option Nat :=
    if j.slot = 1 then some 1
    else if s.vault.rk.isNone ∧ j.slot ≠ 8 ∧ j.slot ≠ 9 then some 6
    else if v.kind = 0 then some 2
    else if ok then none else some 1
  let aesSlot (u : Nat) : Bool := (v.kind == 1 || v.kind == 2) && bit v.usage u
  if !operandsOk j then some 5
  else match j.op with
    | 0x01 => bySlot (aesSlot 0)
    | 0x02 => bySlot (aesSlot 0)
    | 0x03 => bySlot (aesSlot 0)
    | 0x04 => bySlot (aesSlot 1)
    | 0x05 => bySlot (aesSlot 2)
    | 0x07 => none
    | 0x08 => bySlot (v.kind == 3 && bit v.usage 4)
    | 0x09 => if s.vault.unhealthy then some 6 else bySlot (j.slot == 0)
    | 0x0A => if s.vault.unhealthy then some 6 else none
    | 0x0B => if s.vault.unhealthy then some 6 else none
    | 0x0C => if s.vault.unhealthy then some 6 else none
    | _ => none

/-- The operations the table of R499 gives. -/
def knownOp (op : Nat) : Bool := [1, 2, 3, 4, 5, 7, 8, 9, 0x0A, 0x0B, 0x0C].contains op

/-- A write of `go` starts the command that the descriptor names (R500). An operation the table does not give ends with a
free result other than 0. -/
def commandGo (s : State) : State :=
  if isSet s R.KVT_STAT_cmd_busy || !isSet s R.KVT_CTRL_run then cfgErr s 8 else
  let a := 32 * fld s R.KVT_CMD_ADDR_addr
  let d := memBytes s a 32
  let j : KvtJob := {
    addr := a, op := leAt d 0 1, slot := leAt d 1 1, flags := leAt d 2 1, len := leAt d 4 4, src := leAt d 8 4
    dst := leAt d 12 4, aux := leAt d 16 4, aux2 := leAt d 20 4,
    gen := (slotStore s (leAt d 1 1)).gen, key := (slotView s (leAt d 1 1)).key }
  let s := raise s R.KVT_STAT_cmd_busy
  if !inOneRam a 32 then { s with vault := { s.vault with job := some { j with result := some (5, 0) } } }
  else if knownOp j.op then
    { s with vault := { s.vault with job := some { j with result := (startResult s j).map (fun r => (r, 0)) } } }
  else
    let (f, s) := takeFree 4 s
    { s with vault := { s.vault with job := some { j with result := some (1 + f % 15, 0) } } }

/-- Sets the result of the running command; `KVT_COMMAND_DONE` publishes it. -/
def jobResult (res sub : Nat) (s : State) : State :=
  match s.vault.job with
  | none => s
  | some j => { s with vault := { s.vault with job := some { j with result := some (res, sub) } } }

/-- The running command of operation `op` that has not ended. -/
def jobOf (s : State) (op : Nat) : Option KvtJob :=
  match s.vault.job with
  | some j => if j.op = op ∧ j.result.isNone then some j else none
  | none => none

/-- Whether the slot of a command has changed since it started, with chunks still to come (R490). -/
def jobStale (s : State) (j : KvtJob) : Bool := (slotStore s j.slot).gen != j.gen && 4096 < j.len

/-- The output of an AES stream command over all of its octets. -/
def streamOut (s : State) (j : KvtJob) : List Byte :=
  let data := memBytes s j.src j.len
  if j.op = 0x01 then aesCtr j.key (memBytes s j.aux 16) data else gcmCrypt j.key (memBytes s j.aux 12) data

/-- Ends a command that finds its slot stale after the first chunk: the output beyond it is zeroed, result 3 (R490). -/
def staleEnd (j : KvtJob) (out : List Byte) (s : State) : State :=
  jobResult 3 0 (staleUse j.slot (setBytes s j.dst (out.take 4096 ++ List.replicate (out.length - 4096) 0)))

/-- AES-CTR (op 0x01). -/
def runAesCtr (s : State) : State :=
  match jobOf s 0x01 with
  | none => s
  | some j =>
    let out := streamOut s j
    if jobStale s j then staleEnd j out s else jobResult 0 0 (setBytes s j.dst out)

/-- AES-GCM encrypt (op 0x02). -/
def runGcmEncrypt (s : State) : State :=
  match jobOf s 0x02 with
  | none => s
  | some j =>
    let out := streamOut s j
    if jobStale s j then staleEnd j out s
    else jobResult 0 0 (setBytes (setBytes s j.dst out) j.aux2 (gcmTag j.key (memBytes s j.aux 12) out))

/-- AES-GCM decrypt (op 0x03). -/
def runGcmDecrypt (s : State) : State :=
  match jobOf s 0x03 with
  | none => s
  | some j =>
    let out := streamOut s j
    if jobStale s j then staleEnd j out s
    else if gcmTag j.key (memBytes s j.aux 12) (memBytes s j.src j.len) = memBytes s j.aux2 16 then
      jobResult 0 0 (setBytes s j.dst out)
    else jobResult 4 0 (setBytes s j.dst (List.replicate j.len 0))

/-- AES-CMAC (op 0x04). -/
def runCmac (s : State) : State :=
  match jobOf s 0x04 with
  | none => s
  | some j =>
    if jobStale s j then jobResult 3 0 (staleUse j.slot (setBytes s j.dst (List.replicate 16 0)))
    else jobResult 0 0 (setBytes s j.dst (cmac j.key (memBytes s j.src j.len)))

/-- AES key wrap (op 0x05). -/
def runKeyWrap (s : State) : State :=
  match jobOf s 0x05 with
  | none => s
  | some j => jobResult 0 0 (setBytes s j.dst (keyWrap j.key (memBytes s j.src j.len)))

/-- SHA-256 (op 0x07): with `flags` bit 0 the digest kept in KVT is continued. -/
def runSha (s : State) : State :=
  match jobOf s 0x07 with
  | none => s
  | some j =>
    let m := (if bit j.flags 0 then s.vault.sha else []) ++ memBytes s j.src j.len
    let s := { s with vault := { s.vault with sha := m } }
    jobResult 0 0 (setBytes s j.dst (sha256 m))

/-- ECDSA P-256 verify (op 0x08). -/
def runVerify (s : State) : State :=
  match jobOf s 0x08 with
  | none => s
  | some j => jobResult (if ecdsaVerify j.key (memBytes s j.src 32) (memBytes s j.aux 64) then 0 else 4) 0 s

/-- A scalar from the DRBG, 1 ≤ d < n: a free value. -/
def freeScalar (s : State) : Nat × State :=
  let (v, s) := takeFree 256 s
  (1 + v % (p256N - 1), s)

/-- ECDSA P-256 sign with slot 0 (op 0x09). -/
def runSign (s : State) : State :=
  match jobOf s 0x09 with
  | none => s
  | some j =>
    let (k, s) := freeScalar s
    jobResult 0 0 (setBytes s j.dst (ecdsaSign (beNat j.key) k (memBytes s j.src 32)))

/-- Ephemeral ECDH P-256 (op 0x0A). For a peer that is no point of the curve the spec states no result: free values. -/
def runEcdh (s : State) : State :=
  match jobOf s 0x0A with
  | none => s
  | some j =>
    let (d, s) := freeScalar s
    let own := ecBytes (ecMul 256 d ecBase)
    let s' := setBytes s j.dst own
    match ecPoint (memBytes s j.src 64) with
    | some p => jobResult 0 0 (setBytes s' j.aux ((ecBytes (ecMul 256 d (some p))).take 32))
    | none =>
      let (z, s') := takeFree 256 s'
      let (r, s') := takeFree 4 s'
      jobResult r 0 (setBytes s' j.aux (leBytes 32 z))

/-- Random octets (op 0x0B): free values. -/
def runRandom (s : State) : State :=
  match jobOf s 0x0B with
  | none => s
  | some j =>
    let (v, s) := takeFree (8 * j.len) s
    jobResult 0 0 (setBytes s j.dst (leBytes j.len v))

/-- `abort`: the command ends after the chunk in progress (R500). -/
def jobAbort (s : State) : State :=
  match s.vault.job with
  | none => s
  | some j =>
    if j.result.isSome then s
    else if j.op ≤ 3 then jobResult 7 0 (setBytes s j.dst ((streamOut s j).take 4096))
    else jobResult 7 0 s

/-- The running command's result stands: it ends. -/
def commandDone (s : State) : State :=
  match s.vault.job with
  | some j => match j.result with
    | some (r, sub) => jobEnd r sub s
    | none => s
  | none => s

/-! ### Key update messages (R502-R508) -/

/-- The rows of R504: whether operation `op` may name target `slot`. -/
def kuTarget (s : State) (op slot : Nat) : Bool :=
  match op with
  | 1 => (slot == 2 && (slotStore s 2).kind == 0) || slot == 3 || slot == 5 || slot == 6 || (16 ≤ slot && slot ≤ 63)
  | 2 => slot == 2 || slot == 3 || slot == 5 || slot == 6 || slot == 7 || (10 ≤ slot && slot ≤ 63)
  | 3 => 10 ≤ slot && slot ≤ 63
  | 4 => slot == 0
  | 5 => slot == 0
  | _ => false

/-- The rows of R504: whether `issuer` may sign operation `op` for target `slot`. -/
def kuIssuer (op slot issuer : Nat) : Bool :=
  let ops := 10 ≤ issuer && issuer ≤ 15
  match op with
  | 1 => ops
  | 2 => if slot = 10 then issuer == 8 || issuer == 10 else ops
  | 3 => if slot = 10 then issuer == 8 else if 11 ≤ slot ∧ slot ≤ 15 then issuer == 10
         else if 16 ≤ slot then ops else issuer == 8 || ops
  | 4 => issuer == 8
  | 5 => issuer == 8 || issuer == 10
  | _ => false

/-- `kind` and `usage` as R486 lets them stand with the target. -/
def kuKind (op slot kind usage : Nat) : Bool :=
  match op with
  | 1 => if slot = 2 ∨ slot = 3 then kind == 1 && usage == 8 else if slot = 5 then kind == 1 && usage == 4
         else if slot = 6 then kind == 1 && usage == 2 else kind == 1 || kind == 2
  | 3 => kind == 3 && (16 ≤ slot || usage == 16)
  | _ => kind == 0 && usage == 0

/-- Check 1 of R505. -/
def kuForm (m : List Byte) : Bool :=
  let op := leAt m 1 1
  let kind := leAt m 4 1
  let blen := leAt m 32 2
  leAt m 0 1 == 1 && leAt m 5 1 < 32 && leAt m 6 2 == 0 && leAt m 34 2 == 0 && blen ≤ 412 && m.length == 100 + blen &&
    (match op with
     | 1 => if kind = 1 then blen == 88 else if kind = 2 then blen == 104 else blen == 88 || blen == 104
     | 2 => blen == 0
     | 3 => blen == 64
     | 4 => blen == 0
     | 5 => 5 ≤ blen && 1 ≤ leAt m 37 1 && leAt m 37 1 ≤ 3 && leAt m 36 1 < leAt m 37 1 && leAt m 38 2 == 0
     | _ => true)

/-- The stored update counter of an anchor (R506). -/
def updateCounter (s : State) (anchor : Nat) : Nat := sget (fun _ => 0) s.nv.updCtr anchor

def setUpdateCounter (anchor n : Nat) (s : State) : State :=
  { s with nv := { s.nv with updCtr := sput (fun _ => 0) s.nv.updCtr anchor n } }

/-- The key that an op 1 message carries, unwrapped (R503). -/
def kuUnwrap (s : State) (m : List Byte) : Option (List Byte) :=
  match s.vault.rk, ecPoint (octets m 36 64) with
  | some k, some p =>
    let z := (ecBytes (ecMul 256 (deviceKey k) (some p))).take 32
    keyUnwrap (kdf z (ascii "XN-KU") (octets m 8 24) 128) (octets m 100 (leAt m 32 2 - 64))
  | _, _ => none

/-- The first failing check of R505, 0 where none fails. -/
def kuCheck (s : State) (m : List Byte) : Nat :=
  let op := leAt m 1 1
  let slot := leAt m 2 1
  let issuer := leAt m 3 1
  let ctr := leAt m 24 8
  let blen := leAt m 32 2
  let iss := slotView s issuer
  let vs := fld s R.KVT_STAT_vstate
  if !kuForm m then 1
  else if !(8 ≤ issuer && issuer ≤ 15 && iss.kind == 3 && bit iss.usage 4 && kuIssuer op slot issuer) then 2
  else if !ecdsaVerify iss.key (sha256 (m.take (36 + blen))) (octets m (36 + blen) 64) then 3
  else if octets m 8 16 != unitId then 4
  else if !(updateCounter s issuer < ctr && (issuer != 8 || ctr / 2 ^ 32 == fld s R.BKD_TCNT_n)) then 5
  else if !(if op = 4 then vs == 1 || vs == 2 else vs == 0) then 6
  else if !(kuTarget s op slot && kuKind op slot (leAt m 4 1) (leAt m 5 1)) then 7
  else if op = 1 ∧ (kuUnwrap s m).isNone then 8
  else 0

/-- Enrolment (R508). -/
def enrol (s : State) : State :=
  let k := s.nv.enrolments + 1
  let gens := [0, 1, 4]
  let s := upTo 64 (fun n s =>
    if (slotStore s n).kind ≠ 0 ∨ gens.contains n then changeSlot n 0 0 [] s else s) s
  let s := upTo 6 (fun i s => setUpdateCounter (10 + i) 0 s) s
  let s := { s with nv := { s.nv with helper := some k, enrolments := k, cert := some (Config.certificate k) } }
  let s := setFld { s with bkd := { s.bkd with mask := some k } } R.BKD_TMPIN_lat 0
  let s := { s with vault := { s.vault with rk := some k, cache := [] } }
  let s := setFld (setFld s R.KVT_STAT_vstate 0) R.KVT_STAT_cause 0
  let s := setFld s R.KVT_JT_N_n 0
  postFnd 0x08 0x05 (leBytes 4 (fld s R.BKD_TCNT_n)) s

/-- Holds a certificate part; the last one of the count replaces B:0010 (R505). -/
def certificatePart (m : List Byte) (s : State) : State :=
  let idx := leAt m 36 1
  let cnt := leAt m 37 1
  let ctr := leAt m 24 8
  let data := octets m 40 (leAt m 32 2 - 4)
  let p := s.vault.parts
  let follows := p.count = cnt ∧ p.last + 1 = ctr ∧ (p.parts.all (fun e => e.1 != idx)) = true
  let parts := if follows then sins p.parts idx data else [(idx, data)]
  if parts.length = cnt then
    { s with vault := { s.vault with parts := {} }, nv := { s.nv with cert := some (parts.flatMap (·.2)) } }
  else { s with vault := { s.vault with parts := ⟨cnt, ctr, parts⟩ } }

/-- What an accepted message does to the slots (R504, R505, R508). -/
def kuApply (m : List Byte) (s : State) : State :=
  let slot := leAt m 2 1
  match leAt m 1 1 with
  | 1 => changeSlot slot (leAt m 4 1) (leAt m 5 1) ((kuUnwrap s m).getD []) s
  | 2 => changeSlot slot 0 0 [] s
  | 3 =>
    let s := changeSlot slot 3 (leAt m 5 1) (octets m 36 64) s
    if slot ≤ 15 then setUpdateCounter slot 0 s else s
  | 4 => enrol s
  | _ => certificatePart m s

/-- KVT takes a key update message: the check code, and the state (R505). The issuer's counter is stored before the slot. -/
def keyUpdate (m : List Byte) (s : State) : Nat × State :=
  let c := kuCheck s m
  let data := leBytes 1 (leAt m 1 1) ++ leBytes 1 (leAt m 2 1) ++ leBytes 1 c
  if c = 0 then (0, postFnd 0x08 0x04 data (kuApply m (setUpdateCounter (leAt m 3 1) (leAt m 24 8) s)))
  else (c, post 0x08 0x04 data s)

/-- The result code beside a check code: what R500 names for it, else a free code other than 0. -/
def kuResult (c : Nat) (s : State) : Nat × State :=
  if c = 0 then (0, s)
  else if c = 3 ∨ c = 8 then (4, s)
  else if c = 6 then (6, s)
  else let (f, s) := takeFree 4 s; (1 + f % 15, s)

/-- The message of the running op 0x0C command. -/
def jobMessage (s : State) (j : KvtJob) : List Byte := memBytes s j.src j.len

/-- Runs op 0x0C where its message's operation is `op`, or for `op` 1 none of the five. -/
def runKeyUpdate (op : Nat) (s : State) : State :=
  match jobOf s 0x0C with
  | none => s
  | some j =>
    let m := jobMessage s j
    let mop := leAt m 1 1
    if mop = op ∨ (op = 1 ∧ ¬ (1 ≤ mop ∧ mop ≤ 5)) then
      let (c, s) := keyUpdate m s
      let (r, s) := kuResult c s
      jobResult r c s
    else s

/-! ### Register hooks -/

/-- What a write of a KVT register starts; `rebuilt` is what a regeneration meets. -/
def kvtWrittenWith (rebuilt : Bool) (_o : Origin) (a : Nat) (w : Word) (old s : State) : State :=
  let on (i : Nat) : Bool := bit w.toNat i
  if a = A.KVT_CTRL then
    let s := if isSet s R.KVT_CTRL_run then (if isSet old R.KVT_CTRL_run then s else blockStart s 8)
             else (if isSet old R.KVT_CTRL_run then blockStop s 8 else s)
    let s := if on 4 then regenerate rebuilt s else s
    let s := if on 5 then zeroize 2 0 s else s
    let s := if on 6 then zeroize 3 0 s else s
    let s := if on 8 then hopload s else s
    if on 9 then flushAll s else s
  else if a = A.KVT_CMD_GO then
    let s := if on 0 then commandGo s else s
    if on 1 then jobAbort s else s
  else if a = A.KVT_CFLUSH then cacheFlush (bits w.toNat 0 13) s
  else if A.KVT_CTXc_CFG 0 ≤ a ∧ a < A.KVT_CTXc_CFG 3 ∧ a % 16 = 0 then
    let c := (a - A.KVT_CTXc_CFG 0) / 16
    showKeys (if on 4 then contextLoad c s else s)
  else s

def kvtWritten : WriteHook := kvtWrittenWith true

/-- What KVT answers to a read: the slot selected in SLOT_SEL (R486). -/
def kvtRead (_o : Origin) (a : Nat) (v : Word) (s : State) : Word × State :=
  if a = A.KVT_SLOT_INFO then
    let n := fld s R.KVT_SLOT_SEL_slot
    let sl := slotView s n
    let st := if sl.kind = 0 then slotStore s n else sl
    (BitVec.ofNat 32 (st.kind + 256 * st.usage + 65536 * st.gen), s)
  else (v, s)

/-! ### The commands -/

/-- A write of one bit of KVT_CTRL beside its fields as they read. -/
def kvtCtrl (o : Origin) (rebuilt : Bool) (b : Nat) (s : State) : State :=
  coreWrite (kvtWrittenWith rebuilt) o A.KVT_CTRL (rwWord s A.KVT_CTRL ||| BitVec.ofNat 32 (2 ^ b)) s

/-- `KVT_CTRL.regen` (REGEN, R485). -/
def execRegen (o : Origin) (rebuilt : Bool) (s : State) : Host.Outcome State Fault Refusal := .next (kvtCtrl o rebuilt 4 s)
/-- `KVT_CTRL.zeroize` (ZEROIZE, R509). -/
def execZeroize (o : Origin) (s : State) : Host.Outcome State Fault Refusal := .next (kvtCtrl o true 5 s)
/-- `KVT_CTRL.wipe` (WIPE, R509). -/
def execWipe (o : Origin) (s : State) : Host.Outcome State Fault Refusal := .next (kvtCtrl o true 6 s)
/-- `KVT_CTRL.hopload` (HOPLOAD, R488). -/
def execHopload (o : Origin) (s : State) : Host.Outcome State Fault Refusal := .next (kvtCtrl o true 8 s)
/-- `KVT_CTRL.flushall` (FLUSHALL, R493). -/
def execFlushall (o : Origin) (s : State) : Host.Outcome State Fault Refusal := .next (kvtCtrl o true 9 s)
/-- A write of KVT_CFLUSH (CACHE_FLUSH, R494). -/
def execCacheFlush (o : Origin) (short : BitVec 13) (s : State) : Host.Outcome State Fault Refusal :=
  .next (coreWrite kvtWritten o A.KVT_CFLUSH (short.setWidth 32) s)
/-- A write of KVT_CTXc_CFG with `load` (CONTEXT_LOAD, R496). -/
def execContextLoad (o : Origin) (c : Nat) (cfg : Word) (s : State) : Host.Outcome State Fault Refusal :=
  .next (coreWrite kvtWritten o (A.KVT_CTXc_CFG c) (cfg ||| 0x10) s)
/-- The firmware raises ceilings (CEILING_RAISE, R497). -/
def execCeilingRaise (s : State) : Host.Outcome State Fault Refusal := .next (ceilingRaise s)
/-- Op 0x01 (AES_CTR, R499). -/
def execAesCtr (s : State) : Host.Outcome State Fault Refusal := .next (runAesCtr s)
/-- Op 0x02 (AES_GCM_ENCRYPT, R499). -/
def execAesGcmEncrypt (s : State) : Host.Outcome State Fault Refusal := .next (runGcmEncrypt s)
/-- Op 0x03 (AES_GCM_DECRYPT, R499). -/
def execAesGcmDecrypt (s : State) : Host.Outcome State Fault Refusal := .next (runGcmDecrypt s)
/-- Op 0x04 (AES_CMAC, R499). -/
def execAesCmac (s : State) : Host.Outcome State Fault Refusal := .next (runCmac s)
/-- Op 0x05 (AES_KEY_WRAP, R499). -/
def execAesKeyWrap (s : State) : Host.Outcome State Fault Refusal := .next (runKeyWrap s)
/-- Op 0x07 (SHA256, R499). -/
def execSha256 (s : State) : Host.Outcome State Fault Refusal := .next (runSha s)
/-- Op 0x08 (ECDSA_VERIFY, R499). -/
def execEcdsaVerify (s : State) : Host.Outcome State Fault Refusal := .next (runVerify s)
/-- Op 0x09 (ECDSA_SIGN, R499). -/
def execEcdsaSign (s : State) : Host.Outcome State Fault Refusal := .next (runSign s)
/-- Op 0x0A (EPHEMERAL_ECDH, R499). -/
def execEphemeralEcdh (s : State) : Host.Outcome State Fault Refusal := .next (runEcdh s)
/-- Op 0x0B (RANDOM, R499). -/
def execRandom (s : State) : Host.Outcome State Fault Refusal := .next (runRandom s)
/-- Key update op 1 (INSTALL_SECRET_KEY, R503). -/
def execInstallSecretKey (s : State) : Host.Outcome State Fault Refusal := .next (runKeyUpdate 1 s)
/-- Key update op 2 (INVALIDATE, R504). -/
def execInvalidate (s : State) : Host.Outcome State Fault Refusal := .next (runKeyUpdate 2 s)
/-- Key update op 3 (INSTALL_PUBLIC_KEY, R504). -/
def execInstallPublicKey (s : State) : Host.Outcome State Fault Refusal := .next (runKeyUpdate 3 s)
/-- Key update op 4 (ENROL, R508). -/
def execEnrol (s : State) : Host.Outcome State Fault Refusal := .next (runKeyUpdate 4 s)
/-- Key update op 5 (CERTIFICATE_PART, R505). -/
def execCertificatePart (s : State) : Host.Outcome State Fault Refusal := .next (runKeyUpdate 5 s)
/-- `KVT_CMD_GO.abort` (KVT_ABORT, R500). -/
def execKvtAbort (o : Origin) (s : State) : Host.Outcome State Fault Refusal :=
  .next (coreWrite kvtWritten o A.KVT_CMD_GO 2 s)
/-- A command ends (KVT_COMMAND_DONE, R500). -/
def execKvtCommandDone (s : State) : Host.Outcome State Fault Refusal := .next (commandDone s)
/-- A health test fails (ENTROPY_HEALTH_FAIL, R499). -/
def execEntropyHealthFail (s : State) : Host.Outcome State Fault Refusal :=
  .next (post 0x08 0x06 [] (raise { s with vault := { s.vault with unhealthy := true } } R.KVT_IFLG_health))
/-- A later health test passes (ENTROPY_HEALTH_PASS, R499). -/
def execEntropyHealthPass (s : State) : Host.Outcome State Fault Refusal :=
  .next { s with vault := { s.vault with unhealthy := false } }

end Sys2Proof.Machine
end

