-- ==== Sys2Proof/Machine/Frames.lean ====
section
/-!
DEFINITION. Air frames (chapter 06): the MAC header, the format check, CSI and nonce, securing and opening, replay windows.
-/

namespace Sys2Proof.Machine

/-! ### The frame (R144-R147) -/

/-- A PSDU taken apart; the FCS is left off, `body` is the payload as sent. -/
structure Frame where
  fc : Nat
  hop : Nat
  addr : List Byte
  ctr : Nat
  mhr : List Byte
  body : List Byte
  mic : List Byte
  deriving DecidableEq, Repr

def Frame.type (f : Frame) : Nat := f.fc % 16
def Frame.key (f : Frame) : Nat := bits f.fc 4 2
def Frame.ep (f : Frame) : Nat := bits f.fc 6 1
def Frame.ar (f : Frame) : Bool := bit f.fc 7
def Frame.hops (f : Frame) : Nat := f.hop % 8
def Frame.nack (f : Frame) : Nat := f.hop / 16
def Frame.short (f : Frame) : Nat := leNat f.addr

/-- Octets of the address by type: none in a beacon, an EUI-64 in join frames, else a short address (R144, R145). -/
def addrLen (type : Nat) : Nat := if type = 0 then 0 else if type = 6 ∨ type = 12 then 8 else 2

/-- Octets of the MHR by type. -/
def mhrLen (type : Nat) : Nat := 2 + addrLen type + (if type = 0 then 0 else 4)

/-- Takes a PSDU with an FCS of `fcs` octets apart; none where the MHR and the MIC do not fit. -/
def parseFrame (fcs : Nat) (psdu : List Byte) : Option Frame :=
  let d := psdu.take (psdu.length - fcs)
  let fc := leAt d 0 1
  let a := addrLen (fc % 16)
  let m := mhrLen (fc % 16)
  if psdu.length < fcs + 2 ∨ d.length < m + 8 then none
  else some { fc, hop := leAt d 1 1, addr := octets d 2 a, ctr := if fc % 16 = 0 then 0 else leAt d (2 + a) 4,
              mhr := d.take m, body := (d.take (d.length - 8)).drop m, mic := d.drop (d.length - 8) }

/-- Whether a type is an up frame (R145). -/
def isUp (type : Nat) : Bool := 8 ≤ type && type ≤ 12

/-- The security level by type: 2 for a beacon, else 6 (R145). -/
def levelOf (type : Nat) : Nat := if type = 0 then 2 else 6

def isGroup (a : Nat) : Bool := 0xFF00 ≤ a && a ≤ 0xFFFE
def isNode (a : Nat) : Bool := 1 ≤ a && a ≤ 0x1FFF

/-- `key` and `addr` against R145. -/
def keyAddrOk (f : Frame) : Bool :=
  let a := f.short
  match f.type with
  | 0 => f.key == 1
  | 1 => f.key == 1 && isGroup a
  | 2 => (f.key == 0 && isNode a) || (f.key == 1 && (isGroup a || a == 0xFFFF))
  | 3 => f.key == 1 && isGroup a
  | 4 => f.key == 1 && a == 0xFFFF
  | 5 => f.key == 1 && (isGroup a || a == 0xFFFF)
  | 6 => f.key == 2
  | 7 => f.key == 0 && isNode a
  | 12 => f.key == 2
  | _ => f.key == 0 && isNode a

/-- `ar` against R145. -/
def arOk (f : Frame) : Bool :=
  match f.type with
  | 2 => true
  | 8 => true
  | 9 => true
  | 7 => f.ar
  | 10 => f.ar
  | 11 => f.ar
  | _ => !f.ar

/-- The payload length before the acknowledgement items against R145. -/
def lengthOk (f : Frame) (n : Nat) : Bool :=
  match f.type with
  | 0 => n == 22 && f.nack == 0
  | 1 => (List.range 64).any (fun k => n == 4 + (10 * (k + 1) + 7) / 8)
  | 2 => 3 ≤ n
  | 3 => (List.range 8).any (fun k => n == 1 + 6 * (k + 1))
  | 4 => n == 0 && 1 ≤ f.nack
  | 5 => 1 ≤ n
  | 6 => n == 16
  | 7 => n == 22
  | 8 => 1 ≤ n
  | 9 => 1 ≤ n
  | 10 => n == 4
  | 11 => 2 ≤ n
  | 12 => n == 13
  | _ => false

/-- The parts of check 2 that lie inside the payload `pl`: reserved bits, and the fields that fix its length (R147-R153, R166). -/
def contentOk (f : Frame) (pl : List Byte) : Bool :=
  let n := pl.length - 4 * f.nack
  let items := (List.range f.nack).all (fun k =>
    let who := leAt pl (n + 4 * k) 2
    who / 2 ^ 14 == 0 && (!isUp f.type || who % 2 ^ 13 == 0))
  let c := leAt pl 1 1
  items && match f.type with
  | 0 => !bit (leAt pl 7 1) 7 && !bit (leAt pl 13 1) 4
  | 1 => leAt pl 0 1 < 64 && 1 ≤ c && c ≤ 64 && leAt pl 0 1 + c ≤ 64 && n == 4 + (10 * c + 7) / 8 &&
      leNat ((pl.take n).drop 4) / 2 ^ (10 * c) == 0
  | 3 => n == 1 + 6 * leAt pl 0 1 && (List.range (leAt pl 0 1)).all (fun k => leAt pl (1 + 6 * k) 2 / 2 ^ 13 == 0)
  | 7 => leAt pl 1 1 < 2
  | _ => true

/-- Check 2 of R166 on what stands in clear. -/
def formatOk (f : Frame) : Bool :=
  f.type ≤ 12 && f.key ≤ 2 && !bit f.hop 3 && f.hops ≤ 3 && (f.ep == 0 || f.key == 1) && keyAddrOk f && arOk f &&
    4 * f.nack ≤ f.body.length && lengthOk f (f.body.length - 4 * f.nack) && (f.type != 0 || contentOk f f.body)

/-! ### Security (R158-R160) -/

/-- A controller source identifier (R160). -/
def csiOf (seg member side token : Nat) : List Byte :=
  [0xFE, BitVec.ofNat 8 (member % 4 + 128 * (side % 2))] ++ leBytes 2 seg ++ leBytes 4 token

/-- The module's own CSI, with the token number in force. -/
def csi (s : State) : List Byte :=
  csiOf (odForceNat s 9 1 0) (fld s R.TKN_CFG_member) (fld s R.TKN_CFG_side) (fld s R.TKN_TOKEN_tok)

/-- The nonce of R160. -/
def frameNonce (source : List Byte) (ctr level : Nat) : List Byte := padTo 8 source ++ leBytes 4 ctr ++ leBytes 1 level

/-- The authenticated header: the MHR with `hops` 0 (R159). -/
def aad (mhr : List Byte) : List Byte :=
  mhr.take 1 ++ leBytes 1 (leAt mhr 1 1 / 8 * 8) ++ mhr.drop 2

/-- Secures a frame: MHR, payload, MIC (R159), and the FCS (R144). -/
def sealFrame (two : Bool) (key source mhr pl : List Byte) (ctr level : Nat) : List Byte :=
  let (c, mic) := ccmSeal (level == 6) key (frameNonce source ctr level) (aad mhr) pl
  let d := mhr ++ c ++ mic
  d ++ fcsOf two d

/-- Opens a frame: its payload in clear where the MIC verifies. -/
def openFrame (key source : List Byte) (f : Frame) : Option (List Byte) :=
  let level := levelOf f.type
  let ctr := if f.type = 0 then leAt f.body 0 4 else f.ctr
  ccmOpen (level == 6) key (frameNonce source ctr level) (aad f.mhr) f.body f.mic

/-! ### Replay (R167, R170) -/

/-- What the window says of a counter. -/
inductive Replay where
  | accept | duplicate | stale
  deriving DecidableEq, Repr

/-- R167's window update: the verdict and the window after it. -/
def windowCheck (w : Option Window) (c : Nat) : Replay × Option Window :=
  match w with
  | none => (.accept, some ⟨c, 1⟩)
  | some st =>
    if st.h < c then
      let d := c - st.h
      (.accept, some ⟨c, if 64 ≤ d then 1 else (st.w * 2 ^ d + 1) % 2 ^ 64⟩)
    else
      let d := st.h - c
      if 64 ≤ d then (.stale, w)
      else if bit st.w d then (.duplicate, w)
      else (.accept, some ⟨st.h, st.w + 2 ^ d⟩)

/-- The cell store word of a node's highest accepted counter (R170). -/
def counterCell (short : Nat) : Nat := 0x20020000 + 4 * short

/-- A node's window: the one kept, or after a reset the stored counter with every bit set (R170). -/
def nodeWindow (s : State) (short : Nat) : Option Window :=
  match slook s.tte.windows short with
  | some w => some w
  | none => let h := memNat s (counterCell short) 4; if h = 0 then none else some ⟨h, 2 ^ 64 - 1⟩

/-- A rejoin clears the node's window (R170). -/
def clearWindow (short : Nat) (s : State) : State :=
  setMemNat { s with tte := { s.tte with windows := sdel s.tte.windows short } } (counterCell short) 4 0

end Sys2Proof.Machine
end

