-- ==== Sys2Proof/Machine/Timetable.lean ====
section
/-!
DEFINITION. The timetable engine (chapter 05): cells and channels, what is sent in a path, what becomes of a received frame,
acknowledgements, the fast path, missed report cells, opening and stopping.
-/

namespace Sys2Proof.Machine

def setTte (t : TteState) (s : State) : State := { s with tte := t }

/-! ### Channels and cells (R105, R109-R117) -/

/-- hop[p mod 4096]: 0 while no table is loaded. -/
def hopAt (s : State) (p : Nat) : Nat :=
  match s.vault.hop with
  | some hk => hopEntry hk (p % 4096)
  | none => 0

/-- The channel of a cell (R111). -/
def cellChan (s : State) (p o : Nat) : Nat :=
  let l := chanList s
  natAt l ((o + hopAt s p) % l.length)

/-- The up ordinal of path index `i` (R105). -/
def upOrdinal (i : Nat) : Nat := 3 * (i / 4) + i % 4 - 1

/-- Whether the up path of index `i` holds a join cell (R116). -/
def hasJoin (s : State) (i : Nat) : Bool :=
  let j := 16 * 2 ^ fld s R.TTE_JOIN_cnt
  let u := upOrdinal i
  let k := (u * j + 191) / 192
  k < j && k * 192 / j == u

/-- The base of the plan in force (R114). -/
def planBase (s : State) : Nat := 65536 * fld s (if isSet s R.TTE_PLANSEL_sel then R.TTE_PLAN_B_addr else R.TTE_PLAN_A_addr)

/-- Entry (i, o) of the plan in force (R113). -/
def planEntry (s : State) (i o : Nat) : Nat := memNat s (planBase s + 256 * i + 4 * o) 4

/-- The cell of offset `o` in the up path of index `i`, before join cells (R113, R115). -/
def plainCell (s : State) (p i o n : Nat) : Cell :=
  let shared := fldBit s R.TTE_SHARE_map (i / 64)
  let alrm := fld s R.TTE_SHARE_alrm
  let pres := fld s R.TTE_SHARE_pres
  let ch := cellChan s p o
  if shared ∧ n ≤ o + alrm then ⟨ch, o, 5, 0, true⟩
  else if shared ∧ n ≤ o + alrm + pres then ⟨ch, o, 6, 0, true⟩
  else
    let e := planEntry s i o
    let k := bits e 16 4
    let k := if k ≤ 4 then k else 0
    ⟨ch, o, k, if k = 0 then 0 else bits e 0 13, bit e 20⟩

/-- The cells of path `p`: a beacon path's one, an up path's, none in other down paths (R113-R116). -/
def cellsOf (s : State) (p : Nat) : List Cell :=
  let i := p % 256
  let n := (chanList s).length
  if i % 64 = 0 then [⟨beaconChan s (i / 64), 0, 8, 0, true⟩]
  else if i % 4 = 0 then []
  else
    let l := (List.range n).map (fun o => plainCell s p i o n)
    if hasJoin s i then
      let ch := beaconChan s (i / 64)
      l.filter (fun c => c.chan != ch) ++ [⟨ch, 0xFF, 7, 0, true⟩]
    else l

/-! ### The node state table (R125) -/

def nstAddr (s : State) (short : Nat) : Nat := 131072 * fld s R.TTE_NST_addr + 16 * short

/-- Octet `k` of a node's entry. -/
def nst (s : State) (short k : Nat) : Nat := (memByte s (nstAddr s short + k)).toNat

def setNst (short k : Nat) (v : List Byte) (s : State) : State := setBytes s (nstAddr s short + k) v

def nodeValid (s : State) (short : Nat) : Bool := bit (nst s short 12) 0
def nodeLane (s : State) (short : Nat) : Nat := bits (nst s short 12) 1 2

/-- The fault of R556 while any node is silent. -/
def silentFault (s : State) : State := faultSet 0x0301 0xFFFF (0 < s.tte.silentCount) s

/-- A node's frame was heard (R125, R126): `cell` is the cell it came in, `now` whether its path is still in hand. -/
def nodeHeard (p short : Nat) (report : List Byte) (sof : Nat) (cell : Cell) (now : Bool) (s : State) : State :=
  let old := nst s short 7
  let us := clampInt (-32768) 32767 (((sof : Int) - nominalSof s + 500) / 1000)
  let s := if us.natAbs > 10 * fld s R.TTE_TIMING_drift then raise s R.TTE_IFLG_drift else s
  let s := setNst short 0 (leBytes 6 p) s
  let s := setNst short 7 (leBytes 1 (old / 2 * 2 % 256 ||| 2)) s
  let s := setNst short 8 (leBytes 2 (unsigned 16 us) ++ leBytes 1 (max (leAt report 2 1) (leAt report 3 1)) ++
    leBytes 1 (leAt report 5 1)) s
  let s := if bit old 0 then silentFault (setTte { s.tte with silentCount := s.tte.silentCount - 1 } s) else s
  if cell.kind = 1 ∧ cell.owner = short then
    if now then setTte { s.tte with heard := short :: s.tte.heard } s else setNst short 6 [0] s
  else s

/-- A node becomes silent (R126). -/
def nodeSilent (short : Nat) (s : State) : State :=
  let s := setNst short 7 (leBytes 1 (nst s short 7 ||| 1)) s
  let q := s.tte.silent
  let s := setTte { s.tte with silent := if q.length < 16 then q ++ [short] else q, silentCount := s.tte.silentCount + 1 } s
  silentFault (post 0x07 0x02 (leBytes 2 short) (raise s R.TTE_IFLG_silent))

/-- The end of a path's report cells: miss counts (R126). -/
def reportCellsEnd (s : State) : State :=
  (s.tte.cells.filter (fun c => c.kind == 1 && c.listen && c.owner != 0)).foldl (fun s c =>
    if s.tte.heard.contains c.owner then setNst c.owner 6 [0] s
    else
      let m := min (nst s c.owner 6 + 1) 255
      let s := setNst c.owner 6 (leBytes 1 m) s
      if m = fld s R.TTE_TIMING_silent_n then nodeSilent c.owner s else s) s

/-! ### Securing what is sent (R122, R160-R162, R173) -/

/-- The MHR with a counter put in. -/
def mhrWith (fc hop : Nat) (addr : List Byte) (ctr : Nat) : List Byte := leBytes 1 fc ++ leBytes 1 hop ++ addr ++ leBytes 4 ctr

/-- The key, counter context and epoch parity for a frame sent under `key` to `addr`. -/
def sendKey (key : Nat) (addr : List Byte) (s : State) : Option (List Byte × Nat × Nat) × State :=
  match key with
  | 0 => match linkKeyUse (leNat addr % 8192) s with
    | (some k, s) => (some (k, 2, 0), s)
    | (none, s) => (none, s)
  | 1 => let c := ctxInForce s
    match ctxUse c s with
    | (some k, s) => (some (k, c, fld s (R.KVT_CTXc_CFG_epoch c) % 2), s)
    | (none, s) => (none, s)
  | 2 => match joinKey addr s with
    | (some k, s) => (some (k, 2, 0), s)
    | (none, s) => (none, s)
  | _ => (none, s)

/-- Secures a queued frame in plain text with acknowledgement items appended; none where no context is loaded. -/
def secure (plain : List Byte) (items : List (List Byte)) (s : State) : Option (List Byte) × State :=
  let fc := leAt plain 0 1
  let t := fc % 16
  let a := addrLen t
  if plain.length < mhrLen t ∨ t = 0 ∨ 12 < t then (none, s)
  else
    let addr := octets plain 2 a
    match sendKey (bits fc 4 2) addr s with
    | (none, s) => (none, s)
    | (some (k, c, ep), s) =>
      match nextCounter c s with
      | (none, s) => (none, s)
      | (some n, s) =>
        let hop := leAt plain 1 1
        let fc := putBits fc 6 1 ep
        let hop := putBits hop 4 4 (hop / 16 + items.length)
        let s := if bits fc 4 2 = 0 then setTte { s.tte with sent := sins s.tte.sent (16 * leNat addr + t) (n % 65536) } s else s
        (some (sealFrame (isSet s R.RFE_PHY_fcs2) k (csi s) (mhrWith fc hop addr n) (plain.drop (mhrLen t) ++ items.flatten) n 6), s)

/-! ### The beacon (R119, R149) -/

/-- The beacon payload of path `p`. -/
def beaconPayload (s : State) (p : Nat) : List Byte :=
  let ctx := ctxInForce s
  let b (f : State → Field → Nat) : Nat := f s R.TTE_JOIN_cnt + 4 * f s R.TTE_SHARE_alrm + 32 * f s R.TTE_SHARE_pres + 256 * f s R.TTE_SHARE_map
  let seg := odForceNat s 9 1 0 % 1024 + 1024 * fld s R.TKN_CFG_member + 4096 * fld s R.TKN_CFG_side +
    8192 * fld s R.RFE_PHY_rxrate + 16384 * fld s R.TTE_CFG_fec
  let bch := beaconChan s 0 + 64 * beaconChan s 1 + 4096 * beaconChan s 2 + 262144 * beaconChan s 3
  leBytes 6 p ++ leBytes 2 seg ++ leBytes 4 (fld s R.TKN_TOKEN_tok) ++ leBytes 1 (fld s (R.KVT_CTXc_CFG_epoch ctx)) ++
  leBytes 1 (fld s R.RFE_PHY_pre_len + 32 * s.tte.cd) ++ leBytes 3 bch ++
  leBytes 1 (fld s R.TTE_TIMING_guard) ++ leBytes 1 (fldRead s R.TTE_TIMING_guard) ++ leBytes 3 (b fld + 4096 * b fldRead)

/-- Offers a frame to chains `c` and up: a refusal `chain` or `duty` moves it to the next one (R121). -/
def offerFrom (p chan power : Nat) (beacon : Bool) (psdu : List Byte) : List Nat → State → Option TxRefusal × State
  | [], s => (some .chain, s)
  | c :: rest, s =>
    match txJudge s p c chan psdu.length beacon with
    | .grant b st fi => (none, txGrant c chan power beacon psdu b st fi s)
    | .refuse r =>
      let s := txRefused r s
      if r = .chain ∨ r = .duty ∨ beacon then (if rest = [] then (some r, s) else offerFrom p chan power beacon psdu rest s)
      else (some r, s)

/-- Sends the beacon of path `p` (R119, R121). -/
def sendBeacon (p : Nat) (s : State) : State :=
  let c := ctxInForce s
  match ctxUse c s with
  | (none, s) => tteDrop s
  | (some k, s) =>
    let ep := fld s (R.KVT_CTXc_CFG_epoch c) % 2
    let mhr := leBytes 1 (0x10 + 64 * ep) ++ [0]
    let psdu := sealFrame (isSet s R.RFE_PHY_fcs2) k (csi s) mhr (beaconPayload s p) (p % 2 ^ 32) 2
    if psduMax s < psdu.length then tteDrop s
    else match offerFrom p (beaconChan s (p % 256 / 64)) (fld s R.TTE_CFG_bcnpwr) true psdu [0, 1, 2, 3] s with
      | (none, s) => raise s R.TTE_IFLG_bcn
      | (some _, s) => raise s R.TTE_IFLG_drop

/-! ### Down paths (R120-R122, R127) -/

/-- Where a lane's frame may come from, in the order of classes (R120). -/
inductive LaneSource where
  | fast | ack
  | queue (n : Nat)
  deriving DecidableEq, Repr

/-- What became of the frame at the head of a source. -/
inductive LaneResult where
  | sent | kept | dropped | empty
  deriving DecidableEq, Repr

/-- The items that wait on a lane, oldest first. -/
def laneAcks (s : State) (lane : Nat) : List AckItem := (s.tte.acks.filter (fun a => a.1 == lane)).map (·.2)

/-- Takes the `n` oldest items of a lane away. -/
def dropAcks (lane n : Nat) (s : State) : State :=
  let keep := (laneAcks s lane).drop n
  setTte { s.tte with acks := s.tte.acks.filter (fun a => a.1 != lane) ++ keep.map (fun a => (lane, a)) } s

/-- The head of a source: its plain frame, its power code and whether it has expired (R122). -/
def sourceHead (s : State) (lane p : Nat) : LaneSource → Option (List Byte × Nat × Bool)
  | .fast => match s.tte.fast.find? (fun f => f.lane == lane) with
    | some f => some (mhrWith 0x13 0 (leBytes 2 f.group) 0 ++ leBytes 1 f.items.length ++ f.items.flatten, fld s R.TTE_CFG_pwr, false)
    | none => none
  | .ack => if (laneAcks s lane).any (fun a => 3 ≤ a.waited) then
      some (mhrWith 0x14 0 [0xFF, 0xFF] 0, fld s R.TTE_CFG_pwr, false) else none
  | .queue q => match hwHead agentTte q s with
    | some e =>
      let x := leAt e.body 0 6
      let w := leAt e.body 6 1
      some (e.body.drop 8, if w = 0xFF then fld s R.TTE_CFG_pwr else w, (x != 0 && x < p) || e.body.length < 8)
    | none => none

/-- Takes the head of a source away. -/
def sourceDone (lane : Nat) (src : LaneSource) (s : State) : State :=
  match src with
  | .fast => match s.tte.fast.find? (fun f => f.lane == lane) with
    | some f => setTte { s.tte with fast := s.tte.fast.erase f } s
    | none => s
  | .ack => s
  | .queue q => hwNext agentTte q s

/-- Tries the head frame of a source on channel `chan`, first on chain `lane`; items of the lane ride along (R121, R127). -/
def tryHead (p lane chan : Nat) (withItems : Bool) (src : LaneSource) (s : State) : LaneResult × State :=
  match sourceHead s lane p src with
  | none => (.empty, s)
  | some (plain, power, expired) =>
    let base := plain.length + 8 + fcsLen s
    let acks := laneAcks s lane
    let n := if withItems then min acks.length (min (15 - leAt plain 1 1 / 16) ((psduMax s - base) / 4)) else 0
    if expired ∨ psduMax s < base then (.dropped, tteDrop (sourceDone lane src s))
    else if src = .ack ∧ n = 0 then (.kept, s)
    else match secure plain ((acks.take n).map (·.item)) s with
      | (none, s) => (.dropped, tteDrop (dropAcks lane n (sourceDone lane src s)))
      | (some psdu, s1) =>
        let chains := ((List.range 4).drop lane).filter (fun c => c == lane || !s.rfe.granted.any (fun g => g.1 == c))
        match offerFrom p chan power false psdu chains s1 with
        | (none, s2) => (.sent, dropAcks lane n (sourceDone lane src s2))
        | (some r, s2) =>
          if r = .off ∨ r = .path then (.sent, tteDrop (dropAcks lane n (sourceDone lane src s2)))
          else (.kept, s2)

/-- Works down one source while its head frames are dropped; whether the lane is done stands beside the state. -/
def trySource (p lane chan : Nat) (withItems : Bool) (src : LaneSource) : Nat → State → Bool × State
  | 0, s => (false, s)
  | fuel + 1, s =>
    match tryHead p lane chan withItems src s with
    | (.dropped, s) => trySource p lane chan withItems src fuel s
    | (.empty, s) => (false, s)
    | (_, s) => (true, s)

/-- The entries a source may hold. -/
def sourceFuel (s : State) (lane : Nat) : LaneSource → Nat
  | .fast => (s.tte.fast.filter (fun f => f.lane == lane)).length + 1
  | .ack => 2
  | .queue q => (queueAt s q).entries.length + 1

/-- Lane `lane` in a down path: the first frame found in the order of classes (R120). -/
def laneSend (p lane : Nat) (s : State) : State :=
  let base := fld s R.TTE_TXQ_base
  let chan := cellChan s p (lane * ((chanList s).length / 4))
  ([.fast, .ack, .queue (base + lane), .queue (base + 4 + lane), .queue (base + 8 + lane)].foldl
    (fun (a : Bool × State) src => if a.1 then a else trySource p lane chan true src (sourceFuel a.2 lane src) a.2)
    (false, s)).2

/-- A down path that is no beacon path (R120). -/
def sendDown (p : Nat) (s : State) : State :=
  let i := p % 256
  let k := i / 4 - 16 * (i / 64) - 1
  let jq := fld s R.TTE_TXQ_base + 12
  let joins := k ≤ 11 ∧ (hwHead agentTte jq s).isSome
  let s := upTo 4 (fun lane s =>
    if joins ∧ lane = k % 4 then (trySource p lane (beaconChan s (i / 64)) false (.queue jq) (sourceFuel s lane (.queue jq)) s).2
    else laneSend p lane s) s
  setTte { s.tte with acks := s.tte.acks.map (fun a => (a.1, { a.2 with waited := a.2.waited + 1 })) } s

/-! ### Receiving (R124-R127, R134, R166-R170) -/

/-- The key of a frame that a module sends. -/
def downKey (f : Frame) (s : State) : Option (List Byte) × State :=
  match f.key with
  | 0 => linkKeyUse f.short s
  | 1 => match ctxForParity s f.ep with
    | some c => ctxUse c s
    | none => (none, s)
  | _ => joinKey f.addr s

/-- The key and source identifier for a frame, or the reason of check 3 or 4. -/
def receiveKey (f : Frame) (s : State) : Except Nat (List Byte × List Byte) × State :=
  if f.type = 12 then
    match joinKey f.addr s with
    | (some k, s) => (.ok (k, f.addr), s)
    | (none, s) => (.error 3, s)
  else if isUp f.type then
    if !nodeValid s f.short then (.error 3, s)
    else match linkKeyUse f.short s with
      | (some k, s) => (.ok (k, (linkInput s f.short).take 8), s)
      | (none, s) => (.error 4, s)
  else
    match downKey f s with
    | (none, s) => (.error 4, s)
    | (some k, s) =>
      if f.type = 0 then
        let seg := leAt f.body 6 2
        (.ok (k, csiOf (seg % 1024) (bits seg 10 2) (bits seg 12 1) (leAt f.body 8 4)), s)
      else (.ok (k, csi s), s)

/-- What accepting a frame does to the counters it was checked against: nothing; the counter of a joining node or of a
beacon's source; the window of a key, and the stored counter of a node's up frames. -/
inductive WindowMove where
  | stay
  | join (eui ctr : Nat)
  | beacon (source ctr : Nat)
  | window (key : Nat) (w : Window) (short : Option Nat)

/-- Gives an accepted frame's counter its effect (R167, R170). -/
def windowMove (m : WindowMove) (s : State) : State :=
  match m with
  | .stay => s
  | .join e c => setTte { s.tte with joins := sins s.tte.joins e c } s
  | .beacon b c => setTte { s.tte with beacons := sins s.tte.beacons b c } s
  | .window key w short =>
    let s := setTte { s.tte with windows := sins s.tte.windows key w } s
    match short with
    | some a => setMemNat s (counterCell a) 4 w.h
    | none => s

/-- A counter against the last one accepted: it must be higher. -/
def counterCheck (last : Option Nat) (c : Nat) (m : WindowMove) : Nat × WindowMove :=
  match last with
  | some h => if c = h then (6, .stay) else if c < h then (7, .stay) else (0, m)
  | none => (0, m)

/-- The replay check: the reason (0, 6, 7) and what accepting the frame does to the windows (R167, R170). -/
def replayOf (s : State) (f : Frame) (source : List Byte) : Nat × WindowMove :=
  if f.type = 12 then
    let e := beNat f.addr
    counterCheck (slook s.tte.joins e) f.ctr (.join e f.ctr)
  else if f.type = 0 then
    let b := beNat source
    let c := leAt f.body 0 6
    counterCheck (slook s.tte.beacons b) c (.beacon b c)
  else
    let up := isUp f.type
    let key := if up then f.short else 2 ^ 20 + 4 * beNat source + f.key
    match windowCheck (if up then nodeWindow s f.short else slook s.tte.windows key) f.ctr with
    | (.accept, some w) => (0, .window key w (if up then some f.short else none))
    | (.duplicate, _) => (6, .stay)
    | _ => (7, .stay)

/-- What the checks of R166 find: the reason, the frame, its payload in clear, and what accepting it does to the windows. -/
structure RxVerdict where
  reason : Nat
  frame : Option Frame
  plain : List Byte
  move : WindowMove

/-- The checks of R166 in their order. -/
def receiveChecks (r : RxFrame) (s : State) : RxVerdict × State :=
  if !fcsOk r then (⟨1, none, [], .stay⟩, s)
  else match parseFrame (if r.fcs2 then 2 else 4) r.psdu with
    | none => (⟨2, none, [], .stay⟩, s)
    | some f =>
      if !formatOk f then (⟨2, some f, [], .stay⟩, s)
      else match receiveKey f s with
        | (.error e, s) => (⟨e, some f, [], .stay⟩, s)
        | (.ok (k, source), s) =>
          match openFrame k source f with
          | none => (⟨5, some f, [], .stay⟩, s)
          | some pl =>
            if !contentOk f pl then (⟨2, some f, [], .stay⟩, s)
            else (⟨(replayOf s f source).1, some f, pl, (replayOf s f source).2⟩, s)

/-- The receive queue of a cell kind (R124). -/
def rxQueue (kind : Nat) : Nat := if kind = 5 ∨ kind = 6 then 1 else if kind = 7 then 2 else 0

/-- Puts an event item into the fast-path frames of a lane (R134, R151). -/
def fastAdd (lane group : Nat) (item : List Byte) (s : State) : State :=
  let cap := min 8 ((psduMax s - (9 + 8 + fcsLen s)) / 6)
  if cap = 0 then tteDrop s
  else match s.tte.fast.find? (fun f => f.lane == lane && f.group == group && f.items.length < cap) with
    | some f => setTte { s.tte with fast := s.tte.fast.map (fun g => if g = f then { g with items := g.items ++ [item] } else g) } s
    | none => setTte { s.tte with fast := s.tte.fast ++ [⟨lane, group, [item]⟩] } s

/-- The fast path of an authenticated presence frame; whether frames were built stands beside the state (R134). -/
def fastPath (f : Frame) (plain : List Byte) (s : State) : Bool × State :=
  let e := memNat s (32768 * fld s R.TTE_FPT_addr + 4 * f.short) 4
  let mask := e % 16
  if mask = 0 then (false, s)
  else if bits e 16 8 = 0xFF ∨ bits e 4 12 ≠ 0 ∨ bits e 24 8 ≠ 0 then (false, tteDrop s)
  else
    let item := leBytes 2 f.short ++ octets plain 0 2 ++ leBytes 2 f.ctr
    (true, upTo 4 (fun l s => if bit mask l then fastAdd l (0xFF00 + bits e 16 8) item s else s) s)

/-- An acknowledgement item for an up frame (R127, R147). -/
def ackFor (f : Frame) (s : State) : State :=
  let item := leBytes 2 (f.short + 8192 * (f.key % 2)) ++ leBytes 2 f.ctr
  setTte { s.tte with acks := s.tte.acks ++ [(nodeLane s f.short, ⟨item, 0⟩)] } s

/-- TTE takes a frame that RFE hands over in `cell` of path `p`; an accepted beacon's payload stands beside the state. -/
def receiveIn (r : RxFrame) (report : List Byte) (p : Nat) (cell : Cell) (s : State) : Option (List Byte) × State :=
  let (v, s) := receiveChecks r s
  let upFrom : Option Frame := match v.frame with
    | some f => if isUp f.type ∧ f.type ≠ 12 ∧ (v.reason = 0 ∨ v.reason = 6) then some f else none
    | none => none
  let s := match upFrom with
    | some f => nodeHeard p f.short report r.sof cell (p == s.ntb.path) s
    | none => s
  let s := match v.frame with
    | some f => if f.type = 0 then captureAt (pathStart s p + r.sof) 0x122 true s else s
    | none => s
  let tag := leBytes 6 p ++ leBytes 1 cell.off ++ leBytes 1 (16 * v.reason + cell.kind)
  let body := if v.reason = 0 then match v.frame with
      | some f => f.mhr ++ v.plain ++ f.mic ++ r.psdu.drop (r.psdu.length - (if r.fcs2 then 2 else 4))
      | none => r.psdu
    else r.psdu
  let q := fld s R.TTE_RXQ_base + (if v.reason = 0 then rxQueue cell.kind else 3)
  match hwWrite agentTte q 0 (tag ++ report ++ body) s with
  | (false, s) => (none, raise (bump s R.TTE_CNT_DROP_rx 1) R.TTE_IFLG_qfull)
  | (true, s) =>
    let s := raise (bump s R.TTE_CNT_RX_n 1) R.TTE_IFLG_rx
    let s := if v.reason = 0 then windowMove v.move s else s
    let s := match upFrom with
      | none => s
      | some f =>
        if isSet s R.TTE_CTRL_follow then s
        else
          let (built, s) := if v.reason = 0 ∧ cell.kind = 6 ∧ f.type = 10 then fastPath f v.plain s else (false, s)
          if f.ar ∧ !built then ackFor f s else s
    match v.frame with
    | some f => if f.type = 0 ∧ v.reason = 0 then (some v.plain, s) else (none, s)
    | none => (none, s)

/-- A frame ends at the antenna (R84-R89, R124). -/
def receiveFrame (r : RxFrame) (s : State) : Option (List Byte) × State :=
  let p := if netNs s < pathStart s s.ntb.path + r.sof then s.ntb.path - 1 else s.ntb.path
  if !(chanUsable s r.chan && r.rate == fld s R.RFE_PHY_rxrate && rxOn s p && s.pwr.pllR) then (none, s)
  else if !r.phr || r.psdu.length < 5 || 255 < r.psdu.length then (none, bump s R.RFE_CNT_ERR_phr 1)
  else
    let s := if fcsOk r then bump s R.RFE_CNT_RX_n 1 else bump s R.RFE_CNT_ERR_fcs 1
    let cells := if p = s.ntb.path then s.tte.cells else s.tte.cellsBefore
    match cells.find? (fun c => c.chan == r.chan && c.listen) with
    | some c => if isSet s R.TTE_STAT_open then receiveIn r (rxReport s r) p c s else (none, s)
    | none => (none, s)

/-! ### Boundaries (R117, R141, R143) -/

/-- TTE stops at this boundary (R143). -/
def tteHalt (s : State) : State :=
  let s := setTte { s.tte with stopping := false, opening := false, cells := [], cellsBefore := [], heard := [], heardBefore := [] } s
  let s := if s.vault.zeroed then
      let s := { s with vault := { s.vault with zeroed := false } }
      post 0x07 0x04 [] (raise (lower s R.TTE_CTRL_run) R.TTE_IFLG_stop)
    else s
  let s := lower s R.TTE_STAT_open
  if isSet s R.TTE_CTRL_run then s else blockStop s 7

/-- The boundary of path `p` in TTE: the ended path's report cells, stopping, opening, the path's cells and frames. `own` is
what TKN grants. The boundary's shadows have their effect before. -/
def tteBoundary (own : Bool) (p : Nat) (s : State) : State :=
  let s := if isSet s R.TTE_STAT_open then reportCellsEnd s else s
  let s := setTte { s.tte with cellsBefore := s.tte.cells, heardBefore := s.tte.heard, cells := [], heard := [] } s
  let s := setBool s R.TTE_STAT_own own
  if s.tte.stopping ∨ (s.vault.zeroed ∧ busy s 7) then tteHalt s
  else if !busy s 7 then { s with vault := { s.vault with zeroed := false } }
  else
    let s := if s.tte.opening ∧ fld s R.NTB_STAT_tstate ≠ 0 ∧ isSet s R.TTE_STAT_keys then
        setTte { s.tte with opening := false } (raise s R.TTE_STAT_open) else s
    if !isSet s R.TTE_STAT_open then s
    else
      let cells := cellsOf s p
      let s := setTte { s.tte with cells } s
      if p % 4 ≠ 0 then { s with rfe := { s.rfe with listened := cells.any (·.listen) } }
      else if own ∧ !isSet s R.TTE_CTRL_follow then (if p % 64 = 0 then sendBeacon p s else sendDown p s)
      else s

/-- A route 7 pulse, or `open` (R141). -/
def tteOpen (s : State) : State :=
  if busy s 7 && !s.tte.stopping && !isSet s R.TTE_STAT_open then setTte { s.tte with opening := true } s else s

/-! ### Register hooks -/

/-- What a write of a TTE register starts. -/
def tteWritten (_o : Origin) (a : Nat) (w : Word) (_old s : State) : State :=
  if a = A.TTE_CTRL then
    let s := if isSet s R.TTE_CTRL_run then (if busy s 7 then s else blockStart s 7)
             else if busy s 7 then setTte { s.tte with stopping := true } s else s
    if bit w.toNat 4 then tteOpen s else s
  else s

/-- What TTE answers to a read: computed status, the silent FIFO, the hop table (R107, R109, R126). -/
def tteRead (_o : Origin) (a : Nat) (v : Word) (s : State) : Word × State :=
  if a = A.TTE_STAT then
    (BitVec.ofNat 32 (putBits (putBits v.toNat 8 8 (psduMax s)) 16 7 (chanList s).length), s)
  else if a = A.TTE_SILENT then
    match s.tte.silent with
    | n :: t => (BitVec.ofNat 32 (n + 2 ^ 31), setTte { s.tte with silent := t } s)
    | [] => (0, s)
  else if a = A.TTE_HOP then (BitVec.ofNat 32 (hopAt s (fld s R.TTE_HOP_SEL_idx)), s)
  else (v, s)

/-! ### The commands -/

/-- `TTE_CTRL.run` (TTE_RUN_WRITE, R141, R143). -/
def execTteRunWrite (o : Origin) (run : Bool) (s : State) : Host.Outcome State Fault Refusal :=
  .next (coreWrite tteWritten o A.TTE_CTRL (wordWith s R.TTE_CTRL_run (b2n run)) s)

/-- `TTE_CTRL.open` (TTE_OPEN, R141). -/
def execTteOpen (o : Origin) (s : State) : Host.Outcome State Fault Refusal :=
  .next (coreWrite tteWritten o A.TTE_CTRL (rwWord s A.TTE_CTRL ||| 0x10) s)

/-- A read of TTE_SILENT (SILENT_FIFO_READ, R126). -/
def execSilentFifoRead (o : Origin) (s : State) : Host.Outcome State Fault Refusal :=
  .next (coreRead tteRead [] o A.TTE_SILENT s)

end Sys2Proof.Machine
end

