-- ==== Sys2Proof/Machine/Siding.lean ====
section
/-!
DEFINITION. Siding chains (chapter 13): the table memory, what a frame carries, transitions, gains and derating, latches
and returned statuses, matrix scanning, ownership, starting and stopping.
-/

namespace Sys2Proof.Machine

def setSdc (d : SdcState) (s : State) : State := { s with sdc := d }
def setSiding (n : Nat) (x : Siding) (s : State) : State := setSdc { s.sdc with sidings := sput (fun _ => {}) s.sdc.sidings n x } s
def chanAt (s : State) (h : Nat) : SdcChan := sget (fun _ => {}) s.sdc.chans h
def setChan (h : Nat) (c : SdcChan) (s : State) : State := setSdc { s.sdc with chans := sput (fun _ => {}) s.sdc.chans h c } s
def setSdcWord (a v : Nat) (s : State) : State := setSdc { s.sdc with tab := sput sdcDefault s.sdc.tab a v } s

/-- A field of a word of the table memory. -/
def sdcFld (s : State) (a lsb w : Nat) : Nat := bits (sdcWord s a) lsb w
def setSdcFld (a lsb w v : Nat) (s : State) : State := setSdcWord a (putBits (sdcWord s a) lsb w v) s

/-- The address of coefficient set `k` of siding `n`, and of the matrix buffer's place of channel `c`. -/
def sdcSetAddr (n k : Nat) : Nat := 0x22000 + 16 * (8 * n + k)
def sdcCode (s : State) (n r d c : Nat) : Nat :=
  let a := 0x30000 + 2 * (16 * (128 * (4 * n + r) + d) + c)
  bits (sdcWord s (a / 4 * 4)) (8 * (a % 4)) 16

/-- The devices of siding `n`. -/
def sdcDevs (s : State) (n : Nat) : Nat := fld s (R.SDC_Cn_CFG_ndev n)

/-- Config (bit 17) or phase (bit 18) pending. -/
def sdcPending (s : State) (n d k : Nat) : Bool := bit (sdcWord s (sdcDevAddr n d + 12)) k
def setPending (n d k : Nat) (on : Bool) (s : State) : State := setSdcFld (sdcDevAddr n d + 12) k 1 (b2n on) s

/-- Config and phase pending for device `d`, and for every device of a siding (R347). -/
def devPending (n d : Nat) (s : State) : State := setPending n d 18 true (setPending n d 17 true s)
def allPending (n : Nat) (s : State) : State := upTo 128 (fun d s => devPending n d s) s

/-! ### Table memory (R358) -/

/-- The bits of a word that a write changes; none outside the tables. -/
def sdcMask (a : Nat) : Option Nat :=
  let w := a % 16 / 4
  if a < 0x20000 then some (natAt [0x00FF03FF, 0xC3FF03FF, 0xFFFFFFFF, 0x0000F7FF] w)
  else if a < 0x22000 then some (natAt [0, 0, 0, 0xFF00] w)
  else if a < 0x22200 then some (natAt [0xFFFFFFFF, 0xFFFF, 0xFFFFFFFF, 0xFFFF] w)
  else if 0x30000 ≤ a ∧ a < 0x40000 then some 0xFFFFFFFF
  else none

/-- A write of a table word, with what it starts: word 0 of a channel begins a transition, word 3 makes the phase pending. -/
def sdcTableWrite (a v : Nat) (s : State) : State :=
  match sdcMask a with
  | none => cfgErr s 11
  | some m =>
    let old := sdcWord s a
    let s := setSdcWord a ((v &&& m) ||| (old - (old &&& m))) s
    if a < 0x20000 ∧ a % 16 = 0 then
      let h := a / 16
      let c := chanAt s h
      setChan h { c with c0 := c.prev, k := 0 } s
    else if a < 0x20000 ∧ a % 16 = 12 then setPending (a / 16 / 2048) (a / 16 % 2048 / 16) 18 true s
    else s

/-- Writes a table word where it differs. -/
def sdcPut (a v : Nat) (s : State) : State := if sdcWord s a = v then s else sdcTableWrite a v s

/-- The words of channel `h` follow its settings in area 8. -/
def channelApply (h : Nat) (s : State) : State :=
  let v (el : Nat) : Nat := odNat s 8 (0x2000 + h) el
  let s := sdcPut (16 * h + 4) (v 1 + 65536 * v 2 + 2 ^ 30 * v 0 + 2 ^ 31 * v 5) s
  let s := sdcPut (16 * h + 8) (v 3 + 65536 * v 4) s
  let w := putBits (putBits (putBits (sdcWord s (16 * h + 12)) 8 3 (v 6)) 12 1 (v 7)) 13 3 (v 8)
  sdcPut (16 * h + 12) w s

/-- The words of coefficient set `k` of siding `n` follow its settings; the gain stays. -/
def coefApply (n k : Nat) (s : State) : State :=
  let v (el : Nat) : Nat := odNat s 8 (0x200 + 8 * n + k) el
  let a := sdcSetAddr n k
  sdcPut (a + 8) (v 3 + 128 * v 4 + 256 * v 5 + 65536 * v 6) (sdcPut (a + 4) (v 2) (sdcPut a (v 0 + 65536 * v 1) s))

/-- Row `r` of siding `n`'s matrix buffer follows its setting. -/
def matrixApply (n r : Nat) (s : State) : State :=
  let b := padTo 4096 ((odGet s 8 (0x300 + 4 * n + r) 0).drop 2)
  upTo 1024 (fun i s => sdcPut (0x30000 + 4096 * (4 * n + r) + 4 * i) (leAt b (4 * i) 4) s) s

/-- The `xtype` of device `d` of siding `n` follows its setting. -/
def deviceApply (n d : Nat) (s : State) : State :=
  setSdcFld (sdcDevAddr n d + 12) 8 8 (odNat s 8 (0x1000 + 128 * n + d) 0) s

/-- An access to SDC_TDATA: the word, and the state with the address moved on. -/
def sdcAccess (write : Option Word) (s : State) : Word × State :=
  let a := 4 * fld s R.SDC_TADDR_addr
  let s := bumpWrap s R.SDC_TADDR_addr 1
  match write with
  | none => (if (sdcMask a).isSome then BitVec.ofNat 32 (sdcWord s a) else 0, s)
  | some w => (0, sdcTableWrite a w.toNat s)

/-- LFE hands over a wired level with its transition time (R243, R348). -/
def handWired (h u ramp : Nat) (s : State) : State := sdcTableWrite (16 * h) (u + 65536 * ramp) s

/-! ### Levels and codes (R348-R352) -/

/-- The frame period F in ns (R346). -/
def framePeriod (s : State) : Nat := odForceNat s 8 1 0 * pathLen s

/-- The level of channel `h` at its next latch (R348). -/
def nextLevel (s : State) (h : Nat) : Nat :=
  let b := 16 * h
  let c := chanAt s h
  let k := c.k + 1
  let f := framePeriod s
  let tgt : Int := sdcFld s b 0 10
  let ramp := sdcFld s b 16 8
  let rise := sdcFld s (b + 8) 0 16
  let fall := sdcFld s (b + 8) 16 16
  let prev : Int := c.prev
  let step (r : Nat) : Int := max 1 (r * f / 1000000000)
  let lin : Int := if ramp = 0 ∨ ramp * 10000000 ≤ k * f then tgt
    else c.c0 + Int.tdiv ((tgt - c.c0) * (k * f)) (ramp * 10000000)
  let lin := if rise ≠ 0 then min lin (prev + step rise) else lin
  let lin := if fall ≠ 0 then max lin (prev - step fall) else lin
  if lin = 0 ∧ sdcFld s (b + 4) 31 1 = 1 then 0
  else (min (max lin (sdcFld s (b + 4) 0 10)) (sdcFld s (b + 4) 16 10)).toNat

/-- A device's temperature in 0.1 °C as last received. -/
def devTemp (s : State) (n d : Nat) : Int := signed 16 (sdcFld s (sdcDevAddr n d) 16 16)

/-- The gain of channel `h` (R349, R350). -/
def chanGain (s : State) (h : Nat) : Int :=
  let n := h / 2048
  let st := sdcSetAddr n (sdcFld s (16 * h + 12) 13 3)
  if sdcFld s (16 * h + 12) 12 1 = 1 then sdcFld s (st + 12) 0 16
  else
    let d := devTemp s n (h % 2048 / 16) - signed 16 (sdcFld s st 0 16)
    let c1 := signed 16 (sdcFld s st 16 16)
    let c2 := signed 16 (sdcFld s (st + 4) 0 16)
    clampInt 8192 32767 (16384 + c1 * d / 1024 + c2 * d * d / 16777216)

/-- A device's limit Lmax (R351). -/
def devLimit (s : State) (n d : Nat) : Nat :=
  let floor := fld s (R.SDC_Cn_DER_floor n)
  let knee := signed 8 (fld s (R.SDC_Cn_DER_knee n))
  let slope := fld s (R.SDC_Cn_DER_slope n)
  let t := devTemp s n d
  if 8 ≤ sdcFld s (sdcDevAddr n d + 12) 0 8 then floor
  else if t ≤ 10 * knee then 1000
  else (max (floor : Int) (1000 - slope * (t - 10 * knee) / 10)).toNat

/-- The level applied and the duty code of level `a` on channel `h` (R352). -/
def appCode (s : State) (h a : Nat) : Nat × Nat :=
  let x := (a * chanGain s h + 8192) / 16384
  let app := min (min x.toNat (devLimit s (h / 2048) (h % 2048 / 16))) 1000
  (app, (app * 65535 + 500) / 1000)

/-! ### Slots (R340-R342, R347, R355) -/

/-- The pulse reference W in clocks (R354). -/
def pulseRef (s : State) (n : Nat) : Nat :=
  fld s (R.SDC_Cn_ROW_row_us n) * 200 / sdcDiv (fld s (R.SDC_Cn_CFG_ckdiv n)) - fld s (R.SDC_Cn_BLK_toff n)
    - fld s (R.SDC_Cn_BLK_ton n) - 2

/-- The Config slot. -/
def configSlot (s : State) (n d : Nat) : SdcSlot :=
  let matrix := fld s (R.SDC_Cn_CFG_mode n) = 2
  let role := if ¬ matrix then 0 else if sdcXtype s n d = 0x04 then 2 else 1
  ⟨3, [role, if matrix then pulseRef s n else 0, fld s (R.SDC_Cn_FB_fb_to n), fld s (R.SDC_Cn_FB_fb_code n)] ++ List.replicate 12 0, []⟩

/-- The slot of device `d` in a luminaire frame. -/
def lumSlot (s : State) (n d : Nat) : SdcSlot :=
  let hs := (List.range 16).map (fun c => 2048 * n + 16 * d + c)
  if sdcPending s n d 17 then configSlot s n d
  else if sdcPending s n d 18 then ⟨2, hs.map (fun h => sdcFld s (16 * h + 12) 0 11), []⟩
  else
    let l := hs.map (fun h => let a := nextLevel s h; (a, appCode s h a, sdcFld s (16 * h + 4) 30 1))
    ⟨1, l.map (fun x => if x.2.2 = 1 then x.2.1.2 else 0), l.map (fun x => (x.1, x.2.1.1))⟩

/-- The slot of device `d` for matrix row `r`. -/
def rowSlot (s : State) (n r d : Nat) : SdcSlot :=
  if sdcXtype s n d = 0x04 then ⟨4, 2 ^ r :: List.replicate 15 0, []⟩
  else if sdcPending s n d 17 then configSlot s n d
  else ⟨1, (List.range 16).map (fun c =>
    let h := 2048 * n + 16 * d + c
    if sdcFld s (16 * h + 4) 30 1 = 1 then (appCode s h (sdcCode s n r d c * 1000 / 65535)).2 else 0), []⟩

/-- The 36 octets of a slot as they are sent, each word most significant octet first (R340, R341). -/
def slotBytes (seq : Nat) (x : SdcSlot) : List Byte :=
  let b := beBytes 2 (4096 * x.op + seq % 256) ++ x.words.flatMap (beBytes 2)
  b ++ beBytes 2 (crcCcitt b)

/-! ### Frames (R346, R347, R354) -/

/-- The shadows of siding `n` take effect; a new fallback makes Config pending (R347). -/
def transferSiding (n : Nat) (s : State) : State :=
  let mine := s.shadows.filter (fun p => A.SDC_Cn_CFG n ≤ p.1 / 32 && p.1 / 32 < A.SDC_Cn_CFG n + 0x20)
  let fb := mine.any (fun p => p.1 / 32 == A.SDC_Cn_FB n)
  let s := applyShadows s mine
  if fb then allPending n s else s

/-- A pulse that finds a frame in hand, or a frame that misses the first boundary, is counted (R346). -/
def sidingLate (n : Nat) (s : State) : State := raise (bump s (R.SDC_Cn_CNT_late n) 1) R.SDC_IFLG_late

/-- A luminaire frame of siding `n` starts at a pulse (R346, R347). -/
def frameStart (n : Nat) (s : State) : State :=
  let x := sidingAt s n
  if fld s (R.SDC_Cn_CFG_mode n) ≠ 1 ∨ !fldBit s R.SDC_STAT_drv n then s
  else if x.frame.isSome then sidingLate n s
  else if !fldBit s R.SDC_CTRL_run n then s
  else
    let s := transferSiding n s
    let nd := sdcDevs s n
    let shift := 288 * nd * 5 * sdcDiv (fld s (R.SDC_Cn_CFG_ckdiv n))
    let first := netNs s / pathLen s + 1
    let b := (netNs s + shift) / pathLen s + 1
    let f : SdcFrame := ⟨x.seq, b, (List.range nd).map (lumSlot s n)⟩
    let s := raiseBit (setSiding n { x with frame := some f, seq := (x.seq + 1) % 256 } s) R.SDC_STAT_act n
    if b = first then s else sidingLate n s

/-- A route 5 pulse reaches every siding (R77, R346). -/
def routePulse5 (s : State) : State := upTo 4 (fun n s => frameStart n s) s

/-- The matrix frame of row `r` begins to shift (R355). -/
def rowStart (n r : Nat) (s : State) : State :=
  let x := sidingAt s n
  let f : SdcFrame := ⟨x.seq, 0, (List.range (sdcDevs s n)).map (rowSlot s n r)⟩
  raiseBit (setSiding n { x with frame := some f, seq := (x.seq + 1) % 256, row := r } s) R.SDC_STAT_act n

/-! ### Ownership, starting and stopping (R356, R357) -/

/-- SDC starts to drive siding `n`. -/
def driveStart (n : Nat) (s : State) : State :=
  let s := raiseBit (setSiding n { sidingAt s n with frame := none, fresh := true, shown := none, row := 0 } s) R.SDC_STAT_drv n
  if fld s (R.SDC_Cn_CFG_mode n) = 2 then
    let s := rowStart n 0 s
    setSiding n { sidingAt s n with rowAt := s.now + usTicks (fld s (R.SDC_Cn_ROW_row_us n)) } s
  else s

/-- SDC releases the pads of siding `n`; a frame in hand never latches. -/
def driveStop (n : Nat) (s : State) : State :=
  lowerBit (lowerBit (setSiding n { sidingAt s n with frame := none, fresh := true } s) R.SDC_STAT_drv n) R.SDC_STAT_act n

/-- Siding `n` stops: its pads are released and its shadows take effect. -/
def sidingHalt (n : Nat) (s : State) : State :=
  let s := transferSiding n (driveStop n s)
  let s := setSiding n { sidingAt s n with runs := false } s
  if (List.range 4).any (fun m => (sidingAt s m).runs) then s else blockStop s 11

/-- The interlock ownership changes. -/
def sdcOwn (on : Bool) (s : State) : State :=
  if isSet s R.SDC_STAT_own = on then s
  else
    let s := setBool s R.SDC_STAT_own on
    upTo 4 (fun n s => if (sidingAt s n).runs then 
      (if on then driveStart n s else
        let s := driveStop n s
        if fldBit s R.SDC_CTRL_run n then s else sidingHalt n s) else s) s

/-- Siding `n` starts: Config pending for every device. -/
def sidingStart (n : Nat) (s : State) : State :=
  let s := allPending n (setSiding n { sidingAt s n with runs := true } s)
  let s := if busy s 11 then s else blockStart s 11
  if isSet s R.SDC_STAT_own then driveStart n s else s

/-! ### Statuses (R344, R350, R351, R353) -/

/-- A wired load's open or short bits change (R353): kind 0 open, 1 short. -/
def loadChange (n d kind old new : Nat) (s : State) : State :=
  upTo 16 (fun c s =>
    if bit old c = bit new c then s
    else
      let h := 2048 * n + 16 * d + c
      let s := post 0x0B 0x04 (leBytes 2 h ++ leBytes 1 kind) (raise s R.SDC_IFLG_load)
      faultSet 0x0803 h (bit new c || bit (if kind = 0 then sdcFld s (sdcDevAddr n d + 4) 16 16 else sdcFld s (sdcDevAddr n d + 4) 0 16) c) s) s

/-- An event of device `d` of siding `n`. -/
def sdcEvent (code n d : Nat) (s : State) : State := post 0x0B code (leBytes 1 n ++ leBytes 1 d) s

/-- Whether a status is valid: its CRC, the type expected, the `seq` of the frame latched before it. -/
def statusValid (s : State) (n d seq : Nat) (b : List Byte) : Bool :=
  b.length == 36 && beNat (octets b 34 2) == crcCcitt (b.take 34) && beNat (octets b 0 1) == sdcXtype s n d &&
    beNat (octets b 1 1) == seq

/-- A valid status of device `d` answers the frame `f`. -/
def statusTaken (n d : Nat) (f : SdcFrame) (b : List Byte) (s : State) : State :=
  let w (i : Nat) : Nat := beNat (octets b (2 * i) 2)
  let a := sdcDevAddr n d
  let op := (f.slots.map (·.op)).getD d 0
  let oldOpen := sdcFld s (a + 4) 0 16
  let oldShort := sdcFld s (a + 4) 16 16
  let s := setSdcWord a (w 0 / 256 + 256 * (w 1 % 256) + 65536 * w 2) s
  let s := setSdcWord (a + 4) (w 3 + 65536 * w 4) s
  let s := setSdcWord (a + 8) (w 5 + 65536 * w 6) s
  let s := setSdcFld (a + 12) 0 8 0 s
  let s := if sdcFld s (a + 12) 16 1 = 1 then faultGone 0x0801 (128 * n + d) (setSdcFld (a + 12) 16 1 0 s) else s
  let echoed := !bit (w 1) 0
  let s := if op = 3 ∧ echoed then setPending n d 17 false s else s
  let s := if op = 2 ∧ echoed then setPending n d 18 false s else s
  let s := if bit (w 1) 1 then sdcEvent 0x03 n d (raise (devPending n d s) R.SDC_IFLG_por) else s
  let s := loadChange n d 1 oldShort (w 4) (loadChange n d 0 oldOpen (w 3) s)
  -- the table of R522 gives these three conditions an event and no code: the code is open
  [0, 3, 4].foldl (fun s k => if bit (w 1) k then let (c, s) := takeFree 16 s; sdcEvent c n d s else s) s

/-- An invalid status of device `d`. -/
def statusInvalid (n d : Nat) (s : State) : State :=
  let a := sdcDevAddr n d + 12
  let k := min 255 (sdcFld s a 0 8 + 1)
  let s := setSdcFld a 0 8 k (bump s (R.SDC_Cn_CNT_bad n) 1)
  if k = 8 then
    let s := setFld (setSdcFld a 16 1 1 s) (R.SDC_Cn_LAST_fdev n) d
    faultRaise 0x0801 (128 * n + d) true (sdcEvent 0x01 n d (raise s R.SDC_IFLG_dev))
  else s

/-- A class S gain follows a valid status of its sensor device (R350). -/
def gainUpdate (n d : Nat) (s : State) : State :=
  upTo 8 (fun k s =>
    let a := sdcSetAddr n k
    let w2 := sdcWord s (a + 8)
    let m := sdcFld s (sdcDevAddr n d + 8) (16 * bits w2 7 1) 16
    let used := (List.range 2048).any (fun c => sdcFld s (16 * (2048 * n + c) + 12) 12 4 == 1 + 2 * k)
    if bits w2 0 7 ≠ d ∨ !used ∨ m = 0 then s
    else
      let ki : Int := bits w2 8 8
      let ref : Int := bits w2 16 16
      let g : Int := sdcFld s (a + 12) 0 16
      let x := g + Int.tdiv (ki * g * (ref - m)) (256 * ref)
      let y := clampInt 8192 32767 x
      let s := setSdcFld (a + 12) 0 16 y.toNat s
      if y = 8192 ∨ y = 32767 then sdcEvent 0x07 n d (raise s R.SDC_IFLG_gain) else s) s

/-- Derating starts or ends (R351). -/
def derateCheck (n d : Nat) (s : State) : State :=
  let x := sidingAt s n
  let low := devLimit s n d < 1000
  if low ∧ !x.derated.contains d then
    sdcEvent 0x05 n d (raise (setSiding n { x with derated := d :: x.derated } s) R.SDC_IFLG_derate)
  else if ¬ low ∧ x.derated.contains d then sdcEvent 0x06 n d (setSiding n { x with derated := x.derated.erase d } s)
  else s

/-- Chain fault: every device of the siding in device fault (R353). -/
def chainCheck (n : Nat) (s : State) : State :=
  let nd := sdcDevs s n
  let all := nd ≠ 0 ∧ (List.range nd).all (fun d => sdcFld s (sdcDevAddr n d + 12) 16 1 == 1)
  let was := fldBit s R.SDC_STAT_chflt n
  if all ∧ ¬ was then
    faultRaise 0x0802 n true (post 0x0B 0x02 (leBytes 1 n ++ leBytes 1 0) (raise (raiseBit s R.SDC_STAT_chflt n) R.SDC_IFLG_chain))
  else if ¬ all ∧ was then faultGone 0x0802 n (lowerBit s R.SDC_STAT_chflt n)
  else s

/-- The statuses that came back while the frame in hand shifted, by device. -/
def takeStatuses (n : Nat) (st : List (List Byte)) (s : State) : State :=
  let x := sidingAt s n
  match x.fresh, x.shown with
  | false, some f =>
    let s := upTo (sdcDevs s n) (fun d s =>
      let b := st.getD d []
      if statusValid s n d f.seq b then gainUpdate n d (statusTaken n d f b s) else statusInvalid n d s) s
    chainCheck n (upTo (sdcDevs s n) (fun d s => derateCheck n d s) s)
  | _, _ => s

/-- The frame in hand latches. -/
def latchFrame (n : Nat) (f : SdcFrame) (s : State) : State :=
  let x := sidingAt s n
  let s := lowerBit (setSiding n { x with frame := none, shown := some f, fresh := false } s) R.SDC_STAT_act n
  let s := setFld (bump (raise s R.SDC_IFLG_frame) (R.SDC_Cn_CNT_frames n) 1) (R.SDC_Cn_LAST_seq n) f.seq
  if fld s (R.SDC_Cn_CFG_mode n) ≠ 1 then s
  else upTo (16 * sdcDevs s n) (fun i s =>
    let h := 2048 * n + i
    let c := chanAt s h
    let s := setChan h { c with k := c.k + 1 } s
    match ((f.slots.getD (i / 16) ⟨0, [], []⟩).levels)[i % 16]? with
    | some (a, app) => setSdcFld (16 * h + 12) 22 10 app (setChan h { c with k := c.k + 1, prev := a } s)
    | none => s) s

/-- A stop waits for the latch of the frame in hand (R357). -/
def haltAfterLatch (n : Nat) (s : State) : State := if fldBit s R.SDC_CTRL_run n then s else sidingHalt n s

/-- The latch of siding `n` at its path boundary; `st` holds the status slots returned. -/
def chainLatch (n : Nat) (st : List (List Byte)) (s : State) : State :=
  match (sidingAt s n).frame with
  | none => s
  | some f =>
    if fld s (R.SDC_Cn_CFG_mode n) ≠ 1 ∨ s.ntb.path < f.path then s
    else haltAfterLatch n (latchFrame n f (takeStatuses n st s))

/-- A row slot of siding `n` in matrix mode (R354, R355). -/
def matrixSlot (n : Nat) (st : List (List Byte)) (s : State) : State :=
  let x := sidingAt s n
  match x.frame with
  | none => s
  | some f =>
    if fld s (R.SDC_Cn_CFG_mode n) ≠ 2 ∨ s.now < x.rowAt then s
    else
      let s := if x.row = 0 then transferSiding n s else s
      let s := latchFrame n f (takeStatuses n st s)
      if !fldBit s R.SDC_CTRL_run n then sidingHalt n s
      else
        let s := rowStart n ((x.row + 1) % max 1 (fld s (R.SDC_Cn_ROW_rows n))) s
        setSiding n { sidingAt s n with rowAt := x.rowAt + usTicks (fld s (R.SDC_Cn_ROW_row_us n)) } s

/-! ### Register hooks -/

def sdcWritten (_o : Origin) (a : Nat) (w : Word) (old s : State) : State :=
  if a = A.SDC_CTRL then
    let s := upTo 4 (fun n s =>
      let on := fldBit s R.SDC_CTRL_run n
      if on ∧ !(sidingAt s n).runs then sidingStart n s
      else if !on ∧ fldBit old R.SDC_CTRL_run n ∧ (sidingAt s n).frame.isNone then sidingHalt n s
      else s) s
    let s := upTo 4 (fun n s => if bit w.toNat (16 + n) then frameStart n s else s) s
    if bit w.toNat 24 then upTo 4 (fun n s => allPending n s) s else s
  else if a = A.SDC_TDATA then (sdcAccess (some w) (setReg s A.SDC_TDATA 0)).2
  else s

def sdcRead (_o : Origin) (a : Nat) (v : Word) (s : State) : Word × State :=
  if a = A.SDC_TDATA then sdcAccess none s else (v, s)

/-! ### The commands -/

/-- The latch of siding `n` (CHAIN_LATCH, R346); `st` holds the octets of each device's returned status. -/
def execChainLatch (n : Nat) (st : List (List (BitVec 8))) (s : State) : Host.Outcome State Fault Refusal :=
  .next (chainLatch (n % 4) st s)

/-- A row slot of siding `n` (MATRIX_ROW_SLOT, R354). -/
def execMatrixRowSlot (n : Nat) (st : List (List (BitVec 8))) (s : State) : Host.Outcome State Fault Refusal :=
  .next (matrixSlot (n % 4) st s)

/-- `SDC_CTRL.run` (SDC_RUN_WRITE, R357). -/
def execSdcRunWrite (o : Origin) (run : BitVec 4) (s : State) : Host.Outcome State Fault Refusal :=
  .next (coreWrite sdcWritten o A.SDC_CTRL (wordWith s R.SDC_CTRL_run run.toNat) s)

/-- `SDC_CTRL.go` (SDC_GO, R346). -/
def execSdcGo (o : Origin) (go : BitVec 4) (s : State) : Host.Outcome State Fault Refusal :=
  .next (coreWrite sdcWritten o A.SDC_CTRL (BitVec.ofNat 32 (putBits (rwWord s A.SDC_CTRL).toNat 16 4 go.toNat)) s)

/-- `SDC_CTRL.cfgall` (SDC_CFGALL, R347). -/
def execSdcCfgall (o : Origin) (s : State) : Host.Outcome State Fault Refusal :=
  .next (coreWrite sdcWritten o A.SDC_CTRL (rwWord s A.SDC_CTRL ||| 0x1000000) s)

/-- A read or write of SDC_TDATA (SDC_TABLE_ACCESS, R358). -/
def execSdcTableAccess (o : Origin) (write : Option Word) (s : State) : Host.Outcome State Fault Refusal :=
  .next (match write with
    | some w => coreWrite sdcWritten o A.SDC_TDATA w s
    | none => coreRead sdcRead [] o A.SDC_TDATA s)

end Sys2Proof.Machine
end

