-- ==== Sys2Proof/Machine/Light.lean ====
section
/-!
DEFINITION. The light field engine (chapter 08): ingestion, inner cycles and their zones, the steps S1 to S11, envelopes,
publication, the engine SRAM.
-/

namespace Sys2Proof.Machine

def setLfe (l : LfeState) (s : State) : State := { s with lfe := l }

/-! ### Arithmetic (R223) -/

/-- Saturation of each number to `w` bits, and how many of them it changed. -/
def satAll (w : Nat) (l : List Int) : List Int × Nat :=
  let hi : Int := 2 ^ (w - 1) - 1
  let f := clampInt (-hi - 1) hi
  (l.map f, l.countP (fun v => f v != v))

/-- One row of a product, rounded and shifted. -/
def mulRow (sh : Nat) (v row : List Int) : Int :=
  let acc := (List.zipWith (· * ·) row v).sum
  if sh = 0 then acc else (acc + 2 ^ (sh - 1)) / 2 ^ sh

/-- ⟨M·v⟩ in `w` bits. -/
def matVec (w sh : Nat) (m : List (List Int)) (v : List Int) : List Int × Nat := satAll w (m.map (mulRow sh v))

def addV (a b : List Int) : List Int := List.zipWith (· + ·) a b
def subV (a b : List Int) : List Int := List.zipWith (· - ·) a b

/-! ### Engine SRAM (R250, R251) -/

def engByte (s : State) (a : Nat) : Byte := sget memDefault s.lfe.sram a
def engBytes (s : State) (a n : Nat) : List Byte := (List.range n).map (fun i => engByte s (a + i))
def engNat (s : State) (a n : Nat) : Nat := leNat (engBytes s a n)

/-- Writes octets of the engine SRAM. -/
def setEng (a : Nat) (bs : List Byte) (s : State) : State :=
  setLfe { s.lfe with sram := (bs.mapIdx (fun i b => (a + i, b))).foldl (fun m p => sput memDefault m p.1 p.2) s.lfe.sram } s

/-- Signed little-endian numbers of `k` octets each. -/
def intsOf (k : Nat) (bs : List Byte) : List Int :=
  (List.range (bs.length / k)).map (fun i => signed (8 * k) (leAt bs (k * i) k))

/-- Their octets. -/
def intBytes (k : Nat) (l : List Int) : List Byte := l.flatMap (fun v => leBytes k (unsigned (8 * k) v))

/-- The address of a zone's state area. -/
def zoneAddr (z : Nat) : Nat := 0x30000 + 0x400 * z

/-- An access to LFE_EDATA: the word, and the state with the address moved on (R251). -/
def engAccess (write : Option Word) (s : State) : Word × State :=
  let a := 4 * fld s R.LFE_EADDR_addr
  let s := bumpWrap s R.LFE_EADDR_addr 1
  match write with
  | none => (if a < 0x50000 then BitVec.ofNat 32 (engNat s a 4) else 0, s)
  | some w =>
    if 0x50000 ≤ a ∨ (0x30000 ≤ a ∧ busy s 10) then (0, cfgErr s 10) else (0, setEng a (leBytes 4 w.toNat) s)

/-! ### The directory and the model block (R245-R248) -/

/-- A zone's directory entry (R245). -/
structure ZoneEntry where
  en : Bool
  model : Nat
  n : Nat
  m : Nat
  p : Nat
  q : Nat
  pcode : Nat
  pphase : Nat
  ramp : Nat
  lanes : Nat
  ageMax : Nat
  gen : Nat
  inputs : Nat
  targets : Nat

def ZoneEntry.pdiv (e : ZoneEntry) : Nat := 2 ^ e.pcode

/-- The address of the directory in force. -/
def dirAddr (s : State) : Nat := 4096 * fld s (if isSet s R.LFE_STAT_dir_act then R.LFE_DIR_B_addr else R.LFE_DIR_A_addr)

/-- A directory entry from its 32 octets. -/
def decodeZone (b : List Byte) : ZoneEntry :=
  let at1 (i : Nat) : Nat := leAt b i 1
  { en := bit (at1 0) 0, model := leAt b 0 4 / 64 * 64, n := at1 4, m := at1 5, p := at1 6, q := at1 7,
    pcode := bits (at1 8) 0 2, pphase := bits (at1 8) 2 2, ramp := at1 9, lanes := at1 10 % 16, ageMax := at1 11,
    gen := leAt b 12 2, inputs := leAt b 16 4, targets := leAt b 20 4 }

/-- The entry of zone `z` in the directory in force. -/
def zoneEntry (s : State) (z : Nat) : ZoneEntry := decodeZone (memBytes s (dirAddr s + 32 * z) 32)

/-- The rows and columns of M1-M8 (R224). -/
def matDims (e : ZoneEntry) : List (Nat × Nat) :=
  [(e.p, e.n + e.m), (e.n, e.p), (e.q, e.n), (e.q, e.n + e.m), (e.q, e.q), (e.m, e.n + e.q), (e.q, e.m), (e.n, e.n + e.m)]

/-- The octets of the arrays of a model block in their order: M1-M8, x0, ξ0, u0, descriptors (R246). -/
def arraySizes (e : ZoneEntry) : List Nat := (matDims e).map (fun d => 2 * d.1 * d.2) ++ [2 * e.n, 4 * e.q, 2 * e.m, 2 * e.p]

/-- The offset of array `i`; each begins at a multiple of 4. -/
def arrayAt (e : ZoneEntry) (i : Nat) : Nat := 64 + ((arraySizes e).take i).foldl (fun a k => a + (k + 3) / 4 * 4) 0

/-- The least length of the block. -/
def blockNeeds (e : ZoneEntry) : Nat := arrayAt e 11 + 2 * e.p

/-- The octets of array `i` of a zone's model block. -/
def arrayBytes (s : State) (e : ZoneEntry) (i : Nat) : List Byte := memBytes s (e.model + arrayAt e i) (natAt (arraySizes e) i)

/-- Matrix M`k` (1-8), row by row. -/
def matrix (s : State) (e : ZoneEntry) (k : Nat) : List (List Int) :=
  let d := (matDims e).getD (k - 1) (0, 0)
  let l := intsOf 2 (arrayBytes s e (k - 1))
  (List.range d.1).map (fun i => (l.drop (i * d.2)).take d.2)

/-- The shift of M`k`. -/
def shiftOf (s : State) (e : ZoneEntry) (k : Nat) : Nat := memNat s (e.model + 7 + k) 1

/-- An entry of the input table (R247). -/
structure ZoneInput where
  kind : Nat
  who : Nat
  offOk : Bool
  lo : Nat
  hi : Nat
  rise : Nat
  fall : Nat
  held : Bool
  level : Nat

def zoneInput (s : State) (e : ZoneEntry) (j : Nat) : ZoneInput :=
  let b := memBytes s (e.inputs + 16 * j) 16
  let w := leAt b 0 2
  let h := leAt b 12 2
  { kind := bits w 14 2, who := bits w 0 13, offOk := bit (leAt b 2 1) 0, lo := leAt b 4 2, hi := leAt b 6 2,
    rise := leAt b 8 2, fall := leAt b 10 2, held := bit h 15, level := bits h 0 10 }

def zoneInputs (s : State) (e : ZoneEntry) : List ZoneInput := (List.range e.m).map (zoneInput s e)

/-- Whether a range of DRAM holds a word with an uncorrectable error. -/
def eccIn (s : State) (a n : Nat) : Bool := s.sys.eccBad.any (fun x => a ≤ x + 3 && x < a + n)

/-- The check of a zone before it runs: the cause of R253, 0 where it may run. -/
def zoneCause (s : State) (e : ZoneEntry) : Nat :=
  let ram (a n k : Nat) : Bool := a % k == 0 && inDram a && a + n ≤ 0xA0000000
  let bytes := memNat s (e.model + 4) 4
  if !(1 ≤ e.n && e.n ≤ 64 && 1 ≤ e.m && e.m ≤ 64 && e.p ≤ 64 && 1 ≤ e.q && e.q ≤ 32) || e.gen == 0 || e.pcode == 3 ||
      e.pdiv ≤ e.pphase then 1
  else if !(ram e.model 64 64 && ram e.model bytes 64 && ram e.inputs (16 * e.m) 16 && ram e.targets (8 * e.q) 8) then 2
  else if memNat s e.model 2 != 1 || (List.range 8).any (fun k => 31 < shiftOf s e (k + 1)) || bytes < blockNeeds e then 3
  else if memNat s (e.model + 2) 2 != e.gen then 4
  else if (zoneInputs s e).any (fun i => i.kind == 3 || i.hi < i.lo || 1000 < i.hi || (i.held && 1000 < i.level)) then 5
  else if eccIn s e.model (blockNeeds e) || eccIn s e.inputs (16 * e.m) || eccIn s e.targets (8 * e.q) ||
      eccIn s (dirAddr s) 4096 then 6
  else 0

/-! ### Ingestion (R229-R234) -/

/-- The address of measurement element `i` of zone `z`. -/
def elemAddr (z i : Nat) : Nat := zoneAddr z + 0x200 + 8 * i

/-- A measurement element (R250). -/
structure Elem where
  value : Int
  acc : Int
  age : Nat
  new : Bool
  vacant : Bool
  sat : Bool
  invalid : Bool

def elem (s : State) (z i : Nat) : Elem :=
  let b := engBytes s (elemAddr z i) 8
  let f := leAt b 5 1
  { value := signed 16 (leAt b 0 2), acc := signed 16 (leAt b 2 2), age := leAt b 4 1, new := bit f 0, vacant := bit f 1,
    sat := bit f 2, invalid := bit f 3 }

def setElem (z i : Nat) (e : Elem) (s : State) : State :=
  setEng (elemAddr z i) (leBytes 2 (unsigned 16 e.value) ++ leBytes 2 (unsigned 16 e.acc) ++ leBytes 1 e.age ++
    leBytes 1 (b2n e.new + 2 * b2n e.vacant + 4 * b2n e.sat + 8 * b2n e.invalid) ++ [0, 0]) s

/-- Changes element `i` of zone `z`; at or beyond the zone's p it is counted as unmapped (R230). -/
def elemUpdate (z i : Nat) (f : Elem → Elem) (s : State) : State :=
  if i < (zoneEntry s z).p then setElem z i (f (elem s z i)) s else bump s R.LFE_CNT_ING_miss 1

/-- A level sample, a count, and the mark of a vacant area (R231). -/
def Elem.level (v : Int) (e : Elem) : Elem := { e with value := v, age := 0, new := true, invalid := false }
def Elem.count (v : Int) (e : Elem) : Elem := { e with acc := min (e.acc + v) 32767 }
def Elem.leave (e : Elem) : Elem := { e with vacant := true }

/-- One measurement of a report (R231); a quality above 2 is no listed source. -/
def measured (z i kind qual val : Nat) (s : State) : State :=
  if qual = 2 then elemUpdate z i (fun e => { e with invalid := true }) s
  else if 2 < qual then s
  else if kind = 1 then elemUpdate z i (fun e => { e.level ((val / 2 : Nat) : Int) with sat := qual == 1 }) s
  else if kind = 2 then elemUpdate z i (fun e => { e.level ((min val 2047 * 16 : Nat) : Int) with sat := qual == 1 }) s
  else if kind = 3 ∨ kind = 4 then elemUpdate z i (·.count ((val * 16 : Nat) : Int)) s
  else s

/-- The frame in an entry of a receive queue: TTE writes it in clear after the tag and the report (R124). -/
def entryFrame (body : List Byte) : Option Frame :=
  if body.length < 20 then none else parseFrame (if bit (leAt body 9 1) 6 then 2 else 4) (body.drop 20)

/-- LFE reads an up frame of its queues (R230). -/
def ingestFrame (f : Frame) (s : State) : State :=
  let a := f.short % 8192
  let pl := f.body.take (f.body.length - 4 * f.nack)
  if f.type = 8 ∧ leAt pl 0 1 = 3 then
    upTo (min 8 (min (leAt pl 3 1) ((pl.length - 16) / 4))) (fun j s =>
      let me := engNat s (16 * a + 2 * j) 2
      if bit me 15 then measured (bits me 8 7) (bits me 0 6) (leAt pl (16 + 4 * j) 1) (leAt pl (17 + 4 * j) 1) (leAt pl (18 + 4 * j) 2) s
      else bump s R.LFE_CNT_ING_miss 1) s
  else if f.type = 10 ∧ 1 ≤ leAt pl 0 1 ∧ leAt pl 0 1 ≤ 6 then
    let kind := leAt pl 0 1
    let h := leAt pl 1 1 % 16
    let pe := engNat s (0x20000 + 8 * a + 4 * b2n (decide (4 < kind))) 4
    let base := bits pe 0 6
    let z := bits pe 16 7
    if !bit pe 31 then bump s R.LFE_CNT_ING_miss 1
    else if kind = 5 then elemUpdate z base Elem.leave s
    else elemUpdate z (if kind ≤ 4 ∧ bit pe 30 ∧ 1 ≤ h ∧ h ≤ 8 then base + h else base) (·.count 16) s
  else s

/-- An event item (R233). -/
def eventItem (b : List Byte) (s : State) : State :=
  let op := leAt b 0 1
  let z := leAt b 1 1
  let i := leAt b 2 1
  let v := signed 16 (leAt b 4 2)
  if b.length ≠ 8 ∨ op = 0 ∨ 3 < op ∨ 127 < z ∨ leAt b 3 1 ≠ 0 ∨ leAt b 6 2 ≠ 0 ∨ (zoneEntry s z).p ≤ i then
    raise s R.LFE_IFLG_evbad
  else elemUpdate z i (fun e =>
    if op = 1 then { e with acc := clampInt (-32768) 32767 (e.acc + v) }
    else if op = 2 then e.level v
    else e.leave) s

/-- The queues LFE takes entries from. -/
def lfeQueues (s : State) : List Nat := [fld s R.LFE_QCFG_rq0, fld s R.LFE_QCFG_rq1, fld s R.LFE_QCFG_evq]

/-- Takes the head entry of queue `q` (R229). -/
def ingestHead (q : Nat) (s : State) : State :=
  match hwHead agentLfe q s with
  | none => s
  | some e =>
    let s := hwNext agentLfe q s
    let s := if q = fld s R.LFE_QCFG_evq then s else { s with tkn := { s.tkn with pmark := leAt e.body 0 6 } }
    if q = fld s R.LFE_QCFG_evq then eventItem e.body s
    else
      let s := match hwWrite agentLfe (fld s R.LFE_QCFG_fwd) e.tag e.body s with
        | (true, s) => s
        | (false, s) => raise (bump s R.LFE_CNT_ING_fwd 1) R.LFE_IFLG_fwddrop
      match entryFrame e.body with
      | some f => ingestFrame f s
      | none => s

/-- Whether LFE ingests (R229). -/
def ingesting (s : State) : Bool := isSet s R.LFE_CTRL_run && isSet s R.LFE_CTRL_ingest

/-- Takes every entry of queue `q` committed before this tick (R234). -/
def ingestAll (q : Nat) : Nat → State → State
  | 0, s => s
  | n + 1, s =>
    match hwHead agentLfe q s with
    | some e => if e.at_ < s.now then ingestAll q n (ingestHead q s) else s
    | none => s

/-! ### A zone's run (R224-R227, R232, R238) -/

/-- Loads a zone's state from its model block (R238). -/
def initZone (z : Nat) (e : ZoneEntry) (s : State) : State :=
  let b := zoneAddr z
  let s := setEng b (padTo 128 (arrayBytes s e 8)) s
  let s := setEng (b + 0x80) (padTo 128 (arrayBytes s e 10)) s
  let s := setEng (b + 0x100) (padTo 128 (arrayBytes s e 9)) s
  setEng (b + 0x200) (List.replicate 512 0) (setEng (b + 0x1C0) (leBytes 2 e.gen) s)

/-- S1 for one element: its sample, and its validity (R232). -/
def sampleElem (z : Nat) (e : ZoneEntry) (desc i : Nat) (s : State) : (Int × Bool) × State :=
  let x := elem s z i
  if bit desc 1 then
    (((if x.acc = 0 ∧ x.vacant then -16 else x.acc), true), setElem z i { x with acc := 0, vacant := false } s)
  else
    ((x.value, !x.invalid && x.age ≤ e.ageMax && (!bit desc 0 || x.new)), setElem z i { x with new := false, age := min 255 (x.age + 1) } s)

/-- What S1 leaves of a zone: its entry, whether the run is outer, y and μ, and whether the zone is active (R232, R237). -/
structure ZoneSnap where
  z : Nat
  e : ZoneEntry
  outer : Bool
  y : List (Int × Bool)
  active : Bool

def snapshotZone (z : Nat) (e : ZoneEntry) (outer : Bool) (s : State) : ZoneSnap × State :=
  let d := arrayBytes s e 11
  let r := (List.range e.p).foldl (fun (acc : (List (Int × Bool) × Bool) × State) i =>
    let v := sampleElem z e (leAt d (2 * i) 2) i acc.2
    ((acc.1.1 ++ [v.1], acc.1.2 || (bit (leAt d (2 * i) 2) 1 && v.1.1 != 0)), v.2)) (([], false), s)
  (⟨z, e, outer, r.1.1, r.1.2⟩, r.2)

/-- S8 for one input (R227). -/
def envelope (i : ZoneInput) (tz : Nat) (v uprev : Int) : Int :=
  let d (r : Nat) : Int := max 1 (r * tz / 1000000000)
  if i.kind = 0 then 0
  else if i.held then i.level
  else
    let t : Int := if v ≤ 0 ∧ i.offOk then 0 else min (max v i.lo) i.hi
    if t = 0 then 0
    else
      let b : Int := if uprev = 0 then i.lo else uprev
      let t := if i.rise ≠ 0 then min t (b + d i.rise) else t
      let t := if i.fall ≠ 0 then max t (b - d i.fall) else t
      min (max t i.lo) i.hi

/-- Counts `n` saturations at a step of a zone (R223). -/
def saturated (z step n : Nat) (s : State) : State :=
  if n = 0 then s
  else
    let s := raise (bump s R.LFE_CNT_SAT_n n) R.LFE_IFLG_sat
    if isSet s R.LFE_SATLOG_valid then s
    else raise (setFld (setFld s R.LFE_SATLOG_zone z) R.LFE_SATLOG_step step) R.LFE_SATLOG_valid

/-- The product of a step with array `i` of a zone, at width `w`, with its saturations. -/
def zoneMul (s : State) (e : ZoneEntry) (w i : Nat) (v : List Int) : List Int × Nat := matVec w (shiftOf s e i) (matrix s e i) v

/-- Steps S2 and S3: the state corrected by what was measured. -/
def zoneCorrect (k : ZoneSnap) (x um : List Int) (s : State) : List Int × State :=
  if k.e.p = 0 then (x, s)
  else
    let p2 := zoneMul s k.e 16 1 (x ++ um)
    let e2 := satAll 16 (subV (k.y.map (·.1)) p2.1)
    let c3 := zoneMul s k.e 16 2 (List.zipWith (fun v m => if m then v else 0) e2.1 (k.y.map (·.2)))
    let xc := satAll 16 (addV x c3.1)
    (xc.1, saturated k.z 3 (c3.2 + xc.2) (saturated k.z 2 (p2.2 + e2.2) s))

/-- Step S4: the targets of an outer run, else those of the last one. -/
def zoneTargets (k : ZoneSnap) (xc : List Int) (s : State) : List Int × State :=
  if k.outer then
    let g := zoneMul s k.e 16 3 xc
    let t := (List.range k.e.q).map (fun j => intsOf 2 (memBytes s (k.e.targets + 8 * j) 6))
    let h := satAll 16 (addV (t.map (·.getD 0 0)) g.1)
    (List.zipWith (fun v (l : List Int) => min (max v (l.getD 1 0)) (l.getD 2 0)) h.1 t, saturated k.z 4 (g.2 + h.2) s)
  else (intsOf 2 (engBytes s (zoneAddr k.z + 0x180) (2 * k.e.q)), s)

/-- Steps S2 to S11 of a zone in cycle `c` with run period `tz` ns; the levels stand beside the state. -/
def runZone (c tz : Nat) (k : ZoneSnap) (s : State) : List Int × State :=
  let e := k.e
  let b := zoneAddr k.z
  let um := intsOf 2 (engBytes s (b + 0x80) (2 * e.m))
  let xi := intsOf 4 (engBytes s (b + 0x100) (4 * e.q))
  let a := zoneCorrect k (intsOf 2 (engBytes s b (2 * e.n))) um s
  let xc := a.1
  let r := zoneTargets k xc a.2
  let s := r.2
  let p5 := zoneMul s e 16 4 (xc ++ um)
  let eps := satAll 16 (subV r.1 p5.1)
  let s := saturated k.z 5 (p5.2 + eps.2) s
  let i6 := zoneMul s e 32 5 eps.1
  let x6 := satAll 32 (addV xi i6.1)
  let s := saturated k.z 6 (i6.2 + x6.2) s
  let v := zoneMul s e 16 6 (xc ++ x6.1.map (· / 65536))
  let s := saturated k.z 7 v.2 s
  let u := List.zipWith (fun (i : ZoneInput) (w : Int × Int) => envelope i tz w.1 w.2) (zoneInputs s e) (List.zip v.1 um)
  let d := satAll 16 (subV u v.1)
  let w9 := zoneMul s e 32 7 d.1
  let x9 := satAll 32 (addV x6.1 w9.1)
  let s := saturated k.z 9 (d.2 + w9.2 + x9.2) s
  let x10 := zoneMul s e 16 8 (xc ++ u)
  let s := saturated k.z 10 x10.2 s
  let s := setEng b (intBytes 2 x10.1) s
  let s := setEng (b + 0x80) (intBytes 2 u) s
  let s := setEng (b + 0x100) (intBytes 4 x9.1) s
  let s := setEng (b + 0x180) (intBytes 2 r.1) s
  (u, setEng (b + 0x1C2) (leBytes 2 (b2n k.active + 2 * b2n k.outer) ++ leBytes 4 c) s)

/-! ### Publishing (R183, R240-R243) -/

/-- The 10-bit entries of a level frame, packed from bit 0. -/
def packLevels (l : List Nat) : List Byte := leBytes ((10 * l.length + 7) / 8) (l.foldr (fun v acc => v + 1024 * acc) 0)

/-- The first position and the count of each frame of a zone, by R183. -/
def frameSplit (radio : List Nat) (nmax : Nat) : Nat → List (Nat × Nat)
  | 0 => []
  | fuel + 1 =>
    match radio with
    | [] => []
    | f :: _ =>
      let inside := radio.filter (fun j => j < f + nmax)
      let last := inside.foldl max f
      (f, last - f + 1) :: frameSplit (radio.filter (fun j => last < j)) nmax fuel

/-- Writes a level frame to a lane's queue (R241, R242). -/
def publishFrame (q : Nat) (body : List Byte) (s : State) : State :=
  match hwWrite agentLfe q 0 body s with
  | (true, s) => bump s R.LFE_CNT_PUB_frames 1
  | (false, s) => raise (bump s R.LFE_CNT_PUB_drop 1) R.LFE_IFLG_pubdrop

/-- Publishes a zone's levels `u` in cycle `c`, triggered in path `p` (R240-R243). -/
def publishZone (c p paths : Nat) (k : ZoneSnap) (u : List Int) (s : State) : State :=
  if isSet s R.LFE_CTRL_quiet then s
  else
    let ins := zoneInputs s k.e
    let s := (List.zip ins u).foldl (fun s iu => if iu.1.kind = 2 then handWired iu.1.who iu.2.toNat k.e.ramp s else s) s
    let radio := (List.range k.e.m).filter (fun j => (ins.map (·.kind)).getD j 0 == 1)
    let lvl := List.zipWith (fun (i : ZoneInput) (v : Int) => if i.kind = 1 ∧ !i.held then v.toNat else 1023) ins u
    let nmax := max 1 (min 64 (8 * (psduMax s - 24) / 10))
    let head := leBytes 6 (p + paths - 1) ++ leBytes 1 (fld s R.LFE_PUB_pwr) ++ [0] ++ mhrWith 0x11 0 (leBytes 2 (0xFF00 + k.z)) 0
    upTo 4 (fun lane s =>
      if bit k.e.lanes lane then
        (frameSplit radio nmax 64).foldl (fun s fr =>
          publishFrame (fld s R.LFE_TXQ_base + lane)
            (head ++ leBytes 1 fr.1 ++ leBytes 1 fr.2 ++ leBytes 1 c ++ leBytes 1 k.e.ramp ++ packLevels ((lvl.drop fr.1).take fr.2)) s) s
      else s) s

/-! ### Cycles (R235-R239, R252-R254) -/

/-- A zone that fails its check (R253). -/
def zoneError (z cause : Nat) (s : State) : State :=
  let s := setFld (setFld s R.LFE_ZERR_zone z) R.LFE_ZERR_cause cause
  let s := bump (raise s R.LFE_IFLG_zerr) R.LFE_CNT_OVR_zerr 1
  let s := setEng (zoneAddr z + 0x1C2) (leBytes 1 (engNat s (zoneAddr z + 0x1C2) 1 ||| 4)) s
  faultRaise 0x0702 z false (post 0x0A 0x02 (leBytes 1 z ++ leBytes 1 cause) s)

/-- K in paths (R235). -/
def cyclePaths (s : State) : Nat := 16 * 2 ^ fld s R.LFE_CYC_kcode

/-- The check and S1 of zone `z` where it is due in cycle `c` (R236, R237). -/
def takeZone (c z : Nat) (l : List ZoneSnap) (s : State) : List ZoneSnap × State :=
  let e := zoneEntry s z
  let n := max 1 (fld s R.LFE_CYC_nouter)
  if !e.en then (l, s)
  else
    let odd := e.pcode = 3 ∨ e.pdiv ≤ e.pphase
    if ¬ odd ∧ c % e.pdiv ≠ e.pphase then (l, s)
    else
      let cause := zoneCause s e
      if cause ≠ 0 then (l, zoneError z cause s)
      else
        let init := engNat s (zoneAddr z + 0x1C0) 2 != e.gen
        let s := if init then initZone z e s else s
        let (k, s) := snapshotZone z e (init || c / e.pdiv % n == 0) s
        (l ++ [k], s)

/-- The directory selected takes effect (R245). -/
def dirSwitch (s : State) : State :=
  if fld s R.LFE_STAT_dir_act = fld s R.LFE_DIRSEL_sel then s
  else raise (setFld s R.LFE_STAT_dir_act (fld s R.LFE_DIRSEL_sel)) R.LFE_IFLG_dir

/-- A trigger in path `p` (R234-R241). -/
def cycleStart (p : Nat) (s : State) : State :=
  let s := dirSwitch (transferShadows s 10 .innerCycle)
  let s := if ingesting s then (lfeQueues s).foldl (fun s q => ingestAll q (queueAt s q).entries.length s) s else s
  let k := cyclePaths s
  let c := p / k
  let (zs, s) := (List.range 128).foldl (fun acc z => takeZone c z acc.1 acc.2) ([], s)
  let s := (zs.filter (·.active) ++ zs.filter (fun x => !x.active)).foldl (fun s x =>
    let (u, s) := runZone c (x.e.pdiv * k * pathLen s) x s
    publishZone c p (x.e.pdiv * k) x u s) s
  raise (setLfe { s.lfe with cyc := some ⟨c, s.now⟩ } s) R.LFE_STAT_cyc_act

/-- A pulse while a cycle is in progress (R252). -/
def cycleOverrun (p : Nat) (s : State) : State :=
  faultRaise 0x0701 0 false
    (post 0x0A 0x01 (leBytes 4 (p / cyclePaths s)) (bump (raise s R.LFE_IFLG_ovr) R.LFE_CNT_OVR_ovr 1))

/-- A pulse at LFE in path `p`. -/
def lfePulse (p : Nat) (s : State) : State :=
  if !isSet s R.LFE_CTRL_run then s else if s.lfe.cyc.isSome then cycleOverrun p s else cycleStart p s

/-- Takes the pulse of route `r` that has not yet reached its block. -/
def takePulse (r : Nat) (s : State) : Option Nat × State :=
  (slook s.ntb.pulses r, { s with ntb := { s.ntb with pulses := sdel s.ntb.pulses r } })

/-- The last zone of the cycle is done (R239, R254). -/
def cycleComplete (s : State) : State :=
  match s.lfe.cyc with
  | none => s
  | some k =>
    let us := min ((s.now - k.started) / 50) (2 ^ 20 - 1)
    let s := setFld (setFld s R.LFE_LAST_c k.c) R.LFE_TIME_us us
    let s := setFld s R.LFE_TMAX_us (max us (fld s R.LFE_TMAX_us))
    let s := lower (bump (raise s R.LFE_IFLG_done) R.LFE_CNT_CYC_n 1) R.LFE_STAT_cyc_act
    let s := setLfe { s.lfe with cyc := none } s
    if isSet s R.LFE_CTRL_run then s else pllSettle (dirSwitch (blockStop s 10))

/-! ### Register hooks -/

def lfeWritten (_o : Origin) (a : Nat) (w : Word) (old s : State) : State :=
  if a = A.LFE_CTRL then
    let s := if isSet s R.LFE_CTRL_run then (if busy s 10 then s else blockStart s 10)
      else if isSet old R.LFE_CTRL_run ∧ s.lfe.cyc.isNone then pllSettle (dirSwitch (blockStop s 10)) else s
    if bit w.toNat 4 then
      if s.pwr.pllE || !busy s 10 then lfePulse s.ntb.path s else { s with pwr := { s.pwr with heldGo := true } }
    else s
  else if a = A.LFE_DIRSEL then (if busy s 10 then s else dirSwitch s)
  else if a = A.LFE_EDATA then (engAccess (some w) (setReg s A.LFE_EDATA 0)).2
  else s

def lfeRead (_o : Origin) (a : Nat) (v : Word) (s : State) : Word × State :=
  if a = A.LFE_EDATA then engAccess none s else (v, s)

/-! ### The commands -/

/-- `LFE_CTRL.run` (LFE_RUN_WRITE, R254). -/
def execLfeRunWrite (o : Origin) (run : Bool) (s : State) : Host.Outcome State Fault Refusal :=
  .next (coreWrite lfeWritten o A.LFE_CTRL (wordWith s R.LFE_CTRL_run (b2n run)) s)

/-- LFE takes an entry of its queue number `i`: 0 reports, 1 presence, 2 events (LFE_INGEST, R229). -/
def execLfeIngest (i : Nat) (s : State) : Host.Outcome State Fault Refusal :=
  .next (match (lfeQueues s)[i]? with
    | some q => if ingesting s && s.pwr.pllE then ingestHead q s else s
    | none => s)

/-- `LFE_CTRL.go` (LFE_GO, R235). -/
def execLfeGo (o : Origin) (s : State) : Host.Outcome State Fault Refusal :=
  .next (coreWrite lfeWritten o A.LFE_CTRL (rwWord s A.LFE_CTRL ||| 0x10) s)

/-- A route 1 pulse reaches LFE with no cycle in progress (INNER_CYCLE_START, R235). -/
def execInnerCycleStart (s : State) : Host.Outcome State Fault Refusal :=
  .next (if s.lfe.cyc.isSome || !s.pwr.pllE then s else
    match takePulse 1 s with
    | (some p, s) => lfePulse p s
    | (none, s) => s)

/-- A route 1 pulse reaches LFE during a cycle (CYCLE_OVERRUN, R252). -/
def execCycleOverrun (s : State) : Host.Outcome State Fault Refusal :=
  .next (if s.lfe.cyc.isNone then s else
    match takePulse 1 s with
    | (some p, s) => lfePulse p s
    | (none, s) => s)

/-- A read or write of LFE_EDATA (ENGINE_WORD_ACCESS, R251). -/
def execEngineWordAccess (o : Origin) (write : Option Word) (s : State) : Host.Outcome State Fault Refusal :=
  .next (match write with
    | some w => coreWrite lfeWritten o A.LFE_EDATA w s
    | none => coreRead lfeRead [] o A.LFE_EDATA s)

end Sys2Proof.Machine
end

