-- ==== Sys2Proof/Machine/Meter.lean ====
section
/-!
DEFINITION. Feeder metering (chapter 11): calibrated samples, line cycles and pseudo-cycles, energy registers, the 1 s
quantities, demand intervals and their records, save images, modulator faults.
-/

namespace Sys2Proof.Machine

def setMtr (m : MtrState) (s : State) : State := { s with mtr := m }

/-! ### Rounding -/

/-- A quotient whose rounding the spec does not state. -/
def openDiv (num : Int) (den : Nat) : Int :=
  if num % (den : Int) = 0 then num / den else num / den + b2n (Config.roundUp num den)

/-- A rounded quotient: the nearest number; how a tie comes out is open. -/
def nearDiv (num : Int) (den : Nat) : Int :=
  let q := num / (den : Int)
  let r := num % (den : Int)
  if 2 * r < den then q else if (den : Int) < 2 * r then q + 1 else q + b2n (Config.roundUp num den)

/-- The square root of `n`; how an inexact one comes out is open. -/
def openSqrt (n : Nat) : Nat :=
  let r := Nat.sqrt n
  if r * r = n then r else r + b2n (Config.roundUp n 0)

/-! ### The calibrated sample (R300-R303) -/

/-- The oversampling exponent j and the ratio N (R300). -/
def osrExp (s : State) : Nat := 6 + fld s R.MTR_CLK_osr
def osr (s : State) : Nat := 2 ^ osrExp s

/-- The divisor of the clock of input `k`. -/
def clockOf (s : State) (k : Nat) : Nat := b2n (fldBit s R.MTR_IN_cksel k)
def clockDiv (s : State) (n : Nat) : Nat := fld s (if n = 0 then R.MTR_CLK_div0 else R.MTR_CLK_div1)

/-- A sample from the filter's accumulator (R300). -/
def sampleOf (s : State) (acc : Nat) : Int :=
  clampInt (-2147483648) 2147483647 ((2 * (acc : Int) - (osr s : Int) ^ 3) * 2 ^ (31 - 3 * osrExp s))

/-- Sample `i` of a series, 0 outside it. -/
def seriesAt (x : List Int) (i : Int) : Int := if i < 0 then 0 else x.getD i.toNat 0

/-- The interpolation of R303 at a delay of 1 + `a / b` samples. -/
def interpolate (x : List Int) (a b : Nat) (n : Nat) : Int :=
  let nd := a / b
  let u : Int := (a % b : Nat)
  let w : Int := b
  let m : Int := (n : Int) - 1 - nd
  let c (num : Int) (k : Nat) : Int := nearDiv (num * 2 ^ 20) (k * b ^ 3)
  let y := c (-(u * (w - u) * (2 * w - u))) 6 * seriesAt x (m + 1) + c ((w + u) * (w - u) * (2 * w - u)) 2 * seriesAt x m +
    c (u * (w + u) * (2 * w - u)) 2 * seriesAt x (m - 1) + c (-(u * (w + u) * (w - u))) 6 * seriesAt x (m - 2)
  nearDiv y (2 ^ 20)

/-- The element whose voltage or current input `k` is, the lowest-numbered first. -/
def elemOfV (s : State) (k : Nat) : Option Nat :=
  (List.range 12).find? (fun e => isSet s (R.ELe_CFG_en e) && fld s (R.ELe_CFG_vin e) == k)
def elemOfI (s : State) (k : Nat) : Option Nat :=
  (List.range 12).find? (fun e => isSet s (R.ELe_CFG_en e) && fld s (R.ELe_CFG_iin e) == k)

/-- The trim of input `k` (R302): its element's, 1.0 for a neutral. -/
def inputTrim (s : State) (k : Nat) : Int :=
  match elemOfI s k, elemOfV s k with
  | some e, _ => signed 32 (fld s (R.ELe_ITRIM_g e))
  | none, some e => signed 32 (fld s (R.ELe_VTRIM_g e))
  | none, none => 2 ^ 30

/-- Step 1: the series s1 of input `k`. -/
def series1 (s : State) (k : Nat) (acc : List Nat) : List Int :=
  acc.map (fun a => clampInt (-2147483648) 2147483647 (sampleOf s a - signed 32 (fld s (R.INk_OFF_off k))))

/-- Steps 2 and 3: the series s3 of input `k`. -/
def series3 (s : State) (k : Nat) (acc : List Nat) : List Int :=
  let x := series1 s k acc
  let dk := (inputDelay s k (fld s (R.INk_DLY_d k)) (fun e => signed 16 (fld s (R.ELe_TRIM2_ph e)))).toNat
  let g := signed 32 (fld s (R.INk_GAIN_g k)) * inputTrim s k
  (List.range x.length).map (fun n => clampInt (-2147483648) 2147483647 (nearDiv (interpolate x dk 1024 n * g) (2 ^ 60)))

/-- The full scale of input `k`. -/
def inputKfs (s : State) (k : Nat) : Int := fld s (R.INk_KFS_kfs k)

/-- The decimator outputs of input `k` in an observation. -/
def obsOf (c : CycleObs) (k : Nat) : List Nat := c.acc.getD k []

/-- The last `n` of a list. -/
def lastN {α : Type} (n : Nat) (l : List α) : List α := l.drop (l.length - n)

/-! ### Feeders -/

def mfdr (s : State) (f : Nat) : MFeeder := sget (fun _ => {}) s.mtr.fdrs f
def setMfdr (f : Nat) (x : MFeeder) (s : State) : State := setMtr { s.mtr with fdrs := sput (fun _ => {}) s.mtr.fdrs f x } s
def melem (s : State) (e : Nat) : Energy := sget (fun _ => {}) s.mtr.elems e

/-- A register in nWh. -/
def nanoWh (u : Nat) : Nat := (nearDiv u (720000000 * 2 ^ 62)).toNat
def Energy.nano (x : Energy) : List Nat := [nanoWh x.ai, nanoWh x.ae, nanoWh x.qp, nanoWh x.qn]

/-- Sorts a net of active and reactive energy (R310). -/
def Energy.sort (x : Energy) (p q : Int) : Energy :=
  { ai := x.ai + p.toNat, ae := x.ae + (-p).toNat, qp := x.qp + q.toNat, qn := x.qn + (-q).toNat }

/-- The interval length in seconds. -/
def intervalSec (s : State) : Nat := 60 * fld s R.MTR_DI_min

/-! ### Records and closes (R315-R318) -/

/-- The 64 octets of a profile record (R317). -/
def profileRecord (s : State) (f : Nat) (x : MFeeder) (c : ClosePend) (now : List Nat) : List Byte :=
  let start := x.start.getD c.stop
  let len := intervalSec s
  let d (i : Nat) : Nat := natAt now i / 1000000 - natAt x.last i / 1000000
  let flags := b2n (decide (c.stop - start < len)) + 2 * b2n (x.long || decide (len < c.stop - start)) + 4 * b2n x.cut +
    8 * b2n x.ovr + 16 * b2n c.forced + 32 * b2n x.merged + 64 * b2n x.first
  let b := leBytes 6 start ++ leBytes 6 c.stop ++ leBytes 1 (f + 4 * fld s R.TKN_CFG_member) ++
    leBytes 1 (x.tstate + 4 * fld s R.NTB_STAT_tstate + 16 * b2n c.locked) ++ leBytes 2 flags ++
    leBytes 8 (d 0) ++ leBytes 8 (d 1) ++ leBytes 8 (d 2) ++ leBytes 8 (d 3) ++
    leBytes 2 (min x.fcyc 65535) ++ leBytes 2 (min x.ncyc 65535) ++ leBytes 2 (min (x.umin.getD 0) 65535) ++
    leBytes 2 (min x.umax 65535) ++ leBytes 4 s.mtr.rec_
  b ++ leBytes 4 (crc32 b)

/-- Feeder `f` closes its interval at a cycle end (R315, R317). -/
def feederClose (f : Nat) (c : ClosePend) (s : State) : State :=
  let x := mfdr s f
  let wi := fld s R.MTR_PRF_IDX_wi
  if (wi + 1) % 64 = fld s R.MTR_PRF_IDX_ri then
    raise (bump (setMfdr f { x with pend := none, merged := true } s) R.MTR_CNT_prf_lost 1) R.MTR_IFLG_prf
  else
    let now := x.reg.nano
    let s1 := setBytes s (4096 * fld s R.MTR_PRF_addr + 64 * wi) (profileRecord s f x c now)
    let s1 := setFld s1 R.MTR_PRF_IDX_wi ((wi + 1) % 64)
    let s1 := setMtr { s1.mtr with rec_ := (s1.mtr.rec_ + 1) % 2 ^ 32 } s1
    let x := { x with pend := none, last := now, start := some c.stop, tstate := fld s R.NTB_STAT_tstate, cut := false }
    let x := { x with long := false, ovr := false, merged := false, first := false, fcyc := 0, ncyc := 0, umin := none, umax := 0 }
    raise (setMfdr f x s1) R.MTR_IFLG_close

/-- Marks every enabled feeder close-pending (R315, R316); the shadows take effect. -/
def closeAll (locked forced : Bool) (s : State) : State :=
  if !busy s 9 then s
  else
    let s := transferShadows s 9 .demand
    let len := intervalSec s
    let stop := if forced then netSec s else netSec s / len * len
    (feedersOn s).foldl (fun s f => setMfdr f { mfdr s f with pend := some ⟨stop, locked, forced⟩ } s) s

/-! ### Cycles (R307-R310) -/

/-- Samples per second of feeder `f`'s reference as a fraction: 200,000,000 / (div × N). -/
def sampleTicks (s : State) (f : Nat) : Nat :=
  match feederElems s f with
  | e :: _ => clockDiv s (clockOf s (fld s (R.ELe_CFG_vin e))) * osr s
  | [] => osr s * 20

/-- Whether a cycle of `n` samples is valid (R307). -/
def cycleValid (s : State) (f n : Nat) : Bool :=
  let t := n * sampleTicks s f
  200000000 ≤ 66 * t && 45 * t ≤ 200000000

/-- The samples of a timed-out cycle and of a pseudo-cycle (R307). -/
def timeoutLen (s : State) (f : Nat) : Nat := 200000000 / (45 * sampleTicks s f)
def pseudoLen (s : State) (f : Nat) : Nat := 200000000 / (50 * sampleTicks s f)

/-- The inputs that fault an element's cycle. -/
def elemFaulted (s : State) (f e : Nat) : Bool :=
  let t := (mfdr s f).tainted
  t.contains (fld s (R.ELe_CFG_vin e)) || t.contains (fld s (R.ELe_CFG_iin e))

def dotV (a b : List Int) : Int := (List.zipWith (· * ·) a b).sum

/-- What a cycle gives an element: voltage and current squares, active and reactive sums, in samples' units (R309). -/
structure ElemCycle where
  v2 : Nat
  i2 : Nat
  p : Int
  q : Int

def elemCycle (s : State) (f e n : Nat) (c : CycleObs) : ElemCycle :=
  let kv := fld s (R.ELe_CFG_vin e)
  let ki := fld s (R.ELe_CFG_iin e)
  let v := (lastN n (series3 s kv (obsOf c kv))).map (· * inputKfs s kv)
  let i := (lastN n (series3 s ki (obsOf c ki))).map (· * inputKfs s ki)
  -- v′: the feeder's reference, a quarter of the last valid cycle (5 ms in pseudo-cycles) later
  let kr := match feederElems s f with
    | r :: _ => fld s (R.ELe_CFG_vin r)
    | [] => kv
  let x := mfdr s f
  let ref := series3 s kr (obsOf c kr)
  let (a, b) := if x.pseudo ∨ x.period = 0 then (1000000 - sampleTicks s f, sampleTicks s f) else (x.period - 4, 4)
  let vd := (lastN n ((List.range ref.length).map (interpolate ref a b))).map (· * inputKfs s kr)
  let i2 := (dotV i i).toNat
  let creep := fld s (R.ELe_TRIM2_creep e)
  let low := i2 < creep * creep * n * 2 ^ 62
  { v2 := (dotV v v).toNat, i2, p := if low then 0 else dotV v i, q := if low then 0 else dotV vd i }

/-- A cycle's Urms in 0.1 V. -/
def cycleUrms (v2 n : Nat) : Nat := if n = 0 then 0 else openSqrt (v2 / (n * 2 ^ 62 * 10000))

/-- The inputs of feeder `f`. -/
def feederInputs (s : State) (f : Nat) : List Nat :=
  (feederElems s f).flatMap (fun e => [fld s (R.ELe_CFG_vin e), fld s (R.ELe_CFG_iin e)]) ++
    (if isSet s (R.FDf_CFG_nen f) then [fld s (R.FDf_CFG_nin f)] else [])

/-- The samples of the cycle enter the windows of the inputs whose lowest feeder is `f`. -/
def inputWindows (f n : Nat) (c : CycleObs) (s : State) : State :=
  ((feederInputs s f).dedup.filter (fun k => (feedersOn s).find? (fun g => (feederInputs s g).contains k) == some f)).foldl
    (fun s k =>
      let x := lastN n (series1 s k (obsOf c k))
      let w := sget (fun _ => ({} : InputWin)) s.mtr.iwin k
      let w := { w with n := w.n + x.length, sum := w.sum + x.sum, sq := w.sq + (dotV x x).toNat,
                        last := (obsOf c k).getLast?.elim w.last (fun a => sampleOf s a) }
      setMtr { s.mtr with iwin := sput (fun _ => {}) s.mtr.iwin k w } s) s

/-- The kinds of cycle end. -/
inductive CycleKind where
  | line (valid : Bool)
  | timeout
  | pseudo
  deriving DecidableEq, Repr

/-- A cycle of `n` samples of feeder `f` ends: sums, registers, counts (R308-R311). -/
def cycleSort (f n : Nat) (kind : CycleKind) (c : CycleObs) (s : State) : State :=
  let es := feederElems s f
  let r := es.map (fun e => (e, elemCycle s f e n c, elemFaulted s f e))
  let ts : Int := match es with
    | e :: _ => (osr s * clockDiv s (clockOf s (fld s (R.ELe_CFG_vin e))) : Nat)
    | [] => 0
  let good := r.filter (fun x => !x.2.2)
  let s := good.foldl (fun s x =>
    setMtr { s.mtr with elems := sput (fun _ => {}) s.mtr.elems x.1 ((melem s x.1).sort (x.2.1.p * ts) (x.2.1.q * ts)) } s) s
  let s := r.foldl (fun s x =>
    let w := sget (fun _ => ({} : ElemWin)) s.mtr.ewin x.1
    let w := { w with cycles := w.cycles + 1, n := w.n + n, v2 := w.v2 + x.2.1.v2, i2 := w.i2 + x.2.1.i2,
                      p := w.p + x.2.1.p, q := w.q + x.2.1.q, bad := w.bad || x.2.2 }
    setMtr { s.mtr with ewin := sput (fun _ => {}) s.mtr.ewin x.1 w } s) s
  let nin := fld s (R.FDf_CFG_nin f)
  let neutral := if isSet s (R.FDf_CFG_nen f) then (lastN n (series3 s nin (obsOf c nin))).map (· * inputKfs s nin) else []
  let resid := es.foldl (fun acc e =>
    let k := fld s (R.ELe_CFG_iin e)
    List.zipWith (· + ·) acc ((lastN n (series3 s k (obsOf c k))).map (· * inputKfs s k))) neutral
  let w := sget (fun _ => ({} : FeederWin)) s.mtr.fwin f
  let w := { w with cycles := w.cycles + 1, n := w.n + n, n2 := w.n2 + (dotV neutral neutral).toNat,
                    r2 := w.r2 + (dotV resid resid).toNat, vcyc := w.vcyc + b2n (kind == .line true),
                    vsmp := w.vsmp + (if kind = .line true then c.period else 0), pseudo := w.pseudo || kind == .pseudo,
                    bad := w.bad || r.any (·.2.2) }
  let s := setMtr { s.mtr with fwin := sput (fun _ => {}) s.mtr.fwin f w } s
  let s := inputWindows f n c s
  let x := mfdr s f
  let us := r.map (fun x => cycleUrms x.2.1.v2 n)
  let lo := us.foldl (fun (m : Option Nat) u => some (match m with
    | some v => min v u
    | none => u)) x.umin
  setMfdr f { x with
    reg := x.reg.sort ((good.map (·.2.1.p)).sum * ts) ((good.map (·.2.1.q)).sum * ts)
    fcyc := x.fcyc + r.countP (·.2.2), ncyc := x.ncyc + b2n (kind == .pseudo), umin := lo, umax := us.foldl max x.umax
    tainted := s.mtr.liveIn } s

/-- Whether the module drives its modulator clocks (R298). -/
def meterDrive (s : State) : State :=
  let d := fld s R.MTR_CTRL_ckdrv
  setBool s R.MTR_STAT_ck_drv (busy s 9 && (d == 1 || (d == 2 && isSet s R.SDC_STAT_own)))

/-- MTR stops once every feeder has ended its cycle. -/
def meterHalt (s : State) : State :=
  if !isSet s R.MTR_CTRL_run && busy s 9 && (feedersOn s).all (fun f => (mfdr s f).stopped) then
    let s := setMtr { s.mtr with liveIn := [], liveCk := [], samples := 0 } s
    meterDrive (lower (blockStop s 9) R.MTR_STAT_aligned)
  else s

/-- After a cycle: a pending close, then a stop (R315). -/
def cycleDone (f : Nat) (s : State) : State :=
  let s := match (mfdr s f).pend with
    | some c => feederClose f c s
    | none => s
  if isSet s R.MTR_CTRL_run then s else meterHalt (setMfdr f { mfdr s f with stopped := true } s)

/-- Whether feeder `f` counts cycles now. -/
def feederLive (s : State) (f : Nat) : Bool :=
  busy s 9 && isSet s R.MTR_STAT_aligned && (feedersOn s).contains f && !(mfdr s f).stopped

/-- A crossing ends a line cycle (LINE_CYCLE_END); in pseudo-cycles only one that ends a valid cycle counts. -/
def lineCycleEnd (f : Nat) (c : CycleObs) (s : State) : State :=
  let valid := cycleValid s f c.period
  let x := mfdr s f
  if !feederLive s f ∨ (x.pseudo ∧ !valid) ∨ c.n = 0 then s
  else
    let s := if valid then setMfdr f { x with pseudo := false } s else s
    let s := cycleSort f c.n (.line valid) c s
    let s := if valid then setMfdr f { mfdr s f with validAt := s.now, period := c.period } s else s
    cycleDone f s

/-- A cycle without a crossing times out (R307). -/
def lineCycleTimeout (f : Nat) (c : CycleObs) (s : State) : State :=
  if !feederLive s f ∨ (mfdr s f).pseudo then s else cycleDone f (cycleSort f (timeoutLen s f) .timeout c s)

/-- A feeder without a valid cycle for 100 ms (R307). -/
def pseudoEntry (f : Nat) (s : State) : State :=
  let x := mfdr s f
  if !feederLive s f ∨ x.pseudo ∨ s.now - x.validAt < msTicks 100 then s
  else raise (setMfdr f { x with pseudo := true } s) R.MTR_IFLG_nov

/-- A pseudo-cycle ends (R307). -/
def pseudoEnd (f : Nat) (c : CycleObs) (s : State) : State :=
  if !feederLive s f ∨ !(mfdr s f).pseudo then s else cycleDone f (cycleSort f (pseudoLen s f) .pseudo c s)

/-! ### Alignment and the 1 s window (R301, R311) -/

/-- A route 2 pulse. -/
def routePulse2 (s : State) : State :=
  if !busy s 9 then s
  else if !isSet s R.MTR_STAT_aligned then
    let s := setMtr { s.mtr with alignAt := s.now, samples := 0 } (raise s R.MTR_STAT_aligned)
    (feedersOn s).foldl (fun s f =>
      let x := mfdr s f
      let x := { x with validAt := s.now }
      setMfdr f (if x.start.isNone then { x with start := some (netSec s), tstate := fld s R.NTB_STAT_tstate } else x) s) s
  else
    -- the clocks since the start; a received clock's number is the outside's
    let own := (s.now - s.mtr.alignAt) * 4 / clockDiv s 0
    let (clocks, s) := if isSet s R.MTR_STAT_ck_drv then (own, s) else takeFree 32 s
    let n := clocks / osr s
    let s := setFld (setFld s R.MTR_ALGN_phase (clocks % osr s)) R.MTR_ALGN_nsmp ((n - s.mtr.samples) % 2 ^ 20)
    setMtr { s.mtr with samples := n, elat := s.mtr.ewin, flat := s.mtr.fwin, ilat := s.mtr.iwin, ewin := [], fwin := [],
                        iwin := [], eregs := s.mtr.elems,
                        fregs := s.mtr.fdrs.map (fun p => (p.1, p.2.reg)) } s

/-- A route 3 pulse (R315). -/
def routePulse3 (locked : Bool) (s : State) : State := closeAll locked false s

/-! ### Reading (R311, R312) -/

/-- P, Q in mW, mvar of an element's window. -/
def winP (w : ElemWin) : Int := if w.n = 0 then 0 else openDiv w.p (w.n * 2 ^ 62 * 1000)
def winQ (w : ElemWin) : Int := if w.n = 0 then 0 else openDiv w.q (w.n * 2 ^ 62 * 1000)
def winRms (sq n : Nat) : Nat := if n = 0 then 0 else openSqrt (sq / (n * 2 ^ 62))
def winS (w : ElemWin) : Int := openDiv (winRms w.v2 w.n * winRms w.i2 w.n : Nat) 1000

/-- A power factor; that of 0/0 is open. -/
def powerFactor (p q : Int) (s : State) : Int × State :=
  if q = 0 then let (v, s) := takeFree 32 s; (signed 32 v, s) else (openDiv (10000 * p) q.toNat, s)

/-- The value, fraction and validity of the quantity that RD_SEL word `w` names. -/
def meterValue (w : Nat) (s : State) : (Int × Nat × Bool) × State :=
  let kind := bits w 0 2
  let i := bits w 4 4
  let qty := bits w 8 8
  let ew (e : Nat) : ElemWin := sget (fun _ => {}) s.mtr.elat e
  let fw := sget (fun _ => ({} : FeederWin)) s.mtr.flat i
  let es := feederElems s i
  let energy (x : Energy) (bad : Bool) : (Int × Nat × Bool) × State :=
    let n := natAt x.nano qty
    (((n / 1000000 : Nat), n % 1000000, !bad), s)
  if kind = 1 ∧ i < 12 then
    let x := ew i
    let ok := !x.bad && x.cycles != 0
    if qty < 4 then energy (sget (fun _ => {}) s.mtr.eregs i) x.bad
    else if qty = 0x10 then ((winRms x.v2 x.n, 0, ok), s)
    else if qty = 0x11 then ((winRms x.i2 x.n, 0, ok), s)
    else if qty = 0x12 then ((winP x, 0, ok), s)
    else if qty = 0x13 then ((winQ x, 0, ok), s)
    else if qty = 0x14 then ((winS x, 0, ok), s)
    else if qty = 0x15 then let (v, s) := powerFactor (winP x) (winS x) s; ((v, 0, ok), s)
    else ((0, 0, false), s)
  else if kind = 2 ∧ i < 4 then
    let ok := !fw.bad && fw.cycles != 0
    let p := (es.map (fun e => winP (ew e))).sum
    let sv := (es.map (fun e => winS (ew e))).sum
    if qty < 4 then energy (sget (fun _ => {}) s.mtr.fregs i) fw.bad
    else if qty = 0x11 then ((winRms fw.n2 fw.n, 0, ok), s)
    else if qty = 0x12 then ((p, 0, ok), s)
    else if qty = 0x13 then (((es.map (fun e => winQ (ew e))).sum, 0, ok), s)
    else if qty = 0x14 then ((sv, 0, ok), s)
    else if qty = 0x15 then let (v, s) := powerFactor p sv s; ((v, 0, ok), s)
    else if qty = 0x16 then
      ((if fw.pseudo ∨ fw.vsmp = 0 then 0 else openDiv (1000 * 200000000 * fw.vcyc : Nat) (fw.vsmp * sampleTicks s i), 0, ok), s)
    else if qty = 0x17 then ((if isSet s (R.FDf_CFG_nen i) then (winRms fw.r2 fw.n : Int) else 0, 0, ok), s)
    else ((0, 0, false), s)
  else if kind = 0 then
    let x := sget (fun _ => ({} : InputWin)) s.mtr.ilat i
    let ok := !s.mtr.liveIn.contains i
    if qty = 0x20 then (((sget (fun _ => ({} : InputWin)) s.mtr.iwin i).last, 0, ok), s)
    else if qty = 0x21 then ((if x.n = 0 then 0 else openDiv x.sum x.n, 0, ok), s)
    else if qty = 0x22 then (((if x.n = 0 then 0 else openSqrt (x.sq / x.n) : Nat), 0, ok), s)
    else ((0, 0, false), s)
  else ((0, 0, false), s)

/-- What MTR answers to a read: each core has its own selection and holding registers (R312). -/
def mtrRead (o : Origin) (a : Nat) (v : Word) (s : State) : Word × State :=
  let is1 := o.core == .core1
  let h := if is1 then s.mtr.hold1 else s.mtr.hold0
  if a = A.MTR_RD_SEL then (if is1 then s.mtr.sel1 else v, s)
  else if a = A.MTR_RD_LO then
    let (x, s) := meterValue (if is1 then s.mtr.sel1 else reg s A.MTR_RD_SEL).toNat s
    let n := unsigned 64 x.1
    let h : MeterHold := ⟨n / 2 ^ 32, x.2.1, x.2.2⟩
    (BitVec.ofNat 32 n, setMtr (if is1 then { s.mtr with hold1 := h } else { s.mtr with hold0 := h }) s)
  else if a = A.MTR_RD_HI then (BitVec.ofNat 32 h.hi, s)
  else if a = A.MTR_RD_FR then (BitVec.ofNat 32 (h.fr + 2 ^ 31 * b2n h.valid), s)
  else (v, s)

/-! ### Save images (R319-R321) -/

def meterCopy (s : State) (i : Nat) : Option MeterImage := if i = 0 then s.nv.image0 else s.nv.image1
def setMeterCopy (i : Nat) (x : Option MeterImage) (s : State) : State :=
  { s with nv := if i = 0 then { s.nv with image0 := x } else { s.nv with image1 := x } }

/-- The copy that the next image replaces: an invalid one, else the older. -/
def olderCopy (s : State) : Nat :=
  match s.nv.image0, s.nv.image1 with
  | none, _ => 0
  | some _, none => 1
  | some a, some b => if a.seq ≤ b.seq then 0 else 1

/-- A snapshot into copy `i`; until it is complete that copy is invalid. -/
def saveStart (i : Nat) (pf : Bool) (s : State) : State :=
  let x : MeterImage := ⟨s.mtr.elems, s.mtr.fdrs, s.mtr.rec_, netSec s, pf, fld s R.MTR_SAVE_seq + 1⟩
  setMeterCopy i none (raise (setMtr { s.mtr with saving := some (i, x) } s) R.MTR_STAT_save_busy)

/-- `MTR_CTRL.save`. -/
def meterSave (s : State) : State := if isSet s R.MTR_STAT_save_busy then cfgErr s 9 else saveStart (olderCopy s) false s

/-- The early warning asserts (R320). -/
def meterWarning (s : State) : State :=
  match s.mtr.saving with
  | some (i, _) => saveStart i true (bump s R.MTR_CNT_save_ab 1)
  | none => saveStart (olderCopy s) true s

/-- An image write completes. -/
def saveDone (s : State) : State :=
  match s.mtr.saving with
  | none => s
  | some (i, x) =>
    let s := setMeterCopy i (some x) (setMtr { s.mtr with saving := none } s)
    raise (lower (setFld s R.MTR_SAVE_seq x.seq) R.MTR_STAT_save_busy) R.MTR_IFLG_save

/-- The latched energies follow the registers while MTR is stopped. -/
def meterShow (s : State) : State :=
  setMtr { s.mtr with eregs := s.mtr.elems, fregs := s.mtr.fdrs.map (fun p => (p.1, p.2.reg)) } s

/-- Registers and intervals of a module that holds no image, or of cleared registers (R318). -/
def meterFresh (s : State) : State :=
  meterShow (setMtr { s.mtr with elems := [], fdrs := (List.range 4).map (fun f => (f, { first := true })) } s)

/-- `MTR_CTRL.load` (R321). -/
def meterLoad (s : State) : State :=
  if busy s 9 then cfgErr s 9
  else
    let pick := match s.nv.image0, s.nv.image1 with
      | some a, some b => some (if a.seq ≤ b.seq then b else a)
      | some a, none => some a
      | none, b => b
    match pick with
    | none =>
      post 0x09 0x03 (leBytes 1 2 ++ leBytes 6 0) (setFld (meterFresh s) R.MTR_STAT_load_res 2)
    | some x =>
      let keep (p : Nat × MFeeder) : Nat × MFeeder := (p.1, { p.2 with pseudo := false, period := 0, tainted := [], stopped := false })
      let s := meterShow (setMtr { s.mtr with elems := x.elems, fdrs := x.fdrs.map keep, rec_ := x.rec_ } s)
      let r := if x.pf then 0 else 1
      post 0x09 0x03 (leBytes 1 r ++ leBytes 6 x.sec) (setFld (setFld s R.MTR_SAVE_seq x.seq) R.MTR_STAT_load_res r)

/-- `MTR_CTRL.clear` (R321). -/
def meterClear (s : State) : State := if busy s 9 then cfgErr s 9 else post 0x09 0x05 [] (meterFresh s)

/-! ### Starting and stopping (R306, R318) -/

/-- MTR starts: a feeder whose interval ended in the past closes at its first cycle end. -/
def meterStart (s : State) : State :=
  let s := meterDrive (blockStart s 9)
  let len := intervalSec s
  (feedersOn s).foldl (fun s f =>
    let x := { mfdr s f with cut := true, stopped := false, pseudo := false, tainted := [] }
    match x.start with
    | none => setMfdr f x s
    | some t =>
      let ends := (t / len + 1) * len
      if netSec s < ends then setMfdr f x s
      else
        let stop := netSec s / len * len
        let s := setMfdr f { x with long := true, pend := some ⟨stop, false, false⟩ } s
        if ends < stop then post 0x09 0x04 (leBytes 1 f ++ leBytes 6 ends ++ leBytes 6 stop) s else s) s

/-- `run` = 0: the feeders end their cycles; without one in progress MTR stops at once. -/
def meterStop (s : State) : State :=
  if isSet s R.MTR_STAT_aligned then meterHalt s
  else meterHalt ((feedersOn s).foldl (fun s f => setMfdr f { mfdr s f with stopped := true } s) s)

/-! ### Modulator faults (R299) -/

/-- Inputs become live-faulted: the cycle in progress of every feeder is tainted. -/
def inputsLive (ks : List Nat) (s : State) : State :=
  let s := setMtr { s.mtr with liveIn := (s.mtr.liveIn ++ ks).dedup } s
  (List.range 4).foldl (fun s f => let x := mfdr s f; setMfdr f { x with tainted := (x.tainted ++ ks).dedup } s) s

def meterFlt (s : State) : State := post 0x09 0x01 (leBytes 4 (reg s A.MTR_FLT).toNat) (raise s R.MTR_IFLG_flt)

/-- Input `k` is stuck. -/
def inputStuck (k : Nat) (s : State) : State :=
  if !busy s 9 ∨ !fldBit s R.MTR_IN_en k then s
  else faultRaise 0x0401 k true (meterFlt (inputsLive [k] (raiseBit s R.MTR_FLT_stuck k)))

/-- Clock `n` faulted or was lost: every input that takes its clock from it is live-faulted. -/
def clockFault (n : Nat) (s : State) : State :=
  if !busy s 9 then s
  else
    let s := setMtr { s.mtr with liveCk := (n :: s.mtr.liveCk).dedup } s
    let ks := (List.range 16).filter (fun k => fldBit s R.MTR_IN_en k && clockOf s k == n)
    faultRaise 0x0401 (0x100 + n) true (meterFlt (inputsLive ks (raiseBit s R.MTR_FLT_ck n)))

/-- A decimated sample of input `k` at 15/16 of full scale or more. -/
def overRange (k acc : Nat) (s : State) : State :=
  if !busy s 9 ∨ !fldBit s R.MTR_IN_en k ∨ (sampleOf s acc).natAbs < 0x78000000 then s
  else
    let s := raise (raiseBit s R.MTR_OVR_ovr k) R.MTR_IFLG_ovr
    let s := (feedersOn s).foldl (fun s f =>
      if (feederInputs s f).contains k then setMfdr f { mfdr s f with ovr := true } s else s) s
    post 0x09 0x02 (leBytes 2 (fld s R.MTR_OVR_ovr)) s

/-- Ten milliseconds after its condition a stuck input (`clock` false) or a clock fault is no longer live. -/
def faultLiveEnd (clock : Bool) (n : Nat) (s : State) : State :=
  if clock then
    if !s.mtr.liveCk.contains n then s
    else
      let s := setMtr { s.mtr with liveCk := s.mtr.liveCk.erase n, liveIn := s.mtr.liveIn.filter (fun k => clockOf s k != n) } s
      faultGone 0x0401 (0x100 + n) s
  else if !s.mtr.liveIn.contains n ∨ s.mtr.liveCk.contains (clockOf s n) then s
  else faultGone 0x0401 n (setMtr { s.mtr with liveIn := s.mtr.liveIn.erase n } s)

/-! ### Register hooks -/

def mtrWritten (o : Origin) (a : Nat) (w : Word) (old s : State) : State :=
  if a = A.MTR_CTRL then
    let s := if bit w.toNat 4 then meterLoad s else s
    let s := if bit w.toNat 6 then meterClear s else s
    let s := if bit w.toNat 7 then closeAll false true s else s
    let s := if bit w.toNat 5 then meterSave s else s
    if isSet s R.MTR_CTRL_run then (if busy s 9 then s else meterStart s)
    else if isSet old R.MTR_CTRL_run then meterStop s else s
  else if a = A.MTR_RD_SEL ∧ o.core = .core1 then
    setMtr { s.mtr with sel1 := w &&& 0xFFF3 } (setReg s a (reg old a))
  else s

/-! ### The firmware's copy (R317) -/

/-- The resident firmware copies the oldest record of the ring and advances `ri`. -/
def profileCopy (s : State) : State :=
  let ri := fld s R.MTR_PRF_IDX_ri
  if ri = fld s R.MTR_PRF_IDX_wi then s
  else
    let b := memBytes s (4096 * fld s R.MTR_PRF_addr + 64 * ri) 64
    setFld { s with nv := { s.nv with profile := s.nv.profile ++ [b] } } R.MTR_PRF_IDX_ri ((ri + 1) % 64)

/-! ### The commands -/

/-- `MTR_CTRL.run` (METER_RUN_WRITE, R306). -/
def execMeterRunWrite (o : Origin) (run : Bool) (s : State) : Host.Outcome State Fault Refusal :=
  .next (coreWrite mtrWritten o A.MTR_CTRL (wordWith s R.MTR_CTRL_run (b2n run)) s)

/-- `MTR_CTRL.load` (METER_LOAD, R321). -/
def execMeterLoad (o : Origin) (s : State) : Host.Outcome State Fault Refusal :=
  .next (coreWrite mtrWritten o A.MTR_CTRL (rwWord s A.MTR_CTRL ||| 0x10) s)

/-- `MTR_CTRL.save` (METER_SAVE, R319). -/
def execMeterSave (o : Origin) (s : State) : Host.Outcome State Fault Refusal :=
  .next (coreWrite mtrWritten o A.MTR_CTRL (rwWord s A.MTR_CTRL ||| 0x20) s)

/-- An image write completes (METER_SAVE_DONE, R319). -/
def execMeterSaveDone (s : State) : Host.Outcome State Fault Refusal := .next (saveDone s)

/-- `MTR_CTRL.clear` (METER_CLEAR, R321). -/
def execMeterClear (o : Origin) (s : State) : Host.Outcome State Fault Refusal :=
  .next (coreWrite mtrWritten o A.MTR_CTRL (rwWord s A.MTR_CTRL ||| 0x40) s)

/-- `MTR_CTRL.close` (METER_CLOSE, R315). -/
def execMeterClose (o : Origin) (s : State) : Host.Outcome State Fault Refusal :=
  .next (coreWrite mtrWritten o A.MTR_CTRL (rwWord s A.MTR_CTRL ||| 0x80) s)

/-- A line cycle of feeder `f` ends at a crossing (LINE_CYCLE_END, R310). -/
def execLineCycleEnd (f : Nat) (c : CycleObs) (s : State) : Host.Outcome State Fault Refusal := .next (lineCycleEnd f c s)

/-- A cycle of feeder `f` times out (LINE_CYCLE_TIMEOUT, R307). -/
def execLineCycleTimeout (f : Nat) (c : CycleObs) (s : State) : Host.Outcome State Fault Refusal :=
  .next (lineCycleTimeout f c s)

/-- Feeder `f` enters pseudo-cycles (PSEUDO_CYCLE_ENTRY, R307). -/
def execPseudoCycleEntry (f : Nat) (s : State) : Host.Outcome State Fault Refusal := .next (pseudoEntry f s)

/-- A pseudo-cycle of feeder `f` ends (PSEUDO_CYCLE_END, R307). -/
def execPseudoCycleEnd (f : Nat) (c : CycleObs) (s : State) : Host.Outcome State Fault Refusal := .next (pseudoEnd f c s)

/-- Input `k` shows no transition for 2 ms (MODULATOR_STUCK, R299). -/
def execModulatorStuck (k : Nat) (s : State) : Host.Outcome State Fault Refusal := .next (inputStuck (k % 16) s)

/-- Clock `n` reads back wrongly or stops (CLOCK_FAULT, R299). -/
def execClockFault (n : Nat) (s : State) : Host.Outcome State Fault Refusal := .next (clockFault (n % 2) s)

/-- A decimated sample with accumulator `acc` (OVER_RANGE, R299). -/
def execOverRange (k acc : Nat) (s : State) : Host.Outcome State Fault Refusal := .next (overRange (k % 16) acc s)

/-- A fault stops being live (FAULT_LIVE_END, R299). -/
def execFaultLiveEnd (clock : Bool) (n : Nat) (s : State) : Host.Outcome State Fault Refusal := .next (faultLiveEnd clock n s)

/-- A read of MTR_RD_LO (METER_VALUE_READ, R312). -/
def execMeterValueRead (o : Origin) (s : State) : Host.Outcome State Fault Refusal :=
  .next (coreRead mtrRead [] o A.MTR_RD_LO s)

end Sys2Proof.Machine
end

