-- ==== Sys2Proof/Machine/Icu.lean ====
section
/-!
DEFINITION. The interrupt controller (chapter 23): 160 sources with their states and counts, claim and complete, delivery to
the two targets, the wake latches.
-/

namespace Sys2Proof.Machine

/-! ### Sources (R566, R567) -/

/-- The sources that request while flag `bit` of a block's IFLG and IEN are both 1: first source, number, block, first bit. -/
def flagSources : List (Nat × Nat × Nat × Nat) :=
  [(0, 5, 0, 0), (5, 8, 2, 0), (13, 6, 3, 0), (19, 4, 4, 0), (23, 12, 5, 0), (35, 7, 6, 0), (42, 8, 7, 0), (50, 6, 8, 0),
   (56, 6, 9, 0), (62, 8, 10, 0), (70, 8, 11, 0), (78, 4, 12, 0), (82, 9, 13, 0), (91, 3, 14, 0), (94, 6, 15, 0),
   (126, 8, 16, 8), (152, 1, 1, 0)]

/-- Whether bit `i` of block `b`'s IFLG and IEN are both 1. -/
def flagAsks (s : State) (b i : Nat) : Bool :=
  isSet s ⟨blockBase b + 12, i, 1⟩ && isSet s ⟨blockBase b + 8, i, 1⟩

/-- The request line of source `n` now; the pad-fed and software sources carry pulses only. -/
def srcLine (s : State) (n : Nat) : Bool :=
  if n = 100 then flagAsks s 17 0 || flagAsks s 17 1
  else if n = 101 then flagAsks s 17 2 || flagAsks s 17 3
  else if 134 ≤ n ∧ n ≤ 151 then flagAsks s (n - 134) 31
  else match flagSources.find? (fun p => p.1 ≤ n && n < p.1 + p.2.1) with
    | some (first, _, b, i) => flagAsks s b (i + (n - first))
    | none => false

/-- Source `n` as ICU holds it. -/
def icuSrc (s : State) (n : Nat) : IcuSrc := sget (fun _ => {}) s.icu.srcs n

def setIcuSrc (n : Nat) (x : IcuSrc) (s : State) : State :=
  { s with icu := { s.icu with srcs := sput (fun _ => {}) s.icu.srcs n x } }

/-- A pulse of one clock on the request line of source `n`; it reaches ICU 20 ns later. -/
def icuPulse (n : Nat) (s : State) : State := { s with icu := { s.icu with flight := s.icu.flight ++ [n] } }

/-! ### States (R568, R569) -/

/-- A source after a change of its request. -/
def IcuSrc.change (edge level : Bool) (x : IcuSrc) : IcuSrc :=
  let x := { x with req := level }
  if level then
    { x with count := min 255 (x.count + 1)
             state := if x.state = 0 then 1 else if edge && x.state == 2 then 3 else x.state }
  else if !edge && x.state == 1 then { x with state := 0 }
  else x

/-- A source after its complete. -/
def IcuSrc.complete (edge : Bool) (x : IcuSrc) : IcuSrc :=
  { x with cprio := 0
           state := if x.state = 3 then 1 else if !edge && x.req then 1 else 0 }

/-- Whether a source is active or active-pending. -/
def IcuSrc.active (x : IcuSrc) : Bool := 2 ≤ x.state

/-! ### Priority, target and delivery (R570-R573) -/

def srcTarget (s : State) (n : Nat) : Nat := fld s (R.ICU_PRIOn_tgt n)
def srcPrio (s : State) (n : Nat) : Nat := fld s (R.ICU_PRIOn_prio n)

/-- The listed sources in one of the states that `p` picks, routed to target `t`. -/
def srcsOn (s : State) (t : Nat) (p : IcuSrc → Bool) : List (Nat × IcuSrc) :=
  s.icu.srcs.filter (fun e => p e.2 && srcTarget s e.1 == t)

/-- The running priority of target `t`. -/
def runPrio (s : State) (t : Nat) : Nat := (srcsOn s t IcuSrc.active).foldl (fun m e => max m e.2.cprio) 0

/-- The eligible source of target `t` that wins: the highest priority above the threshold and the running priority, of
equals the lowest number. -/
def icuWinner (s : State) (t : Nat) : Option Nat :=
  let bar := max (fld s (R.ICU_Tt_THR_thr t)) (runPrio s t)
  ((srcsOn s t (fun x => x.state == 1)).foldl (fun acc e =>
    if acc.1 < srcPrio s e.1 then (srcPrio s e.1, some e.1) else acc) (bar, none)).2

/-- The condition of a target's interrupt line. -/
def irqWanted (s : State) (t : Nat) : Bool := !isSet s (R.ICU_Tt_THR_hold t) && (icuWinner s t).isSome

/-- The interrupt lines follow their conditions, within the tick (R572). -/
def icuSettle (s : State) : State :=
  { s with icu := { s.icu with irq0 := irqWanted s 0, irq1 := irqWanted s 1 } }

/-- A change of source `n`'s request reaches ICU: a pulse on its way, or the line's present level where ICU holds another. -/
def requestChange (n : Nat) (s : State) : State :=
  if 160 ≤ n then s else
  let edge := isSet s (R.ICU_PRIOn_edge n)
  let x := icuSrc s n
  if s.icu.flight.contains n then
    let s := { s with icu := { s.icu with flight := s.icu.flight.erase n } }
    icuSettle (setIcuSrc n ((x.change edge true).change edge false) s)
  else if srcLine s n ≠ x.req then icuSettle (setIcuSrc n (x.change edge (srcLine s n)) s)
  else s

/-! ### Claim and complete (R575, R576) -/

/-- A claim by target `t`: the number plus 1, or 0. -/
def icuClaim (t : Nat) (s : State) : Nat × State :=
  match icuWinner s t with
  | none => (0, s)
  | some n => (n + 1, icuSettle (setIcuSrc n { icuSrc s n with state := 2, count := 0, cprio := srcPrio s n } s))

/-- A complete of `id` by target `t`. -/
def icuComplete (t id : Nat) (s : State) : State :=
  let n := id - 1
  if 1 ≤ id ∧ id ≤ 160 ∧ (icuSrc s n).active ∧ srcTarget s n = t then
    icuSettle (setIcuSrc n ((icuSrc s n).complete (isSet s (R.ICU_PRIOn_edge n))) s)
  else cfgErr s 1

/-! ### Registers -/

/-- What a write of an ICU register starts beside its fields; `kept` are the bits of ICU_WLAT that stay. -/
def icuWritten (_o : Origin) (a : Nat) (w : Word) (_old s : State) : State :=
  if a = A.ICU_CTRL then upTo 7 (fun k s => if bit w.toNat k then icuPulse (153 + k) s else s) s
  else if a = A.ICU_Tt_COMPL 0 then icuComplete 0 (bits w.toNat 0 8) s
  else if a = A.ICU_Tt_COMPL 1 then icuComplete 1 (bits w.toNat 0 8) s
  else icuSettle s

/-- What ICU answers to a read: claims, and the views of its state. -/
def icuRead (_o : Origin) (a : Nat) (v : Word) (s : State) : Word × State :=
  let view (first : Nat) (p : IcuSrc → Bool) : Word :=
    BitVec.ofNat 32 ((s.icu.srcs.filter (fun e => first ≤ e.1 && e.1 < first + 32 && p e.2)).map (fun e => 2 ^ (e.1 - first))).sum
  if a = A.ICU_Tt_CLAIM 0 then let (n, s) := icuClaim 0 s; (BitVec.ofNat 32 n, s)
  else if a = A.ICU_Tt_CLAIM 1 then let (n, s) := icuClaim 1 s; (BitVec.ofNat 32 n, s)
  else if A.ICU_PENDk 0 ≤ a ∧ a ≤ A.ICU_PENDk 4 then
    (view (8 * (a - A.ICU_PENDk 0)) (fun x => x.state % 2 == 1), s)
  else if A.ICU_ACTk 0 ≤ a ∧ a ≤ A.ICU_ACTk 4 then (view (8 * (a - A.ICU_ACTk 0)) IcuSrc.active, s)
  else if a = A.ICU_SRC_INFO then
    let n := fld s R.ICU_SRC_SEL_src
    if 160 ≤ n then (0, s) else
    let x := icuSrc s n
    (BitVec.ofNat 32 (x.state + 4 * b2n (srcLine s n) + 256 * (if x.active then x.cprio else 0) + 65536 * x.count), s)
  else if a = A.ICU_Tt_RUN 0 ∨ a = A.ICU_Tt_RUN 1 then
    let t := if a = A.ICU_Tt_RUN 0 then 0 else 1
    (BitVec.ofNat 32 (runPrio s t + 16 * min 15 (srcsOn s t IcuSrc.active).length), s)
  else (v, s)

/-! ### Wake latches (R580-R582) -/

/-- The filter of ICU_WCFG in µs. -/
def wakeFilter (s : State) : Nat := natAt [0, 32, 1000, 10000] (fld s R.ICU_WCFG_flt)

/-- Latch `k` sets: the event, the flag but for latches 0-15 in forerunner mode; in hibernate the event waits for the wake. -/
def latchSet (k : Nat) (s : State) : State :=
  if 24 ≤ k ∨ fldBit s R.ICU_WLAT_lat k then s else
  let s := raiseBit s R.ICU_WLAT_lat k
  let s := if isSet s R.ICU_WCFG_compat ∧ k < 16 then s else raise s R.ICU_IFLG_wake
  if s.pwr.asleep then { s with pwr := { s.pwr with woken := s.pwr.woken ++ [k] } } else post 0x01 0x01 (leBytes 1 k) s

/-- The input of latch `k` has stood at its active level for `held` µs. -/
def wakeLatch (k held : Nat) (s : State) : State :=
  let need := if isSet s R.ICU_WCFG_compat then max 1000 (wakeFilter s) else wakeFilter s
  if need ≤ held then latchSet k s else s

/-- The word of a write of ICU_WLAT as it acts: in forerunner mode bits whose input stands active are ignored. -/
def latchClearWord (s : State) (active w : Word) : Word := if isSet s R.ICU_WCFG_compat then w &&& ~~~active else w

/-! ### The commands -/

/-- A source's request line changes at ICU (IRQ_REQUEST_CHANGE, R568). -/
def execIrqRequestChange (n : Nat) (s : State) : Host.Outcome State Fault Refusal := .next (requestChange n s)

/-- A read of ICU_Tt_CLAIM (IRQ_CLAIM, R575). -/
def execIrqClaim (o : Origin) (t : Nat) (s : State) : Host.Outcome State Fault Refusal :=
  .next (coreRead icuRead [] o (A.ICU_Tt_CLAIM t) s)

/-- A write of ICU_Tt_COMPL (IRQ_COMPLETE, R576). -/
def execIrqComplete (o : Origin) (t : Nat) (id : Word) (s : State) : Host.Outcome State Fault Refusal :=
  .next (coreWrite icuWritten o (A.ICU_Tt_COMPL t) id s)

/-- A write of ICU_CTRL.sw (SOFTWARE_INTERRUPT, R566). -/
def execSoftwareInterrupt (o : Origin) (sw : BitVec 7) (s : State) : Host.Outcome State Fault Refusal :=
  .next (coreWrite icuWritten o A.ICU_CTRL (sw.setWidth 32) s)

/-- A write of ICU_PRIOn (PRIORITY_WRITE, R574). -/
def execPriorityWrite (o : Origin) (n : Nat) (w : Word) (s : State) : Host.Outcome State Fault Refusal :=
  .next (coreWrite icuWritten o (A.ICU_PRIOn n) w s)

/-- A write of ICU_Tt_THR (THRESHOLD_WRITE, R573). -/
def execThresholdWrite (o : Origin) (t : Nat) (w : Word) (s : State) : Host.Outcome State Fault Refusal :=
  .next (coreWrite icuWritten o (A.ICU_Tt_THR t) w s)

/-- A latch input has stood at its active level for `held` µs (WAKE_LATCH_SET, R581). -/
def execWakeLatchSet (k held : Nat) (s : State) : Host.Outcome State Fault Refusal := .next (wakeLatch k held s)

/-- A write of ICU_WLAT, the inputs of `active` at their active level (WAKE_LATCH_CLEAR, R582). -/
def execWakeLatchClear (o : Origin) (w active : Word) (s : State) : Host.Outcome State Fault Refusal :=
  .next (coreWrite icuWritten o A.ICU_WLAT (latchClearWord s active w) s)

end Sys2Proof.Machine
end

