-- ==== Sys2Proof/Machine/Pads.lean ====
section
/-!
DEFINITION. The general pads and the contactor drivers (chapter 26, R622-R627): what IOC does at an edge, a filtered change,
a firing, a driver's fault. What the firmware does about an input's change stands with the schedules.
-/

namespace Sys2Proof.Machine

def setIoc (x : IocState) (s : State) : State := { s with ioc := x }

/-! ### GPIO (R623) -/

/-- The function of pad `n`. -/
def gpioFunc (s : State) (n : Nat) : Nat := bits (fld s R.IOC_GFUNC_f) (2 * n) 2

/-- The level of pad `n`: what IOC drives, else what drives it from outside, else its pull. -/
def padLevel (s : State) (n : Nat) : Bool :=
  if gpioFunc s n = 1 then (slook s.ioc.pulseEnd n).isSome
  else if fldBit s R.IOC_GDIR_out n then fldBit s R.IOC_GOUT_v n
  else (slook s.ioc.drive n).getD (fldBit s R.IOC_GPULL_up n)

/-- Pad `n` takes its level; a selected edge sets its flag and pulses its source. -/
def padSettle (n : Nat) (s : State) : State :=
  let up := padLevel s n
  if up = fldBit s R.IOC_GIN_v n then s
  else
    let s := if up then raiseBit s R.IOC_GIN_v n else lowerBit s R.IOC_GIN_v n
    if fldBit s R.IOC_GEDGE_both n || fldBit s R.IOC_GEDGE_fall n != up then
      let s := raiseBit s R.IOC_GIFLG_f n
      if fldBit s R.IOC_GIEN_en n then icuPulse (110 + n) s else s
    else s

def padsSettle (s : State) : State := upTo 16 padSettle s

/-- The outside drives pad `n`, or leaves it. -/
def padDrive (n : Nat) (level : Option Bool) (s : State) : State :=
  if 16 ≤ n then s else
  padsSettle (setIoc { s.ioc with drive := match level with
    | some b => sins s.ioc.drive n b
    | none => sdel s.ioc.drive n } s)

/-- Comparator `n` fires with route 6: 10 µs high in function 1. -/
def gpioFire (n : Nat) (s : State) : State :=
  padsSettle (setIoc { s.ioc with pulseEnd := sins s.ioc.pulseEnd n (s.now + usTicks 10) } s)

/-- The pulse of pad `n` ends. -/
def gpioPulseEnd (n : Nat) (s : State) : State :=
  match slook s.ioc.pulseEnd n with
  | some t => if t ≤ s.now then padsSettle (setIoc { s.ioc with pulseEnd := sdel s.ioc.pulseEnd n } s) else s
  | none => s

/-! ### DIN (R624) -/

/-- The filter of input `k` in ms. -/
def dinFilter (s : State) (k : Nat) : Nat :=
  if k < 4 then fld s (R.IOC_DINF0_ms k) else fld s (R.IOC_DINF1_ms (k - 4))

/-- Whether input `k` is active. -/
def dinActive (s : State) (k : Nat) : Bool := fldBit s R.IOC_DIN_lvl k

/-- The active states as the filtered levels and the polarity give them. -/
def dinShow (s : State) : State := setFld s R.IOC_DIN_lvl (s.ioc.filt ^^^ fld s R.IOC_DIN_pol)

/-- The pad of input `k` has stood at `level` for `held` ms; whether its filtered state changed stands beside the state. -/
def dinHeld (k : Nat) (level : Bool) (held : Nat) (s : State) : Bool × State :=
  if 8 ≤ k then (false, s) else
  let s := if level then raiseBit s R.IOC_DIN_raw k else lowerBit s R.IOC_DIN_raw k
  if held < dinFilter s k ∨ bit s.ioc.filt k = level then (false, s)
  else
    let s := dinShow (setIoc { s.ioc with filt := putBits s.ioc.filt k 1 (b2n level) } s)
    if dinActive s k then
      let s := raiseBit (bumpWrap s (R.IOC_DCNTk_n k) 1) R.IOC_IFLG_din k
      (true, if fldBit s R.IOC_IEN_en k then icuPulse (102 + k) s else s)
    else (true, s)

/-! ### The contactor drivers (R625) -/

/-- The drivers follow request, ownership and trips; a driver that is off has no open load. -/
def ctcSettle (s : State) : State :=
  let hw := isSet s R.TKN_STAT_hw
  let on := if hw then fld s R.IOC_CTRL_ctc &&& (15 - fld s R.IOC_STAT_ctc_trip) else 0
  setFld (setFld (setBool s R.IOC_STAT_hw hw) R.IOC_STAT_ctc_on on) R.IOC_STAT_ctc_open (fld s R.IOC_STAT_ctc_open &&& on)

/-- The firmware records a trip or an open load. -/
def ctcRecord (s : State) : State := post 0x10 0x01 (leBytes 1 (bits (reg s A.IOC_STAT).toNat 0 8)) s

/-- Overcurrent for 20 µs. -/
def ctcTrip (n : Nat) (s : State) : State :=
  if n < 4 ∧ fldBit s R.IOC_STAT_ctc_on n then
    ctcRecord (ctcSettle (raiseBit (raiseBit s R.IOC_STAT_ctc_trip n) R.IOC_IFLG_ctc n))
  else s

/-- Less than 10 mA for 100 ms. -/
def ctcOpen (n : Nat) (s : State) : State :=
  if n < 4 ∧ fldBit s R.IOC_STAT_ctc_on n ∧ ¬ fldBit s R.IOC_STAT_ctc_open n then
    ctcRecord (raiseBit (raiseBit s R.IOC_STAT_ctc_open n) R.IOC_IFLG_ctc n)
  else s

/-! ### Analogue values (R626) -/

/-- The samples of AIN0 and AIN1 in mV; whether they were taken stands beside the state. -/
def ainTake (a0 a1 : Int) (s : State) : Bool × State :=
  if isSet s R.IOC_CTRL_ain_en then
    let mv (v : Int) : Nat := unsigned 16 (clampInt (-1000) 12000 v)
    (true, raise (setFld (setFld s R.IOC_AIN_a0 (mv a0)) R.IOC_AIN_a1 (mv a1)) R.IOC_IFLG_ain)
  else (false, s)

/-- The module temperature in 0.1 °C. -/
def temperature (t : Int) (s : State) : State :=
  let hi := signed 16 (fld s R.IOC_TEMP_hi)
  let s := setFld s R.IOC_MON_temp (unsigned 16 t)
  if t ≤ hi - 50 then setIoc { s.ioc with armed := true } s
  else if hi ≤ t ∧ s.ioc.armed then raise (setIoc { s.ioc with armed := false } s) R.IOC_IFLG_temp
  else s

/-! ### Registers -/

/-- The output mirror of the stream (R387): the requests of CTC0-3 and the GPIO outputs. -/
def outputMirror (s : State) : State :=
  streamPut 0x50 true (leBytes 1 (fld s R.IOC_CTRL_ctc) ++ [0] ++ leBytes 2 (fld s R.IOC_GOUT_v)) s

/-- What a write of an IOC register starts beside its fields. -/
def iocWritten (_o : Origin) (a : Nat) (_w : Word) (_old s : State) : State :=
  if a = A.IOC_CTRL then outputMirror (ctcSettle s)
  else if a = A.IOC_STAT then ctcSettle s
  else if a = A.IOC_GOUT then outputMirror (padsSettle s)
  else if a = A.IOC_GDIR ∨ a = A.IOC_GFUNC ∨ a = A.IOC_GPULL then padsSettle s
  else if a = A.IOC_DIN then dinShow s
  else s

/-! ### The commands -/

/-- Pad GPIOn changes (GPIO_EDGE, R623). -/
def execGpioEdge (n : Nat) (level : Option Bool) (s : State) : Host.Outcome State Fault Refusal := .next (padDrive n level s)

/-- A comparator's 10 µs end (GPIO_PULSE_END, R623). -/
def execGpioPulseEnd (n : Nat) (s : State) : Host.Outcome State Fault Refusal := .next (gpioPulseEnd n s)

/-- Overcurrent in a driver (CONTACTOR_TRIP, R625). -/
def execContactorTrip (n : Nat) (s : State) : Host.Outcome State Fault Refusal := .next (ctcTrip n s)

/-- An open load (CONTACTOR_OPEN_LOAD, R625). -/
def execContactorOpenLoad (n : Nat) (s : State) : Host.Outcome State Fault Refusal := .next (ctcOpen n s)

/-- The current returns (CONTACTOR_CURRENT_RETURN, R625). -/
def execContactorCurrentReturn (n : Nat) (s : State) : Host.Outcome State Fault Refusal :=
  .next (if n < 4 then lowerBit s R.IOC_STAT_ctc_open n else s)

/-- The module temperature (TEMPERATURE_HIGH, R626). -/
def execTemperatureHigh (t : Int) (s : State) : Host.Outcome State Fault Refusal := .next (temperature t s)

end Sys2Proof.Machine
end

