-- ==== Sys2Proof/Machine/Tokens.lean ====
section
/-!
DEFINITION. Tokens, twins and stacks (chapter 14), what TKN does in hardware: the interlock line and ownership, heartbeats
and their paths, the stack link's frames. The firmware's decisions stand in Twins.lean.
-/

namespace Sys2Proof.Machine

def setTkn (t : TknState) (s : State) : State := { s with tkn := t }

def isTwin (s : State) : Bool := isSet s R.TKN_CFG_twin
def ownMember (s : State) : Nat := fld s R.TKN_CFG_member
def ownSide (s : State) : Nat := fld s R.TKN_CFG_side
def ownSlot (s : State) : Nat := 2 * ownMember s + ownSide s
def role (s : State) : Nat := fld s R.TKN_ROLE_role
def ownsHw (s : State) : Bool := isSet s R.TKN_STAT_hw

/-- The low word of the unit identity. -/
def uid0 : Nat := (Config.uid 0).toNat

/-! ### Ownership (R359-R363) -/

/-- `hw` and what it gates follow the interlock (R359-R362); `quiet` holds for `release` and `run` = 0. -/
def tknSettle (quiet : Bool) (s : State) : State :=
  let out := isSet s R.TKN_STAT_ilk_out
  let hw := out && !(isTwin s && s.tkn.ilkIn)
  let both := isTwin s && out && s.tkn.ilkIn
  let s := setTkn { s.tkn with bothSince := if both then some (s.tkn.bothSince.getD s.now) else none } s
  let was := ownsHw s
  let s := setBool (setBool s R.TKN_STAT_hw hw) R.TKN_STAT_air (hw && isSet s R.TKN_AIR_en)
  if hw = was then s
  else
    let s := ctcSettle (meterDrive (sdcOwn hw s))
    if !hw && !quiet then post 0x0D 0x02 [] (raise s R.TKN_IFLG_lost) else s

/-- ILK_OUT is released (R362). -/
def ilkRelease (quiet : Bool) (s : State) : State := tknSettle quiet (lower s R.TKN_STAT_ilk_out)

/-- Whether ILK_IN has been released for the last 2 µs (R362); without a twin it is ignored (R360). -/
def ilkFree (s : State) : Bool := !isTwin s || (!s.tkn.ilkIn && s.tkn.inSince + usTicks 2 ≤ s.now)

/-- A claim (R362). -/
def ilkClaim (s : State) : State :=
  if busy s 13 && ilkFree s then
    post 0x0D 0x01 (leBytes 4 (fld s R.TKN_TOKEN_tok)) (raise (tknSettle false (raise s R.TKN_STAT_ilk_out)) R.TKN_IFLG_claimed)
  else raise s R.TKN_IFLG_refused

/-- ILK_IN changes level (R361). -/
def ilkInput (asserted : Bool) (s : State) : State :=
  if s.tkn.ilkIn = asserted then s
  else
    let s := setTkn { s.tkn with ilkIn := asserted, inSince := if asserted then s.tkn.inSince else s.now } s
    tknSettle false (captureEvent 0x123 true (setBool s R.TKN_STAT_ilk_in asserted))

/-- Both lines have been asserted for 10 µs: side 1 releases (R363). -/
def ilkConflict (s : State) : State :=
  match s.tkn.bothSince with
  | some t => if t + usTicks 10 ≤ s.now ∧ ownSide s = 1 then
      ilkRelease false (post 0x0D 0x03 [] (raise s R.TKN_IFLG_conflict)) else s
  | none => s

/-! ### Heartbeats (R365-R370) -/

/-- The token record of the cell store (R369). -/
def storedToken (s : State) : Nat := memNat s 0x20028000 4

/-- The highest token stored or seen. -/
def highToken (s : State) : Nat := max (max (storedToken s) s.tkn.seen) (fld s R.TKN_TOKEN_tok)

/-- The module's heartbeat block (R365). -/
def hbBlock (s : State) : List Byte :=
  let flags := b2n (isSet s R.TKN_STAT_ilk_out) + 2 * b2n (ownsHw s) + 4 * b2n (isSet s R.TKN_STAT_air) + 8 * b2n s.tkn.down +
    16 * fld s R.TKN_ROLE_ready + 32 * fld s R.TKN_ROLE_ho + 64 * fld s R.TKN_STAT_sl_ok + 128 * fld s R.TKN_STAT_fb_ok
  leBytes 1 1 ++ leBytes 1 (ownMember s + 4 * ownSide s + 8 * role s + 32 * b2n (isTwin s)) ++ leBytes 2 (odForceNat s 9 1 0) ++
    leBytes 4 (if role s = 2 then fld s R.TKN_TOKEN_tok else highToken s) ++
    leBytes 4 (if fld s R.NTB_STAT_tstate = 0 then 0 else s.ntb.path) ++ leBytes 1 flags ++
    leBytes 1 ((s.now - s.tkn.runAt) / 50000) ++ leBytes 2 (if isSet s R.TKN_ROLE_ho then fld s R.TKN_ROLE_ho_bi else 0)

/-- What a heartbeat block says. -/
structure Heartbeat where
  member : Nat
  side : Nat
  role : Nat
  seg : Nat
  token : Nat
  ilkOut : Bool
  down : Bool
  ready : Bool
  ho : Bool
  hoBi : Nat

/-- Takes a block apart; none where its version or a reserved bit is not the protocol's. -/
def decodeHb (b : List Byte) : Option Heartbeat :=
  let who := leAt b 1 1
  let fl := leAt b 12 1
  if b.length ≠ 16 ∨ leAt b 0 1 ≠ 1 ∨ 64 ≤ who ∨ 1024 ≤ leAt b 2 2 then none
  else some { member := bits who 0 2, side := bits who 2 1, role := bits who 3 2, seg := leAt b 2 2, token := leAt b 4 4,
              ilkOut := bit fl 0, down := bit fl 3, ready := bit fl 4, ho := bit fl 5, hoBi := leAt b 14 2 }

/-- The partner's last heartbeat. -/
def partnerHb (s : State) : Option Heartbeat := s.tkn.partner.bind decodeHb

/-- Whether a token and side rank above others (R370). -/
def ranksAbove (t1 side1 t2 side2 : Nat) : Bool := t2 < t1 || (t1 == t2 && side1 < side2)

/-- The path flags as the registers show them. -/
def hbShow (s : State) : State :=
  let s := setBool s R.TKN_STAT_sl_ok (s.tkn.sl.up == some true)
  let s := setBool s R.TKN_STAT_fb_ok (s.tkn.fb.up == some true)
  setBool s R.TKN_STAT_plost (s.tkn.sl.up == some false && s.tkn.fb.up == some false)

def hbPath (s : State) (fb : Bool) : HbPath := if fb then s.tkn.fb else s.tkn.sl
def setHbPath (fb : Bool) (x : HbPath) (s : State) : State := setTkn (if fb then { s.tkn with fb := x } else { s.tkn with sl := x }) s

/-- A path is lost or returns (R367): flag, event, fault objects. -/
def hbPathSet (fb up : Bool) (s : State) : State :=
  let s := hbShow (setHbPath fb { hbPath s fb with up := some up } s)
  let s := post 0x0D 0x05 (leBytes 1 (b2n fb) ++ leBytes 1 (b2n up)) (raise s R.TKN_IFLG_ppath)
  let s := faultSet 0x0202 (b2n fb) (!up) s
  let lost := isSet s R.TKN_STAT_plost
  let s := if lost then raise s R.TKN_IFLG_plost else s
  faultSet 0x0201 (1 - ownSide s) lost s

/-- A heartbeat block arrives on a path (R365, R367, R369, R372, R373, R384). -/
def hbTaken (fb : Bool) (block : List Byte) (s : State) : State :=
  match decodeHb block with
  | none => s
  | some h =>
    if !busy s 13 then s
    else
      let mine := h.seg = odForceNat s 9 1 0 ∧ h.member = ownMember s
      let s := if mine then setTkn { s.tkn with seen := max s.tkn.seen h.token } s else s
      let s := if fb ∧ h.member = 0 then setTkn { s.tkn with partnerFb0 := s.now } s else s
      let s := if h.member = 0 ∧ h.role = 2 ∧ ownMember s ≠ 0 then lower s R.TKN_SL_keeper else s
      if !(isTwin s) ∨ ¬ mine ∨ h.side = ownSide s then s
      else
        let old := (hbPath s fb).up
        let s := setHbPath fb { heard := s.now, up := some true, down := h.down } s
        let s := setTkn { s.tkn with partner := some block, missed := if fb then s.tkn.missed else false } s
        let s := upTo 4 (fun k s => setFld s (R.TKN_PARTk_w k) (leAt block (4 * k) 4)) s
        let s := if old = some false then hbPathSet fb true s else hbShow s
        -- an active partner that says it asserts a line found released (R372)
        let s := if role s = 1 ∧ h.role = 2 ∧ h.ilkOut ∧ !h.down ∧ !s.tkn.ilkIn ∧ !ownsHw s then
            faultRaise 0x0203 0 true (if faultStands s 0x0203 then s else post 0x0D 0x04 [] (raise s R.TKN_IFLG_ilkf))
          else faultGone 0x0203 0 s
        -- a ready standby echoes a handover (R389)
        let s := if role s = 1 ∧ h.role = 2 then
            if h.ho ∧ isSet s R.TKN_ROLE_ready then setFld (raise s R.TKN_ROLE_ho) R.TKN_ROLE_ho_bi h.hoBi
            else if !h.ho ∧ s.tkn.switched.isNone then setFld (lower s R.TKN_ROLE_ho) R.TKN_ROLE_ho_bi 0
            else s
          else s
        -- two active modules: the lower one yields (R373)
        if role s = 2 ∧ h.role = 2 ∧ ranksAbove (fld s R.TKN_TOKEN_tok) (ownSide s) h.token h.side ∧ !s.tkn.split then
          post 0x0D 0x06 [] (setTkn { s.tkn with split := true } s)
        else s

/-- A path's timeout elapses (R367), and what the firmware records of it (R372, R373). -/
def hbLoss (fb : Bool) (s : State) : State :=
  let p := hbPath s fb
  let wait := msTicks (if fb then fld s R.TKN_HB_fb_to else fld s R.TKN_HB_sl_to)
  if !busy s 13 ∨ !isTwin s ∨ p.up = some false ∨ s.now < max p.heard s.tkn.runAt + wait then s
  else
    let s := hbPathSet fb false s
    if !isSet s R.TKN_STAT_plost then s
    else if role s = 2 then post 0x0D 0x07 [] s
    else if role s = 1 ∧ s.tkn.ilkIn then post 0x0D 0x0A [] s
    else s

/-- The conditions of auto-claim (R364). -/
def autoCond (s : State) : Bool :=
  let ho := match partnerHb s with
    | some h => s.tkn.hoNow && isSet s R.TKN_ROLE_ho && h.ho && h.hoBi == fld s R.TKN_ROLE_ho_bi
    | none => false
  s.tkn.sl.down || s.tkn.fb.down || ho ||
    (s.tkn.sl.up == some true && s.tkn.sl.heard + msTicks 3 ≤ s.now) ||
    (s.tkn.sl.up == some false && max s.tkn.fb.heard s.tkn.runAt + msTicks 30 ≤ s.now)

/-- Auto-claim (R364). -/
def autoClaim (s : State) : State :=
  if busy s 13 && isSet s R.TKN_CTRL_arm && !ownsHw s && !isSet s R.TKN_STAT_ilk_out && ilkFree s && autoCond s then ilkClaim s else s

/-- The path at which the handover announced in TKN_ROLE comes (R389). -/
def hoPath (s : State) : Nat :=
  let b := s.ntb.path / 64
  64 * (b + (fld s R.TKN_ROLE_ho_bi + 65536 - b % 65536) % 65536)

/-- Whether a standby keeps what it receives for the switch: from the last cycle before P on (R389). -/
def keepsForSwitch (s : State) : Bool :=
  isTwin s && role s == 1 && isSet s R.TKN_ROLE_ho && hoPath s ≤ s.ntb.path + cyclePaths s

/-! ### The stack link (R377-R385) -/

/-- A link frame from its sync field to its CRC (R379); `after` is the time to the end of the sync field in ns. -/
def linkFrame (s : State) (kind src : Nat) (payload : List Byte) : List Byte :=
  let b := leBytes 1 1 ++ leBytes 1 kind ++ leBytes 1 src ++ leBytes 1 s.tkn.cycNo ++ leBytes 2 payload.length ++ [0, 0] ++
    leBytes 4 ((s.ntb.ns + 640) % 1000000000) ++ payload
  List.replicate 7 0x55 ++ [0xD5] ++ b ++ leBytes 4 (crc32 b)

/-- Whether the module is the link's timekeeper: the active module of member 0, or a keeper (R378). -/
def timekeeper (s : State) : Bool := busy s 13 && ((ownMember s == 0 && role s == 2) || isSet s R.TKN_SL_keeper)

/-- The admission table with the timekeeper's own slot in it. -/
def ownAdmission (s : State) : List (Nat × Nat) :=
  if ownMember s = 0 then sins s.tkn.admUid (ownSlot s) uid0 else s.tkn.admUid

/-- The payload of a cycle frame (R380). -/
def cyclePayload (s : State) : List Byte :=
  let adm := ownAdmission s
  let ts := fld s R.NTB_STAT_tstate
  let keeper := isSet s R.TKN_SL_keeper
  let after := s.ntb.ns + 640
  let mask := adm.foldl (fun a p => a + 2 ^ p.1) 0
  hbBlock s ++ leBytes 8 (if 1000000000 ≤ after then s.ntb.sec + 1 else s.ntb.sec) ++ leBytes 6 s.ntb.path ++
    leBytes 1 (b2n (!keeper && ts == 2) + 2 * ts + 8 * b2n (timeLocked s) + 16 * b2n keeper) ++ leBytes 1 mask ++
    (List.range 8).flatMap (fun k => leBytes 4 ((slook adm k).getD 0)) ++
    (List.range 4).flatMap (fun m => leBytes 2 ((slook (sins s.tkn.fcs (ownMember s) (fld s R.RFE_WIN_fc)) m).getD 0)) ++
    leBytes 2 (fld s R.TKN_CFG_sid) ++ List.replicate 6 0

/-- The link cycle of network time: its number is that of the millisecond. -/
def linkCycle (s : State) : Nat := netNs s / 1000000

/-- The timekeeper sends the cycle frame of this millisecond (R378, R380). -/
def sendCycle (s : State) : State :=
  let n := linkCycle s % 256
  if !timekeeper s ∨ (s.tkn.cycMine ∧ s.tkn.cycAt / 50000 = s.now / 50000 ∧ s.tkn.cycNo = n) then s
  else
    let adm := ownAdmission s
    let s := setTkn { s.tkn with cycNo := n, cycAt := s.now, cycMine := true, admUid := adm } s
    let s := if ownMember s = 0 then raise s R.TKN_STAT_adm else s
    emit .link (linkFrame s 0 0xFF (cyclePayload s)) s

/-- An item of a slot frame (R381). -/
def linkItem (it dst : Nat) (body : List Byte) : List Byte := leBytes 1 it ++ leBytes 1 dst ++ leBytes 2 body.length ++ body

/-- Octets of the kept stream from offset `a` on. -/
def streamFrom (s : State) (a n : Nat) : List Byte := ((s.tkn.stream.flatMap encodeStream).drop (a - s.tkn.base)).take n

/-- Takes items off the transmit queue while they fit in `room` octets. -/
def takeItems : Nat → Nat → State → List (List Byte) × State
  | 0, _, s => ([], s)
  | fuel + 1, room, s =>
    let q := fld s R.TKN_SLQ_tx
    match hwHead agentTkn q s with
    | none => ([], s)
    | some e =>
      if room < e.body.length then ([], s)
      else let (l, s) := takeItems fuel (room - e.body.length) (hwNext agentTkn q s); (e.body :: l, s)

/-- The items of this cycle's slot frame, and what is left to send again (R381, R382, R386). -/
def slotItems (s : State) : List Byte × State :=
  let p := 0x10 + (2 * ownMember s + (1 - ownSide s))
  let win := linkItem 5 0xFF (leBytes 2 (fld s R.RFE_WIN_fc) ++ [0, 0])
  let ack := if isTwin s ∧ role s = 1 then linkItem 2 p (leBytes 4 s.tkn.expect ++ leBytes 1 (b2n s.tkn.wantSnap) ++ [0, 0, 0]) else []
  let again := (s.tkn.items.map (·.body)).flatten
  let s := setTkn { s.tkn with items := (s.tkn.items.map (fun i => { i with times := i.times - 1 })).filter (fun i => 0 < i.times) } s
  let head := win ++ ack ++ again
  let (q, s) := takeItems 64 (1444 - head.length) s
  let s := setTkn { s.tkn with items := s.tkn.items ++ (q.filter (fun b => leAt b 0 1 == 3 || leAt b 0 1 == 4)).map (fun b => ⟨b, 1⟩) } s
  let head := head ++ q.flatten
  if isTwin s ∧ role s = 2 ∧ s.tkn.sent < s.tkn.sseq ∧ 8 < 1444 - head.length then
    let c := streamFrom s s.tkn.sent (min 1436 (1444 - head.length - 8))
    (head ++ linkItem 1 p (leBytes 4 s.tkn.sent ++ c), setTkn { s.tkn with sent := s.tkn.sent + c.length } s)
  else (head, s)

/-- The module's slot window begins (R378, R381, R383). -/
def sendSlot (s : State) : State :=
  if !busy s 13 ∨ s.tkn.taken ∨ s.tkn.backoff.isSome ∨ !(timekeeper s || isSet s R.TKN_STAT_cyc_ok) then s
  else
    let s := if isTwin s ∧ s.tkn.missed then bump s R.TKN_CNT_miss 1 else s
    let s := setTkn { s.tkn with missed := true } s
    let (items, s) := if isSet s R.TKN_STAT_adm then slotItems s else ([], s)
    emit .link (linkFrame s 1 (ownSlot s) (hbBlock s ++ items)) s

/-- Three cycles without a cycle frame (R378). -/
def linkSilence (s : State) : State :=
  if timekeeper s ∨ !isSet s R.TKN_STAT_cyc_ok ∨ s.now < s.tkn.cycAt + msTicks 3 then s
  else raise (lower s R.TKN_STAT_cyc_ok) R.TKN_IFLG_link

/-- An active module becomes keeper (R384). -/
def keeperStart (s : State) : State :=
  let m := ownMember s
  if !busy s 13 ∨ m = 0 ∨ role s ≠ 2 ∨ isSet s R.TKN_SL_keeper ∨ s.now < max s.tkn.cycAt s.tkn.runAt + msTicks (10 * m) ∨
      s.now < max s.tkn.partnerFb0 s.tkn.runAt + msTicks 40 then s
  else raise (raise s R.TKN_SL_keeper) R.TKN_IFLG_link

/-- A module not admitted within 2 s opens no paths; the reason's number is not the spec's (R383). -/
def admissionTimeout (s : State) : State :=
  if !busy s 13 ∨ isSet s R.TKN_STAT_adm ∨ s.tkn.barred ∨ timekeeper s ∨ s.now < s.tkn.runAt + secTicks 2 ∨
      (ownMember s = 0 ∧ !isTwin s) then s
  else
    let (r, s) := takeFree 8 s
    post 0x0D 0x0E (leBytes 1 (ownSlot s) ++ leBytes 1 r) (setTkn { s.tkn with barred := true } s)

/-- A collision starts a random wait of 1-32 cycles; when it has passed the module sends again (R383). -/
def collisionBackoff (s : State) : State :=
  match s.tkn.backoff with
  | some t => if t ≤ s.now then setTkn { s.tkn with backoff := none } s else s
  | none => let (r, s) := takeFree 5 s; setTkn { s.tkn with backoff := some (s.now + msTicks (1 + r)) } s

/-- Windows of two centres overlap (R140). -/
def windowsOverlap (a b : Nat) : Bool := a < b + 128 && b < a + 128

/-- The master hears a slot's sender: it is admitted or refused (R383). What `SYS_UID0` and stack identifier the sender has
reaches the master in a way the spec does not give: both are inputs. -/
def admitSender (slot uid sid : Nat) (s : State) : State :=
  let old := slook s.tkn.admUid slot
  let fc := slook s.tkn.fcs (slot / 2)
  let clash : Bool := match fc with
    | some f => (s.tkn.fcs.any (fun p => p.1 != slot / 2 && windowsOverlap p.2 f)) ||
        (slot / 2 != ownMember s && windowsOverlap f (fld s R.RFE_WIN_fc))
    | none => false
  if old = some uid then s
  else if sid ≠ fld s R.TKN_CFG_sid ∨ clash ∨ old.isSome then
    let (r, s) := takeFree 8 s
    post 0x0D 0x0E (leBytes 1 slot ++ leBytes 1 r) s
  else raise (setTkn { s.tkn with admUid := sins s.tkn.admUid slot uid } s) R.TKN_IFLG_link

/-- A cycle frame arrives (R378, R380, R383, R384). -/
def cycleTaken (cyc : Nat) (p : List Byte) (s : State) : State :=
  let adm := (List.range 8).filterMap (fun k => if bit (leAt p 31 1) k then some (k, leAt p (32 + 4 * k) 4) else none)
  let mine := slook adm (ownSlot s)
  let from_ := decodeHb (p.take 16)
  let lower_ : Bool := match from_ with
    | some h => h.member < ownMember s || (h.member == 0 && h.role == 2)
    | none => false
  let s := if isSet s R.TKN_SL_keeper ∧ lower_ then raise (lower s R.TKN_SL_keeper) R.TKN_IFLG_link else s
  let s := setTkn { s.tkn with cycNo := cyc, cycAt := s.now, cycMine := false, admUid := adm } s
  let s := setTkn { s.tkn with fcs := (List.range 4).filterMap (fun m =>
    let f := leAt p (64 + 2 * m) 2
    if f = 0 then none else some (m, f)) } s
  let s := if isSet s R.TKN_STAT_cyc_ok then s else raise (raise s R.TKN_STAT_cyc_ok) R.TKN_IFLG_link
  let s := setFld s R.TKN_SL_adm (leAt p 31 1)
  let ok := mine = some uid0
  let s := if isSet s R.TKN_STAT_adm = ok then s else raise (setBool s R.TKN_STAT_adm ok) R.TKN_IFLG_link
  match mine with
  | some u => if u ≠ uid0 ∧ !s.tkn.taken then post 0x0D 0x0C (leBytes 4 u) (setTkn { s.tkn with taken := true, barred := true } s) else s
  | none => s

/-! ### Register hooks -/

def tknWritten (_o : Origin) (a : Nat) (w : Word) (old s : State) : State :=
  if a = A.TKN_CTRL then
    let s := if isSet s R.TKN_CTRL_run ∧ !isSet old R.TKN_CTRL_run then
        let t := s.tkn
        let t := { t with runAt := s.now, sl := {}, fb := {}, partner := none, missed := true, taken := false, barred := false }
        hbShow (setTkn { t with backoff := none, cycMine := false } (blockStart s 13))
      else if !isSet s R.TKN_CTRL_run ∧ isSet old R.TKN_CTRL_run then
        let s := blockStop (ilkRelease true s) 13
        hbShow (setTkn { s.tkn with sl := {}, fb := {} } (lower (lower s R.TKN_STAT_cyc_ok) R.TKN_STAT_adm))
      else s
    let s := if bit w.toNat 5 then ilkRelease true s else s
    if bit w.toNat 4 then ilkClaim s else s
  else if a = A.TKN_CFG ∨ a = A.TKN_AIR then tknSettle false s
  else s

def tknRead (_o : Origin) (a : Nat) (v : Word) (s : State) : Word × State :=
  if a = A.TKN_SL then (BitVec.ofNat 32 (putBits v.toNat 0 3 (ownSlot s)), s) else (v, s)

/-! ### The commands -/

/-- `TKN_CTRL.claim` (TOKEN_CLAIM, R362). -/
def execTokenClaim (o : Origin) (s : State) : Host.Outcome State Fault Refusal :=
  .next (coreWrite tknWritten o A.TKN_CTRL (rwWord s A.TKN_CTRL ||| 0x10) s)

/-- `TKN_CTRL.release` (TOKEN_RELEASE, R362). -/
def execTokenRelease (o : Origin) (s : State) : Host.Outcome State Fault Refusal :=
  .next (coreWrite tknWritten o A.TKN_CTRL (rwWord s A.TKN_CTRL ||| 0x20) s)

/-- `TKN_CTRL.run` (TKN_RUN_WRITE, R366). -/
def execTknRunWrite (o : Origin) (run : Bool) (s : State) : Host.Outcome State Fault Refusal :=
  .next (coreWrite tknWritten o A.TKN_CTRL (wordWith s R.TKN_CTRL_run (b2n run)) s)

/-- Auto-claim (AUTO_CLAIM, R364). -/
def execAutoClaim (s : State) : Host.Outcome State Fault Refusal := .next (autoClaim s)

/-- The timekeeper's millisecond (LINK_CYCLE_FRAME_SEND, R380). -/
def execLinkCycleFrameSend (s : State) : Host.Outcome State Fault Refusal := .next (sendCycle s)

/-- The module's slot window (SLOT_FRAME_SEND, R381). -/
def execSlotFrameSend (s : State) : Host.Outcome State Fault Refusal := .next (sendSlot s)

/-- Three cycles of silence (LINK_SILENCE, R378). -/
def execLinkSilence (s : State) : Host.Outcome State Fault Refusal := .next (linkSilence s)

/-- A member becomes keeper (KEEPER_START, R384). -/
def execKeeperStart (s : State) : Host.Outcome State Fault Refusal := .next (keeperStart s)

/-- Not admitted within 2 s (ADMISSION_TIMEOUT, R383). -/
def execAdmissionTimeout (s : State) : Host.Outcome State Fault Refusal := .next (admissionTimeout s)

/-- A slot collision and its wait (SLOT_COLLISION_BACKOFF, R383). -/
def execSlotCollisionBackoff (s : State) : Host.Outcome State Fault Refusal := .next (collisionBackoff s)

/-- A heartbeat path times out (HEARTBEAT_PATH_LOSS, R367): the field bus's, else the stack link's. -/
def execHeartbeatPathLoss (fb : Bool) (s : State) : Host.Outcome State Fault Refusal := .next (hbLoss fb s)

end Sys2Proof.Machine
end

