-- ==== Sys2Proof/Machine/Backhaul.lean ====
section
/-!
DEFINITION. The resident firmware's side of the backhaul: the backhaul in use (R463-R466), NTP (R67-R70, R468-R470), terminus
and deputy (R21-R23, R71-R73, R471-R474).
-/

namespace Sys2Proof.Machine

/-! ### Datagrams -/

/-- The BHN port of the backhaul in use. -/
def backhaulPort (s : State) : Option Nat := if s.bhn.inUse = 1 then some 0 else if s.bhn.inUse = 2 then some 3 else none

/-- Sends a datagram through port `k`. -/
def sendDatagram (k proto : Nat) (peer : List Byte) (sport dport tag : Nat) (payload : List Byte) (s : State) : State :=
  if 1280 < payload.length then s
  else (coreQueue (portTx s k) tag (Config.ipFrame k proto peer sport dport payload) s).2

/-- Sends a UDP datagram over the backhaul in use. -/
def sendBackhaul (peer : List Byte) (port tag : Nat) (payload : List Byte) (s : State) : State :=
  match backhaulPort s with
  | some k => sendDatagram k 17 peer port port tag payload s
  | none => s

/-- A received datagram: protocol, sender, ports, payload, the network time in ns of its stamp. -/
structure Datagram where
  proto : Nat
  peer : List Byte
  sport : Nat
  dport : Nat
  payload : List Byte
  stamp : Nat
  deriving DecidableEq, Repr

/-- The stamp of a receive entry: its seconds are those nearest to network time with that low word. -/
def stampOf (s : State) (body : List Byte) : Nat :=
  let low := leAt body 4 4
  let t := s.ntb.sec / 2 ^ 32 * 2 ^ 32 + low
  let t := if s.ntb.sec + 2 ^ 31 < t then t - 2 ^ 32 else if t + 2 ^ 31 < s.ntb.sec then t + 2 ^ 32 else t
  t * 1000000000 + leAt body 0 4

/-- The octets of a fragment's parts where they make the datagram whole. -/
def joinParts : List (Nat × List Byte) → Nat → Nat → Option (List Byte)
  | [], at_, total => if at_ = total then some [] else none
  | (o, b) :: t, at_, total => if o = at_ then (joinParts t (at_ + b.length) total).map (b ++ ·) else none

/-- A fragment arrives: at most two datagrams wait for theirs, each of at most 1,500 octets (R464). -/
def fragment (peer : List Byte) (ident proto off : Nat) (more : Bool) (b : List Byte) (s : State) :
    Option (List Byte) × State :=
  let same (f : Fragment) : Bool := f.peer == peer && f.ident == ident && f.proto == proto
  let others := s.bhn.frags.filter (fun f => !same f)
  let f := (s.bhn.frags.find? same).getD ⟨peer, ident, proto, [], none⟩
  if 1500 < off + b.length ∨ (¬ s.bhn.frags.any same ∧ 2 ≤ others.length) then (none, s)
  else
    let f := { f with parts := sins f.parts off b, total := if more then f.total else some (off + b.length) }
    match f.total.bind (fun n => joinParts f.parts 0 n) with
    | some d => (some d, setBhn { s.bhn with frags := others } s)
    | none => (none, setBhn { s.bhn with frags := others ++ [f] } s)

/-- The IP payload of a packet: protocol, sender, octets; fragments are joined. -/
def ipPayload (version : Nat) (p : List Byte) (s : State) : Option (Nat × List Byte × List Byte) × State :=
  let o (i : Nat) : Nat := beNat (octets p i 1)
  if version = 4 then
    let h := 4 * (o 0 % 16)
    let n := beNat (octets p 2 2)
    let off := beNat (octets p 6 2)
    let peer := octets p 12 4
    let d := octets p h (n - h)
    if off % 0x4000 = 0 then (some (o 9, peer, d), s)
    else
      let (r, s) := fragment peer (beNat (octets p 4 2)) (o 9) (8 * (off % 0x2000)) (bit off 13) d s
      (r.map (fun d => (o 9, peer, d)), s)
  else
    let peer := octets p 8 16
    let d := octets p 40 (beNat (octets p 4 2))
    if o 6 ≠ 44 then (some (o 6, peer, d), s)
    else
      let off := beNat (octets d 2 2)
      let proto := beNat (octets d 0 1)
      let (r, s) := fragment peer (beNat (octets d 4 4)) proto (off / 8 * 8) (bit off 0) (d.drop 8) s
      (r.map (fun d => (proto, peer, d)), s)

/-- The datagram in a receive entry of port `k`. -/
def datagramOf (k : Nat) (body : List Byte) (s : State) : Option Datagram × State :=
  let f := body.drop 8
  let (version, p) : Nat × List Byte :=
    if k < 3 then
      let kind := beNat (octets f 12 2)
      (if kind = 0x0800 then 4 else if kind = 0x86DD then 6 else 0, f.drop 14)
    else
      let g := if f.take 2 = [0xFF, 0x03] then f.drop 2 else f
      let kind := beNat (octets g 0 2)
      (if kind = 0x0021 then 4 else if kind = 0x0057 then 6 else 0, g.drop 2)
  if version = 0 then (none, s)
  else
    let (r, s) := ipPayload version p s
    (r.map (fun (proto, peer, d) =>
      if proto = 17 then
        ⟨proto, peer, beNat (octets d 0 2), beNat (octets d 2 2), octets d 8 (beNat (octets d 4 2) - 8), stampOf s body⟩
      else ⟨proto, peer, 0, 0, d, stampOf s body⟩), s)

/-- What the module serves on port `k` (R463): the datagrams to which a command of its own answers. -/
def served (k : Nat) (d : Datagram) : Bool :=
  let back := k == 0 || k == 3
  d.proto == 17 && (d.dport == 5684 || (d.dport == 5685 && back) ||
    (d.dport == 123 && (beNat (octets d.payload 0 1) % 8 == 3 || (back && beNat (octets d.payload 0 1) % 8 == 4))))

/-- An ICMP or ICMPv6 echo request, which the module answers. -/
def isEcho (d : Datagram) : Bool :=
  let t := beNat (octets d.payload 0 1)
  (d.proto == 1 && t == 8) || (d.proto == 58 && t == 128)

/-- The head entry of port `k`'s receive queue that a command acts on: entries before it that name nothing the module serves are
discarded and counted, and echo requests are answered. -/
def netHead (k : Nat) : Nat → State → Option Datagram × State
  | 0, s => (none, s)
  | n + 1, s =>
    match hwHead agentCore (portRx s k) s with
    | none => (none, s)
    | some e =>
      let (d, s) := datagramOf k e.body s
      match d with
      | some d =>
        if served k d then (some d, s)
        else
          let s := hwNext agentCore (portRx s k) s
          if isEcho d then
            let t : Byte := if d.proto = 1 then 0 else 129
            netHead k n (sendDatagram k d.proto d.peer 0 0 0 (t :: d.payload.drop 1) s)
          else netHead k n (setBhn { s.bhn with discards := s.bhn.discards + 1 } s)
      | none => netHead k n (hwNext agentCore (portRx s k) (setBhn { s.bhn with discards := s.bhn.discards + 1 } s))

/-- Takes the next datagram of port `k` where `p` holds for it. -/
def netTake (k : Nat) (p : Datagram → Bool) (s : State) : Option Datagram × State :=
  let (d, s) := netHead k ((queueAt s (portRx s k)).entries.length) s
  match d with
  | some d => if p d then (some d, hwNext agentCore (portRx s k) s) else (none, s)
  | none => (none, s)

/-- R482: the backhaul's transmit queue is high, and CoAP reads are answered `busy`. -/
def backhaulFull (s : State) : Bool :=
  match backhaulPort s with
  | some k => wmState s (portTx s k)
  | none => false

/-! ### Paths and the checks of R14 and R23 -/

/-- Whether the firmware may open paths (R14, R141, R474). -/
def mayOpenPaths (s : State) : Bool :=
  odForceNat s 9 1 0 != 0xFFFF && s.bhn.conflictAt.isNone && !s.bhn.mismatch &&
    fld s R.NTB_STAT_plen_act == odForceNat s 3 1 0

/-- The firmware opens paths again once nothing stands against it. -/
def pathsReopen (s : State) : State :=
  if s.pwr.started && mayOpenPaths s && !isSet s R.TTE_STAT_open then
    fwWrite tteWritten A.TTE_CTRL (BitVec.ofNat 32 ((wordWith s R.TTE_CTRL_run 1).toNat ||| 0x10)) s
  else s

/-! ### NTP -/

/-- Whether this module is the terminus or the deputy by configuration, and whether it acts as the terminus now (R21, R72). -/
def isTerminus (s : State) : Bool := odForceNat s 9 2 0 == 1
def isDeputy (s : State) : Bool := odForceNat s 9 2 0 == 2

/-- Whether the stack link gives network time (R25): a member of a stack that hears its master, a standby twin. -/
def linkTime (s : State) : Bool :=
  (isTwin s && role s != 2) || (ownMember s != 0 && s.ntb.source == 3 && timeLocked s)

/-- The server to ask (R25): an upstream server for whoever acts as the terminus, else terminus or deputy. -/
def ntpServer (s : State) : Option (List Byte × Bool) :=
  if linkTime s then none
  else if (isTerminus s && !s.bhn.ceded) || (isDeputy s && s.bhn.claims) then (slook s.bhn.addrs s.bhn.upstream).map (·, true)
  else (slook s.bhn.addrs (2 + b2n s.bhn.deputy)).map (·, false)

/-- Seconds from 1900 to the epoch of network time (R69). -/
def ntpEpoch : Int := 3155673600

/-- The NTP timestamp of network time `t` in ns. -/
def toNtp (s : State) (t : Nat) : List Byte :=
  let sec := ((t / 1000000000 : Nat) : Int) + ntpEpoch - odInt 32 s 2 3 0
  beBytes 4 (unsigned 32 sec) ++ beBytes 4 (t % 1000000000 * 2 ^ 32 / 1000000000)

/-- The network time in ns of an NTP timestamp, in the era nearest to network time. -/
def ofNtp (s : State) (b : List Byte) : Int :=
  let sec := (beNat (octets b 0 4) : Int) - ntpEpoch + odInt 32 s 2 3 0
  let sec := sec + 2 ^ 32 * (((s.ntb.sec : Int) - sec + 2 ^ 31) / 2 ^ 32)
  sec * 1000000000 + ((beNat (octets b 4 4) * 1000000000 / 2 ^ 32 : Nat) : Int)

/-- How far BHN's receive and transmit stamps lie after and before the SFD's end at the pads of the port in use (R467). -/
def stampLag (s : State) (k : Nat) : Nat × Nat :=
  if 1 < k then (0, 0) else if k = 0 ∧ !isSet s R.BHN_STAT_spd0 then (2100, 1500) else (380, 280)

/-- Sends a request to the source (R469). A request that was never answered moves to the other upstream server. -/
def ntpPoll (s : State) : State :=
  let other := 1 - s.bhn.upstream
  let swap := (match s.bhn.asked with
    | some r => r.upstream
    | none => false) && (slook s.bhn.addrs other).isSome || (slook s.bhn.addrs s.bhn.upstream).isNone
  let s := if swap then setBhn { s.bhn with upstream := other } s else s
  match ntpServer s with
  | none => s
  | some (peer, up) =>
    let origin := toNtp s (netNs s)
    let samples := match s.bhn.asked with
      | some r => if r.peer = peer then s.bhn.samples else []
      | none => s.bhn.samples
    let s := setBhn { s.bhn with asked := some ⟨peer, up, origin, none⟩, samples, polledAt := some s.now } s
    sendBackhaul peer 123 1 ((0x23 : Byte) :: (List.replicate 39 0 ++ origin)) s

/-- The client's poll, every 16 s. -/
def ntpPollDue (s : State) : State :=
  match s.bhn.polledAt with
  | some t => if t + secTicks 16 ≤ s.now then ntpPoll s else s
  | none => ntpPoll s

/-- Whether a response is accepted (R469). -/
def ntpAccepts (r : NtpAsked) (d : Datagram) : Bool :=
  let o := beNat (octets d.payload 0 1)
  let stratum := beNat (octets d.payload 1 1)
  d.peer == r.peer && octets d.payload 24 8 == r.origin && o % 8 == 4 && 1 ≤ stratum && stratum ≤ 15 &&
    !(r.upstream && o / 64 == 3) && r.left.isSome

/-- Of the last 8 samples the one with the smallest delay, the newest of equal ones. -/
def bestSample : List NtpSample → Option NtpSample
  | [] => none
  | x :: t => match bestSample t with
    | some y => some (if y.delta < x.delta then y else x)
    | none => some x

/-- The firmware marks since when its time is locked (R73). -/
def lockedSince (s : State) : State :=
  let at_ := if timeLocked s then (s.bhn.lockedAt <|> some s.now) else none
  setBhn { s.bhn with lockedAt := at_ } s

/-- A sample of a source of kind `kind` (element 2 of 2:0002). -/
def sourceSample (kind : Nat) (d : Int) (s : State) : State :=
  let s := timeSample d s
  lockedSince { s with ntb := { s.ntb with source := kind } }

/-- A response: the sample of R469, and the clock fed with the best one where it is newer than the last one used. -/
def ntpResponse (k : Nat) (s : State) : State :=
  let (d, s) := netTake k (fun d => d.dport == 123 && beNat (octets d.payload 0 1) % 8 == 4) s
  match d, s.bhn.asked with
  | some d, some r =>
    if !ntpAccepts r d then setBhn { s.bhn with discards := s.bhn.discards + 1 } s
    else
      let (rxLag, txLag) := stampLag s k
      let t1 : Int := ((r.left.getD 0 + txLag : Nat) : Int)
      let t2 := ofNtp s (octets d.payload 32 8)
      let t3 := ofNtp s (octets d.payload 40 8)
      let t4 : Int := (d.stamp : Int) - rxLag
      let x : NtpSample := ⟨((t2 - t1) + (t3 - t4)) / 2, ((t4 - t1) - (t3 - t2)).toNat, s.now⟩
      let samples := (x :: s.bhn.samples).take 8
      let s := setBhn { s.bhn with asked := none, samples, stratum := beNat (octets d.payload 1 1) } s
      match bestSample samples with
      | some b =>
        if s.bhn.usedAt < b.at_ then sourceSample 2 b.theta (setBhn { s.bhn with usedAt := b.at_ } s) else s
      | none => s
  | _, _ => s

/-- The stratum the module serves at (R470). -/
def ownStratum (s : State) : Nat :=
  if s.ntb.source = 1 then 1 else if timeLocked s then min 15 (s.bhn.stratum + 1) else 15

/-- A request is answered while time is valid (R470). -/
def ntpRequest (k : Nat) (s : State) : State :=
  let (d, s) := netTake k (fun d => d.dport == 123 && beNat (octets d.payload 0 1) % 8 == 3) s
  match d with
  | none => s
  | some d =>
    if fld s R.NTB_STAT_tstate ≠ 2 then s
    else
      let version := beNat (octets d.payload 0 1) / 8 % 8
      let head : List Byte := [BitVec.ofNat 8 (8 * version + 4), BitVec.ofNat 8 (ownStratum s)]
      sendDatagram k 17 d.peer 123 d.sport 0
        (head ++ octets d.payload 2 1 ++ List.replicate 21 0 ++ octets d.payload 40 8 ++ toNtp s (d.stamp - (stampLag s k).1)
          ++ toNtp s (netNs s)) s

/-! ### Terminus messages (R471-R474) -/

/-- The octets of a terminus message under the announcement key; none without a key in slot 6. -/
def terminusMessage (s : State) (kind arg : Nat) : Option (List Byte) :=
  let flags := b2n (timeLocked s) + 2 * b2n (isDeputy s && s.bhn.claims) + 4 * b2n (fld s R.NTB_STAT_tstate == 2)
  let m := leBytes 1 1 ++ leBytes 1 kind ++ leBytes 2 (segWord s) ++ leBytes 1 flags ++ List.replicate 3 0 ++
    leBytes 8 (netSec s) ++ leBytes 8 arg
  (slotKey s 6).map (fun k => m ++ cmac k m)

/-- Sends a terminus message. -/
def sendTerminus (kind arg : Nat) (peer : List Byte) (s : State) : State :=
  match terminusMessage s kind arg with
  | some m => sendBackhaul peer 5685 0 m s
  | none => s

/-- The event of a change of the terminus: 1 claim, 2 hand-back, 3 double claim. -/
def terminusEvent (segment kind : Nat) (s : State) : State := post 0x02 0x06 (leBytes 2 segment ++ leBytes 1 kind) s

/-- The announcement of the module that acts as the terminus, to every subscriber (R71). -/
def announce (s : State) : State :=
  let s := setBhn { s.bhn with announced := some (netSec s) } s
  s.bhn.subs.foldl (fun s x => sendTerminus 1 (fld s R.NTB_STAT_plen_act) x.peer s) s

/-- At a multiple of 10 s. A terminus that has heard no acting deputy takes its role; one that follows the deputy does not. -/
def terminusAnnounce (s : State) : State :=
  if netSec s % 10 ≠ 0 ∨ s.bhn.announced = some (netSec s) ∨ !isActive s then s
  else if s.bhn.claims then announce s
  else if isTerminus s ∧ !s.bhn.ceded then
    announce (terminusEvent (segWord s % 1024) 1 (setBhn { s.bhn with claims := true } s))
  else s

/-- One second after a multiple of 10 s: the deputy counts an announcement that has not come (R72). -/
def announceMissed (s : State) : State :=
  if !isDeputy s ∨ s.bhn.claims ∨ !isActive s ∨ netSec s % 10 ≠ 1 then s
  else if s.bhn.heard = netSec s - 1 then s
  else
    let n := s.bhn.missed + 1
    let s := setBhn { s.bhn with missed := n } s
    if n = 3 then faultRaise 0x0504 ((s.bhn.claimants.getLast?.map (·.1)).getD 0 % 1024) true s else s

/-- At the multiple of 10 s after the third miss the deputy claims (R72). -/
def deputyClaim (s : State) : State :=
  if isDeputy s ∧ !s.bhn.claims ∧ isActive s ∧ 3 ≤ s.bhn.missed ∧ fld s R.NTB_STAT_tstate = 2 ∧ netSec s % 10 = 0 then
    announce (terminusEvent (segWord s % 1024) 1 (setBhn { s.bhn with claims := true, handback := none } s))
  else s

/-- A returned terminus that has been locked for 600 s says that it is ready (R73). -/
def terminusReady (s : State) : State :=
  match s.bhn.lockedAt, slook s.bhn.addrs 3 with
  | some t, some peer =>
    if isTerminus s ∧ s.bhn.ceded ∧ s.bhn.readyAt.isNone ∧ isActive s ∧ timeLocked s ∧ t + secTicks 600 ≤ s.now then
      sendTerminus 3 0 peer (setBhn { s.bhn with readyAt := some s.now } s)
    else s
  | _, _ => s

/-- The hand-back second: the deputy stops, the terminus announces (R73). -/
def handbackSecond (s : State) : State :=
  match s.bhn.handback with
  | none => s
  | some h =>
    if netSec s < h then s
    else
      let s := setBhn { s.bhn with handback := none, readyAt := none } s
      if isTerminus s then
        announce (terminusEvent (segWord s % 1024) 2 (setBhn { s.bhn with claims := true, ceded := false } s))
      else if isDeputy s ∧ s.bhn.claims then
        terminusEvent (segWord s % 1024) 2 (setBhn { s.bhn with claims := false, missed := 0, heard := h } s)
      else s

/-- The uid of the twin partner as admitted on the link, 0 without a twin (R472). -/
def twinUid (s : State) : Nat :=
  if isTwin s then sget (fun _ => 0) s.tkn.admUid (2 * ownMember s + (1 - ownSide s)) else 0

/-- A subscribe to the terminus and the deputy (R471). -/
def subscribeSend (s : State) : State :=
  if !isActive s then s
  else [2, 3].foldl (fun s k => match slook s.bhn.addrs k with
    | some peer => sendTerminus 2 (uid0 + 2 ^ 32 * twinUid s) peer s
    | none => s) s

/-- The firmware follows a claimant; a new one is polled at once (R70). -/
def followClaimant (deputy : Bool) (s : State) : State :=
  if s.bhn.deputy = deputy then s else ntpPoll (setBhn { s.bhn with deputy } s)

/-- An accepted announcement: whom to follow, double claims (R22), the deputy's count (R72), the path length (R474). -/
def takeAnnounce (seg secs plen : Nat) (acting : Bool) (s : State) : State :=
  let segment := seg % 1024
  let rival := (s.bhn.claimants.filter (fun c => c.2 == secs && c.1 % 1024 != segment)).map (·.1 % 1024)
  let s := setBhn { s.bhn with claimants := sins s.bhn.claimants seg secs } s
  let own := segWord s % 1024
  let s := if s.bhn.claims ∧ segment < own then
      terminusEvent segment 3 (setBhn { s.bhn with claims := false, ceded := isTerminus s } s)
    else if rival ≠ [] then terminusEvent (rival.foldl min segment) 3 s else s
  let s := if s.bhn.claims ∨ rival.any (· < segment) then s else followClaimant acting s
  let s := if isTerminus s ∧ !s.bhn.claims ∧ acting then setBhn { s.bhn with ceded := true } s else s
  let s := if secs % 10 = 0 then setBhn { s.bhn with heard := secs, missed := 0 } s else s
  let s := faultsEnd (fun e => e.code == 0x0504) s
  let differs := plen != fld s R.NTB_STAT_plen_act
  let was := s.bhn.mismatch
  let s := setBhn { s.bhn with mismatch := differs } s
  if differs && !was then post 0x07 0x06 (leBytes 1 plen) s else if was && !differs then pathsReopen s else s

/-- An accepted subscribe: the list, and the conflict check of whoever acts as the terminus (R471, R474). -/
def takeSubscribe (seg uid twin : Nat) (peer : List Byte) (s : State) : State :=
  if !isTerminus s ∧ !isDeputy s then s
  else
    let first := ((s.bhn.subs.find? (fun x => x.uid == uid)).map (·.first)).getD s.now
    let mine : Subscriber := ⟨seg, uid, twin, peer, first, s.now⟩
    let others := s.bhn.subs.filter (fun x => x.uid != uid)
    let s := setBhn { s.bhn with subs := others ++ [mine] } s
    match others.find? (fun x => x.seg % 4096 == seg % 4096 && x.twin != uid && twin != x.uid && x.first ≤ first) with
    | some o => if s.bhn.claims then sendTerminus 5 (o.uid + 2 ^ 32 * (seg % 1024) + 2 ^ 42 * (seg / 1024 % 4)) peer s else s
    | none => s

/-- An accepted conflict message about this module's own pair (R14, R474). -/
def takeConflict (arg : Nat) (s : State) : State :=
  if arg / 2 ^ 32 % 4096 ≠ segWord s % 4096 ∨ arg % 2 ^ 32 = uid0 then s
  else
    let was := s.bhn.conflictAt.isSome
    let s := setBhn { s.bhn with conflictAt := some s.now } s
    let s := if was then s else post 0x07 0x05 (leBytes 2 (segWord s % 1024)) s
    if busy s 7 then fwField tteWritten R.TTE_CTRL_run 0 s else s

/-- Whether a terminus message is accepted (R473). -/
def terminusAccepts (s : State) (m : List Byte) : Bool :=
  let kind := leAt m 1 1
  let secs := leAt m 8 8
  let from_ := leAt m 2 2
  let arg := leAt m 16 8
  m.length == 40 && leAt m 0 1 == 1 && 1 ≤ kind && kind ≤ 5 && from_ < 2 ^ 13 && leAt m 4 1 < 8 && leAt m 5 3 == 0 &&
    (match kind with
      | 1 => arg < 4
      | 2 => true
      | 3 => arg == 0
      | 4 => true
      | _ => arg < 2 ^ 44) &&
    (match slotKey s 6 with
      | some k => m.drop 24 == cmac k (m.take 24)
      | none => false) &&
    (match slook s.bhn.last (8 * from_ + kind) with
      | some t => t < secs
      | none => true) &&
    (fld s R.NTB_STAT_tstate != 2 || (secs ≤ netSec s + 30 && netSec s ≤ secs + 30))

/-- A terminus message (R473): accepted and acted on by its kind, or discarded, counted and recorded. -/
def terminusReceive (k : Nat) (s : State) : State :=
  let (d, s) := netTake k (fun d => d.dport == 5685) s
  match d with
  | none => s
  | some d =>
    let m := d.payload
    let kind := leAt m 1 1
    if !terminusAccepts s m then
      post 0x0F 0x03 (leBytes 1 kind) (setBhn { s.bhn with discards := s.bhn.discards + 1 } s)
    else
      let seg := leAt m 2 2
      let secs := leAt m 8 8
      let arg := leAt m 16 8
      let s := setBhn { s.bhn with last := sins s.bhn.last (8 * seg + kind) secs } s
      if kind = 1 then takeAnnounce seg secs arg (bit (leAt m 4 1) 1) s
      else if kind = 2 then takeSubscribe seg (arg % 2 ^ 32) (arg / 2 ^ 32) d.peer s
      else if kind = 3 then
        if isDeputy s ∧ s.bhn.claims then
          let h := (secs + 20 + 59) / 60 * 60
          sendTerminus 4 h d.peer (setBhn { s.bhn with handback := some h } s)
        else s
      else if kind = 4 then
        if isTerminus s ∧ s.bhn.ceded ∧ s.bhn.readyAt.isSome then setBhn { s.bhn with handback := some arg } s else s
      else takeConflict arg s

/-- A subscriber has not subscribed for 180 s. -/
def subscriberExpiry (uid : Nat) (s : State) : State :=
  setBhn { s.bhn with subs := s.bhn.subs.filter (fun x => x.uid != uid || s.now < x.last + secTicks 180) } s

/-- No conflict message for 180 s: the conflict ends (R474). -/
def conflictExpiry (s : State) : State :=
  match s.bhn.conflictAt with
  | some t => if t + secTicks 180 ≤ s.now then pathsReopen (setBhn { s.bhn with conflictAt := none } s) else s
  | none => s

/-! ### The backhaul in use (R464, R466) -/

/-- The backhaul changes: its sessions close as after an idle timeout, the subscribes go out at once. -/
def backhaulChange (n : Nat) (s : State) : State :=
  if s.bhn.inUse = n then s
  else
    let s := closeSessions 1 2 s
    let s := setBhn { s.bhn with inUse := n, asked := none } s
    subscribeSend (post 0x0F 0x01 (leBytes 1 (natAt [0xFF, 0, 3] n)) s)

/-- Whether the modem is the other backhaul. -/
def modemUsed (s : State) : Bool := odForceNat s 10 0x14 1 == 1

/-- The backhaul after a change of ETH0. -/
def backhaulSettle (s : State) : State :=
  let held := portOn s 0 && portLink s 0 && s.bhn.usable
  let since := if held then (s.bhn.heldSince <|> some s.now) else none
  let s := setBhn { s.bhn with heldSince := since } s
  if held then
    let s := faultGone 0x0902 0 s
    if s.bhn.inUse = 0 then backhaulChange 1 s else s
  else
    let s := if s.bhn.inUse = 1 then faultRaise 0x0902 0 true s else s
    backhaulChange (if modemUsed s then 2 else 0) s

/-- A port's link, its speed and duplex, PAUSE as negotiated, and whether ETH0 has a usable address for its family. -/
def portLinkChange (k : Nat) (up spd fdx pause usable : Bool) (s : State) : State :=
  if 3 < k ∨ !portOn s k then s
  else
    let was := portLink s k
    let s := if up then raiseBit s R.BHN_STAT_link k else lowerBit s R.BHN_STAT_link k
    let s := if was = up then s else raise s R.BHN_IFLG_link
    let s := if k < 2 then
        let s := if up && fdx then raiseBit s R.BHN_STAT_fdx k else lowerBit s R.BHN_STAT_fdx k
        let s := if up && fdx && pause then raiseBit s R.BHN_STAT_pause k else lowerBit s R.BHN_STAT_pause k
        if up then s else setBhn { s.bhn with pausedTo := sdel s.bhn.pausedTo k, pauseAt := sdel s.bhn.pauseAt k } s
      else s
    if k = 0 then
      let s := setBool s R.BHN_STAT_spd0 (up && spd)
      backhaulSettle (setBhn { s.bhn with usable := up && usable } s)
    else s

/-- ETH0 has held link and an address for 60 s (R466). -/
def backhaulReturn (s : State) : State :=
  match s.bhn.heldSince with
  | some t => if s.bhn.inUse = 2 ∧ t + secTicks 60 ≤ s.now then backhaulChange 1 s else s
  | none => s

/-- Resolved addresses of A:0012 and A:0013: a failed resolution keeps the last address (R464). -/
def dnsResolve (found : List (Option (List Byte))) (s : State) : State :=
  let used (k : Nat) : Bool := odGet s 10 (0x12 + k / 2) (k % 2) != [0]
  upTo 4 (fun k s =>
    if !used k then setBhn { s.bhn with addrs := sdel s.bhn.addrs k } s
    else match found.getD k none with
      | some a => setBhn { s.bhn with addrs := sins s.bhn.addrs k a } s
      | none => post 0x0F 0x02 [] s) s

/-- What a write of a BHN register starts: a port that is enabled or powered down. -/
def bhnWritten (_o : Origin) (a : Nat) (_w : Word) (old s : State) : State :=
  if a = A.BHN_CTRL then
    let s := if fld s R.BHN_CTRL_en = 0 then blockStop s 15 else blockStart s 15
    let s := pllSettle s
    upTo 4 (fun k s =>
      if fldBit old R.BHN_CTRL_en k && !fldBit s R.BHN_CTRL_en k && portLink s k then
        let s := raise (lowerBit s R.BHN_STAT_link k) R.BHN_IFLG_link
        let s := if k < 2 then lowerBit (lowerBit s R.BHN_STAT_fdx k) R.BHN_STAT_pause k else s
        if k = 0 then backhaulSettle (lower s R.BHN_STAT_spd0) else s
      else s) s
  else s

/-! ### PPS (R25, R67) -/

/-- A rising PPS edge that capture 0 holds is a sample where PPS is this module's source and a source has given it its seconds: the
edge lies 50 ns before the capture (R80). The firmware clears the capture. -/
def ppsSample (s : State) : State :=
  let mine := (isTerminus s && !s.bhn.ceded) || (slook s.bhn.addrs 2).isNone
  if isSet s (R.CAPn_CFG_full 0) && fld s (R.CAPn_CFG_src 0) == 0x100 && mine && fld s R.NTB_STAT_tstate == 2
      && s.ntb.source != 0 then
    let ns := (fld s (R.CAPn_NS_ns 0) + 999999950) % 1000000000
    let d : Int := if ns < 500000000 then -(ns : Int) else 1000000000 - (ns : Int)
    sourceSample 1 d (lower s (R.CAPn_CFG_full 0))
  else s

/-! ### The commands -/

/-- A capture input event (CAPTURE, R79). -/
def execCapture (src : Nat) (rising : Bool) (s : State) : Host.Outcome State Fault Refusal :=
  let s := captureEvent src rising s
  .next (if src = 0x100 then ppsSample s else s)

def execNtpPoll (s : State) : Host.Outcome State Fault Refusal := .next (ntpPollDue s)
def execNtpResponse (k : Nat) (s : State) : Host.Outcome State Fault Refusal := .next (ntpResponse k s)
def execNtpRequest (k : Nat) (s : State) : Host.Outcome State Fault Refusal := .next (ntpRequest k s)
def execTerminusAnnounce (s : State) : Host.Outcome State Fault Refusal := .next (terminusAnnounce s)
def execAnnounceMissed (s : State) : Host.Outcome State Fault Refusal := .next (announceMissed s)
def execDeputyClaim (s : State) : Host.Outcome State Fault Refusal := .next (deputyClaim s)
def execTerminusReady (s : State) : Host.Outcome State Fault Refusal := .next (terminusReady s)
def execHandbackSecond (s : State) : Host.Outcome State Fault Refusal := .next (handbackSecond s)
def execSubscribeSend (s : State) : Host.Outcome State Fault Refusal := .next (subscribeSend s)
def execTerminusMessageReceive (k : Nat) (s : State) : Host.Outcome State Fault Refusal := .next (terminusReceive k s)
def execSubscriberExpiry (uid : Nat) (s : State) : Host.Outcome State Fault Refusal := .next (subscriberExpiry uid s)
def execConflictExpiry (s : State) : Host.Outcome State Fault Refusal := .next (conflictExpiry s)
def execPortLinkChange (k : Nat) (up spd fdx pause usable : Bool) (s : State) : Host.Outcome State Fault Refusal :=
  .next (portLinkChange k up spd fdx pause usable s)
def execBackhaulReturn (s : State) : Host.Outcome State Fault Refusal := .next (backhaulReturn s)
def execDnsResolve (found : List (Option (List (BitVec 8)))) (s : State) : Host.Outcome State Fault Refusal :=
  .next (dnsResolve found s)

end Sys2Proof.Machine
end

