-- ==== Sys2Proof/Machine/FieldBus.lean ====
section
/-!
DEFINITION. The field bus (chapter 17): FBC's buffers, reception and fault confinement, and the firmware's claim of its node
number, contactor commands, XN-C8 modules and input events.
-/

namespace Sys2Proof.Machine

def setFb (x : FbState) (s : State) : State := { s with fb := x }

/-! ### Lengths and identifiers (R432, R436, R437) -/

/-- Data octets of a DLC code. -/
def dlcLen (fdf : Bool) (d : Nat) : Nat := if fdf then natAt [0, 1, 2, 3, 4, 5, 6, 7, 8, 12, 16, 20, 24, 32, 48, 64] d else min d 8

/-- The lowest DLC code that carries `n` octets. -/
def lenDlc (n : Nat) : Nat := ((List.range 16).find? (fun d => n ≤ dlcLen true d)).getD 15

/-- An identifier of the module's protocols. -/
def fbId (fn dst src aux : Nat) : Nat := fn * 2 ^ 24 + dst * 2 ^ 14 + src * 2 ^ 7 + aux

def fbFn (id : Nat) : Nat := bits id 24 5
def fbDst (id : Nat) : Nat := bits id 14 7
def fbSrc (id : Nat) : Nat := bits id 7 7
def fbAux (id : Nat) : Nat := bits id 0 7

/-- Whether an identifier is one of R436's. -/
def fbIdOk (xtd : Bool) (id : Nat) : Bool :=
  xtd && bits id 21 3 == 0 && [0x01, 0x02, 0x04, 0x05, 0x08, 0x10, 0x11].contains (fbFn id)

/-- Whether a frame is one that the firmware acts on by its length (R437). -/
def fbFrameOk (xtd : Bool) (id len : Nat) : Bool :=
  fbIdOk xtd id && match fbFn id with
    | 0x02 => len == 24
    | 0x08 => len == 8
    | 0x10 => 8 ≤ len
    | 0x11 => 8 ≤ len
    | _ => len == 16

def fbNode (s : State) : Nat := fld s R.FBC_NODE_node

/-! ### Error counters (R447) -/

/-- The counters and the states that follow from them, as the registers show them. -/
def fbShow (s : State) : State :=
  let t := s.fb.tec
  let r := s.fb.rec_
  let s := setFld (setFld s R.FBC_ERR_tec (min t 255)) R.FBC_ERR_rec (min r 127)
  let s := setBool (setBool s R.FBC_ERR_rp (128 ≤ r)) R.FBC_STAT_ewarn (96 ≤ t || 96 ≤ r)
  if fld s R.FBC_STAT_state = 2 then s else setFld s R.FBC_STAT_state (b2n (128 ≤ t || 128 ≤ r))

/-- The counters take new values; reaching a limit raises its flag. -/
def fbCount (t r : Nat) (s : State) : State :=
  let warned := isSet s R.FBC_STAT_ewarn
  let was := fld s R.FBC_STAT_state
  let s := fbShow (setFb { s.fb with tec := t, rec_ := r } s)
  let s := if isSet s R.FBC_STAT_ewarn ∧ ¬ warned then raise s R.FBC_IFLG_ewarn else s
  if fld s R.FBC_STAT_state = 1 ∧ was = 0 then raise s R.FBC_IFLG_epass else s

/-- The code of the last error in its phase. -/
def fbErrCode (code : Nat) (dphase : Bool) (s : State) : State :=
  setFld s (if dphase then R.FBC_ERR_dlec else R.FBC_ERR_lec) code

/-! ### Transmit buffers (R441-R443) -/

def fbPending (s : State) (k : Nat) : Bool := fldBit s R.FBC_TXSTAT_pend k

/-- The order of a buffer's identifier in arbitration. -/
def fbRank (s : State) (k : Nat) : Nat :=
  if isSet s (R.FBC_TBk_ID_xtd k) then fld s (R.FBC_TBk_ID_id k) else fld s (R.FBC_TBk_ID_id k) % 2048 * 2 ^ 18

/-- The buffer that FBC chooses (R442). -/
def fbChoose (s : State) : Option Nat :=
  if fbPending s 0 then some 0
  else match fbPending s 1, fbPending s 2 with
    | false, false => none
    | true, false => some 1
    | false, true => some 2
    | true, true => if isSet s R.FBC_CTRL_txprio ∨ fbRank s 1 ≤ fbRank s 2 then some 1 else some 2

/-- Whether FBC may send now: it runs, is not in bus-off or restricted operation (R449, R450), and nothing is on the bus. -/
def fbMaySend (s : State) : Bool :=
  busy s 5 && !s.fb.stopping && fld s R.FBC_STAT_state != 2 && s.fb.tec < 256 && !isSet s R.FBC_CTRL_restr && s.fb.onBus.isNone

/-- The bus states as the register shows them. -/
def fbBusShow (s : State) : State :=
  setBool (setBool (setBool s R.FBC_STAT_idle (busy s 5 && s.fb.onBus.isNone)) R.FBC_STAT_tx s.fb.onBus.isSome)
    R.FBC_STAT_restr (isSet s R.FBC_CTRL_restr)

/-- A frame starts where one may; a stop that waited for bus idle ends (R434). -/
def fbStart (s : State) : State :=
  if s.fb.stopping ∧ s.fb.onBus.isNone then fbBusShow (blockStop (setFb { s.fb with stopping := false } s) 5)
  else if fbMaySend s then fbBusShow (setFb { s.fb with onBus := fbChoose s, abort := false } s)
  else fbBusShow s

/-- A request makes buffer `k` pending. -/
def fbRequest (k : Nat) (s : State) : State := fbStart (raiseBit s R.FBC_TXSTAT_pend k)

/-- A buffer leaves the pending state failed. -/
def fbFail (k : Nat) (s : State) : State :=
  raise (raiseBit (lowerBit s R.FBC_TXSTAT_pend k) R.FBC_TXSTAT_fail k) R.FBC_IFLG_txfail

/-- An abort of buffer `k`. -/
def fbAbort (k : Nat) (s : State) : State :=
  if !fbPending s k then s
  else if s.fb.onBus = some k then setFb { s.fb with abort := true } s
  else raiseBit (lowerBit s R.FBC_TXSTAT_pend k) R.FBC_TXSTAT_fail k

/-- The data octets of buffer `k`. -/
def fbData (s : State) (k : Nat) : List Byte :=
  let n := dlcLen (isSet s (R.FBC_TBk_CTL_fdf k)) (fld s (R.FBC_TBk_CTL_dlc k))
  if isSet s (R.FBC_TBk_CTL_rtr k) then [] else ((List.range 16).flatMap (fun j => leBytes 4 (fld s (R.FBC_TBk_Dj_d k j)))).take n

/-- The frame of buffer `k` as it leaves: identifier word, DLC, data. -/
def fbFrame (s : State) (k : Nat) : List Byte :=
  leBytes 4 (fld s (R.FBC_TBk_ID_id k) + 2 ^ 29 * fld s (R.FBC_TBk_ID_xtd k) + 2 ^ 30 * fld s (R.FBC_TBk_CTL_fdf k) +
    2 ^ 31 * (fld s (R.FBC_TBk_CTL_brs k) * fld s (R.FBC_TBk_CTL_fdf k) * fld s R.FBC_DBT_brse)) ++
    leBytes 1 (fld s (R.FBC_TBk_CTL_dlc k)) ++ fbData s k

/-! ### The firmware's frames -/

/-- Fills buffer `k` with a frame of the module's protocols and requests it. -/
def fbFill (k id : Nat) (ss : Bool) (data : List Byte) (s : State) : State :=
  let d := lenDlc data.length
  let data := padTo 64 data
  let s := setReg s (A.FBC_TBk_ID k) (BitVec.ofNat 32 (id + 2 ^ 29))
  let s := setReg s (A.FBC_TBk_CTL k) (BitVec.ofNat 32 (d + 16 + 32 * fld s R.FBC_DBT_brse + 64 * b2n ss))
  fbRequest k (upTo 16 (fun j s => setFld s (R.FBC_TBk_Dj_d k j) (leAt data (4 * j) 4)) s)

/-- Frames that wait go into buffers as they come free, in order. -/
def fbFeed : Nat → State → State
  | 0, s => s
  | n + 1, s =>
    match s.fb.wait with
    | [] => s
    | w :: rest =>
      let k := match w.buffer with
        | some k => if fbPending s k then none else some k
        | none => [1, 2].find? (fun k => !fbPending s k)
      match k with
      | some k => fbFeed n (fbFill k w.id w.ss w.data (setFb { s.fb with wait := rest } s))
      | none => s

/-- The firmware sends a frame from buffer 1 or 2 (R441, R459). -/
def fbSend (buffer : Option Nat) (id : Nat) (ss : Bool) (data : List Byte) (s : State) : State :=
  fbFeed 3 (setFb { s.fb with wait := s.fb.wait ++ [⟨buffer, id, data, ss⟩] } s)

/-! ### The claim (R451-R453) -/

/-- The segment word of claims and commands. -/
def fbSeg (s : State) : Nat := segWord s

/-- The claim's payload. -/
def claimPayload (s : State) : List Byte :=
  (List.range 4).flatMap (fun k => leBytes 4 (Config.uid k).toNat) ++ leBytes 2 0x7A41 ++ leBytes 2 (fbSeg s) ++ [1, 0, 0, 0]

def fbClaimId (s : State) : Nat := fbId 0x02 0 (fbNode s) 0

/-- Writes `FBC_CTRL.restr`. -/
def fbRestrict (on : Bool) (s : State) : State := fbStart (setBool s R.FBC_CTRL_restr on)

/-- Heartbeats and other traffic start. -/
def tknStart (s : State) : State := fwField tknWritten R.TKN_CTRL_run 1 s

/-- A duplicate stands (R453): silent on the field bus, recorded, checked again after 60 s. -/
def fbDuplicate (uid : List Byte) (s : State) : State :=
  let s := fbRestrict true (setFb { s.fb with claim := 5, claimAt := s.now } s)
  tknStart (faultRaise 0x0204 (fbNode s) true (post 0x05 0x02 uid s))

/-- The check begins (R451). -/
def claimBegin (s : State) : State := fbRestrict true (setFb { s.fb with claim := 1, claimAt := s.now, tries := 0 } s)

/-- The claim goes out: 50 ms after the check began, or 5 to 20 ms after a try that failed. -/
def claimSend (s : State) : State :=
  let due := (s.fb.claim = 1 ∧ s.fb.claimAt + msTicks 50 ≤ s.now) ∨
    (s.fb.claim = 2 ∧ s.fb.claimAt + msTicks 5 ≤ s.now ∧ ¬ fbPending s 1 ∧ s.fb.wait = [])
  if due then fbSend (some 1) (fbClaimId s) true (claimPayload s) (fbRestrict false (setFb { s.fb with claim := 2, claimAt := s.now } s)) else s

/-- 200 ms of listening without a duplicate. -/
def claimPass (s : State) : State :=
  if s.fb.claim = 3 ∧ s.fb.claimAt + msTicks 200 ≤ s.now then
    tknStart (faultGone 0x0204 (fbNode s) (setFb { s.fb with claim := 4 } s))
  else s

/-- The claim's try ended. -/
def claimTried (sent bitError : Bool) (s : State) : State :=
  if s.fb.claim ≠ 2 then s
  else if sent then setFb { s.fb with claim := 3, claimAt := s.now } s
  else if bitError ∨ 2 ≤ s.fb.tries then fbDuplicate (List.replicate 16 0) s
  else setFb { s.fb with tries := s.fb.tries + 1, claimAt := s.now } s

/-- The check runs again 60 s after a duplicate. -/
def claimAgain (s : State) : State :=
  if s.fb.claim = 5 ∧ s.fb.claimAt + secTicks 60 ≤ s.now then claimBegin s else s

/-! ### Ends of frames and errors -/

/-- A try of the buffer on the bus failed: single shot and aborted buffers leave, others compete again. -/
def fbTryFailed (bitError : Bool) (s : State) : State :=
  match s.fb.onBus with
  | none => s
  | some k =>
    let gone := isSet s (R.FBC_TBk_CTL_ss k) || s.fb.abort
    let s := setFb { s.fb with onBus := none } s
    let s := if gone then fbFail k s else s
    let s := if gone ∧ k = 1 then claimTried false bitError s else s
    fbFeed 3 (fbStart s)

/-- Fault confinement after an error (R447): in restricted operation the counters stand. -/
def fbError (tx : Bool) (inc code : Nat) (dphase : Bool) (s : State) : State :=
  let s := fbErrCode code dphase s
  if isSet s R.FBC_CTRL_restr then s
  else if tx then fbCount (min 511 (s.fb.tec + inc)) s.fb.rec_ s
  else fbCount s.fb.tec (min 255 (s.fb.rec_ + inc)) s

/-- The frame on the bus ends. -/
def fbTxEnd (e : TxEnd) (s : State) : State :=
  match s.fb.onBus, e with
  | none, _ => s
  | some _, .lost => fbTryFailed false s
  | some _, .error inc code dphase => fbTryFailed (code == 4 || code == 5) (fbError true inc code dphase s)
  | some k, .sent =>
    let s := emit .fieldBus (fbFrame s k) s
    let s := bump (raise (raiseBit (lowerBit s R.FBC_TXSTAT_pend k) R.FBC_TXSTAT_done k) R.FBC_IFLG_txdone) R.FBC_CNT_TX_n 1
    let s := fbCount (s.fb.tec - 1) s.fb.rec_ (setFb { s.fb with onBus := none } s)
    fbFeed 3 (fbStart (if k = 1 then claimTried true false s else s))

/-- Bus-off (R450), with what the firmware does about it. -/
def fbBusOff (s : State) : State :=
  if !busy s 5 ∨ fld s R.FBC_STAT_state = 2 ∨ s.fb.tec < 256 then s
  else
    let s := raise (bump (setFld s R.FBC_STAT_state 2) R.FBC_CNT_ERR_boff 1) R.FBC_IFLG_boff
    let k := s.fb.onBus
    let s := setFb { s.fb with onBus := none, recovering := if isSet s R.FBC_CTRL_auto_rec then some s.now else none } s
    let s := match k with
      | some k => if s.fb.abort then fbFail k s else s
      | none => s
    let recent := s.now :: s.fb.boffs.filter (fun t => s.now < t + secTicks 60)
    let s := post 0x05 0x01 (leBytes 1 (min 255 recent.length)) (setFb { s.fb with boffs := recent } s)
    if 8 ≤ recent.length ∧ s.fb.pauseAt = none then
      let s := lower (setFb { s.fb with recovering := none, pauseAt := some s.now } s) R.FBC_CTRL_auto_rec
      fbBusShow (faultRaise 0x0205 recent.length true s)
    else fbBusShow s

/-- Starts the recovery of a bus-off. -/
def fbRecover (s : State) : State :=
  if fld s R.FBC_STAT_state = 2 ∧ s.fb.recovering = none then setFb { s.fb with recovering := some s.now } s else s

/-- The nominal bit time in kernel clocks of 12.5 ns (R439). -/
def fbBit (s : State) : Nat := (3 + fld s R.FBC_NBT_tseg1 + fld s R.FBC_NBT_tseg2) * (fld s R.FBC_NBT_brp + 1)

/-- 128 × 11 recessive bits have passed: error active again. -/
def fbRecovered (s : State) : State :=
  match s.fb.recovering with
  | some t =>
    if 1408 * fbBit s * 125 ≤ (s.now - t) * 200 then
      let s := setFld (setFb { s.fb with recovering := none, tec := 0, rec_ := 0 } s) R.FBC_STAT_state 0
      let s := raise (fbShow s) R.FBC_IFLG_brec
      let gone := s.flt.list.foldl (fun s e => if e.code = 0x0205 then faultGone e.code e.source s else s) s
      fbStart gone
    else s
  | none => s

/-! ### Heartbeats (R366, R454) -/

/-- TKN fills buffer 0 with its heartbeat and requests it. -/
def hbSend (s : State) : State :=
  if busy s 13 ∧ s.fb.onBus ≠ some 0 then fbFill 0 (fbId 0x01 0 (fbNode s) 0) false (hbBlock s) (setFb { s.fb with hbAt := some s.now } s) else s

/-- The heartbeat of every `fbper` ms. -/
def hbTick (s : State) : State :=
  match s.fb.hbAt with
  | some t => if max t s.tkn.runAt + msTicks (fld s R.TKN_HB_fbper) ≤ s.now ∨ t < s.tkn.runAt then hbSend s else s
  | none => hbSend s

/-! ### Reception (R444-R446) -/

/-- Word `w` of filter element `j`. -/
def fbFilterWord (s : State) (j w : Nat) : Nat := memNat s (8 * fld s R.FBC_FLTA_addr + 8 * j + 4 * w) 4

/-- Whether filter element `j` matches an identifier. -/
def fbMatches (s : State) (xtd : Bool) (id j : Nat) : Bool :=
  let w0 := fbFilterWord s j 0
  let w1 := fbFilterWord s j 1
  let cut (n : Nat) : Nat := if xtd then bits n 0 29 else bits n 0 11
  let a := cut w0
  let b := cut w1
  bit w0 29 == xtd && match bits w0 30 2 with
    | 1 => a ≤ id && id ≤ b
    | 2 => (id &&& b) == (a &&& b)
    | 3 => id == a || id == b
    | _ => false

/-- What the filter list says of a frame: the matching element (0xFF none) and whether it is accepted and marked. -/
def fbFilter (s : State) (f : FbFrame) : Nat × Bool × Bool :=
  match (List.range (fld s R.FBC_FLTC_n)).find? (fbMatches s f.xtd f.id) with
  | some j => let act := bits (fbFilterWord s j 1) 29 2; (j, act == 1 || act == 2, act == 2)
  | none => (0xFF, isSet s R.FBC_FLTC_nm, false)

/-- Entries held in the receive queue. -/
def fbHeld (s : State) : Nat := (fld s R.FBC_RXIDX_wi + 128 - fld s R.FBC_RXIDX_ri) % 128

def fbEntryAddr (s : State) (i : Nat) : Nat := 16 * fld s R.FBC_RXQ_addr + 80 * (i % 64)

/-- An accepted frame enters the receive queue. -/
def fbQueue (f : FbFrame) (el : Nat) (marked : Bool) (s : State) : State :=
  if 64 ≤ fbHeld s then raise (bump s R.FBC_CNT_ERR_rxovr 1) R.FBC_IFLG_rxovr
  else
    let at_ := netNs s - f.sof
    let e := leBytes 4 (f.id % 2 ^ 29 + 2 ^ 29 * b2n f.xtd + 2 ^ 30 * b2n f.fdf + 2 ^ 31 * b2n f.brs) ++ leBytes 1 f.dlc ++
      leBytes 1 f.data.length ++ leBytes 1 (b2n f.esi + 2 * b2n f.rtr + 4 * b2n marked + 8 * b2n (el == 0xFF)) ++ leBytes 1 el ++
      leBytes 4 (at_ % 1000000000) ++ leBytes 4 (at_ / 1000000000) ++ padTo 64 f.data
    let wi := fld s R.FBC_RXIDX_wi
    let s := setFld (setBytes s (fbEntryAddr s wi) e) R.FBC_RXIDX_wi ((wi + 1) % 128)
    let s := bump (raise s R.FBC_IFLG_rx) R.FBC_CNT_RX_n 1
    let s := if marked then raise s R.FBC_IFLG_hpm else s
    if fld s R.FBC_RXIDX_wm ≠ 0 ∧ fbHeld s = fld s R.FBC_RXIDX_wm then raise s R.FBC_IFLG_rxwm else s

/-- The receive error counter after a frame received without error. -/
def fbRecGood (s : State) : State :=
  if 128 ≤ s.fb.rec_ then let (r, s) := takeFree 3 s; fbCount s.fb.tec (119 + min r 8) s
  else fbCount s.fb.tec (s.fb.rec_ - 1) s

/-- FBC receives a frame. -/
def fbReceive (f : FbFrame) (s : State) : State :=
  if !busy s 5 ∨ fld s R.FBC_STAT_state = 2 then s
  else if f.fdf ∧ f.pex then
    if isSet s R.FBC_CTRL_pexd then fbError false 1 2 false s
    else raise (bump s R.FBC_CNT_ERR_pex 1) R.FBC_IFLG_pex
  else if f.data.length ≠ (if f.rtr then 0 else dlcLen f.fdf f.dlc) ∨ (f.fdf ∧ f.rtr) ∨ 15 < f.dlc then fbError false 1 2 false s
  else
    let s := if isSet s R.FBC_CTRL_restr then s else fbRecGood s
    let s := if fbFrameOk f.xtd f.id f.data.length ∧ fbFn f.id = 0x01 then hbTaken true f.data s else s
    let dup := isSet s R.FBC_NODE_dupchk && fbIdOk f.xtd f.id && fbSrc f.id == fbNode s
    let s := if dup then raise (bump s R.FBC_CNT_ERR_dupsrc 1) R.FBC_IFLG_dupsrc else s
    let (el, ok, marked) := fbFilter s f
    let s := if ok then fbQueue f el marked s else s
    let uid := if fbFn f.id = 0x02 then padTo 16 f.data else List.replicate 16 0
    if dup ∧ s.fb.claim = 3 then fbDuplicate uid s
    else if dup ∧ s.fb.claim = 4 ∧ ¬ (ok ∧ fbFn f.id = 0x02) then post 0x05 0x02 uid s
    else s

/-- The head entry of the receive queue: identifier and data. -/
def fbHead (s : State) : Nat × Bool × List Byte :=
  let a := fbEntryAddr s (fld s R.FBC_RXIDX_ri)
  let w := memNat s a 4
  (w % 2 ^ 29, bit w 29, memBytes s (a + 16) (memNat s (a + 5) 1))

/-- The firmware moves past the head entry. -/
def fbPop (s : State) : State := setFld s R.FBC_RXIDX_ri ((fld s R.FBC_RXIDX_ri + 1) % 128)

/-- Whether the firmware acts on a frame of its receive queue. -/
def fbActs (s : State) (xtd : Bool) (id len : Nat) : Bool :=
  fbFrameOk xtd id len && (match fbFn id with
    | 0x02 => fbSrc id == fbNode s
    | 0x05 => true
    | 0x08 => true
    | 0x10 => fbDst id == fbNode s
    | _ => false)

/-- The firmware passes over entries it does not act on and takes the next one where it has function `fn`. -/
def fbTake (fn : Nat) : Nat → State → Option (Nat × List Byte) × State
  | 0, s => (none, s)
  | n + 1, s =>
    if fbHeld s = 0 then (none, s)
    else
      let (id, xtd, d) := fbHead s
      if fbActs s xtd id d.length then
        if fbFn id = fn then (some (id, d), fbPop s) else (none, s)
      else fbTake fn n (fbPop s)

/-! ### Contactor modules (R455-R457) -/

/-- The contactor states of 1:0030. -/
def contactors (s : State) : Nat := (List.range 4).foldl (fun a k => a + 2 ^ k * (odNat s 1 0x30 k % 2)) 0

/-- The owner's contactor command: every 100 ms and at a change. -/
def contactorSend (s : State) : State :=
  let on := contactors s
  let due : Bool := match s.fb.cmdAt with
    | some t => t + msTicks 100 ≤ s.now || on != s.fb.on
    | none => true
  if ownsHw s ∧ s.fb.claim = 4 ∧ due then
    let c := if on = s.fb.on then s.fb.cseq else (s.fb.cseq + 1) % 256
    let s := setFb { s.fb with on := on, cseq := c, cmdAt := some s.now } s
    fbSend none (fbId 0x04 0 (fbNode s) 0) false
      (leBytes 4 (fld s R.TKN_TOKEN_tok) ++ leBytes 2 (fbSeg s) ++ leBytes 1 c ++ [0] ++ leBytes 2 on ++ leBytes 2 0x000F ++ [0, 0, 0, 0]) s
  else s

def xnc8At (s : State) (n : Nat) : Xnc8 := sget (fun _ => {}) s.fb.xnc8 n

/-- Records a condition of XN-C8 `n` (R457): event and fault; the kinds' numbers are not the spec's. -/
def xnc8Record (n flags kind : Nat) (s : State) : State :=
  faultRaise 0x0206 n true (post 0x05 0x04 (leBytes 1 n ++ leBytes 1 flags ++ leBytes 1 (Config.code 1 kind)) s)

/-- A status of XN-C8 `n`. -/
def xnc8Status (n : Nat) (d : List Byte) (s : State) : State :=
  let x := xnc8At s n
  let flags := leAt d 7 1
  let lag := if leAt d 6 1 = s.fb.cseq then none else some (x.lag.getD s.now)
  let late : Bool := match lag with
    | some t => t + secTicks 1 < s.now
    | none => false
  let s := setFb { s.fb with xnc8 := sins s.fb.xnc8 n ⟨s.now, lag, false⟩ } s
  if !ownsHw s then s
  else
    let s := if flags % 4 ≠ 0 then xnc8Record n flags 0 s else s
    let s := if late then xnc8Record n flags 1 s else s
    if flags % 4 = 0 ∧ ¬ late then faultGone 0x0206 n s else s

/-- A status has been missing for 3 s. -/
def xnc8Missing (n : Nat) (s : State) : State :=
  match slook s.fb.xnc8 n with
  | some x =>
    if ownsHw s ∧ ¬ x.missed ∧ x.at_ + secTicks 3 ≤ s.now then
      xnc8Record n 0 2 (setFb { s.fb with xnc8 := sins s.fb.xnc8 n { x with missed := true } } s)
    else s
  | none => s

/-- The firmware takes an input event: the input, whether it carries a value and no count, and the value where the frame is for this module and no repetition (R458). -/
def inputTake (s : State) : Option (Nat × Bool × Int) × State :=
  match fbTake 0x08 128 s with
  | (none, s) => (none, s)
  | (some (id, d), s) =>
    let seg := leAt d 0 2
    let n := fbAux id
    let mine := bit seg 15 || seg % 4096 == segWord s % 4096
    let again : Bool := match slook s.fb.inputs n with
      | some (src, q, t) => src == fbSrc id && q == leAt d 3 1 && s.now < t + secTicks 1
      | none => false
    if !mine ∨ again then (none, s)
    else
      let v : Int := if leAt d 2 1 = 1 then signed 16 (leAt d 4 2) else (min 32767 (leAt d 4 2) : Nat)
      (some (n, leAt d 2 1 == 1, v), setFb { s.fb with inputs := sins s.fb.inputs n (fbSrc id, leAt d 3 1, s.now) } s)

/-! ### Registers -/

/-- What a write of an FBC register starts beside its fields. -/
def fbcWritten (_o : Origin) (a : Nat) (w : Word) (old s : State) : State :=
  if a = A.FBC_CTRL then
    let s := if isSet s R.FBC_CTRL_run ∧ !isSet old R.FBC_CTRL_run then blockStart (setFb { s.fb with stopping := false } s) 5
      else if !isSet s R.FBC_CTRL_run ∧ isSet old R.FBC_CTRL_run then
        let s := [1, 2].foldl (fun s k =>
          if !fbPending s k then s else if s.fb.onBus = some k then setFb { s.fb with abort := true } s else fbFail k s) s
        setFb { s.fb with stopping := true, recovering := none } s
      else s
    let s := if isSet old R.FBC_CTRL_auto_rec ∧ !isSet s R.FBC_CTRL_auto_rec then setFb { s.fb with recovering := none } s else s
    fbStart (if bit w.toNat 3 then fbRecover s else s)
  else if a = A.FBC_TXREQ then
    let s := [1, 2].foldl (fun s k => if bit w.toNat (4 + k) then fbAbort k s else s) s
    [1, 2].foldl (fun s k => if bit w.toNat k then fbRequest k s else s) s
  else s

/-! ### The commands -/

/-- TKN's heartbeat on the field bus (FB_HEARTBEAT_SEND, R366). -/
def execFbHeartbeatSend (s : State) : Host.Outcome State Fault Refusal := .next (hbTick s)

/-- FBC receives a frame (FB_FRAME_RECEIVE, R444). -/
def execFbFrameReceive (f : FbFrame) (s : State) : Host.Outcome State Fault Refusal := .next (fbReceive f s)

/-- An XN-C8 status (XNC8_STATUS_RECEIVE, R457). -/
def execXnc8StatusReceive (s : State) : Host.Outcome State Fault Refusal :=
  match fbTake 0x05 128 s with
  | (some (id, d), s) => .next (xnc8Status (fbSrc id) d s)
  | (none, s) => .next s

/-- A claim with the own node number (CLAIM_RECEIVE, R452): a module whose own check has passed records it and claims. -/
def execClaimReceive (s : State) : Host.Outcome State Fault Refusal :=
  match fbTake 0x02 128 s with
  | (some (_, d), s) =>
    if s.fb.claim = 4 then .next (fbSend none (fbClaimId s) false (claimPayload s) (post 0x05 0x02 (padTo 16 d) s)) else .next s
  | (none, s) => .next s

/-- A write of FBC_TXREQ.req (FB_TX_REQUEST, R442). -/
def execFbTxRequest (o : Origin) (req : BitVec 3) (s : State) : Host.Outcome State Fault Refusal :=
  .next (coreWrite fbcWritten o A.FBC_TXREQ (req.setWidth 32) s)

/-- A write of FBC_TXREQ.abort (FB_TX_ABORT, R443). -/
def execFbTxAbort (o : Origin) (abort : BitVec 3) (s : State) : Host.Outcome State Fault Refusal :=
  .next (coreWrite fbcWritten o A.FBC_TXREQ (abort.setWidth 32 <<< 4) s)

/-- The frame on the bus ends (FB_TX_COMPLETE, R443). -/
def execFbTxComplete (e : TxEnd) (s : State) : Host.Outcome State Fault Refusal := .next (fbTxEnd e s)

/-- FBC as receiver detects an error (FB_ERROR, R447); the receive error counter gains `inc`. -/
def execFbError (inc code : Nat) (dphase : Bool) (s : State) : Host.Outcome State Fault Refusal :=
  .next (if busy s 5 ∧ fld s R.FBC_STAT_state ≠ 2 then fbError false inc code dphase s else s)

/-- The transmit error counter has passed 255 (FB_BUS_OFF, R450). -/
def execFbBusOff (s : State) : Host.Outcome State Fault Refusal := .next (fbBusOff s)

/-- A write of FBC_CTRL.recover (FB_RECOVER, R450). -/
def execFbRecover (o : Origin) (s : State) : Host.Outcome State Fault Refusal :=
  .next (coreWrite fbcWritten o A.FBC_CTRL (rwWord s A.FBC_CTRL ||| 0x8) s)

/-- A recovery completes (FB_BUS_OFF_RECOVERED, R450). -/
def execFbBusOffRecovered (s : State) : Host.Outcome State Fault Refusal := .next (fbRecovered s)

/-- The pause of 10 s ends: the firmware writes `recover` and lets recovery be automatic again (FB_RECOVER_PAUSE_END, R450). -/
def execFbRecoverPauseEnd (s : State) : Host.Outcome State Fault Refusal :=
  match s.fb.pauseAt with
  | some t =>
    if t + secTicks 10 ≤ s.now then
      .next (fwWrite fbcWritten A.FBC_CTRL (rwWord s A.FBC_CTRL ||| 0xC) (setFb { s.fb with pauseAt := none } s))
    else .next s
  | none => .next s

/-- A write of FBC_CTRL.run (FBC_RUN_WRITE, R434). -/
def execFbcRunWrite (o : Origin) (run : Bool) (s : State) : Host.Outcome State Fault Refusal :=
  .next (coreWrite fbcWritten o A.FBC_CTRL (wordWith s R.FBC_CTRL_run (b2n run)) s)

/-- The stopped transceiver sees a wake-up pattern (FB_WAKEUP_PATTERN, R434). -/
def execFbWakeupPattern (s : State) : Host.Outcome State Fault Refusal :=
  .next (if !busy s 5 ∧ isSet s R.FBC_CTRL_wupen then latchSet 18 (raise s R.FBC_IFLG_wake) else s)

/-- The claim goes out (FB_CLAIM_START, R451). -/
def execFbClaimStart (s : State) : Host.Outcome State Fault Refusal := .next (claimSend s)

/-- Listening ends without a duplicate (FB_CLAIM_LISTEN_END, R451). -/
def execFbClaimListenEnd (s : State) : Host.Outcome State Fault Refusal := .next (claimPass s)

/-- The check runs again (FB_DUP_RECHECK, R453). -/
def execFbDupRecheck (s : State) : Host.Outcome State Fault Refusal := .next (claimAgain s)

/-- The owner's contactor command (CONTACTOR_COMMAND_SEND, R455). -/
def execContactorCommandSend (s : State) : Host.Outcome State Fault Refusal := .next (contactorSend s)

/-- A missing status (XNC8_STATUS_MISSING, R457). -/
def execXnc8StatusMissing (node : Nat) (s : State) : Host.Outcome State Fault Refusal := .next (xnc8Missing node s)

end Sys2Proof.Machine
end

