-- ==== Sys2Proof/Machine/Backup.lean ====
section
/-!
DEFINITION. The clock-calendar and backup domain (chapter 24): calendar, alarm, trim, charger and cell, tamper inputs, counters
and the mirror in the cell store.
-/

namespace Sys2Proof.Machine

def setBkd (x : BkdState) (s : State) : State := { s with bkd := x }

/-! ### Dates (R586) -/

/-- Whether a year of 2000-2199 has 29 days in February. -/
def leapYear (y : Nat) : Bool := y % 4 == 0 && y != 2100

def monthDays (y m : Nat) : Nat := if m = 2 ∧ leapYear y then 29 else natAt [0, 31, 28, 31, 30, 31, 30, 31, 31, 30, 31, 30, 31] m

def yearDays (y : Nat) : Nat := if leapYear y then 366 else 365

/-- Days from 2000-01-01 to a date. -/
def dayNumber (y m d : Nat) : Nat :=
  ((List.range (y - 2000)).map (fun i => yearDays (2000 + i))).sum + ((List.range (m - 1)).map (fun i => monthDays y (i + 1))).sum + (d - 1)

/-- The year in which day number `n`, counted from the first of year `y`, falls, with the days into it. -/
def yearOf : Nat → Nat → Nat → Nat × Nat
  | 0, y, n => (y, n)
  | k + 1, y, n => if n < yearDays y then (y, n) else yearOf k (y + 1) (n - yearDays y)

/-- The month of day `n` of year `y`, with the day of the month less 1. -/
def monthOf : Nat → Nat → Nat → Nat → Nat × Nat
  | 0, _, m, n => (m, n)
  | k + 1, y, m, n => if n < monthDays y m then (m, n) else monthOf k y (m + 1) (n - monthDays y m)

/-- Year, month and day of day number `n`. -/
def dateOf (n : Nat) : Nat × Nat × Nat :=
  let (y, r) := yearOf 200 2000 n
  let (m, d) := monthOf 12 y 1 r
  (y, m, d + 1)

/-- The weekday of day number `n`, 1 Monday to 7 Sunday: 2000-01-01 is a Saturday. -/
def weekdayOf (n : Nat) : Nat := (n + 5) % 7 + 1

/-- The days of 2000-2199. -/
def calDays : Nat := 73049

/-- Whether date and time of a set are within the ranges of R588. -/
def dateOk (y m d h mi sec : Nat) : Bool :=
  2000 ≤ y && y ≤ 2199 && 1 ≤ m && m ≤ 12 && 1 ≤ d && d ≤ monthDays y m && h ≤ 23 && mi ≤ 59 && sec ≤ 59

/-! ### The calendar's count (R586, R589, R590) -/

/-- Periods of the 32.768 kHz crystal since the model's start. -/
def crystal (s : State) : Nat := s.now * 256 / 390625

/-- The ticks that trim value `ppm` has added `k` ticks into a window, spread evenly. -/
def trimAdded (ppm : Int) (k : Nat) : Int := k * ppm / 1048576

def trimPpm (s : State) : Int := signed 10 (fld s R.BKD_TRIM_ppm)

/-- The calendar's position in 1/32,768 s since 2000-01-01. -/
def calPos (s : State) : Nat :=
  let e := crystal s - s.bkd.calAt
  let e := e - min e s.bkd.hold
  (s.bkd.cal + e + (trimAdded (trimPpm s) (s.bkd.winPos + e) - trimAdded (trimPpm s) s.bkd.winPos)).toNat

/-- Takes the calendar's position as its new starting point. -/
def calAnchor (s : State) : State :=
  let c := crystal s
  setBkd { s.bkd with cal := calPos s, calAt := c, hold := s.bkd.hold - (c - s.bkd.calAt), winPos := c - s.bkd.winAt } s

/-- Puts the calendar at position `p`. -/
def calPut (p : Nat) (s : State) : State :=
  let s := calAnchor s
  setBkd { s.bkd with cal := p, second := p / 32768 } s

/-- BKD_DATE and BKD_TIME of position `p`. -/
def dateWord (p : Nat) : Nat :=
  let n := p / 32768 / 86400
  let (y, m, d) := dateOf n
  d + 2 ^ 8 * m + 2 ^ 16 * y + 2 ^ 28 * weekdayOf n

def timeWord (p : Nat) : Nat :=
  let t := p / 32768 % 86400
  t % 60 + 2 ^ 8 * (t / 60 % 60) + 2 ^ 16 * (t / 3600)

/-- A date word and a time word as a position; the weekday is not read. -/
def wordsPos (d t sub : Nat) : Nat :=
  ((dayNumber (bits d 16 12) (bits d 8 4) (bits d 0 5) * 24 + bits t 16 5) * 60 + bits t 8 6) * 60 * 32768 + bits t 0 6 * 32768 + sub

/-- A set of the calendar (R588). -/
def calSet (d t sub : Nat) (valid : Bool) (s : State) : State :=
  if dateOk (bits d 16 12) (bits d 8 4) (bits d 0 5) (bits t 16 5) (bits t 8 6) (bits t 0 6) then
    let s := calPut (wordsPos d t sub) s
    let s := lower (setBkd { s.bkd with hold := 0 } s) R.BKD_STAT_shift_busy
    if valid then lower s R.BKD_STAT_cal_inv else s
  else post 0x03 0x03 [] (raise s R.BKD_IFLG_date_err)

/-- A shift by `n` ticks (R589). -/
def calShift (n : Int) (s : State) : State :=
  if isSet s R.BKD_STAT_shift_busy then cfgErr s 3
  else if 0 ≤ n then calPut (calPos s + n.toNat) s
  else raise (setBkd { (calAnchor s).bkd with hold := (-n).toNat } (calAnchor s)) R.BKD_STAT_shift_busy

/-- The hold of a negative shift ends. -/
def calShiftEnd (s : State) : State :=
  if isSet s R.BKD_STAT_shift_busy ∧ s.bkd.hold ≤ crystal s - s.bkd.calAt then lower (calAnchor s) R.BKD_STAT_shift_busy else s

/-- A trim window of 2^20 ticks ends: a waiting trim takes effect. -/
def trimWindow (s : State) : State :=
  if s.bkd.lost ∨ crystal s < s.bkd.winAt + 1048576 then s
  else
    let s := calAnchor s
    transferShadows (setBkd { s.bkd with winAt := s.bkd.winAt + 1048576, winPos := crystal s - (s.bkd.winAt + 1048576) } s) 3 .trim

/-- Whether the alarm matches position `p` (R591). -/
def alarmHit (s : State) (p : Nat) : Bool :=
  let t := timeWord p
  let d := dateWord p
  isSet s R.BKD_ALMT_en && bits t 0 6 == fld s R.BKD_ALMT_sec &&
    (isSet s R.BKD_ALMT_any_m || bits t 8 6 == fld s R.BKD_ALMT_min) &&
    (isSet s R.BKD_ALMT_any_h || bits t 16 5 == fld s R.BKD_ALMT_hour) &&
    (!isSet s R.BKD_ALMD_use_d || bits d 0 5 == fld s R.BKD_ALMD_day) &&
    (!isSet s R.BKD_ALMD_use_w || bits d 28 3 == fld s R.BKD_ALMD_wday)

/-- Sets the operating seconds. -/
def setOpt (n : Nat) (s : State) : State :=
  setFld (setFld s R.BKD_OPT_LO_s (n % 2 ^ 32)) R.BKD_OPT_HI_s (n / 2 ^ 32 % 2 ^ 32)

/-- The calendar passes into its next second (R586, R591, R596). -/
def calSecond (s : State) : State :=
  if s.bkd.lost ∨ calPos s / 32768 ≤ s.bkd.second then s
  else
    let n := s.bkd.second + 1
    let wrap := n = calDays * 86400
    let s := if wrap then
        let s := calAnchor s
        raise (setBkd { s.bkd with cal := s.bkd.cal - calDays * 86400 * 32768, second := 0 } s) R.BKD_STAT_cal_inv
      else setBkd { s.bkd with second := n } s
    let p := (if wrap then 0 else n) * 32768
    let s := raise s R.BKD_IFLG_tick
    let s := if alarmHit s p then latchSet 16 (raise s R.BKD_IFLG_alarm) else s
    let s := if isSet s R.BKD_PWAKE_en then
        let k := s.bkd.wakeCount + 1
        if fld s R.BKD_PWAKE_s ≤ k then latchSet 22 (setBkd { s.bkd with wakeCount := 0 } s)
        else setBkd { s.bkd with wakeCount := k } s
      else s
    if s.pwr.vin then setOpt ((opTime s + 1) % 2 ^ 64) s else s

/-! ### Charger, cell, tamper (R593-R595) -/

/-- The charger's target in mV. -/
def chargeTarget (s : State) : Nat := natAt [2700, 3000, 3300] (fld s R.BKD_CHG_volt)

/-- VBAK stands at `mv`: the charger stops at its target and starts again 100 mV below. -/
def chargerSwitch (mv : Nat) (s : State) : State :=
  if !s.pwr.vin ∨ fld s R.BKD_CHG_cur = 0 ∨ isSet s R.BKD_STAT_meas_busy then lower s R.BKD_STAT_chg
  else if chargeTarget s ≤ mv then lower s R.BKD_STAT_chg
  else if mv ≤ chargeTarget s - 100 then raise s R.BKD_STAT_chg
  else s

/-- A measurement of the cell begins. -/
def cellMeasure (s : State) : State :=
  if isSet s R.BKD_STAT_meas_busy then s
  else lower (raise (setBkd { s.bkd with measAt := s.now, chgWas := isSet s R.BKD_STAT_chg } s) R.BKD_STAT_meas_busy) R.BKD_STAT_chg

/-- Reports the conditions of the faults of `code` absent, whatever their source. -/
def faultGoneAll (code : Nat) (s : State) : State :=
  ((s.flt.list ++ s.flt.unlisted).filter (fun e => e.code == code)).foldl (fun s e => faultGone e.code e.source s) s

/-- The measurement ends with `mv`: 100 ms of suspension and 1 ms of load have passed. -/
def cellMeasured (mv : Nat) (s : State) : State :=
  if !isSet s R.BKD_STAT_meas_busy ∨ s.now < s.bkd.measAt + msTicks 101 then s
  else
    let s := setBool (lower s R.BKD_STAT_meas_busy) R.BKD_STAT_chg (s.bkd.chgWas && s.pwr.vin && fld s R.BKD_CHG_cur != 0)
    let s := setFld s R.BKD_VBAK_mv (min mv 4095)
    if mv < fld s R.BKD_VBAK_thr then
      faultRaise 0x0601 (min mv 4095) true (post 0x03 0x04 (leBytes 2 (min mv 4095)) (raise (raise s R.BKD_STAT_cell_low) R.BKD_IFLG_cell_low))
    else faultGoneAll 0x0601 (lower s R.BKD_STAT_cell_low)

/-- Whether input `k` stands at its active level. -/
def tamperActive (s : State) (k : Nat) : Bool := fldBit s R.BKD_TMPIN_lvl k != isSet s (R.BKD_TMPCFG_polk k)

/-- Input `k` latches (R595, R510). -/
def tamperLatch (k : Nat) (s : State) : State :=
  if fldBit s R.BKD_TMPIN_lat k then s
  else
    let s := raise (raiseBit s R.BKD_TMPIN_lat k) R.BKD_IFLG_tamper
    let s := bump s R.BKD_TCNT_n 1
    let ins := fld s R.BKD_TMPIN_lat
    let s := zeroize 1 ins s
    faultRaise 0x0602 ins false (postFnd 0x03 0x01 (leBytes 1 ins ++ leBytes 4 (fld s R.BKD_TCNT_n)) s)

/-- Input `k` has stood at `level` for `held` ns. -/
def tamperInput (k : Nat) (level : Bool) (held : Nat) (s : State) : State :=
  if 4 ≤ k ∨ s.bkd.lost then s else
  let s := if level then raiseBit s R.BKD_TMPIN_lvl k else lowerBit s R.BKD_TMPIN_lvl k
  if isSet s (R.BKD_TMPCFG_enk k) ∧ tamperActive s k ∧ natAt [0, 1000, 2000, 8000] (fld s (R.BKD_TMPCFG_fltk k)) ≤ held then tamperLatch k s
  else s

/-! ### Registers (R585, R587) -/

/-- What a write of a BKD register does in the backup domain beside its fields. -/
def bkdWritten (_o : Origin) (a : Nat) (w : Word) (old s : State) : State :=
  if a = A.BKD_CTRL then
    let s := if bit w.toNat 0 then
        calSet (reg s A.BKD_SETD).toNat (reg s A.BKD_SETT).toNat (fld s R.BKD_SETS_sub) (isSet s R.BKD_SETD_valid) s else s
    let s := if bit w.toNat 1 then calShift (signed 16 (fld s R.BKD_SHIFT_ticks)) s else s
    if bit w.toNat 2 then cellMeasure s else s
  else if a = A.BKD_PWAKE then
    if isSet s R.BKD_PWAKE_en ∧ ¬ isSet old R.BKD_PWAKE_en then setBkd { s.bkd with wakeCount := 0 } s else s
  else if a = A.BKD_CHG then if fld s R.BKD_CHG_cur = 0 then lower s R.BKD_STAT_chg else s
  else if a = A.BKD_TMPCFG then
    upTo 4 (fun k s =>
      let changed := isSet s (R.BKD_TMPCFG_enk k) != isSet old (R.BKD_TMPCFG_enk k) ||
        isSet s (R.BKD_TMPCFG_polk k) != isSet old (R.BKD_TMPCFG_polk k)
      if changed && isSet s (R.BKD_TMPCFG_enk k) && tamperActive s k then tamperLatch k s else s) s
  else if a = A.BKD_OPT_LO then setBkd { s.bkd with optLo := some w.toNat } s
  else if a = A.BKD_OPT_HI then
    let v := s.bkd.optLo.getD (fld s R.BKD_OPT_LO_s) + 2 ^ 32 * w.toNat
    let s := setBkd { s.bkd with optLo := none } s
    if v < opTime s then cfgErr s 3 else setOpt v s
  else s

/-- A core's write of a BKD register: it waits to be carried into the domain (R585). -/
def bkdWrite (o : Origin) (a : Nat) (w : Word) (s : State) : State :=
  match judge s o a (some w) with
  | .pass =>
    if s.bkd.carry.any (fun c => c.addr == a) then setResult o .done (cfgErr s 3)
    else setResult o .done (raise (setBkd { s.bkd with carry := s.bkd.carry ++ [⟨o, a, w⟩] } s) R.BKD_STAT_sync)
  | .refuse => planeRefuse o a true s
  | .busError => setResult o .busError s
  | .ignore => setResult o .done s

/-- The oldest waiting write reaches the domain. -/
def bkdCarried (s : State) : State :=
  match s.bkd.carry with
  | [] => s
  | c :: rest =>
    let s := setBool (setBkd { s.bkd with carry := rest } s) R.BKD_STAT_sync (rest != [])
    regWrite bkdWritten c.o c.addr c.word s

/-- What BKD answers to a read: the subsecond, latching date and time for the reading core (R587). -/
def bkdRead (o : Origin) (a : Nat) (v : Word) (s : State) : Word × State :=
  let h : Nat × Nat := match o.core with
    | .core0 => s.bkd.hold0
    | .core1 => s.bkd.hold1
  if a = A.BKD_SUB then
    let p := calPos s
    let h := (dateWord p, timeWord p)
    (BitVec.ofNat 32 (p % 32768),
      match o.core with
      | .core0 => setBkd { s.bkd with hold0 := h } s
      | .core1 => setBkd { s.bkd with hold1 := h } s)
  else if a = A.BKD_DATE then (BitVec.ofNat 32 h.1, s)
  else if a = A.BKD_TIME then (BitVec.ofNat 32 h.2, s)
  else (v, s)

/-! ### The mirror (R597, R598) -/

/-- The octets of mirror copy `i`. -/
def mirrorCopy (s : State) (i : Nat) : List Byte := memBytes s (0x20008000 + 64 * i) 64

def mirrorValid (b : List Byte) : Bool := leAt b 60 4 == crc32 (b.take 60)

/-- The valid copy with the higher `mseq`. -/
def mirrorNewest (s : State) : Option (List Byte) :=
  let a := mirrorCopy s 0
  let b := mirrorCopy s 1
  match mirrorValid a, mirrorValid b with
  | true, true => some (if leAt a 28 4 < leAt b 28 4 then b else a)
  | true, false => some a
  | false, true => some b
  | false, false => none

/-- Which copy is the older one: the next written. -/
def mirrorOlder (s : State) : Nat :=
  let a := mirrorCopy s 0
  let b := mirrorCopy s 1
  if !mirrorValid a then 0 else if !mirrorValid b then 1 else if leAt a 28 4 < leAt b 28 4 then 0 else 1

/-- Writes a mirror copy. -/
def mirrorWrite (s : State) : State :=
  let q := match mirrorNewest s with
    | some m => leAt m 28 4 + 1
    | none => 1
  let p := calPos s
  let b := leBytes 4 (dateWord p) ++ leBytes 4 (timeWord p) ++ leBytes 8 (opTime s) ++ leBytes 4 (fld s R.BKD_PCYC_n) ++
    leBytes 4 (fld s R.BKD_TCNT_n) ++ leBytes 1 (fld s R.BKD_STAT_cal_inv + 2 * b2n s.bkd.lostAtStart) ++ [0, 0, 0] ++
    leBytes 4 q ++ List.replicate 28 0
  setBytes s (0x20008000 + 64 * mirrorOlder s) (b ++ leBytes 4 (crc32 b))

/-- The checkpoint of every second; none while the early warning stands (R609). -/
def mirrorCheckpoint (s : State) : State :=
  if s.pwr.warning then s
  else
    let p := calPos s
    mirrorWrite (setBkd { s.bkd with hold0 := (dateWord p, timeWord p) } s)

/-- The firmware reconciles the domain with the mirror (R598). -/
def reconcile (s : State) : State :=
  let lost := isSet s R.BKD_STAT_time_lost
  let m := mirrorNewest s
  let at_ (i n : Nat) : Nat := match m with
    | some b => leAt b i n
    | none => 0
  let s := setOpt (max (opTime s) (at_ 8 8)) s
  let s := setFld s R.BKD_TCNT_n (min (max (fld s R.BKD_TCNT_n) (at_ 20 4) + b2n lost) (2 ^ 32 - 1))
  let cold := isSet s R.SYS_RSTCAUSE_por || isSet s R.SYS_RSTCAUSE_bor
  let s := setFld s R.BKD_PCYC_n (min (max (fld s R.BKD_PCYC_n) (at_ 16 4) + b2n cold) (2 ^ 32 - 1))
  let s := if lost ∧ m.isSome then calSet (at_ 0 4) (at_ 4 4) 0 false s else s
  let s := mirrorWrite (setBkd { s.bkd with lostAtStart := lost } s)
  if lost then lower (postFnd 0x03 0x02 [] s) R.BKD_STAT_time_lost else s

/-! ### Discipline (R592) -/

/-- Network time less Δ as a calendar position. -/
def utcPos (s : State) : Nat := ((netNs s - odInt 32 s 2 3 0 * 1000000000) * 32768 / 1000000000).toNat

/-- The nearest integer to `a / b`; of two equally near, the upper. -/
def nearest (a : Int) (b : Nat) : Int := (2 * a + b) / (2 * b)

/-- A check of the calendar against network time. -/
def discipline (s : State) : State :=
  let due : Bool := match s.bkd.checkAt with
    | some t => t + secTicks 3600 ≤ s.now || s.bkd.checkState != 2
    | none => true
  if !(timeLocked s) then setBkd { s.bkd with checkState := fld s R.NTB_STAT_tstate } s
  else if !due then s
  else
    let d : Int := (utcPos s : Int) - calPos s
    let valid := !isSet s R.BKD_STAT_cal_inv
    -- the trim: the rate since the check before, in steps of 2^-20
    let s := match s.bkd.checkAt with
      | some t =>
        if valid ∧ t < s.now then
          let ticks := (s.now - t) * 256 / 390625
          let p := clampInt (-511) 511 (trimPpm s + nearest (d * 1048576) (max ticks 1))
          shadow s R.BKD_TRIM_ppm (unsigned 10 p)
        else s
      | none => s
    let s := setBkd { s.bkd with checkAt := some s.now, checkState := 2 } s
    if valid ∧ -16384 < d ∧ d < 16384 then calShift d s
    else
      let p := utcPos s
      calSet (dateWord p) (timeWord p) (p % 32768) true s

/-! ### Loss and return of the domain (R584) -/

/-- VAON falls below 1.6 V: nothing of the domain is left. It can while VIN is absent only. -/
def domainLoss (s : State) : State :=
  if s.pwr.vin then s else setBkd { s.bkd with lost := true, mask := none, carry := [], hold := 0, optLo := none } s

/-- The registers that a backup power-on resets. -/
def backupRegister (a : Nat) : Bool :=
  blockIndex a == 3 || a == A.ICU_WEN || a == A.ICU_WPOL || a == A.ICU_WLAT || a == A.ICU_WCFG

/-- A backup power-on. -/
def backupPowerOn (s : State) : State :=
  if !s.bkd.lost then s
  else
    let c := crystal s
    let s := { s with regs := s.regs.filter (fun p => !backupRegister p.1), shadows := s.shadows.filter (fun p => !backupRegister (p.1 / 32)) }
    setBkd { s.bkd with lost := false, cal := 0, calAt := c, winAt := c, winPos := 0, second := 0, wakeCount := 0, checkAt := none } s

/-! ### The commands -/

/-- A write of BKD_CTRL.set (CALENDAR_SET, R588); it acts as the write is carried (R585). -/
def execCalendarSet (o : Origin) (s : State) : Host.Outcome State Fault Refusal := .next (bkdWrite o A.BKD_CTRL 1 s)

/-- A write of BKD_CTRL.shift (CALENDAR_SHIFT, R589). -/
def execCalendarShift (o : Origin) (s : State) : Host.Outcome State Fault Refusal := .next (bkdWrite o A.BKD_CTRL 2 s)

/-- A write of BKD_CTRL.meas (CELL_MEASURE, R594). -/
def execCellMeasure (o : Origin) (s : State) : Host.Outcome State Fault Refusal := .next (bkdWrite o A.BKD_CTRL 4 s)

/-- A waiting write reaches the backup domain (BKD_WRITE_CARRIED, R585). -/
def execBkdWriteCarried (s : State) : Host.Outcome State Fault Refusal := .next (bkdCarried s)

/-- The measurement ends (CELL_MEASURE_DONE, R594). -/
def execCellMeasureDone (mv : Nat) (s : State) : Host.Outcome State Fault Refusal := .next (cellMeasured mv s)

/-- A whole second of the calendar (CALENDAR_SECOND, R591). -/
def execCalendarSecond (s : State) : Host.Outcome State Fault Refusal := .next (calSecond s)

/-- A trim window ends (TRIM_WINDOW, R590). -/
def execTrimWindow (s : State) : Host.Outcome State Fault Refusal := .next (trimWindow s)

/-- VBAK crosses a limit of the charger (CHARGER_SWITCH, R593). -/
def execChargerSwitch (mv : Nat) (s : State) : Host.Outcome State Fault Refusal := .next (chargerSwitch mv s)

/-- A tamper input (TAMPER, R595). -/
def execTamper (k : Nat) (level : Bool) (held : Nat) (s : State) : Host.Outcome State Fault Refusal := .next (tamperInput k level held s)

/-- VAON is lost (BACKUP_DOMAIN_LOSS, R584). -/
def execBackupDomainLoss (s : State) : Host.Outcome State Fault Refusal := .next (domainLoss s)

/-- VAON returns (BACKUP_POWER_ON, R584). -/
def execBackupPowerOn (s : State) : Host.Outcome State Fault Refusal := .next (backupPowerOn s)

/-- The mirror's checkpoint (MIRROR_CHECKPOINT, R597). -/
def execMirrorCheckpoint (s : State) : Host.Outcome State Fault Refusal := .next (mirrorCheckpoint s)

/-- The calendar is held to network time (CALENDAR_DISCIPLINE, R592). -/
def execCalendarDiscipline (s : State) : Host.Outcome State Fault Refusal := .next (discipline s)

/-- A read of BKD_SUB (CALENDAR_READ, R587). -/
def execCalendarRead (o : Origin) (s : State) : Host.Outcome State Fault Refusal := .next (coreRead bkdRead [] o A.BKD_SUB s)

/-- A negative shift's hold ends (CALENDAR_SHIFT_END, R589). -/
def execCalendarShiftEnd (s : State) : Host.Outcome State Fault Refusal := .next (calShiftEnd s)

end Sys2Proof.Machine
end

