-- ==== Sys2Proof/Machine/Sun.lean ====
section
/-!
DEFINITION. Local time and daylight saving (R272-R275) and the sun (R276-R278). The formulas of R277 are evaluated in fixed
point with 18 decimals.
-/

namespace Sys2Proof.Machine

/-! ### Local time -/

/-- Network time less UTC in seconds, the standard offset and the daylight-saving shift in minutes. -/
def utcDelta (s : State) : Int := odInt 32 s 2 3 0
def tzMin (s : State) : Int := odInt 16 s 2 0x10 0
def shiftMin (s : State) : Nat := odNat s 2 0x12 0

/-- The date of a day count from 2000-01-01, which may lie before it. -/
def dateOfInt (d : Int) : Nat × Nat × Nat := dateOf d.toNat

/-- An instant of the rule in a year, in minutes of local standard time since 2000-01-01: `k` 0 the start, 4 the end. -/
def ruleMinute (s : State) (year k : Nat) : Int :=
  let el (i : Nat) : Nat := odNat s 2 0x11 (k + i)
  let d0 := dayNumber year (el 0) 1
  let first := d0 + (el 2 + 7 - weekdayOf d0) % 7
  let n := monthDays year (el 0)
  let day := if el 1 < 5 then first + 7 * (el 1 - 1) else first + 7 * ((d0 + n - 1 - first) / 7)
  1440 * day + el 3

/-- Whether daylight saving applies at minute `x` of local standard time (R273). -/
def dstAt (s : State) (x : Int) : Bool :=
  if (List.range 4).all (fun i => odNat s 2 0x11 i == odNat s 2 0x11 (4 + i)) then false
  else
    let y := (dateOfInt (x / 1440)).1
    let a := ruleMinute s y 0
    let b := ruleMinute s y 4
    if a ≤ b then a ≤ x && x < b else a ≤ x || x < b

/-- The minute of local standard time at network second `t`. -/
def stdMinute (s : State) (t : Int) : Int := (t - utcDelta s) / 60 + tzMin s

/-- `tz` + `dst` in force at network second `t`. -/
def localOffset (s : State) (t : Int) : Int := tzMin s + (if dstAt s (stdMinute s t) then (shiftMin s : Int) else 0)

/-- The local date at network second `t`, as days since 2000-01-01. -/
def localDay (s : State) (t : Int) : Int := ((t - utcDelta s) / 60 + localOffset s t) / 1440

/-- The network second of minute `m` of the wall clock on date `d` (R274). -/
def wallInstant (s : State) (d m : Int) : Int :=
  let std := 1440 * d + m
  let dst := std - shiftMin s
  let x := if dstAt s dst then dst else if !dstAt s std then std else ruleMinute s (dateOfInt (std / 1440)).1 0
  (x - tzMin s) * 60 + utcDelta s

/-- Rounded half to the nearest; how a tie comes out is open. -/
def nearDiv60 (n : Int) : Int :=
  let q := n / 60
  let r := n % 60
  if 2 * r < 60 then q else if 60 < 2 * r then q + 1 else q + b2n (Config.roundUp n 60)

/-- The node offset of R275 at network second `t`. -/
def toffAt (s : State) (t : Int) : Int := nearDiv60 (localOffset s t * 60 - utcDelta s)

/-! ### Fixed point -/

/-- 1, and the number pi. -/
def fpOne : Int := 1000000000000000000
def fpPi : Int := 3141592653589793238

def fpMul (a b : Int) : Int := a * b / fpOne
def fpDiv (a b : Int) : Int := if b = 0 then 0 else a * fpOne / b

/-- The sine series from a term of order `n` on. -/
def sinTerms (x2 : Int) : Nat → Int → Int → Int
  | 0, _, _ => 0
  | k + 1, t, n => t + sinTerms x2 k (-(fpMul t x2) / ((n + 1) * (n + 2))) (n + 2)

/-- Sine and cosine. -/
def fpSin (x : Int) : Int :=
  let y := (x + fpPi) % (2 * fpPi) - fpPi
  sinTerms (fpMul y y) 20 y 1
def fpCos (x : Int) : Int := fpSin (x + fpPi / 2)

/-- The angle between `lo` and `hi` whose cosine is `c`. -/
def acosIn (c : Int) : Nat → Int → Int → Int
  | 0, lo, _ => lo
  | k + 1, lo, hi =>
    let m := (lo + hi) / 2
    if c < fpCos m then acosIn c k m hi else acosIn c k lo m

def fpAcos (c : Int) : Int := acosIn c 64 0 fpPi

/-- A decimal constant of R277: `n` millionths; radians of `n` units of 1/`u` degree. -/
def fpMicro (n : Int) : Int := n * 1000000000000
def fpRad (n : Int) (u : Nat) : Int := n * fpPi / (180 * u)

/-! ### Sunrise and sunset (R277) -/

/-- Sunrise and sunset of day `d` as minutes after 00:00 UTC of the date. -/
def sunMinutes (s : State) (d : Int) : Option (Int × Int) :=
  let day := d.toNat
  let n : Int := (day - dayNumber (dateOf day).1 1 1 : Nat) + 1
  let g := 2 * fpPi * (n - 1) / 365
  let sg (k : Int) : Int := fpSin (k * g)
  let cg (k : Int) : Int := fpCos (k * g)
  let m := fpMicro
  let eqt := fpMul (229180000000000000000) (m 75 + fpMul (m 1868) (cg 1) - fpMul (m 32077) (sg 1) - fpMul (m 14615) (cg 2) -
    fpMul (m 40849) (sg 2))
  let dec := m 6918 - fpMul (m 399912) (cg 1) + fpMul (m 70257) (sg 1) - fpMul (m 6758) (cg 2) + fpMul (m 907) (sg 2) -
    fpMul (m 2697) (cg 3) + fpMul (m 1480) (sg 3)
  let lat := fpRad (odInt 32 s 6 1 0) 1000000
  let h0 := fpRad (odInt 16 s 6 3 0) 100
  let den := fpMul (fpCos lat) (fpCos dec)
  let num := fpSin h0 - fpMul (fpSin lat) (fpSin dec)
  let ch := fpDiv num den
  if den ≤ 0 ∨ fpOne < ch ∨ ch < -fpOne then none
  else
    let ha4 := fpAcos ch * 720 / fpPi * fpOne + fpAcos ch * 720 % fpPi * fpOne / fpPi
    let noon := 720 * fpOne - 4 * odInt 32 s 6 2 0 * (fpOne / 1000000) - eqt
    let near (x : Int) : Int := (2 * x + fpOne) / (2 * fpOne)
    some (near (noon - ha4), near (noon + ha4))

/-- Sunrise (`up`) or sunset of day `d` as a network second. -/
def sunInstant (s : State) (d : Int) (up : Bool) : Option Int :=
  (sunMinutes s d).map (fun p => d * 86400 + (if up then p.1 else p.2) * 60 + utcDelta s)

end Sys2Proof.Machine
end

