-- ==== Sys2Proof/Machine/ZoneFile.lean ====
section
/-!
DEFINITION. The zone model file (R260-R264), the conditions of R265 that the file alone decides, and the file in force.
-/

namespace Sys2Proof.Machine

/-! ### The file -/

/-- An input descriptor (R262): kind 0 unused, 1 radio, 2 wired; `id` is the EUI-64 or holds the SDC channel. -/
structure ZInput where
  kind : Nat
  ch : Nat
  offOk : Bool
  id : List Byte
  lo : Nat
  hi : Nat
  rise : Nat
  fall : Nat
  amps : Nat
  deriving DecidableEq, Repr

/-- The SDC channel of a wired input. -/
def ZInput.wire (i : ZInput) : Nat := leAt i.id 0 2 % 8192

/-- A measurement source (R263). -/
structure ZSource where
  skind : Nat
  sel : Nat
  split : Bool
  eui : List Byte
  deriving DecidableEq, Repr

/-- A carpet link (R264). -/
structure ZCarpet where
  src : Nat
  heading : Nat
  member : Nat
  zone : Nat
  elem : Nat
  weight : Nat
  deriving DecidableEq, Repr

/-- A zone record (R261). -/
structure ZRecord where
  zone : Nat
  n : Nat
  m : Nat
  p : Nat
  q : Nat
  pdiv : Nat
  ramp : Nat
  lanes : Nat
  ageMax : Nat
  mbytes : Nat
  block : List Byte
  inputs : List ZInput
  targets : List Byte
  sources : List ZSource
  carpets : List ZCarpet
  reserved : Bool
  deriving DecidableEq, Repr

/-- A zone model file (R260). -/
structure ZFile where
  magic : Nat
  fmt : Nat
  seg : Nat
  member : Nat
  zones : Nat
  plen : Nat
  kcode : Nat
  nouter : Nat
  bytes : Nat
  made : List Byte
  label : List Byte
  records : List ZRecord
  deriving DecidableEq, Repr

/-- The next multiple of 4. -/
def up4 (n : Nat) : Nat := (n + 3) / 4 * 4

def zInput (b : List Byte) : ZInput :=
  { kind := leAt b 0 1, ch := leAt b 1 1, offOk := bit (leAt b 2 1) 0, id := octets b 4 8, lo := leAt b 12 2,
    hi := leAt b 14 2, rise := leAt b 16 2, fall := leAt b 18 2, amps := leAt b 20 2 }

def zSource (b : List Byte) : ZSource :=
  { skind := leAt b 0 1, sel := leAt b 1 1, split := bit (leAt b 2 1) 0, eui := octets b 4 8 }

def zCarpet (b : List Byte) : ZCarpet :=
  { src := leAt b 0 1, heading := leAt b 1 1, member := leAt b 2 1, zone := leAt b 3 1, elem := leAt b 4 1, weight := leAt b 6 2 }

/-- The parts of `b` of `k` octets each from offset `i`. -/
def partsAt (b : List Byte) (i k n : Nat) : List (List Byte) := (List.range n).map (fun j => octets b (i + k * j) k)

/-- A zone record from its octets. -/
def zRecord (b : List Byte) : ZRecord :=
  let m := leAt b 6 1
  let p := leAt b 7 1
  let q := leAt b 8 1
  let ncar := leAt b 13 1
  let mb := leAt b 16 4
  let i0 := 32 + up4 mb
  let t0 := i0 + 24 * m
  let s0 := t0 + 8 * q
  let c0 := s0 + 12 * p
  { zone := leAt b 4 1, n := leAt b 5 1, m, p, q, pdiv := leAt b 9 1, ramp := leAt b 10 1, lanes := leAt b 11 1 % 16,
    ageMax := leAt b 12 1, mbytes := mb, block := octets b 32 mb, inputs := (partsAt b i0 24 m).map zInput,
    targets := octets b t0 (8 * q), sources := (partsAt b s0 12 p).map zSource,
    carpets := (partsAt b c0 8 ncar).map zCarpet,
    reserved := leAt b 14 2 != 0 || leAt b 22 10 != 0 || 16 < ncar || leAt b 0 4 < c0 + 8 * ncar || b.length < leAt b 0 4 }

/-- The zone records from offset `i` on. -/
def zRecords (b : List Byte) (i : Nat) : Nat → List ZRecord
  | 0 => []
  | k + 1 => zRecord ((b.drop i).take (max 32 (leAt b i 4))) :: zRecords b (i + up4 (max 32 (leAt b i 4))) k

def zFile (b : List Byte) : ZFile :=
  { magic := leAt b 0 4, fmt := leAt b 4 2, seg := leAt b 6 2, member := leAt b 8 1, zones := leAt b 9 1, plen := leAt b 10 1,
    kcode := leAt b 11 1, nouter := leAt b 12 1, bytes := leAt b 16 4, made := octets b 20 12, label := octets b 32 32,
    records := zRecords b 64 (leAt b 9 1) }

/-- The model file in force (R271). -/
def zoneFile (s : State) : Option ZFile := if s.nv.zfile = [] then none else some (zFile s.nv.zfile)

def zoneRecords (s : State) : List ZRecord := match zoneFile s with
  | some f => f.records
  | none => []

/-- The record of zone `z` in the file in force. -/
def zoneRecord (s : State) (z : Nat) : Option ZRecord := (zoneRecords s).find? (fun r => r.zone == z)

/-! ### Lookups -/

/-- The directory entry that a record describes, for its dimensions alone. -/
def ZRecord.dims (r : ZRecord) : ZoneEntry :=
  decodeZone (leBytes 4 1 ++ leBytes 1 r.n ++ leBytes 1 r.m ++ leBytes 1 r.p ++ leBytes 1 r.q ++ leBytes 1 r.pdiv)

/-- The measurement descriptor of element `i`. -/
def ZRecord.desc (r : ZRecord) (i : Nat) : Nat := leAt r.block (arrayAt r.dims 11 + 2 * i) 2

/-- Whether element `i` is of the count class. -/
def ZRecord.counts (r : ZRecord) (i : Nat) : Bool := bit (r.desc i) 1

/-- The zones and positions at which channel `ch` of the node `eui` is an input. -/
def inputPlaces (s : State) (eui : List Byte) (ch : Nat) : List (Nat × Nat × ZInput) :=
  (zoneRecords s).flatMap (fun r => (r.inputs.zipIdx.filter (fun (i, _) => i.kind == 1 && i.id == eui && i.ch == ch)).map
    (fun (i, j) => (r.zone, j, i)))

/-! ### Checks (R265, in its order) -/

/-- The positions of a record's radio inputs. -/
def ZRecord.radio (r : ZRecord) : List Nat := (r.inputs.zipIdx.filter (fun (i, _) => i.kind == 1)).map (·.2)

/-- The level frames a zone takes on each of its lanes (R183). -/
def zoneFrames (s : State) (r : ZRecord) : Nat := (frameSplit r.radio (min 64 (8 * (psduMax s - 24) / 10)) 64).length

/-- The lane budget of R244. -/
def laneBudget (s : State) (kcode : Nat) : Nat := min (odNat s 5 3 0) (natAt [2, 5, 12, 24, 48] kcode)

/-- The most frames that a lane receives in one cycle; `lanesOf` gives a zone's lane mask. -/
def laneLoad (s : State) (rs : List ZRecord) (lanesOf : ZRecord → Nat) (lane : Nat) : Nat :=
  ((List.range 4).map (fun c => ((rs.filter (fun r => bit (lanesOf r) lane && c % 2 ^ bits r.pdiv 0 2 == bits r.pdiv 2 2)).map
    (zoneFrames s)).sum)).foldl max 0

/-- R245 and R246 on a record. -/
def ZRecord.wellFormed (r : ZRecord) : Bool :=
  let e := r.dims
  r.zone ≤ 127 && 1 ≤ r.n && r.n ≤ 64 && 1 ≤ r.m && r.m ≤ 64 && r.p ≤ 64 && 1 ≤ r.q && r.q ≤ 32 &&
  bits r.pdiv 0 2 ≤ 2 && bits r.pdiv 2 2 < 2 ^ bits r.pdiv 0 2 && r.pdiv < 16 && !r.reserved &&
  leAt r.block 0 2 == 1 && leAt r.block 2 2 == 0 && leAt r.block 4 4 == r.mbytes && blockNeeds e ≤ r.mbytes &&
  (List.range 8).all (fun k => leAt r.block (8 + k) 1 ≤ 31) &&
  r.inputs.all (fun i => i.kind ≤ 2 && i.lo ≤ i.hi && i.hi ≤ 1000 && i.ch ≤ 3)

/-- Whether the nine elements of every split source stand together and no heading slot stands elsewhere (R258). -/
def ZRecord.slotsOk (r : ZRecord) : Bool :=
  let sp (i : Nat) : Bool := match r.sources[i]? with
    | some x => x.skind == 2 && x.split
    | none => false
  (List.range r.p).all (fun i =>
    (!sp i || (List.range 8).all (fun h => (r.sources[i + 1 + h]?.map (·.skind)) == some 3)) &&
    ((r.sources[i]?.map (·.skind)) != some 3 || (List.range 8).any (fun h => h + 1 ≤ i && sp (i - (h + 1)))))

/-- No element twice. -/
def noRepeats (l : List (List Byte × Nat × Nat)) : Bool := l.dedup.length == l.length

/-- What source of a node a measurement source names: a measurement of its reports, or an entry of its presence frames. -/
def sourceKeys (r : ZRecord) : List (List Byte × Nat × Nat) :=
  (r.sources.filter (fun x => x.skind == 1 || x.skind == 2)).map (fun x => (x.eui, x.skind, x.sel))

/-- The carpet links of a record name count elements only. -/
def carpetsOk (f : ZFile) (r : ZRecord) : Bool :=
  r.carpets.all (fun c => c.src < r.p && r.counts c.src &&
    (if c.member == 0xFF || c.member == f.member then
      match f.records.find? (fun x => x.zone == c.zone) with
      | some x => c.elem < x.p && x.counts c.elem
      | none => false
    else c.member ≤ 3))

/-- The first of the conditions of R265 that holds, 0 where none does. `seg`, `member`, `plen`, `kcode` and `nouter` are the
values the file must name; `lanesOf` gives the lane mask of a zone in the directory that would be written. The signature is
checked before (R534). -/
def zoneFileCause (s : State) (b : List Byte) (plen kcode nouter : Nat) (lanesOf : ZRecord → Nat) : Nat :=
  let f := zFile b
  if f.magic ≠ 0x464D5A58 ∨ f.fmt ≠ 1 ∨ f.bytes ≠ b.length then 1
  else if f.seg ≠ odForceNat s 9 1 0 ∨ f.member ≠ fld s R.TKN_CFG_member then 2
  else if f.plen ≠ plen ∨ f.kcode ≠ kcode ∨ f.nouter ≠ nouter then 3
  else if f.zones = 0 ∨ 128 < f.zones ∨ !f.records.all ZRecord.wellFormed ∨ (f.records.map (·.zone)).dedup.length ≠ f.records.length
    then 4
  else if !f.records.all ZRecord.slotsOk then 5
  else if !noRepeats (f.records.flatMap sourceKeys) then 6
  else if !noRepeats (f.records.flatMap (fun r => (r.inputs.filter (fun i => i.kind != 0)).map
      (fun i => (if i.kind = 1 then i.id else leBytes 2 i.wire, i.kind, i.ch)))) then 7
  else if !f.records.all (carpetsOk f) then 8
  else if (List.range 4).any (fun l => laneBudget s kcode < laneLoad s f.records lanesOf l) then 9
  else 0

end Sys2Proof.Machine
end

