-- ==== Sys2Proof/Machine/NodeTable.lean ====
section
/-!
DEFINITION. The resident firmware's node table (chapters 05, 07): entries and what is held of a live node, the plan of cells
(R113, R114, R118), unicast and group commands (R197-R203, R422), headway (R217).
-/

namespace Sys2Proof.Machine

/-! ### Entries -/

def setNodes (n : NodesState) (s : State) : State := { s with nodes := n }
def nodeEntry (s : State) (a : Nat) : Option NodeEntry := slook s.nv.nodes a
def setEntry (a : Nat) (e : NodeEntry) (s : State) : State := { s with nv := { s.nv with nodes := sins s.nv.nodes a e } }
def live (s : State) (a : Nat) : NodeLive := sget (fun _ => ({} : NodeLive)) s.nodes.live a
def setLive (a : Nat) (l : NodeLive) (s : State) : State :=
  setNodes { s.nodes with live := sput (fun _ => ({} : NodeLive)) s.nodes.live a l } s

/-- The nodes whose entry is valid: joined and not released (R138). -/
def validNodes (s : State) : List (Nat × NodeEntry) := s.nv.nodes.filter (fun p => !p.2.released)
def isJoined (s : State) (a : Nat) : Bool := match nodeEntry s a with
  | some e => !e.released
  | none => false

def NodeEntry.cls (e : NodeEntry) : Nat := e.nkind % 16
def NodeEntry.battery (e : NodeEntry) : Bool := bit e.nkind 4
def NodeEntry.channels (e : NodeEntry) : Nat := bits e.nkind 5 2 + 1

/-- `role` of the join response (R154). -/
def NodeEntry.role (e : NodeEntry) : Nat := e.lane + 4 * e.depth + 32 * e.version + 128 * b2n e.relay

/-- The short address of the valid node with an EUI-64. -/
def shortOf (s : State) (eui : List Byte) : Option Nat := ((validNodes s).find? (fun p => p.2.eui == eui)).map (·.1)

/-- Octets 12-15 of a node state table entry (R125). -/
def nstOctets (e : NodeEntry) : List Byte :=
  leBytes 1 (b2n (!e.released) + 2 * e.lane + 8 * b2n e.relay + 16 * e.depth) ++ [0] ++ leBytes 2 e.parent

/-- Writes the firmware's part of the node state table. -/
def showEntry (a : Nat) (s : State) : State :=
  match nodeEntry s a with
  | some e => setNst a 12 (nstOctets e) s
  | none => setNst a 12 [0, 0, 0, 0] s

/-- The stream record of a node entry (R387); `nkind` follows the octets that the record names. -/
def streamNode (a : Nat) (s : State) : State :=
  match nodeEntry s a with
  | some e => streamPut 0x10 true (e.eui ++ leBytes 2 a ++ nstOctets e ++ leBytes 1 e.version ++ leBytes 1 e.repU ++
      leBytes 1 e.repO ++ padTo 8 e.nnonce ++ padTo 8 e.mnonce ++ leBytes 2 e.seq ++ leBytes 1 e.nkind) s
  | none => s

/-- Whether the silent bit of a node is set (R126). -/
def isSilent (s : State) (a : Nat) : Bool := bit (nst s a 7) 0

/-! ### The plan (R113, R114, R118) -/

/-- The path index of an up ordinal (R105). -/
def upIndex (u : Nat) : Nat := 4 * (u / 3) + u % 3 + 1

/-- The offsets that shared cells leave (R115). -/
def plainOffsets (s : State) : Nat := (chanList s).length - fldRead s R.TTE_SHARE_alrm - fldRead s R.TTE_SHARE_pres

/-- The ancestors of a node, the parent first. -/
def ancestors (s : State) (e : NodeEntry) : Nat → List Nat
  | 0 => []
  | k + 1 => if e.parent = 0 then [] else match nodeEntry s e.parent with
    | some p => e.parent :: ancestors s p k
    | none => [e.parent]

/-- The first up ordinal from `u` on, and offset, whose cell `used` does not list. -/
def freeCell (s : State) (used : List (Nat × Nat)) (u : Nat) : Option (Nat × Nat) :=
  (List.range (192 - u)).findSome? (fun k =>
    ((List.range (plainOffsets s)).find? (fun o => (slook used (64 * upIndex (u + k) + o)).isNone)).map (fun o => (u + k, o)))

/-- An entry of a plan. -/
def cellWord (owner kind : Nat) (listen : Bool) : Nat := owner + 65536 * kind + 1048576 * b2n listen

/-- The report cells. -/
def reportCells (s : State) : List (Nat × Nat) :=
  (validNodes s).foldl (fun l (a, e) => sins l (64 * upIndex e.repU + e.repO) (cellWord a 1 (e.depth == 1))) []

/-- The cells of the plan as the node table asks for them: report cells, then data cells, repeat cells of relays, forward cells. -/
def wantedPlan (s : State) : List (Nat × Nat) :=
  let l := s.nodes.data.foldl (fun l (a, k) => sins l k (cellWord a 2 true)) (reportCells s)
  let relays := (validNodes s).filter (fun p => p.2.relay)
  let l := relays.foldl (fun l (a, e) =>
    (List.range 64).foldl (fun l k =>
      let i := 4 * k + e.depth
      match (List.range (plainOffsets s)).find? (fun o => (slook l (64 * i + o)).isNone) with
      | some o => sins l (64 * i + o) (cellWord a 4 false)
      | none => l) l) l
  (validNodes s).foldl (fun l (_, e) =>
    ((ancestors s e 4).foldl (fun (acc : List (Nat × Nat) × Nat) r =>
      let at_ := match freeCell s acc.1 (acc.2 + 1) with
        | some c => some c
        | none => freeCell s acc.1 0
      match at_ with
      | some (u, o) => (sins acc.1 (64 * upIndex u + o) (cellWord r 3 (match nodeEntry s r with
          | some x => x.depth == 1
          | none => false)), u)
      | none => acc) (l, e.repU)).1) l

/-- Writes the plan not in force and selects it (R114). -/
def planWrite (s : State) : State :=
  let new := wantedPlan s
  let cur := isSet s R.TTE_PLANSEL_sel
  let next := fldRead s R.TTE_PLANSEL_sel == 1
  if new = (if next then s.nodes.planB else s.nodes.planA) then s else
  let old := if cur then s.nodes.planA else s.nodes.planB
  let base := 65536 * fld s (if cur then R.TTE_PLAN_A_addr else R.TTE_PLAN_B_addr)
  let put (k v : Nat) (s : State) : State :=
    streamPut 0x12 true (leBytes 1 (b2n !cur) ++ leBytes 1 (k / 64) ++ leBytes 1 (k % 64) ++ leBytes 4 v)
      (setMemNat s (base + 256 * (k / 64) + 4 * (k % 64)) 4 v)
  let s := (old.filter (fun p => (slook new p.1).isNone)).foldl (fun s p => put p.1 0 s) s
  let s := (new.filter (fun p => slook old p.1 != some p.2)).foldl (fun s p => put p.1 p.2 s) s
  let s := setNodes (if cur then { s.nodes with planA := new } else { s.nodes with planB := new }) s
  fwField tteWritten R.TTE_PLANSEL_sel (b2n !cur) s

/-! ### Lanes -/

/-- The lanes of a list of nodes. -/
def lanesOfNodes (l : List (Nat × NodeEntry)) : List Nat := (List.range 4).filter (fun k => l.any (fun p => p.2.lane == k))

/-- The nodes that hold a group in one of their slots: level groups by the zone model, command groups by slots 1-3. -/
def groupMembers (s : State) (group : Nat) : List (Nat × NodeEntry) :=
  if group = 0xFFFF then validNodes s
  else if group < 0xFF80 then match zoneRecord s (group - 0xFF00) with
    | some r => (validNodes s).filter (fun p => r.inputs.any (fun i => i.kind == 1 && i.id == p.2.eui))
    | none => []
  else (validNodes s).filter (fun p => (List.range 3).any (fun k => odNat s 4 p.1 (8 + k) == group))

/-- The lane mask of a zone: every lane that serves a member of its level group (R183). -/
def zoneLanes (s : State) (r : ZRecord) : Nat :=
  ((lanesOfNodes ((validNodes s).filter (fun p => r.inputs.any (fun i => i.kind == 1 && i.id == p.2.eui)))).map (fun l => 2 ^ l)).sum

/-! ### Queueing frames (R122) -/

/-- A plain frame behind its entry header, with the default power code. -/
def txEntry (expiry : Nat) (frame : List Byte) : List Byte := leBytes 6 expiry ++ [0xFF, 0] ++ frame

/-- A plain frame with a short or group address. -/
def plainFrame (fc addr : Nat) (payload : List Byte) : List Byte := mhrWith fc 0 (leBytes 2 addr) 0 ++ payload

/-- Queues a frame in class `c` (0 levels, 1 commands, 2 bulk) of a lane. -/
def queueFrame (c lane expiry : Nat) (frame : List Byte) (s : State) : Bool × State :=
  coreQueue (fld s R.TTE_TXQ_base + 4 * c + lane) 0 (txEntry expiry frame) s

/-- A command payload (R197). -/
def commandBody (code seq : Nat) (params : List Byte) : List Byte := leBytes 1 code ++ leBytes 2 seq ++ params

/-! ### Settings as commands (R421, R422) -/

/-- The most steps of a fallback command (R197): what psdu_max leaves behind MHR, MIC, FCS and the fixed parameters. -/
def fallbackSteps (s : State) : Nat := max 1 (min 8 ((psduMax s - 30) / 4))

/-- The fallback commands of channel `c` (R197, R421): `notime`, `toff` and the steps, cut where they do not fit. -/
def fallbackParams (s : State) (a c : Nat) : List (List Byte) :=
  let v := (odGet s 4 a (16 * c + 27)).drop 2
  let total := (v.length - 2) / 4
  let k := fallbackSteps s
  (List.range ((total + k - 1) / k)).map (fun j =>
    leBytes 1 c ++ leBytes 1 total ++ leBytes 1 (j * k) ++ octets v 0 2 ++ leBytes 2 (unsigned 16 s.nodes.toff) ++
      octets v (2 + 4 * j * k) (4 * min k (total - j * k)))

/-- The parameters of a settings command as the settings stand: for command 0x03 one string for each part. -/
def settingsParams (s : State) (a code i : Nat) : List (List Byte) :=
  let u (n el : Nat) : List Byte := leBytes n (odNat s 4 a (16 * i + el))
  match code with
  | 0x01 => [leBytes 1 i ++ u 2 16 ++ u 2 17 ++ u 2 18 ++ u 2 19 ++ u 1 20]
  | 0x02 => [leBytes 1 i ++ leBytes 1 (odNat s 4 a (10 + i)) ++ leBytes 2 (odNat s 4 a (7 + i)) ++ [0]]
  | 0x03 => fallbackParams s a i
  | 0x04 => [leBytes 1 i ++ u 1 23 ++ u 1 24]
  | 0x0B => [leBytes 1 i ++ u 2 25 ++ u 2 26]
  | _ => []

/-- Whether a protocol version has a command (R178). -/
def hasCommand (version code : Nat) : Bool := 2 ≤ version || (code != 0x04 && code != 0x0B)

/-- Whether a command carries slot settings, or channel settings of its index. -/
def slotCode (code i : Nat) : Bool := code == 0x02 && i != 0
def chanCode (code : Nat) : Bool := code == 0x01 || code == 0x03 || code == 0x04 || code == 0x0B

/-- Sets the state element of the settings that a command carries. -/
def setSettings (a code i v : Nat) (s : State) : State :=
  let l := live s a
  if slotCode code i then setLive a { l with slots := v } s
  else if chanCode code then setLive a { l with chans := sput (fun _ => 0) l.chans i v } s
  else s

def settingsState (s : State) (a code i : Nat) : Nat :=
  if slotCode code i then (live s a).slots else if chanCode code then sget (fun _ => 0) (live s a).chans i else 0

/-- Whether two commands carry settings that share a state element. -/
def sameSettings (c1 i1 c2 i2 : Nat) : Bool :=
  (slotCode c1 i1 && slotCode c2 i2) || (chanCode c1 && chanCode c2 && i1 == i2)

/-! ### Unicast commands (R199, R200, R203) -/

/-- The end of the `n`th report cell of a node after path `p`. -/
def reportCellAfter (e : NodeEntry) (p n : Nat) : Nat :=
  let i := upIndex e.repU
  let first := if i ≤ p % 256 then p - p % 256 + 256 + i else p - p % 256 + i
  first + 256 * (n - 1)

/-- The fourth down path after path `p` (R203). -/
def fourthDown (p : Nat) : Nat := (p / 4 + 4) * 4

/-- Sends the node's command in hand: a battery-powered node's with its expiry. -/
def sendCommand (a : Nat) (e : NodeEntry) (c : NodeCmd) (s : State) : State :=
  let p := pathNow s
  let (_, s) := queueFrame 1 e.lane (if e.battery then fourthDown p else 0) (plainFrame 0x82 a (commandBody c.code c.seq c.body)) s
  setLive a { live s a with cmd := some { c with sends := c.sends + 1, sentPath := p } } s

/-- Takes the next waiting command of a node into hand: journalled before its first send (R523). `reported` says that the
node's report has just been heard, as a battery-powered node needs. -/
def nextCommand (a : Nat) (reported : Bool) (s : State) : State :=
  match nodeEntry s a with
  | none => s
  | some e =>
    let l := live s a
    if l.cmd.isSome || e.released || isSilent s a || (e.battery && !reported) then s else
    match l.wants with
    | [] => s
    | w :: rest =>
      match (match w.body with
        | some b => [b]
        | none => settingsParams s a w.code w.idx) with
      | [] => setLive a { l with wants := rest } s
      | b :: more =>
        let wants := more.map (fun b => { w with body := some b }) ++ rest
        let (j, s) := journalWrite 1 a e.seq (commandBody w.code e.seq b) s
        let s := setEntry a { e with seq := (e.seq + 1) % 65536 } (setLive a { l with wants } s)
        streamNode a (sendCommand a e { code := w.code, idx := w.idx, body := b, seq := e.seq, sends := 0, sentPath := 0, jseq := j } s)

/-- A command for a node waits its turn; settings that already wait do not wait twice. -/
def wantCommand (a : Nat) (w : NodeWant) (s : State) : State :=
  match nodeEntry s a with
  | none => s
  | some e =>
    if e.released || !hasCommand e.version w.code then s else
    let l := live s a
    let s := if l.wants.contains w then s else setLive a { l with wants := l.wants ++ [w] } s
    nextCommand a false (setSettings a w.code w.idx 1 s)

/-- Settings of a node go out. -/
def wantSettings (a code i : Nat) (s : State) : State := wantCommand a ⟨code, i, none⟩ s

/-- A command with its own parameters. -/
def sendParams (a code : Nat) (params : List Byte) (s : State) : State := wantCommand a ⟨code, 0, some params⟩ s

/-- The command in hand ends: its journal entry is released and the state of its settings follows (R422). -/
def commandEnd (a : Nat) (c : NodeCmd) (acked : Bool) (s : State) : State :=
  let s := journalRelease c.jseq s
  let l := { live s a with cmd := none }
  let s := setLive a l s
  if acked then
    if settingsState s a c.code c.idx = 1 ∧ !l.wants.any (fun w => sameSettings c.code c.idx w.code w.idx) then
      setSettings a c.code c.idx 0 s else s
  else setSettings a c.code c.idx 2 s

/-- Five sends without an acknowledgement (R200). -/
def commandLost (a : Nat) (c : NodeCmd) (s : State) : State :=
  nextCommand a false (commandEnd a c false (post 0x22 0x01 (leBytes 2 a ++ leBytes 2 c.seq ++ leBytes 1 c.code) s))

/-- A command without an acknowledgement at the end of the second report cell is sent again (R200). -/
def commandRetry (a : Nat) (s : State) : State :=
  match nodeEntry s a, (live s a).cmd with
  | some e, some c =>
    if e.released || isSilent s a || pathNow s ≤ reportCellAfter e c.sentPath 2 then s
    else if 5 ≤ c.sends then commandLost a c s
    else if e.battery then s
    else sendCommand a e c s
  | _, _ => s

/-- Every settings command of a node, as at a rejoin (R422). -/
def resendSettings (a : Nat) (s : State) : State :=
  match nodeEntry s a with
  | none => s
  | some e =>
    let slots := if e.version = 1 then [1] else [1, 2, 3]
    let s := slots.foldl (fun s i => wantSettings a 0x02 i s) s
    (List.range e.channels).foldl (fun s c => [0x01, 0x03, 0x04, 0x0B].foldl (fun s k => wantSettings a k c s) s) s

/-! ### Group commands (R201) -/

/-- Whether a copy of a group command still waits in a lane's queue. -/
def copyWaits (s : State) (g : GroupCmd) : Bool :=
  (List.range 4).any (fun l => (queueAt s (fld s R.TTE_TXQ_base + 4 + l)).entries.any (fun e =>
    e.body.drop 8 == plainFrame 0x12 g.group g.body))

/-- Queues three copies of a group command on every lane that takes them. -/
def groupQueue (g : GroupCmd) (s : State) : GroupCmd × State :=
  g.lanes.foldl (fun (acc : GroupCmd × State) l =>
    let q := fld acc.2 R.TTE_TXQ_base + 4 + l
    let f := plainFrame 0x12 g.group g.body
    if hasRoom acc.2 q (8 + f.length) ∧ 3 * entrySize (8 + f.length) ≤ 1024 * fld acc.2 (R.PQU_Qn_CFG_size q) - fillOf (queueAt acc.2 q) then
      ({ acc.1 with lanes := acc.1.lanes.filter (· != l) },
        upTo 3 (fun _ s => (queueFrame 1 l 0 f s).2) acc.2)
    else acc) (g, s)

/-- The oldest group command goes on: its copies are queued, and once all are sent it is released and the next one starts. -/
def groupStep : Nat → State → State
  | 0, s => s
  | n + 1, s =>
    match s.nodes.groups with
    | [] => s
    | g :: rest =>
      let (g, s) := groupQueue g s
      if g.lanes = [] ∧ !copyWaits s g then groupStep n (journalRelease g.jseq (setNodes { s.nodes with groups := rest } s))
      else setNodes { s.nodes with groups := g :: rest } s

/-- A group or broadcast command. -/
def groupCommand (group code : Nat) (params : List Byte) (s : State) : State :=
  let seq := s.nv.groupSeq
  let body := commandBody code seq params
  let s := { s with nv := { s.nv with groupSeq := (seq + 1) % 65536 } }
  let (j, s) := journalWrite 2 group seq body s
  groupStep (s.nodes.groups.length + 1) (setNodes { s.nodes with groups := s.nodes.groups ++
    [{ group, body, lanes := lanesOfNodes (groupMembers s group), jseq := j }] } s)

/-! ### Headway (R217) -/

/-- A channel of a headway group: wired or not, short address or SDC channel, node channel, rated current. -/
structure HeadwayChan where
  wired : Bool
  id : Nat
  ch : Nat
  amps : Nat
  deriving DecidableEq, Repr

/-- The rated current that the zone model gives a channel. -/
def ratedAmps (s : State) (c : HeadwayChan) : Nat :=
  let eui := match nodeEntry s c.id with
    | some e => e.eui
    | none => []
  match (zoneRecords s).flatMap (fun r => r.inputs.filter (fun i =>
      if c.wired then i.kind == 2 && i.wire == c.id else i.kind == 1 && i.id == eui && i.ch == c.ch)) with
  | i :: _ => i.amps
  | [] => 0

/-- The SDC channels whose stored feeder or element differs from none. -/
def mappedWired (s : State) : List Nat :=
  (s.od.filterMap (fun p => if p.1 / 0x1000000 = 8 ∧ 0x2000 ≤ p.1 / 256 % 65536 ∧ p.1 / 256 % 65536 < 0x4000 ∧ p.1 % 256 = 9 then
    some (p.1 / 256 % 65536 - 0x2000) else none))

/-- The channels of the group of a feeder, element and PWM period. -/
def headwayGroup (s : State) (feeder el fcode : Nat) : List HeadwayChan :=
  let radio := ((validNodes s).filter (fun p => p.2.version == 2)).flatMap (fun p => ((List.range p.2.channels).filter (fun c =>
    odNat s 4 p.1 (16 * c + 21) == feeder && odNat s 4 p.1 (16 * c + 22) == el && odNat s 4 p.1 (16 * c + 23) == fcode)).map
    (fun c => { wired := false, id := p.1, ch := c, amps := 0 : HeadwayChan }))
  let wired := ((mappedWired s).filter (fun h => odNat s 8 (0x2000 + h) 9 == feeder && odNat s 8 (0x2000 + h) 10 == el &&
    odNat s 8 (0x2000 + h) 6 == fcode)).map (fun h => { wired := true, id := h, ch := 0, amps := 0 : HeadwayChan })
  (radio ++ wired).map (fun c => { c with amps := ratedAmps s c })

/-- The order of R217. -/
def headwayLe (a b : HeadwayChan) : Bool :=
  a.amps > b.amps || (a.amps == b.amps && ((!a.wired && b.wired) || (a.wired == b.wired && (a.id < b.id || (a.id == b.id && a.ch ≤ b.ch)))))

/-- Sets the phase of one channel. -/
def setPhase (c : HeadwayChan) (phase : Nat) (s : State) : State :=
  if c.wired then
    let a := 16 * c.id + 12
    if bits (sdcWord s a) 0 8 = phase then s else sdcTableWrite a (putBits (sdcWord s a) 0 8 phase) s
  else if odNat s 4 c.id (16 * c.ch + 24) = phase then s
  else wantSettings c.id 0x04 c.ch (odSetNat s 4 c.id (16 * c.ch + 24) 1 phase)

/-- Assigns the phases of a feeder's element: each PWM period is a group of its own. -/
def headway (feeder el : Nat) (s : State) : State :=
  if feeder = 0xFF ∨ el = 0xFF then s else
  upTo 6 (fun k s =>
    let l := (headwayGroup s feeder el (k + 1)).insertionSort (fun a b => headwayLe a b = true)
    l.zipIdx.foldl (fun s (c, i) => setPhase c (i * 256 / l.length) s) s) s

/-- The element groups of a node's channels. -/
def nodeElements (s : State) (a : Nat) : List (Nat × Nat) :=
  match nodeEntry s a with
  | some e => ((List.range e.channels).map (fun c => (odNat s 4 a (16 * c + 21), odNat s 4 a (16 * c + 22)))).dedup
  | none => []

def headwayAll (l : List (Nat × Nat)) (s : State) : State := l.foldl (fun s p => headway p.1 p.2 s) s

end Sys2Proof.Machine
end

