-- ==== Sys2Proof/Machine/ZoneTables.lean ====
section
/-!
DEFINITION. The zone tables in DRAM and the maps of the engine as the resident firmware keeps them: the directory not in
force (R245, R249), input tables (R228, R247), measurement and presence maps (R250, R268).
-/

namespace Sys2Proof.Machine

/-- Writes a table of the engine; the partner gets the octets with their address (R387). -/
def tableWrite (a : Nat) (b : List Byte) (s : State) : State := streamPut 0x21 true (leBytes 4 a ++ b) (setBytes s a b)

/-! ### Directories -/

def dirBase (s : State) (b : Bool) : Nat := 4096 * fld s (if b then R.LFE_DIR_B_addr else R.LFE_DIR_A_addr)

/-- Whether the other directory is selected and waits for its trigger. -/
def dirPending (s : State) : Bool := fldRead s R.LFE_DIRSEL_sel != fld s R.LFE_STAT_dir_act

/-- The entry of zone `z` in the directory that is in force or will be. -/
def zoneNext (s : State) (z : Nat) : ZoneEntry := decodeZone (memBytes s (dirBase s (fldRead s R.LFE_DIRSEL_sel == 1) + 32 * z) 32)

/-- Writes directory entries into the directory not in force and selects it. -/
def dirEdit (edits : List (Nat × List Byte)) (s : State) : State :=
  if edits = [] then s else
  let act := isSet s R.LFE_STAT_dir_act
  let s := if dirPending s then s else tableWrite (dirBase s !act) (memBytes s (dirBase s act) 4096) s
  let s := edits.foldl (fun s p => tableWrite (dirBase s (!act) + 32 * p.1) p.2 s) s
  fwField lfeWritten R.LFE_DIRSEL_sel (b2n !act) s

/-- The lane masks of the zones of a list follow the node table (R183). -/
def lanesRefresh (zs : List Nat) (s : State) : State :=
  dirEdit (zs.filterMap (fun z => match zoneRecord s z with
    | some r =>
      let e := zoneNext s z
      let l := zoneLanes s r
      if e.en ∧ e.lanes ≠ l then
        let b := memBytes s (dirBase s (fldRead s R.LFE_DIRSEL_sel == 1) + 32 * z) 32
        some (z, b.take 10 ++ leBytes 1 l ++ b.drop 11)
      else none
    | none => none)) s

/-! ### Input tables -/

/-- The input tables of zone `z`: the one in force and one that waits. -/
def inputTables (s : State) (z : Nat) : List (Nat × Nat) :=
  ([zoneEntry s z, zoneNext s z].filter (·.en)).map (fun e => (e.inputs, e.m)) |>.dedup

/-- Writes octets of input `j` of zone `z` from offset `k` in place (R249). -/
def inputPut (z j k : Nat) (b : List Byte) (s : State) : State :=
  (inputTables s z).foldl (fun s t => if j < t.2 then tableWrite (t.1 + 16 * j + k) b s else s) s

/-- The input as the table in force holds it. -/
def inputNow (s : State) (z j : Nat) : ZoneInput := zoneInput s (zoneEntry s z) j

/-- Sets or clears the held bit of an input (R247). -/
def setHeld (z j : Nat) (level : Option Nat) (s : State) : State :=
  inputPut z j 12 (leBytes 2 (match level with
    | some l => l % 1024 + 32768
    | none => 0)) s

/-- An envelope: lo, hi, rise, fall, off_ok. -/
structure Envelope where
  lo : Nat
  hi : Nat
  rise : Nat
  fall : Nat
  offOk : Bool
  deriving DecidableEq, Repr

/-- The envelope that a node channel's settings hold. -/
def nodeEnvelope (s : State) (a c : Nat) : Envelope :=
  ⟨odNat s 4 a (16 * c + 16), odNat s 4 a (16 * c + 17), odNat s 4 a (16 * c + 18), odNat s 4 a (16 * c + 19), odNat s 4 a (16 * c + 20) == 1⟩

/-- The envelope within both (R228): a limit of 0 levels per second is no limit. -/
def Envelope.within (a b : Envelope) : Envelope :=
  let rate (x y : Nat) : Nat := if x = 0 then y else if y = 0 then x else min x y
  let lo := max a.lo b.lo
  ⟨lo, max lo (min a.hi b.hi), rate a.rise b.rise, rate a.fall b.fall, a.offOk && b.offOk⟩

def inputEnvelope (s : State) (z j : Nat) : Envelope :=
  let i := inputNow s z j
  ⟨i.lo, i.hi, i.rise, i.fall, i.offOk⟩

/-- Writes the envelope of an input, each word whole. -/
def setInputEnvelope (z j : Nat) (v : Envelope) (s : State) : State :=
  inputPut z j 4 (leBytes 2 v.lo ++ leBytes 2 v.hi ++ leBytes 2 v.rise ++ leBytes 2 v.fall) (inputPut z j 2 (leBytes 1 (b2n v.offOk)) s)

/-- The places of the model's inputs that channel `c` of node `a` takes. -/
def nodePlaces (s : State) (a c : Nat) : List (Nat × Nat) :=
  match nodeEntry s a with
  | some e => (inputPlaces s e.eui c).map (fun p => (p.1, p.2.1))
  | none => []

/-- Before command 0x01 goes out the tables are within the old envelope and the new one; after its acknowledgement they are
the new one (R228). -/
def envelopeBefore (a c : Nat) (s : State) : State :=
  (nodePlaces s a c).foldl (fun s p => setInputEnvelope p.1 p.2 ((inputEnvelope s p.1 p.2).within (nodeEnvelope s a c)) s) s

def envelopeAfter (a c : Nat) (v : Envelope) (s : State) : State :=
  (nodePlaces s a c).foldl (fun s p => setInputEnvelope p.1 p.2 v s) s

/-! ### Maps and resolution (R268) -/

/-- The map entries of a zone's sources: engine address and octets, for the nodes that have joined (R250, R258). -/
def mapEntries (s : State) (r : ZRecord) : List (Nat × List Byte) :=
  r.sources.zipIdx.filterMap (fun (x, i) =>
    if x.skind = 1 ∨ x.skind = 2 then (shortOf s x.eui).map (fun a =>
      if x.skind = 1 then (16 * a + 2 * (x.sel % 8), leBytes 2 (0x8000 + 256 * r.zone + i))
      else (0x20000 + 8 * a + 4 * (x.sel % 2), leBytes 4 (0x80000000 + 0x40000000 * b2n x.split + 65536 * r.zone + i)))
    else none)

/-- Clears the map entries of a node. -/
def clearMaps (a : Nat) (s : State) : State :=
  setEng (0x20000 + 8 * a) (List.replicate 8 0) (setEng (16 * a) (List.replicate 16 0) s)

/-- `who` of an input whose node has the short address `a`. -/
def radioWho (a : Nat) : Nat := 0x4000 + a

/-- The zones that name a node. -/
def zonesNaming (s : State) (eui : List Byte) : List Nat :=
  ((zoneRecords s).filter (fun r => r.inputs.any (fun i => i.kind == 1 && i.id == eui))).map (·.zone)

/-- A node has joined: word 0 of its inputs and its map entries are written. -/
def resolveNode (a : Nat) (s : State) : State :=
  match nodeEntry s a with
  | none => s
  | some e =>
    let s := (List.range 4).foldl (fun s c => (inputPlaces s e.eui c).foldl (fun s p => inputPut p.1 p.2.1 0 (leBytes 2 (radioWho a)) s) s) s
    let s := (zoneRecords s).foldl (fun s r => (mapEntries s { r with sources := r.sources.map (fun x => if x.eui = e.eui then x else { x with skind := 0 }) }).foldl
      (fun s m => setEng m.1 m.2 s) s) s
    lanesRefresh (zonesNaming s e.eui) s

/-- A node has left or was released: kind 0, and no map entries. -/
def unresolveNode (a : Nat) (s : State) : State :=
  match nodeEntry s a with
  | none => s
  | some e =>
    let s := (List.range 4).foldl (fun s c => (inputPlaces s e.eui c).foldl (fun s p => inputPut p.1 p.2.1 0 [0, 0] s) s) s
    lanesRefresh (zonesNaming s e.eui) (clearMaps a s)

/-- The level slot of a node's channels: command 0x02 for slot 0 (R181, R269). -/
def sendLevelSlots (a : Nat) (s : State) : State :=
  match nodeEntry s a with
  | none => s
  | some e => (List.range e.channels).foldl (fun s c => (inputPlaces s e.eui c).foldl (fun s p =>
      sendParams a 0x02 ([0] ++ leBytes 1 c ++ leBytes 2 (0xFF00 + p.1) ++ leBytes 1 p.2.1) s) s) s

end Sys2Proof.Machine
end

