-- ==== Sys2Proof/Machine/Nodes.lean ====
section
/-!
DEFINITION. The resident firmware's dialogue with nodes: joins (R129-R131, R154-R158, R177-R180), releases (R138), key
deliveries and epoch changes (R164, R171-R174, R489), reports, data, alarm and presence frames (R205-R214, R259).
-/

namespace Sys2Proof.Machine

/-! ### Acknowledgements (R128, R147) -/

/-- Whether an up frame acknowledges the last frame of type `t` sent to node `a` under its link key. -/
def acksLast (s : State) (a t : Nat) (f : Frame) : Bool :=
  let tail := f.body.drop (f.body.length - 4 * f.nack)
  (List.range f.nack).any (fun k => leAt tail (4 * k) 2 == 0 && slook s.tte.sent (16 * a + t) == some (leAt tail (4 * k + 2) 2))

/-! ### Key delivery (R153, R172, R174) -/

/-- Sends node `a` a segment key: the one of the epoch in force, or the next one. -/
def sendKeyTo (a : Nat) (next : Bool) (s : State) : State :=
  match nodeEntry s a with
  | none => s
  | some e =>
    let c := if next then s.nodes.epoch.ctx else ctxInForce s
    match ctxKey s c with
    | none => s
    | some k =>
      let floor := if next then 1 else fld s (R.KVT_CTXc_CTR_ctr c)
      let pl := leBytes 1 (fld s (R.KVT_CTXc_CFG_epoch c)) ++ leBytes 1 (b2n next) ++ padTo 16 k.key ++ leBytes 4 floor
      let (_, s) := queueFrame 1 e.lane (if e.battery then fourthDown (pathNow s) else 0) (plainFrame 0x87 a pl) s
      setLive a { live s a with key := some (next, pathNow s) } s

/-- A key delivery is acknowledged. -/
def keyAcked (a : Nat) (s : State) : State :=
  match (live s a).key with
  | some (next, _) =>
    let s := setLive a { live s a with key := none } s
    if next then setNodes { s.nodes with epoch := { s.nodes.epoch with left := s.nodes.epoch.left.filter (· != a) } } s else s
  | none => s

/-- A key of the next epoch that is not acknowledged by the end of the second report cell goes out again. -/
def keyRetry (a : Nat) (s : State) : State :=
  match nodeEntry s a, (live s a).key with
  | some e, some (true, p) =>
    if e.released || isSilent s a || pathNow s ≤ reportCellAfter e p 2 then s else sendKeyTo a true s
  | _, _ => s

/-! ### Epoch changes (R164, R172, R489) -/

/-- Loads context `c` with epoch `e` from slot 3 (`src`) or 2. -/
def loadContext (c e : Nat) (src : Bool) (s : State) : State :=
  fwWrite kvtWritten (A.KVT_CTXc_CFG c) (BitVec.ofNat 32 (0x11 + 0x20 * b2n src + 0x100 * e)) s

/-- Gives context `c` a counter and its ceiling, the cell store first (R497, R498). -/
def startCounter (c n : Nat) (s : State) : State :=
  let ceil := min (n + 4096) 0xFFFFFFFF
  let s := { s with nv := { s.nv with ceil := sput (fun _ => 0) s.nv.ceil c ceil } }
  setFld (setFld s (R.KVT_CTXc_CTR_ctr c) n) (R.KVT_CTXc_CEIL_ceil c) ceil

/-- Starts an epoch change (R172 step 1); nothing while one is in progress or where no key is loaded. -/
def epochBegin (s : State) : State :=
  if s.nodes.epoch.phase ≠ 0 then s else
  let c := 1 - ctxInForce s
  let e := (s.nv.epochNo + 1) % 256
  let s := startCounter c 1 (loadContext c e (slotKey s 3).isSome s)
  if (ctxKey s c).isNone then s else
  let l := (validNodes s).map (·.1)
  let s := setNodes { s.nodes with epoch := { phase := 1, epoch := e, ctx := c, since := pathNow s, left := l, switchAt := 0 } } s
  l.foldl (fun s a => sendKeyTo a true s) s

/-- Key delivery ends once all have acknowledged, or after 8 timetables: the beacons of the next timetable carry `cd` = 7. -/
def epochDelivered (s : State) : State :=
  let x := s.nodes.epoch
  if x.phase ≠ 1 ∨ ¬ (x.left = [] ∨ x.since + 8 * 256 ≤ pathNow s) then s else
  let t := pathNow s / 256 + 8
  streamPut 0x70 true (leBytes 1 x.epoch ++ leBytes 6 t)
    (setNodes { s.nodes with epoch := { x with phase := 2, left := [], switchAt := 256 * t } } s)

/-- Slot 3 moves into slot 2 as the previous key is erased (R489). -/
def slotMove (s : State) : State :=
  let c := ctxInForce s
  if isSet s (R.KVT_CTXc_CFG_src c) then
    let x := slotStore s 3
    let s := changeSlot 3 0 0 [] (changeSlot 2 x.kind x.usage x.key s)
    loadContext c (fld s (R.KVT_CTXc_CFG_epoch c)) false s
  else s

/-- The timetable boundary at path `p` in an epoch change: the countdown, the selection of the new context, the switch, and
a timetable later the end of the previous key (R172). -/
def epochTimetable (p : Nat) (s : State) : State :=
  let x := s.nodes.epoch
  if x.phase = 2 ∧ p < x.switchAt ∧ x.switchAt ≤ p + 7 * 256 then
    let s := setTte { s.tte with cd := (x.switchAt - p) / 256 } s
    if p + 256 = x.switchAt then fwField kvtWritten R.KVT_EP_sel x.ctx s else s
  else if x.phase = 2 ∧ x.switchAt ≤ p then
    let s := setTte { s.tte with cd := 0 } (fwField kvtWritten R.KVT_EP_sel x.ctx s)
    let s := { s with nv := { s.nv with epochNo := x.epoch, epochStart := netSec s } }
    setNodes { s.nodes with epoch := { x with phase := 3 } } s
  else if x.phase = 3 ∧ x.switchAt + 256 ≤ p then
    let o := 1 - x.ctx
    let s := fwField kvtWritten (R.KVT_CTXc_CFG_en o) 0 (setCtxKey o none s)
    slotMove (setNodes { s.nodes with epoch := {} } s)
  else s

/-- The epoch's age and the counters (R164). -/
def epochAge (s : State) : State :=
  let s := if s.nv.epochStart + 180 * 86400 ≤ netSec s ∨ 0xEFFFFFFF ≤ fld s (R.KVT_CTXc_CTR_ctr (ctxInForce s)) then epochBegin s else s
  if 0xF0000000 ≤ fld s (R.KVT_CTXc_CTR_ctr 2) then
    if s.nodes.rejoinTold then s
    else groupCommand 0xFFFF 0x0D [255] (post 0x22 0x06 [] (setNodes { s.nodes with rejoinTold := true } s))
  else setNodes { s.nodes with rejoinTold := false } s

/-! ### Fast-path table (R134) -/

/-- The entry of a node whose fast-path group is set. -/
def fastEntry (s : State) (a : Nat) : Nat :=
  let g := odNat s 4 a 15
  if g = 0 then 0 else ((lanesOfNodes (groupMembers s g)).map (fun l => 2 ^ l)).sum + 65536 * (g - 0xFF00)

def fastWrite (a : Nat) (s : State) : State := setMemNat s (32768 * fld s R.TTE_FPT_addr + 4 * a) 4 (fastEntry s a)

/-- The entries of every node follow the node table. -/
def fastRefresh (s : State) : State :=
  ((validNodes s).filter (fun p => odNat s 4 p.1 15 != 0)).foldl (fun s p => fastWrite p.1 s) s

/-! ### Joining (R129, R154-R157, R177, R180) -/

/-- The highest version that the node offers and area 3 enables (R177). -/
def joinVersion (s : State) (vers : Nat) : Option Nat :=
  if bit vers 1 ∧ odNat s 3 0x000B 1 = 1 then some 2 else if bit vers 0 ∧ odNat s 3 0x000B 0 = 1 then some 1 else none

/-- Home lane and depth under the parent candidate: none where it is no relay of the table. -/
def joinPlace (s : State) (pcand : Nat) : Option (Nat × Nat) :=
  if pcand = 0 then
    let load (l : Nat) : Nat := ((validNodes s).filter (fun p => p.2.lane == l)).length
    some ((List.range 4).foldl (fun best l => if load l < load best then l else best) 0, 1)
  else match nodeEntry s pcand with
    | some e => if e.relay && !e.released then some (e.lane, e.depth + 1) else none
    | none => none

/-- The short address for an EUI-64: its old one, or the lowest that no entry has (R13, R138). -/
def joinShort (s : State) (eui : List Byte) : Option Nat :=
  match s.nv.nodes.find? (fun p => p.2.eui == eui) with
  | some p => some p.1
  | none => (List.range 0x1FFF).map (· + 1) |>.find? (fun a => (nodeEntry s a).isNone)

/-- A full table gives up its lowest released entry; `none` where it has none (R12). -/
def joinRoom (s : State) (eui : List Byte) : Option State :=
  if s.nv.nodes.length < 2048 ∨ s.nv.nodes.any (fun p => p.2.eui == eui) then some s
  else match s.nv.nodes.find? (fun p => p.2.released) with
    | some p => some { s with nv := { s.nv with nodes := sdel s.nv.nodes p.1 }, od := s.od.filter (fun q => q.1 / 256 != 4 * 65536 + p.1) }
    | none => none

/-- The result of a join request that is refused (R154). -/
def joinRefusal (s : State) (eui pl : List Byte) : Nat :=
  let nkind := leAt pl 9 1
  let cls := nkind % 16
  if leAt eui 0 1 = 0xFE ∨ cls = 0 ∨ 5 ≤ cls ∨ bit nkind 7 then 4
  else if (joinVersion s (leAt pl 8 1)).isNone then 3
  else match joinPlace s (leAt pl 10 2) with
    | none => 4
    | some (_, d) => if 4 < d then 2 else if (joinRoom s eui).isNone then 1 else 0

/-- Queues a join response (R120, R129): it is discarded after 2 timetables. -/
def joinResponse (eui pl : List Byte) (s : State) : State :=
  (coreQueue (fld s R.TTE_TXQ_base + 12) 0 (txEntry (pathNow s + 512) (mhrWith 0x26 0 eui 0 ++ padTo 16 pl)) s).2

/-- Entry `a` of the link input table (R492), flushed first (R494). -/
def linkWrite (a : Nat) (e : NodeEntry) (valid : Bool) (s : State) : State :=
  let s := fwWrite kvtWritten A.KVT_CFLUSH (BitVec.ofNat 32 a) s
  setBytes s (0x40000 * fld s R.KVT_LI_addr + 32 * a)
    (e.eui ++ padTo 8 e.nnonce ++ padTo 8 e.mnonce ++ leBytes 4 (b2n valid) ++ [0, 0, 0, 0])

/-- Accepts a join: the entry, its key inputs, its cells, and what the node is sent. -/
def joinAccept (eui pl : List Byte) (s : State) : State :=
  match joinRoom s eui, joinPlace s (leAt pl 10 2), joinVersion s (leAt pl 8 1) with
  | some s, some (lane, depth), some version =>
    match joinShort s eui with
    | none => s
    | some a =>
      let old := nodeEntry s a
      let (m, s) := takeFree 64 s
      let nkind := leAt pl 9 1
      let others := reportCells { s with nv := { s.nv with nodes := sdel s.nv.nodes a } }
      let keep := match old with
        | some e => if (slook others (64 * upIndex e.repU + e.repO)).isNone then some (e.repU, e.repO) else none
        | none => none
      let (u, o) := (keep <|> freeCell s others 0).getD (0, 0)
      let seq := match old with
        | some x => x.seq
        | none => 0
      let relay := nkind % 16 == 3 && !bit nkind 4 && depth ≤ 3
      let e : NodeEntry := { eui, nkind, version, lane, depth, relay, parent := leAt pl 10 2, repU := u, repO := o, seq }
      let e : NodeEntry := { e with nnonce := octets pl 0 8, mnonce := leBytes 8 m }
      let s := clearWindow a (linkWrite a e true (setEntry a e s))
      let s := setLive a {} s
      let s := planWrite (showEntry a s)
      let s := joinResponse eui (leBytes 1 0 ++ e.mnonce ++ leBytes 2 a ++ leBytes 1 e.role ++ leBytes 2 e.parent ++ leBytes 1 u ++ leBytes 1 o) s
      let s := resolveNode a (sendKeyTo a false s)
      let s := sendLevelSlots a (resendSettings a s)
      let s := if odNat s 3 0x000C 0 = 6 ∧ odNat s 3 0x000C 1 = 256 then s
        else sendParams a 0x05 (leBytes 1 (odNat s 3 0x000C 0) ++ leBytes 2 (odNat s 3 0x000C 1)) s
      let s := sendParams a 0x0A [2] s
      fastRefresh (headwayAll (nodeElements s a) (streamNode a s))
  | _, _, _ => s

/-- The head join request is handled (R177). -/
def joinRequest (s : State) : State :=
  match coreTake (fld s R.TTE_RXQ_base + 2) s with
  | (none, s) => s
  | (some q, s) =>
    match entryFrame q.body with
    | none => s
    | some f =>
      if f.type ≠ 12 then s else
      let r := joinRefusal s f.addr f.body
      if r = 0 then joinAccept f.addr f.body s
      else joinResponse f.addr (leBytes 1 r) (post 0x07 0x01 (f.addr ++ leBytes 1 r) s)

/-- A join response that has waited 2 timetables is discarded (R129). -/
def joinExpiry (s : State) : State :=
  let q := fld s R.TTE_TXQ_base + 12
  match (queueAt s q).entries.head? with
  | some e => if leAt e.body 0 6 ≠ 0 ∧ leAt e.body 0 6 < pathNow s then releaseHead q (tteDrop s) else s
  | none => s

/-- J returns to 16 once 90 % of the stored nodes were heard since the start, or after 64 timetables (R130). -/
def joinCells (s : State) : State :=
  let l := validNodes s
  let heard := (l.filter (fun p => bit (nst s p.1 7) 1)).length
  if s.nodes.joinsReduced || !(9 * l.length ≤ 10 * heard || s.nodes.startPath + 64 * 256 ≤ pathNow s) then s
  else fwField tteWritten R.TTE_JOIN_cnt 0 (setNodes { s.nodes with joinsReduced := true } s)

/-! ### Leaving (R138, R204, R268) -/

/-- The silent bit goes with the node (R126, R557). -/
def silentOff (a : Nat) (s : State) : State :=
  if isSilent s a then
    silentFault (setTte { s.tte with silentCount := s.tte.silentCount - 1 } (setNst a 7 (leBytes 1 (nst s a 7 / 2 * 2)) s))
  else s

/-- The fault of R556 while any node reports one. -/
def nodeFaults (s : State) : State := faultSet 0x0302 0xFFFF ((validNodes s).any (fun p => (live s p.1).fault != 0)) s

/-- A node's command in hand and those that wait are dropped, each recorded (R200). -/
def dropCommands (a : Nat) (s : State) : State :=
  let l := live s a
  let s := match l.cmd with
    | some c => commandEnd a c false (post 0x22 0x01 (leBytes 2 a ++ leBytes 2 c.seq ++ leBytes 1 c.code) s)
    | none => s
  let s := l.wants.foldl (fun s w => setSettings a w.code w.idx 2 (post 0x22 0x01 (leBytes 2 a ++ [0, 0] ++ leBytes 1 w.code) s)) s
  setLive a { live s a with wants := [] } s

/-- The node's cells, key and places in the model are given up; `gone` removes its entry as well. -/
def nodeOut (a : Nat) (gone : Bool) (s : State) : State :=
  match nodeEntry s a with
  | none => s
  | some e =>
    let els := nodeElements s a
    let s := silentOff a (unresolveNode a (linkWrite a e false s))
    let s := setEntry a { e with released := true } s
    let s := setNodes { s.nodes with data := sdel s.nodes.data a } s
    let s := if gone then { s with nv := { s.nv with nodes := sdel s.nv.nodes a }, od := s.od.filter (fun q => q.1 / 256 != 4 * 65536 + a) } else s
    let s := setLive a {} s
    nodeFaults (fastRefresh (headwayAll els (streamNode a (planWrite (showEntry a s)))))

/-- A node silent for 6 timetables is released (R138). -/
def nodeRelease (a : Nat) (s : State) : State :=
  if !isJoined s a || !isSilent s a || pathNow s < leNat (memBytes s (nstAddr s a) 6) + 6 * 256 then s
  else nodeOut a false (post 0x07 0x03 (leBytes 2 a) (dropCommands a s))

/-! ### What up frames carry -/

/-- A command of node `a` is acknowledged. -/
def commandAcked (a : Nat) (s : State) : State :=
  match (live s a).cmd with
  | none => s
  | some c =>
    let s := commandEnd a c true s
    let s := if c.code = 0x01 then
        envelopeAfter a c.idx ⟨leAt c.body 1 2, leAt c.body 3 2, leAt c.body 5 2, leAt c.body 7 2, bit (leAt c.body 9 1) 0⟩
          (setLive a { live s a with clampTold := (live s a).clampTold.filter (· != c.idx) } s)
      else s
    if c.code = 0x0E then nodeOut a true s else s

/-- The acknowledgements of an up frame. -/
def takeAcks (a : Nat) (f : Frame) (s : State) : State :=
  let s := if (live s a).cmd.isSome && acksLast s a 2 f then commandAcked a s else s
  if (live s a).key.isSome && acksLast s a 7 f then keyAcked a s else s

/-- A fault that a node reports (R212). -/
def nodeFault (a code ch : Nat) (s : State) : State :=
  let l := live s a
  if l.fault = code then s else
  let s := setLive a { l with fault := code } s
  nodeFaults (if code = 0 then s else post 0x22 0x03 (leBytes 2 a ++ leBytes 1 code ++ leBytes 1 ch) s)

/-- The feeder of a node's first mapped channel, 0xFF for none. -/
def nodeFeeder (s : State) (a : Nat) : Nat :=
  match nodeEntry s a with
  | some e => (((List.range e.channels).map (fun c => odNat s 4 a (16 * c + 21))).find? (· != 0xFF)).getD 0xFF
  | none => 0xFF

/-- A node with one more energy count, `unit` mWh each, latched at network time `t` in ns; `broken` begins a series (R325). -/
def NodeLive.latch (l : NodeLive) (raw unit t : Nat) (broken : Bool) : NodeLive :=
  let d := match l.raw with
    | some r => if broken then 0 else (raw + 2 ^ 32 - r) % 2 ^ 32 * unit
    | none => 0
  let series := if broken then l.series + 1 else l.series
  let e := l.energy + d
  let latches := (l.latches ++ [(⟨t, e, series⟩ : NodeLatch)]).drop (l.latches.length + 1 - 2048)
  { l with raw := some raw, energy := e, series, latches }

/-- An energy count of a report sent in path `p` (R211, R325): `unit` mWh each, latched at path `at_`. -/
def energyLatch (a raw unit at_ : Nat) (brk : Bool) (s : State) : State :=
  let l := live s a
  let broken := brk || l.raw.isNone
  let s := setLive a (l.latch raw unit (at_ * pathLen s) broken) s
  streamPut 0x60 false (leBytes 2 0 ++ leBytes 2 a ++ leBytes 4 raw ++ leBytes 6 at_ ++ leBytes 1 (if unit = 10 then 0 else 1) ++
    leBytes 1 (nodeFeeder s a) ++ leBytes 1 (b2n broken) ++ [0]) s

/-- Outputs and powers of channels from `first` on in a format 0x02 report of path `p`. -/
def channelValues (a p first k : Nat) (pl : List Byte) (s : State) : State :=
  upTo k (fun j s =>
    let c := first + j
    let out := leAt pl (16 + 4 * j) 2
    let pwr := leAt pl (18 + 4 * j) 2
    let l := live s a
    let pwrAt := (l.pwrAt ++ [(p * pathLen s, c, pwr)]).drop (l.pwrAt.length + 1 - 2048)
    let s := setLive a { l with outs := sins l.outs c out, pwrs := sins l.pwrs c pwr, pwrAt } s
    if bit out 12 ∧ !(live s a).clampTold.contains c then
      setLive a { live s a with clampTold := c :: (live s a).clampTold } (post 0x22 0x02 (leBytes 2 a ++ leBytes 1 c) s)
    else s) s

/-- The cycle number of the last level frame that a node applied lags by more than one run (R242). -/
def cycleLag (a cyc : Nat) (s : State) : State :=
  match nodePlaces s a 0 with
  | [] => s
  | (z, _) :: _ =>
    let last := engNat s (zoneAddr z + 0x1C4) 4
    if (zoneEntry s z).en ∧ (zoneEntry s z).pdiv < (last + 256 - cyc) % 256 ∧ (last + 256 - cyc) % 256 < 128 then
      post 0x0A 0x03 (leBytes 1 z ++ leBytes 2 a) s else s

/-- A measurement that a survey in progress records (R255): level-class elements of its zone. -/
def surveySample (a : Nat) (pl : List Byte) (s : State) : State :=
  let v := s.nodes.survey
  if v.state ≠ 1 ∨ v.step = 2 then s else
  match zoneRecord s v.zone, nodeEntry s a with
  | some r, some e =>
    upTo (min 8 (leAt pl 3 1)) (fun j s =>
      (r.sources.zipIdx.filter (fun (x, i) => x.skind == 1 && x.eui == e.eui && x.sel == j && !r.counts i)).foldl (fun s (_, i) =>
        let v := s.nodes.survey
        let kind := leAt pl (16 + 4 * j) 1
        let val := leAt pl (18 + 4 * j) 2
        let x : Int := if kind = 2 then min val 2047 * 16 else val / 2
        if 2 ≤ (v.samples.filter (fun p => p.1 == i)).length then s
        else setNodes { s.nodes with survey := { v with samples := v.samples ++ [(i, x)],
                                                        bad := v.bad || leAt pl (17 + 4 * j) 1 != 0 } } s) s) s
  | _, _ => s

/-- A data cell on demand, in a later plan (R114, R205). -/
def assignData (a : Nat) (s : State) : State :=
  match slook s.nodes.data a with
  | some _ => s
  | none => match freeCell s (wantedPlan s) 0 with
    | some (u, o) => planWrite (setNodes { s.nodes with data := sins s.nodes.data a (64 * upIndex u + o) } s)
    | none => s

/-- The first report of a node after it switched to a distributed image: its version is read (R222). -/
def imageRestart (a p : Nat) (s : State) : State :=
  match s.nodes.dist with
  | some d =>
    if d.act.any (· ≤ p) && d.targets.contains a && (live s a).image.any (fun i => i.1 == 2) && !d.read.contains a then
      sendParams a 0x0A [0] (setNodes { s.nodes with dist := some { d with read := d.read ++ [a] } } s)
    else s
  | none => s

/-- A report (R205-R211). -/
def reportTaken (f : Frame) (p : Nat) (s : State) : State :=
  let a := f.short
  match nodeEntry s a with
  | none => s
  | some e =>
    if e.released then s else
    let pl := f.body.take (f.body.length - 4 * f.nack)
    let fmt := leAt pl 0 1
    let flags := leAt pl 1 1
    if ¬ (fmt = 1 ∨ fmt = 2 ∨ fmt = 3) then takeAcks a f s else
    let s := takeAcks a f s
    let seq := if fmt = 1 then leAt pl 9 2 else leAt pl 4 2
    let s := match (live s a).cmd with
      | some c => if c.seq = seq then commandAcked a s else s
      | none => s
    if !isJoined s a then s else
    let fault := if fmt = 1 then leAt pl 8 1 else leAt pl 7 1
    let onset := fault == 8 && (live s a).fault != 8
    let s := nodeFault a fault 0 s
    let s := setLive a { live s a with fb := bit flags 2 } s
    let lum := e.cls = 1 ∨ e.cls = 4
    let s := if fmt = 2 ∧ lum then
        cycleLag a (leAt pl 2 1) (channelValues a p (bits (leAt pl 3 1) 4 2) (min 4 (leAt pl 3 1 % 8)) pl
          (energyLatch a (leAt pl 8 4) 10 (p - p % 256) (bit flags 3 || onset) s))
      else if fmt = 1 ∧ lum then
        let out := leAt pl 2 2
        let s := setLive a { live s a with outs := sins (live s a).outs 0 out } s
        energyLatch a (leAt pl 4 4) 100 p (bit flags 3 || onset) s
      else if fmt = 3 then surveySample a pl s else s
    let s := if bit flags 0 then sendKeyTo a false s else s
    let s := if bit flags 5 then assignData a s else s
    let s := if bit flags 3 then imageRestart a p s else s
    let s := match (live s a).cmd with
      | some c => if e.battery ∧ reportCellAfter e c.sentPath 2 ≤ p then (if 5 ≤ c.sends then commandLost a c s else sendCommand a e c s) else s
      | none => nextCommand a true s
    keyRetry a s

/-- An image status or an answer (R214, R220). -/
def dataTaken (f : Frame) (s : State) : State :=
  let a := f.short
  if !isJoined s a then s else
  let pl := f.body.take (f.body.length - 4 * f.nack)
  let s := takeAcks a f s
  let s := planWrite (setNodes { s.nodes with data := sdel s.nodes.data a } s)
  if leAt pl 0 1 = 4 then
    let base := leAt pl 6 2
    let missing := (List.range (8 * (pl.length - 8))).filter (fun k => bit (leAt pl (8 + k / 8) 1) (k % 8)) |>.map (· + base)
    match s.nodes.dist with
    | some d => if d.session = leAt pl 1 1 then setLive a { live s a with image := some (leAt pl 2 1, leAt pl 3 1, missing) } s else s
    | none => s
  else if leAt pl 0 1 = 5 then
    let v := octets pl 5 (leAt pl 4 1)
    let l := live s a
    let l := { l with answer := v }
    setLive a (if leAt pl 3 1 = 2 then { l with hours := (List.range (v.length / 4)).map (fun k => leAt v (4 * k) 4) } else l) s
  else s

/-- An alarm (R212). -/
def alarmTaken (f : Frame) (s : State) : State :=
  let a := f.short
  if !isJoined s a then s else
  let pl := f.body.take (f.body.length - 4 * f.nack)
  nodeFault a (leAt pl 0 1) (leAt pl 1 1) (takeAcks a f s)

/-! ### Presence and carpet links (R213, R259) -/

/-- An event item of R233. -/
def eventBody (op zone elem : Nat) (value : Nat) : List Byte :=
  leBytes 1 op ++ leBytes 1 zone ++ leBytes 1 elem ++ [0] ++ leBytes 2 value ++ [0, 0]

/-- Commits an event item to the engine's queue. -/
def commitEvent (item : List Byte) (s : State) : State := (coreQueue (fld s R.LFE_QCFG_evq) 0 item s).2

/-- Sends an event item to another member over the stack link (R381, R382). -/
def sendEvent (member : Nat) (item : List Byte) (s : State) : State :=
  let n := s.tkn.iseq
  let s := setTkn { s.tkn with iseq := (n + 1) % 65536 } s
  (coreQueue (fld s R.TKN_SLQ_tx) 0 (linkItem 3 member (leBytes 2 n ++ [0, 0] ++ item)) s).2

/-- The carpet links of an element that a presence frame of heading `h` reached. -/
def carpetLinks (z e h : Nat) (s : State) : State :=
  match zoneRecord s z with
  | none => s
  | some r => (r.carpets.filter (fun c => c.src == e && (c.heading == 0 || c.heading == h))).foldl (fun s c =>
      let item := eventBody 1 c.zone c.elem c.weight
      if c.member = 0xFF ∨ c.member = ownMember s then commitEvent item s else sendEvent c.member item s) s

/-- A presence frame from the forward queue. -/
def presenceTaken (f : Frame) (s : State) : State :=
  let a := f.short
  if !isJoined s a then s else
  let pl := f.body.take (f.body.length - 4 * f.nack)
  let kind := leAt pl 0 1
  let n := leAt pl 2 2
  let l := live s a
  let gap := match l.event with
    | some k => (n + 65536 - k - 1) % 65536
    | none => 0
  let s := setLive a { l with event := some n } (takeAcks a f s)
  let v2 : Bool := match nodeEntry s a with
    | some e => e.version == 2
    | none => false
  let s := if 0 < gap ∧ gap < 32768 ∧ v2 then post 0x22 0x04 (leBytes 2 a ++ leBytes 2 gap) s else s
  let h := leAt pl 1 1 % 16
  let pe := engNat s (0x20000 + 8 * a + 4 * b2n (decide (4 < kind))) 4
  if !bit pe 31 ∨ kind = 0 ∨ kind = 5 ∨ 6 < kind then s
  else
    let base := bits pe 0 6
    carpetLinks (bits pe 16 7) (if kind ≤ 4 ∧ bit pe 30 ∧ 1 ≤ h ∧ h ≤ 8 then base + h else base) h s

/-- The queues the firmware reads up frames from: the forward queue, and the receive queues while it is their consumer (R229). -/
def upQueues (s : State) : List Nat := if keepsForSwitch s then [] else [fld s R.LFE_QCFG_fwd, fld s R.TTE_RXQ_base, fld s R.TTE_RXQ_base + 1]

/-- The queue whose head is a frame of one of the types. -/
def upHead (types : List Nat) (s : State) : Option Nat :=
  (upQueues s).find? (fun q => match hwHead agentCore q s with
    | some e => match entryFrame e.body with
      | some f => types.contains f.type
      | none => false
    | none => false)

/-- The firmware takes an up frame and acts on it by its type. -/
def upTaken (f : Frame) (p : Nat) (s : State) : State :=
  if f.type = 8 then reportTaken f p s
  else if f.type = 9 then dataTaken f s
  else if f.type = 10 then presenceTaken f s
  else if f.type = 11 then alarmTaken f s
  else s

/-- The stream record of a node's counter (R387). -/
def streamCounter (a : Nat) (s : State) : State :=
  match nodeWindow s a with
  | some w => streamPut 0x11 true (leBytes 2 a ++ leBytes 4 w.h) s
  | none => s

/-- Takes the head frame of one of the types. -/
def takeUp (types : List Nat) (s : State) : State :=
  match upHead types s with
  | none => s
  | some q => match coreTake q s with
    | (none, s) => s
    | (some e, s) => match entryFrame e.body with
      | some f => upTaken f (leAt e.body 0 6) (streamCounter f.short s)
      | none => s

/-! ### A standby without link sync (R139) -/

/-- The standby hears its partner's beacon of path `path` with its SFD ending at `sof` ns of its own network time. -/
def beaconSync (path sof : Nat) (s : State) : State :=
  if isTwin s ∧ role s = 1 ∧ !timeLocked s then
    timeSample ((pathStart s path + nominalSof s : Nat) - (sof : Int)) s
  else s

/-! ### The commands -/

/-- A join request is handled (JOIN_REQUEST_RECEIVE, R177). -/
def execJoinRequestReceive (s : State) : Host.Outcome State Fault Refusal := .next (joinRequest s)

/-- A join response expires (JOIN_RESPONSE_EXPIRY, R129). -/
def execJoinResponseExpiry (s : State) : Host.Outcome State Fault Refusal := .next (joinExpiry s)

/-- A silent node's cells are released (NODE_RELEASE, R138). -/
def execNodeRelease (short : BitVec 13) (s : State) : Host.Outcome State Fault Refusal := .next (nodeRelease short.toNat s)

/-- J returns to 16 (JOIN_CELLS_REDUCE, R130). -/
def execJoinCellsReduce (s : State) : Host.Outcome State Fault Refusal := .next (joinCells s)

/-- A standby takes its partner's beacon (STANDBY_BEACON_RESYNC, R139). -/
def execStandbyBeaconResync (path sof : Nat) (s : State) : Host.Outcome State Fault Refusal := .next (beaconSync path sof s)

/-- Key delivery ends (EPOCH_DELIVERY_END, R172). -/
def execEpochDeliveryEnd (s : State) : Host.Outcome State Fault Refusal := .next (epochDelivered s)

/-- The epoch's limits (EPOCH_AGE_LIMIT, R164). -/
def execEpochAgeLimit (s : State) : Host.Outcome State Fault Refusal := .next (epochAge s)

/-- A report is handled (REPORT_RECEIVE, R205). -/
def execReportReceive (s : State) : Host.Outcome State Fault Refusal := .next (takeUp [8] s)

/-- A data frame is handled (DATA_FRAME_RECEIVE, R214). -/
def execDataFrameReceive (s : State) : Host.Outcome State Fault Refusal := .next (takeUp [9] s)

/-- An alarm is handled (ALARM_RECEIVE, R212). -/
def execAlarmReceive (s : State) : Host.Outcome State Fault Refusal := .next (takeUp [11] s)

/-- An entry of the forward queue is handled (FORWARD_ENTRY_READ, R259). -/
def execForwardEntryRead (s : State) : Host.Outcome State Fault Refusal := .next (takeUp [8, 9, 10, 11] s)

/-- An unacknowledged command, or a key of the next epoch, goes out again (COMMAND_RETRY, R200). -/
def execCommandRetry (short : BitVec 13) (s : State) : Host.Outcome State Fault Refusal :=
  .next (keyRetry short.toNat (commandRetry short.toNat s))

end Sys2Proof.Machine
end

