-- ==== Sys2Proof/Machine/Overrides.lean ====
section
/-!
DEFINITION. Level overrides (R291-R295), zone set overrides, and the end of a gain survey that an override or a switch of
model disturbs (R423).
-/

namespace Sys2Proof.Machine

/-! ### The gain survey's end (R255, R423) -/

def setSurvey (v : Survey) (s : State) : State := setNodes { s.nodes with survey := v } s

/-- The node and channel of radio input `j` of zone `z`, where the node has joined. -/
def radioInput (s : State) (z j : Nat) : Option (Nat × Nat) :=
  match zoneRecord s z with
  | some r => match r.inputs[j]? with
    | some i => if i.kind = 1 then (shortOf s i.id).map (fun a => (a, i.ch)) else none
    | none => none
  | none => none

/-- Override 0x06 to one radio input. -/
def sendOverride (z j level hold : Nat) (s : State) : State :=
  match radioInput s z j with
  | some (a, c) => sendParams a 0x06 (leBytes 1 (2 ^ c) ++ leBytes 2 level ++ leBytes 2 hold ++ [0]) s
  | none => s

/-- The inputs of a zone that the model uses. -/
def usedInputs (s : State) (z : Nat) : List (Nat × Nat) :=
  match zoneRecord s z with
  | some r => (r.inputs.zipIdx.filter (fun (i, _) => i.kind != 0)).map (fun (_, j) => (z, j))
  | none => []

/-- A survey that runs ends in `state`; `cancel` says that its override stands. -/
def surveyEnd (state : Nat) (cancel : Bool) (s : State) : State :=
  let v := s.nodes.survey
  if v.state ≠ 1 then s else
  let s := if cancel then sendOverride v.zone v.input 0 0xFFFF s else s
  let s := (usedInputs s v.zone).foldl (fun s p => setHeld p.1 p.2 none s) s
  post 0x25 0x02 (leBytes 1 v.zone ++ leBytes 1 v.input ++ leBytes 1 state) (setSurvey { v with state, samples := [], before := [] } s)

/-- A survey of one of the zones is aborted. -/
def surveyAbort (zs : List Nat) (s : State) : State :=
  let v := s.nodes.survey
  if v.state = 1 ∧ zs.contains v.zone then surveyEnd 4 (v.step != 1) s else s

/-! ### Level overrides -/

def setOverrides (l : List Override) (s : State) : State := { s with nv := { s.nv with overrides := l } }

/-- Whether an override holds levels. -/
def Override.levels (o : Override) : Bool := o.kind != 4

/-- The octets of an override in 6:0510 (R294): its kind is coded by `Config.code`. -/
def Override.entry (o : Override) : List Byte :=
  leBytes 1 (Config.code 2 o.kind) ++ leBytes 1 o.rank ++ leBytes 1 o.zone ++ leBytes 1 o.input ++ leBytes 2 o.group ++
    leBytes 2 o.level ++ leBytes 4 o.stop

/-- The override that holds an input. -/
def holderOf (s : State) (p : Nat × Nat) : Option Override := s.nv.overrides.find? (fun o => o.levels && o.holds.contains p)

/-- The remaining hold that a node is told (R293): at most an hour. -/
def nodeHold (s : State) (o : Override) : Nat := if o.stop = 0 then 3600 else min 3600 (o.stop - netSec s)

/-- The radio inputs whose node holds a command group in slot 1-3. -/
def groupInputs (s : State) (group : Nat) : List (Nat × Nat) :=
  let m := (groupMembers s group).map (·.2.eui)
  (zoneRecords s).flatMap (fun r => (r.inputs.zipIdx.filter (fun (i, _) => i.kind == 1 && m.contains i.id)).map (fun (_, j) => (r.zone, j)))

/-- The inputs that an override names. -/
def Override.names (s : State) (o : Override) : List (Nat × Nat) :=
  match o.kind with
  | 1 => (usedInputs s o.zone).filter (fun p => p.2 == o.input)
  | 3 => groupInputs s o.group
  | 4 => []
  | _ => usedInputs s o.zone

/-- Whether an override still goes out as one group command. -/
def Override.whole (s : State) (o : Override) : Bool := o.kind == 3 && (o.names s).all (fun p => o.holds.contains p)

/-- Override 0x06 of an override in force: to its inputs, or to its group (R293). -/
def overrideSend (o : Override) (level hold : Nat) (s : State) : State :=
  if o.whole s then groupCommand o.group 0x06 ([0x0F] ++ leBytes 2 level ++ leBytes 2 hold ++ [0]) s
  else o.holds.foldl (fun s p => sendOverride p.1 p.2 level hold s) s

/-- Takes inputs from the override in force on them; one that loses its last input lapses. -/
def overrideTake (l : List (Nat × Nat)) (s : State) : State :=
  setOverrides (s.nv.overrides.filterMap (fun o =>
    if o.levels && o.holds.any (fun p => l.contains p) then
      let h := o.holds.filter (fun p => !l.contains p)
      if h = [] then none else some { o with holds := h }
    else some o)) s

/-- The held bits of an override's inputs (R293 step 1). -/
def overrideHold (o : Override) (s : State) : State := o.holds.foldl (fun s p => setHeld p.1 p.2 (some o.level) s) s

/-- An override begins (R292, R293); the result of R406: ok, partial where some inputs were refused, range where it names none. -/
def overrideBegin (o : Override) (s : State) : Nat × State :=
  let names := o.names s
  let refused := names.filter (fun p => match holderOf s p with
    | some h => o.rank < h.rank
    | none => false)
  let taken := names.filter (fun p => !refused.contains p)
  if names = [] ∧ o.kind ≠ 3 then (0x14, s)
  else if taken = [] ∧ names ≠ [] then (0x02, s)
  else
    let s := overrideTake taken (surveyAbort (taken.map (·.1)) s)
    let o := { o with holds := taken, renew := netSec s + 1800 }
    let s := overrideHold o (setOverrides (s.nv.overrides ++ [o]) s)
    let s := streamPut 0x31 true o.entry (overrideSend o o.level (nodeHold s o) s)
    (if refused = [] then 0 else 0x02, s)

/-- An override ends: the cancel goes first, then the held bits clear (R293). -/
def overrideStop (o : Override) (s : State) : State :=
  let s := overrideSend o 0 0xFFFF s
  let s := o.holds.foldl (fun s p => setHeld p.1 p.2 none s) s
  streamPut 0x31 true { o with stop := netSec s }.entry (setOverrides (s.nv.overrides.filter (· != o)) s)

/-- An operator's cancel on the inputs that `o` names (R425): key switches stay. -/
def overrideCancel (o : Override) (s : State) : Nat × State :=
  let names := o.names s
  let kept := names.filter (fun p => match holderOf s p with
    | some h => 1 < h.rank
    | none => false)
  let ends := names.filter (fun p => !kept.contains p && (holderOf s p).isSome)
  if names = [] ∧ o.kind ≠ 3 then (0x14, s) else
  let whole := s.nv.overrides.filter (fun x => x.levels && x.rank == 1 &&
    ((x.kind == 3 && o.kind == 3 && x.group == o.group) || (x.holds != [] && x.holds.all (fun p => ends.contains p))))
  let s := whole.foldl (fun s x => overrideStop x s) s
  let rest := ends.filter (fun p => (holderOf s p).isSome)
  let s := rest.foldl (fun s p => setHeld p.1 p.2 none (sendOverride p.1 p.2 0 0xFFFF s)) s
  (if kept = [] then 0 else 0x02, overrideTake rest s)

/-- The end of an override in network seconds from its hold: 0 stays no end. -/
def holdEnd (s : State) (hold : Nat) : Nat := if hold = 0 then 0 else netSec s + hold

/-- The three level override commands (6:0500 to 6:0502): kind, zone, input, group, level and hold (R425). -/
def levelOverride (kind zone input group level hold : Nat) (s : State) : Nat × State :=
  let o : Override := ⟨kind, 1, zone, input, group, level, holdEnd s hold, 0, []⟩
  if level = 0xFFFF then overrideCancel o s
  else if 1000 < level ∨ hold = 0xFFFF ∨ (kind = 3 ∧ (group < 0xFF80 ∨ group = 0xFFFF)) then (0x14, s)
  else overrideBegin o s

/-- A zone set override (6:0503): set 0xFF cancels. -/
def zoneSetOverride (zone set_ hold : Nat) (s : State) : Nat × State :=
  if (set_ ≠ 0xFF ∧ 8 ≤ set_) ∨ 128 ≤ zone ∨ hold = 0xFFFF ∨ (zoneRecord s zone).isNone then (0x14, s)
  else
    let s := setOverrides (s.nv.overrides.filter (fun o => !(o.kind == 4 && o.zone == zone))) s
    let o : Override := ⟨4, 1, zone, 0xFF, 0, set_, if set_ = 0xFF then netSec s else holdEnd s hold, 0, []⟩
    let s := if set_ = 0xFF then s else setOverrides (s.nv.overrides ++ [o]) s
    (0, streamPut 0x31 true o.entry s)

/-! ### Renewals and ends (R293) -/

/-- Every renewal that is due. -/
def overridesRenew (s : State) : State :=
  s.nv.overrides.foldl (fun s o =>
    if o.levels && o.renew ≤ netSec s && (o.stop == 0 || netSec s < o.stop) then
      let s := overrideSend o o.level (nodeHold s o) s
      setOverrides (s.nv.overrides.map (fun x => if x = o then { o with renew := netSec s + 1800 } else x)) s
    else s) s

/-- Every override whose end has come. -/
def overridesEnd (s : State) : State :=
  s.nv.overrides.foldl (fun s o =>
    if o.stop ≠ 0 ∧ o.stop ≤ netSec s then (if o.levels then overrideStop o s else setOverrides (s.nv.overrides.filter (· != o)) s)
    else s) s

/-- The overrides after a restart (R294): those whose end has passed are recorded, the others apply again; key switches follow
their inputs. -/
def overridesRestart (s : State) : State :=
  let old := s.nv.overrides.filter (fun o => o.kind != 5)
  let s := setOverrides (old.filter (fun o => o.stop == 0 || netSec s < o.stop)) s
  let s := upTo (old.countP (fun o => o.stop != 0 && o.stop ≤ netSec s)) (fun _ s => post 0x23 0x03 [] s) s
  s.nv.overrides.foldl (fun s o => if o.levels then overrideSend o o.level (nodeHold s o) (overrideHold o s) else s) s

/-! ### Key switches (R295) -/

/-- The key switch of DIN `k` turns active or inactive. -/
def keySwitch (k : Nat) (active : Bool) (s : State) : State :=
  let s := s.nv.overrides.foldl (fun s o => if o.kind = 5 ∧ o.input = k then overrideStop o s else s) s
  if active then (overrideBegin ⟨5, 2, odNat s 6 (0x900 + k) 3, k, 0, odNat s 6 (0x900 + k) 4, 0, 0, []⟩ s).2 else s

/-! ### The commands -/

/-- The overrides due for renewal (OVERRIDE_RENEW, R293). -/
def execOverrideRenew (s : State) : Host.Outcome State Fault Refusal := .next (overridesRenew s)

end Sys2Proof.Machine
end

