-- ==== Sys2Proof/Machine/Zones.lean ====
section
/-!
DEFINITION. Zone models as the resident firmware applies them (R266-R271) and the gain survey (R255, R256, R423).
-/

namespace Sys2Proof.Machine

def setZones (z : ZonesState) (s : State) : State := { s with zones := z }

/-! ### Tables of a new model -/

/-- The DRAM of zone `z`'s tables, in the half that the directory in force does not use (R269 step 1). -/
def zoneHome (s : State) (z : Nat) : Nat :=
  let base := 0x81000000 + 0x40000 * z
  if (zoneEntry s z).model = base then base + 0x20000 else base

/-- Word 0 of an input (R268): a radio input whose node has not joined is unused. -/
def inputWho (s : State) (i : ZInput) : Nat :=
  if i.kind = 1 then match shortOf s i.id with
    | some a => radioWho a
    | none => 0
  else if i.kind = 2 then 0x8000 + i.wire else 0

/-- The envelope of an input as the model gives it. -/
def ZInput.env (i : ZInput) : Envelope := ⟨i.lo, i.hi, i.rise, i.fall, i.offOk⟩

/-- The envelope a new input table begins with: within the node's until the node has the model's (R228). -/
def firstEnvelope (s : State) (i : ZInput) : Envelope :=
  match (if i.kind = 1 then shortOf s i.id else none) with
  | some a => i.env.within (nodeEnvelope s a i.ch)
  | none => i.env

/-- An entry of an input table (R247). -/
def inputOctets (s : State) (z j : Nat) (i : ZInput) : List Byte :=
  let v := firstEnvelope s i
  let hold := match holderOf s (z, j) with
    | some o => o.level % 1024 + 32768
    | none => 0
  leBytes 2 (inputWho s i) ++ leBytes 1 (b2n v.offOk) ++ [0] ++ leBytes 2 v.lo ++ leBytes 2 v.hi ++ leBytes 2 v.rise ++
    leBytes 2 v.fall ++ leBytes 2 hold ++ [0, 0]

/-- A directory entry (R245). -/
def dirOctets (s : State) (r : ZRecord) (home gen : Nat) : List Byte :=
  leBytes 4 (home + 1) ++ leBytes 1 r.n ++ leBytes 1 r.m ++ leBytes 1 r.p ++ leBytes 1 r.q ++ leBytes 1 r.pdiv ++ leBytes 1 r.ramp ++
    leBytes 1 (zoneLanes s r) ++ leBytes 1 r.ageMax ++ leBytes 2 gen ++ [0, 0] ++ leBytes 4 (home + 0x1F000) ++ leBytes 4 (home + 0x1F800) ++
    List.replicate 8 0

/-- Whether two records have the same block and dimensions (R267). -/
def ZRecord.sameModel (a b : ZRecord) : Bool :=
  a.block == b.block && a.n == b.n && a.m == b.m && a.p == b.p && a.q == b.q && a.pdiv == b.pdiv

/-- Writes one zone's tables where its record is new or changed; the directory entry stands beside the state, none where the
entry in force stays. `timing` says that T_z changes (R270). -/
def zoneWrite (old : Option ZRecord) (timing : Bool) (r : ZRecord) (s : State) : Option (Nat × List Byte) × State :=
  if old = some r ∧ !timing ∧ (zoneEntry s r.zone).en then (none, s)
  else
    let g := sget (fun _ => 0) s.nv.zgen r.zone
    let keep : Bool := match old with
      | some o => o.sameModel r && !timing && g != 0
      | none => false
    let gen := if keep then g else if g = 65535 then 1 else g + 1
    let home := zoneHome s r.zone
    let s := { s with nv := { s.nv with zgen := sput (fun _ => 0) s.nv.zgen r.zone gen } }
    let s := tableWrite home (r.block.take 2 ++ leBytes 2 gen ++ r.block.drop 4) s
    let s := tableWrite (home + 0x1F000) (r.inputs.zipIdx.flatMap (fun (i, j) => inputOctets s r.zone j i)) s
    let s := tableWrite (home + 0x1F800) r.targets s
    (some (r.zone, dirOctets s r home gen), { s with sched := { s.sched with written := sdel s.sched.written r.zone } })

/-- The place of radio input (EUI-64, channel) in a list of records. -/
def placeOf (rs : List ZRecord) (id : List Byte) (ch : Nat) : Option (Nat × Nat) :=
  (rs.flatMap (fun r => (r.inputs.zipIdx.filter (fun (i, _) => i.kind == 1 && i.id == id && i.ch == ch)).map (fun (_, j) => (r.zone, j)))).head?

/-- The radio inputs of records, each once. -/
def radioInputs (rs : List ZRecord) : List (List Byte × Nat) :=
  rs.flatMap (fun r => (r.inputs.filter (fun i => i.kind == 1)).map (fun i => (i.id, i.ch)))

/-! ### Applying a file (R269) -/

/-- Steps 1 to 3: the tables, the clearing of level slots, the directory. -/
def zoneApply (b : List Byte) (s : State) : State :=
  let new := (zFile b).records
  let old := zoneRecords s
  let timing : Bool := match zoneFile s with
    | some f => f.plen != (zFile b).plen || f.kcode != (zFile b).kcode
    | none => true
  let s := surveyAbort ((old ++ new).map (·.zone)) s
  let wrote := new.foldl (fun (acc : List (Nat × List Byte) × State) r =>
    let x := zoneWrite (old.find? (fun o => o.zone == r.zone)) timing r acc.2
    (acc.1 ++ x.1.toList, x.2)) ([], s)
  let edits := wrote.1
  let s := wrote.2
  let gone := ((List.range 128).filter (fun z => !new.any (fun r => r.zone == z))).map (fun z => (z, List.replicate 32 (0 : Byte)))
  let moved := ((radioInputs (old ++ new)).dedup.filter (fun p => placeOf old p.1 p.2 != placeOf new p.1 p.2))
  let s := moved.foldl (fun s p =>
    if (placeOf old p.1 p.2).isSome then match shortOf s p.1 with
      | some a => sendParams a 0x02 ([0] ++ leBytes 1 p.2 ++ [0, 0, 0]) s
      | none => s
    else s) s
  let later := moved.filterMap (fun p => match shortOf s p.1, placeOf new p.1 p.2 with
    | some a, some (z, j) => some (a, p.2, z, j)
    | _, _ => none)
  let s := dirEdit (edits ++ gone) s
  let s := fwField lfeWritten R.LFE_CYC_nouter (zFile b).nouter (fwField lfeWritten R.LFE_CYC_kcode (zFile b).kcode s)
  let s := if isSet s (R.CMPn_CFG_en 0) then cmpPath 0 (16 * 2 ^ (zFile b).kcode) 0 1 s else s
  let s := { s with nv := { s.nv with zfileOld := s.nv.zfile, zfile := b } }
  setZones { s.zones with apply := none, wait := true, moved := later } s

/-- The envelopes of the model become the settings of area 4 and of the wired channels, and go out (R228, R269 step 5). -/
def modelEnvelopes (s : State) : State :=
  (zoneRecords s).foldl (fun s r => r.inputs.zipIdx.foldl (fun s (i, j) =>
    if i.kind = 1 then match shortOf s i.id with
      | some a =>
        if nodeEnvelope s a i.ch = i.env then s
        else
          let u (el n v : Nat) (s : State) : State := odSetNat s 4 a (16 * i.ch + el) n v
          let s := u 20 1 (b2n i.offOk) (u 19 2 i.fall (u 18 2 i.rise (u 17 2 i.hi (u 16 2 i.lo s))))
          wantSettings a 0x01 i.ch s
      | none => s
    else if i.kind = 2 then
      let o := 0x2000 + i.wire
      let s := odSetNat (odSetNat (odSetNat (odSetNat (odSetNat s 8 o 1 2 i.lo) 8 o 2 2 i.hi) 8 o 3 2 i.rise) 8 o 4 2 i.fall) 8 o 5 1 (b2n i.offOk)
      channelApply i.wire (setInputEnvelope r.zone j i.env s)
    else s) s) s

/-- Steps 4 to 6, once the directory switch shows. -/
def zoneMaps (s : State) : State :=
  if !s.zones.wait ∨ !isSet s R.LFE_IFLG_dir ∨ dirPending s then s else
  let s := lower s R.LFE_IFLG_dir
  let s := setLfe { s.lfe with sram := s.lfe.sram.filter (fun p => 0x30000 ≤ p.1) } s
  let s := (zoneRecords s).foldl (fun s r => (mapEntries s r).foldl (fun s m => setEng m.1 m.2 s) s) s
  let s := s.zones.moved.foldl (fun s (a, c, z, j) => sendParams a 0x02 ([0] ++ leBytes 1 c ++ leBytes 2 (0xFF00 + z) ++ leBytes 1 j) s) s
  let s := modelEnvelopes (setZones { s.zones with wait := false, moved := [] } s)
  headwayAll ((List.range 4).flatMap (fun f => (List.range 12).map (fun e => (f, e)))) s

/-! ### The gain survey (R255, R256) -/

/-- The level-class elements of a zone that a report feeds. -/
def surveyElements (r : ZRecord) : List Nat :=
  (r.sources.zipIdx.filter (fun (x, i) => x.skind == 1 && !r.counts i)).map (·.2)

/-- The mean of AIN0's photocell in 1/16 lx. -/
def photoMean (s : State) (k : Nat) : Nat := ((sget (fun _ => ({} : Photocell)) s.sched.cells k).means.getLast?).getD 0

/-- The level of an input as the engine last gave it. -/
def levelNow (s : State) (z j : Nat) : Nat := engNat s (zoneAddr z + 0x80 + 2 * j) 2

/-- Step 1 of a survey of one input: every input of the zone is held at its level. -/
def surveyHold (z : Nat) (s : State) : State :=
  (usedInputs s z).foldl (fun s p => setHeld p.1 p.2 (some (levelNow s p.1 p.2)) s) s

/-- A survey begins; the result of R406 stands beside the state. `busy_` says that a mapping check or a load is under way. -/
def surveyStart (z j : Nat) (delta : Int) (busy_ : Bool) (s : State) : Nat × State :=
  match zoneRecord s z with
  | none => (0x14, s)
  | some r =>
    let used : Bool := match r.inputs[j]? with
      | some i => i.kind != 0
      | none => false
    if !used ∨ delta < 1 ∨ 500 < delta then (0x14, s)
    else if s.nodes.survey.state = 1 ∨ busy_ ∨ s.zones.apply.isSome ∨ s.zones.wait ∨ (usedInputs s z).any (fun p => (holderOf s p).isSome)
      then (0x18, s)
    else
      let d : Int := if (inputNow s z j).hi < levelNow s z j + delta then -delta else delta
      (0, setSurvey { state := 1, zone := z, input := j, delta := d, step := 1, photo := photoMean s 0 } (surveyHold z s))

/-- The sum of an element's two samples. -/
def sampleSum (l : List (Nat × Int)) (i : Nat) : Int := ((l.filter (fun p => p.1 == i)).map (·.2)).sum

/-- A step of the survey where it is due. -/
def surveyStep (s : State) : State :=
  let v := s.nodes.survey
  match zoneRecord s v.zone with
  | none => s
  | some r =>
    let full := (surveyElements r).all (fun i => (v.samples.filter (fun p => p.1 == i)).length == 2)
    if v.state ≠ 1 then s
    else if v.step = 1 ∧ full then
      let level := ((levelNow s v.zone v.input : Int) + v.delta).toNat
      let hold := (4 * 256 * pathLen s + 999999999) / 1000000000
      let s := match radioInput s v.zone v.input with
        | some _ => sendOverride v.zone v.input level hold s
        | none => setHeld v.zone v.input (some level) s
      setSurvey { v with step := 2, from_ := pathNow s, before := v.samples, samples := [] } s
    else if v.step = 2 ∧ v.from_ + 256 ≤ pathNow s then setSurvey { v with step := 3, samples := [] } s
    else if v.step = 3 ∧ full then
      let moved := ((photoMean s 0 : Int) - v.photo).natAbs
      if v.bad ∨ 16 < moved then
        if v.again then surveyEnd 3 true s
        else
          let s := surveyHold v.zone (sendOverride v.zone v.input 0 0xFFFF s)
          setSurvey { v with step := 1, samples := [], before := [], bad := false, again := true, photo := photoMean s 0 } s
      else
        let gain (i : Nat) : Int :=
          let d := sampleSum v.samples i - sampleSum v.before i
          openDiv (if v.delta < 0 then -(d * 65536) else d * 65536) (2 * v.delta.natAbs)
        surveyEnd 2 true (setSurvey { v with gains := (surveyElements r).map (fun i => (i, gain i)) } s)
    else s

/-! ### The commands -/

/-- The file that an activation or a revert put forward is applied (ZONE_MODEL_APPLY, R269). -/
def execZoneModelApply (s : State) : Host.Outcome State Fault Refusal :=
  .next (match s.zones.apply with
    | some b => zoneApply b s
    | none => s)

/-- The maps follow the directory switch (ZONE_MODEL_MAPS_WRITE, R269). -/
def execZoneModelMapsWrite (s : State) : Host.Outcome State Fault Refusal := .next (zoneMaps s)

/-- A step of the gain survey (SURVEY_STEP, R255). -/
def execSurveyStep (s : State) : Host.Outcome State Fault Refusal := .next (surveyStep s)

end Sys2Proof.Machine
end

