-- ==== Sys2Proof/Machine/Sched.lean ====
section
/-!
DEFINITION. Schedules, photocells, traffic meters and event sources (chapter 10) as the resident firmware runs them.
-/

namespace Sys2Proof.Machine

def setSched (x : SchedState) (s : State) : State := { s with sched := x }

/-! ### Event sources (R289, R424) -/

/-- Whether an event source entry or no entry names source `src`. -/
def sourceEntries (s : State) (src : Nat) : List Nat := (List.range 64).filter (fun k => odNat s 6 (0x800 + k) 0 == src)

/-- A traffic meter counts `n` (R285). -/
def meterCount (t n : Nat) (s : State) : State :=
  if 8 ≤ t ∨ n = 0 then s else setSched { s.sched with counts := s.sched.counts ++ [(t, netSec s / 60, n)] } s

/-- A source event: `item` gives the op and value of an entry's item from its op and weight; `n` is what a meter counts. -/
def sourceEvent (src n : Nat) (item : Nat → Int → Option (Nat × Int)) (s : State) : State :=
  (sourceEntries s src).foldl (fun s k =>
    let s := meterCount (odNat s 6 (0x800 + k) 5) n s
    match item (odNat s 6 (0x800 + k) 3) (odInt 16 s 6 (0x800 + k) 4) with
    | some (op, v) => commitEvent (eventBody op (odNat s 6 (0x800 + k) 1) (odNat s 6 (0x800 + k) 2) (unsigned 16 v)) s
    | none => s) s

/-- A number held within I16. -/
def sat16 (v : Int) : Int := clampInt (-32768) 32767 v

/-- The filtered state of DIN `k` has changed (R289, R290, R295). -/
def dinChanged (k : Nat) (s : State) : State :=
  let on := dinActive s k
  match odNat s 6 (0x900 + k) 0 with
  | 1 => if on then sourceEvent (0x100 + k) 1 (fun op w => some (op, w)) s else s
  | 2 => sourceEvent (0x110 + k) 0 (fun op w => if op = 3 then (if on then none else some (3, 0)) else some (op, if on then w else 0)) s
  | 3 => keySwitch k on s
  | _ => s

/-- An input event of the field bus (R289, R458). -/
def fieldInput (s : State) : State :=
  match inputTake s with
  | (none, s) => s
  | (some (n, isValue, v), s) =>
    if sourceEntries s (0x300 + n) = [] then
      let c := sget (fun _ => 0) s.fb.unmapped n
      let s := setFb { s.fb with unmapped := sput (fun _ => 0) s.fb.unmapped n (c + 1) } s
      if c = 0 then post 0x05 0x03 (leBytes 1 n) s else s
    else sourceEvent (0x300 + n) (if isValue then 0 else v.toNat)
      (fun op w => some (op, if op = 2 then v else sat16 (w * v))) s

/-! ### Photocells (R279) -/

def photocell (s : State) (k : Nat) : Photocell := sget (fun _ => ({} : Photocell)) s.sched.cells k
def setPhotocell (k : Nat) (c : Photocell) (s : State) : State :=
  setSched { s.sched with cells := sput (fun _ => ({} : Photocell)) s.sched.cells k c } s

/-- Whether the mean of an input stands. -/
def Photocell.valid (c : Photocell) : Bool := !c.faulty && c.means != []

/-- A sample of input `k` in mV. -/
def photoSample (k : Nat) (v : Int) (s : State) : State :=
  let c := photocell s k
  let c := { c with samples := (c.samples ++ [v]).drop (c.samples.length + 1 - 100) }
  if 10500 < v ∨ v < -200 then faultRaise 0x0901 k true (setPhotocell k { c with good := 0, faulty := true } s)
  else
    let good := min 100 (c.good + 1)
    if c.faulty ∧ good = 100 then faultGone 0x0901 k (setPhotocell k { c with good, faulty := false } s)
    else setPhotocell k { c with good } s

/-- The mean of the last 100 samples in 1/16 lx, at most what its object holds. -/
def photoOf (s : State) (k : Nat) (c : Photocell) : Nat :=
  let e (v : Int) : Int := max 0 (v - odInt 16 s 6 (0x10 + k) 0) * odNat s 6 (0x10 + k) 1
  min 65535 (openDiv (c.samples.map e).sum c.samples.length).toNat

/-- Once per second each input forms its mean, which is a source event (R279, R289). -/
def photoMeans (s : State) : State :=
  [0, 1].foldl (fun s k =>
    let c := photocell s k
    if c.samples = [] ∨ !isSet s R.IOC_CTRL_ain_en then s
    else
      let m := photoOf s k c
      let s := setPhotocell k { c with means := (c.means ++ [m]).drop (c.means.length + 1 - 60) } s
      if c.faulty then s else sourceEvent (0x200 + k) 0 (fun _ _ => some (2, ((min 32767 (m / 2) : Nat) : Int))) s) s

/-! ### Points (R274, R280-R283) -/

/-- A point of a day plan (R282). -/
structure PlanPoint where
  ref : Nat
  t : Int
  set_ : Nat
  ain : Nat
  thr : Nat
  deriving DecidableEq, Repr

def planPoint (s : State) (d i : Nat) : PlanPoint :=
  let b := (odGet s 6 (0x200 + d) (i + 1)).drop 2
  ⟨leAt b 0 1, signed 16 (leAt b 1 2), leAt b 3 1, leAt b 4 1, leAt b 5 2⟩

def planLength (s : State) (d : Nat) : Nat := odNat s 6 (0x200 + d) 0

/-- The window of a photocell point on day `day`, in network seconds: none where the sun event is missing. -/
def photoWindow (s : State) (day : Int) (p : PlanPoint) : Option (Int × Int) :=
  let w : Int := odNat s 6 4 0 * 60
  (sunInstant s day (p.ref == 4)).map (fun t => (t - w, t + w))

/-- When a photocell point of plan `d` fired on day `day`. -/
def firedAt (s : State) (day : Int) (d i : Nat) : Option Nat :=
  (s.sched.fired.find? (fun f => (f.1 : Int) == day && f.2.1 == d && f.2.2.1 == i)).map (·.2.2.2)

/-- The instant of point `i` of plan `d` on day `day`: a photocell point that has not fired stands at its window's end. -/
def pointInstant (s : State) (day : Int) (d i : Nat) : Option Int :=
  let p := planPoint s d i
  match p.ref with
  | 0 => some (wallInstant s day p.t)
  | 1 => (sunInstant s day true).map (· + p.t * 60)
  | 2 => (sunInstant s day false).map (· + p.t * 60)
  | _ => match firedAt s day d i with
    | some t => if (photoWindow s day p).isSome then some t else none
    | none => (photoWindow s day p).map (·.2)

/-- The set of the latest point of plan `d` on day `day` at or before `t`; of two at one instant the later listed. -/
def latestPoint (s : State) (day : Int) (d : Nat) (t : Int) : Option Nat :=
  ((List.range (planLength s d)).foldl (fun (best : Option (Int × Nat)) i =>
    match pointInstant s day d i with
    | some x => if t < x then best else match best with
      | some (y, _) => if y ≤ x then some (x, (planPoint s d i).set_) else best
      | none => some (x, (planPoint s d i).set_)
    | none => best) none).map (·.2)

/-! ### Calendar events (R284) -/

/-- A TIME value in ns. -/
def timeNs (b : List Byte) : Nat := leAt b 0 8 * 1000000000 + leAt b 8 4

def eventStart (s : State) (e : Nat) : Nat := timeNs (odGet s 6 (0x600 + e) 0)
def eventEnd (s : State) (e : Nat) : Nat := timeNs (odGet s 6 (0x600 + e) 1)

/-- The enabled events that name program `g`. -/
def programEvents (s : State) (g : Nat) : List Nat :=
  (List.range 64).filter (fun e => odNat s 6 (0x600 + e) 5 == 1 && bit (odNat s 6 (0x600 + e) 2) g)

/-- The event that decides for program `g` now. -/
def eventNow (s : State) (g : Nat) : Option Nat :=
  (programEvents s g).find? (fun e => eventStart s e ≤ netNs s && netNs s < eventEnd s e)

/-- The day plan of program `g` on day `day`: of the kind 1 events that touch the date the lowest decides. -/
def planOf (s : State) (g : Nat) (day : Int) : Nat :=
  let a := wallInstant s day 0 * 1000000000
  let b := wallInstant s (day + 1) 0 * 1000000000
  match (programEvents s g).find? (fun e => odNat s 6 (0x600 + e) 3 == 1 && (eventStart s e : Int) < b && a < (eventEnd s e : Int)) with
  | some e => odNat s 6 (0x600 + e) 4
  | none => odNat s 6 (0x100 + g) (weekdayOf day.toNat - 1)

/-- The plan set of program `g` (R283): the last point of an earlier date before the date's first. -/
def planSet (s : State) (g : Nat) : Nat → Int → Option Nat
  | 0, _ => none
  | k + 1, day => match latestPoint s day (planOf s g day) (netSec s) with
    | some x => some x
    | none => planSet s g k (day - 1)

/-! ### Effective sets (R286-R288) -/

/-- The effective set of a zone with its source as 6:0400 codes it: 1 override, 2 event, 3 plan. -/
def effectiveSet (s : State) (z : Nat) : Option (Nat × Nat) :=
  match s.nv.overrides.find? (fun o => o.kind == 4 && o.zone == z) with
  | some o => some (o.level, 1)
  | none =>
    let g := odNat s 6 (0x400 + z) 0
    if g = 0xFF then none
    else
      let kind0 : Option Nat := match eventNow s g with
        | some e => if odNat s 6 (0x600 + e) 3 = 0 then some e else none
        | none => none
      match kind0 with
      | some e => some (odNat s 6 (0x600 + e) 4 % 8, 2)
      | none =>
        let m := odNat s 6 (0x100 + g) 7
        let c := if m < 8 then sget (fun _ => 0) s.sched.classes m else 0
        (planSet s g 8 (localDay s (netSec s))).map (fun x => (min 7 (x + c), 3))

/-- Evaluates every program for the zones of the model (R283, R288): while network time stands. -/
def schedEvaluate (s : State) : State :=
  if fld s R.NTB_STAT_tstate = 0 then s else
  setSched { s.sched with sets := (zoneRecords s).foldl (fun l r => match effectiveSet s r.zone with
    | some e => sins l r.zone e
    | none => sdel l r.zone) s.sched.sets } s

/-- Writes set `x` into a zone's target tables: −32,768 takes the model's value (R281). -/
def writeSet (r : ZRecord) (x : Nat) (s : State) : State :=
  let tables := ([zoneEntry s r.zone, zoneNext s r.zone].filter (·.en)).map (·.targets) |>.dedup
  tables.foldl (fun s a => upTo r.q (fun j s =>
    let v := odNat s 6 (0x1000 + 8 * r.zone + x) j
    let w := if v = 0x8000 then leAt r.targets (8 * j) 2 else v
    tableWrite (a + 8 * j) (leBytes 2 w ++ memBytes s (a + 8 * j + 2) 2) s) s) s

/-- The target tables follow the effective sets, between cycles and while this module runs its engine (R287, R288). -/
def setsWrite (s : State) : State :=
  if s.lfe.cyc.isSome ∨ !(isActive s || busy s 10) then s else
  (zoneRecords s).foldl (fun s r => match slook s.sched.sets r.zone with
    | some (x, _) =>
      if slook s.sched.written r.zone = some x then s
      else
        let s := writeSet r x s
        setSched { s.sched with written := sins s.sched.written r.zone x } s
    | none => s) s

/-! ### Photocell points fire (R280) -/

/-- The day plans in use on day `day`. -/
def plansInUse (s : State) (day : Int) : List Nat :=
  (((zoneRecords s).map (fun r => odNat s 6 (0x400 + r.zone) 0)).filter (· != 0xFF)).map (fun g => planOf s g day) |>.dedup

/-- Whether the mean has stood on the point's side of its threshold for 60 s within the window. -/
def photoHolds (s : State) (from_ : Int) (p : PlanPoint) : Bool :=
  let c := photocell s p.ain
  c.valid && c.means.length == 60 && from_ + 60 ≤ (netSec s : Int) &&
    c.means.all (fun m => if p.ref = 3 then m ≤ p.thr else p.thr ≤ m)

/-- A photocell point fires where it is due. -/
def photoPoint (day : Int) (d i : Nat) (s : State) : State :=
  let p := planPoint s d i
  if p.ref < 3 ∨ (firedAt s day d i).isSome then s else
  match photoWindow s day p with
  | none => s
  | some (a, b) =>
    let t : Int := netSec s
    let fire (s : State) : State := setSched { s.sched with fired := s.sched.fired ++ [(day.toNat, d, i, netSec s)] } s
    if t < a then s
    else if t ≤ b ∧ photoHolds s a p then fire s
    else if b ≤ t ∧ t < b + 86400 then post 0x23 0x01 (leBytes 1 i) (fire s)
    else s

/-- Every photocell point of the dates whose windows may stand now. -/
def photoPoints (s : State) : State :=
  let day := localDay s (netSec s)
  let s := [day - 1, day, day + 1].foldl (fun s x => (plansInUse s x).foldl (fun s d => upTo (planLength s d) (photoPoint x d) s) s) s
  schedEvaluate (setSched { s.sched with fired := s.sched.fired.filter (fun f => day - 2 ≤ (f.1 : Int)) } s)

/-! ### Traffic meters (R285) -/

/-- Whether a source can still feed a meter: a field bus input whose sender or bus is lost cannot. -/
def sourceAlive (s : State) (src : Nat) : Bool :=
  if src < 0x300 ∨ 0x380 ≤ src then true
  else busy s 5 && fld s R.FBC_STAT_state != 2 && match slook s.fb.inputs (src - 0x300) with
    | some (node, _) => !(match slook s.fb.xnc8 node with
      | some x => x.missed
      | none => false)
    | none => true

/-- The entries that feed meter `t`. -/
def meterSources (s : State) (t : Nat) : List Nat :=
  ((List.range 64).filter (fun k => odNat s 6 (0x800 + k) 5 == t && odNat s 6 (0x800 + k) 0 != 0)).map (fun k => odNat s 6 (0x800 + k) 0)

/-- The class of a meter moves at most one step. -/
def classStep (s : State) (t c rate : Nat) : Nat :=
  let thr (i : Nat) : Nat := odNat s 6 (0x700 + t) i
  if c < 3 ∧ thr c ≤ rate then c + 1
  else if 0 < c ∧ 10 * rate < 9 * thr (c - 1) then c - 1
  else c

/-- A multiple of 900 s: every meter is evaluated over the last 15 whole minutes. -/
def trafficEvaluate (s : State) : State :=
  let at_ := netSec s / 900 * 900
  if at_ = s.sched.trafficAt then s else
  let m := netSec s / 60
  let s := upTo 8 (fun t s =>
    let src := meterSources s t
    let rate := 4 * ((s.sched.counts.filter (fun c => c.1 == t && m ≤ c.2.1 + 15 && c.2.1 < m)).map (·.2.2)).sum
    if src = [] then s
    else if !src.any (sourceAlive s) then post 0x23 0x04 (leBytes 1 t) s
    else
      let c := sget (fun _ => 0) s.sched.classes t
      setSched { s.sched with classes := sput (fun _ => 0) s.sched.classes t (classStep s t c rate),
                              rates := sput (fun _ => 0) s.sched.rates t rate } s) s
  schedEvaluate (setSched { s.sched with trafficAt := at_, counts := s.sched.counts.filter (fun c => m ≤ c.2.1 + 15) } s)

/-! ### Offsets and midnight (R274, R275, R278) -/

/-- A changed node offset goes out to every luminaire. -/
def toffUpdate (s : State) : State :=
  let t := toffAt s (netSec s)
  if t = s.nodes.toff then s else
  let s := setNodes { s.nodes with toff := t } s
  ((validNodes s).filter (fun p => p.2.cls == 1 || p.2.cls == 4)).foldl (fun s p =>
    (List.range p.2.channels).foldl (fun s c => wantSettings p.1 0x03 c s) s) s

/-- A local midnight: a missing sun event is recorded, lamp-on hours are asked for, the programs are evaluated. -/
def localMidnight (s : State) : State :=
  let day := localDay s (netSec s)
  if s.sched.date = some day.toNat then s else
  let s := setSched { s.sched with date := some day.toNat } s
  let s := if (sunMinutes s day).isNone then post 0x23 0x02 [] s else s
  let s := (validNodes s).foldl (fun s p => sendParams p.1 0x0A [2] s) s
  schedEvaluate s

/-! ### The commands -/

/-- A local midnight (LOCAL_MIDNIGHT, R274). -/
def execLocalMidnight (s : State) : Host.Outcome State Fault Refusal := .next (localMidnight s)

/-- AIN0 and AIN1 are sampled (AIN_SAMPLE, R626, R279). -/
def execAinSample (a0 a1 : Int) (s : State) : Host.Outcome State Fault Refusal :=
  .next (match ainTake a0 a1 s with
    | (true, s) => photoSample 1 (signed 16 (fld s R.IOC_AIN_a1)) (photoSample 0 (signed 16 (fld s R.IOC_AIN_a0)) s)
    | (false, s) => s)

/-- The means of a second (PHOTOCELL_MEAN, R279). -/
def execPhotocellMean (s : State) : Host.Outcome State Fault Refusal := .next (photoMeans s)

/-- Photocell points that are due fire (PHOTOCELL_POINT, R280). -/
def execPhotocellPoint (s : State) : Host.Outcome State Fault Refusal := .next (photoPoints s)

/-- A point's instant (PROGRAM_POINT, R283). -/
def execProgramPoint (s : State) : Host.Outcome State Fault Refusal := .next (schedEvaluate s)

/-- A calendar event begins or ends (CALENDAR_EVENT_EDGE, R284). -/
def execCalendarEventEdge (s : State) : Host.Outcome State Fault Refusal := .next (schedEvaluate s)

/-- The traffic meters at a multiple of 900 s (TRAFFIC_EVALUATION, R285). -/
def execTrafficEvaluation (s : State) : Host.Outcome State Fault Refusal := .next (trafficEvaluate s)

/-- The changed sets are written between cycles (R_SCHED_WRITE, R287). -/
def execRSchedWrite (s : State) : Host.Outcome State Fault Refusal := .next (setsWrite s)

/-- Overrides whose end has come (OVERRIDE_END, R293). -/
def execOverrideEnd (s : State) : Host.Outcome State Fault Refusal := .next (schedEvaluate (overridesEnd s))

/-- A DIN pad has stood at a level for `held` ms (DIN_EDGE, R624, R289, R295). -/
def execDinEdge (k : Nat) (level : Bool) (held : Nat) (s : State) : Host.Outcome State Fault Refusal :=
  .next (match dinHeld k level held s with
    | (true, s) => dinChanged k s
    | (false, s) => s)

/-- An input event frame (INPUT_EVENT_RECEIVE, R458). -/
def execInputEventReceive (s : State) : Host.Outcome State Fault Refusal := .next (fieldInput s)

/-- Daylight saving begins or ends (DAYLIGHT_SAVING_TRANSITION, R275). -/
def execDaylightSavingTransition (s : State) : Host.Outcome State Fault Refusal := .next (schedEvaluate (toffUpdate s))

/-- An announced leap second (LEAP_SECOND, R69): the offset to UTC changes, network time does not. -/
def execLeapSecond (insert : Bool) (s : State) : Host.Outcome State Fault Refusal :=
  .next (schedEvaluate (toffUpdate (odSetNat s 2 3 0 4 (unsigned 32 (utcDelta s + (if insert then 1 else -1))))))

end Sys2Proof.Machine
end

