-- ==== Sys2Proof/Machine/Balance.lean ====
section
/-!
DEFINITION. The feeder energy balance and the mapping check (chapter 12).
-/

namespace Sys2Proof.Machine

def setBal (b : BalanceState) (s : State) : State := { s with bal := b }

/-! ### What a 1 s window gives (R328, R329) -/

/-- The wired channels of feeder `f` with their elements. -/
def wiredOf (s : State) (f : Nat) : List Nat := (mappedWired s).filter (fun h => odNat s 8 (0x2000 + h) 9 == f)

/-- The rated current of a wired channel (R262). -/
def wiredAmps (s : State) (h : Nat) : Nat := ratedAmps s { wired := true, id := h, ch := 0, amps := 0 }

/-- The latched window of an element. -/
def elemLatch (s : State) (e : Nat) : ElemWin := sget (fun _ => {}) s.mtr.elat e

/-- The firmware takes the window that MTR has just closed. -/
def balanceWindow (s : State) : State :=
  let last := (List.range 12).foldl (fun l e =>
    let w := elemLatch s e
    if w.bad ∨ w.cycles = 0 then l else sins l e (winRms w.i2 w.n)) s.bal.lastI
  let wired (f : Nat) : Nat := ((wiredOf s f).map (fun h =>
    let w := elemLatch s (odNat s 8 (0x2000 + h) 10)
    winRms w.v2 w.n * wiredAmps s h * (chanAt s h).prev)).sum
  let p (f : Nat) : Int := ((feederElems s f).map (fun e => winP (elemLatch s e))).sum
  let x : BalWin := ⟨netSec s, (List.range 12).map (fun e => sget (fun _ => 0) last e), (List.range 4).map p, (List.range 4).map wired⟩
  setBal { s.bal with wins := (s.bal.wins ++ [x]).drop (s.bal.wins.length + 1 - 8192), lastI := last } s

/-! ### Records that wait (R324, R330) -/

/-- The firmware copies a profile record; the parameters in force go with it. -/
def recordCopy (s : State) : State :=
  let n := s.nv.profile.length
  let s := profileCopy s
  match s.nv.profile[n]? with
  | none => s
  | some b =>
    let f := leAt b 12 1 % 4
    let o := 0x100 + f
    let j : BalJob := ⟨f, b, (List.range 6).map (fun i => odNat s 7 o (3 + i)) ++ [odNat s 7 1 0],
      (feederElems s f).map (fun e => odNat s 7 (0x200 + e) 8)⟩
    setBal { s.bal with jobs := s.bal.jobs ++ [j] } s

def BalJob.from_ (j : BalJob) : Nat := leAt j.record 0 6
def BalJob.stop (j : BalJob) : Nat := leAt j.record 6 6
def BalJob.flag (j : BalJob) (k : Nat) : Bool := bit (leAt j.record 14 2) k

/-- The grace of a job in ns, and whether half the interval cut it. -/
def BalJob.grace (s : State) (j : BalJob) : Nat × Bool :=
  let g := natAt j.params 6 * 256 * pathLen s
  let h := (j.stop - j.from_) * 500000000
  (min g h, decide (h < g))

/-! ### Node energy (R325-R327) -/

/-- The count at instant `t` between two latches no more than 16 timetables apart, in µWh, with the series. -/
def countAt (s : State) (l : List NodeLatch) (t : Nat) : Option (Int × Nat) :=
  match (l.filter (fun x => x.at_ ≤ t)).getLast? with
  | none => none
  | some a =>
    match l.find? (fun x => t < x.at_ && x.series == a.series) with
    | none => none
    | some b =>
      if 16 * 256 * pathLen s < b.at_ - a.at_ then none
      else some (a.mwh * 1000 + openDiv ((b.mwh - a.mwh : Int) * 1000 * (t - a.at_)) (b.at_ - a.at_), a.series)

/-- The energy of a node in an interval in µWh where it is covered (R326). -/
def coveredEnergy (s : State) (l : NodeLive) (a b : Nat) : Option Int :=
  match countAt s l.latches (a * 1000000000), countAt s l.latches (b * 1000000000) with
  | some (x, k), some (y, m) => if k = m then some (y - x) else none
  | _, _ => none

/-- Its estimate where it is not (R327): from its last covered mean in µW, or from its last `pwr` values. -/
def estimatedEnergy (l : NodeLive) (a b : Nat) : Int :=
  let uw := match l.mean with
    | some m => m
    | none => 100000 * (l.pwrs.map (·.2)).sum
  openDiv (uw * (b - a) : Nat) 3600

/-- The mapped channels of a node with their feeders. -/
def mappedChannels (s : State) (a : Nat) (e : NodeEntry) : List (Nat × Nat) :=
  ((List.range e.channels).map (fun c => (c, odNat s 4 a (16 * c + 21)))).filter (fun p => p.2 != 0xFF)

/-- The share of feeder `f` in a node's energy, as a fraction (R324). -/
def feederShare (s : State) (f na : Nat) (e : NodeEntry) (l : NodeLive) (a b : Nat) : Nat × Nat :=
  let m := mappedChannels s na e
  if m.all (fun p => p.2 == f) then (1, 1)
  else
    let inside := l.pwrAt.filter (fun x => a * 1000000000 < x.1 && x.1 ≤ b * 1000000000 && m.any (fun p => p.1 == x.2.1))
    if inside = [] then ((m.filter (fun p => p.2 == f)).length, m.length)
    else
      let sum (q : Nat × Nat → Bool) : Nat := ((inside.filter (fun x => m.any (fun p => p.1 == x.2.1 && q p))).map (·.2.2)).sum
      if sum (fun _ => true) = 0 then ((m.filter (fun p => p.2 == f)).length, m.length)
      else (sum (fun p => p.2 == f), sum (fun _ => true))

/-- The nodes with a channel on feeder `f`, and those of other members. -/
def feederNodes (s : State) (f : Nat) : List (Nat × NodeEntry) :=
  (validNodes s).filter (fun p => (mappedChannels s p.1 p.2).any (fun m => m.2 == f))
def foreignNodes (s : State) (f : Nat) : List (Nat × NodeLive) :=
  s.bal.foreign.filter (fun p => sget (fun _ => 0xFF) s.bal.foreignFdr p.1 == f)

/-- What the nodes of a feeder drew: covered and estimated energy in µWh, and the uncovered nodes. -/
structure NodeSum where
  covered : Int
  guessed : Int
  uncovered : Nat

def nodeSum (s : State) (f a b : Nat) : NodeSum :=
  let one (l : NodeLive) (num den : Nat) (x : NodeSum) : NodeSum :=
    match coveredEnergy s l a b with
    | some e => { x with covered := x.covered + openDiv (e * num) den }
    | none => { x with guessed := x.guessed + openDiv (estimatedEnergy l a b * num) den, uncovered := x.uncovered + 1 }
  let x := (feederNodes s f).foldl (fun x p =>
    let l := live s p.1
    let sh := feederShare s f p.1 p.2 l a b
    one l sh.1 sh.2 x) ⟨0, 0, 0⟩
  (foreignNodes s f).foldl (fun x p => one p.2 1 1 x) x

/-- The means of the nodes that were covered, for later intervals (R327). -/
def meansUpdate (f a b : Nat) (s : State) : State :=
  let mean (l : NodeLive) : NodeLive := match coveredEnergy s l a b with
    | some e => if a < b then { l with mean := some (openDiv (e * 3600) (b - a)).toNat } else l
    | none => l
  let s1 := (feederNodes s f).foldl (fun s p => setLive p.1 (mean (live s p.1)) s) s
  setBal { s1.bal with foreign := s1.bal.foreign.map (fun p => (p.1, mean p.2)) } s1

/-! ### The result (R329-R333) -/

/-- nJ as whole mWh. -/
def mwhOf (nj : Nat) : Nat := (openDiv nj 3600000000).toNat

/-- The wired energy and the losses of a job in mWh (R328, R329). -/
def wiredEnergy (s : State) (j : BalJob) : Nat :=
  mwhOf (((s.bal.wins.filter (fun w => j.from_ < w.sec && w.sec ≤ j.stop)).map (fun w => natAt w.wired j.feeder)).sum)

def lossEnergy (s : State) (j : BalJob) : Nat :=
  let es := feederElems s j.feeder
  let cable := ((s.bal.wins.filter (fun w => j.from_ < w.sec && w.sec ≤ j.stop)).map (fun w =>
    (List.zipWith (fun e r => r * natAt w.irms e ^ 2) es j.re).sum)).sum
  let nodes := (feederNodes s j.feeder).length + (foreignNodes s j.feeder).length
  mwhOf (cable + (natAt j.params 1 * 1000 + natAt j.params 2 * nodes) * (j.stop - j.from_) * 1000000)

/-- The first result of R331 that applies. -/
def balanceResult (j : BalJob) (em d : Int) (cov : Nat) : Nat :=
  let t : Int := max (natAt j.params 3 * 1000000) (natAt j.params 4 * em.natAbs)
  if natAt j.params 0 = 0 then 5
  else if leAt j.record 48 2 ≠ 0 ∨ j.flag 6 ∨ j.flag 2 then 4
  else if cov < 100 * natAt j.params 5 then 3
  else if t < 1000 * d then 1
  else if 1000 * d < -t then 2
  else 0

/-- Events and the alarm of R332. -/
def balanceAlarm (f res : Nat) (d : Int) (s : State) : State :=
  let s := if res = 0 ∨ res = 5 then s else post 0x24 0x01 (leBytes 1 f ++ leBytes 1 res ++ leBytes 8 (unsigned 64 d)) s
  if res = 1 ∨ res = 2 then
    faultRaise 0x0402 f true (setBal { s.bal with alarm := (f :: s.bal.alarm).dedup, oks := sdel s.bal.oks f } s)
  else if res = 0 then
    let n := sget (fun _ => 0) s.bal.oks f + 1
    let s := setBal { s.bal with oks := sins s.bal.oks f n } s
    if n = 2 then faultGone 0x0402 f (setBal { s.bal with alarm := s.bal.alarm.filter (· != f) } s) else s
  else setBal { s.bal with oks := sdel s.bal.oks f } s

/-- Whether a mapping check ran within an interval. -/
def checkRan (s : State) (j : BalJob) : Bool :=
  let c := s.bal.check
  c.result != 0 && c.ranAt ≤ j.stop && (c.result == 1 || j.from_ ≤ c.from_)

/-- The balance of one job. -/
def balanceOne (j : BalJob) (s : State) : State :=
  let off := natAt j.params 0 == 0
  let f := j.feeder
  let em : Int := (leAt j.record 16 8 : Int) - leAt j.record 24 8
  let x := if off then ⟨0, 0, 0⟩ else nodeSum s f j.from_ j.stop
  let en := nearDiv (x.covered + x.guessed) 1000
  let ew := if off then 0 else wiredEnergy s j
  let el := if off then 0 else lossEnergy s j
  let d : Int := if off then 0 else em - (en + ew + el)
  let total := x.covered + x.guessed
  let (cov, s) := if total ≤ 0 then (if off then (0, s) else takeFree 16 s) else ((10000 * x.covered / total).toNat, s)
  let res := balanceResult j em d cov
  let flags := b2n (checkRan s j) + 2 * b2n (j.flag 1 || j.flag 5) + 4 * b2n (j.grace s).2
  let b := octets j.record 56 4 ++ octets j.record 12 1 ++ leBytes 1 res ++ leBytes 1 flags ++ [0] ++ leBytes 8 (unsigned 64 em) ++
    leBytes 8 (unsigned 64 en) ++ leBytes 4 ew ++ leBytes 4 el ++ leBytes 8 (unsigned 64 d) ++ leBytes 2 cov ++ leBytes 2 x.uncovered
  let b := b ++ leBytes 4 (crc32 b)
  let s := { s with nv := { s.nv with profile := s.nv.profile ++ [b] } }
  let s := setBal { s.bal with latest := sins s.bal.latest f b } s
  balanceAlarm f res d (if off then s else meansUpdate f j.from_ j.stop s)

/-- Every balance whose E + G has come; a standby computes none (R330, R334). -/
def balanceDue (s : State) : State :=
  let due (j : BalJob) : Bool := j.stop * 1000000000 + (j.grace s).1 ≤ netNs s
  let now := s.bal.jobs.filter due
  let s := setBal { s.bal with jobs := s.bal.jobs.filter (fun j => !due j) } s
  if isActive s then now.foldl (fun s j => balanceOne j s) s else s

/-! ### The mapping check (R335) -/

def setCheck (c : MapCheck) (s : State) : State := setBal { s.bal with check := c } s

/-- The place of a node's channel in the model. -/
def channelPlace (s : State) (a ch : Nat) : Option (Nat × Nat) := (nodePlaces s a ch).head?

/-- A check begins; the result of R406 stands beside the state. -/
def checkStart (short ch : Nat) (s : State) : Nat × State :=
  match nodeEntry s short with
  | none => (0x14, s)
  | some e =>
    let place := channelPlace s short ch
    let bars : Bool := match place with
      | some p => (s.nodes.survey.state == 1 && s.nodes.survey.zone == p.1) || (match holderOf s p with
          | some o => 2 ≤ o.rank
          | none => false)
      | none => false
    if e.released ∨ e.channels ≤ ch then (0x14, s)
    else if s.bal.check.result = 1 then (0x18, s)
    else if bars then (0x18, setCheck { result := 5 } s)
    else (0, setCheck { result := 1, short, ch, feeder := odNat s 4 short (16 * ch + 21), step := 1, from_ := netSec s, ranAt := netSec s } s)

/-- The sums of P over the five windows after second `t`, where they have come. -/
def fiveWindows (s : State) (t : Nat) : Option (List Int) :=
  let l := s.bal.wins.filter (fun w => t < w.sec)
  if l.length < 5 then none
  else some ((List.range 4).map (fun f => ((l.take 5).map (fun w => w.p.getD f 0)).sum))

/-- Whether feeder `f`'s change answers the channel's. -/
def feederAnswers (before after : List Int) (dp : Int) (f : Nat) : Bool :=
  let c := after.getD f 0 - before.getD f 0
  5 * dp.natAbs ≤ 2 * c.natAbs && ((0 < c && 0 < dp) || (c < 0 && dp < 0))

/-- The check ends. -/
def checkEnd (after : List Int) (s : State) : State :=
  let c := s.bal.check
  let dp : Int := 100 * (((sget (fun _ => 0) (live s c.short).pwrs c.ch : Nat) : Int) - c.pwr)
  let ok (f : Nat) : Bool := isSet s (R.FDf_CFG_en f) && feederAnswers c.before after dp f
  let (r, g) := if c.feeder < 4 ∧ ok c.feeder then (2, c.feeder) else match (List.range 4).find? (fun g => g != c.feeder && ok g) with
    | some g => (3, g)
    | none => (4, 0xFF)
  let s := sendParams c.short 0x06 (leBytes 1 (2 ^ c.ch) ++ [0, 0, 0xFF, 0xFF, 0]) s
  let s := match channelPlace s c.short c.ch with
    | some p => setHeld p.1 p.2 ((holderOf s p).map (·.level)) s
    | none => s
  post 0x24 0x02 (leBytes 2 c.short ++ leBytes 1 r ++ leBytes 1 g) (setCheck { c with result := r, g, step := 0, from_ := netSec s } s)

/-- The zone input that drives a node's output, where there is one, is held at a level for the check. -/
def checkHold (place : Option (Nat × Nat)) (level : Nat) (s : State) : State :=
  match place with
  | some p => setHeld p.1 p.2 (some level) s
  | none => s

/-- A step of the check where it is due. -/
def checkStep (s : State) : State :=
  let c := s.bal.check
  if c.result ≠ 1 then s
  else if c.step = 1 then
    match fiveWindows s c.from_ with
    | none => s
    | some p =>
      let place := channelPlace s c.short c.ch
      let now := match place with
        | some p => levelNow s p.1 p.2
        | none => sget (fun _ => 0) (live s c.short).outs c.ch % 1024
      let level := if 500 ≤ now then 0 else odNat s 4 c.short (16 * c.ch + 17)
      let s := checkHold place level s
      let hold := (4 * 256 * pathLen s + 999999999) / 1000000000
      let s := sendParams c.short 0x06 (leBytes 1 (2 ^ c.ch) ++ leBytes 2 level ++ leBytes 2 hold ++ [0]) s
      setCheck { c with step := 2, from_ := pathNow s, before := p, pwr := sget (fun _ => 0) (live s c.short).pwrs c.ch } s
  else if c.step = 2 then
    if c.from_ + 256 ≤ pathNow s then setCheck { c with step := 3, from_ := netSec s } s else s
  else match fiveWindows s c.from_ with
    | some p => checkEnd p s
    | none => s

/-! ### The commands -/

/-- The firmware copies a profile record (PROFILE_RECORD_COPY, R317). -/
def execProfileRecordCopy (s : State) : Host.Outcome State Fault Refusal := .next (recordCopy s)

/-- The balances whose grace has passed (BALANCE_COMPUTE, R330). -/
def execBalanceCompute (s : State) : Host.Outcome State Fault Refusal := .next (balanceDue s)

/-- A step of the mapping check (MAPPING_CHECK_STEP, R335). -/
def execMappingCheckStep (s : State) : Host.Outcome State Fault Refusal := .next (checkStep s)

end Sys2Proof.Machine
end

