-- ==== Sys2Proof/Machine/Power.lean ====
section
/-!
DEFINITION. Power and reset (chapter 25): the early warning and recovery, the resets and what they keep, hibernate and wake,
the PLLs. What the boot ROM and the firmware do at a start stands in Start.lean.
-/

namespace Sys2Proof.Machine

def setPwr (x : PwrState) (s : State) : State := { s with pwr := x }

/-! ### Resets (R612, R613) -/

/-- Whether a dictionary element outlives a reset: what R400 stores, and the join keys of area B. -/
def odKept (k : Nat) : Bool :=
  match odElem (k / 0x1000000) (k / 0x100 % 0x10000) (k % 0x100) with
  | some e => e.acc == .rwp || e.acc == .fac || e.acc == .ucal || e.acc == .wo
  | none => false

/-- Whether an element's stored value waits for an activation, not for the restart. -/
def odWaits (k : Nat) : Bool :=
  match odElem (k / 0x1000000) (k / 0x100 % 0x10000) (k % 0x100) with
  | some e => e.timing == .activation
  | none => false

/-- A commit of the early warning that is in progress completes before a reset takes hold (R609). -/
def commitsFinish (s : State) : State := saveDone (spillFinish s)

/-- The pads as IOC finds them after a reset: inputs, pulled down, driven from outside as before. -/
def padsKeep (old s : State) : State :=
  let s := setIoc { s.ioc with drive := old.ioc.drive, filt := fld old R.IOC_DIN_raw } s
  let s := setFld s R.IOC_GIN_v ((List.range 16).foldl (fun a n => a + b2n (padLevel s n) * 2 ^ n) 0)
  dinShow (setFld s R.IOC_DIN_raw (fld old R.IOC_DIN_raw))

/-- A module reset of cause `c`: 0 por, 1 bor, 2 wdt0, 3 sysrst, 4 pin. -/
def moduleReset (c : Nat) (s : State) : State :=
  let cold := c ≤ 1
  let s := if cold then s else commitsFinish s
  let cause := if cold then 2 ^ c else fld s ⟨A.SYS_RSTCAUSE, 0, 5⟩ ||| 2 ^ c
  let t : State := { now := s.now, free := s.free, pending := s.pending, out := s.out, bulk := s.bulk, nv := s.nv }
  let t := { t with regs := s.regs.filter (fun p => backupRegister p.1) }
  let t := { t with shadows := s.shadows.filter (fun p => backupRegister (p.1 / 32)) }
  let t := { t with mem := if cold then s.mem.filter (fun p => inCell p.1) else s.mem }
  let t := { t with od := s.od.filter (fun p => odKept p.1), odHeld := s.odHeld.filter (fun p => odWaits p.1) }
  let t := { t with bkd := { s.bkd with carry := [], hold0 := (0, 0), hold1 := (0, 0), optLo := none, checkAt := none } }
  let t := lower t R.BKD_STAT_sync
  let t := { t with pwr := { vin := s.pwr.vin, warning := s.pwr.warning, vref := s.pwr.vref } }
  let t := setTkn { t.tkn with ilkIn := s.tkn.ilkIn, inSince := s.tkn.inSince } t
  let t := setBool t R.TKN_STAT_ilk_in s.tkn.ilkIn
  padsKeep s (setReg t A.SYS_RSTCAUSE (BitVec.ofNat 32 cause))

/-! ### Early warning, recovery, brown-out (R600, R609, R610) -/

/-- VIN at `vin` mV stands below the early warning of a reference of `vref` mV. -/
def belowWarning (vin vref : Nat) : Bool := 100 * vin < 85 * vref || vin < 5000

/-- VIN at `vin` mV stands above recovery. -/
def recovered (vin vref : Nat) : Bool := 90 * vref ≤ 100 * vin && 5300 ≤ vin

/-- The early warning: VIN has stood at `vin` mV for 20 µs, the reference being `vref`. -/
def earlyWarning (vin vref : Nat) (s : State) : State :=
  let s := setFld s R.IOC_MON_vin (min vin 65535)
  if s.pwr.warning ∨ !s.pwr.vin ∨ s.pwr.asleep ∨ !belowWarning vin vref then s
  else
    let s := setPwr { s.pwr with warning := true, vref := vref } s
    let s := raise (lower s R.IOC_STAT_vin_ok) R.IOC_IFLG_vinew
    let s := ilkRelease false s
    let s := hbSend (setTkn { s.tkn with down := true } s)
    spillStart (meterWarning s)

/-- The firmware makes the spill header invalid (R610). -/
def spillInvalidate (s : State) : State := setBytes s (spillAddr s) (List.replicate 64 0)

/-- Recovery without a reset: VIN has stood at `vin` mV for 10 ms. -/
def vinRecovery (vin : Nat) (s : State) : State :=
  let s := setFld s R.IOC_MON_vin (min vin 65535)
  if !s.pwr.warning ∨ !recovered vin s.pwr.vref then s
  else
    let s := setPwr { s.pwr with warning := false } s
    let s := raise (raise s R.IOC_STAT_vin_ok) R.IOC_IFLG_vinok
    let s := setTkn { s.tkn with down := false } s
    if !s.pwr.started then s
    else
      let s := spillInvalidate s
      if isTwin s then s else ilkClaim s

/-- The brown-out reset: VIN below 4.5 V for 10 µs. VIN at 0 leaves the supervisor unpowered. -/
def brownOut (vin : Nat) (s : State) : State :=
  if 4500 ≤ vin then s
  else if !s.pwr.vin then setPwr { s.pwr with cold := s.pwr.cold || vin == 0 } s
  else let s := moduleReset 1 s; setPwr { s.pwr with vin := false, warning := false, cold := vin == 0 } s

/-- VIN rises through 5.2 V: a power-on reset where the supervisor was unpowered, else the end of the brown-out reset. -/
def powerOn (vin : Nat) (s : State) : State :=
  if vin < 5200 ∨ s.pwr.vin then s
  else
    let s := if s.pwr.cold then moduleReset 0 s else s
    setFld (setPwr { s.pwr with vin := true, warning := false, cold := false } s) R.IOC_MON_vin (min vin 65535)

/-! ### Hibernate (R605-R607) -/

/-- The latches that wake. -/
def wakeSet (s : State) : Bool := fld s R.ICU_WLAT_lat &&& fld s R.ICU_WEN_en != 0

/-- An accepted write of mode 2. -/
def hibernateEnter (s : State) : State := spillStart (setPwr { s.pwr with entering := some s.now } s)

/-- What powers down: every block but SYS, ICU and BKD, the DRAM. -/
def powerDown (s : State) : State :=
  let keep (a : Nat) : Bool := blockIndex a == 0 || blockIndex a == 1 || blockIndex a == 3
  let t : State := { now := s.now, free := s.free, pending := s.pending, out := s.out, bulk := s.bulk, nv := s.nv }
  let t := { t with regs := s.regs.filter (fun p => keep p.1), shadows := s.shadows.filter (fun p => keep (p.1 / 32)) }
  let t := { t with mem := s.mem.filter (fun p => inSram p.1 || inCell p.1), od := s.od, odHeld := s.odHeld }
  let t := { t with bkd := { s.bkd with carry := [], hold0 := (0, 0), hold1 := (0, 0) }, icu := s.icu, sys := s.sys, flt := s.flt }
  let t := setTkn { t.tkn with ilkIn := s.tkn.ilkIn, inSince := s.tkn.inSince } (lower t R.BKD_STAT_sync)
  let t := setBool t R.TKN_STAT_ilk_in s.tkn.ilkIn
  padsKeep s (setPwr { vin := s.pwr.vin, vref := s.pwr.vref, asleep := true } t)

/-- 2 ms after the entry: abandoned where a latch is set, else powered down. -/
def hibernateSample (s : State) : State :=
  match s.pwr.entering with
  | none => s
  | some t =>
    if s.now < t + msTicks 2 then s
    else
      let s := setPwr { s.pwr with entering := none } (spillFinish s)
      if wakeSet s then raise (setFld s R.SYS_PWR_mode 0) R.ICU_IFLG_wake else powerDown s

/-- A wake: the latches that set in hibernate are recorded; in forerunner mode DIN and GPIO latches give their sources an edge. -/
def wakeUp (s : State) : State :=
  if !s.pwr.asleep ∨ !wakeSet s then s
  else
    let late := s.pwr.woken
    let s := setPwr { s.pwr with asleep := false, woken := [] } s
    let s := { s with sys := { s.sys with wdt0From := s.now, wdt0Warned := false } }
    let s := late.foldl (fun s k => post 0x01 0x01 (leBytes 1 k) s) s
    if isSet s R.ICU_WCFG_compat then
      upTo 16 (fun k s => if fldBit s R.ICU_WLAT_lat k then icuPulse (102 + k) s else s) s
    else s

/-! ### PLLs (R602) -/

/-- PLL E, else PLL R, locks where something needs it; a held `go` acts. -/
def pllLock (e : Bool) (s : State) : State :=
  if e then
    if !pllEWanted s then s
    else
      let held := s.pwr.heldGo
      let s := setPwr { s.pwr with pllE := true, heldGo := false } s
      if held then lfePulse s.ntb.path s else s
  else if pllRWanted s then raise (setPwr { s.pwr with pllR := true } s) R.RFE_STAT_pll_lock else s

/-! ### The commands -/

/-- VIN falls below the early warning (EARLY_WARNING, R609). -/
def execEarlyWarning (vin vref : Nat) (s : State) : Host.Outcome State Fault Refusal := .next (earlyWarning vin vref s)

/-- VIN recovers (VIN_RECOVERY, R610). -/
def execVinRecovery (vin : Nat) (s : State) : Host.Outcome State Fault Refusal := .next (vinRecovery vin s)

/-- Brown-out (BROWN_OUT, R612). -/
def execBrownOut (vin : Nat) (s : State) : Host.Outcome State Fault Refusal := .next (brownOut vin s)

/-- Power-on (POWER_ON_RESET, R612). -/
def execPowerOnReset (vin : Nat) (s : State) : Host.Outcome State Fault Refusal := .next (powerOn vin s)

/-- RST_N low for `ns` (PIN_RESET, R612); pulses below 1 µs are ignored. -/
def execPinReset (ns : Nat) (s : State) : Host.Outcome State Fault Refusal :=
  .next (if 1000 ≤ ns ∧ s.pwr.vin then moduleReset 4 s else s)

/-- The latches are sampled after the entry (HIBERNATE_POWER_DOWN, R606). -/
def execHibernatePowerDown (s : State) : Host.Outcome State Fault Refusal := .next (hibernateSample s)

/-- A wake latch in hibernate (WAKE, R607). -/
def execWake (s : State) : Host.Outcome State Fault Refusal := .next (wakeUp s)

/-- A PLL locks (PLL_LOCK, R602). -/
def execPllLock (e : Bool) (s : State) : Host.Outcome State Fault Refusal := .next (pllLock e s)

end Sys2Proof.Machine
end

