-- ==== Sys2Proof/Machine/Sys.lean ====
section
/-!
DEFINITION. The platform (chapter 02): SYS, the watchdogs, the memories on the address map with their error correction, and
the bulk store's two command channels.
-/

namespace Sys2Proof.Machine

def setSys (x : SysState) (s : State) : State := { s with sys := x }

/-! ### SYS registers (R45-R48, R54, R603, R605) -/

def kickKey : Word := 0xA35C

/-- Core 1 is held in reset. -/
def core1Hold (s : State) : State :=
  setSys { s.sys with reserve1 := none } (lower (lower s R.SYS_CTRL_c1_run) R.SYS_STAT_c1_busy)

/-- What a write of a SYS register starts beside its fields. -/
def sysWritten (_o : Origin) (a : Nat) (w : Word) (old s : State) : State :=
  if a = A.SYS_CTRL then
    let s := if isSet s R.SYS_CTRL_c1_run ∧ ¬ isSet old R.SYS_STAT_c1_busy then
        setSys { s.sys with wdt1From := s.now } (raise s R.SYS_STAT_c1_busy)
      else if ¬ isSet s R.SYS_CTRL_c1_run ∧ isSet old R.SYS_STAT_c1_busy then core1Hold s else s
    let s := if bit w.toNat 8 then raise s R.SYS_STAT_sealed else s
    if bit w.toNat 4 then moduleReset 3 s else s
  else if a = A.SYS_STAT then
    if isSet old R.SYS_STAT_plane_err ∧ ¬ isSet s R.SYS_STAT_plane_err then
      setReg (setReg s A.SYS_PLANE_LOG 0) A.SYS_PLANE_LOGI 0
    else s
  else if a = A.SYS_PWR then
    if fld s R.SYS_PWR_mode = 2 ∧ s.pwr.entering = none ∧ ¬ s.pwr.asleep then
      if fld old R.SYS_PWR_mode = 2 then s else hibernateEnter s
    else s
  else if a = A.SYS_WDT0_KICK then
    if w = kickKey then setSys { s.sys with wdt0From := s.now, wdt0Warned := false } s else cfgErr s 0
  else if a = A.SYS_WDT1_KICK then if w = kickKey then setSys { s.sys with wdt1From := s.now } s else cfgErr s 0
  else if a = A.SYS_WDT1_CTRL then
    if isSet s R.SYS_WDT1_CTRL_en ∧ ¬ isSet old R.SYS_WDT1_CTRL_en then setSys { s.sys with wdt1From := s.now } s else s
  else s

/-- What SYS answers to a read: the factory's identity words. -/
def sysRead (_o : Origin) (a : Nat) (v : Word) (s : State) : Word × State :=
  if A.SYS_UIDk 0 ≤ a ∧ a ≤ A.SYS_UIDk 3 then (Config.uid ((a - A.SYS_UIDk 0) / 4), s) else (v, s)

/-! ### Watchdogs (R46, R48, R559) -/

/-- 400 ms without a kick: the flag; an escalated manager then saves what it can. -/
def wdt0Warn (s : State) : State :=
  if !s.pwr.booted ∨ s.sys.wdt0Warned ∨ s.now < s.sys.wdt0From + msTicks 400 then s
  else
    let s := raise (setSys { s.sys with wdt0Warned := true } s) R.SYS_IFLG_wdt0_warn
    if s.flt.escalated then meterSave (spillCommand s) else s

/-- 500 ms without a kick: the module is reset. -/
def wdt0Expire (s : State) : State :=
  if !s.pwr.booted ∨ !s.pwr.vin ∨ s.now < s.sys.wdt0From + msTicks 500 then s else moduleReset 2 s

/-- The core 1 watchdog expires: core 1 goes into reset; the firmware raises the fault (R556). -/
def wdt1Expire (s : State) : State :=
  if isSet s R.SYS_WDT1_CTRL_en ∧ isSet s R.SYS_STAT_c1_busy ∧ s.sys.wdt1From + msTicks (10 * fld s R.SYS_WDT1_CTRL_to) ≤ s.now then
    let s := raise (raise (core1Hold s) R.SYS_STAT_wdt1_exp) R.SYS_IFLG_wdt1_exp
    faultRaise 0x0102 0 false (post 0x00 0x04 [] s)
  else s

/-! ### Memory (R30-R36) -/

/-- A double-bit error in the word at `a` (R34). -/
def eccDouble (a : Nat) (s : State) : State :=
  let a := a / 4 * 4
  let s := setSys { s.sys with eccBad := if s.sys.eccBad.contains a then s.sys.eccBad else s.sys.eccBad ++ [a] } s
  let s := raise (raise (setFld s R.SYS_ECC_ADDR_addr a) R.SYS_STAT_ecc_ue) R.SYS_IFLG_ecc_ue
  let s := post 0x00 0x03 (leBytes 4 a) (bump s R.SYS_ECC_ue 1)
  if inCell a then s else faultRaise 0x0104 (a % 65536) false s

/-- A single-bit error, corrected. -/
def eccSingle (s : State) : State := raise (bump s R.SYS_ECC_ce 1) R.SYS_IFLG_ecc_ce

/-- The patrol scrubber's finds in its pass over SRAM or DRAM. -/
def patrol (dram : Bool) (singles doubles : List Word) (s : State) : State :=
  let ours (w : Word) : Bool := if dram then inDram w.toNat else inSram w.toNat
  let s := (singles.filter ours).foldl (fun s _ => eccSingle s) s
  (doubles.filter ours).foldl (fun s w => eccDouble w.toNat s) s

/-- Whether core 1 is given address `a` (R31, R33, R36). -/
def core1May (s : State) (a : Nat) : Bool :=
  (inSram a && c1SramFrom s ≤ a) || (inDram a && c1DramFrom s ≤ a) ||
    (0x20038000 ≤ a && a ≤ 0x2003FFFF && isSet s R.SYS_C1MEM_nv)

/-- The value an atomic memory operation writes (R30). -/
def amoValue (f : AmoOp) (old v : Word) : Word :=
  match f with
  | .swap => v
  | .add => old + v
  | .xor => old ^^^ v
  | .and => old &&& v
  | .or => old ||| v
  | .min => if old.toInt ≤ v.toInt then old else v
  | .max => if old.toInt ≤ v.toInt then v else old
  | .minu => if old.toNat ≤ v.toNat then old else v
  | .maxu => if old.toNat ≤ v.toNat then v else old

/-- The reservation a core holds. -/
def reservation (s : State) (c : CoreId) : Option Nat :=
  match c with
  | .core0 => s.sys.reserve0
  | .core1 => s.sys.reserve1

def setReservation (c : CoreId) (r : Option Nat) (s : State) : State :=
  match c with
  | .core0 => setSys { s.sys with reserve0 := r } s
  | .core1 => setSys { s.sys with reserve1 := r } s

/-- A store to the word at `a` ends the reservations on it. -/
def breakReservations (a : Nat) (s : State) : State :=
  let cut (r : Option Nat) : Option Nat := if r = some (a / 4 * 4) then none else r
  setSys { s.sys with reserve0 := cut s.sys.reserve0, reserve1 := cut s.sys.reserve1 } s

/-- The octets an access touches. -/
def accessSize (op : MemOp) (size : Nat) : Nat :=
  match op with
  | .lr => 4
  | .sc => 4
  | .amo _ => 4
  | _ => size

/-- An access to SRAM, DRAM or the cell store that nothing refuses. -/
def ramAccess (o : Origin) (op : MemOp) (n a : Nat) (v : Word) (s : State) : State :=
  let word := BitVec.ofNat 32 (memNat s a n)
  match op with
  | .load => setResult o (.value word) s
  | .fetch => setResult o (.value word) s
  | .store => setResult o .done (breakReservations a (setMemNat s a n v.toNat))
  | .lr => setResult o (.value word) (setReservation o.core (some a) s)
  | .sc =>
    if reservation s o.core = some a then
      setResult o (.value 0) (setReservation o.core none (breakReservations a (setMemNat s a 4 v.toNat)))
    else setResult o (.value 1) (setReservation o.core none s)
  | .amo f => setResult o (.value word) (breakReservations a (setMemNat s a 4 (amoValue f word v).toNat))

/-- An access to SRAM, DRAM or the cell store, with what the code finds in the words it touches: a whole word written is not
read before (R34). -/
def codedAccess (o : Origin) (op : MemOp) (n a : Nat) (v : Word) (found : EccFind) (s : State) : State :=
  if op = .store ∧ n = 4 then
    ramAccess o op n a v (setSys { s.sys with eccBad := s.sys.eccBad.filter (· != a / 4 * 4) } s)
  else if found = .double ∨ s.sys.eccBad.contains (a / 4 * 4) then setResult o .busError (eccDouble a s)
  else ramAccess o op n a v (if found = .single then eccSingle s else s)

/-- Whether an operation is a write for the log of a refusal. -/
def isStore : MemOp → Bool
  | .load => false
  | .fetch => false
  | .lr => false
  | _ => true

/-- Whether an operation is one of the A extension. -/
def isAtomic : MemOp → Bool
  | .lr => true
  | .sc => true
  | .amo _ => true
  | _ => false

/-- An access outside the register plane (R30-R36). -/
def memAccess (o : Origin) (op : MemOp) (size a : Nat) (v : Word) (found : EccFind) (s : State) : State :=
  let n := accessSize op size
  if op ≠ .fetch ∧ a % n ≠ 0 then setResult o .misaligned s
  else if !(inRom a || inSram a || inCell a || inDram a) then setResult o .busError s
  else if o.core = .core1 ∧ ¬ core1May s a then planeRefuse o a (isStore op) s
  else if isAtomic op ∧ (inRom a ∨ inCell a) then setResult o .accessFault s
  else if inRom a then
    if op = .store then setResult o .busError s
    else setResult o (.value (BitVec.ofNat 32 (leNat ((List.range n).map (fun i => Config.rom (a + i)))))) s
  else codedAccess o op n a v found s

/-! ### Bulk store (R37-R41) -/

def bscJob (s : State) (n : Nat) : Option BscJob := if n = 0 then s.bsc.job0 else s.bsc.job1

def setBscJob (n : Nat) (j : Option BscJob) (s : State) : State :=
  let s := { s with bsc := if n = 0 then { s.bsc with job0 := j } else { s.bsc with job1 := j } }
  setBool s R.BSC_STAT_busy (isSet s R.BSC_CTRL_run && (s.bsc.job0.isSome || s.bsc.job1.isSome))

/-- A command of channel `n` ends with `status` after `done` blocks. -/
def bscEnd (n status done : Nat) (s : State) : State :=
  let s := setFld (setFld (setBscJob n none s) (R.BSC_Cn_RES_status n) status) (R.BSC_Cn_RES_done n) done
  let s := raiseBit s R.BSC_IFLG_done n
  if status = 0 then s else raiseBit s R.BSC_IFLG_err n

def bscOpCode : BscOp → Nat
  | .read => 0
  | .write => 1
  | .trim => 2

/-- Whether the command's place, count and buffer are in range (R37, R38). -/
def bscInRange (j : BscJob) : Bool :=
  1 ≤ j.cnt && j.cnt ≤ 256 && j.part ≤ 11 && j.blk + j.cnt ≤ partitionBlocks j.part && (j.op == .trim || inOneRam j.buf (4096 * j.cnt))

/-- Whether channel 1 is permitted the command (R39). -/
def bscPermitted (s : State) (j : BscJob) : Bool :=
  (if j.op = .read then fldBit s R.BSC_C1ACC_rd j.part else fldBit s R.BSC_C1ACC_wr j.part) &&
    (j.op == .trim || (core1May s j.buf && core1May s (j.buf + 4096 * j.cnt - 1)))

/-- A GO of channel `n`. -/
def bscGo (n : Nat) (op : BscOp) (s : State) : State :=
  let j : BscJob := { op, part := fld s (R.BSC_Cn_LOC_part n), blk := fld s (R.BSC_Cn_LOC_blk n),
                      cnt := fld s (R.BSC_Cn_CNT_cnt n), buf := 4 * fld s (R.BSC_Cn_ADDR_addr n) }
  if !isSet s R.BSC_CTRL_run then s
  else if !bscInRange j then bscEnd n 1 0 s
  else if n = 1 ∧ ¬ bscPermitted s j then post 0x11 0x03 (leBytes 1 j.part ++ leBytes 1 (bscOpCode op)) (bscEnd n 2 0 s)
  else setFld (setFld (setBscJob n (some j) s) (R.BSC_Cn_RES_status n) 7) (R.BSC_Cn_RES_done n) 0

/-- The first `k` blocks of a command. -/
def bscBlocks (j : BscJob) (k : Nat) (s : State) : State :=
  upTo k (fun i s =>
    match j.op with
    | .read => setBytes s (j.buf + 4096 * i) (bulkBlock s j.part (j.blk + i))
    | .write => setBulk s j.part (j.blk + i) (memBytes s (j.buf + 4096 * i) 4096)
    | .trim => setBulk s j.part (j.blk + i) []) s

/-- The store ends channel `n`'s command (R40). -/
def bscDone (n : Nat) (found : StoreFind) (s : State) : State :=
  match bscJob s n with
  | none => s
  | some j =>
    let where_ (i : Nat) : List Byte := leBytes 1 j.part ++ leBytes 4 (j.blk + i)
    match found, j.op with
    | .ecc i, .read =>
      let i := min i (j.cnt - 1)
      let s := bscEnd n 3 i (bscBlocks j i s)
      faultRaise 0x0105 j.part false (post 0x11 0x01 (where_ i) s)
    | .store i, .write =>
      let i := min i (j.cnt - 1)
      post 0x11 0x02 (where_ i) (bscEnd n 4 i (bscBlocks j i s))
    | _, _ => bscEnd n 0 j.cnt (bscBlocks j j.cnt s)

/-- What a write of a BSC register starts beside its fields. -/
def bscWritten (_o : Origin) (a : Nat) (w : Word) (_old s : State) : State :=
  if a = A.BSC_Cn_GO 0 ∨ a = A.BSC_Cn_GO 1 then
    let n := if a = A.BSC_Cn_GO 0 then 0 else 1
    let g := bits w.toNat 0 3
    if g = 0 then s
    else if (bscJob s n).isSome ∨ ¬ (g = 1 ∨ g = 2 ∨ g = 4) then cfgErr s 17
    else bscGo n (if g = 1 then .read else if g = 2 then .write else .trim) s
  else if a = A.BSC_CTRL then
    setBool s R.BSC_STAT_busy (isSet s R.BSC_CTRL_run && (s.bsc.job0.isSome || s.bsc.job1.isSome))
  else s

/-! ### The commands -/

/-- A patrol pass (PATROL_SCRUB, R34). -/
def execPatrolScrub (dram : Bool) (singles doubles : List Word) (s : State) : Host.Outcome State Fault Refusal :=
  .next (patrol dram singles doubles s)

/-- A write of BSC_Cn_GO.read (BSC_READ, R38). -/
def execBscRead (o : Origin) (n : Nat) (s : State) : Host.Outcome State Fault Refusal :=
  .next (coreWrite bscWritten o (A.BSC_Cn_GO n) 1 s)

/-- A write of BSC_Cn_GO.write (BSC_WRITE, R38). -/
def execBscWrite (o : Origin) (n : Nat) (s : State) : Host.Outcome State Fault Refusal :=
  .next (coreWrite bscWritten o (A.BSC_Cn_GO n) 2 s)

/-- A write of BSC_Cn_GO.trim (BSC_TRIM, R38). -/
def execBscTrim (o : Origin) (n : Nat) (s : State) : Host.Outcome State Fault Refusal :=
  .next (coreWrite bscWritten o (A.BSC_Cn_GO n) 4 s)

/-- A channel's command ends (BSC_COMMAND_DONE, R40). -/
def execBscCommandDone (n : Nat) (found : StoreFind) (s : State) : Host.Outcome State Fault Refusal := .next (bscDone n found s)

/-- A write of SYS_CTRL.c1_run (CORE1_RUN_WRITE, R28). -/
def execCore1RunWrite (o : Origin) (run : Bool) (s : State) : Host.Outcome State Fault Refusal :=
  .next (coreWrite sysWritten o A.SYS_CTRL (wordWith s R.SYS_CTRL_c1_run (b2n run)) s)

/-- A write of SYS_CTRL.sysrst (SYSRST, R612). -/
def execSysrst (o : Origin) (s : State) : Host.Outcome State Fault Refusal :=
  .next (coreWrite sysWritten o A.SYS_CTRL (rwWord s A.SYS_CTRL ||| 0x10) s)

/-- A write of SYS_CTRL.seal (SEAL, R45). -/
def execSeal (o : Origin) (s : State) : Host.Outcome State Fault Refusal :=
  .next (coreWrite sysWritten o A.SYS_CTRL (rwWord s A.SYS_CTRL ||| 0x100) s)

/-- A write of SYS_PWR.mode (POWER_MODE_WRITE, R603). -/
def execPowerModeWrite (o : Origin) (mode : BitVec 3) (s : State) : Host.Outcome State Fault Refusal :=
  .next (coreWrite sysWritten o A.SYS_PWR (mode.setWidth 32) s)

/-- A write of SYS_PWR.mode = 2 (HIBERNATE_ENTER, R605). -/
def execHibernateEnter (o : Origin) (s : State) : Host.Outcome State Fault Refusal :=
  .next (coreWrite sysWritten o A.SYS_PWR 2 s)

/-- A write of SYS_WDT0_KICK (WDT0_KICK, R46). -/
def execWdt0Kick (o : Origin) (key : Word) (s : State) : Host.Outcome State Fault Refusal :=
  .next (coreWrite sysWritten o A.SYS_WDT0_KICK key s)

/-- 400 ms without a kick (WDT0_WARN, R46). -/
def execWdt0Warn (s : State) : Host.Outcome State Fault Refusal := .next (wdt0Warn s)

/-- 500 ms without a kick (WDT0_EXPIRY, R46). -/
def execWdt0Expiry (s : State) : Host.Outcome State Fault Refusal := .next (wdt0Expire s)

/-- A write of SYS_WDT1_KICK (WDT1_KICK, R48). -/
def execWdt1Kick (o : Origin) (key : Word) (s : State) : Host.Outcome State Fault Refusal :=
  .next (coreWrite sysWritten o A.SYS_WDT1_KICK key s)

/-- The core 1 watchdog's period elapses (WDT1_EXPIRY, R48). -/
def execWdt1Expiry (s : State) : Host.Outcome State Fault Refusal := .next (wdt1Expire s)

end Sys2Proof.Machine
end

