-- ==== Sys2Proof/Machine/Upd.lean ====
section
/-!
DEFINITION. UPD (R552, R553): the jobs that hash and decrypt blocks of the bulk store, and the activation pulse.
-/

namespace Sys2Proof.Machine

def setUpd (x : UpdState) (s : State) : State := { s with upd := x }

/-- UPD's block index (R42). -/
def updIndex : Nat := 14

/-- The blocks a job covers. -/
def UpdJob.blocks (j : UpdJob) : Nat := (j.len + 4095) / 4096

/-- The job that the operand registers describe. -/
def updOperands (s : State) : UpdJob :=
  let slot := fld s R.UPD_JOB_slot
  { op := fld s R.UPD_JOB_op, part := fld s R.UPD_JOB_part, blk := fld s R.UPD_BLK_blk, len := fld s R.UPD_LEN_len,
    ctr := (List.range 4).flatMap (fun k => leBytes 4 (fld s (R.UPD_CTRk_c k))), slot,
    gen := (slotStore s slot).gen, key := (slotView s slot).key, aborted := false }

/-- Whether KVT refuses the job's slot as a command of op 0x01 would be (R500 results 1, 2 and 6). -/
def slotRefused (s : State) (slot : Nat) : Bool :=
  (startResult s { addr := 0, op := 0x01, slot, flags := 0, len := 16, src := 0x10000000, dst := 0x10000000,
                   aux := 0x10000000, aux2 := 0, gen := 0, key := [] }).isSome

/-- The result with which a job ends before its first block, if any. -/
def updStartResult (s : State) (j : UpdJob) : Option Nat :=
  if 5 < j.part ∨ j.len = 0 ∨ 67108864 < j.len ∨ partitionBlocks j.part < j.blk + j.blocks then some 1
  else if j.op = 1 ∧ j.slot < 16 then some 1
  else if j.op = 1 ∧ slotRefused s j.slot then some 3
  else none

/-- `UPD_GO.go`: a job starts where it may. -/
def updGo (s : State) : State :=
  if s.upd.job.isSome ∨ ¬ isSet s R.UPD_CTRL_run ∨ 2 ≤ fld s R.UPD_JOB_op then cfgErr s updIndex
  else blockStart (raise (setUpd { s.upd with job := some (updOperands s) } s) R.UPD_STAT_job) updIndex

/-- `UPD_GO.abort`. -/
def updAbort (s : State) : State := setUpd { s.upd with job := s.upd.job.map (fun (j : UpdJob) => { j with aborted := true }) } s

/-- Shows a digest in `UPD_DIG0`-`UPD_DIG7`. -/
def showDigest (d : List Byte) (s : State) : State := upTo 8 (fun k s => setFld s (R.UPD_DIGk_d k) (leAt d (4 * k) 4)) s

/-- Decrypts the first `n` blocks of a job in place; octets beyond its length are written as 0. -/
def updDecrypt (j : UpdJob) (n : Nat) (s : State) : State :=
  let m := min j.len (4096 * n)
  setBulkBytes s j.part j.blk 0 (padTo (4096 * n) (aesCtr j.key j.ctr (bulkBytes s j.part j.blk 0 m)))

/-- A job's end with result `r`; its digest is that of all its octets where it is done, and free where it is not. -/
def updEnd (r : Nat) (digest : List Byte) (s : State) : State :=
  let s := setFld (lower s R.UPD_STAT_job) R.UPD_STAT_res r
  let s := blockStop (setUpd { s.upd with job := none } s) updIndex
  let s := if r = 0 then showDigest digest s else
    let (v, s) := takeFree 256 s
    showDigest (leBytes 32 v) s
  let s := raise s R.UPD_IFLG_done
  if r = 0 then s else raise s R.UPD_IFLG_err

/-- The running job ends: `found` is what the store reports, `done` the blocks handled where an abort cuts it. -/
def updDone (found : StoreFind) (done : Nat) (s : State) : State :=
  match s.upd.job with
  | none => s
  | some j =>
    let part (n : Nat) (s : State) : State := if j.op = 1 then updDecrypt j (min n j.blocks) s else s
    match updStartResult s j with
    | some r => updEnd r [] s
    | none =>
      if j.aborted then updEnd 4 [] (part done s)
      else if j.op = 1 ∧ (slotStore s j.slot).gen ≠ j.gen then updEnd 3 [] (part done s)
      else match found, j.op with
        | .ecc i, _ => updEnd 2 [] (part i s)
        | .store i, 1 => updEnd 2 [] (part i s)
        | _, _ =>
          let d := sha256 (bulkBytes s j.part j.blk 0 j.len)
          updEnd 0 d (part j.blocks s)

/-- A pulse of route 4 (R553). -/
def updPulse (s : State) (lockd : Bool) : State :=
  if isSet s R.UPD_CTRL_arm then
    raise (bump (setBool (raise s R.UPD_ACT_fired) R.UPD_ACT_lockd lockd) R.UPD_ACT_count 1) R.UPD_IFLG_act
  else s

/-- What a write of a UPD register starts beside its fields. -/
def updWritten (_o : Origin) (a : Nat) (w : Word) (_old s : State) : State :=
  if a = A.UPD_GO then
    let s := if bit w.toNat 0 then updGo s else s
    if bit w.toNat 1 then updAbort s else s
  else s

/-! ### The commands -/

/-- `UPD_GO.go` with op 0 (UPD_HASH, R552). -/
def execUpdHash (o : Origin) (s : State) : Host.Outcome State Fault Refusal := .next (coreWrite updWritten o A.UPD_GO 1 s)

/-- `UPD_GO.go` with op 1 (UPD_DECRYPT, R552). -/
def execUpdDecrypt (o : Origin) (s : State) : Host.Outcome State Fault Refusal := .next (coreWrite updWritten o A.UPD_GO 1 s)

/-- `UPD_GO.abort` (UPD_ABORT, R552). -/
def execUpdAbort (o : Origin) (s : State) : Host.Outcome State Fault Refusal := .next (coreWrite updWritten o A.UPD_GO 2 s)

/-- A job ends (UPD_JOB_DONE, R552). -/
def execUpdJobDone (found : StoreFind) (done : Nat) (s : State) : Host.Outcome State Fault Refusal := .next (updDone found done s)

end Sys2Proof.Machine
end

