-- ==== Sys2Proof/Machine/Bus.lean ====
section
/-!
DEFINITION. The cores' access to the whole address map (R31-R36): the register plane block by block, and the memories.
-/

namespace Sys2Proof.Machine

/-- What a write starts beside its fields, by the block it reaches; BKD's writes wait to be carried (R585). -/
def planeWritten : WriteHook := fun o a w old s =>
  match blockIndex a with
  | 0 => sysWritten o a w old s
  | 1 => icuWritten o a w old s
  | 2 => ntbWritten o a w old s
  | 4 => pquWritten o a w old s
  | 5 => fbcWritten o a w old s
  | 6 => rfeWritten o a w old s
  | 7 => tteWritten o a w old s
  | 8 => kvtWritten o a w old s
  | 9 => mtrWritten o a w old s
  | 10 => lfeWritten o a w old s
  | 11 => sdcWritten o a w old s
  | 12 => evrWritten o a w old s
  | 13 => tknWritten o a w old s
  | 14 => updWritten o a w old s
  | 15 => bhnWritten o a w old s
  | 16 => iocWritten o a w old s
  | 17 => bscWritten o a w old s
  | _ => s

/-- What a block answers to a read and does with it. -/
def planeRead : ReadHook := fun o a v s =>
  match blockIndex a with
  | 0 => sysRead o a v s
  | 1 => icuRead o a v s
  | 2 => ntbRead o a v s
  | 3 => bkdRead o a v s
  | 4 => pquRead o a v s
  | 6 => rfeRead o a v s
  | 7 => tteRead o a v s
  | 8 => kvtRead o a v s
  | 9 => mtrRead o a v s
  | 10 => lfeRead o a v s
  | 11 => sdcRead o a v s
  | 12 => evrRead a v s
  | 13 => tknRead o a v s
  | 15 => bhnRead o a v s
  | _ => (v, s)

/-- Raises the W1C bits of the register at `a` that hardware sets in the clock of a write (R49). -/
def raiseFlags (a : Nat) (hw : Word) (s : State) : State :=
  match regAt a with
  | none => s
  | some r => r.fields.foldl (fun s fi =>
      match fi.ty with
      | .w1c => setFld s ⟨a, fi.lsb, fi.width⟩ (fld s ⟨a, fi.lsb, fi.width⟩ ||| bits hw.toNat fi.lsb fi.width)
      | _ => s) s

/-- A core's write to the plane; `hw` are the flags that hardware sets in the same clock, for the wake latches the inputs
that stand at their active level (R582). -/
def planeStore (o : Origin) (a : Nat) (w hw : Word) (s : State) : State :=
  if blockIndex a = 3 then raiseFlags a hw (bkdWrite o a w s)
  else if a = A.ICU_WLAT then coreWrite icuWritten o a (latchClearWord s hw w) s
  else raiseFlags a hw (coreWrite planeWritten o a w s)

/-- An access to the register plane as R31 and R32 let it pass: aligned words, no atomic operations. -/
def planeAccess (o : Origin) (op : MemOp) (size a : Nat) (v : Word) (s : State) : State :=
  if op ≠ .fetch ∧ a % accessSize op size ≠ 0 then setResult o .misaligned s
  else if accessSize op size ≠ 4 then setResult o .busError s
  else if isAtomic op then setResult o .accessFault s
  else if op = .store then planeStore o a v 0 s
  else coreRead planeRead [] o a s

/-- A core's access at any address. -/
def anyAccess (o : Origin) (op : MemOp) (size a : Nat) (v : Word) (found : EccFind) (s : State) : State :=
  if inPlane a then planeAccess o op size a v s else memAccess o op size a v found s

/-! ### The commands -/

/-- A core's write of a register (REGISTER_WRITE, R52). -/
def execRegisterWrite (o : Origin) (addr value hw : Word) (s : State) : Host.Outcome State Fault Refusal :=
  .next (planeStore o addr.toNat value hw s)

/-- A core's read of a register; `gained` is what hardware adds to its RC fields in the same clock (REGISTER_READ, R50). -/
def execRegisterRead (o : Origin) (addr : Word) (gained : List (Nat × Nat)) (s : State) : Host.Outcome State Fault Refusal :=
  .next (coreRead planeRead gained o addr.toNat s)

/-- A core's access at an address (MEMORY_ACCESS, R31). -/
def execMemoryAccess (o : Origin) (op : MemOp) (size : Nat) (addr value : Word) (found : EccFind) (s : State) :
    Host.Outcome State Fault Refusal :=
  .next (anyAccess o op size addr.toNat value found s)

end Sys2Proof.Machine
end

