-- ==== Sys2Proof/Machine/Coap.lean ====
section
/-!
DEFINITION. CoAP messages (RFC 7252, RFC 7959) as the dictionary uses them, and their way into a session's DTLS records
(R409-R412, R465).
-/

namespace Sys2Proof.Machine

/-- The nibble of an option's delta or length, with its extension. -/
def coapNibble (n : Nat) : Nat × List Byte :=
  if n < 13 then (n, []) else if n < 269 then (13, beBytes 1 (n - 13)) else (14, beBytes 2 (n - 269))

/-- Options in ascending order. -/
def coapOptions : Nat → List (Nat × List Byte) → List Byte
  | _, [] => []
  | prev, (n, v) :: t =>
    let d := coapNibble (n - prev)
    let l := coapNibble v.length
    beBytes 1 (16 * d.1 + l.1) ++ d.2 ++ l.2 ++ v ++ coapOptions n t

/-- An option's number value: no leading zero octets. -/
def coapUint (n : Nat) : List Byte := (beBytes 4 n).dropWhile (· == 0)

/-- A block option's value. -/
def coapBlock (b : Nat × Bool × Nat) : List Byte := coapUint (16 * b.1 + 8 * b2n b.2.1 + b.2.2)

/-- A message: type 0 CON, 1 NON, 2 ACK. -/
def coapBytes (type code mid : Nat) (token : List Byte) (opts : List (Nat × List Byte)) (payload : List Byte) : List Byte :=
  beBytes 1 (0x40 + 16 * type + token.length) ++ beBytes 1 code ++ beBytes 2 mid ++ token ++ coapOptions 0 opts ++
    (if payload = [] then [] else 0xFF :: payload)

/-- The port of BHN that serves a session's interface. -/
def sessionPort (s : State) (iface : Nat) : Option Nat :=
  match iface with
  | 1 => backhaulPort s
  | 2 => some 1
  | 3 => some 2
  | _ => none

/-- A client's address and port as a session's peer. -/
def coapPeer (peer : List Byte) (port : Nat) : List Byte := peer ++ beBytes 2 port

/-- Sends a message to a session's client. -/
def coapSend (id : Nat) (b : List Byte) (s : State) : State :=
  match sessionOf s id with
  | none => s
  | some x =>
    match sessionPort s x.iface with
    | none => s
    | some k =>
      let n := x.peer.length - 2
      sendDatagram k 17 (x.peer.take n) 5684 (beNat (x.peer.drop n)) 0 (Config.dtlsRecord id x.sent b) (putSession { x with sent := x.sent + 1 } s)

/-- One hexadecimal digit. -/
def hexDigit (n : Nat) : Char := ("0123456789abcdef".toList).getD n '0'

/-- `k` hexadecimal digits of `n`. -/
def hexText (k n : Nat) : String := String.ofList ((List.range k).map (fun i => hexDigit (n / 16 ^ (k - 1 - i) % 16)))

/-- The path of a dictionary element (R409). -/
def odPath (area obj el : Nat) : List String := ["od", hexText 1 area, hexText 4 obj, toString el]

/-- A client request that this module sends to another's dictionary (R546): GET 1, POST 2. -/
def relaySend (peer : List Byte) (code n area obj el : Nat) (payload : List Byte) (s : State) : State :=
  let opts := (odPath area obj el).map (fun t => (11, ascii t)) ++ (if payload = [] then [] else [(12, [42])])
  sendBackhaul peer 5684 0 (Config.dtlsRecord 0 n (coapBytes 0 code (n % 65536) [] opts payload)) s

end Sys2Proof.Machine
end

