-- ==== Sys2Proof/Machine/Images.lean ====
section
/-!
DEFINITION. Images (R528-R530): the header's fields, the places in the bulk store, and the boot record with its two copies
(R535-R538).
-/

namespace Sys2Proof.Machine

/-! ### The header (R528) -/

def imgKind (h : List Byte) : Nat := leAt h 6 1
def imgSub (h : List Byte) : Nat := leAt h 7 1
def imgHw (h : List Byte) : Nat := leAt h 8 2
def imgFlags (h : List Byte) : Nat := leAt h 12 2
def imgVersion (h : List Byte) : Nat := leAt h 16 4
def imgNewfloor (h : List Byte) : Nat := leAt h 20 4
def imgSize (h : List Byte) : Nat := leAt h 24 4
def imgSigner (h : List Byte) : Nat := leAt h 60 1
def imgSlot (h : List Byte) : Nat := leAt h 61 1
def imgTrial (h : List Byte) : Nat := leAt h 62 2
def imgCtr (h : List Byte) : List Byte := octets h 64 16
def imgDigest (h : List Byte) : List Byte := octets h 80 32
def imgPdigest (h : List Byte) : List Byte := octets h 112 32

/-- The label as a STR value. -/
def imgLabel (h : List Byte) : List Byte :=
  let l := (octets h 144 32).takeWhile (· != 0)
  leBytes 1 l.length ++ l

/-- Reason 1 of R534: the magic, the format, the reserved octets, `kind` and `sub`. -/
def imgFormOk (h : List Byte) : Bool :=
  let zeros (i n : Nat) : Bool := (octets h i n).all (· == 0)
  let k := imgKind h
  let f := imgFlags h
  h.length == 512 && octets h 0 4 == [0x58, 0x4E, 0x49, 0x4D] && leAt h 4 2 == 1 && 1 ≤ k && k ≤ 4 &&
    (if k = 3 then 1 ≤ imgSub h && imgSub h ≤ 3 else k == 4 || imgSub h == 0) && f < 8 && zeros 31 1 && zeros 176 272 &&
    (k != 4 || (zeros 10 2 && imgSlot h == 0)) && (bit f 1 || zeros 32 16) && (k == 1 || (k == 3 && imgSub h == 1) || zeros 14 2) &&
    (k ≤ 2 || zeros 20 4) && imgTrial h ≤ 10080 &&
    (if bit f 0 then k == 4 || (16 ≤ imgSlot h && imgSlot h ≤ 63) else imgSlot h == 0 && imgDigest h == imgPdigest h)

/-- Whether the signature verifies under the signer's slot (reason 2). -/
def imgSigned (s : State) (h : List Byte) : Bool :=
  let v := slotView s (imgSigner h)
  v.kind == 3 && ecdsaVerify v.key (sha256 (h.take 448)) (octets h 448 64)

/-- Whether the signer may sign the kind (R529). -/
def imgSignerOk (h : List Byte) : Bool :=
  let n := imgSigner h
  match imgKind h with
  | 1 => n == 9
  | 4 => 9 ≤ n && n ≤ 15
  | _ => 10 ≤ n && n ≤ 15

/-- Hardware type and revision (reason 4). -/
def imgFits (s : State) (h : List Byte) : Bool :=
  imgKind h == 4 || (imgHw h == 0x7A41 && leAt h 10 1 ≤ fld s R.SYS_ID_rev && fld s R.SYS_ID_rev ≤ leAt h 11 1)

/-- Unit and segment binding (reason 5). -/
def imgBound (s : State) (h : List Byte) : Bool :=
  (!bit (imgFlags h) 1 || octets h 32 16 == unitId) &&
    (!bit (imgFlags h) 2 || (leAt h 28 2 == odForceNat s 9 1 0 && leAt h 30 1 == odForceNat s 9 3 2)) &&
    (imgKind h != 1 || leAt h 14 1 == 1)

/-! ### The boot record (R537) -/

/-- The boot record's values: `trial` 0xFF where no bank is in trial. -/
structure Boot where
  bank : Nat := 0
  trial : Nat := 0xFF
  tries : Nat := 0
  failed : Bool := false
  floor1 : Nat := 0
  floor2 : Nat := 0
  armed : Nat := 0
  gen : Nat := 0
  deriving DecidableEq, Repr

/-- The octets of a copy of the boot record (their order is not given). -/
def bootBytes (b : Boot) : List Byte :=
  let x := leBytes 1 b.bank ++ leBytes 1 b.trial ++ leBytes 1 b.tries ++ leBytes 1 (b2n b.failed) ++ leBytes 4 b.floor1 ++
    leBytes 4 b.floor2 ++ leBytes 8 b.armed ++ List.replicate 36 0 ++ leBytes 4 b.gen
  x ++ leBytes 4 (crc32 x)

def bootCopy (s : State) (i : Nat) : Option Boot :=
  let b := memBytes s (0x20032000 + 64 * i) 64
  if leAt b 60 4 = crc32 (b.take 60) then
    some ⟨leAt b 0 1, leAt b 1 1, leAt b 2 1, leAt b 3 1 == 1, leAt b 4 4, leAt b 8 4, leAt b 12 8, leAt b 56 4⟩
  else none

/-- The boot record in force: the valid copy of the higher generation. -/
def bootRecord (s : State) : Boot :=
  match bootCopy s 0, bootCopy s 1 with
  | some a, some b => if a.gen < b.gen then b else a
  | some a, none => a
  | none, some b => b
  | none, none => {}

/-- Writes the boot record to the older copy (R400). -/
def bootWrite (b : Boot) (s : State) : State :=
  let gen := (bootRecord s).gen + 1
  let i : Nat := match bootCopy s 0, bootCopy s 1 with
    | some x, some y => if x.gen ≤ y.gen then 0 else 1
    | some _, none => 1
    | _, _ => 0
  setBytes s (0x20032000 + 64 * i) (bootBytes { b with gen := gen % 2 ^ 32 })

/-! ### Banks and places (R529, R535) -/

/-- The bank in force and the candidate bank. -/
def bankInForce (s : State) : Nat := (bootRecord s).bank % 2
def candidateBank (s : State) : Nat := 1 - bankInForce s

/-- Section 0 (resident firmware) or 1 (customer firmware) of a bank: its first block. -/
def sectionBlock (sec : Nat) : Nat := if sec = 0 then 0 else 12288

/-- Whether bank A still holds what the factory put there. -/
def bankFactory (s : State) (bank : Nat) : Bool := bank == 0 && s.bulk.all (fun p => 16384 ≤ p.1)

/-- The header of a section, and its payload. -/
def sectionHeader (s : State) (bank sec : Nat) : List Byte :=
  if bankFactory s bank ∧ sec = 0 then octets Config.factoryImage 0 512 else (bulkBlock s bank (sectionBlock sec)).take 512
def sectionPayload (s : State) (bank sec : Nat) : List Byte :=
  let n := imgSize (sectionHeader s bank sec)
  if bankFactory s bank ∧ sec = 0 then octets Config.factoryImage 512 n else bulkBytes s bank (sectionBlock sec + 1) 0 n

/-- Whether a bank holds a section. -/
def hasSection (s : State) (bank sec : Nat) : Bool :=
  let h := sectionHeader s bank sec
  octets h 0 4 == [0x58, 0x4E, 0x49, 0x4D] && imgKind h == sec + 1

/-- Whether a section's header and payload verify (R537). -/
def sectionVerifies (s : State) (bank sec : Nat) : Bool :=
  let h := sectionHeader s bank sec
  (bankFactory s bank && sec == 0) ||
    (hasSection s bank sec && imgSignerOk h && imgSigned s h && sha256 (sectionPayload s bank sec) == imgPdigest h)

/-- Whether a bank may be started: a resident firmware, and customer firmware that verifies where there is any. -/
def bankVerifies (s : State) (bank : Nat) : Bool :=
  sectionVerifies s bank 0 && (!hasSection s bank 1 || sectionVerifies s bank 1)

/-- The place of an image: partition, block of its header, blocks for its payload; `entry` is the library entry. -/
def imgPlace (s : State) (h : List Byte) (entry : Nat) : Nat × Nat × Nat :=
  match imgKind h, imgSub h with
  | 1, _ => (candidateBank s, 0, 12287)
  | 2, _ => (candidateBank s, 12288, 4095)
  | 3, 1 => (4, 0, 2047)
  | 3, 2 => (4, 2048, 4095)
  | 3, _ => (4, 6144, 15)
  | _, _ => (2, 4096 * entry, 4095)

def bankState (s : State) (bank : Nat) : Nat := natAt s.nv.upd.banks bank

def setUpdNv (x : UpdNv) (s : State) : State := { s with nv := { s.nv with upd := x } }

def setBankState (bank v : Nat) (s : State) : State := setUpdNv { s.nv.upd with banks := setAt s.nv.upd.banks bank v } s

/-- A settings item (1 bundle, 2 zone model, 3 profile) or library entry. -/
def itemAt (s : State) (i : Nat) : ImagePlace := sget (fun _ => {}) s.nv.upd.items i
def setItem (i : Nat) (v : ImagePlace) (s : State) : State :=
  setUpdNv { s.nv.upd with items := sput (fun _ => {}) s.nv.upd.items i v } s
def libraryAt (s : State) (i : Nat) : ImagePlace := sget (fun _ => {}) s.nv.upd.library i
def setLibrary (i : Nat) (v : ImagePlace) (s : State) : State :=
  setUpdNv { s.nv.upd with library := sput (fun _ => {}) s.nv.upd.library i v } s

/-- The header and the payload in clear of settings item `i`. -/
def itemBlock (i : Nat) : Nat := natAt [0, 0, 2048, 6144] i
def itemHeader (s : State) (i : Nat) : List Byte := (bulkBlock s 4 (itemBlock i)).take 512
def itemPayload (s : State) (i : Nat) : List Byte := bulkBytes s 4 (itemBlock i + 1) 0 (imgSize (itemHeader s i))

end Sys2Proof.Machine
end

