-- ==== Sys2Proof/Machine/DictValue.lean ====
section
/-!
DEFINITION. Values of the object dictionary (chapters 15 and 16): encodings (R392), ranges, what a version serves (R403, R404,
R417), and what every readable element reads as.
-/

namespace Sys2Proof.Machine

/-! ### Encodings (R392) -/

/-- One octet of UTF-8: continuation octets still due and the bounds of the next one; none once the text is malformed. -/
def utf8Step (st : Option (Nat × Nat × Nat)) (b : Byte) : Option (Nat × Nat × Nat) :=
  match st with
  | none => none
  | some (0, _, _) =>
    let x := b.toNat
    if x < 0x80 then some (0, 0, 0)
    else if 0xC2 ≤ x ∧ x ≤ 0xDF then some (1, 0x80, 0xBF)
    else if x = 0xE0 then some (2, 0xA0, 0xBF)
    else if x = 0xED then some (2, 0x80, 0x9F)
    else if 0xE1 ≤ x ∧ x ≤ 0xEF then some (2, 0x80, 0xBF)
    else if x = 0xF0 then some (3, 0x90, 0xBF)
    else if 0xF1 ≤ x ∧ x ≤ 0xF3 then some (3, 0x80, 0xBF)
    else if x = 0xF4 then some (3, 0x80, 0x8F)
    else none
  | some (k + 1, lo, hi) => if lo ≤ b.toNat ∧ b.toNat ≤ hi then some (k, 0x80, 0xBF) else none

/-- Whether octets are UTF-8. -/
def utf8Ok (b : List Byte) : Bool := (b.foldl utf8Step (some (0, 0, 0))).map (·.1) == some 0

/-- The encoded length of the value at the head of `b`. -/
def valueLen (t : OdType) (b : List Byte) : Nat :=
  match t with
  | .time => 12
  | .date => 4
  | .str _ => 1 + leAt b 0 1
  | .oct _ => 2 + leAt b 0 2
  | t => odWidth t

/-- Whether `b` is exactly one value of type `t`; otherwise it is refused as `type`. -/
def typeOk (t : OdType) (b : List Byte) : Bool :=
  b != [] && b.length == valueLen t b &&
    match t with
    | .bool => leNat b ≤ 1
    | .time => leAt b 8 4 ≤ 999999999
    | .date => dateOk (leAt b 0 2) (leAt b 2 1) (leAt b 3 1) 0 0 0
    | .str n => leAt b 0 1 ≤ n && utf8Ok (b.drop 1)
    | .oct n => leAt b 0 2 ≤ n
    | _ => true

/-- The number a value encodes. -/
def numberOf (t : OdType) (b : List Byte) : Int :=
  match t with
  | .i8 => signed 8 (leNat b)
  | .i16 => signed 16 (leNat b)
  | .i32 => signed 32 (leNat b)
  | .fix => signed 32 (leNat b)
  | .i64 => signed 64 (leNat b)
  | _ => (leNat b : Nat)

/-- Whether the catalogue's range takes a value of the element. -/
def rangeOk (e : OdElem) (b : List Byte) : Bool :=
  odWidth e.ty == 0 || (e.lo ≤ numberOf e.ty b && numberOf e.ty b ≤ e.hi) || e.extra.contains (numberOf e.ty b)

/-- The values of elements of types `ts` in a concatenation; none where it has not the sum of their lengths. -/
def splitValues : List OdType → List Byte → Option (List (List Byte))
  | [], b => if b = [] then some [] else none
  | t :: ts, b =>
    let n := valueLen t b
    if b.length < n ∨ n = 0 then none else (splitValues ts (b.drop n)).map (fun l => b.take n :: l)

/-- The value of a STR or an OCT. -/
def strVal (b : List Byte) : List Byte := leBytes 1 b.length ++ b
def octVal (b : List Byte) : List Byte := leBytes 2 b.length ++ b

/-! ### What a version serves (R403, R404, R417) -/

/-- The highest minor served of a major. -/
def minorServed (major : Nat) : Option Nat := if major = 1 then some 4 else if major = 0 then some 3 else none

/-- The version agreed for a client's. -/
def agreeVersion (major minor : Nat) : Option (Nat × Nat) := (minorServed major).map (fun m => (major, min minor m))

/-- Whether major 0 serves an element. -/
def majorZero (area obj el : Nat) : Bool :=
  match area with
  | 0 => 1 ≤ obj && obj ≤ 7
  | 1 => (1 ≤ obj && obj ≤ 4) || obj == 0xF00
  | 2 => 1 ≤ obj && obj ≤ 0x13
  | 4 => el ≤ 7 || (16 ≤ el && el ≤ 31)
  | 6 => (1 ≤ obj && obj ≤ 4) || (0x100 ≤ obj && obj ≤ 0x2FF) || (0x500 ≤ obj && obj ≤ 0x503)
  | 7 => 0x100 ≤ obj && obj ≤ 0x103 && 9 ≤ el && el ≤ 12
  | 14 => 1 ≤ obj && obj ≤ 3
  | _ => false

/-- Whether a version serves element `el`, `e` its row. -/
def versionServes (v : Nat × Nat) (area obj el : Nat) (e : OdElem) : Bool :=
  if v.1 = 0 then majorZero area obj el else e.minor ≤ v.2

/-- Whether a node has element `el` of its object: the channels it has not are no elements (R420). -/
def nodeHas (s : State) (a el : Nat) : Bool :=
  match nodeEntry s a with
  | some e => el < 16 || 80 ≤ el || (el - 16) / 16 < e.channels
  | none => false

/-- The elements of an object as a version serves it, none where there is no such object (R391, R404). -/
def odServed (s : State) (v : Nat × Nat) (area obj : Nat) : Option (List (Nat × OdElem)) :=
  match odObject area obj with
  | none => none
  | some es =>
    if area = 4 ∧ !isJoined s obj then none else
    let l := (es.zipIdx.map (fun (e, i) => (i, e))).filter (fun p => versionServes v area obj p.1 p.2 && (area != 4 || nodeHas s obj p.1))
    if l = [] then none else some l

/-! ### The recorder's window (R521) -/

def recordIntact (b : List Byte) : Bool := leAt b 60 4 == crc32 (b.take 60)

/-- Record number `q`, from the staging queue or from the bulk store. -/
def recordAt (s : State) (q : Nat) : List Byte :=
  match s.evr.staging.find? (fun r => r.seq == some q) with
  | some r => encodeRecord r
  | none => octets (bulkBlock s 6 (rollingAt q).1) (rollingAt q).2 64

/-- Up to `k` records from number `q` on. -/
def recordsFrom (s : State) (q : Nat) : Nat → List Byte
  | 0 => []
  | k + 1 => if evrSeq s ≤ q ∨ !recordIntact (recordAt s q) then [] else recordAt s q ++ recordsFrom s (q + 1) k

/-- Up to `k` foundation records from index `f` on. -/
def foundationFrom (s : State) (f : Nat) : Nat → List Byte
  | 0 => []
  | k + 1 =>
    let b := octets (bulkBlock s 6 (f / 64)) (64 * (f % 64)) 64
    if s.nv.fndCount ≤ f ∨ !recordIntact b then [] else b ++ foundationFrom s (f + 1) k

/-- The oldest rolling record kept (R518). -/
def oldestRecord (s : State) : Nat := 64 * (evrSeq s / 64 - 65535)

/-- C:0002 element 1 with the session's window at `q`. -/
def windowValue (s : State) (q : Nat) : List Byte :=
  octVal (if 2 ^ 63 ≤ q then foundationFrom s (q - 2 ^ 63) 64 else recordsFrom s (max q (oldestRecord s)) 64)

/-! ### Read-only elements, area by area -/

/-- The octets of a settings profile in force (R540). -/
def profileInForce (s : State) : List Byte := bulkBytes s 3 1 0 (imgSize ((bulkBlock s 3 0).take 512))

/-- Areas 0 and 1. -/
def roSystem (s : State) (x : Session) (area obj el : Nat) : List Byte :=
  let v := x.version.getD (0, 0)
  match area, obj with
  | 0, 0x0001 => leBytes 2 (fld s R.SYS_ID_type)
  | 0, 0x0002 => leBytes 1 (fld s R.SYS_ID_rev)
  | 0, 0x0003 => leBytes 4 (Config.uid el).toNat
  | 0, 0x0004 => imgLabel (sectionHeader s (bankInForce s) 0)
  | 0, 0x0005 => leBytes 1 (natAt [1, 4] el)
  | 0, 0x0006 => leBytes 1 (natAt [3, 1, 1, 1] el)
  | 0, 0x0007 => strVal (ascii "XN-S2048-LG-T")
  | 0, 0x0008 => if hasSection s (bankInForce s) 1 then imgLabel (sectionHeader s (bankInForce s) 1) else [0]
  | 0, _ => if el = 1 then leBytes 2 x.id else leBytes 1 (natAt [x.iface, 0, v.1, v.2] el)
  | _, 0x0002 => leBytes 8 (opTime s)
  | _, 0x0003 => leBytes 4 (pcycCount s)
  | _, 0x0004 => leBytes 2 (natAt [fld s R.IOC_MON_vin, fld s R.BKD_VBAK_mv, fld s R.IOC_MON_temp] el)
  | _, 0x0031 => leBytes 1 (fld s R.IOC_DIN_lvl)
  | _, _ => odGet s area obj el

/-- Areas 2 and 3. -/
def roTime (s : State) (area obj el : Nat) : List Byte :=
  match area, obj with
  | 2, 0x0001 => timeBytes (netSec s) s.ntb.ns
  | 2, 0x0002 => leBytes 1 (natAt [fld s R.NTB_STAT_tstate, b2n (timeLocked s), s.ntb.source] el)
  | 2, 0x0013 =>
    let off := localOffset s (netSec s)
    if el = 0 then timeBytes ((netSec s : Int) - utcDelta s + 60 * off).toNat s.ntb.ns else leBytes 2 (unsigned 16 off)
  | 2, _ =>
    let (y, m, d) := dateOf (calPos s / 32768 / 86400)
    if el = 0 then leBytes 2 y ++ leBytes 1 m ++ leBytes 1 d
    else if el = 1 then leBytes 4 (calPos s / 32768 % 86400) else leBytes 1 (fld s R.BKD_STAT_cal_inv)
  | 3, 0x0006 => leBytes 4 (fldRead s (if el = 0 then R.TTE_CHL_LO_m else R.TTE_CHL_HI_m))
  | 3, 0x0007 => leBytes 1 (beaconChan s el)
  | 3, 0x000D => octVal ((profileInForce s).take 256)
  | 3, 0x0010 =>
    if el = 2 then leBytes 2 (validNodes s).length
    else leBytes 1 (natAt [fld s R.RFE_BRANCH_ok, fld s R.RFE_TXOK_ok, 0, psduMax s] el)
  | 3, 0x0011 => leBytes 4 (dutyUsed s (el / 4) (el % 4))
  | _, _ => odGet s area obj el

/-- Area 4. -/
def roNode (s : State) (a el : Nat) : List Byte :=
  match nodeEntry s a with
  | none => []
  | some e =>
    let l := live s a
    let c := (el - 16) / 16
    match el with
    | 0 => octVal e.eui
    | 1 => leBytes 1 e.nkind
    | 2 => leBytes 1 e.version
    | 3 => leBytes 1 (if isSilent s a then 1 else if l.fb then 2 else 0)
    | 4 => leBytes 2 e.parent
    | 5 => leBytes 1 e.role
    | 6 =>
      let t := pathStart s (memNat s (nstAddr s a) 6)
      timeBytes (t / 1000000000) (t % 1000000000)
    | 7 => leBytes 1 l.fault
    | 14 => leBytes 1 l.slots
    | 80 => leBytes 8 l.energy
    | 86 => octVal l.answer
    | _ =>
      match (el - 16) % 16 with
      | 12 => leBytes 1 (settingsState s a 0x01 c)
      | 13 => leBytes 2 (sget (fun _ => 0) l.outs c)
      | 14 => leBytes 2 (sget (fun _ => 0) l.pwrs c)
      | 15 => leBytes 4 (natAt l.hours c)
      | _ => odGet s 4 a el

/-- The gain of element `k` in a survey's result (R256). -/
def surveyGain (s : State) (k : Nat) : List Byte :=
  leBytes 4 (match slook s.nodes.survey.gains k with
    | some g => unsigned 32 g
    | none => 0x80000000)

/-- Area 5. -/
def roLight (s : State) (obj el : Nat) : List Byte :=
  let f := zFile s.nv.zfile
  match obj with
  | 0x0002 => leBytes 1 (fld s (if el = 0 then R.LFE_CYC_kcode else R.LFE_CYC_nouter))
  | 0x0004 => match el with
    | 0 => padTo 12 f.made
    | 1 => strVal (f.label.takeWhile (· != 0))
    | 2 => leBytes 1 f.zones
    | _ => leBytes 1 s.zones.load
  | 0x0011 => match el with
    | 0 => leBytes 1 s.nodes.survey.state
    | 1 => leBytes 1 s.nodes.survey.zone
    | 2 => leBytes 1 s.nodes.survey.input
    | _ => surveyGain s (el - 3)
  | _ =>
    let z := obj - 0x1000
    let e := zoneEntry s z
    let flags := engNat s (zoneAddr z + 0x1C2) 1
    match el with
    | 0 => leBytes 1 (b2n e.en)
    | 5 => leBytes 1 e.pdiv
    | 6 => leBytes 2 e.gen
    | 7 => leBytes 4 (engNat s (zoneAddr z + 0x1C4) 4)
    | 8 => leBytes 1 (flags % 2)
    | 9 => leBytes 1 (if bit flags 2 then zoneCause s e else 0)
    | 10 => octVal (engBytes s (zoneAddr z + 0x180) 64)
    | 11 => octVal (engBytes s (zoneAddr z + 0x080) 128)
    | _ => leBytes 1 (natAt [0, e.n, e.m, e.p, e.q] el)

/-- Area 6. -/
def roSched (s : State) (obj el : Nat) : List Byte :=
  if obj = 5 then
    match sunInstant s (localDay s (netSec s)) (el == 0) with
    | some t => timeBytes t.toNat 0
    | none => timeBytes 0 0
  else if obj < 0x100 then
    let c := photocell s (obj - 0x10)
    if el = 2 then leBytes 2 (c.means.getLast?.getD 0) else leBytes 1 (b2n c.valid)
  else if obj < 0x500 then
    let x := sget (fun _ => (0xFF, 0)) s.sched.sets (obj - 0x400)
    leBytes 1 (if el = 1 then x.1 else x.2)
  else if obj = 0x510 then octVal ((s.nv.overrides.take 256).flatMap Override.entry)
  else
    let t := obj - 0x700
    if el = 3 then leBytes 1 (sget (fun _ => 0) s.sched.classes t) else leBytes 2 (sget (fun _ => 0) s.sched.rates t)

/-- The luminaire channels without a mapping (R324). -/
def unmappedChannels (s : State) : Nat :=
  let radio := (validNodes s).map (fun (a, e) => (List.range e.channels).countP (fun c =>
    odNat s 4 a (16 * c + 21) == 0xFF || odNat s 4 a (16 * c + 22) == 0xFF))
  let wired := (s.od.map (fun p => p.1 / 256)).dedup.countP (fun k =>
    let h := k % 0x10000 - 0x2000
    k / 0x10000 == 8 && 0x2000 ≤ k % 0x10000 && k % 0x10000 < 0x4000 && odNat s 8 (0x2000 + h) 0 == 1 &&
      (odNat s 8 (0x2000 + h) 9 == 0xFF || odNat s 8 (0x2000 + h) 10 == 0xFF))
  radio.sum + wired

/-- A value of MTR in `n` octets: kind, index and quantity as MTR_RD_SEL names them (R311). -/
def meterOctets (n kind i qty : Nat) (s : State) : List Byte × State :=
  let ((v, _, _), s) := meterValue (kind + 16 * i + 256 * qty) s
  (leBytes n (unsigned (8 * n) v), s)

/-- Area 7. -/
def roMeter (obj el : Nat) (s : State) : List Byte × State :=
  if obj = 2 then (leBytes 2 (min 65535 (unmappedChannels s)), s)
  else if obj = 4 then (leBytes 1 (if el = 0 then s.bal.check.result else s.bal.check.g), s)
  else if obj = 9 then (if el = 0 then (leBytes 1 (fld s R.MTR_STAT_load_res), s) else (leBytes 4 (fld s R.MTR_SAVE_seq), s))
  else if obj < 0x200 then
    let f := obj - 0x100
    match el with
    | 13 => meterOctets 8 2 f 0x12 s
    | 14 => meterOctets 4 2 f 0x16 s
    | 15 => meterOctets 4 2 f 0x17 s
    | 16 => (octVal ((slook s.bal.latest f).getD []), s)
    | 17 => (octVal (((s.nv.profile.filter (fun r => leAt r 12 1 % 4 == f)).getLast?).getD []), s)
    | _ => meterOctets 8 2 f (el - 9) s
  else if obj < 0x300 then
    let e := obj - 0x200
    match el with
    | 13 => meterOctets 4 1 e 0x10 s
    | 14 => meterOctets 4 1 e 0x11 s
    | 15 => meterOctets 8 1 e 0x12 s
    | 16 => meterOctets 4 1 e 0x15 s
    | _ => meterOctets 8 1 e (el - 9) s
  else (leBytes 1 (b2n (fldBit s (if el = 6 then R.MTR_OVR_ovr else R.MTR_FLT_stuck) (obj - 0x300))), s)

/-- Area 8. -/
def roSiding (s : State) (obj el : Nat) : List Byte :=
  if obj < 0x200 then leBytes 1 (b2n (fldBit s R.SDC_STAT_chflt (obj - 0x100)))
  else if obj < 0x300 then leBytes 2 (sdcWord s (sdcSetAddr ((obj - 0x200) / 8) ((obj - 0x200) % 8) + 12) % 65536)
  else if obj < 0x2000 then
    let a := sdcDevAddr ((obj - 0x1000) / 128) ((obj - 0x1000) % 128)
    match el with
    | 1 => leBytes 1 (sdcFld s a 0 8)
    | 2 => leBytes 2 (sdcFld s a 8 8)
    | 3 => leBytes 2 (sdcFld s a 16 16)
    | 4 => leBytes 2 (sdcFld s (a + 4) 0 16)
    | 5 => leBytes 2 (sdcFld s (a + 4) 16 16)
    | 6 => leBytes 2 (sdcFld s (a + 8) 0 16)
    | 7 => leBytes 2 (sdcFld s (a + 8) 16 16)
    | _ => leBytes 1 (sdcFld s (a + 12) 16 1)
  else
    let a := 16 * (obj - 0x2000) + 12
    if el = 11 then leBytes 1 (sdcFld s a 0 8) else leBytes 2 (sdcFld s a 22 10)

/-- The state of node security entry `i`: 0 empty, 1 key loaded, 2 joined (R429). -/
def securityState (s : State) (i : Nat) : Nat :=
  let eui := (odGet s 11 (0x2000 + i) 0).drop 2
  if eui.all (· == 0) then 0
  else if (shortOf s eui).isSome then 2
  else if (odGet s 11 (0x2000 + i) 1).length ≤ 2 then 0 else 1

/-- Areas 9 to B. -/
def roSecurity (s : State) (area obj el : Nat) : List Byte :=
  match area, obj with
  | 9, 0x0005 => match el with
    | 0 => leBytes 1 (role s)
    | 1 => leBytes 4 (fld s R.TKN_TOKEN_tok)
    | 2 => leBytes 1 (fld s R.TKN_STAT_hw)
    | 3 => leBytes 1 (fld s R.TKN_STAT_air)
    | 4 => leBytes 1 (fld s R.TKN_ROLE_ready)
    | _ => leBytes 1 (fld s R.TKN_STAT_sl_ok + 2 * fld s R.TKN_STAT_fb_ok)
  | 9, _ => leBytes 1 (fld s (if el = 0 then R.TKN_SL_adm else R.TKN_SL_keeper))
  | 10, _ => leBytes 1 (b2n (portLink s el))
  | _, 0x0001 => if el = 0 then leBytes 1 s.nv.epochNo else timeBytes s.nv.epochStart 0
  | _, 0x0003 => leBytes 1 (natAt [0, 1, 2, 1] (fld s R.KVT_STAT_vstate))
  | _, 0x0010 => octVal ((s.nv.cert.getD (Config.certificate 0)).take 1024)
  | _, _ => leBytes 1 (securityState s (obj - 0x2000))

/-- A fault's entry in E:0002. -/
def FaultEntry.octets8 (f : FaultEntry) : List Byte := leBytes 2 f.code ++ leBytes 2 f.source ++ leBytes 4 f.since

/-- The numbers of open and of short channels on the sidings (R353). -/
def loadFaults (s : State) (lsb : Nat) : Nat :=
  let pop (n : Nat) : Nat := (List.range 16).countP (fun i => bit n i)
  ((List.range 512).map (fun d => pop (sdcFld s (0x20000 + 16 * d + 4) lsb 16))).sum

/-- Areas C to E. -/
def roRecords (s : State) (x : Session) (area obj el : Nat) : List Byte :=
  match area, obj with
  | 12, 0x0001 => match el with
    | 0 => leBytes 8 (evrSeq s)
    | 1 => leBytes 8 (oldestRecord s)
    | 2 => leBytes 4 s.nv.fndCount
    | _ => leBytes 4 (fld s R.EVR_LOST_total)
  | 12, 0x0002 => if el = 0 then leBytes 8 x.window else windowValue s x.window
  | 12, _ => leBytes 4 (inFlight s).length
  | 13, 0x0001 => leBytes 1 (natAt [bankState s 0, bankState s 1, bankInForce s] el)
  | 13, 0x0004 => match el with
    | 0 => timeBytes s.nv.upd.act.at_ 0
    | 1 => leBytes 1 s.nv.upd.act.state
    | _ => leBytes 1 (b2n (timeLocked s))
  | 13, 0x0012 => match s.nodes.dist with
    | some d => match el with
      | 0 => leBytes 1 d.session
      | 1 => leBytes 1 d.pass
      | 2 => leBytes 2 d.targets.length
      | 3 => leBytes 2 (d.targets.filter (fun a => (live s a).image.any (fun i => i.1 == 2))).length
      | _ => leBytes 2 d.missed.length
    | none => leBytes (if el ≤ 1 then 1 else 2) 0
  | 13, _ => match el with
    | 0 => leBytes 1 s.upd.load.state
    | 1 => leBytes 4 s.upd.load.got
    | 2 => leBytes 1 s.upd.load.reason
    | _ => leBytes 1 s.upd.load.entry
  | _, 0x0001 => leBytes 2 (s.flt.list.length + s.flt.unlisted.length)
  | _, 0x0002 => octVal (s.flt.list.flatMap FaultEntry.octets8)
  | _, 0x0010 => leBytes 1 (min 255 (exclusions s el))
  | _, 0x0011 => leBytes 1 (b2n (s.bal.alarm.contains el))
  | _, 0x0012 => leBytes 1 (b2n ((hbPath s (el == 1)).up == some false))
  | _, 0x0013 => leBytes 2 s.tte.silentCount
  | _, 0x0014 => leBytes 2 (loadFaults s (16 * el))
  | _, _ => leBytes 1 (b2n (faultStands s (if el = 0 then 0x0503 else 0x0601)))

/-- What a readable element reads as in session `x`. -/
def elemValue (x : Session) (area obj el : Nat) (e : OdElem) (s : State) : List Byte × State :=
  if e.acc ≠ .ro ∧ !(area = 12 ∧ obj = 2) then (odGet s area obj el, s)
  else if area ≤ 1 then (roSystem s x area obj el, s)
  else if area ≤ 3 then (roTime s area obj el, s)
  else if area = 4 then (roNode s obj el, s)
  else if area = 5 then (roLight s obj el, s)
  else if area = 6 then (roSched s obj el, s)
  else if area = 7 then roMeter obj el s
  else if area = 8 then (roSiding s obj el, s)
  else if area ≤ 11 then (roSecurity s area obj el, s)
  else (roRecords s x area obj el, s)

/-! ### Result codes (R406) -/

def Res.ok : Nat := 0x00
def Res.pending : Nat := 0x01
def Res.partial_ : Nat := 0x02
def Res.noObject : Nat := 0x10
def Res.noElement : Nat := 0x11
def Res.access : Nat := 0x12
def Res.type : Nat := 0x13
def Res.range : Nat := 0x14
def Res.locked : Nat := 0x15
def Res.factory : Nat := 0x16
def Res.nodeVersion : Nat := 0x17
def Res.state : Nat := 0x18
def Res.conflict : Nat := 0x19
def Res.version : Nat := 0x1A
def Res.noSession : Nat := 0x1B
def Res.busy : Nat := 0x1C
def Res.aborted : Nat := 0x1D
def Res.tooLarge : Nat := 0x1E
def Res.storage : Nat := 0x20

/-- An answer: result, failing element (0xFF for none), value. -/
structure Answer where
  result : Nat
  el : Nat := 0xFF
  value : List Byte := []
  deriving DecidableEq, Repr

/-- Whether a result tells that a request was accepted. -/
def accepted (r : Nat) : Bool := r ≤ 0x02

/-- An element that a read answers with its value. -/
def OdElem.readable (e : OdElem) : Bool := e.acc != .cmd && e.acc != .wo

/-- The elements that a read of the whole object returns, one after the other. -/
def readAll (x : Session) (area obj : Nat) : List (Nat × OdElem) → State → List Byte × State
  | [], s => ([], s)
  | (i, e) :: t, s =>
    let (v, s) := elemValue x area obj i e s
    let (w, s) := readAll x area obj t s
    (v ++ w, s)

/-- A read of an element, or with 255 of the whole object (R391, R393, R415). -/
def odRead (x : Session) (area obj el : Nat) (s : State) : Answer × State :=
  match odServed s (x.version.getD (0, 0)) area obj with
  | none => ({ result := Res.noObject }, s)
  | some es =>
    if el = 255 then
      let rs := es.filter (fun p => p.2.readable)
      if rs = [] then ({ result := Res.access }, s) else
      let (v, s) := readAll x area obj rs s
      ({ result := Res.ok, value := v }, s)
    else match es.find? (fun p => p.1 == el) with
      | none => ({ result := Res.noElement, el }, s)
      | some (_, e) =>
        if !e.readable then ({ result := Res.access, el }, s) else
        let (v, s) := elemValue x area obj el e s
        ({ result := Res.ok, value := v }, s)

end Sys2Proof.Machine
end

