-- ==== Sys2Proof/Machine/DictStore.lean ====
section
/-!
DEFINITION. The format that settings bundles and snapshots share (R539), the snapshot of R540, and the pairing of FAC and UCAL
values (R394, R402).
-/

namespace Sys2Proof.Machine

/-- An entry of a bundle or a snapshot. -/
structure DictEntry where
  area : Nat
  obj : Nat
  el : Nat
  value : List Byte
  deriving DecidableEq, Repr

def DictEntry.key (e : DictEntry) : Nat := odKey e.area e.obj e.el

def DictEntry.octets (e : DictEntry) : List Byte :=
  leBytes 1 e.area ++ leBytes 2 e.obj ++ leBytes 1 e.el ++ leBytes 2 e.value.length ++ e.value

/-- A bundle's or snapshot's octets. -/
def bundleBytes (dmaj dmin sec ns : Nat) (es : List DictEntry) : List Byte :=
  let h := [0x58, 0x4E, 0x53, 0x42] ++ leBytes 2 1 ++ leBytes 1 dmaj ++ leBytes 1 dmin ++ leBytes 4 es.length ++ timeBytes sec ns
  let body := es.flatMap DictEntry.octets
  h ++ leBytes 4 (crc32 (h ++ body)) ++ List.replicate 4 0 ++ body

/-- `k` entries from the octets `get i n` reads at offset `off`. -/
def entriesAt (get : Nat → Nat → List Byte) (off : Nat) : Nat → List DictEntry
  | 0 => []
  | k + 1 =>
    let h := get off 6
    let n := leAt h 4 2
    ⟨leAt h 0 1, leAt h 1 2, leAt h 3 1, get (off + 6) n⟩ :: entriesAt get (off + 6 + n) k

/-- A bundle's entries, none where its form fails (R539): magic, format, length, CRC. -/
def bundleEntries (b : List Byte) : Option (List DictEntry) :=
  let n := leAt b 8 4
  let es := entriesAt (fun i k => octets b i k) 32 (min n (b.length / 6))
  let body := b.drop 32
  if b.take 4 = [0x58, 0x4E, 0x53, 0x42] ∧ leAt b 4 2 = 1 ∧ es.length = n ∧ es.flatMap DictEntry.octets = body ∧
      leAt b 24 4 = crc32 (b.take 24 ++ body) then some es else none

/-! ### The snapshot (R540) -/

def Catalog.all : List OdObject :=
  Catalog.areas0to2 ++ Catalog.area3 ++ Catalog.areas4to6 ++ [⟨6, 0x1000, 1, 1024, Catalog.targets⟩] ++ Catalog.area7 ++
    Catalog.area8 ++ Catalog.areas9toB ++ Catalog.areasCtoF

/-- The objects of a row: in area 4 those of the valid nodes. -/
def rowObjects (s : State) (r : OdObject) : List Nat :=
  if r.area = 4 then (validNodes s).map (·.1) else (List.range r.count).map (fun k => r.base + r.stride * k)

/-- Whether an element is kept in the cell store and restored to a factory value. -/
def OdElem.persistent (e : OdElem) : Bool := e.acc == .rwp || e.acc == .ucal

/-- Every RWP and UCAL element with its stored value. -/
def persistentEntries (s : State) : List DictEntry :=
  Catalog.all.flatMap (fun r => (rowObjects s r).flatMap (fun o => r.elems.zipIdx.filterMap (fun (e, i) =>
    if e.persistent ∧ (r.area ≠ 4 ∨ nodeHas s o i) then some ⟨r.area, o, i, odGet s r.area o i⟩ else none)))

/-- Writes entries as the snapshot in the previous half of partition 3. -/
def snapshotPut (es : List DictEntry) (s : State) : State :=
  let s := setBulkBytes s 3 4096 0 (bundleBytes 1 4 (netSec s) s.ntb.ns es)
  setUpdNv { s.nv.upd with snapshot := true } s

def snapshotEntries (s : State) : List DictEntry :=
  let get (i n : Nat) : List Byte := bulkBytes s 3 4096 i n
  entriesAt get 32 (leAt (get 8 4) 0 4)

/-- During a trial an accepted write of a persistent object reaches the snapshot too. -/
def snapshotWrite (area obj el : Nat) (v : List Byte) (s : State) : State :=
  if !s.nv.upd.snapshot then s else
  let es := snapshotEntries s
  if es.any (fun e => e.area == area && e.obj == obj && e.el == el) then
    snapshotPut (es.map (fun e => if e.area = area ∧ e.obj = obj ∧ e.el = el then { e with value := v } else e)) s
  else s

/-! ### Pairs of FAC and UCAL (R394) -/

/-- The UCAL element paired with a FAC element. -/
def pairedUcal (area obj el : Nat) : Option (Nat × Nat × Nat) :=
  if area ≠ 15 then none
  else if 0x20 ≤ obj ∧ obj < 0x30 then some (7, 0x300 + (obj - 0x20), el + 2)
  else if 0x40 ≤ obj ∧ obj < 0x4C then some (7, 0x200 + (obj - 0x40), el + 4)
  else if 0x60 ≤ obj ∧ obj < 0x62 then some (6, 0x10 + (obj - 0x60), el)
  else none

/-- The pairs of every FAC element. -/
def factoryPairs : List ((Nat × Nat × Nat) × (Nat × Nat × Nat)) :=
  Catalog.areasCtoF.flatMap (fun r => if r.area = 15 then (List.range r.count).flatMap (fun k =>
    r.elems.zipIdx.filterMap (fun (_, i) => (pairedUcal 15 (r.base + k) i).map (fun u => ((15, r.base + k, i), u)))) else [])

/-- Every RWP and UCAL element takes its factory value (R402). -/
def restoreValues (s : State) : State :=
  let s := { s with od := s.od.filter (fun p =>
    match odElem (p.1 / 0x1000000) (p.1 / 0x100 % 0x10000) (p.1 % 0x100) with
    | some e => !e.persistent
    | none => true) }
  factoryPairs.foldl (fun s (f, u) => odSet s u.1 u.2.1 u.2.2 (odGet s f.1 f.2.1 f.2.2)) s

end Sys2Proof.Machine
end

