-- ==== Sys2Proof/Machine/DictWrite.lean ====
section
/-!
DEFINITION. Writes of the object dictionary (R393-R399): the register fields that elements drive, the conditions of each object,
what a stored value changes, the change record, and the writes themselves.
-/

namespace Sys2Proof.Machine

/-! ### The fields that an element drives (the "Maps to" column of chapter 16) -/

/-- A field with bit `i` as the element's value has it. -/
def withBit (s : State) (f : Field) (i v : Nat) : Field × Nat := (f, putBits (fldRead s f) i 1 v)

/-- The register fields that an element drives, with the values that its stored value gives them. -/
def odFields (s : State) (area obj el : Nat) : List (Field × Nat) :=
  let v := odNat s area obj el
  match area with
  | 1 => if obj = 0x30 then [withBit s R.IOC_CTRL_ctc el v] else []
  | 2 => if obj = 5 then [(R.NTB_GUARD_us, v)] else if obj = 6 then [(R.NTB_HOLD_s, v)] else []
  | 3 => match obj with
    | 0x0004 => [(R.TTE_TIMING_guard, v)]
    | 0x0008 => [(if el = 0 then R.TTE_CFG_pwr else R.TTE_CFG_bcnpwr, v)]
    | 0x0009 => [(if el = 0 then R.TTE_SHARE_alrm else if el = 1 then R.TTE_SHARE_pres else R.TTE_SHARE_map, v)]
    | 0x000A => [(R.TTE_TIMING_silent_n, v)]
    | _ => []
  | 5 => if obj = 1 then [(R.LFE_CTRL_quiet, v)] else []
  | 6 =>
    let k := obj - 0x900
    if obj < 0x900 ∨ 0x908 ≤ obj then []
    else if el = 1 then [withBit s R.IOC_DIN_pol k v]
    else if el = 2 then [(if k < 4 then R.IOC_DINF0_ms k else R.IOC_DINF1_ms (k - 4), v)] else []
  | 7 =>
    if obj = 7 then [(R.MTR_CTRL_run, v)]
    else if obj = 8 then [(if el = 0 then R.MTR_CLK_div0 else if el = 1 then R.MTR_CLK_div1 else R.MTR_CLK_osr, v)]
    else if obj < 0x100 then []
    else if obj < 0x104 then
      let f := obj - 0x100
      match el with
      | 0 => [(R.FDf_CFG_en f, v)]
      | 1 => [(R.FDf_CFG_nen f, v)]
      | 2 => [(R.FDf_CFG_nin f, v)]
      | _ => []
    else if obj < 0x300 then
      let e := obj - 0x200
      match el with
      | 0 => [(R.ELe_CFG_vin e, v)]
      | 1 => [(R.ELe_CFG_iin e, v)]
      | 2 => [(R.ELe_CFG_fdr e, v)]
      | 3 => [(R.ELe_CFG_en e, v)]
      | 4 => [(R.ELe_VTRIM_g e, v)]
      | 5 => [(R.ELe_ITRIM_g e, v)]
      | 6 => [(R.ELe_TRIM2_ph e, v)]
      | 7 => [(R.ELe_TRIM2_creep e, v)]
      | _ => []
    else
      let k := obj - 0x300
      match el with
      | 0 => [withBit s R.MTR_IN_en k v]
      | 1 => [withBit s R.MTR_IN_cksel k v]
      | 2 => [(R.INk_OFF_off k, v)]
      | 3 => [(R.INk_GAIN_g k, v)]
      | 4 => [(R.INk_DLY_d k, v)]
      | 5 => [(R.INk_KFS_kfs k, v)]
      | _ => []
  | 8 =>
    let n := obj - 0x100
    if obj < 0x100 ∨ 0x104 ≤ obj then []
    else match el with
      | 0 => [(R.SDC_Cn_CFG_mode n, v)]
      | 1 => [(R.SDC_Cn_CFG_ndev n, v)]
      | 2 => [(R.SDC_Cn_CFG_ckdiv n, v)]
      | 3 => [(R.SDC_Cn_CFG_dly n, v)]
      | 4 => [(R.SDC_Cn_ROW_rows n, v)]
      | 5 => [(R.SDC_Cn_ROW_row_us n, v)]
      | 6 => [(R.SDC_Cn_BLK_toff n, v)]
      | 7 => [(R.SDC_Cn_BLK_ton n, v)]
      | 8 => [(R.SDC_Cn_DER_knee n, v)]
      | 9 => [(R.SDC_Cn_DER_slope n, v)]
      | 10 => [(R.SDC_Cn_DER_floor n, v)]
      | 11 => [(R.SDC_Cn_FB_fb_to n, v)]
      | 12 => [(R.SDC_Cn_FB_fb_code n, v)]
      | 13 => [withBit s R.SDC_CTRL_blank n v]
      | 14 => [withBit s R.SDC_CTRL_run n v]
      | _ => []
  | 9 => if obj = 4 then [(if el = 0 then R.TKN_HB_fbper else if el = 1 then R.TKN_HB_fb_to else R.TKN_HB_sl_to, v)] else []
  | 15 =>
    if obj = 0x10 then [(if el = 0 then R.RFE_RSSI_TRIM_a else R.RFE_RSSI_TRIM_b, v)]
    else if obj = 0x11 then [(if el = 0 then R.RFE_NFCAL_nf_a else R.RFE_NFCAL_nf_b, v)] else []
  | _ => []

/-- The timing code of a field. -/
def fieldWhen (f : Field) : When := ((fieldInfoAt f.addr f.lsb).map (·.timing)).getD .none

/-- A field whose refusal means that settings contradict each other: what makes a block or a siding run. -/
def startsBlock (f : Field) : Bool := f.addr == A.MTR_CTRL || f.addr == A.SDC_CTRL

/-- What stands against writing the fields one after the other, in a trial state (R397): `locked`, `range`, `conflict`. -/
def fieldsRefuse : List (Field × Nat) → State → Option Nat
  | [], _ => none
  | (f, v) :: t, s =>
    if fieldWhen f = .lock ∧ locked s f.addr f.lsb ∧ v ≠ fld s f then some 0x15 else
    let ad := admitField s firmware f.addr f.lsb v (wordWith s f v)
    if ad.err then some (if startsBlock f then 0x19 else 0x14) else fieldsRefuse t (setFld s f v)

/-- Whether writing a field now leaves it in its shadow. -/
def fieldShadows (s : State) (f : Field) : Bool :=
  match fieldWhen f with
  | .shadow _ => shadowing s f.addr
  | _ => false

/-! ### Conditions of the objects -/

/-- The siding that an object of area 8 belongs to. -/
def sidingOf (obj : Nat) : Nat :=
  if obj < 0x200 then obj - 0x100
  else if obj < 0x300 then (obj - 0x200) / 8
  else if obj < 0x1000 then (obj - 0x300) / 4
  else if obj < 0x2000 then (obj - 0x1000) / 128
  else (obj - 0x2000) / 2048

/-- psdu_max as the stored values of 3:0001-3:0004 give it (R419). -/
def psduWith (t : State) : Nat :=
  let plen := plenNs (odNat t 3 1 0)
  let guard := min (odNat t 3 4 0 * 10000) (plen / 10)
  let bit := if odNat t 3 2 0 = 1 then 10000 else 20000
  min 255 ((plen - 2 * guard - 290000) / (8 * bit) - odNat t 3 3 0 - 4)

/-- The DIN of a source code, with whether it is counted (R424). -/
def sourceDin (src : Nat) : Option (Nat × Bool) :=
  if 0x100 ≤ src ∧ src < 0x108 then some (src - 0x100, true)
  else if 0x110 ≤ src ∧ src < 0x118 then some (src - 0x110, false)
  else none

/-- Whether a point of a day plan has the values of R282. -/
def pointOk (b : List Byte) : Bool :=
  let ref := leAt b 2 1
  let t := signed 16 (leAt b 3 2)
  ref ≤ 4 && (if ref = 0 then decide (0 ≤ t ∧ t ≤ 1439) else decide (-720 ≤ t ∧ t ≤ 720)) && leAt b 5 1 ≤ 7 &&
    (ref ≤ 2 || leAt b 6 1 ≤ 1)

/-- The steps of a fallback value (R421): minute and level. -/
def fallbackList (b : List Byte) : List (Nat × Nat) :=
  (List.range ((b.length - 4) / 4)).map (fun i => (leAt b (4 + 4 * i) 2, leAt b (6 + 4 * i) 2))

def fallbackForm (b : List Byte) : Bool := 8 ≤ b.length && b.length ≤ 36 && b.length % 4 == 0

def fallbackOk (b : List Byte) : Bool :=
  let l := fallbackList b
  leAt b 2 2 ≤ 1000 && l.all (fun p => p.1 ≤ 1439 && p.2 ≤ 1000) && decide ((l.map (·.1)).Pairwise (· < ·))

/-- Whether a version 1 node has no command for the new value of an element (R420). -/
def nodeCannot (s : State) (a el : Nat) (v : List Byte) : Bool :=
  match nodeEntry s a with
  | none => false
  | some e =>
    let k := (el - 16) % 16
    let changed := v != odGet s 4 a el
    if 2 ≤ e.version then false
    else if el < 16 then changed && [9, 10, 12, 13, 15].contains el
    else (changed && [7, 9, 10].contains k) || (k == 11 && 4 < (fallbackList v).length)

/-- Whether an EUI-64 stands in another security entry. -/
def euiElsewhere (s : State) (i : Nat) (eui : List Byte) : Bool :=
  s.od.any (fun p => p.1 / 0x1000000 == 11 && p.1 % 0x100 == 0 && 0x2000 ≤ p.1 / 0x100 % 0x10000 &&
    p.1 / 0x100 % 0x10000 != 0x2000 + i && p.2.drop 2 == eui)

/-- What an object's own conditions say to a new value `v` of an element: `t` is the state with the whole write stored, `whole`
tells a write of the whole object (R399 step 1). -/
def odCondition (s t : State) (whole : Bool) (area obj el : Nat) (v : List Byte) : Option Nat :=
  let n := leNat v
  let when_ (bad : Bool) (r : Nat) : Option Nat := if bad then some r else none
  match area with
  | 1 => match obj with
    | 0x0021 => when_ (n &&& 0x7309 != 0x7309) Res.range
    | 0x0024 => when_ (n % 4 != 0 || 0x10200000 ≤ n || n < 0x10200000 - 0x10000 * odNat t 1 0x23 0) Res.range
    | 0x0025 => when_ (n &&& 0xF800F800 != 0) Res.range
    | 0x0026 => when_ (n &&& 0x00FF00FF != 0) Res.range
    | _ => none
  | 3 =>
    if obj ≤ 4 then when_ (psduWith t < 44) Res.range
    else if obj = 0xB then when_ (odNat t 3 0xB 0 == 0 && odNat t 3 0xB 1 == 0) Res.range
    else none
  | 4 =>
    let c := (el - 16) / 16
    let k := (el - 16) % 16
    if 11 ≤ el ∧ el ≤ 13 then when_ (match nodeEntry s obj with
      | some e => e.channels ≤ n
      | none => true) Res.range
    else if el < 16 then none
    else if k ≤ 1 then when_ (odNat t 4 obj (16 * c + 17) < odNat t 4 obj (16 * c + 16)) Res.range
    else if k = 11 then when_ (!fallbackOk v) Res.range
    else none
  | 5 =>
    if obj = 3 then when_ ((List.range 4).any (fun l =>
      laneBudget t (fld s R.LFE_CYC_kcode) < laneLoad s (zoneRecords s) (zoneLanes s) l)) Res.range
    else none
  | 6 =>
    if 0x200 ≤ obj ∧ obj < 0x210 then when_ (el != 0 && !pointOk v) Res.range
    else if 0x600 ≤ obj ∧ obj < 0x640 then
      let on := odNat s 6 obj 5 == 1
      let check := whole || (el == 5 && n == 1)
      if !whole && on && el ≤ 4 then some Res.state
      else when_ (check && el == 5 && (timeNs (odGet t 6 obj 1) ≤ timeNs (odGet t 6 obj 0) ||
        (odNat t 6 obj 3 == 0 && 7 < odNat t 6 obj 4))) Res.range
    else if 0x800 ≤ obj ∧ obj < 0x840 ∧ el = 0 then match sourceDin n with
      | some (k, count) => when_ (odNat s 6 (0x900 + k) 0 != (if count then 1 else 2)) Res.conflict
      | none => none
    else if 0x900 ≤ obj ∧ obj < 0x908 ∧ el = 0 then
      when_ (n == 3 && (sourceEntries s (0x100 + (obj - 0x900)) != [] || sourceEntries s (0x110 + (obj - 0x900)) != [])) Res.conflict
    else none
  | 8 =>
    let x := sidingOf obj
    if obj = 1 then when_ (v != odGet s 8 1 0 && (List.range 4).any (fun k => (sidingAt s k).runs && fld s (R.SDC_Cn_CFG_mode k) == 1)) Res.locked
    else if 0x1000 ≤ obj ∧ obj < 0x2000 then when_ (v != odGet s 8 obj 0 && (sidingAt s x).runs) Res.locked
    else if 0x2000 ≤ obj ∧ (el = 1 ∨ el = 2) then when_ (odNat t 8 obj 2 < odNat t 8 obj 1) Res.range
    else none
  | 11 =>
    let i := obj - 0x2000
    if securityState s i = 2 then some Res.state
    else if el = 0 then
      let eui := v.drop 2
      when_ (eui.any (· != 0) && (leAt eui 0 1 == 0xFE || euiElsewhere s i eui)) Res.conflict
    else when_ s.vault.rk.isNone Res.state
  | _ => none

/-- Octet strings that have one length only (R421, R429, R282). -/
def formOk (area obj el : Nat) (v : List Byte) : Bool :=
  match area with
  | 4 => el < 16 || (el - 16) % 16 != 11 || fallbackForm v
  | 6 => !(0x200 ≤ obj && obj < 0x210 && el != 0) || v.length == 9
  | 11 => v.length == (if el = 0 then 10 else 18)
  | _ => true

/-! ### What a stored value changes -/

/-- Writes of the node's commands that elements of area 4 ask for: code and slot or channel. -/
def nodeWants (el : Nat) : List (Nat × Nat) :=
  let c := (el - 16) / 16
  let k := (el - 16) % 16
  if 8 ≤ el ∧ el ≤ 13 then [(0x02, (el - 8) % 3 + 1)]
  else if el < 16 then []
  else if k ≤ 4 then [(0x01, c)]
  else if k = 7 then [(0x04, c)]
  else if k = 9 ∨ k = 10 then [(0x0B, c)]
  else if k = 11 then [(0x03, c)]
  else []

/-- Settings of a node follow a write of its elements `els`; `old` is the state before it (R420, R422, R228, R217, R134). -/
def nodeEffects (a : Nat) (els : List Nat) (old s : State) : State :=
  let wants := (els.flatMap nodeWants).dedup
  let s := wants.foldl (fun s (w : Nat × Nat) => if w.1 = 0x01 then envelopeBefore a w.2 s else s) s
  let s := wants.foldl (fun s (w : Nat × Nat) => wantSettings a w.1 w.2 s) s
  let s := if els.any (fun el => 16 ≤ el && 5 ≤ (el - 16) % 16 && (el - 16) % 16 ≤ 7) then
    headwayAll (nodeElements old a ++ nodeElements s a).dedup s else s
  if els.any (fun el => el == 15) then fastWrite a s else if els.any (fun el => 8 ≤ el && el ≤ 13) then fastRefresh s else s

/-- The places of the model's inputs that wired channel `h` takes. -/
def wiredPlaces (s : State) (h : Nat) : List (Nat × Nat) :=
  (zoneRecords s).flatMap (fun r => (r.inputs.zipIdx.filter (fun (i, _) => i.kind == 2 && i.wire == h)).map (fun p => (r.zone, p.2)))

/-- The envelope that a wired channel's settings hold. -/
def wiredEnvelope (s : State) (h : Nat) : Envelope :=
  ⟨odNat s 8 (0x2000 + h) 1, odNat s 8 (0x2000 + h) 2, odNat s 8 (0x2000 + h) 3, odNat s 8 (0x2000 + h) 4, odNat s 8 (0x2000 + h) 5 == 1⟩

/-- Settings of a wired channel follow a write (R428, R228, R217). -/
def wiredEffects (h : Nat) (els : List Nat) (old s : State) : State :=
  let place (t : State) : Nat × Nat := (odNat t 8 (0x2000 + h) 9, odNat t 8 (0x2000 + h) 10)
  let s := if els.any (fun el => 1 ≤ el && el ≤ 5) then
    (wiredPlaces s h).foldl (fun s p => setInputEnvelope p.1 p.2 (wiredEnvelope s h) s) s else s
  let s := channelApply h s
  if els.any (fun el => el == 6 || 9 ≤ el) then headwayAll [place old, place s].dedup s else s

/-- The other place of the join table in DRAM. -/
def joinTablePlace (s : State) : Nat := if 32 * fld s R.KVT_JT_addr = 0x84100000 then 0x84120000 else 0x84100000

/-- Builds the join table from the security entries and puts it in force (R491). -/
def joinTableWrite (s : State) : State :=
  let held := s.od.filterMap (fun p =>
    let obj := p.1 / 0x100 % 0x10000
    if p.1 / 0x1000000 = 11 ∧ p.1 % 0x100 = 0 ∧ 0x2000 ≤ obj then
      let eui := p.2.drop 2
      let key := (odGet s 11 obj 1).drop 2
      if eui.any (· != 0) ∧ key.length = 24 then some (beNat eui, eui ++ key) else none
    else none)
  let sorted := held.foldl (fun l (k, b) => sins l k b) []
  let base := joinTablePlace s
  let s := setBytes s base (sorted.flatMap (·.2))
  let s := fwWrite kvtWritten A.KVT_JT (wordWith s R.KVT_JT_addr (base / 32)) s
  fwWrite kvtWritten A.KVT_JT_N (wordWith s R.KVT_JT_N_n sorted.length) s

/-- A security entry after a write (R429): an emptied entry loses its key; a key is kept wrapped (R491). -/
def securityEffects (obj el : Nat) (v : List Byte) (s : State) : State :=
  let s :=
    if el = 0 then (if (v.drop 2).all (· == 0) then odSet s 11 obj 1 [0, 0] else s)
    else match s.vault.rk with
      | some k => odSet s 11 obj 1 (octVal (keyWrap (joinTableKey k) (v.drop 2)))
      | none => s
  joinTableWrite s

/-- The charger's settings go to the backup domain, in place of a write that waits (R585). -/
def chargerEffects (s : State) : State :=
  let s := setBkd { s.bkd with carry := s.bkd.carry.filter (fun c => c.addr != A.BKD_CHG) } s
  let w := wordWith s R.BKD_CHG_cur (odNat s 1 0x10 0)
  bkdWrite firmware A.BKD_CHG (BitVec.ofNat 32 (putBits w.toNat R.BKD_CHG_volt.lsb R.BKD_CHG_volt.width (odNat s 1 0x10 1))) s

/-- The chain frame comparator follows 8:0001 (R346). -/
def chainComparator (s : State) : State := let k := odNat s 8 1 0; cmpPath 4 k (k - 1) 5 s

/-- What a write of elements `els` of an object changes beside their fields, `old` being the state before it. -/
def odEffects (area obj : Nat) (els : List Nat) (vs : List (List Byte)) (old s : State) : State :=
  match area with
  | 1 => if obj = 0x10 then chargerEffects s else s
  | 2 => if obj = 3 ∨ 0x10 ≤ obj then schedEvaluate (toffUpdate s) else s
  | 3 => if obj = 0xC then groupCommand 0xFFFF 0x05 (leBytes 1 (odNat s 3 0xC 0) ++ leBytes 2 (odNat s 3 0xC 1)) s else s
  | 4 => nodeEffects obj els old s
  | 6 =>
    let k := obj - 0x900
    let s := if 0x900 ≤ obj ∧ obj < 0x908 then
      let s := dinShow s
      if odNat old 6 obj 0 = 3 ∨ odNat s 6 obj 0 = 3 then keySwitch k (odNat s 6 obj 0 == 3 && dinActive s k) s else s else s
    schedEvaluate s
  | 7 => if obj = 6 ∧ !busy s 9 then
      let s := fwField mtrWritten R.MTR_DI_min (odNat s 7 6 0) s
      cmpTime 2 (nextMultiple s (odNat s 7 6 0 * 60000000000)) (odNat s 7 6 0 * 60000000000) 3 s else s
  | 8 =>
    if obj = 1 then chainComparator s
    else if obj < 0x200 then s
    else if obj < 0x300 then coefApply (sidingOf obj) ((obj - 0x200) % 8) s
    else if obj < 0x1000 then matrixApply (sidingOf obj) ((obj - 0x300) % 4) s
    else if obj < 0x2000 then deviceApply (sidingOf obj) ((obj - 0x1000) % 128) s
    else wiredEffects (obj - 0x2000) els old s
  | 10 =>
    if obj = 0x12 ∨ obj = 0x13 then
      els.foldl (fun s el => setBhn { s.bhn with addrs := sdel s.bhn.addrs (2 * (obj - 0x12) + el) } s) s
    else s
  | 11 => (els.zip vs).foldl (fun s p => securityEffects obj p.1 p.2 s) s
  | _ => s

/-- Whether an accepted write of an element is answered `pending` (R397, R416, R422, R427, R428). -/
def odPending (s : State) (area obj el : Nat) (e : OdElem) : Bool :=
  match e.timing with
  | .restart => true
  | .activation => true
  | .hour => busy s 9
  | .shadow => match odFields s area obj el with
    | [] => if area = 8 then (sidingAt s (sidingOf obj)).runs else busy s 9
    | l => l.any (fun p => fieldShadows s p.1)
  | _ => area == 4 && nodeWants el != [] && ((nodeWants el).all (fun w => match nodeEntry s obj with
      | some n => hasCommand n.version w.1
      | none => false))

/-! ### The write (R399) -/

/-- What step 1 says to a new value of one element. -/
def odCheck (x : Session) (s t : State) (whole : Bool) (area obj el : Nat) (e : OdElem) (v : List Byte) : Option Nat :=
  if e.acc = .ro ∨ e.acc = .cmd then some Res.access
  else if e.acc = .fac ∧ !x.factory then some Res.factory
  else if area = 4 ∧ nodeCannot s obj el v then some Res.nodeVersion
  else if !typeOk e.ty v || !formOk area obj el v then some Res.type
  else if !rangeOk e v then some Res.range
  else match odCondition s t whole area obj el v with
    | some r => some r
    | none => fieldsRefuse (odFields t area obj el) s

/-- The first element that step 1 refuses, with its result. -/
def odChecks (x : Session) (s t : State) (whole : Bool) (area obj : Nat) : List ((Nat × OdElem) × List Byte) → Option (Nat × Nat)
  | [] => none
  | ((el, e), v) :: r => match odCheck x s t whole area obj el e v with
    | some c => some (c, el)
    | none => odChecks x s t whole area obj r

/-- Stores a value; an element that waits for the restart or an activation keeps its value in force (R416). -/
def odStore (area obj el : Nat) (e : OdElem) (v : List Byte) (s : State) : State :=
  let k := odKey area obj el
  let s := match e.timing with
    | .restart => if (slook s.odHeld k).isNone then { s with odHeld := sins s.odHeld k (odGet s area obj el) } else s
    | .activation => if (slook s.odHeld k).isNone then { s with odHeld := sins s.odHeld k (odGet s area obj el) } else s
    | _ => s
  odSet s area obj el v

/-- Writes the fields of an element. -/
def fieldsWrite (l : List (Field × Nat)) (s : State) : State := l.foldl (fun s p => fwField planeWritten p.1 p.2 s) s

/-- The values of a write go into effect: steps 2 and 3 of R399, and the UCAL value paired with a FAC one. -/
def odApply (area obj : Nat) (l : List ((Nat × OdElem) × List Byte)) (s : State) : State :=
  let old := s
  let s := l.foldl (fun s p => odStore area obj p.1.1 p.1.2 p.2 s) s
  let s := l.foldl (fun s p => fieldsWrite (odFields s area obj p.1.1) s) s
  let s := odEffects area obj (l.map (·.1.1)) (l.map (·.2)) old s
  let s := l.foldl (fun s p => match pairedUcal area obj p.1.1 with
    | some (a, o, e) => snapshotWrite a o e p.2 (fieldsWrite (odFields (odSet s a o e p.2) a o e) (odSet s a o e p.2))
    | none => s) s
  l.foldl (fun s p => if p.1.2.persistent then snapshotWrite area obj p.1.1 p.2 s else s) s

/-- A value of a record: 6 octets as encoded, or cut (R512). -/
def recordValue (secret : Bool) (v : List Byte) : Bool × List Byte :=
  if !secret && v.length ≤ 6 then (false, padTo 6 v)
  else (true, leBytes 2 (v.length % 65536) ++ leBytes 4 (if secret then 0 else crc32 v))

/-- The change record of a write (code 0x01) or a command (code 0x02) (R401, R512, R519). -/
def odRecord (x : Session) (code area obj el result : Nat) (secret : Bool) (old new : List Byte) (s : State) : State :=
  let (c0, v0) := if code = 2 then (false, List.replicate 6 0) else recordValue secret old
  let (c1, v1) := recordValue secret new
  let data := leBytes 1 area ++ leBytes 2 obj ++ leBytes 1 el ++ leBytes 1 result ++
    leBytes 1 (x.iface % 8 + 16 * b2n c0 + 32 * b2n c1) ++ leBytes 2 x.id ++ v0 ++ v1
  let fnd := x.factory || (area == 9 && obj ≤ 3) || (area == 1 && obj == 0xF00) || (area == 2 && obj == 4) ||
    (area == 7 && obj == 5) || (area == 11 && obj == 2)
  evrPost 0x20 code data fnd true false s

/-- The object write record of an accepted request for the twin (R387, R549); areas 9, E and F are each twin's own (R396). -/
def odStream (area obj el : Nat) (v : List Byte) (s : State) : State :=
  if area = 9 ∨ 14 ≤ area then s else streamPut 0x30 true (leBytes 1 area ++ leBytes 2 obj ++ leBytes 1 el ++ v) s

/-- The elements that a write addresses, with the values they take: a result where it fails. -/
def odTargets (es : List (Nat × OdElem)) (el : Nat) (v : List Byte) : Except Nat (List ((Nat × OdElem) × List Byte)) :=
  if el = 255 then
    let ts := es.filter (fun p => p.2.acc == .rw || p.2.acc == .rwp || p.2.acc == .ucal)
    if ts = [] then .error Res.access
    else match splitValues (ts.map (·.2.ty)) v with
      | some vs => .ok (ts.zip vs)
      | none => .error Res.type
  else match es.find? (fun p => p.1 == el) with
    | some p => .ok [(p, v)]
    | none => .error Res.noElement

/-- The answer of a write and what it leaves, without its record. -/
def odWriteCore (x : Session) (area obj el : Nat) (v : List Byte) (s : State) : Answer × State :=
  match odServed s (x.version.getD (0, 0)) area obj with
  | none => ({ result := Res.noObject }, s)
  | some es =>
    match odTargets es el v with
    | .error r => ({ result := r, el := if el = 255 then 0xFF else el }, s)
    | .ok l =>
      let t := l.foldl (fun t p => odSet t area obj p.1.1 p.2) s
      match odChecks x s t (el == 255) area obj l with
      | some (r, i) => ({ result := r, el := i }, s)
      | none =>
        if area = 12 ∧ obj = 2 then ({ result := Res.ok }, putSession { x with window := leNat v } s)
        else
          let pend := l.any (fun p => odPending s area obj p.1.1 p.1.2)
          ({ result := if pend then Res.pending else Res.ok }, odStream area obj el v (odApply area obj l s))

/-- Whether an object holds a value that no record shows (R512). -/
def odSecret (area obj el : Nat) : Bool := (area == 11 && 0x2000 ≤ obj && el != 0) || (area == 11 && obj == 4)

/-- The old value that a write's record carries. -/
def oldValue (x : Session) (area obj el : Nat) (s : State) : List Byte :=
  if odSecret area obj el then [] else
  if el = 255 then (((odServed s (x.version.getD (0, 0)) area obj).getD []).filter (fun p =>
    p.2.acc == .rw || p.2.acc == .rwp || p.2.acc == .ucal)).flatMap (fun p => odGet s area obj p.1)
  else if area = 12 then leBytes 8 x.window
  else odGet s area obj el

/-- A write of the dictionary with its record (R399, R401). -/
def odWrite (x : Session) (area obj el : Nat) (v : List Byte) (s : State) : Answer × State :=
  let old := oldValue x area obj el s
  let (a, s) := odWriteCore x area obj el v s
  (a, odRecord x 0x01 area obj el a.result (odSecret area obj el) old v s)

end Sys2Proof.Machine
end

