-- ==== Sys2Proof/Machine/Update.lean ====
section
/-!
DEFINITION. Image update by the resident firmware (chapter 21): loading (R531-R534), arming and activation (R542-R546), trial,
confirm and revert (R547, R548).
-/

namespace Sys2Proof.Machine

/-! ### Places -/

/-- The state of place `i`: 0 the candidate bank, 1-3 the settings items. -/
def placeState (s : State) (i : Nat) : Nat := if i = 0 then bankState s (candidateBank s) else (itemAt s i).state

def setPlaceState (i v : Nat) (s : State) : State :=
  if i = 0 then setBankState (candidateBank s) v s else setItem i { itemAt s i with state := v } s

/-- The place number of an image, none for a node image. -/
def placeIndex (h : List Byte) : Option Nat :=
  match imgKind h with
  | 3 => some (imgSub h)
  | 4 => none
  | _ => some 0

def setLoad (x : ImageLoad) (s : State) : State := setUpd { s.upd with load := x } s

/-- Sets the state of the place that the load in hand fills. -/
def loadPlace (v : Nat) (s : State) : State :=
  let x := s.upd.load
  match placeIndex x.header with
  | some 0 => setPlaceState 0 v s
  | some i => setItem i { state := v, sub := imgSub x.header, hw := imgHw x.header, iface := x.iface, session := x.session } s
  | none => setLibrary x.entry { state := v, sub := imgSub x.header, hw := imgHw x.header, iface := x.iface, session := x.session } s

/-- The library entry for a node image: the one that holds its `sub` and `hw`, else the lowest empty one. -/
def libraryEntry (s : State) (h : List Byte) : Option Nat :=
  let full (i : Nat) : Bool := let x := libraryAt s i; x.state != 0 && x.sub == imgSub h && x.hw == imgHw h
  match (List.range 32).find? full with
  | some i => some i
  | none => (List.range 32).find? (fun i => (libraryAt s i).state == 0)

/-- Whether a place may not be overwritten (reason 12). -/
def placeHeld (s : State) (h : List Byte) (entry : Nat) : Bool :=
  match placeIndex h with
  | some 0 =>
    let v := bankState s (candidateBank s)
    v == 3 || v == 4 || (v == 6 && (bankState s (bankInForce s) == 4 || (bootRecord s).trial != 0xFF))
  | some i => (itemAt s i).state == 3 || (match s.nv.upd.trial with
      | some t => t.items.contains i
      | none => false)
  | none => match s.nodes.dist with
    | some d => d.running && d.library == entry
    | none => false

/-- The reason that refuses an open (R534): 0 for none. -/
def openReason (s : State) (h : List Byte) : Nat :=
  let b := bootRecord s
  let entry := libraryEntry s h
  let (_, _, room) := imgPlace s h (entry.getD 0)
  if !imgFormOk h then 1
  else if !imgSigned s h then 2
  else if !imgSignerOk h then 3
  else if !imgFits s h then 4
  else if !imgBound s h then 5
  else if (imgKind h == 1 && imgVersion h < b.floor1) || (imgKind h == 2 && imgVersion h < b.floor2) then 6
  else if 4096 * room < imgSize h || (imgKind h == 4 && entry.isNone) then 7
  else if placeHeld s h (entry.getD 0) then 12
  else 0

/-- Copies section `sec` of the bank in force to the candidate bank where it verifies (R535). -/
def sectionCopy (sec : Nat) (s : State) : State :=
  let from_ := bankInForce s
  let blk := sectionBlock sec
  if hasSection s from_ sec && sectionVerifies s from_ sec then
    let h := padTo 4096 (sectionHeader s from_ sec)
    setBulkBytes (setBulk s (candidateBank s) blk h) (candidateBank s) (blk + 1) 0 (sectionPayload s from_ sec)
  else setBulk s (candidateBank s) blk []

/-- Refuses the load in hand with a reason (R533, R534). -/
def loadRefuse (reason : Nat) (s : State) : State :=
  post 0x0E 0x06 (leBytes 1 reason) (setLoad { s.upd.load with state := 4, reason } s)

/-- D:0020: opens or resumes a load (R532). -/
def loadOpen (v : List Byte) (s : State) : Nat × State :=
  let h := v.drop 2
  let x := s.upd.load
  if x.state = 1 then (if x.header = h then (Res.ok, s) else (Res.busy, s))
  else if x.state = 2 then (Res.busy, s)
  else
    let r := openReason s h
    if r ≠ 0 then (Res.range, loadRefuse r s) else
    let entry := (libraryEntry s h).getD 0
    let (part, blk, _) := imgPlace s h entry
    let v := placeState s 0
    let s := if imgKind h ≤ 2 ∧ v ≠ 1 ∧ v ≠ 2 then sectionCopy (if imgKind h = 1 then 1 else 0) s else s
    let s := setLoad { state := 1, header := h, entry := if imgKind h = 4 then entry else 0, at_ := s.now } s
    (Res.ok, loadPlace 1 (setBulk s part blk h))

/-- D:0021: a chunk at its offset (R532). -/
def loadData (v : List Byte) (s : State) : Nat × State :=
  let x := s.upd.load
  let off := leAt v 2 4
  let d := v.drop 6
  let (part, blk, _) := imgPlace s x.header x.entry
  if x.state ≠ 1 then (Res.state, s)
  else if d = [] then (Res.type, s)
  else if off + d.length ≤ x.got ∧ off < x.got then (Res.ok, setLoad { x with at_ := s.now } s)
  else if off ≠ x.got ∨ imgSize x.header < off + d.length then (Res.range, s)
  else (Res.ok, setLoad { x with got := x.got + d.length, at_ := s.now } (setBulkBytes s part (blk + 1) off d))

/-- The firmware starts the UPD job of the check in hand (R533). -/
def verifyStart (s : State) : State :=
  let x := s.upd.load
  if s.upd.job.isSome ∨ ¬ isSet s R.UPD_CTRL_run then setLoad { x with started := false } s else
  let (part, blk, _) := imgPlace s x.header x.entry
  let op := b2n (x.phase == 2)
  let put (a v : Nat) (s : State) : State := fwWrite updWritten a (BitVec.ofNat 32 v) s
  let s := put A.UPD_JOB (op + 256 * part + 65536 * (if op = 1 then imgSlot x.header else 0)) s
  let s := put A.UPD_LEN (imgSize x.header) (put A.UPD_BLK (blk + 1) s)
  let s := upTo 4 (fun k s => put (A.UPD_CTRk k) (leAt (imgCtr x.header) (4 * k) 4) s) s
  setLoad { s.upd.load with started := true } (put A.UPD_GO 1 s)

/-- D:0022: the checks begin once all octets have arrived. -/
def loadClose (x : Session) (s : State) : Nat × State :=
  let l := s.upd.load
  if l.state ≠ 1 then (Res.state, s)
  else if l.got < imgSize l.header then (Res.range, s)
  else (Res.pending, verifyStart (setLoad { l with state := 2, iface := x.iface, session := x.id, phase := 1, started := false } s))

/-- A load that is aborted leaves its place invalid. -/
def loadDrop (s : State) : State := setLoad {} (loadPlace 7 s)

/-- D:0024. -/
def loadAbort (s : State) : Nat × State := if s.upd.load.state = 1 then (Res.ok, loadDrop s) else (Res.state, s)

/-- 600 s without a data write. -/
def loadIdle (s : State) : State :=
  if s.upd.load.state = 1 ∧ s.upd.load.at_ + secTicks 600 ≤ s.now then loadDrop s else s

/-! ### The content check (R533 step 3) -/

/-- Whether entries stand in ascending address order without repeats. -/
def entriesOrdered (es : List DictEntry) : Bool := decide ((es.map DictEntry.key).Pairwise (· < ·))

/-- Step 1 of R399 for an entry, without the When check. -/
def entryOk (s : State) (v : Nat × Nat) (e : DictEntry) : Bool :=
  match (odServed s v e.area e.obj).bind (fun es => (es.find? (fun p => p.1 == e.el)).map (·.2)) with
  | none => false
  | some r =>
    typeOk r.ty e.value && formOk e.area e.obj e.el e.value && rangeOk r e.value && !(e.area == 4 && nodeCannot s e.obj e.el e.value) &&
      (match odCondition s (odSet s e.area e.obj e.el e.value) true e.area e.obj e.el e.value with
        | some c => c == Res.locked
        | none => true)

/-- Whether an entry names an RWP or UCAL element under a version. -/
def entryNamed (s : State) (v : Nat × Nat) (e : DictEntry) : Bool :=
  e.el != 255 && (match (odServed s v e.area e.obj).bind (fun es => (es.find? (fun p => p.1 == e.el)).map (·.2)) with
    | some r => r.persistent
    | none => false)

/-- A bundle's content (R539). -/
def bundleOk (s : State) (h b : List Byte) : Bool :=
  match bundleEntries b with
  | none => false
  | some es =>
    let v := (leAt b 6 1, leAt b 7 1)
    v == (leAt h 14 1, leAt h 15 1) && entriesOrdered es && es.all (entryNamed s v) &&
      (!(match minorServed v.1 with
        | some m => decide (v.2 ≤ m)
        | none => false) || es.all (entryOk s v))

/-- The cause that refuses a zone model file's content, what an activation arms left out (R533, R265). -/
def modelCause (s : State) (b : List Byte) : Nat :=
  let f := zFile b
  zoneFileCause s b f.plen f.kcode f.nouter (zoneLanes s)

/-- The band registers that a regional profile gives: R96. -/
def profileBandOk (b : List Byte) (k : Nat) : Bool :=
  let w (i j : Nat) : Nat := (Config.profileWord b i j).toNat
  let on (i : Nat) : Bool := bit (w i 0) (R.RFE_BANDb_EDGE_en i).lsb
  let lo (i : Nat) : Nat := bits (w i 0) (R.RFE_BANDb_EDGE_lo i).lsb (R.RFE_BANDb_EDGE_lo i).width
  let hi (i : Nat) : Nat := bits (w i 0) (R.RFE_BANDb_EDGE_hi i).lsb (R.RFE_BANDb_EDGE_hi i).width
  let duty := bits (w k 1) (R.RFE_BANDb_LIM_duty k).lsb (R.RFE_BANDb_LIM_duty k).width
  let rsv := bits (w k 2) (R.RFE_BANDb_RSV_rsv k).lsb (R.RFE_BANDb_RSV_rsv k).width
  let warn := bits (w k 2) (R.RFE_BANDb_RSV_warn k).lsb (R.RFE_BANDb_RSV_warn k).width
  decide (50 ≤ warn ∧ warn ≤ 100) && (!on k || (decide (lo k < hi k ∧ 1 ≤ duty ∧ duty ≤ 10000 ∧ rsv < duty) &&
    (List.range 4).all (fun j => j == k || !on j || hi k ≤ lo j || hi j ≤ lo k)))

/-- The channel list and the beacon channels of a regional profile: R109. -/
def profileChannels (b : List Byte) : List Nat :=
  (List.range 64).filter (fun k => bit (Config.profileWord b 4 (k / 32)).toNat (k % 32))

def profileBeacons (b : List Byte) : List Nat := (List.range 4).map (fun k => (Config.profileWord b 5 k).toNat % 64)

def profileOk (b : List Byte) : Bool :=
  (List.range 4).all (profileBandOk b) && 16 ≤ (profileChannels b).length &&
    (profileBeacons b).all (fun c => (profileChannels b).contains c)

/-- Whether the content of the load in hand passes; a zone model's cause becomes the load result of area 5. -/
def contentCheck (s : State) : Bool × State :=
  let x := s.upd.load
  let (part, blk, _) := imgPlace s x.header x.entry
  let b := bulkBytes s part (blk + 1) 0 (imgSize x.header)
  if imgKind x.header ≠ 3 then (true, s)
  else if imgSub x.header = 1 then (bundleOk s x.header b, s)
  else if imgSub x.header = 2 then
    let c := modelCause s b
    (c == 0, post 0x25 0x01 (leBytes 1 c) (setZones { s.zones with load := c } s))
  else (profileOk b, s)

/-- The load is stored, or refused for its content. -/
def loadFinish (s : State) : State :=
  let (ok, s) := contentCheck s
  if ok then loadPlace 2 (setLoad { s.upd.load with state := 3 } s) else loadRefuse 11 (loadPlace 7 s)

/-- The digest that UPD shows. -/
def shownDigest (s : State) : List Byte := (List.range 8).flatMap (fun k => leBytes 4 (fld s (R.UPD_DIGk_d k)))

/-- A UPD job of the checks has ended: the next check, or the end (R533). -/
def verifyStep (s : State) : State :=
  let x := s.upd.load
  let refuse (r : Nat) : State := loadRefuse r (loadPlace 7 s)
  let next (k : Nat) : State := verifyStart (setLoad { x with phase := k, started := false } s)
  if x.state ≠ 2 ∨ s.upd.job.isSome then s
  else if !x.started then verifyStart s
  else
    let r := fld s R.UPD_STAT_res
    if r = 3 then refuse 9
    else if r ≠ 0 then refuse 13
    else if x.phase = 1 then
      if shownDigest s ≠ imgDigest x.header then refuse 8
      else if bit (imgFlags x.header) 0 && imgKind x.header != 4 then next 2 else loadFinish s
    else if x.phase = 2 then next 3
    else if shownDigest s ≠ imgPdigest x.header then refuse 10 else loadFinish s

/-! ### Arming (R542, R545) -/

def setAct (a : Activation) (s : State) : State := setUpdNv { s.nv.upd with act := a } s
def setTrial (t : Option Trial) (s : State) : State := setUpdNv { s.nv.upd with trial := t } s

/-- The headers of items in place order. -/
def itemHeaders (s : State) (items : List Nat) : List (List Byte) :=
  items.flatMap (fun i => if i = 0 then ((List.range 2).filter (hasSection s (candidateBank s))).map (sectionHeader s (candidateBank s))
    else [itemHeader s i])

/-- Whether a candidate of 3:0001 differs from the path length in force. -/
def plenChanges (s : State) : Bool := odNat s 3 1 0 != fld s R.NTB_STAT_plen_act

/-- Arms every stored item for network second `t` (R542, R430). -/
def armItems (t : Nat) (s : State) : State :=
  let items := (List.range 4).filter (fun i => placeState s i == 2)
  let id := (sha256 (itemHeaders s items).flatten).take 8
  let (j, s) := journalWrite 3 0 0 (leBytes 6 t ++ id) s
  let s := items.foldl (fun s i => setPlaceState i 3 s) s
  let s := setAct { at_ := t, state := 1, items, identity := id, jseq := some j, armedAt := netSec s, plen := plenChanges s } s
  let s := bootWrite { bootRecord s with armed := t } s
  let s := fwField updWritten R.UPD_CTRL_arm 1 (cmpTime 3 (t * 1000000000) 0 4 s)
  post 0x0E 0x01 (leBytes 6 t) s

/-- D:0002, its argument a TIME. -/
def armCommand (v : List Byte) (s : State) : Nat × State :=
  let t := leAt v 0 8
  let model := placeState s 2 == 2
  let b := itemPayload s 2
  let fits := model && zoneFileCause s b (odNat s 3 1 0) (zFile b).kcode (zFile b).nouter (zoneLanes s) == 0
  if s.nv.upd.act.state = 1 then (Res.state, s)
  else if (plenChanges s && !fits) || (model && !fits) then (Res.state, s)
  else if leAt v 8 4 ≠ 0 ∨ t < netSec s + 60 ∨ (plenChanges s ∧ t * 1000000000 % 5120000000 ≠ 0) then (Res.range, s)
  else (Res.ok, armItems t s)

/-- An activation's armed items return to stored, and nothing of it waits any more. -/
def armedEnd (state : Nat) (s : State) : State :=
  let a := s.nv.upd.act
  let s := a.items.foldl (fun s i => if placeState s i = 3 then setPlaceState i 2 s else s) s
  let s := match a.jseq with
    | some j => journalRelease j s
    | none => s
  let s := fwField updWritten R.UPD_CTRL_arm 0 (cmpOff 3 s)
  bootWrite { bootRecord s with armed := 0 } (setAct { a with state, jseq := none } s)

/-- D:0003. -/
def disarmCommand (s : State) : Nat × State :=
  let a := s.nv.upd.act
  if a.state ≠ 1 ∨ (a.plen ∧ a.at_ * 1000000000 < netNs s + 5120000000) then (Res.state, s) else (Res.ok, armedEnd 0 s)

/-- The module restarts within a second. -/
def restartSoon (s : State) : State := { s with dict := { s.dict with restartAt := some (s.now + secTicks 1) } }

/-- A missed activation (R543); in a pair the standby leaves its trial bank (R550, R551). -/
def activationMissed (s : State) : State :=
  let firmware := isTwin s && s.nv.upd.act.items.contains 0
  let s := setUpd { s.upd with pair := 0 } s
  let s := if isTwin s ∧ role s = 2 then setFld (lower s R.TKN_ROLE_ho) R.TKN_ROLE_ho_bi 0 else s
  let s := streamPut 0x30 true ([13, 4, 0, 1, 3] : List Byte) (postFnd 0x0E 0x03 [] (armedEnd 3 s))
  if firmware ∧ role s = 1 ∧ (bootRecord s).trial ≠ 0xFF then
    let c := candidateBank s
    restartSoon (bootWrite { bootRecord s with trial := 0xFF, tries := 0 } (setBankState (1 - c) 5 (setBankState c 2 s)))
  else s

/-- The firmware writes the path length within the 5.12 s before its second, where NTB is locked then (R75, R543). -/
def activationPlen (s : State) : State :=
  let a := s.nv.upd.act
  let t := a.at_ * 1000000000
  if a.state = 1 ∧ a.plen ∧ !a.plenWritten ∧ t ≤ netNs s + 5120000000 ∧ netNs s < t ∧ s.pwr.started then
    if timeLocked s then setAct { a with plenWritten := true } (fwField ntbWritten R.NTB_PATHCFG_plen (odNat s 3 1 0) s)
    else activationMissed s
  else s

/-! ### Applying (R544) -/

/-- The fields that a regional profile drives, taking effect at the first path boundary (R96, R109, R111). -/
def profileWrite (b : List Byte) (s : State) : State :=
  let s := upTo 4 (fun k s => fwField planeWritten (R.RFE_BANDb_EDGE_en k) 0 s) s
  let put (a : Nat) (i j : Nat) (s : State) : State := fwWrite planeWritten a (Config.profileWord b i j) s
  let s := upTo 4 (fun k s => put (A.RFE_BANDb_EDGE k) k 0 (put (A.RFE_BANDb_RSV k) k 2 (put (A.RFE_BANDb_LIM k) k 1 s))) s
  let s := put A.TTE_CHL_HI 4 1 (put A.TTE_CHL_LO 4 0 s)
  let c (k : Nat) : Nat := natAt (profileBeacons b) k
  fwField planeWritten R.TTE_BCNCH_ch3 (c 3) (fwField planeWritten R.TTE_BCNCH_ch2 (c 2)
    (fwField planeWritten R.TTE_BCNCH_ch1 (c 1) (fwField planeWritten R.TTE_BCNCH_ch0 (c 0) s)))

/-- Copies the 16 blocks of a profile. -/
def profileMove (fromPart fromBlk blk : Nat) (s : State) : State :=
  upTo 16 (fun i s => setBulk s 3 (blk + i) (bulkBlock s fromPart (fromBlk + i))) s

/-- The dictionary session in whose name a bundle's entries are written. -/
def bundleSession (p : ImagePlace) (v : Nat × Nat) : Session :=
  { id := p.session, iface := p.iface, sid := 0, peer := [], version := some v, factory := false, usedAt := 0 }

/-- Whether an element takes effect only at a restart, or is locked while its block runs. -/
def entryRestarts (e : DictEntry) : Bool :=
  match odElem e.area e.obj e.el with
  | some r => r.timing == .restart || r.timing == .lock
  | none => false

/-- The entries of the bundle in its place. -/
def bundleList (s : State) : List DictEntry := (bundleEntries (itemPayload s 1)).getD []
def bundleVersion (s : State) : Nat × Nat := (leAt (itemPayload s 1) 6 1, leAt (itemPayload s 1) 7 1)

/-- Whether the armed items make the module restart (R544). -/
def activationRestarts (s : State) : Bool :=
  let items := s.nv.upd.act.items
  (items.contains 0 && (bootRecord s).trial == 0xFF) || (items.contains 1 && (bundleList s).any entryRestarts)

/-- Item `i` at T, `restart` telling whether the module restarts for it. -/
def itemApply (restart : Bool) (i : Nat) (s : State) : State :=
  match i with
  | 0 =>
    let c := candidateBank s
    let s := setBankState (bankInForce s) 6 (setBankState c 4 s)
    if (bootRecord s).trial = 0xFF then bootWrite { bootRecord s with trial := c, tries := 3, failed := false } s else s
  | 1 =>
    let p := itemAt s 1
    let s := if restart then (bundleList s).foldl (fun s e => odSet s e.area e.obj e.el e.value) s
      else (bundleList s).foldl (fun s e => (odWrite (bundleSession p (bundleVersion s)) e.area e.obj e.el e.value s).2) s
    setItem 1 {} s
  | 2 =>
    let b := itemPayload s 2
    let s := if restart then { s with nv := { s.nv with zfileOld := s.nv.zfile, zfile := b } } else setZones { s.zones with apply := some b } s
    setItem 2 {} s
  | _ => profileWrite (itemPayload s 3) (setItem 3 {} (profileMove 4 6144 0 (profileMove 3 0 8176 s)))

/-- The candidates of 3:0001-3:0003 come into force. -/
def candidatesApply (s : State) : State :=
  let s := { s with odHeld := s.odHeld.filter (fun p => !odWaits p.1) }
  let s := fwField planeWritten R.RFE_PHY_pre_len (odNat s 3 3 0) (fwField planeWritten R.RFE_PHY_rxrate (odNat s 3 2 0) s)
  fwField planeWritten R.TTE_CFG_fec (odNat s 3 2 1) s

/-- The trial window of headers in minutes: the smallest that is not 0, none where all are 0. -/
def trialWindow (hs : List (List Byte)) : Option Nat := ((hs.map imgTrial).filter (· != 0)).min?

/-- The activation is applied (R544); what it applies runs in trial (R547). -/
def activationApply (s : State) : State :=
  let a := s.nv.upd.act
  let hs := itemHeaders s a.items
  let restart := activationRestarts s
  let es := persistentEntries s
  let s := fwField updWritten R.UPD_CTRL_arm 0 s
  let s := postFnd 0x0E 0x02 [] (setAct { a with state := 2, jseq := none } s)
  let s := bootWrite { bootRecord s with armed := 0 } (candidatesApply s)
  if a.items = [] then (match a.jseq with
    | some j => journalRelease j s
    | none => s)
  else
    let s := snapshotPut es s
    let s := a.items.foldl (fun s i => itemApply restart i s) s
    let s := setTrial
      (some { at_ := a.at_, stop := (trialWindow hs).map (fun m => a.at_ + 60 * m), items := a.items,
              jseq := a.jseq, firmware := a.items.contains 0 }) s
    let s := streamPut 0x30 true ([13, 4, 0, 1, 2] : List Byte) s
    if restart ∧ s.upd.pair = 1 then meterSave s
    else if restart then restartSoon (meterSave s) else setUpd { s.upd with checkAt := some s.now } s

/-- The pulse of T has reached UPD: the activation is applied or missed (R543). -/
def activationJudge (s : State) : State :=
  let a := s.nv.upd.act
  if a.state ≠ 1 ∨ ¬ isSet s R.UPD_ACT_fired then s else
  let ok : Bool := if a.plen then a.plenWritten else
    isSet s R.UPD_ACT_lockd && !isSet s (R.CMPn_CST_skip 3) && fld s R.NTB_STAT_tstate == 2
  let ok := ok && !(isTwin s && role s == 2 && a.items.contains 0 && s.upd.pair != 1)
  let s := fwWrite updWritten A.UPD_ACT 1 s
  if ok then activationApply s else activationMissed s

/-! ### Confirm and revert (R548, R538, R541) -/

/-- The trial ends, its journal entry released and its snapshot dropped. -/
def trialEnd (s : State) : State :=
  let s := match s.nv.upd.trial.bind (·.jseq) with
    | some j => journalRelease j s
    | none => s
  setUpd { s.upd with checkAt := none } (setUpdNv { s.nv.upd with trial := none, snapshot := false } s)

/-- The floor that a confirmed bank's section asks for. -/
def floorOf (s : State) (bank sec : Nat) : Nat := if hasSection s bank sec then imgNewfloor (sectionHeader s bank sec) else 0

/-- The trial is confirmed. -/
def confirmTrial (s : State) : State :=
  match s.nv.upd.trial with
  | none => s
  | some t =>
    let b := bootRecord s
    let s := if t.firmware then
      let c := candidateBank s
      let s := setBankState (1 - c) 6 (setBankState c 5 s)
      bootWrite { b with bank := c, trial := 0xFF, tries := 0, failed := false, floor1 := max b.floor1 (floorOf s c 0),
                         floor2 := max b.floor2 (floorOf s c 1) } s
    else s
    postFnd 0x0E 0x04 [] (trialEnd s)

/-- The objects that a trial's bundle named return to the snapshot's values; after firmware every object does (R541). -/
def snapshotRestore (all : Bool) (s : State) : State :=
  let named := bundleList s
  (snapshotEntries s).foldl (fun s e =>
    if all ∨ named.any (fun n => n.key == e.key) then
      (if all then odSet s e.area e.obj e.el e.value
       else (odWrite (bundleSession {} (bundleVersion s)) e.area e.obj e.el e.value s).2)
    else s) s

/-- The trial is reverted; `bad` tells a failed start of the trial bank. -/
def revertTrial (bad : Bool) (s : State) : State :=
  match s.nv.upd.trial with
  | none => s
  | some t =>
    let c := candidateBank s
    let s := if t.items.contains 3 then profileWrite (bulkBytes s 3 8177 0 (imgSize ((bulkBlock s 3 8176).take 512))) (profileMove 3 8176 0 s) else s
    let s := if t.items.contains 2 then setZones { s.zones with apply := some s.nv.zfileOld } s else s
    let s := if s.nv.upd.snapshot ∧ (t.firmware ∨ t.items.contains 1) then snapshotRestore t.firmware s else s
    let s := postFnd 0x0E 0x05 [] (trialEnd s)
    if t.firmware then
      let s := setBankState (1 - c) 5 (setBankState c (if bad then 7 else 2) s)
      let s := bootWrite { bootRecord s with trial := 0xFF, tries := 0 } s
      if bad then s
      else if isTwin s ∧ role s = 2 ∧ !isSet s R.TKN_STAT_plost then setUpd { s.upd with pair := 2 } s
      else restartSoon s
    else s

/-- D:0005 and D:0006. -/
def confirmCommand (s : State) : Nat × State := if s.nv.upd.trial.isNone then (Res.state, s) else (Res.ok, confirmTrial s)
def revertCommand (s : State) : Nat × State := if s.nv.upd.trial.isNone then (Res.state, s) else (Res.ok, revertTrial false s)

/-- Whether the start checks pass (R547). -/
def startChecksPass (s : State) : Bool :=
  fld s R.KVT_STAT_vstate == 0 && (isSet s R.TTE_STAT_open || odForceNat s 9 1 0 == 0xFFFF) &&
    (s.fb.claim == 4 || s.bhn.inUse != 0 || portLink s 1 || portLink s 2) && !s.flt.escalated

/-- The start checks of a trial: passed, failed after 300 s, or not yet decided (R547). -/
def trialCheck (s : State) : State :=
  match s.nv.upd.trial, s.upd.checkAt with
  | some t, some c =>
    if startChecksPass s then
      if t.stop.isNone then confirmTrial s else setUpd { s.upd with checkAt := none } s
    else if c + secTicks 300 ≤ s.now then revertTrial false s
    else s
  | _, _ => s

/-- The trial window has ended. -/
def trialExpiry (s : State) : State :=
  match s.nv.upd.trial.bind (·.stop) with
  | some t => if t ≤ netSec s then revertTrial false s else s
  | none => s

/-- The standby of a pair restarts into its armed bank before T (R550). -/
def standbyRestart (s : State) : State :=
  let a := s.nv.upd.act
  if isTwin s ∧ role s = 1 ∧ a.state = 1 ∧ a.items.contains 0 ∧ (bootRecord s).trial = 0xFF ∧
      max (a.at_ - 300) (a.armedAt + 1) ≤ netSec s then
    let s := setBankState (candidateBank s) 4 s
    restartSoon (bootWrite { bootRecord s with trial := candidateBank s, tries := 3, failed := false } s)
  else s

/-! ### The relay of the terminus (R546) -/

/-- Relays a command of area D to the subscribers: one with a `SYS_UID0` argument reads it from the target first. -/
def relayAll (obj : Nat) (v : List Byte) (s : State) : State :=
  s.bhn.subs.foldl (fun s (x : Subscriber) =>
    if obj = 2 then relaySend x.peer 2 x.uid 13 obj 0 v s
    else relaySend x.peer 2 x.uid 13 obj 0 (leBytes 4 x.uid) (relaySend x.peer 1 x.uid 0 3 0 [] s)) s

/-- A command that the terminus relays: it is applied here too and answered `pending`. -/
def relayed (obj : Nat) (v : List Byte) (f : State → Nat × State) (s : State) : Nat × State :=
  if isTerminus s then (Res.pending, (f (relayAll obj v s)).2) else f s

/-! ### The firmware's rows -/

/-- The activation's second (ACTIVATION, R543). -/
def execActivation (s : State) : Host.Outcome State Fault Refusal := .next (activationJudge s)

/-- The start checks (TRIAL_START_CHECK, R547). -/
def execTrialStartCheck (s : State) : Host.Outcome State Fault Refusal := .next (trialCheck s)

/-- The trial window's end (TRIAL_EXPIRY, R547). -/
def execTrialExpiry (s : State) : Host.Outcome State Fault Refusal := .next (trialExpiry s)

/-- The standby's early restart (STANDBY_TRIAL_RESTART, R550). -/
def execStandbyTrialRestart (s : State) : Host.Outcome State Fault Refusal := .next (standbyRestart s)

/-- 600 s without load data (LOAD_IDLE_TIMEOUT, R532). -/
def execLoadIdleTimeout (s : State) : Host.Outcome State Fault Refusal := .next (loadIdle s)

/-- A check of a closed load has ended (LOAD_VERIFY_DONE, R533). -/
def execLoadVerifyDone (s : State) : Host.Outcome State Fault Refusal := .next (verifyStep s)

end Sys2Proof.Machine
end

