-- ==== Sys2Proof/Machine/Distribution.lean ====
section
/-!
DEFINITION. Node image distributions (R218-R222).
-/

namespace Sys2Proof.Machine

def setDist (d : Distribution) (s : State) : State := setNodes { s.nodes with dist := some d } s

/-- The file of library entry `i`: header and payload (R530). -/
def libraryFile (s : State) (i : Nat) : List Byte :=
  let h := (bulkBlock s 2 (4096 * i)).take 512
  h ++ bulkBytes s 2 (4096 * i + 1) 0 (imgSize h)

/-- The lanes that serve a target. -/
def distLanes (s : State) (d : Distribution) : List Nat :=
  lanesOfNodes ((validNodes s).filter (fun p => d.targets.contains p.1))

def distBlocks (d : Distribution) : Nat := (d.image.length + d.bsize - 1) / d.bsize

def distAnnounce (d : Distribution) : List Byte :=
  leBytes 1 1 ++ leBytes 1 d.session ++ leBytes 4 d.image.length ++ leBytes 1 d.bsize ++ leBytes 2 (distBlocks d) ++
    leBytes 4 d.version ++ leBytes 1 d.nkind ++ leBytes 2 d.hwvar ++ (sha256 d.image).take 8

def distBlock (d : Distribution) (k : Nat) : List Byte :=
  leBytes 1 2 ++ leBytes 1 d.session ++ leBytes 2 k ++ octets d.image (d.bsize * k) (min d.bsize (d.image.length - d.bsize * k))

def distPoll (d : Distribution) : List Byte := leBytes 1 3 ++ leBytes 1 d.session ++ leBytes 1 d.pass
def distActivate (d : Distribution) (at_ : Nat) : List Byte := leBytes 1 4 ++ leBytes 1 d.session ++ leBytes 6 at_
def distAbort (d : Distribution) : List Byte := leBytes 1 5 ++ leBytes 1 d.session

/-- Payloads that wait for every lane of the targets. -/
def distWants (s : State) (d : Distribution) (ps : List (List Byte)) : Distribution :=
  { d with queue := d.queue ++ (distLanes s d).flatMap (fun l => ps.map (fun p => (l, p))) }

/-- Hands up to `n` of a lane's payloads to its class 3 queue while they have room there. -/
def distLane (lane group : Nat) : Nat → List (Nat × List Byte) → State → List (Nat × List Byte) × State
  | 0, q, s => (q, s)
  | n + 1, q, s =>
    match q.find? (fun p => p.1 == lane) with
    | none => (q, s)
    | some p =>
      let (ok, s') := queueFrame 2 lane 0 (plainFrame 0x15 group p.2) s
      if ok then distLane lane group n (q.erase p) s' else (q, s)

/-- The frames that class 3 takes of each lane in one timetable (R220). -/
def distShare (s : State) : Nat := 60 * odNat s 13 0x0010 0 / 100

/-- Hands every lane its share; where the pass's poll leaves, its targets get their data cells. -/
def distFeed (p : Nat) (s : State) : State :=
  match s.nodes.dist with
  | none => s
  | some d =>
    let polls (q : List (Nat × List Byte)) : Bool := q.any (fun x => leAt x.2 0 1 == 3)
    let (q, s) := (List.range 4).foldl (fun (acc : List (Nat × List Byte) × State) l =>
      distLane l d.group (distShare acc.2) acc.1 acc.2) (d.queue, s)
    if polls d.queue && !polls q then
      d.targets.foldl (fun s a => if isJoined s a then assignData a s else s) (setDist { d with queue := q, polledAt := some p } s)
    else setDist { d with queue := q } s

/-- Starts a session: three announces, then the blocks in ascending order. -/
def distBegin (d : Distribution) (s : State) : State :=
  let s := d.targets.foldl (fun s a => setLive a { live s a with image := none } s) s
  let s := setNodes { s.nodes with session := d.session } s
  let s := distFeed (pathNow s) (setDist (distWants s d (List.replicate 3 (distAnnounce d))) s)
  match s.nodes.dist with
  | some d => setDist (distWants s d ((List.range (distBlocks d)).map (distBlock d))) s
  | none => s

/-- D:0011: library image, group. -/
def nodeDistribution (v : List Byte) (s : State) : Nat × State :=
  let i := leAt v 0 2
  let g := leAt v 2 2
  let p := libraryAt s i
  let b := psduMax s - 24
  let file := libraryFile s i
  let h := file.take 512
  let targets := ((groupMembers s g).filter (fun x => x.2.nkind == imgSub h)).map (·.1)
  if 31 < i ∨ ¬ (isGroup g ∨ g = 0xFFFF) then (Res.range, s)
  else if p.state ≠ 2 then (Res.state, s)
  else if s.nodes.dist.any (·.running) then (Res.busy, s)
  else if b = 0 ∨ 65535 * b < file.length then (Res.range, s)
  else (Res.ok, distBegin
    { session := s.nodes.session % 255 + 1, library := i, group := g, image := file, version := imgVersion h,
      nkind := imgSub h, hwvar := imgHw h, bsize := b, targets, pass := 0, queue := [], polledAt := none, running := true,
      missed := [], read := [], act := none } s)

/-- Records nodes as missed. -/
def distMiss (l : List Nat) (s : State) : State :=
  match s.nodes.dist with
  | some d =>
    let l := l.filter (fun a => !d.missed.contains a)
    l.foldl (fun s a => post 0x22 0x05 (leBytes 2 a ++ leBytes 1 d.session) s) (setDist { d with missed := d.missed ++ l } s)
  | none => s

/-- What a target has reported in the pass in hand. -/
def distReport (s : State) (d : Distribution) (a : Nat) : Option (Nat × List Nat) :=
  match (live s a).image with
  | some (st, pass, missing) => if pass = d.pass then some (st, missing) else none
  | none => none

/-- The targets whose last report says that they hold every block, or a state beyond it. -/
def distHolds (s : State) (a : Nat) : Bool := (live s a).image.any (fun i => decide (1 ≤ i.1))

/-- The passes end: the nodes that still miss blocks are recorded, and the rest are told when to switch. -/
def distActivation (d : Distribution) (s : State) : State :=
  let at_ := (pathNow s / 256 + 4) * 256
  let s := setDist (distWants s { d with act := some at_, polledAt := none } (List.replicate 3 (distActivate d at_))) s
  distMiss (d.targets.filter (fun a => !distHolds s a)) s

/-- A pass has ended, or its reports are in (R221). -/
def distPass (s : State) : State :=
  match s.nodes.dist with
  | none => s
  | some d =>
    if !d.running || d.act.isSome || !d.queue.isEmpty then s else
    match d.polledAt with
    | none =>
      let d := { d with pass := d.pass + 1 }
      setDist (distWants s d [distPoll d]) s
    | some q =>
      if !d.targets.all (fun a => (distReport s d a).isSome) && pathNow s / 256 < q / 256 + 2 then s
      else if d.targets.all (distHolds s) || 8 ≤ d.pass then distActivation d s
      else
        let wanted (k : Nat) : Bool := d.targets.any (fun a => (distReport s d a).any (fun r => r.1 == 0 && r.2.contains k))
        setDist (distWants s { d with polledAt := none } (((List.range (distBlocks d)).filter wanted).map (distBlock d))) s

/-- A session whose frames no longer fit ends, and a new one starts at the new size (R219). -/
def distResize (d : Distribution) (s : State) : State :=
  let b := psduMax s - 24
  let s := setDist (distWants s { d with queue := [] } [distAbort d]) s
  let s := distFeed (pathNow s) (post 0x22 (Config.code 3 0) (leBytes 1 d.session) s)
  if b = 0 ∨ 65535 * b < d.image.length then setDist { d with queue := [], running := false } s
  else distBegin
    { d with session := d.session % 255 + 1, bsize := b, pass := 0, queue := [], polledAt := none, missed := [],
             read := [], act := none } s

/-- The distribution at a path boundary. -/
def distBoundary (p : Nat) (s : State) : State :=
  match s.nodes.dist with
  | none => s
  | some d =>
    if !d.running || p % 256 ≠ 0 then s
    else if psduMax s < d.bsize + 24 && d.act.isNone then distResize d s
    else
      let s := distFeed p s
      if d.act.any (· ≤ p) then
        let s := distMiss (d.targets.filter (fun a => !(live s a).image.any (fun i => i.1 == 2))) s
        match s.nodes.dist with
        | some d => setDist { d with running := false } s
        | none => s
      else s

/-- DISTRIBUTION_PASS_END. -/
def execDistributionPassEnd (s : State) : Host.Outcome State Fault Refusal := .next (distPass s)

/-! ### The journal's replay (R562-R565) -/

/-- The entries in flight in ascending `jseq`, each with the bodies that continue it (R523, R562). -/
def replayEntries (s : State) : List JEntry :=
  let es := inFlight s
  let body (e : JEntry) : List Byte :=
    let rec go : Nat → JEntry → List Byte
      | 0, e => e.body
      | n + 1, e => if e.flags % 2 = 1 then
          match es.find? (fun x => x.jseq == e.jseq + 1) with
          | some x => e.body ++ go n x
          | none => e.body
        else e.body
    go es.length e
  let continues (e : JEntry) : Bool := es.any (fun x => x.jseq + 1 == e.jseq && x.flags % 2 == 1)
  let heads := es.filter (fun e => !continues e)
  (heads.foldl (fun (l : List JEntry) e => l.takeWhile (fun x => x.jseq < e.jseq) ++ e :: l.dropWhile (fun x => x.jseq < e.jseq)) []).map
    (fun e => { e with body := body e })

/-- A unicast command goes out again with its sequence and a fresh count of sends. -/
def replayCommand (e : JEntry) (s : State) : State :=
  let a := e.who
  let code := leAt e.body 0 1
  match nodeEntry s a with
  | some x =>
    if x.released then
      journalRelease e.jseq (post 0x22 0x01 (leBytes 2 a ++ leBytes 2 e.cseq ++ leBytes 1 code) s)
    else if (live s a).cmd.isSome then s
    else
      let idx := if slotCode code 1 || chanCode code then leAt e.body 3 1 else 0
      let c : NodeCmd := { code, idx, body := e.body.drop 3, seq := e.cseq, sends := 0, sentPath := 0, jseq := e.jseq }
      let s := setSettings a code idx 1 (setLive a { live s a with cmd := some c } s)
      if x.battery then s else sendCommand a x c s
  | none => journalRelease e.jseq (post 0x22 0x01 (leBytes 2 a ++ leBytes 2 e.cseq ++ leBytes 1 code) s)

/-- The repeats of a group command go out again. -/
def replayGroup (e : JEntry) (s : State) : State :=
  if s.nodes.groups.any (fun g => g.jseq == e.jseq) then s else
  groupStep (s.nodes.groups.length + 1) (setNodes { s.nodes with groups := s.nodes.groups ++
    [{ group := e.who, body := e.body, lanes := lanesOfNodes (groupMembers s e.who), jseq := e.jseq }] } s)

/-- An activation: armed again while its second is ahead, missed where no trial of it runs. -/
def replayActivation (e : JEntry) (s : State) : State :=
  let t := leAt e.body 0 6
  let a := s.nv.upd.act
  if a.identity ≠ octets e.body 6 8 ∨ a.at_ ≠ t then journalRelease e.jseq s
  else if netSec s < t ∧ a.state = 1 then fwField updWritten R.UPD_CTRL_arm 1 (cmpTime 3 (t * 1000000000) 0 4 s)
  else if s.nv.upd.trial.any (fun x => x.at_ == t) then s
  else if a.state = 1 then activationMissed s
  else journalRelease e.jseq s

/-- The entries in flight are replayed, once TTE has opened paths on the active module. -/
def journalReplay (s : State) : State :=
  if !s.nodes.replay || !isActive s || !isSet s R.TTE_STAT_open then s else
  let es := replayEntries s
  let s := post 0x0C 0x05 (leBytes 2 es.length) (setNodes { s.nodes with replay := false } s)
  es.foldl (fun s e => match e.kind with
    | 1 => replayCommand e s
    | 2 => replayGroup e s
    | 3 => replayActivation e s
    | _ => s) s

/-- The next unicast sequence of every node after a start or a takeover (R564). -/
def nextSequences (s : State) : State :=
  let es := (journalAll s).filter (fun e => e.kind == 1)
  { s with nv := { s.nv with nodes := s.nv.nodes.map (fun p =>
      (p.1, match ((es.filter (fun e => e.who == p.1)).map (·.cseq)).max? with
        | some m => { p.2 with seq := if p.2.seq ≤ (m + 1) % 65536 then (m + 1) % 65536 else p.2.seq }
        | none => p.2)) } }

/-- JOURNAL_REPLAY. -/
def execJournalReplay (s : State) : Host.Outcome State Fault Refusal := .next (journalReplay s)

end Sys2Proof.Machine
end

