-- ==== Sys2Proof/Machine/Twins.lean ====
section
/-!
DEFINITION. The resident firmware's part in twins: the start rule, becoming active and standby, yielding, takeover, the
stream's snapshots, handovers (R369-R376, R386-R390), and the pair's side of an update (R550, R551).
-/

namespace Sys2Proof.Machine

/-! ### Roles -/

/-- Whether the partner is heard as the active module. -/
def partnerActive (s : State) : Bool :=
  !isSet s R.TKN_STAT_plost && (match partnerHb s with
    | some h => h.role == 2
    | none => false)

/-- Whether the partner is heard ready. -/
def partnerReady (s : State) : Bool :=
  !isSet s R.TKN_STAT_plost && (match partnerHb s with
    | some h => h.ready
    | none => false)

/-- TTE stops, takes `follow`, and opens again where nothing stands against it (R376 step 2). -/
def tteReopen (follow : Bool) (s : State) : State :=
  let s := tteHalt (lower s R.TTE_CTRL_run)
  let s := setBool s R.TTE_CTRL_follow follow
  fwWrite tteWritten A.TTE_CTRL (BitVec.ofNat 32 ((wordWith s R.TTE_CTRL_run 1).toNat ||| (if mayOpenPaths s then 0x10 else 0))) s

/-- A new stream begins, or a standby waits for its partner's. -/
def streamReset (s : State) : State :=
  let t := { s.tkn with stream := [], base := s.tkn.sseq, sent := s.tkn.sseq, ack := s.tkn.sseq, ackAt := s.now, rx := [] }
  setTkn { t with synced := false, wantSnap := true, skipped := 0, essential := false, gapAt := none, items := [] } s

/-- The module becomes standby: it follows its partner on air and drives nothing (R139, R373, R389). -/
def becomeStandby (s : State) : State :=
  let s := setFld (lower (lower (setFld s R.TKN_ROLE_role 1) R.TKN_ROLE_ready) R.TKN_ROLE_ho) R.TKN_ROLE_ho_bi 0
  let s := fwField tknWritten R.TKN_CTRL_arm 0 (fwField tknWritten R.TKN_AIR_en 0 s)
  let s := fwField lfeWritten R.LFE_CTRL_run 0 (cmpOff 0 s)
  let s := fwField rfeWritten R.RFE_CTRL_mode 1 (fwField rfeWritten R.RFE_CTRL_txen 0 s)
  let s := streamReset (tteReopen true s)
  setTkn { s.tkn with roleAt := s.now, waiting := false, split := false, handover := false, switched := none, keptItems := [] } s

/-- The token is raised: to the cell store with the side, and only then to TKN (R369). -/
def raiseToken (s : State) : State :=
  let t := highToken s + 1
  -- the ceilings of the new token first (R498): its counters start at 1
  let s := upTo 3 (fun c s => setFld { s with nv := { s.nv with ceil := sput (fun _ => 0) s.nv.ceil c 4097 } } (R.KVT_CTXc_NCEIL_ceil c) 4097) s
  fwField tknWritten R.TKN_TOKEN_tok t (setBytes s 0x20028000 (leBytes 4 t ++ leBytes 4 (ownSide s)))

/-- The module becomes active: token and air grant from the next beacon interval on (R369). -/
def becomeActive (s : State) : State :=
  let s := setFld (fwField tknWritten R.TKN_AIR_en 1 (raiseToken s)) R.TKN_ROLE_role 2
  let s := streamReset s
  setTkn { s.tkn with roleAt := s.now, waiting := false } s

/-- The radio transmits from the next boundary on. -/
def radioActive (s : State) : State := fwField rfeWritten R.RFE_CTRL_txen 1 (fwField rfeWritten R.RFE_CTRL_mode 2 s)

/-- An active module that has lost its ownership becomes standby (R373). -/
def lostStandby (s : State) : State :=
  if isTwin s ∧ role s = 2 ∧ !ownsHw s ∧ s.tkn.switched.isNone then becomeStandby s else s

/-! ### Start (R371, R615 step 7) -/

/-- A claim under the start rule; refused, the module is standby. -/
def startClaim (s : State) : State :=
  let s := ilkClaim (setTkn { s.tkn with waiting := false } s)
  if ownsHw s ∨ role s = 1 then s else becomeStandby s

/-- What a module that starts, or whose partner is not active, does once it has listened. -/
def startRule (s : State) : State :=
  if !isTwin s then startClaim s
  else if partnerActive s ∨ s.tkn.ilkIn ∨ s.tkn.sideDup ∨ (role s = 0 ∧ faultStands s 0x0101 ∧ (partnerHb s).isSome) then (if role s = 1 then s else becomeStandby s)
  else if isSet s R.TKN_CFG_pref then startClaim s
  else if s.tkn.waiting then s
  else setTkn { s.tkn with waiting := true, roleAt := s.now } s

/-- Whether a standby has to apply the start rule: its partner heard yielding or standby, the line released (R372). -/
def standbyRule (s : State) : Bool :=
  role s == 1 && isTwin s && !s.tkn.ilkIn && !isSet s R.TKN_STAT_plost && (match partnerHb s with
    | some h => h.role == 1 || h.role == 3
    | none => false)

/-- 200 ms of listening have passed. -/
def listenEnd (s : State) : State :=
  if !busy s 13 ∨ ownsHw s ∨ s.tkn.waiting then s
  else if (role s = 0 ∧ s.tkn.runAt + msTicks 200 ≤ s.now) ∨ standbyRule s then startRule s
  else s

/-- The further 1,000 ms have passed. -/
def waitEnd (s : State) : State :=
  if !busy s 13 ∨ !s.tkn.waiting ∨ s.now < s.tkn.roleAt + msTicks 1000 then s
  else if partnerActive s ∨ s.tkn.ilkIn then (if role s = 1 then setTkn { s.tkn with waiting := false } s else becomeStandby s)
  else startClaim s

/-- The owner of the line at the start becomes active and opens the air (R369, R615 step 7). -/
def startActive (s : State) : State :=
  if role s ≠ 0 ∨ !ownsHw s then s
  else
    let s := radioActive (becomeActive s)
    let s := setBool s R.TTE_CTRL_follow false
    let s := fwField tteWritten R.TTE_CTRL_run 1 s
    if mayOpenPaths s then
      let l := pathLen s
      let b := 64 * l
      let t := ((netNs s + 10000000 + b - 1) / b) * b
      cmpTime 6 (t - l / 2) 0 7 s
    else s

/-! ### Yielding (R373-R375) -/

/-- The active module yields. -/
def yieldNow (s : State) : State :=
  let s := fwField tknWritten R.TKN_AIR_en 0 (ilkRelease true s)
  setTkn { s.tkn with roleAt := s.now } (setFld s R.TKN_ROLE_role 3)

/-- The active module hears a partner that ranks higher. -/
def yieldTo (s : State) : State :=
  match partnerHb s with
  | some h => if role s = 2 ∧ h.role = 2 ∧ ranksAbove h.token h.side (fld s R.TKN_TOKEN_tok) (ownSide s) then yieldNow s else s
  | none => s

def yieldEnd (s : State) : State :=
  if role s = 3 ∧ s.tkn.roleAt + msTicks 100 ≤ s.now then becomeStandby s else s

/-- An authenticated beacon of the own segment and member (R374). -/
def beaconCompare (token side : Nat) (s : State) : State :=
  let mine := fld s R.TKN_TOKEN_tok
  if token = mine ∧ side = ownSide s then s
  else
    let s := setTkn { s.tkn with seen := max s.tkn.seen token } s
    if role s = 1 then
      if side = ownSide s ∧ !s.tkn.sideDup then post 0x0D 0x08 [] (setTkn { s.tkn with sideDup := true } s) else s
    else if role s = 2 then
      if ranksAbove token side mine (ownSide s) then yieldNow s
      else if s.tkn.staleAt = pathNow s / 256 + 1 then s
      else post 0x0D 0x09 (leBytes 4 token) (setTkn { s.tkn with staleAt := pathNow s / 256 + 1 } s)
    else s

/-- A split is resolved: the module that stays active raises its token (R375). -/
def splitResolved (s : State) : State :=
  if role s = 2 ∧ s.tkn.split ∧ !partnerActive s then raiseToken (setTkn { s.tkn with split := false } s) else s

/-! ### Takeover (R372, R376) -/

/-- The streamed zone states go into the engine, and it runs from its next trigger (R376 step 4). -/
def engineTakeover (s : State) : State :=
  let s := s.tkn.zstates.foldl (fun s p => setEng (zoneAddr p.1) p.2 s) s
  let s := cmpPath 0 (16 * 2 ^ fld s R.LFE_CYC_kcode) 0 1 s
  fwField lfeWritten R.LFE_CTRL_run 1 (fwField lfeWritten R.LFE_CTRL_ingest 1 s)

/-- The firmware of a standby that owns the line, or finds its partner lost and the line released. -/
def takeover (s : State) : State :=
  if role s ≠ 1 ∨ !busy s 13 ∨ s.tkn.sideDup then s
  else
    let s := if !ownsHw s ∧ isSet s R.TKN_STAT_plost ∧ !s.tkn.ilkIn then ilkClaim s else s
    if !ownsHw s then s
    else
      let s := if isSet s R.TKN_ROLE_ready then s else post 0x0D 0x0B [] s
      let s := becomeActive (setFld (lower (lower s R.TKN_ROLE_ready) R.TKN_ROLE_ho) R.TKN_ROLE_ho_bi 0)
      let s := engineTakeover (radioActive (tteReopen false s))
      let s := nextSequences s
      setNodes { s.nodes with replay := true } s

/-! ### The stream (R386-R388) -/

/-- The zones that ran in cycle `c`. -/
def zonesRun (s : State) (c : Nat) : List Nat :=
  (List.range 128).filter (fun z =>
    let e := zoneEntry s z
    e.en && e.pcode != 3 && c % e.pdiv == e.pphase && engNat s (zoneAddr z + 0x1C0) 2 == e.gen)

/-- Record 0x20 of a zone. -/
def streamZone (c z : Nat) (s : State) : State :=
  streamPut 0x20 true (leBytes 1 z ++ leBytes 4 c ++ leBytes 6 s.tkn.pmark ++ engBytes s (zoneAddr z) 0x400) s

/-- Record 0x51 of the wired channels, each by itself. -/
def streamWired (s : State) : State :=
  (mappedWired s).foldl (fun s h => streamPut 0x51 true (leBytes 2 h ++ leBytes 2 1 ++ leBytes 4 (sdcWord s (16 * h))) s) s

/-- A cycle has ended: its zones are streamed; the last one before a handover stops the engine (R387, R389). -/
def cycleEnded (s : State) : State :=
  match s.lfe.cyc with
  | none => s
  | some k =>
    let s := cycleComplete s
    if !isTwin s ∨ role s ≠ 2 then s
    else
      let s := if isSet s R.TKN_ROLE_ho ∧ s.tkn.switched.isNone ∧ (k.c + 1) * cyclePaths s = hoPath s then
          fwField lfeWritten R.LFE_CTRL_run 0 s else s
      streamWired ((zonesRun s k.c).foldl (fun s z => streamZone k.c z s) s)

/-- The records of a snapshot between its begin and end. -/
def snapshotRecords (s : State) : State :=
  let s := (validNodes s).foldl (fun s p => streamCounter p.1 (streamNode p.1 s)) s
  let plan (b : Bool) (l : List (Nat × Nat)) (s : State) : State :=
    l.foldl (fun s p => streamPut 0x12 true (leBytes 1 (b2n b) ++ leBytes 1 (p.1 / 64) ++ leBytes 1 (p.1 % 64) ++ leBytes 4 p.2) s) s
  let sel := fldRead s R.TTE_PLANSEL_sel == 1
  let s := plan sel (if sel then s.nodes.planB else s.nodes.planA) s
  let s := (List.range 128).foldl (fun s z =>
    let e := zoneEntry s z
    if e.en then
      let s := tableWrite e.model (memBytes s e.model (blockNeeds e)) s
      let s := tableWrite e.inputs (memBytes s e.inputs (16 * e.m)) s
      streamZone (fld s R.LFE_LAST_c) z (match zoneRecord s z with
        | some r => tableWrite e.targets (memBytes s e.targets r.targets.length) s
        | none => s)
    else s) s
  let act := isSet s R.LFE_STAT_dir_act
  let s := tableWrite (dirBase s act) (memBytes s (dirBase s act) 4096) s
  let s := (persistentEntries s).foldl (fun s e =>
    if e.area = 9 ∨ 13 ≤ e.area then s else streamPut 0x30 true (leBytes 1 e.area ++ leBytes 2 e.obj ++ leBytes 1 e.el ++ e.value) s) s
  let s := s.nv.overrides.foldl (fun s o => streamPut 0x31 true o.entry s) s
  let s := (journalAll s).foldl (fun s e =>
    if e.kind = 0x80 then streamPut 0x41 true (padTo 8 e.body) s else streamPut 0x40 true (encodeJ e) s) s
  let s := streamWired (outputMirror s)
  let x := s.nodes.epoch
  streamPut 0x70 true (leBytes 1 (if x.phase = 2 then x.epoch else s.nv.epochNo) ++
    leBytes 6 (if x.phase = 2 then x.switchAt / 256 else 0)) s

/-- A snapshot: its begin record, every record type in full, and its end record with their count. -/
def snapshotSend (s : State) : State :=
  let sid := s.tkn.sseq % 2 ^ 32
  let s := setTkn { streamReset s |>.tkn with wantSnap := false } s
  let s := streamPut 0x01 true (leBytes 4 sid) s
  let before := s.tkn.stream.length
  let s := snapshotRecords s
  streamPut 0x02 true (leBytes 4 sid ++ leBytes 4 (s.tkn.stream.length - before)) s

def streamSnapshot (s : State) : State :=
  if isTwin s ∧ role s = 2 ∧ busy s 13 ∧ (s.tkn.wantSnap ∨ s.tkn.ack < s.tkn.base) then snapshotSend s else s

/-- `ack` has not advanced for five cycles. -/
def streamResend (s : State) : State :=
  if isTwin s ∧ role s = 2 ∧ s.tkn.base ≤ s.tkn.ack ∧ s.tkn.ack < s.tkn.sent ∧ s.tkn.ackAt + msTicks 5 ≤ s.now then
    setTkn { s.tkn with sent := s.tkn.ack, ackAt := s.now } s
  else s

/-! ### Handover (R389, R390) -/

/-- The first path of a beacon interval, at or after path `p`, with P mod K = 0. -/
def handoverPath (s : State) (p : Nat) : Nat :=
  let m := max 64 (cyclePaths s)
  (p + m - 1) / m * m

/-- The active module announces the handover at path `p`. -/
def handoverSet (p : Nat) (s : State) : State :=
  setTkn { s.tkn with handover := true } (setFld (raise s R.TKN_ROLE_ho) R.TKN_ROLE_ho_bi (p / 64 % 65536))

/-- 9:0006. -/
def handoverStart (s : State) : Nat × State :=
  if !isTwin s ∨ role s ≠ 2 ∨ !partnerReady s ∨ isSet s R.TKN_ROLE_ho ∨ s.tkn.switched.isSome then (Res.state, s)
  else (Res.ok, handoverSet (handoverPath s ((pathNow s / 64 + 4) * 64)) s)

/-- What the standby does before P − 10 ms. -/
def handoverPrepare (s : State) : State :=
  if !keepsForSwitch s ∨ isSet s R.LFE_CTRL_run ∨ hoPath s * pathLen s < netNs s + 10000000 then s
  else
    let q (k : Nat) (s : State) : State :=
      let x := queueAt s k
      setQueue k { x with entries := x.entries.filter (fun e => s.tkn.pmark < leAt e.body 0 6) } s
    let s := q (fld s R.LFE_QCFG_rq1) (q (fld s R.LFE_QCFG_rq0) s)
    let s := s.tkn.keptItems.foldl (fun s b => commitEvent b s) s
    let s := engineTakeover (setTkn { s.tkn with keptItems := [] } s)
    let s := radioActive (tteReopen false s)
    fwField tknWritten R.TKN_AIR_en 1 (raiseToken s)

/-- Path P has begun: the active module's line is released, the standby claims. -/
def handoverSwitch (s : State) : State :=
  if !isTwin s ∨ !isSet s R.TKN_ROLE_ho ∨ s.tkn.switched.isSome ∨ pathNow s / 64 % 65536 ≠ fld s R.TKN_ROLE_ho_bi then s
  else
    let s := raise s R.TKN_IFLG_ho
    if role s = 2 then ilkRelease true (setTkn { s.tkn with switched := some (pathNow s) } s)
    else if role s = 1 then
      let s := autoClaim (setTkn { s.tkn with hoNow := true } s)
      if !ownsHw s then s
      else
        let s := setFld (lower (lower (setFld s R.TKN_ROLE_role 2) R.TKN_ROLE_ready) R.TKN_ROLE_ho) R.TKN_ROLE_ho_bi 0
        let s := streamReset s
        setTkn { s.tkn with roleAt := s.now, switched := some (pathNow s), wantSnap := false } s
    else s

/-- The handover does not come about. -/
def handoverDrop (s : State) : State :=
  let s := setFld (lower s R.TKN_ROLE_ho) R.TKN_ROLE_ho_bi 0
  let s := if isSet s R.LFE_CTRL_run ∨ !isSet s (R.CMPn_CFG_en 0) then s else fwField lfeWritten R.LFE_CTRL_run 1 s
  let s := post 0x0D 0x0D [1] (setTkn { s.tkn with handover := false } s)
  if s.upd.pair ≠ 1 then s
  else if s.nv.upd.act.state = 1 then activationMissed s
  else
    let s := revertTrial false s
    postFnd 0x0E 0x03 [] (setUpd { s.upd with pair := 0 } (setAct { s.nv.upd.act with state := 3 } s))

def handoverAbandon (s : State) : State :=
  let echoed : Bool := match partnerHb s with
    | some h => h.ho && h.hoBi == fld s R.TKN_ROLE_ho_bi
    | none => false
  if role s ≠ 2 ∨ !isSet s R.TKN_ROLE_ho ∨ s.tkn.switched.isSome then s
  else if (!echoed ∧ hoPath s ≤ pathNow s + 64) ∨ s.tkn.sl.up = some false ∨ s.tkn.fb.up = some false then handoverDrop s
  else s

/-- The boundary of path `p` in a handover: its tick, and four paths after it the old active module becomes standby while
the new one begins a snapshot. -/
def handoverBoundary (p : Nat) (s : State) : State :=
  let now_ := isSet s R.TKN_ROLE_ho && p % 64 == 0 && p / 64 % 65536 == fld s R.TKN_ROLE_ho_bi
  let s := setTkn { s.tkn with hoNow := now_ } s
  let s := if now_ ∧ busy s 13 then raise s R.TKN_IFLG_ho else s
  match s.tkn.switched with
  | some q =>
    if p < q + 4 then s
    else
      let s := post 0x0D 0x0D [0] (setTkn { s.tkn with switched := none, handover := false } s)
      if ownsHw s then setTkn { s.tkn with wantSnap := true } s
      else
        let s := if s.upd.pair = 1 then restartSoon (setUpd { s.upd with pair := 0 } s) else s
        becomeStandby s
  | none => s

/-- The active module of a pair in an update of firmware (R550, R551). -/
def pairUpdate (s : State) : State :=
  let a := s.nv.upd.act
  if !isTwin s ∨ role s ≠ 2 ∨ isSet s R.TKN_ROLE_ho ∨ s.tkn.switched.isSome then s
  else if s.upd.pair = 0 ∧ a.state = 1 ∧ a.items.contains 0 ∧ max (a.at_ - 300) (a.armedAt + 1) ≤ netSec s ∧ !partnerReady s then
    setUpd { s.upd with pair := 4 } s
  else if s.upd.pair = 4 ∧ a.state = 1 ∧ partnerReady s ∧ netSec s + 10 < a.at_ then
    let t := (a.at_ + 1) * 1000000000
    setUpd { s.upd with pair := 1 } (handoverSet (handoverPath s ((t + pathLen s - 1) / pathLen s)) s)
  else if s.upd.pair = 2 ∧ !partnerReady s then setUpd { s.upd with pair := 3 } s
  else if s.upd.pair = 3 ∧ partnerReady s then
    setUpd { s.upd with pair := 1 } (handoverSet (handoverPath s ((pathNow s / 64 + 4) * 64)) s)
  else s

/-! ### The commands -/

/-- ILK_IN changes level (ILK_IN_CHANGE, R361); an active module that loses ownership becomes standby (R373). -/
def execIlkInChange (asserted : Bool) (s : State) : Host.Outcome State Fault Refusal := .next (lostStandby (ilkInput asserted s))

/-- Both interlock lines asserted for 10 µs (INTERLOCK_CONFLICT, R363). -/
def execInterlockConflict (s : State) : Host.Outcome State Fault Refusal := .next (lostStandby (ilkConflict s))

/-- START_LISTEN_END (R371). -/
def execStartListenEnd (s : State) : Host.Outcome State Fault Refusal := .next (listenEnd s)

/-- START_WAIT_END (R371). -/
def execStartWaitEnd (s : State) : Host.Outcome State Fault Refusal := .next (waitEnd s)

/-- BECOME_ACTIVE (R369). -/
def execBecomeActive (s : State) : Host.Outcome State Fault Refusal := .next (startActive s)

/-- YIELD (R373). -/
def execYield (s : State) : Host.Outcome State Fault Refusal := .next (yieldTo s)

/-- YIELD_END (R373). -/
def execYieldEnd (s : State) : Host.Outcome State Fault Refusal := .next (yieldEnd s)

/-- TAKEOVER (R376). -/
def execTakeover (s : State) : Host.Outcome State Fault Refusal := .next (takeover s)

/-- STREAM_SNAPSHOT (R386). -/
def execStreamSnapshot (s : State) : Host.Outcome State Fault Refusal := .next (streamSnapshot s)

/-- STREAM_RESEND (R386). -/
def execStreamResend (s : State) : Host.Outcome State Fault Refusal := .next (streamResend s)

/-- HANDOVER_PREPARE (R389). -/
def execHandoverPrepare (s : State) : Host.Outcome State Fault Refusal := .next (handoverPrepare s)

/-- HANDOVER_SWITCH (R389). -/
def execHandoverSwitch (s : State) : Host.Outcome State Fault Refusal := .next (handoverSwitch s)

/-- HANDOVER_ABANDON (R390). -/
def execHandoverAbandon (s : State) : Host.Outcome State Fault Refusal := .next (handoverAbandon s)

end Sys2Proof.Machine
end

