-- ==== Sys2Proof/Machine/Commands.lean ====
section
/-!
DEFINITION. The CMD objects of the dictionary (R393): what each command does with its argument, and how the dictionary serves
one request of any kind (R396, R399, R403).
-/

namespace Sys2Proof.Machine

/-! ### The commands of each area -/

/-- Runs a command whose argument must equal `SYS_UID0`. -/
def uidArg (v : List Byte) (f : State → Nat × State) (s : State) : Nat × State :=
  if leNat v = uid0 then f s else (Res.range, s)

/-- 1:0F00 (R402). -/
def restoreFactory (s : State) : Nat × State :=
  if ownsHw s && (isSet s R.TKN_STAT_sl_ok || isSet s R.TKN_STAT_fb_ok) then (Res.state, s)
  else (Res.ok, restartSoon (restoreValues s))

/-- The node commands of area 4: element, the command's code and parameters (R197, R198, R204). -/
def nodeCommand (a el : Nat) (v : List Byte) (s : State) : Nat × State :=
  match nodeEntry s a with
  | none => (Res.noObject, s)
  | some e =>
    let code := natAt [0x09, 0x0C, 0x0D, 0x0E, 0x0A] (el - 81)
    if el = 84 ∧ leNat v ≠ leAt e.eui 0 4 then (Res.range, s)
    else if !hasCommand e.version code then (Res.nodeVersion, s)
    else (Res.pending, sendParams a code v s)

/-- The level and the like of an OCT argument, behind its length. -/
def argAt (v : List Byte) (i n : Nat) : Nat := leAt v (2 + i) n

/-- 2:0004: time becomes invalid, so that the next sample is taken whatever its size (R62). -/
def forcedSet (s : State) : Nat × State :=
  (Res.ok, fwWrite ntbWritten A.NTB_CTRL (rwWord s A.NTB_CTRL ||| 0x100) s)

/-- B:0002. -/
def newEpoch (s : State) : Nat × State :=
  if s.nodes.epoch.phase ≠ 0 then (Res.busy, s)
  else
    let t := epochBegin s
    if t.nodes.epoch.phase = 0 then (Res.state, s) else (Res.ok, t)

/-- B:0004: for the partner the message goes on unchanged (R507). -/
def keyUpdateCommand (v : List Byte) (s : State) : Nat × State :=
  let m := v.drop 2
  let partner := slook s.tkn.admUid (2 * ownMember s + (1 - ownSide s))
  if octets m 8 16 ≠ unitId ∧ isTwin s ∧ role s = 2 ∧ partner = some (leAt m 8 4) then
    (Res.pending, streamPut 0x30 true (leBytes 1 11 ++ leBytes 2 4 ++ leBytes 1 0 ++ v) s)
  else
    let (c, s) := keyUpdate m s
    (if c = 0 then Res.ok else Res.range, s)

/-- 7:0005 (R321). -/
def clearRegisters (s : State) : Nat × State :=
  if busy s 9 then (Res.state, s) else (Res.ok, meterClear s)

/-- F:00F0: chain, channel, power code, seconds (R93, R431). A refusal of the checks is answered `state`. -/
def testStart (v : List Byte) (s : State) : Nat × State :=
  let chain := argAt v 0 1
  let chan := argAt v 1 1
  let power := argAt v 2 1
  let secs := argAt v 3 1
  let mode := fld s R.RFE_CTRL_mode
  if 4 ≤ chain ∨ 64 ≤ chan ∨ 128 ≤ power ∨ secs = 0 ∨ 60 < secs then (Res.range, s)
  else if isSet s R.TKN_STAT_air ∨ s.rfe.test.isSome then (Res.state, s)
  else match bandOf s chan with
    | none => (Res.state, s)
    | some b =>
      let limit := (fld s (R.RFE_BANDb_LIM_duty b) - fld s (R.RFE_BANDb_RSV_rsv b)) * 360000
      if !fldBit s R.RFE_TXOK_ok chain ∨ !chanUsable s chan ∨ limit < dutyUsed s b chain + secs * 1000000 then (Res.state, s)
      else
        let s := { s with rfe := { s.rfe with test := some (s.now + secTicks secs, mode + 4 * fld s R.RFE_CTRL_txen) } }
        let s := setFld (setFld (setFld s R.RFE_CTRL_tchain chain) R.RFE_CTRL_tchan chan) R.RFE_CTRL_tpwr power
        let s := dutyAdd b chain (secs * 1000000) (raise (setFld s R.RFE_CTRL_mode 3) R.RFE_CTRL_txen)
        (Res.ok, rfeShow (raise s R.RFE_STAT_tx_on))

/-- The seconds of a test transmission have run out (R431). -/
def testEnd (s : State) : State :=
  match s.rfe.test with
  | some (t, was) =>
    if s.now < t then s
    else
      let s := lower { s with rfe := { s.rfe with test := none } } R.RFE_STAT_tx_on
      rfeShow (post 0x06 (Config.code 4 0) [] (setFld (setFld s R.RFE_CTRL_mode (was % 4)) R.RFE_CTRL_txen (was / 4)))
  | none => s

/-- Whether an OCT argument has the length that its command gives. -/
def argOk (area obj : Nat) (v : List Byte) : Bool :=
  let n := leAt v 0 2
  match area, obj with
  | 5, 0x0010 => n == 4
  | 6, 0x0501 => n == 5
  | 6, 0x0503 => n == 4
  | 6, _ => n == 6
  | 7, 0x0003 => n == 3
  | 13, 0x0011 => n == 4
  | 13, 0x0020 => n == 512
  | 15, _ => n == 4
  | _, _ => true

/-- What a command does: its result and the state. -/
def commandRun (x : Session) (area obj el : Nat) (v : List Byte) (s : State) : Nat × State :=
  match area, obj with
  | 1, 0x0E00 => uidArg v (fun s => (Res.ok, restartSoon s)) s
  | 1, 0x0F00 => uidArg v restoreFactory s
  | 2, 0x0004 => uidArg v forcedSet s
  | 4, a => nodeCommand a el v s
  | 5, 0x0010 => surveyStart (argAt v 0 1) (argAt v 1 1) (signed 16 (argAt v 2 2)) (s.bal.check.result == 1) s
  | 6, 0x0500 => levelOverride 1 (argAt v 0 1) (argAt v 1 1) 0 (argAt v 2 2) (argAt v 4 2) s
  | 6, 0x0501 => levelOverride 2 (argAt v 0 1) 0xFF 0 (argAt v 1 2) (argAt v 3 2) s
  | 6, 0x0502 => levelOverride 3 0 0xFF (argAt v 0 2) (argAt v 2 2) (argAt v 4 2) s
  | 6, 0x0503 => zoneSetOverride (argAt v 0 1) (argAt v 1 1) (argAt v 2 2) s
  | 7, 0x0003 => checkStart (argAt v 0 2) (argAt v 2 1) s
  | 7, 0x0005 => uidArg v clearRegisters s
  | 9, 0x0006 => uidArg v handoverStart s
  | 11, 0x0002 => uidArg v newEpoch s
  | 11, 0x0004 => keyUpdateCommand v s
  | 13, 0x0002 => relayed 2 v (armCommand v) s
  | 13, 0x0003 => uidArg v (relayed 3 v disarmCommand) s
  | 13, 0x0005 => uidArg v (relayed 5 v confirmCommand) s
  | 13, 0x0006 => uidArg v (relayed 6 v revertCommand) s
  | 13, 0x0011 => nodeDistribution (v.drop 2) s
  | 13, 0x0020 => loadOpen v s
  | 13, 0x0021 => loadData v s
  | 13, 0x0022 => uidArg v (loadClose x) s
  | 13, 0x0024 => uidArg v loadAbort s
  | 14, 0x0003 => (Res.ok, radioCleared (leNat v) (clearFaults (leNat v) s))
  | 15, 0x00F0 => if x.factory then testStart v s else (Res.factory, s)
  | _, _ => (Res.noObject, s)

/-- Whether an accepted command goes to the standby as an object write (R549). -/
def streamsCommand (area obj : Nat) : Bool := area == 13 && obj != 0x0011

/-- A command with its record (R399, R401). -/
def odCommand (x : Session) (area obj el : Nat) (v : List Byte) (e : OdElem) (s : State) : Answer × State :=
  let (r, s) :=
    if area = 15 ∧ !x.factory then (Res.factory, s)
    else if !typeOk e.ty v || !argOk area obj v then (Res.type, s)
    else commandRun x area obj el v s
  let s := if accepted r && streamsCommand area obj then odStream area obj el v s else s
  ({ result := r, el := if accepted r then 0xFF else el }, odRecord x 0x02 area obj el r (odSecret area obj el) [] v s)

/-! ### One request -/

/-- Whether a standby takes a write (R396). -/
def standbyTakes (area obj : Nat) : Bool := area == 9 || 14 ≤ area || (area == 1 && obj == 0x0F00)

/-- A refused write or command with its record. -/
def odRefused (x : Session) (op area obj el r : Nat) (v : List Byte) (s : State) : Answer × State :=
  ({ result := r }, odRecord x (op - 0x10) area obj el r (odSecret area obj el) [] v s)

/-- The element that a request names, where it is a command. -/
def cmdElem (x : Session) (area obj el : Nat) (s : State) : Option OdElem :=
  match odServed s (x.version.getD (0, 0)) area obj with
  | some es => (es.find? (fun p => p.1 == el && p.2.acc == .cmd)).map (·.2)
  | none => none

/-- One request of a session: `op` 0x10 read, 0x11 write, 0x12 command (R391-R403). -/
def odRequest (x : Session) (op area obj el : Nat) (v : List Byte) (s : State) : Answer × State :=
  if x.version.isNone then
    if op = 0x10 then ({ result := Res.version }, s) else odRefused x op area obj el Res.version v s
  else if op = 0x10 then odRead x area obj el s
  else if x.iface ≠ 4 ∧ ((isTwin s ∧ role s = 1 ∧ !standbyTakes area obj) ∨ s.pwr.warning) then
    odRefused x op area obj el Res.state v s
  else match cmdElem x area obj el s with
    | some e => odCommand x area obj el v e s
    | none => if op = 0x12 then
        match odServed s (x.version.getD (0, 0)) area obj with
        | none => odRefused x op area obj el Res.noObject v s
        | some es => odRefused x op area obj el (if el = 255 ∨ es.any (fun p => p.1 == el) then Res.access else Res.noElement) v s
      else odWrite x area obj el v s

/-- TEST_TRANSMISSION_END (R431). -/
def execTestTransmissionEnd (s : State) : Host.Outcome State Fault Refusal := .next (testEnd s)

end Sys2Proof.Machine
end

