-- ==== Sys2Proof/Machine/Requests.lean ====
section
/-!
DEFINITION. Requests on their way to the dictionary and back: transfers on the field bus (R407, R408, R459) and CoAP (R409-R412).
-/

namespace Sys2Proof.Machine

/-! ### The field bus -/

/-- The CAN FD length that carries `n` octets. -/
def fdLength (n : Nat) : Nat := (([8, 12, 16, 20, 24, 32, 48, 64].find? (fun k => n ≤ k)).getD 64)

/-- Sends a transfer frame to a client's node. -/
def xferSend (node op tid sid : Nat) (rest : List Byte) (s : State) : State :=
  let b := leBytes 1 1 ++ leBytes 1 op ++ leBytes 1 tid ++ leBytes 1 sid ++ rest
  fbSend none (fbId 0x11 node (fbNode s) 0) false (padTo (fdLength b.length) b) s

def xferAbort (node tid sid r : Nat) (s : State) : State := xferSend node 0x3F tid sid (leBytes 1 r) s

/-- Sends segments from number `k` on, up to the next one that has to be acknowledged; the next number stands beside. -/
def xferSegments (node tid sid : Nat) (v : List Byte) : Nat → Nat → State → Nat × State
  | 0, k, s => (k, s)
  | fuel + 1, k, s =>
    let at_ := 56 + 58 * (k - 1)
    if v.length ≤ at_ then (k, s)
    else
      let s := xferSend node 0x20 tid sid (leBytes 2 k ++ octets v at_ (min 58 (v.length - at_))) s
      if k % 16 = 0 then (k + 1, s) else xferSegments node tid sid v fuel (k + 1) s

/-- The node of a field bus session's client. -/
def xferNode (x : Session) : Nat := leNat x.peer

/-- Sends a session's response, and keeps what is left of it as its transfer. -/
def xferRespond (x : Session) (tid r el : Nat) (v : List Byte) (s : State) : State :=
  let s := xferSend (xferNode x) 0x30 tid x.sid (leBytes 1 r ++ leBytes 1 el ++ leBytes 2 v.length ++ v.take 56) s
  let (k, s) := xferSegments (xferNode x) tid x.sid v 16 1 s
  let left : Bool := 56 + 58 * (k - 1) < v.length
  let y : Xfer := { sending := true, op := 0x30, tid, area := 0, obj := 0, el := 0, total := v.length, octets_ := v, seg := k, at_ := s.now }
  match sessionOf s x.id with
  | some x => putSession { x with xfer := if left then some y else none, kept := some (tid, r, el, v) } s
  | none => s

/-- A complete request of a field bus session: answered again from the kept response, or acted on (R408). -/
def xferComplete (x : Session) (op tid area obj el : Nat) (v : List Byte) (s : State) : State :=
  match x.kept with
  | some (t, r, e, w) =>
    if t = tid then xferRespond x tid r e w s
    else
      let (a, s) := odRequest x op area obj el v s
      if 65535 < a.value.length then xferRespond x tid Res.tooLarge 0xFF [] s else xferRespond x tid a.result a.el a.value s
  | none =>
    let (a, s) := odRequest x op area obj el v s
    if 65535 < a.value.length then xferRespond x tid Res.tooLarge 0xFF [] s else xferRespond x tid a.result a.el a.value s

/-- The transfer frame at the head of the receive queue, once frames that name nothing are passed over: its client, its octets. A
classical frame is ignored; another `pv` is answered with an abort. -/
def xferHead : Nat → State → Option (Nat × List Byte) × State
  | 0, s => (none, s)
  | n + 1, s =>
    if fbHeld s = 0 then (none, s)
    else
      let (id, xtd, d) := fbHead s
      let fdf := bit (memNat s (fbEntryAddr s (fld s R.FBC_RXIDX_ri)) 4) 30
      if !fbActs s xtd id d.length ∨ (fbFn id = 0x10 ∧ !fdf) then xferHead n (fbPop s)
      else if fbFn id ≠ 0x10 then (none, s)
      else if leAt d 0 1 ≠ 1 then xferHead n (xferAbort (fbSrc id) (leAt d 2 1) (leAt d 3 1) Res.version (fbPop s))
      else (some (fbSrc id, d), s)

/-- Takes the head transfer frame where `p` holds for it. -/
def xferTake (p : List Byte → Bool) (s : State) : Option (Nat × List Byte) × State :=
  match xferHead 64 s with
  | (some (n, d), s) => if p d then (some (n, d), fbPop s) else (none, s)
  | (none, s) => (none, s)

/-- The session that a transfer frame names, used now; a frame of another node, or of none, is answered `no_session`. -/
def xferSession (node : Nat) (d : List Byte) (s : State) : Option Session × State :=
  match s.dict.sessions.find? (fun x => x.iface == 0 && x.sid == leAt d 3 1 && xferNode x == node) with
  | some x => let x := { x with usedAt := s.now }; (some x, putSession x s)
  | none =>
    (none, xferSend node 0x30 (leAt d 2 1) (leAt d 3 1) (leBytes 1 Res.noSession ++ [0xFF, 0, 0]) s)

/-- A read, write or command frame. -/
def xferRequest (node : Nat) (d : List Byte) (s : State) : State :=
  let tid := leAt d 2 1
  let op := leAt d 1 1
  match xferSession node d s with
  | (none, s) => s
  | (some x, s) =>
    let other : Bool := match x.xfer with
      | some y => y.tid != tid
      | none => false
    if other then xferSend node 0x30 tid x.sid (leBytes 1 Res.busy ++ [0xFF, 0, 0]) s
    else
      let area := leAt d 4 1
      let obj := leAt d 5 2
      let el := leAt d 7 1
      if op = 0x10 then xferComplete x op tid area obj el [] s
      else
        let total := leAt d 8 2
        let v := (d.drop 10).take (min 54 total)
        if total ≤ 54 then xferComplete { x with xfer := none } op tid area obj el v (putSession { x with xfer := none } s)
        else putSession { x with xfer := some { sending := false, op, tid, area, obj, el, total, octets_ := v, seg := 1, at_ := s.now } } s

/-- A segment of a request. -/
def xferSegment (node : Nat) (d : List Byte) (s : State) : State :=
  match xferSession node d s with
  | (none, s) => s
  | (some x, s) =>
    match x.xfer with
    | none => s
    | some y =>
      let k := leAt d 4 2
      if y.sending ∨ y.tid ≠ leAt d 2 1 ∨ k < y.seg then s
      else if y.seg < k then xferAbort node y.tid x.sid Res.aborted (putSession { x with xfer := none } s)
      else
        let v := y.octets_ ++ (d.drop 6).take (min 58 (y.total - y.octets_.length))
        let s := if k % 16 = 0 then xferSend node 0x21 y.tid x.sid (leBytes 2 (k + 1)) s else s
        if y.total ≤ v.length then
          let x := { x with xfer := none }
          xferComplete x y.op y.tid y.area y.obj y.el v (putSession x s)
        else putSession { x with xfer := some { y with octets_ := v, seg := k + 1, at_ := s.now } } s

/-- A segment acknowledgement: the response goes on. -/
def xferAck (node : Nat) (d : List Byte) (s : State) : State :=
  match xferSession node d s with
  | (none, s) => s
  | (some x, s) =>
    match x.xfer with
    | none => s
    | some y =>
      if !y.sending ∨ y.tid ≠ leAt d 2 1 ∨ leAt d 4 2 ≠ y.seg then s
      else
        let (k, s) := xferSegments node y.tid x.sid y.octets_ 16 y.seg s
        let left : Bool := 56 + 58 * (k - 1) < y.octets_.length
        match sessionOf s x.id with
        | some x => putSession { x with xfer := if left then some { y with seg := k, at_ := s.now } else none } s
        | none => s

/-- 500 ms without an awaited frame (R408). -/
def xferTimeout (s : State) : State :=
  s.dict.sessions.foldl (fun s x =>
    match x.xfer with
    | some y => if y.at_ + msTicks 500 ≤ s.now then
        xferAbort (xferNode x) y.tid x.sid Res.aborted (putSession { x with xfer := none } s) else s
    | none => s) s

/-- An open frame (R395, R403). -/
def xferOpen (node : Nat) (d : List Byte) (s : State) : State :=
  let tid := leAt d 2 1
  let again := s.dict.sessions.find? (fun x => x.iface == 0 && xferNode x == node &&
    x.kept.any (fun k => k.1 == tid && k.2.2.2.length == 2 && x.version == some (leAt k.2.2.2 0 1, leAt k.2.2.2 1 1)))
  match again with
  | some x => xferRespond x tid Res.ok 0xFF ((x.kept.map (·.2.2.2)).getD []) s
  | none =>
    match agreeVersion (leAt d 4 1) (leAt d 5 1) with
    | none => xferSend node 0x30 tid 0 (leBytes 1 Res.version ++ [0xFF, 0, 0]) s
    | some v =>
      let sid := (([1, 2, 3, 4].find? (fun k => !s.dict.sessions.any (fun x => x.iface == 0 && x.sid == k))).getD 0)
      match openSession 0 sid (leBytes 1 node) false (some v) s with
      | (none, s) => xferSend node 0x30 tid 0 (leBytes 1 Res.noSession ++ [0xFF, 0, 0]) s
      | (some x, s) => xferRespond x tid Res.ok 0xFF (leBytes 1 v.1 ++ leBytes 1 v.2) s

/-- A close frame. -/
def xferClose (node : Nat) (d : List Byte) (s : State) : State :=
  match xferSession node d s with
  | (none, s) => s
  | (some x, s) => closeSession x.id 1 (xferSend node 0x30 (leAt d 2 1) x.sid (leBytes 1 Res.ok ++ [0xFF, 0, 0]) s)

/-- An abort frame. -/
def xferEnd (node : Nat) (d : List Byte) (s : State) : State :=
  match s.dict.sessions.find? (fun x => x.iface == 0 && x.sid == leAt d 3 1 && xferNode x == node) with
  | some x => if x.xfer.any (fun y => y.tid == leAt d 2 1) then putSession { x with xfer := none, usedAt := s.now } s else s
  | none => s

/-! ### CoAP -/

/-- The CoAP response code of a result (R406). -/
def coapCode (read : Bool) (r : Nat) : Nat :=
  if r ≤ 0x02 then (if read ∧ r = 0 then 0x45 else 0x44)
  else if r = Res.noObject ∨ r = Res.noElement then 0x84
  else if r = Res.access then 0x85
  else if r = Res.type ∨ r = Res.range ∨ r = Res.conflict then 0x80
  else if r = Res.version then 0x86
  else if r = Res.noSession then 0x81
  else if r = Res.busy then 0xA3
  else if r = Res.aborted then 0x88
  else if r = Res.tooLarge then 0x8D
  else if r = Res.storage then 0xA0
  else 0x83

/-- A hexadecimal digit's value, of either case. -/
def hexValue (c : Char) : Option Nat :=
  let n := c.toNat
  if 48 ≤ n ∧ n ≤ 57 then some (n - 48) else if 97 ≤ n ∧ n ≤ 102 then some (n - 87)
  else if 65 ≤ n ∧ n ≤ 70 then some (n - 55) else none

/-- `k` hexadecimal digits. -/
def hexParse (k : Nat) (t : String) : Option Nat :=
  let l := t.toList
  if l.length ≠ k then none
  else l.foldl (fun a c => match a, hexValue c with
    | some x, some d => some (16 * x + d)
    | _, _ => none) (some 0)

/-- A decimal number 0-255. -/
def decParse (t : String) : Option Nat :=
  let l := t.toList
  if l = [] ∨ 3 < l.length then none
  else match l.foldl (fun a c => match a with
    | some x => if 48 ≤ c.toNat ∧ c.toNat ≤ 57 then some (10 * x + (c.toNat - 48)) else none
    | none => none) (some 0) with
    | some n => if n ≤ 255 then some n else none
    | none => none

/-- The element that an Uri-Path names (R409). -/
def coapElement (path : List String) : Option (Nat × Nat × Nat) :=
  match path with
  | ["od", a, o, e] => match hexParse 1 a, hexParse 4 o, decParse e with
    | some a, some o, some e => some (a, o, e)
    | _, _, _ => none
  | _ => none

/-- What answers a message: code, options, payload. -/
structure CoapReply where
  code : Nat
  opts : List (Nat × List Byte) := []
  payload : List Byte := []

/-- A reply that carries a result alone. -/
def coapResult (code r : Nat) (opts : List (Nat × List Byte) := []) : CoapReply := ⟨code, (12, [42]) :: opts, leBytes 1 r ++ [0xFF]⟩

/-- A reply's payload in the block that the client asks for, or in blocks of 512 octets (R411). -/
def coapBlocked (m : CoapMsg) (code : Nat) (opts : List (Nat × List Byte)) (p : List Byte) : CoapReply :=
  let (n, szx) : Nat × Nat := match m.block2 with
    | some (n, _, z) => (n, min z 6)
    | none => (0, 5)
  let size := 16 * 2 ^ szx
  if p.length ≤ size ∧ n = 0 ∧ m.block2.isNone then ⟨code, (12, [42]) :: opts, p⟩
  else if p.length ≤ n * size then coapResult 0x80 Res.range
  else ⟨code, (12, [42]) :: (23, coapBlock (n, decide ((n + 1) * size < p.length), szx)) :: opts, octets p (n * size) (min size (p.length - n * size))⟩

/-- The body of a request once its last block is here, else the reply to the block (R411). -/
def coapBody (x : Session) (m : CoapMsg) (s : State) : Except CoapReply (List Byte) × State :=
  match m.block1 with
  | none => (.ok m.payload, s)
  | some (n, more, szx) =>
    let size := 16 * 2 ^ szx
    let held := x.body
    let b1 (r : CoapReply) : CoapReply := { r with opts := r.opts ++ [(27, coapBlock (n, more, szx))] }
    let old : Option (List Byte) := match held with
      | some b => if n ≠ 0 ∧ b.path = m.path ∧ b.got.length = n * size then some b.got else none
      | none => none
    if 6 < szx then (.error (b1 (coapResult 0x80 Res.type)), s)
    else if n = 0 ∧ held.isSome then (.error (b1 (coapResult 0xA3 Res.busy)), s)
    else if n ≠ 0 ∧ old.isNone then (.error (b1 (coapResult 0x88 Res.aborted)), s)
    else
      let got := old.getD [] ++ m.payload
      if 65537 < got.length then (.error (b1 (coapResult 0x8D Res.tooLarge)), putSession { x with body := none } s)
      else if more then (.error (b1 ⟨0x5F, [], []⟩), putSession { x with body := some ⟨m.path, got, s.now⟩ } s)
      else (.ok got, putSession { x with body := none } s)

/-- The reply to a version request (R403). -/
def coapVersion (x : Session) (p : List Byte) (s : State) : CoapReply × State :=
  if p.length ≠ 2 then (coapResult 0x80 Res.type, s)
  else match agreeVersion (leAt p 0 1) (leAt p 1 1) with
    | none => (coapResult 0x86 Res.version, s)
    | some v => (⟨0x44, [(12, [42])], [0, 0xFF] ++ leBytes 1 v.1 ++ leBytes 1 v.2⟩, putSession { x with version := some v } s)

/-- Routes a message that is not a repeat (R409, R410). -/
def coapRoute (x : Session) (m : CoapMsg) (s : State) : CoapReply × State :=
  if m.badOption then (⟨0x82, [], []⟩, s)
  else if m.accept.any (· != 42) then (coapResult 0x86 Res.type, s)
  else if m.format.any (· != 42) then (coapResult 0x8F Res.type, s)
  else if m.path = ["od", "v"] then
    if m.code = 2 then coapVersion x m.payload s else (coapResult 0x85 Res.access, s)
  else match coapElement m.path with
    | none => (coapResult 0x84 Res.noObject, s)
    | some (area, obj, el) =>
      if m.code = 1 then
        if x.iface = 1 ∧ backhaulFull s then (coapResult 0xA3 Res.busy [(14, [2])], s)
        else
          let (a, s) := odRequest x 0x10 area obj el [] s
          (coapBlocked m (coapCode true a.result) [] (leBytes 1 a.result ++ leBytes 1 a.el ++ a.value), s)
      else if m.code = 2 ∨ m.code = 3 then
        match coapBody x m s with
        | (.error r, s) => (r, s)
        | (.ok v, s) =>
          let x := (sessionOf s x.id).getD x
          let (a, s) := odRequest x (if m.code = 3 then 0x11 else 0x12) area obj el v s
          let o : List (Nat × List Byte) := match m.block1 with
            | some b => [(27, coapBlock b)]
            | none => []
          (coapBlocked m (coapCode false a.result) o (leBytes 1 a.result ++ leBytes 1 a.el ++ a.value), s)
      else (coapResult 0x85 Res.access, s)

/-- The datagram of a session's client at the head of its port. -/
def coapTake (x : Session) (s : State) : Option Datagram × State :=
  match sessionPort s x.iface with
  | some k => netTake k (fun d => d.proto == 17 && d.dport == 5684 && coapPeer d.peer d.sport == x.peer) s
  | none => (none, s)

/-- Handles a CoAP message that arrives on session `id`; `slow` tells that its answer takes longer than 1 s (R409-R412). -/
def coapMessage (id : Nat) (m : CoapMsg) (slow : Bool) (s : State) : State :=
  match sessionOf s id with
  | none => s
  | some x =>
    match coapTake x s with
    | (none, s) => s
    | (some _, s) =>
      let x := { x with usedAt := s.now, answers := x.answers.filter (fun k => s.now < k.at_ + secTicks 247) }
      let s := putSession x s
      match (if m.con then x.answers.find? (fun k => k.mid == m.mid) else none) with
      | some k => coapSend id k.msg s
      | none =>
        if m.badOption ∧ !m.con then s
        else
          let s := if m.con ∧ slow then coapSend id (coapBytes 2 0 m.mid [] [] []) s else s
          let (r, s) := coapRoute x m s
          match sessionOf s id with
          | none => s
          | some x =>
            let piggy := m.con && !slow
            let type := if piggy then 2 else if m.con then 0 else 1
            let b := coapBytes type r.code (if piggy then m.mid else x.mid) m.token r.opts r.payload
            let x := { x with mid := if piggy then x.mid else (x.mid + 1) % 65536,
                              answers := if m.con then x.answers ++ [⟨m.mid, s.now, b⟩] else x.answers }
            coapSend id b (putSession x s)

/-- Whether a CoAP message is a write or command of an element that `p` names. -/
def coapNames (m : CoapMsg) (codes : List Nat) (p : Nat → Nat → Nat → Bool) : Bool :=
  codes.contains m.code && (match coapElement m.path with
    | some (a, o, e) => p a o e
    | none => false)

/-- A request by either way, where `p` holds for its operation and the element it names. -/
def request (v : ReqVia) (ops : List Nat) (p : Nat → Nat → Nat → Bool) (s : State) : State :=
  if s.flt.escalated ∨ !s.pwr.started then s else
  match v with
  | .bus =>
    match xferTake (fun d => ops.contains (leAt d 1 1) && p (leAt d 4 1) (leAt d 5 2) (leAt d 7 1)) s with
    | (some (n, d), s) => xferRequest n d s
    | (none, s) => s
  | .coap id m =>
    if coapNames m (ops.map (fun o => if o = 0x10 then 1 else if o = 0x11 then 3 else 2)) p then coapMessage id m false s else s

/-- A request for one CMD object: a write or a command of it. -/
def command (area obj : Nat) (v : ReqVia) (s : State) : State :=
  request v [0x11, 0x12] (fun a o _ => a == area && o == obj) s

/-- A request for a CMD element of a node's object. -/
def nodeRequest (el : Nat) (v : ReqVia) (s : State) : State := request v [0x11, 0x12] (fun a _ e => a == 4 && e == el) s

/-- A transfer frame of operation `op` (R407). -/
def transfer (op : Nat) (f : Nat → List Byte → State → State) (s : State) : State :=
  if s.flt.escalated ∨ !s.pwr.started then s else
  match xferTake (fun d => leAt d 1 1 == op) s with
  | (some (n, d), s) => f n d s
  | (none, s) => s

/-- A DTLS handshake that ends: its session opens without a version (R395, R403). -/
def dtlsOpen (iface : Nat) (peer : List Byte) (port : Nat) (authentic factory : Bool) (s : State) : State :=
  if s.flt.escalated ∨ !s.pwr.started ∨ iface = 0 ∨ 3 < iface ∨ (sessionPort s iface).isNone then s
  else if !authentic then sessionEvent iface 0 3 s
  else (openSession iface 0 (coapPeer peer port) factory none s).2

/-- An incomplete Block1 body of session `id` that has had no block for 60 s (R411). -/
def block1Discard (id : Nat) (s : State) : State :=
  match sessionOf s id with
  | some x => match x.body with
    | some b => if b.at_ + secTicks 60 ≤ s.now then putSession { x with body := none } s else s
    | none => s
  | none => s

/-! ### The commands -/

/-- OD_READ (R391). -/
def execOdRead (via : ReqVia) (s : State) : Host.Outcome State Fault Refusal := .next (request via [0x10] (fun _ _ _ => true) s)

/-- OD_WRITE (R399). -/
def execOdWrite (via : ReqVia) (s : State) : Host.Outcome State Fault Refusal := .next (request via [0x11, 0x12] (fun _ _ _ => true) s)

/-- SESSION_OPEN (R395). -/
def execSessionOpen (via : OpenVia) (s : State) : Host.Outcome State Fault Refusal :=
  .next (match via with
    | .bus => transfer 0x01 xferOpen s
    | .dtls iface peer port authentic factory => dtlsOpen iface peer port authentic factory s)

/-- SESSION_CLOSE (R395): a close frame, or the end of the DTLS session `id` (0 for the frame). -/
def execSessionClose (id : Nat) (s : State) : Host.Outcome State Fault Refusal :=
  .next (if id = 0 then transfer 0x02 xferClose s else match sessionOf s id with
    | some x => if x.iface = 0 then s else closeSession id 1 s
    | none => s)

/-- VERSION_POST (R403). -/
def execVersionPost (session : Nat) (m : CoapMsg) (s : State) : Host.Outcome State Fault Refusal :=
  .next (if s.flt.escalated ∨ !s.pwr.started ∨ m.path ≠ ["od", "v"] then s else coapMessage session m false s)

/-- TRANSFER_SEGMENT (R408). -/
def execTransferSegment (s : State) : Host.Outcome State Fault Refusal := .next (transfer 0x20 xferSegment s)

/-- SEGMENT_ACKNOWLEDGEMENT (R408). -/
def execSegmentAcknowledgement (s : State) : Host.Outcome State Fault Refusal := .next (transfer 0x21 xferAck s)

/-- TRANSFER_ABORT (R407). -/
def execTransferAbort (s : State) : Host.Outcome State Fault Refusal := .next (transfer 0x3F xferEnd s)

/-- TRANSFER_TIMEOUT (R408). -/
def execTransferTimeout (s : State) : Host.Outcome State Fault Refusal := .next (xferTimeout s)

/-- COAP_REQUEST (R409). -/
def execCoapRequest (session : Nat) (m : CoapMsg) (s : State) : Host.Outcome State Fault Refusal :=
  .next (if s.flt.escalated ∨ !s.pwr.started then s else coapMessage session m false s)

/-- BLOCK1_DISCARD (R411). -/
def execBlock1Discard (session : Nat) (s : State) : Host.Outcome State Fault Refusal := .next (block1Discard session s)

/-- SEPARATE_RESPONSE (R412): a message whose answer takes longer than 1 s. -/
def execSeparateResponse (session : Nat) (m : CoapMsg) (s : State) : Host.Outcome State Fault Refusal :=
  .next (if s.flt.escalated ∨ !s.pwr.started then s else coapMessage session m true s)

/-- MODULE_RESTART: 1:0E00 (R416). -/
def execModuleRestart (via : ReqVia) (s : State) : Host.Outcome State Fault Refusal := .next (command 1 0x0E00 via s)

/-- RESTORE_FACTORY: 1:0F00 (R402). -/
def execRestoreFactory (via : ReqVia) (s : State) : Host.Outcome State Fault Refusal := .next (command 1 0x0F00 via s)

/-- FORCED_SET: 2:0004 (R62). -/
def execForcedSet (via : ReqVia) (s : State) : Host.Outcome State Fault Refusal := .next (command 2 0x0004 via s)

/-- IDENTIFY: element 81 (R197). -/
def execIdentify (via : ReqVia) (s : State) : Host.Outcome State Fault Refusal := .next (nodeRequest 81 via s)

/-- CLEAR_NODE_FAULT: element 82 (R197). -/
def execClearNodeFault (via : ReqVia) (s : State) : Host.Outcome State Fault Refusal := .next (nodeRequest 82 via s)

/-- REJOIN: element 83 (R204). -/
def execRejoin (via : ReqVia) (s : State) : Host.Outcome State Fault Refusal := .next (nodeRequest 83 via s)

/-- LEAVE: element 84 (R204). -/
def execLeave (via : ReqVia) (s : State) : Host.Outcome State Fault Refusal := .next (nodeRequest 84 via s)

/-- NODE_READ: element 85 (R198). -/
def execNodeRead (via : ReqVia) (s : State) : Host.Outcome State Fault Refusal := .next (nodeRequest 85 via s)

/-- CLEAR_REGISTERS: 7:0005 (R321). -/
def execClearRegisters (via : ReqVia) (s : State) : Host.Outcome State Fault Refusal := .next (command 7 0x0005 via s)

/-- NEW_EPOCH: B:0002 (R172). -/
def execNewEpoch (via : ReqVia) (s : State) : Host.Outcome State Fault Refusal := .next (command 11 0x0002 via s)

/-- ARM: D:0002 (R542). -/
def execArm (via : ReqVia) (s : State) : Host.Outcome State Fault Refusal := .next (command 13 0x0002 via s)

/-- DISARM: D:0003 (R545). -/
def execDisarm (via : ReqVia) (s : State) : Host.Outcome State Fault Refusal := .next (command 13 0x0003 via s)

/-- CONFIRM: D:0005 (R548). -/
def execConfirm (via : ReqVia) (s : State) : Host.Outcome State Fault Refusal := .next (command 13 0x0005 via s)

/-- REVERT: D:0006 (R548). -/
def execRevert (via : ReqVia) (s : State) : Host.Outcome State Fault Refusal := .next (command 13 0x0006 via s)

/-- NODE_DISTRIBUTION: D:0011 (R218). -/
def execNodeDistribution (via : ReqVia) (s : State) : Host.Outcome State Fault Refusal := .next (command 13 0x0011 via s)

/-- LOAD_OPEN: D:0020 (R532). -/
def execLoadOpen (via : ReqVia) (s : State) : Host.Outcome State Fault Refusal := .next (command 13 0x0020 via s)

/-- LOAD_DATA: D:0021 (R532). -/
def execLoadData (via : ReqVia) (s : State) : Host.Outcome State Fault Refusal := .next (command 13 0x0021 via s)

/-- LOAD_CLOSE: D:0022 (R533). -/
def execLoadClose (via : ReqVia) (s : State) : Host.Outcome State Fault Refusal := .next (command 13 0x0022 via s)

/-- LOAD_ABORT: D:0024 (R532). -/
def execLoadAbort (via : ReqVia) (s : State) : Host.Outcome State Fault Refusal := .next (command 13 0x0024 via s)

/-- CLEAR_FAULT: E:0003 (R557). -/
def execClearFault (via : ReqVia) (s : State) : Host.Outcome State Fault Refusal := .next (command 14 0x0003 via s)

/-- TEST_TRANSMISSION: F:00F0 (R431). -/
def execTestTransmission (via : ReqVia) (s : State) : Host.Outcome State Fault Refusal := .next (command 15 0x00F0 via s)

/-- GAIN_SURVEY: 5:0010 (R255). -/
def execGainSurvey (via : ReqVia) (s : State) : Host.Outcome State Fault Refusal := .next (command 5 0x0010 via s)

/-- INPUT_OVERRIDE: 6:0500 (R293). -/
def execInputOverride (via : ReqVia) (s : State) : Host.Outcome State Fault Refusal := .next (command 6 0x0500 via s)

/-- ZONE_OVERRIDE: 6:0501 (R293). -/
def execZoneOverride (via : ReqVia) (s : State) : Host.Outcome State Fault Refusal := .next (command 6 0x0501 via s)

/-- GROUP_OVERRIDE: 6:0502 (R293). -/
def execGroupOverride (via : ReqVia) (s : State) : Host.Outcome State Fault Refusal := .next (command 6 0x0502 via s)

/-- ZONE_SET_OVERRIDE: 6:0503 (R292). -/
def execZoneSetOverride (via : ReqVia) (s : State) : Host.Outcome State Fault Refusal := .next (command 6 0x0503 via s)

/-- MAPPING_CHECK: 7:0003 (R335). -/
def execMappingCheck (via : ReqVia) (s : State) : Host.Outcome State Fault Refusal := .next (command 7 0x0003 via s)

/-- HANDOVER: 9:0006 (R389). -/
def execHandover (via : ReqVia) (s : State) : Host.Outcome State Fault Refusal := .next (command 9 0x0006 via s)

end Sys2Proof.Machine
end

