-- ==== Sys2Proof/Machine/Link.lean ====
section
/-!
DEFINITION. What comes in over the stack link (R377-R388): frames and their checks, items, the partner's stream, and the time
of a cycle frame or of the partner's slot (R385).
-/

namespace Sys2Proof.Machine

/-! ### Records of the stream (R387) -/

/-- A record of the partner's stream, taken apart from its octets; none where they end before it does. -/
def streamRecord (b : List Byte) : Option (StreamRec × List Byte) :=
  let n := leAt b 2 2
  if b.length < 4 ∨ b.length < 4 + n then none
  else some ({ rtype := leAt b 0 1, essential := bit (leAt b 1 1) 0, body := octets b 4 n }, b.drop (4 + n))

/-- Record 0x10: the node entry, its octets in the node state table and its key inputs. -/
def applyNode (b : List Byte) (s : State) : State :=
  let a := leAt b 8 2
  let st := leAt b 10 1
  let e : NodeEntry := { eui := octets b 0 8, released := !bit st 0, lane := bits st 1 2, relay := bit st 3, depth := bits st 4 4,
                         parent := leAt b 12 2, version := leAt b 14 1, repU := leAt b 15 1, repO := leAt b 16 1,
                         nnonce := octets b 17 8, mnonce := octets b 25 8, seq := leAt b 33 2, nkind := leAt b 35 1 }
  linkWrite a e (!e.released) (showEntry a (setEntry a e s))

/-- Record 0x11: the highest accepted counter. -/
def applyCounter (b : List Byte) (s : State) : State :=
  let a := leAt b 0 2
  setMemNat { s with tte := { s.tte with windows := sdel s.tte.windows a } } (counterCell a) 4 (leAt b 2 4)

/-- Record 0x12: an entry of a plan, which the module's own directory of cells follows. -/
def applyPlan (b : List Byte) (s : State) : State :=
  let p := leAt b 0 1 == 1
  let i := leAt b 1 1
  let o := leAt b 2 1
  let v := leAt b 3 4
  let base := 65536 * fld s (if p then R.TTE_PLAN_B_addr else R.TTE_PLAN_A_addr)
  let s := setMemNat s (base + 256 * i + 4 * o) 4 v
  let put (l : List (Nat × Nat)) : List (Nat × Nat) := if v = 0 then sdel l (64 * i + o) else sins l (64 * i + o) v
  let s := setNodes (if p then { s.nodes with planB := put s.nodes.planB } else { s.nodes with planA := put s.nodes.planA }) s
  fwField tteWritten R.TTE_PLANSEL_sel (b2n p) s

/-- Record 0x20: a zone's state, kept for a takeover. -/
def applyZone (b : List Byte) (s : State) : State :=
  setTkn { s.tkn with zstates := sins s.tkn.zstates (leAt b 0 1) (octets b 11 0x400), pmark := leAt b 5 6 } s

/-- Record 0x21: tables; a directory that is written is the one selected. -/
def applyTable (b : List Byte) (s : State) : State :=
  let a := leAt b 0 4
  let s := setBytes s a (b.drop 4)
  let within (d : Bool) : Bool := dirBase s d ≤ a && a < dirBase s d + 4096
  if within true then fwField lfeWritten R.LFE_DIRSEL_sel 1 s
  else if within false then fwField lfeWritten R.LFE_DIRSEL_sel 0 s
  else s

/-- The stream's session: it serves every object of the module's own version. -/
def streamSession : Session := { id := 0, iface := 4, sid := 0, peer := [], version := some (1, 4), factory := false, usedAt := 0 }

/-- The active module's outcome of an activation (R551): a standby with the other outcome takes it. -/
def applyOutcome (v : Nat) (s : State) : State :=
  let a := s.nv.upd.act
  if v = 2 ∧ a.state = 3 then activationApply (setAct { a with state := 1 } s)
  else if v = 3 ∧ a.state = 2 then revertTrial false s
  else s

/-- Record 0x30: an object write, or the command of R507 or R549. -/
def applyWrite (b : List Byte) (s : State) : State :=
  let area := leAt b 0 1
  let obj := leAt b 1 2
  let el := leAt b 3 1
  let v := b.drop 4
  if area = 13 ∧ obj = 4 then applyOutcome (leNat v) s
  else
    -- a command with `SYS_UID0` names the active module; here it is the standby's own
    let v := if area = 13 ∧ (obj = 3 ∨ obj = 5 ∨ obj = 6 ∨ obj = 0x22 ∨ obj = 0x24) then leBytes 4 uid0 else v
    (odRequest streamSession 0x11 area obj el v s).2

/-- Record 0x31: an override begins, ends, or is cancelled. -/
def applyOverride (b : List Byte) (s : State) : State :=
  match [1, 2, 3, 4, 5].find? (fun k => Config.code 2 k % 256 == leAt b 0 1) with
  | none => s
  | some kind =>
    let o : Override := ⟨kind, leAt b 1 1, leAt b 2 1, leAt b 3 1, leAt b 4 2, leAt b 6 2, leAt b 8 4, 0, []⟩
    let same (x : Override) : Bool := x.kind == kind && x.rank == o.rank && x.zone == o.zone && x.input == o.input && x.group == o.group
    let l := s.nv.overrides.filter (fun x => !same x)
    if o.stop ≠ 0 ∧ o.stop ≤ netSec s then setOverrides l s
    else
      let s := setOverrides l s
      let s := if o.levels then overrideTake (o.names s) s else s
      setOverrides (s.nv.overrides ++ [{ o with holds := o.names s, renew := netSec s + 1800 }]) s

/-- Records 0x40 and 0x41: a journal entry, a release. -/
def applyJournal (e : JEntry) (s : State) : State :=
  let j := s.nv.journal
  { s with nv := { s.nv with journal := { j with head := j.head ++ [e], next := max j.next (e.jseq + 1) } } }

/-- Record 0x50: the outputs. -/
def applyOutputs (b : List Byte) (s : State) : State :=
  fwField iocWritten R.IOC_GOUT_v (leAt b 2 2) (fwField iocWritten R.IOC_CTRL_ctc (leAt b 0 1 % 16) s)

/-- Record 0x51: word 0 of wired channels. -/
def applyWired (b : List Byte) (s : State) : State :=
  upTo (min (leAt b 2 2) ((b.length - 4) / 4)) (fun k s => sdcPut (16 * (leAt b 0 2 + k)) (leAt b (4 + 4 * k) 4) s) s

/-- Record 0x70: the epoch that comes, with its timetable, or the one in force. -/
def applyEpoch (b : List Byte) (s : State) : State :=
  let e := leAt b 0 1
  let t := leAt b 1 6
  if t = 0 then { s with nv := { s.nv with epochNo := e } }
  else
    let c := 1 - ctxInForce s
    let s := startCounter c 1 (loadContext c e (slotKey s 3).isSome s)
    setNodes { s.nodes with epoch := { phase := 2, epoch := e, ctx := c, since := pathNow s, left := [], switchAt := 256 * t } } s

/-- Applies one record; an unknown type is skipped and counted (R387, R388). -/
def applyRecord (r : StreamRec) (s : State) : State :=
  let b := r.body
  match r.rtype with
  | 0x01 => setTkn { s.tkn with synced := false, essential := false } s
  | 0x02 => fwField tknWritten R.TKN_CTRL_arm 1 (setTkn { s.tkn with synced := true } s)
  | 0x10 => applyNode b s
  | 0x11 => applyCounter b s
  | 0x12 => applyPlan b s
  | 0x20 => applyZone b s
  | 0x21 => applyTable b s
  | 0x30 => applyWrite b s
  | 0x31 => applyOverride b s
  | 0x40 => match decodeJ b with
    | some e => applyJournal e s
    | none => s
  | 0x41 => applyJournal { jseq := s.nv.journal.next, kind := 0x80, flags := 0, who := 0, cseq := 0, made := netSec s % 2 ^ 48,
                           body := b.take 8 } s
  | 0x50 => applyOutputs b s
  | 0x51 => applyWired b s
  | 0x60 => energyLatch (leAt b 2 2) (leAt b 4 4) (if leAt b 14 1 = 0 then 10 else 100) (leAt b 8 6) (bit (leAt b 16 1) 0) s
  | 0x70 => applyEpoch b s
  | _ => setTkn { s.tkn with skipped := s.tkn.skipped + 1, essential := s.tkn.essential || r.essential } s

/-- Applies every complete record that has come. -/
def applyStream : Nat → State → State
  | 0, s => s
  | n + 1, s =>
    match streamRecord s.tkn.rx with
    | none => s
    | some (r, rest) => applyStream n (applyRecord r (setTkn { s.tkn with rx := rest } s))

/-- Octets of the stream from offset `q` on (R386). A gap waits for the resend; the begin of a snapshot starts anew. -/
def streamTaken (q : Nat) (b : List Byte) (s : State) : State :=
  let skip := (s.tkn.expect + 2 ^ 32 - q) % 2 ^ 32
  let begins := leAt b 0 1 == 1 && leAt b 2 2 == 4 && 4 < b.length
  if !s.tkn.wantSnap ∧ skip < b.length then
    let n := b.drop skip
    let s := setTkn { s.tkn with rx := s.tkn.rx ++ n, expect := (s.tkn.expect + n.length) % 2 ^ 32, gapAt := none } s
    applyStream s.tkn.rx.length s
  else if begins ∧ (s.tkn.wantSnap ∨ 2 ^ 31 ≤ skip) then
    let s := setTkn { s.tkn with rx := b, expect := (q + b.length) % 2 ^ 32, gapAt := none, wantSnap := false } s
    applyStream b.length s
  else if 2 ^ 31 ≤ skip then setTkn { s.tkn with gapAt := some (s.tkn.gapAt.getD s.now) } s
  else s

/-- The standby's acknowledgement (R386). -/
def ackTaken (a : Nat) (snap : Bool) (s : State) : State :=
  let lag := (s.tkn.sseq + 2 ^ 32 - a) % 2 ^ 32
  let n := if lag ≤ s.tkn.sseq then s.tkn.sseq - lag else 0
  let s := if s.tkn.ack < n then setTkn { s.tkn with ack := n, ackAt := s.now } s else s
  let s := if snap then setTkn { s.tkn with wantSnap := true } s else s
  if n < s.tkn.base then setTkn { s.tkn with ack := n } s else s

/-! ### Items (R381, R382) -/

/-- An energy latch of another member's node (R330). -/
def foreignLatch (member : Nat) (b : List Byte) (s : State) : State :=
  let k := 8192 * member + leAt b 2 2
  let l := sget (fun _ => ({} : NodeLive)) s.bal.foreign k
  let l := l.latch (leAt b 4 4) (if leAt b 14 1 = 0 then 10 else 100) (leAt b 8 6 * pathLen s) (bit (leAt b 16 1) 0 || l.raw.isNone)
  setBal { s.bal with foreign := sput (fun _ => {}) s.bal.foreign k l, foreignFdr := sput (fun _ => 0xFF) s.bal.foreignFdr k (leAt b 15 1) } s

/-- An event item: the active module commits it; a standby keeps it for a switch. -/
def eventTaken (item : List Byte) (s : State) : State :=
  if isActive s then commitEvent item s
  else if keepsForSwitch s then setTkn { s.tkn with keptItems := s.tkn.keptItems ++ [item] } s
  else s

/-- Whether an item's `dst` names this module. -/
def itemForMe (s : State) (dst : Nat) : Bool := dst == 0xFF || dst == ownMember s || dst == 0x10 + ownSlot s

/-- An item from slot `src`, as the firmware takes it from the receive queue. -/
def itemTaken (src : Nat) (it : List Byte) (s : State) : State :=
  let b := it.drop 4
  let partner := src == 2 * ownMember s + (1 - ownSide s) && isTwin s
  match leAt it 0 1 with
  | 0x01 => if partner ∧ role s = 1 then streamTaken (leAt b 0 4) (b.drop 4) s else s
  | 0x02 => if partner ∧ role s = 2 then ackTaken (leAt b 0 4) (leAt b 4 1 == 1) s else s
  | 0x05 => setTkn { s.tkn with fcs := sins s.tkn.fcs (src / 2) (leAt b 0 2) } s
  | k =>
    let n := leAt b 0 2
    if (k ≠ 3 ∧ k ≠ 4) ∨ slook s.tkn.iseqs (8 * k + src) = some n then s
    else
      let s := setTkn { s.tkn with iseqs := sins s.tkn.iseqs (8 * k + src) n } s
      if k = 3 then eventTaken (octets b 4 8) s else foreignLatch (src / 2) b s

/-- Cuts a slot frame's payload behind the heartbeat into items. -/
def itemsOf : Nat → List Byte → List (List Byte)
  | 0, _ => []
  | n + 1, b => if b.length < 4 ∨ b.length < 4 + leAt b 2 2 then [] else b.take (4 + leAt b 2 2) :: itemsOf n (b.drop (4 + leAt b 2 2))

/-- TKN commits the items that name this module, and the firmware takes them (R381). -/
def itemsIn (src : Nat) (items : List (List Byte)) (s : State) : State :=
  let q := fld s R.TKN_SLQ_rx
  items.foldl (fun s it =>
    if !itemForMe s (leAt it 1 1) then s
    else
      let (ok, s) := hwWrite agentTkn q src it s
      if !ok then s else match coreTake q s with
        | (some e, s) => itemTaken e.tag e.body s
        | (none, s) => s) s

/-! ### Frames (R379) -/

/-- A received frame's kind, slot, cycle, time and payload; none where a check other than the CRC fails. -/
def linkParse (f : List Byte) : Option (Nat × Nat × Nat × Nat × List Byte) :=
  let n := leAt f 12 2
  if f.length ≠ 24 + n ∨ 1460 < n ∨ leAt f 8 1 ≠ 1 ∨ leAt f 14 2 ≠ 0 then none
  else some (leAt f 9 1, leAt f 10 1, leAt f 11 1, leAt f 16 4, octets f 20 n)

/-- Whether the CRC of a frame holds. -/
def linkCrcOk (f : List Byte) : Bool := 24 ≤ f.length && leAt f (f.length - 4) 4 == crc32 (octets f 8 (f.length - 12))

/-- The sample of a frame whose sync field ends now (R385): nanoseconds of the sender, seconds of a cycle frame or the nearest. -/
def linkSample (kind ns : Nat) (secs : Option Nat) (s : State) : State :=
  let mine : Int := (netNs s : Int) - 50
  let frac : Int := (ns + fld s R.TKN_LDLY_ns : Nat)
  let d : Int := match secs with
    | some t => (t : Int) * 1000000000 + frac - mine
    | none => (frac - mine + 500000000) % 1000000000 - 500000000
  sourceSample kind d s

/-- Announces `ready` as R388 has it. -/
def readySettle (s : State) : State :=
  if !isTwin s ∨ role s ≠ 1 then s
  else
    let near : Bool := match s.tkn.gapAt with
      | some t => s.now ≤ t + msTicks 100
      | none => true
    setBool s R.TKN_ROLE_ready (s.tkn.synced && !s.tkn.essential && near && timeLocked s)

/-- A cycle frame. -/
def cycleFrame (cyc ns : Nat) (p : List Byte) (s : State) : State :=
  if p.length ≠ 80 ∨ timekeeper s && !isSet s R.TKN_SL_keeper then s
  else
    let s := hbTaken false (p.take 16) (cycleTaken cyc p s)
    if fld s R.TKN_SL_sync = 8 then
      let s := captureEvent 0x120 true s
      if bit (leAt p 30 1) 0 then linkSample 3 ns (some (leAt p 16 8)) s else s
    else s

/-- A slot frame of slot `src`. -/
def slotFrame (src ns uid sid : Nat) (p : List Byte) (s : State) : State :=
  if p.length < 16 ∨ 8 ≤ src ∨ src = ownSlot s then s
  else
    let s := hbTaken false (p.take 16) s
    let items := itemsOf p.length (p.drop 16)
    let s := if timekeeper s ∧ ownMember s = 0 then admitSender src uid sid s else s
    let s := if fld s R.TKN_SL_sync = src then
        let s := captureEvent 0x120 true s
        if leAt p 8 4 ≠ 0 ∧ role s = 1 then linkSample 4 ns none s else s
      else s
    readySettle (itemsIn src items s)

/-- A frame on the stack link; `uid` and `sid` are what the sender is to the master (R383). -/
def linkReceive (f : List Byte) (uid sid : Nat) (s : State) : State :=
  if !busy s 13 then s
  else if !linkCrcOk f then bump s R.TKN_CNT_crc 1
  else match linkParse f with
    | some (0, 0xFF, cyc, ns, p) => cycleFrame cyc ns p s
    | some (1, src, _, ns, p) => slotFrame src ns uid sid p s
    | _ => s

/-- LINK_FRAME_RECEIVE (R379). -/
def execLinkFrameReceive (frame : List (BitVec 8)) (uid sid : Nat) (s : State) : Host.Outcome State Fault Refusal :=
  .next (linkReceive frame uid sid s)

end Sys2Proof.Machine
end

