-- ==== Sys2Proof/Machine/PathClock.lean ====
section
/-!
DEFINITION. The path clock (chapter 03): what a path boundary, an accepted set or step, a new path length and a comparator
do in NTB and in every block they reach.
-/

namespace Sys2Proof.Machine

/-! ### Firings (R66, R68, R76, R77) -/

/-- The firmware's part of comparator 2's firing for the instant `t`: at a whole hour the interval length of 7:0006 comes
into force and the comparator follows it (R314). -/
def intervalChange (t : Nat) (s : State) : State :=
  let m := odNat s 7 6 0
  if t % 3600000000000 = 0 ∧ m ≠ fld s R.MTR_DI_min ∧ busy s 9 then fwField mtrWritten R.MTR_DI_min m s else s

/-- Once the pulse has put the new length in force, comparator 2 runs at it. -/
def intervalRearm (s : State) : State :=
  let per := 60000000000 * fld s R.MTR_DI_min
  if isSet s (R.CMPn_CFG_en 2) ∧ cmpPeriod s 2 ≠ per then cmpTime 2 (nextMultiple s per) per 3 s else s

/-- One pulse of comparator `n` at its destination; a destination hit twice in a tick receives one (R77). -/
def routePulse (n : Nat) (locked : Bool) (s : State) : State :=
  let r := fld s (R.CMPn_CFG_route n)
  let key := if r = 6 then 16 + n else r
  let hit := if s.ntb.pulseAt = s.now then s.ntb.pulsed else []
  if r = 0 ∨ hit.contains key then s
  else
    let s := { s with ntb := { s.ntb with pulseAt := s.now, pulsed := key :: hit } }
    match r with
    | 1 => if isSet s R.LFE_CTRL_run then { s with ntb := { s.ntb with pulses := sins s.ntb.pulses 1 s.ntb.path } } else s
    | 2 => let was := isSet s R.MTR_STAT_aligned && busy s 9
      let s := routePulse2 s
      if was then balanceWindow s else s
    | 3 => routePulse3 locked s
    | 4 => updPulse s locked
    | 5 => routePulse5 s
    | 6 => gpioFire n s
    | _ => tteOpen s

/-- Comparator `n` fires for the instant `t`; `skip` marks a firing for a jump. -/
def cmpFire (n t : Nat) (skip : Bool) (s : State) : State :=
  let locked := timeLocked s
  let s := setBool (raise (raise s (R.CMPn_CST_fired n)) R.NTB_IFLG_trig) (R.CMPn_CST_lockd n) locked
  let s := if skip then raise s (R.CMPn_CST_skip n) else s
  let fw := s.pwr.started && !s.flt.escalated
  let s := if n = 2 ∧ fw then intervalChange t s else s
  let s := routePulse n locked s
  if n = 2 ∧ fw then intervalRearm s else if n = 5 ∧ fw then meterSave s else s

/-- A time comparator that has reached its instant fires; it advances, or a one-shot disarms. After a jump it passes every
instant up to the new time (R66). -/
def timeFire (n : Nat) (skip : Bool) (s : State) : State :=
  let t := cmpNext s n
  let per := cmpPeriod s n
  let s := if per = 0 then lower s (R.CMPn_CFG_en n)
    else if skip then
      let next := advancePast t per (netNs s)
      setCmpNext n next (bump s (R.CMPn_CST_nskip n) ((next - t) / per - 1))
    else setCmpNext n (t + per) s
  cmpFire n t skip s

/-- A waiting firing of path comparator `n` is sent. -/
def pathFire (n t : Nat) (skip : Bool) (s : State) : State := cmpFire n t skip (cmpDisarm n s)

/-- Comparator `n` where its instant is reached (R76). -/
def comparatorFire (n : Nat) (s : State) : State :=
  if 16 ≤ n then s
  else match slook s.ntb.waiting n with
  | some t => if t ≤ netNs s then pathFire n t false s else s
  | none =>
    if isSet s (R.CMPn_CFG_en n) && !isSet s (R.CMPn_CFG_mode n) && decide (cmpNext s n ≤ netNs s) then timeFire n false s else s

/-! ### The path boundary (R65, R74) -/

/-- The path comparators that match path `p` wait for their instant. -/
def armWaiting (p : Nat) (s : State) : State :=
  upTo 16 (fun n s =>
    if isSet s (R.CMPn_CFG_en n) && isSet s (R.CMPn_CFG_mode n) && cmpK s n != 0 && p % cmpK s n == cmpJ s n then
      -- one that still waits has its instant in this tick
      let s := match slook s.ntb.waiting n with
        | some t => pathFire n t false s
        | none => s
      { s with ntb := { s.ntb with waiting := sins s.ntb.waiting n (pathStart s p + cmpDelay s n) } }
    else s) s

/-- A shadowed token and air grant come into force at a beacon interval; a new token starts the counters anew (R369, R498). -/
def tokenBoundary (s : State) : State :=
  let old := fld s R.TKN_TOKEN_tok
  let s := tknSettle false (transferShadows s 13 .beacon)
  if fld s R.TKN_TOKEN_tok = old then s else tokenCounters s

/-- What the firmware does at a path boundary. -/
def firmwareBoundary (p : Nat) (s : State) : State :=
  if !s.pwr.started then s
  else
    let s := groupStep (s.nodes.groups.length + 1) s
    let s := if p % 256 = 0 then epochTimetable p s else s
    pairUpdate (splitResolved (distBoundary p s))

/-- The boundary of path `p` in every block but the comparators. -/
def pathBoundary (p : Nat) (obs : PathObs) (s : State) : State :=
  let s := radioBoundary p obs s
  let s := { s with ntb := { s.ntb with path := p } }
  let s := raise s R.NTB_IFLG_path
  let s := if p % 64 = 0 then raise s R.NTB_IFLG_bint else s
  let s := transferShadows (transferShadows s 6 .path) 7 .path
  let plan := fld s R.TTE_PLANSEL_sel
  let s := if p % 256 = 0 then transferShadows (transferShadows s 7 .timetable) 8 .timetable else s
  let s := if fld s R.TTE_PLANSEL_sel = plan then s else raise s R.TTE_IFLG_plan
  let s := if p % 64 = 0 then tokenBoundary s else s
  let s := handoverBoundary p s
  let s := if p % 256 = 0 then radioTimetable obs s else s
  let s := tteBoundary (isSet s R.TKN_STAT_air) p s
  rfeShow (firmwareBoundary p s)

/-- Whether network time has left the path in progress. -/
def boundaryDue (s : State) : Bool := isSet s R.NTB_CTRL_run && s.ntb.path < netNs s / pathLen s

/-- Whether a shadowed path length has reached its boundary (R75). -/
def plenDue (s : State) : Bool :=
  match s.ntb.plenAt with
  | some t => t ≤ netNs s
  | none => false

/-- The boundary that network time has reached. -/
def pathClock (obs : PathObs) (s : State) : State :=
  let p := netNs s / pathLen s % 2 ^ 48
  armWaiting p (pathBoundary p obs s)

/-- A shadowed path length comes into force (R75, R78); the boundary of its tick follows. -/
def plenSwitch (s : State) : State :=
  let s := transferShadows { s with ntb := { s.ntb with plenAt := none } } 2 .plen
  cmpPlenCheck (raise (setFld s R.NTB_STAT_plen_act (fld s R.NTB_PATHCFG_plen)) R.NTB_IFLG_plen)

/-! ### Sets and steps (R60, R61, R64-R66) -/

/-- A signed difference in units of 2^-24 ns as NTB_JDIFF holds it. -/
def jumpMicros (d : Int) : Nat := unsigned 32 (clampInt (-(2 ^ 31)) (2 ^ 31 - 1) (d.tdiv (1000 * 2 ^ 24)))

/-- The comparators after a forward jump from before to the new time: each whose instant was passed fires once (R66, R76). -/
def jumpFire (boundary : Bool) (p : Nat) (s : State) : State :=
  upTo 16 (fun n s =>
    let matched := boundary && isSet s (R.CMPn_CFG_en n) && isSet s (R.CMPn_CFG_mode n) && cmpK s n != 0 && p % cmpK s n == cmpJ s n
    let t := pathStart s p + cmpDelay s n
    match slook s.ntb.waiting n with
    | some w =>
      if w ≤ netNs s then
        if matched then
          if t ≤ netNs s then bump (pathFire n w true s) (R.CMPn_CST_nskip n) 1
          else
            let s := pathFire n w true s
            { s with ntb := { s.ntb with waiting := sins s.ntb.waiting n t } }
        else pathFire n w true s
      else s
    | none =>
      if matched then
        if t ≤ netNs s then pathFire n t true s
        else { s with ntb := { s.ntb with waiting := sins s.ntb.waiting n t } }
      else if isSet s (R.CMPn_CFG_en n) && !isSet s (R.CMPn_CFG_mode n) && decide (cmpNext s n ≤ netNs s) then timeFire n true s
      else s) s

/-- The request in hand at its tick. -/
def adjustApply (r : TimeAdj) (obs : PathObs) (s : State) : State :=
  let s := lower { s with ntb := { s.ntb with adj := none } } R.NTB_STAT_adj_busy
  let now := (netNs s : Int) * 2 ^ 24 + s.ntb.frac
  let value : Int := (if r.step then signed 64 r.sec else r.sec) * 1000000000 + r.ns
  let diff := if r.step then value * 2 ^ 24 else value * 2 ^ 24 - now
  let s := setFld s R.NTB_JDIFF_us (jumpMicros diff)
  let data := leBytes 4 (jumpMicros diff)
  if fld s R.NTB_STAT_tstate = 2 ∧ (fld s R.NTB_GUARD_us * 1000 * 2 ^ 24 : Nat) < diff.natAbs then
    post 0x02 0x02 data (raise s R.NTB_IFLG_jref)
  else
    let old := netNs s
    let tstate := fld s R.NTB_STAT_tstate
    let new : Int := if r.step then (netNs s : Int) + value else value
    let s := { s with ntb := { s.ntb with sec := unsigned 64 (new / 1000000000), ns := (new % 1000000000).toNat, frac := 0 } }
    let s := raise (setFld s R.NTB_STAT_tstate (if r.src then 2 else 1)) R.NTB_IFLG_jump
    let s := post 0x02 0x01 data s
    let s := if tstate = 0 then setNodes { s.nodes with startPath := netNs s / pathLen s } s else s
    let s := if s.pwr.started then schedEvaluate s else s
    if old < netNs s then
      let due := boundaryDue s
      let s := if due && plenDue s then plenSwitch s else s
      let p := netNs s / pathLen s % 2 ^ 48
      jumpFire due p (if due then pathBoundary p obs s else s)
    else s

/-! ### Received frames (R374) -/

/-- A frame ends at the antenna; the firmware compares the token of every authenticated beacon of its own segment and member. -/
def frameReceived (r : RxFrame) (s : State) : State :=
  match receiveFrame r s with
  | (none, s) => s
  | (some b, s) =>
    let seg := leAt b 6 2
    if s.pwr.started ∧ isTwin s ∧ seg % 1024 = odForceNat s 9 1 0 % 1024 ∧ bits seg 10 2 = ownMember s then
      beaconCompare (leAt b 8 4) (bits seg 12 1) s
    else s

/-! ### The commands -/

/-- Network time passes a whole multiple of L (PATH_BOUNDARY, R74). -/
def execPathBoundary (obs : PathObs) (s : State) : Host.Outcome State Fault Refusal :=
  .next (if boundaryDue s && !plenDue s then pathClock obs s else s)

/-- A shadowed path length takes effect (PATH_LENGTH_CHANGE, R75). -/
def execPathLengthChange (obs : PathObs) (s : State) : Host.Outcome State Fault Refusal :=
  .next (if plenDue s then pathClock obs (plenSwitch s) else s)

/-- The second tick after a request (TIME_ADJUST_APPLY, R61). -/
def execTimeAdjustApply (obs : PathObs) (s : State) : Host.Outcome State Fault Refusal :=
  .next (match s.ntb.adj with
    | some r => if r.due ≤ s.now then adjustApply r obs s else s
    | none => s)

/-- A comparator reaches its instant (COMPARATOR_FIRE, R76). -/
def execComparatorFire (n : Nat) (s : State) : Host.Outcome State Fault Refusal := .next (comparatorFire n s)

/-- A frame passes its PHR (RX_FRAME, R89). -/
def execRxFrame (f : RxFrame) (s : State) : Host.Outcome State Fault Refusal := .next (frameReceived f s)

end Sys2Proof.Machine
end

