-- ==== Sys2Proof/Machine/Start.lean ====
section
/-!
DEFINITION. From reset to a running segment (R614-R616, R537, R560, R604): the boot ROM, the resident firmware's start in the
order of R615, its last steps after the first cycle, and timetable keeping.
-/

namespace Sys2Proof.Machine

/-! ### The boot ROM (R614, R537) -/

/-- Selects the bank to start and says so in UPD_BOOT; whether one may be started stands beside the state. -/
def bankSelect (s : State) : Bool × State :=
  let r := bootRecord s
  let named : Bool := r.trial ≤ 1
  let trial := named && decide (1 ≤ r.tries) && !r.failed
  let tries := if trial then r.tries - 1 else 0
  let out := named && !trial && !r.failed
  let r := if trial then { r with tries } else if out then { r with failed := true } else r
  let first := if trial then r.trial else r.bank % 2
  let good := bankVerifies s first
  let bank := if good then first else 1 - first
  let s := if named then bootWrite (if trial ∧ !good then { r with failed := true } else r) s else s
  let s := if good ∨ trial then s
    else bootWrite { bootRecord s with bank } (setBankState bank 5 (setBankState first 7 s))
  let w := bank + 2 * b2n (trial && good) + 4 * b2n out + 8 * b2n (!good) + 16 * tries
  (bankVerifies s bank, fwWrite updWritten A.UPD_BOOT (BitVec.ofNat 32 w) s)

/-- The boot ROM, `rebuilt` being what the regeneration of the vault meets (R485). -/
def bootRom (rebuilt : Bool) (s : State) : State :=
  if s.pwr.booted ∨ s.pwr.asleep ∨ !s.pwr.vin then s
  else
    let s := setSys { s.sys with wdt0From := s.now, wdt0Warned := false } s
    let s := if s.pwr.warning then s else raise s R.IOC_STAT_vin_ok
    let s := fwWrite (kvtWrittenWith rebuilt) A.KVT_CTRL 0x10 s
    let s := raise (fwField bscWritten R.BSC_CTRL_run 1 s) R.BSC_STAT_ready
    let s := fwField ntbWritten R.NTB_CTRL_run 1 s
    let (ok, s) := bankSelect s
    setPwr { s.pwr with booted := ok } s

/-! ### Step 1: the backup domain and the recorder (R598, R520, R612) -/

/-- The record in 64 octets. -/
def decodeRecord (b : List Byte) : EvtRecord :=
  let fl := leAt b 29 1
  { seq := some (leAt b 0 8), sec := leAt b 8 8, ns := leAt b 16 4, optime := leAt b 20 4, pcyc := leAt b 24 4, src := leAt b 28 1,
    tstate := fl % 4, fnd := bit fl 2, rpt := bit fl 3, partner := bit fl 4, full := bit fl 5, code := leAt b 30 2,
    rep := leAt b 32 2, seg := leAt b 34 2, first := leAt b 36 4, data := octets b 40 20 }

/-- One above the highest number in the rolling area. -/
def nextRecord (s : State) : Nat :=
  let blocks := s.bulk.filter (fun p => partitionFirst 6 + 1024 ≤ p.1 ∧ p.1 < partitionFirst 6 + partitionBlocks 6)
  let seqs := blocks.flatMap (fun p => (List.range 64).filterMap (fun i =>
    let b := padTo 64 (octets p.2 (64 * i) 64)
    if recordIntact b ∧ b.any (· != 0) then some (leAt b 0 8 + 1) else none))
  seqs.max?.getD 0

/-- The spilled records become durable; without a valid spill the records of the last second may be missing. -/
def recorderStart (s : State) : State :=
  let s := if spillValid s then
      let a := spillAddr s
      let s1 := (List.range (memNat s a 4)).foldl (fun t i => recordDurable (decodeRecord (memBytes s (a + 64 + 64 * i) 64)) t) s
      spillInvalidate (setEvrSeq s1 (memNat s (a + 8) 8))
    else post 0x0C 0x03 [] (setEvrSeq s (nextRecord s))
  fwField evrWritten R.EVR_CTRL_run 1 s

/-- The start's cause is recorded and cleared; three starts in a row after a hang raise 0x0101 (R560). -/
def startCause (s : State) : State :=
  let c := bits (reg s A.SYS_RSTCAUSE).toNat 0 5
  let bank := fld s R.UPD_BOOT_bank
  let s := postFnd 0x00 0x01 (leBytes 1 c ++ leBytes 4 (imgVersion (sectionHeader s bank 0))) (odSet s 1 1 0 (leBytes 1 c))
  let s := setReg s A.SYS_RSTCAUSE 0
  let l := ((opTime s, bit c 2) :: s.nv.starts).take 3
  let s := { s with nv := { s.nv with starts := l } }
  let hung : Bool := match l with
    | [a, b, d] => a.2 && b.2 && d.2 && decide (a.1 ≤ d.1 + 3600)
    | _ => false
  if hung then faultRaise 0x0101 0 true s else s

/-- What the boot ROM found of a trial bank: a failed start ends the trial (R537, R547). -/
def bootOutcome (s : State) : State :=
  let r := bootRecord s
  if r.trial ≤ 1 ∧ r.failed then
    if s.nv.upd.trial.isSome then revertTrial true s
    else postFnd 0x0E 0x05 [] (bootWrite { r with trial := 0xFF, tries := 0, failed := false } (setBankState (r.trial % 2) 7 s))
  else s

/-! ### Step 2: settings (R400, R418, R615) -/

/-- The agents and sizes of the queues (R475). -/
def queueLayout : List (Nat × Nat × Nat × Nat) :=
  [(0, 32, 1, 2), (1, 16, 1, 2), (2, 8, 1, 0), (3, 8, 1, 0), (4, 16, 2, 1), (5, 16, 2, 1), (6, 16, 2, 1), (7, 16, 2, 1),
   (8, 8, 0, 1), (9, 8, 0, 1), (10, 8, 0, 1), (11, 8, 0, 1), (12, 16, 0, 1), (13, 16, 0, 1), (14, 16, 0, 1), (15, 16, 0, 1)] ++
  [(16, 8, 0, 1), (17, 8, 0, 2), (18, 32, 2, 0), (19, 32, 0, 3), (20, 32, 3, 0), (21, 32, 4, 0), (22, 32, 0, 4), (23, 16, 4, 0),
   (24, 16, 0, 4), (25, 8, 4, 0), (26, 8, 0, 4), (27, 16, 4, 0), (28, 16, 0, 4), (29, 16, 0, 0), (30, 8, 0, 0), (31, 8, 0, 0)]

/-- Lays out the queues and starts PQU. -/
def queuesStart (s : State) : State :=
  let laid := queueLayout.foldl (fun (acc : Nat × State) q =>
    (acc.1 + q.2.1, fwWrite pquWritten (A.PQU_Qn_CFG q.1)
      (BitVec.ofNat 32 (acc.1 + q.2.1 * 2 ^ 16 + q.2.2.1 * 2 ^ 25 + q.2.2.2 * 2 ^ 28 + 2 ^ 31)) acc.2)) (0, s)
  let s := laid.2
  let wm (n hi lo : Nat) (s : State) : State := fwWrite pquWritten (A.PQU_Qn_WM n) (BitVec.ofNat 32 (hi + 65536 * lo)) s
  fwField pquWritten R.PQU_CTRL_run 1 (wm 28 48 16 (wm 27 48 16 (wm 24 48 16 (wm 23 48 16 (wm 22 96 32 (wm 21 96 32 s))))))

/-- Every field that a persistent element drives, but for what starts a block. -/
def fieldsLoad (s : State) : State :=
  (persistentEntries s).foldl (fun s e =>
    if [1, 2, 3, 5, 6, 7, 8, 9, 15].contains e.area then
      fieldsWrite ((odFields s e.area e.obj e.el).filter (fun p => p.1 != R.MTR_CTRL_run && p.1 != R.SDC_CTRL_run)) s
    else s) s

/-- What core 1 may reach (1:0021-1:0027). -/
def coreOneLoad (s : State) : State :=
  let w (a obj : Nat) (s : State) : State := fwWrite planeWritten a (BitVec.ofNat 32 (odNat s 1 obj 0)) s
  let s := w A.BSC_C1ACC 0x25 (w A.SYS_C1BOOT 0x24 (w A.SYS_PLANE_RD 0x22 (w A.SYS_PLANE_WR 0x21 s)))
  let m := odNat s 1 0x23 0 + 65536 * odNat s 1 0x23 1 + 2 ^ 24 * odNat s 1 0x23 2
  let s := fwWrite planeWritten A.SYS_C1MEM (BitVec.ofNat 32 m) (w A.NTB_C1OWN 0x26 s)
  fwWrite planeWritten A.SYS_WDT1_CTRL (BitVec.ofNat 32 (odNat s 1 0x27 1 + 65536 * odNat s 1 0x27 0)) s

/-- The bit rates of A:0002 (R439). -/
def busRates (s : State) : State :=
  let n := natAt [511, 255, 127, 63] (odNat s 10 2 0)
  let t2 := (n + 1) / 4
  let s := fwWrite fbcWritten A.FBC_NBT (BitVec.ofNat 32 (n + t2 * 2 ^ 9 + t2 * 2 ^ 16 + 2 ^ 23)) s
  let k := odNat s 10 2 1
  let d1 := natAt [59, 59, 29, 11] k
  let d2 := natAt [20, 20, 10, 4] k
  let s := fwWrite fbcWritten A.FBC_DBT (BitVec.ofNat 32 (d1 + d2 * 2 ^ 6 + d2 * 2 ^ 11 + 2 ^ 16 + 2 ^ 24 * b2n (k != 0))) s
  fwWrite fbcWritten A.FBC_TDC (BitVec.ofNat 32 (if k = 2 then 30 + 256 else if k = 3 then 12 + 256 else 0)) s

/-- The pair and the stack (9:0003), and where time comes from over the link (R385). -/
def pairLoad (s : State) : State :=
  let v (el : Nat) : Nat := odNat s 9 3 el
  let w := v 0 + 2 * v 1 + 4 * v 2 + 16 * v 3 + 65536 * v 4
  let s := fwWrite tknWritten A.TKN_CFG (BitVec.ofNat 32 w) s
  let sync := if v 2 ≠ 0 then 8 else if v 0 = 1 then 2 * v 2 + 1 - v 1 else 15
  setFld (fwField tknWritten R.TKN_SL_sync sync s) R.TKN_ROLE_role 0

/-- The sidings' tables. -/
def sidingsLoad (s : State) : State :=
  let s := upTo 32 (fun k s => coefApply (k / 8) (k % 8) s) s
  let s := upTo 16 (fun k s => if (odGet s 8 (0x300 + k) 0).any (· != 0) then matrixApply (k / 4) (k % 4) s else s) s
  let s := upTo 512 (fun k s => deviceApply (k / 128) (k % 128) s) s
  let chans := (s.od.filterMap (fun p => if p.1 / 0x1000000 = 8 ∧ 0x2000 ≤ p.1 / 0x100 % 0x10000 ∧ p.1 / 0x100 % 0x10000 < 0x4000 then
    some (p.1 / 0x100 % 0x10000 - 0x2000) else none)).dedup
  chainComparator (chans.foldl (fun s h => channelApply h s) s)

/-- The persistent objects go to their registers. -/
def settingsLoad (s : State) : State :=
  let s := queuesStart s
  let s := fwField ntbWritten R.NTB_PATHCFG_plen (odForceNat s 3 1 0) s
  let s := pairLoad s
  let s := coreOneLoad (busRates s)
  let s := fwField planeWritten R.RFE_WIN_fc (odNat s 3 5 0) s
  let s := fwField planeWritten R.RFE_PHY_pre_len (odForceNat s 3 3 0) (fwField planeWritten R.RFE_PHY_rxrate (odForceNat s 3 2 0) s)
  let s := fwField planeWritten R.TTE_CFG_fec (odForceNat s 3 2 1) s
  let s := if octets (bulkBlock s 3 0) 0 4 = [0x58, 0x4E, 0x49, 0x4D] then profileWrite (profileInForce s) s else s
  let s := sidingsLoad (chargerEffects (dinShow (fieldsLoad s)))
  let s := fwField iocWritten R.IOC_CTRL_ain_en 1 s
  let s := fwField mtrWritten R.MTR_DI_min (odNat s 7 6 0) (fwField mtrWritten R.MTR_CTRL_ckdrv (if isTwin s then 2 else 1) s)
  let baud := max 1 (odNat s 10 0x14 0)
  fwWrite bhnWritten A.BHN_UART (BitVec.ofNat 32 ((3200000000 + baud / 2) / baud + 2 ^ 24 * b2n (modemUsed s))) s

/-! ### Step 3: metering and time (R59, R321) -/

/-- Network time from a valid calendar, and the comparators of every second and interval. -/
def timeStart (s : State) : State :=
  let s := fwWrite mtrWritten A.MTR_CTRL (wordWith s R.MTR_CTRL_load 1) s
  let s := fwField mtrWritten R.MTR_CTRL_run (odNat s 7 7 0) s
  let s := if isSet s R.BKD_STAT_cal_inv then s
    else
      let t := (((calPos s * 1000000000 / 32768 : Nat) : Int) + odInt 32 s 2 3 0 * 1000000000).toNat
      let s := fwWrite ntbWritten A.NTB_ADJ_SLO (BitVec.ofNat 32 (t / 1000000000)) s
      let s := fwWrite ntbWritten A.NTB_ADJ_SHI (BitVec.ofNat 32 (t / 1000000000 / 2 ^ 32)) s
      let s := fwWrite ntbWritten A.NTB_ADJ_GO 1 (fwWrite ntbWritten A.NTB_ADJ_NS (BitVec.ofNat 32 (t % 1000000000)) s)
      let s := { s with ntb := { s.ntb with source := 6 } }
      match s.ntb.adj with
      | some r => adjustApply r ⟨0, 0, 0, false, false, []⟩ s
      | none => s
  let per := 60000000000 * fld s R.MTR_DI_min
  cmpTime 5 (nextMultiple s 1000000000) 1000000000 0 (cmpTime 2 (nextMultiple s per) per 3 (cmpTime 1 (nextMultiple s 1000000000) 1000000000 2 s))

/-! ### Step 4: the vault and the duty buckets (R488, R491, R498, R100) -/

/-- The vault's contexts, hop table and join table; slots that fail their check are taken as empty (R487). -/
def vaultStart (bad : List Nat) (s : State) : State :=
  let s := bad.foldl (fun s n => post 0x08 0x07 (leBytes 1 n) (changeSlot n 0 0 [] s)) s
  let s := fwField kvtWritten R.KVT_CTRL_run 1 s
  let s := if fld s R.KVT_STAT_vstate ≠ 0 then faultRaise 0x0603 (fld s R.KVT_STAT_cause) true s
    else
      let stored (c : Nat) : Nat := sget (fun _ => 0) s.nv.ceil c
      let first := max 1 (max (stored 0) (stored 1))
      let link := max 1 (stored 2)
      let s := loadContext 0 s.nv.epochNo false s
      let s := fwWrite kvtWritten (A.KVT_CTXc_CFG 2) 1 (startCounter 2 link (startCounter 0 first s))
      fwWrite kvtWritten A.KVT_CTRL (wordWith s ⟨A.KVT_CTRL, 8, 1⟩ 1) s
  dutyRestore (joinTableWrite s)

/-! ### The node table's copies in DRAM (R12, R113, R125, R130, R492) -/

def nodesStart (s : State) : State :=
  let l := validNodes s
  let s := upTo 2 (fun k s => upTo 256 (fun i s => setBytes s (65536 * fld s (if k = 0 then R.TTE_PLAN_A_addr else R.TTE_PLAN_B_addr) + 256 * i)
    (List.replicate 256 0)) s) s
  let s := s.nv.nodes.foldl (fun s p => linkWrite p.1 p.2 (!p.2.released) (showEntry p.1 (setNst p.1 0 (List.replicate 16 0) s))) s
  let s := planWrite (fastRefresh s)
  let s := fwField tteWritten R.TTE_JOIN_cnt (if l = [] then 0 else 3) s
  nextSequences (setNodes { s.nodes with startPath := pathNow s, joinsReduced := l.isEmpty, replay := true } s)

/-! ### Step 5: the zone model (R269, R271) -/

/-- The tables of the file in force are written anew; its generations and the nodes' settings stay. -/
def zonesStart (s : State) : State :=
  let clear (a : Nat) (s : State) : State := setBytes s a (List.replicate 4096 0)
  let s := clear (dirBase s true) (clear (dirBase s false) s)
  let s := if s.nv.zfile = [] then s
    else
      let old := s.nv.zfileOld
      let s := zoneApply s.nv.zfile s
      let s := { s with nv := { s.nv with zfileOld := old } }
      let s := (zoneRecords s).foldl (fun s r => (mapEntries s r).foldl (fun s m => setEng m.1 m.2 s) s) s
      lower (setZones { s.zones with wait := false, moved := [] } s) R.LFE_IFLG_dir
  let s := fwField lfeWritten R.LFE_CTRL_run 1 (fwField lfeWritten R.LFE_CTRL_ingest 1 s)
  cmpPath 0 (16 * 2 ^ fld s R.LFE_CYC_kcode) 0 1 s

/-! ### Step 6 and what has no step of its own -/

/-- FBC runs restricted and the claim begins (R451); frames that no filter names are kept. -/
def busStart (s : State) : State :=
  let s := fwWrite fbcWritten A.FBC_RXQ 0x10000000 s
  let s := fwField fbcWritten R.FBC_FLTC_nm 1 s
  claimBegin (fwWrite fbcWritten A.FBC_CTRL 0x7 s)

/-- The backhaul's ports. -/
def portsStart (s : State) : State :=
  let s := fwField bhnWritten R.BHN_PAUSE_en 1 s
  fwField bhnWritten R.BHN_CTRL_en (7 + 8 * b2n (modemUsed s)) s

/-- Loads that were in progress are lost; a trial's checks begin; an activation whose second has passed is missed (R532, R543, R547). -/
def updateStart (s : State) : State :=
  let s := fwField updWritten R.UPD_CTRL_run 1 s
  let s := upTo 2 (fun b s => if bankState s b = 1 then setBankState b 7 s else s) s
  let s := upTo 3 (fun i s => if (itemAt s (i + 1)).state = 1 then setItem (i + 1) { itemAt s (i + 1) with state := 7 } s else s) s
  let s := upTo 32 (fun i s => if (libraryAt s i).state = 1 then setLibrary i { libraryAt s i with state := 7 } s else s) s
  if s.nv.upd.trial.isSome then setUpd { s.upd with checkAt := some s.now } s else s

/-- The schedules, overrides and key switches (R288, R294, R295). -/
def schedStart (s : State) : State :=
  let s := schedEvaluate (toffUpdate (overridesRestart s))
  upTo 8 (fun k s => if odNat s 6 (0x900 + k) 0 = 3 then keySwitch k (dinActive s k) s else s) s

/-- The resident firmware's start, steps 1 to 6; `bad` names the slots that fail their check. Steps 7 to 9 follow the claim,
the start rule and the first cycle. -/
def firmwareStart (bad : List Nat) (s : State) : State :=
  if !s.pwr.booted ∨ s.pwr.started then s
  else
    let s := fwField sysWritten R.SYS_PWR_mode 0 (setPwr { s.pwr with begun := true } s)
    let s := startCause (recorderStart (reconcile s))
    let s := settingsLoad (bootOutcome s)
    let s := vaultStart bad (timeStart s)
    let s := zonesStart (nodesStart s)
    let s := updateStart (portsStart (busStart s))
    let s := cellMeasure (schedStart s)
    setPwr { s.pwr with started := true } s

/-! ### Steps 8 and 9 (R615) -/

/-- The plane is sealed, and core 1 runs where 1:0020 = 1. -/
def planeSeal (s : State) : State :=
  if isSet s R.SYS_STAT_sealed then s
  else
    let s := fwWrite sysWritten A.SYS_CTRL (wordWith s R.SYS_CTRL_seal 1) s
    if odNat s 1 0x20 0 = 1 then fwField sysWritten R.SYS_CTRL_c1_run 1 s else s

/-- After the first cycle with ownership the sidings of 8:0100 start and the plane is sealed. -/
def startFinish (s : State) : State :=
  if !s.pwr.started ∨ !ownsHw s ∨ isSet s R.SYS_STAT_sealed then s
  else
    let run := (List.range 4).foldl (fun a n => a + 2 ^ n * odNat s 8 (0x100 + n) 14) 0
    planeSeal (fwField sdcWritten R.SDC_CTRL_run run s)

/-! ### Timetable keeping (R604, R118) -/

/-- Whether everything is dark: every input's level, every wired channel's, and no override holds a level. -/
def allDark (s : State) : Bool :=
  (zoneRecords s).all (fun r => (List.range r.m).all (fun j => levelNow s r.zone j == 0)) &&
    (mappedWired s).all (fun h => (chanAt s h).prev == 0) &&
    s.nv.overrides.all (fun o => !(o.levels && o.level != 0))

/-- After an inner cycle: mode 1 once two in a row were dark, mode 0 as soon as a level rises. -/
def timetableKeeping (s : State) : State :=
  let dark := allDark s
  let s := setPwr { s.pwr with dark := if dark then min 2 (s.pwr.dark + 1) else 0 } s
  let mode := fld s R.SYS_PWR_mode
  if mode = 0 ∧ s.pwr.dark = 2 ∧ odNat s 1 0x11 0 = 1 then
    fwField tteWritten R.TTE_SHARE_map 1 (fwField sysWritten R.SYS_PWR_mode 1 s)
  else if mode = 1 ∧ (!dark ∨ odNat s 1 0x11 0 = 0) then
    fwField tteWritten R.TTE_SHARE_map 0xF (fwField sysWritten R.SYS_PWR_mode 0 s)
  else s

/-! ### The commands -/

/-- The boot ROM (BOOT_ROM, R614). -/
def execBootRom (rebuilt : Bool) (s : State) : Host.Outcome State Fault Refusal := .next (bootRom rebuilt s)

/-- The resident firmware's start (FIRMWARE_START, R615). -/
def execFirmwareStart (bad : List Nat) (s : State) : Host.Outcome State Fault Refusal := .next (firmwareStart bad s)

/-- TIMETABLE_KEEPING_CHANGE (R604): the firmware's look at an inner cycle. -/
def execTimetableKeepingChange (s : State) : Host.Outcome State Fault Refusal :=
  .next (if s.pwr.started && s.lfe.cyc.isNone then timetableKeeping s else s)

/-- The cycle in progress ends (CYCLE_COMPLETE, R239, R387); after the first one the start's last steps follow (R615). -/
def execCycleComplete (s : State) : Host.Outcome State Fault Refusal := .next (startFinish (cycleEnded s))

end Sys2Proof.Machine
end

