-- ==== Sys2Proof/Machine/Dispatch.lean ====
section
/-!
DEFINITION. The meaning of every command: one arm for each constructor of Instr, each a direct call of its meaning.
-/

namespace Sys2Proof.Machine

def exec (i : Instr) (s : State) : Host.Outcome State Fault Refusal :=
  match i with
  | .registerWrite o addr value hw => Sys2Proof.Machine.execRegisterWrite o addr value hw s
  | .memoryAccess o op size addr value found => Sys2Proof.Machine.execMemoryAccess o op size addr value found s
  | .patrolScrub dram singles doubles => Sys2Proof.Machine.execPatrolScrub dram singles doubles s
  | .bscRead o n => Sys2Proof.Machine.execBscRead o n s
  | .bscWrite o n => Sys2Proof.Machine.execBscWrite o n s
  | .bscTrim o n => Sys2Proof.Machine.execBscTrim o n s
  | .bscCommandDone n found => Sys2Proof.Machine.execBscCommandDone n found s
  | .core1RunWrite o run => Sys2Proof.Machine.execCore1RunWrite o run s
  | .sysrst o => Sys2Proof.Machine.execSysrst o s
  | .seal o => Sys2Proof.Machine.execSeal o s
  | .powerModeWrite o mode => Sys2Proof.Machine.execPowerModeWrite o mode s
  | .wdt0Kick o key => Sys2Proof.Machine.execWdt0Kick o key s
  | .wdt0Warn => Sys2Proof.Machine.execWdt0Warn s
  | .wdt0Expiry => Sys2Proof.Machine.execWdt0Expiry s
  | .wdt1Kick o key => Sys2Proof.Machine.execWdt1Kick o key s
  | .wdt1Expiry => Sys2Proof.Machine.execWdt1Expiry s
  | .pathBoundary obs => Sys2Proof.Machine.execPathBoundary obs s
  | .ntbRun o run => Sys2Proof.Machine.execNtbRun o run s
  | .timeRead o => Sys2Proof.Machine.execTimeRead o s
  | .timeSet o => Sys2Proof.Machine.execTimeSet o s
  | .timeStep o => Sys2Proof.Machine.execTimeStep o s
  | .timeAdjustApply obs => Sys2Proof.Machine.execTimeAdjustApply obs s
  | .sourceFed o => Sys2Proof.Machine.execSourceFed o s
  | .timeInvalidate o => Sys2Proof.Machine.execTimeInvalidate o s
  | .sourceHoldExpiry => Sys2Proof.Machine.execSourceHoldExpiry s
  | .pathLengthChange obs => Sys2Proof.Machine.execPathLengthChange obs s
  | .comparatorEnable o n cfg => Sys2Proof.Machine.execComparatorEnable o n cfg s
  | .comparatorFire n => Sys2Proof.Machine.execComparatorFire n s
  | .capture src rising => Sys2Proof.Machine.execCapture src rising s
  | .ntpPoll => Sys2Proof.Machine.execNtpPoll s
  | .ntpResponse k => Sys2Proof.Machine.execNtpResponse k s
  | .ntpRequest k => Sys2Proof.Machine.execNtpRequest k s
  | .terminusAnnounce => Sys2Proof.Machine.execTerminusAnnounce s
  | .announceMissed => Sys2Proof.Machine.execAnnounceMissed s
  | .deputyClaim => Sys2Proof.Machine.execDeputyClaim s
  | .terminusReady => Sys2Proof.Machine.execTerminusReady s
  | .handbackSecond => Sys2Proof.Machine.execHandbackSecond s
  | .subscribeSend => Sys2Proof.Machine.execSubscribeSend s
  | .terminusMessageReceive k => Sys2Proof.Machine.execTerminusMessageReceive k s
  | .subscriberExpiry uid => Sys2Proof.Machine.execSubscriberExpiry uid s
  | .conflictExpiry => Sys2Proof.Machine.execConflictExpiry s
  | .rxFrame f => Sys2Proof.Machine.execRxFrame f s
  | .txFrameEnd c fwd rl unlock => Sys2Proof.Machine.execTxFrameEnd c fwd rl unlock s
  | .rfeStop o => Sys2Proof.Machine.execRfeStop o s
  | .txenWrite o en => Sys2Proof.Machine.execTxenWrite o en s
  | .bandRegisterWrite o b k w => Sys2Proof.Machine.execBandRegisterWrite o b k w s
  | .dutyBucketClose => Sys2Proof.Machine.execDutyBucketClose s
  | .readmit => Sys2Proof.Machine.execReadmit s
  | .tteRunWrite o run => Sys2Proof.Machine.execTteRunWrite o run s
  | .tteOpen o => Sys2Proof.Machine.execTteOpen o s
  | .silentFifoRead o => Sys2Proof.Machine.execSilentFifoRead o s
  | .joinResponseExpiry => Sys2Proof.Machine.execJoinResponseExpiry s
  | .nodeRelease short => Sys2Proof.Machine.execNodeRelease short s
  | .joinCellsReduce => Sys2Proof.Machine.execJoinCellsReduce s
  | .standbyBeaconResync path sof => Sys2Proof.Machine.execStandbyBeaconResync path sof s
  | .epochDeliveryEnd => Sys2Proof.Machine.execEpochDeliveryEnd s
  | .epochAgeLimit => Sys2Proof.Machine.execEpochAgeLimit s
  | .joinRequestReceive => Sys2Proof.Machine.execJoinRequestReceive s
  | .reportReceive => Sys2Proof.Machine.execReportReceive s
  | .dataFrameReceive => Sys2Proof.Machine.execDataFrameReceive s
  | .alarmReceive => Sys2Proof.Machine.execAlarmReceive s
  | .forwardEntryRead => Sys2Proof.Machine.execForwardEntryRead s
  | .commandRetry short => Sys2Proof.Machine.execCommandRetry short s
  | .distributionPassEnd => Sys2Proof.Machine.execDistributionPassEnd s
  | .lfeRunWrite o run => Sys2Proof.Machine.execLfeRunWrite o run s
  | .lfeIngest n => Sys2Proof.Machine.execLfeIngest n s
  | .lfeGo o => Sys2Proof.Machine.execLfeGo o s
  | .innerCycleStart => Sys2Proof.Machine.execInnerCycleStart s
  | .cycleOverrun => Sys2Proof.Machine.execCycleOverrun s
  | .cycleComplete => Sys2Proof.Machine.execCycleComplete s
  | .engineWordAccess o write => Sys2Proof.Machine.execEngineWordAccess o write s
  | .gainSurvey via => Sys2Proof.Machine.execGainSurvey via s
  | .surveyStep => Sys2Proof.Machine.execSurveyStep s
  | .zoneModelApply => Sys2Proof.Machine.execZoneModelApply s
  | .zoneModelMapsWrite => Sys2Proof.Machine.execZoneModelMapsWrite s
  | .localMidnight => Sys2Proof.Machine.execLocalMidnight s
  | .ainSample a0 a1 => Sys2Proof.Machine.execAinSample a0 a1 s
  | .photocellMean => Sys2Proof.Machine.execPhotocellMean s
  | .photocellPoint => Sys2Proof.Machine.execPhotocellPoint s
  | .programPoint => Sys2Proof.Machine.execProgramPoint s
  | .calendarEventEdge => Sys2Proof.Machine.execCalendarEventEdge s
  | .trafficEvaluation => Sys2Proof.Machine.execTrafficEvaluation s
  | .rSchedWrite => Sys2Proof.Machine.execRSchedWrite s
  | .inputOverride via => Sys2Proof.Machine.execInputOverride via s
  | .zoneOverride via => Sys2Proof.Machine.execZoneOverride via s
  | .groupOverride via => Sys2Proof.Machine.execGroupOverride via s
  | .zoneSetOverride via => Sys2Proof.Machine.execZoneSetOverride via s
  | .overrideRenew => Sys2Proof.Machine.execOverrideRenew s
  | .overrideEnd => Sys2Proof.Machine.execOverrideEnd s
  | .meterRunWrite o run => Sys2Proof.Machine.execMeterRunWrite o run s
  | .meterLoad o => Sys2Proof.Machine.execMeterLoad o s
  | .meterSave o => Sys2Proof.Machine.execMeterSave o s
  | .meterSaveDone => Sys2Proof.Machine.execMeterSaveDone s
  | .meterClear o => Sys2Proof.Machine.execMeterClear o s
  | .meterClose o => Sys2Proof.Machine.execMeterClose o s
  | .lineCycleEnd f c => Sys2Proof.Machine.execLineCycleEnd f c s
  | .lineCycleTimeout f c => Sys2Proof.Machine.execLineCycleTimeout f c s
  | .pseudoCycleEntry f => Sys2Proof.Machine.execPseudoCycleEntry f s
  | .profileRecordCopy => Sys2Proof.Machine.execProfileRecordCopy s
  | .modulatorStuck k => Sys2Proof.Machine.execModulatorStuck k s
  | .clockFault n => Sys2Proof.Machine.execClockFault n s
  | .overRange k acc => Sys2Proof.Machine.execOverRange k acc s
  | .faultLiveEnd clock n => Sys2Proof.Machine.execFaultLiveEnd clock n s
  | .balanceCompute => Sys2Proof.Machine.execBalanceCompute s
  | .mappingCheck via => Sys2Proof.Machine.execMappingCheck via s
  | .mappingCheckStep => Sys2Proof.Machine.execMappingCheckStep s
  | .sdcRunWrite o run => Sys2Proof.Machine.execSdcRunWrite o run s
  | .sdcGo o go => Sys2Proof.Machine.execSdcGo o go s
  | .sdcCfgall o => Sys2Proof.Machine.execSdcCfgall o s
  | .chainLatch n st => Sys2Proof.Machine.execChainLatch n st s
  | .matrixRowSlot n st => Sys2Proof.Machine.execMatrixRowSlot n st s
  | .sdcTableAccess o write => Sys2Proof.Machine.execSdcTableAccess o write s
  | .tokenClaim o => Sys2Proof.Machine.execTokenClaim o s
  | .tokenRelease o => Sys2Proof.Machine.execTokenRelease o s
  | .tknRunWrite o run => Sys2Proof.Machine.execTknRunWrite o run s
  | .autoClaim => Sys2Proof.Machine.execAutoClaim s
  | .ilkInChange asserted => Sys2Proof.Machine.execIlkInChange asserted s
  | .interlockConflict => Sys2Proof.Machine.execInterlockConflict s
  | .fbHeartbeatSend => Sys2Proof.Machine.execFbHeartbeatSend s
  | .linkCycleFrameSend => Sys2Proof.Machine.execLinkCycleFrameSend s
  | .slotFrameSend => Sys2Proof.Machine.execSlotFrameSend s
  | .linkFrameReceive frame uid sid => Sys2Proof.Machine.execLinkFrameReceive frame uid sid s
  | .linkSilence => Sys2Proof.Machine.execLinkSilence s
  | .keeperStart => Sys2Proof.Machine.execKeeperStart s
  | .admissionTimeout => Sys2Proof.Machine.execAdmissionTimeout s
  | .slotCollisionBackoff => Sys2Proof.Machine.execSlotCollisionBackoff s
  | .heartbeatPathLoss fb => Sys2Proof.Machine.execHeartbeatPathLoss fb s
  | .streamResend => Sys2Proof.Machine.execStreamResend s
  | .streamSnapshot => Sys2Proof.Machine.execStreamSnapshot s
  | .startListenEnd => Sys2Proof.Machine.execStartListenEnd s
  | .startWaitEnd => Sys2Proof.Machine.execStartWaitEnd s
  | .becomeActive => Sys2Proof.Machine.execBecomeActive s
  | .yield => Sys2Proof.Machine.execYield s
  | .yieldEnd => Sys2Proof.Machine.execYieldEnd s
  | .takeover => Sys2Proof.Machine.execTakeover s
  | .handover via => Sys2Proof.Machine.execHandover via s
  | .handoverPrepare => Sys2Proof.Machine.execHandoverPrepare s
  | .handoverSwitch => Sys2Proof.Machine.execHandoverSwitch s
  | .handoverAbandon => Sys2Proof.Machine.execHandoverAbandon s
  | .odRead via => Sys2Proof.Machine.execOdRead via s
  | .odWrite via => Sys2Proof.Machine.execOdWrite via s
  | .sessionOpen via => Sys2Proof.Machine.execSessionOpen via s
  | .sessionClose id => Sys2Proof.Machine.execSessionClose id s
  | .sessionIdleTimeout id => Sys2Proof.Machine.execSessionIdleTimeout id s
  | .versionPost session m => Sys2Proof.Machine.execVersionPost session m s
  | .transferSegment => Sys2Proof.Machine.execTransferSegment s
  | .segmentAcknowledgement => Sys2Proof.Machine.execSegmentAcknowledgement s
  | .transferAbort => Sys2Proof.Machine.execTransferAbort s
  | .transferTimeout => Sys2Proof.Machine.execTransferTimeout s
  | .coapRequest session m => Sys2Proof.Machine.execCoapRequest session m s
  | .block1Discard session => Sys2Proof.Machine.execBlock1Discard session s
  | .separateResponse session m => Sys2Proof.Machine.execSeparateResponse session m s
  | .moduleRestart via => Sys2Proof.Machine.execModuleRestart via s
  | .restoreFactory via => Sys2Proof.Machine.execRestoreFactory via s
  | .forcedSet via => Sys2Proof.Machine.execForcedSet via s
  | .identify via => Sys2Proof.Machine.execIdentify via s
  | .clearNodeFault via => Sys2Proof.Machine.execClearNodeFault via s
  | .rejoin via => Sys2Proof.Machine.execRejoin via s
  | .leave via => Sys2Proof.Machine.execLeave via s
  | .nodeRead via => Sys2Proof.Machine.execNodeRead via s
  | .clearRegisters via => Sys2Proof.Machine.execClearRegisters via s
  | .newEpoch via => Sys2Proof.Machine.execNewEpoch via s
  | .arm via => Sys2Proof.Machine.execArm via s
  | .disarm via => Sys2Proof.Machine.execDisarm via s
  | .confirm via => Sys2Proof.Machine.execConfirm via s
  | .revert via => Sys2Proof.Machine.execRevert via s
  | .nodeDistribution via => Sys2Proof.Machine.execNodeDistribution via s
  | .loadOpen via => Sys2Proof.Machine.execLoadOpen via s
  | .loadData via => Sys2Proof.Machine.execLoadData via s
  | .loadClose via => Sys2Proof.Machine.execLoadClose via s
  | .loadAbort via => Sys2Proof.Machine.execLoadAbort via s
  | .loadIdleTimeout => Sys2Proof.Machine.execLoadIdleTimeout s
  | .loadVerifyDone => Sys2Proof.Machine.execLoadVerifyDone s
  | .clearFault via => Sys2Proof.Machine.execClearFault via s
  | .testTransmission via => Sys2Proof.Machine.execTestTransmission via s
  | .fbFrameReceive f => Sys2Proof.Machine.execFbFrameReceive f s
  | .xnc8StatusReceive => Sys2Proof.Machine.execXnc8StatusReceive s
  | .inputEventReceive => Sys2Proof.Machine.execInputEventReceive s
  | .claimReceive => Sys2Proof.Machine.execClaimReceive s
  | .fbTxRequest o req => Sys2Proof.Machine.execFbTxRequest o req s
  | .fbTxAbort o abort => Sys2Proof.Machine.execFbTxAbort o abort s
  | .fbTxComplete e => Sys2Proof.Machine.execFbTxComplete e s
  | .fbError inc code dphase => Sys2Proof.Machine.execFbError inc code dphase s
  | .fbBusOff => Sys2Proof.Machine.execFbBusOff s
  | .fbRecover o => Sys2Proof.Machine.execFbRecover o s
  | .fbBusOffRecovered => Sys2Proof.Machine.execFbBusOffRecovered s
  | .fbRecoverPauseEnd => Sys2Proof.Machine.execFbRecoverPauseEnd s
  | .fbcRunWrite o run => Sys2Proof.Machine.execFbcRunWrite o run s
  | .fbWakeupPattern => Sys2Proof.Machine.execFbWakeupPattern s
  | .fbClaimStart => Sys2Proof.Machine.execFbClaimStart s
  | .fbClaimListenEnd => Sys2Proof.Machine.execFbClaimListenEnd s
  | .fbDupRecheck => Sys2Proof.Machine.execFbDupRecheck s
  | .contactorCommandSend => Sys2Proof.Machine.execContactorCommandSend s
  | .xnc8StatusMissing node => Sys2Proof.Machine.execXnc8StatusMissing node s
  | .ethFrameReceive k frame fcs => Sys2Proof.Machine.execEthFrameReceive k frame fcs s
  | .ethFrameSend k => Sys2Proof.Machine.execEthFrameSend k s
  | .pppFrameReceive raw framing => Sys2Proof.Machine.execPppFrameReceive raw framing s
  | .pppFrameSend => Sys2Proof.Machine.execPppFrameSend s
  | .portLinkChange k up spd fdx pause usable => Sys2Proof.Machine.execPortLinkChange k up spd fdx pause usable s
  | .backhaulReturn => Sys2Proof.Machine.execBackhaulReturn s
  | .pauseRepeat => Sys2Proof.Machine.execPauseRepeat s
  | .dnsResolve found => Sys2Proof.Machine.execDnsResolve found s
  | .pquRunWrite o run => Sys2Proof.Machine.execPquRunWrite o run s
  | .hwQueueWrite agent n tag body => Sys2Proof.Machine.execHwQueueWrite agent n tag body s
  | .portSelect o k sel => Sys2Proof.Machine.execPortSelect o k sel s
  | .portHdrWrite o k hdr => Sys2Proof.Machine.execPortHdrWrite o k hdr s
  | .portDataWrite o k data => Sys2Proof.Machine.execPortDataWrite o k data s
  | .portHdrRead o k bad => Sys2Proof.Machine.execPortHdrRead o k bad s
  | .portDataRead o k => Sys2Proof.Machine.execPortDataRead o k s
  | .portCommit o k => Sys2Proof.Machine.execPortCommit o k s
  | .portRewind o k => Sys2Proof.Machine.execPortRewind o k s
  | .portNext o k => Sys2Proof.Machine.execPortNext o k s
  | .regen o rebuilt => Sys2Proof.Machine.execRegen o rebuilt s
  | .zeroize o => Sys2Proof.Machine.execZeroize o s
  | .wipe o => Sys2Proof.Machine.execWipe o s
  | .hopload o => Sys2Proof.Machine.execHopload o s
  | .flushall o => Sys2Proof.Machine.execFlushall o s
  | .cacheFlush o short => Sys2Proof.Machine.execCacheFlush o short s
  | .contextLoad o c cfg => Sys2Proof.Machine.execContextLoad o c cfg s
  | .ceilingRaise => Sys2Proof.Machine.execCeilingRaise s
  | .aesCtr => Sys2Proof.Machine.execAesCtr s
  | .aesGcmEncrypt => Sys2Proof.Machine.execAesGcmEncrypt s
  | .aesGcmDecrypt => Sys2Proof.Machine.execAesGcmDecrypt s
  | .aesCmac => Sys2Proof.Machine.execAesCmac s
  | .aesKeyWrap => Sys2Proof.Machine.execAesKeyWrap s
  | .sha256 => Sys2Proof.Machine.execSha256 s
  | .ecdsaVerify => Sys2Proof.Machine.execEcdsaVerify s
  | .ecdsaSign => Sys2Proof.Machine.execEcdsaSign s
  | .ephemeralEcdh => Sys2Proof.Machine.execEphemeralEcdh s
  | .random => Sys2Proof.Machine.execRandom s
  | .installSecretKey => Sys2Proof.Machine.execInstallSecretKey s
  | .invalidate => Sys2Proof.Machine.execInvalidate s
  | .installPublicKey => Sys2Proof.Machine.execInstallPublicKey s
  | .enrol => Sys2Proof.Machine.execEnrol s
  | .certificatePart => Sys2Proof.Machine.execCertificatePart s
  | .kvtAbort o => Sys2Proof.Machine.execKvtAbort o s
  | .kvtCommandDone => Sys2Proof.Machine.execKvtCommandDone s
  | .entropyHealthFail => Sys2Proof.Machine.execEntropyHealthFail s
  | .eventPost src code data fnd => Sys2Proof.Machine.execEventPost src code data fnd s
  | .portPost o k post => Sys2Proof.Machine.execPortPost o k post s
  | .repeatEntryClose j => Sys2Proof.Machine.execRepeatEntryClose j s
  | .evrRunWrite o run => Sys2Proof.Machine.execEvrRunWrite o run s
  | .evrSpill o => Sys2Proof.Machine.execEvrSpill o s
  | .spillComplete => Sys2Proof.Machine.execSpillComplete s
  | .evrRelease o n => Sys2Proof.Machine.execEvrRelease o n s
  | .recordRead o => Sys2Proof.Machine.execRecordRead o s
  | .recordBlockWrite => Sys2Proof.Machine.execRecordBlockWrite s
  | .journalBlockWrite => Sys2Proof.Machine.execJournalBlockWrite s
  | .updHash o => Sys2Proof.Machine.execUpdHash o s
  | .updDecrypt o => Sys2Proof.Machine.execUpdDecrypt o s
  | .updAbort o => Sys2Proof.Machine.execUpdAbort o s
  | .updJobDone found done => Sys2Proof.Machine.execUpdJobDone found done s
  | .activation => Sys2Proof.Machine.execActivation s
  | .trialStartCheck => Sys2Proof.Machine.execTrialStartCheck s
  | .trialExpiry => Sys2Proof.Machine.execTrialExpiry s
  | .standbyTrialRestart => Sys2Proof.Machine.execStandbyTrialRestart s
  | .faultEnd code source => Sys2Proof.Machine.execFaultEnd code source s
  | .faultHandlerEnd => Sys2Proof.Machine.execFaultHandlerEnd s
  | .escalation byHandler => Sys2Proof.Machine.execEscalation byHandler s
  | .journalReplay => Sys2Proof.Machine.execJournalReplay s
  | .irqRequestChange n => Sys2Proof.Machine.execIrqRequestChange n s
  | .irqClaim o t => Sys2Proof.Machine.execIrqClaim o t s
  | .irqComplete o t id => Sys2Proof.Machine.execIrqComplete o t id s
  | .softwareInterrupt o sw => Sys2Proof.Machine.execSoftwareInterrupt o sw s
  | .priorityWrite o n w => Sys2Proof.Machine.execPriorityWrite o n w s
  | .thresholdWrite o t w => Sys2Proof.Machine.execThresholdWrite o t w s
  | .wakeLatchSet k held => Sys2Proof.Machine.execWakeLatchSet k held s
  | .wakeLatchClear o w active => Sys2Proof.Machine.execWakeLatchClear o w active s
  | .calendarSet o => Sys2Proof.Machine.execCalendarSet o s
  | .calendarShift o => Sys2Proof.Machine.execCalendarShift o s
  | .cellMeasure o => Sys2Proof.Machine.execCellMeasure o s
  | .cellMeasureDone mv => Sys2Proof.Machine.execCellMeasureDone mv s
  | .calendarSecond => Sys2Proof.Machine.execCalendarSecond s
  | .trimWindow => Sys2Proof.Machine.execTrimWindow s
  | .chargerSwitch mv => Sys2Proof.Machine.execChargerSwitch mv s
  | .tamper k level held => Sys2Proof.Machine.execTamper k level held s
  | .backupPowerOn => Sys2Proof.Machine.execBackupPowerOn s
  | .bkdWriteCarried => Sys2Proof.Machine.execBkdWriteCarried s
  | .mirrorCheckpoint => Sys2Proof.Machine.execMirrorCheckpoint s
  | .calendarDiscipline => Sys2Proof.Machine.execCalendarDiscipline s
  | .earlyWarning vin vref => Sys2Proof.Machine.execEarlyWarning vin vref s
  | .vinRecovery vin => Sys2Proof.Machine.execVinRecovery vin s
  | .brownOut vin => Sys2Proof.Machine.execBrownOut vin s
  | .powerOnReset vin => Sys2Proof.Machine.execPowerOnReset vin s
  | .pinReset ns => Sys2Proof.Machine.execPinReset ns s
  | .bootRom rebuilt => Sys2Proof.Machine.execBootRom rebuilt s
  | .firmwareStart bad => Sys2Proof.Machine.execFirmwareStart bad s
  | .hibernateEnter o => Sys2Proof.Machine.execHibernateEnter o s
  | .hibernatePowerDown => Sys2Proof.Machine.execHibernatePowerDown s
  | .wake => Sys2Proof.Machine.execWake s
  | .timetableKeepingChange => Sys2Proof.Machine.execTimetableKeepingChange s
  | .pllLock e => Sys2Proof.Machine.execPllLock e s
  | .gpioEdge n level => Sys2Proof.Machine.execGpioEdge n level s
  | .gpioPulseEnd n => Sys2Proof.Machine.execGpioPulseEnd n s
  | .dinEdge k level held => Sys2Proof.Machine.execDinEdge k level held s
  | .contactorTrip n => Sys2Proof.Machine.execContactorTrip n s
  | .contactorOpenLoad n => Sys2Proof.Machine.execContactorOpenLoad n s
  | .temperatureHigh t => Sys2Proof.Machine.execTemperatureHigh t s
  | .registerRead o addr gained => Sys2Proof.Machine.execRegisterRead o addr gained s
  | .calendarRead o => Sys2Proof.Machine.execCalendarRead o s
  | .meterValueRead o => Sys2Proof.Machine.execMeterValueRead o s
  | .pseudoCycleEnd f c => Sys2Proof.Machine.execPseudoCycleEnd f c s
  | .calendarShiftEnd => Sys2Proof.Machine.execCalendarShiftEnd s
  | .backupDomainLoss => Sys2Proof.Machine.execBackupDomainLoss s
  | .entropyHealthPass => Sys2Proof.Machine.execEntropyHealthPass s
  | .testTransmissionEnd => Sys2Proof.Machine.execTestTransmissionEnd s
  | .contactorCurrentReturn n => Sys2Proof.Machine.execContactorCurrentReturn n s
  | .daylightSavingTransition => Sys2Proof.Machine.execDaylightSavingTransition s
  | .leapSecond insert => Sys2Proof.Machine.execLeapSecond insert s

end Sys2Proof.Machine
end

