-- ==== Sys2Proof/Machine/Tick.lean ====
section
/-!
DEFINITION. What one tick of the 50 MHz clock does by itself (R55): the network time, and the firmware's and the blocks'
acts that are due at a time and have no row of their own (log entry 2).
-/

namespace Sys2Proof.Machine

/-- The restart a command, an activation or the end of a trial asked for, when its second has passed. -/
def restartDue (s : State) : State :=
  match s.dict.restartAt with
  | some t => if t ≤ s.now then moduleReset 3 s else s
  | none => s

/-- One tick: 20 ns pass. -/
def tick (s : State) : State :=
  restartDue (activationPlen (pausesSettle (radioTick (ntbTick { s with now := s.now + 1 }))))

end Sys2Proof.Machine
end

