-- ==== Sys2Proof/WellFormed.lean ====
section
/-!
DEFINITION. Well-formed commands: the operands name a unit, a size or a field value that the hardware has. The table gives
no encoding, so no word spells an ill-formed command; every meaning is total on ill-formed operands as well.
-/

namespace Sys2Proof

/-! ### Operands -/

/-- An access is of 1, 2 or 4 octets (R31). -/
def memSizeWf (op : MemOp) (size : Nat) (_addr : Word) : Bool :=
  match op with
  | .load | .store => size == 1 || size == 2 || size == 4
  | .fetch => size == 2 || size == 4
  | .lr | .sc | .amo _ => size == 4

/-- A word address of the RAM that is scrubbed (R34). -/
def wordAligned (dram : Bool) (a : Word) : Bool :=
  a.toNat % 4 == 0 &&
    (if dram then 0x80000000 ≤ a.toNat && a.toNat < 0xA0000000 else 0x10000000 ≤ a.toNat && a.toNat < 0x10200000)

/-- A command reports a block among those it names (R40). -/
def StoreFind.wf (bound : Nat) : StoreFind → Bool
  | .ok => true
  | .ecc i | .store i => i < bound

/-- The channels are 0-63, the rates 0 and 1, the PSDU at most 2,047 octets (R84, R85). -/
def RxFrame.wf (f : RxFrame) : Bool := f.chan < 64 && f.rate < 2 && f.psdu.length ≤ 2047

/-- What a path's observation can count (R94). -/
def PathObs.wf (p : PathObs) : Bool := p.floors.length ≤ 64

/-- A cycle has a sample, and a reading per input (R300). -/
def CycleObs.wf (c : CycleObs) : Bool := 0 < c.n && c.acc.length ≤ 16

/-- A frame of the field bus (R444-R448): identifiers of 11 or 29 bits, a DLC of 4 bits, at most 64 octets. -/
def FbFrame.wf (f : FbFrame) : Bool :=
  f.id < (if f.xtd then 2 ^ 29 else 2 ^ 11) && f.dlc < 16 && f.data.length ≤ (if f.fdf then 64 else 8)

/-- An error adds 0, 1 or 8 (R447). -/
def TxEnd.wf : TxEnd → Bool
  | .sent | .lost => true
  | .error inc code _ => inc ≤ 8 && code < 8

/-- A CoAP message: 16-bit Message ID, token of at most 8 octets, a request method, block sizes 0-6 (R409-R412). -/
def CoapMsg.wf (m : CoapMsg) : Bool :=
  m.mid < 2 ^ 16 && m.token.length ≤ 8 && 1 ≤ m.code && m.code ≤ 4 &&
    (match m.block1 with | some (_, _, z) => z < 8 | none => true) &&
    (match m.block2 with | some (_, _, z) => z < 8 | none => true)

/-- A request over the field bus, or a well-formed CoAP message. -/
def ReqVia.wf : ReqVia → Bool
  | .bus => true
  | .coap _ m => m.wf

/-- An IPv4 or IPv6 peer on one of the three interfaces (R403). -/
def OpenVia.wf : OpenVia → Bool
  | .bus => true
  | .dtls iface peer port _ _ => 1 ≤ iface && iface ≤ 3 && (peer.length == 4 || peer.length == 16) && port < 2 ^ 16

/-- The sources a capture may name (R79). -/
def captureSource (src : Nat) : Bool :=
  src ≤ 0x9F || (0x100 ≤ src && src ≤ 0x108) || (0x110 ≤ src && src ≤ 0x123)

/-! ### Commands -/

/-- Whether a command's operands are well formed. -/
def Instr.wf : Instr → Bool
  | .memoryAccess _ op size addr _ _ => memSizeWf op size addr
  | .patrolScrub dram singles doubles => singles.all (wordAligned dram) && doubles.all (wordAligned dram)
  | .bscRead _ n => n < 2
  | .bscWrite _ n => n < 2
  | .bscTrim _ n => n < 2
  | .bscCommandDone n found => n < 2 && found.wf 65536
  | .pathBoundary obs => obs.wf
  | .timeAdjustApply obs => obs.wf
  | .pathLengthChange obs => obs.wf
  | .comparatorEnable _ n _ => n < 16
  | .comparatorFire n => n < 16
  | .capture src _ => captureSource src
  | .ntpResponse k => k < 4
  | .ntpRequest k => k < 4
  | .terminusMessageReceive k => k < 4
  | .subscriberExpiry uid => uid < 2 ^ 64
  | .rxFrame f => f.wf
  | .txFrameEnd c _ _ _ => c < 4
  | .bandRegisterWrite _ b k _ => b < 4 && k < 3
  | .lfeIngest n => n < 3
  | .gainSurvey via => via.wf
  | .inputOverride via => via.wf
  | .zoneOverride via => via.wf
  | .groupOverride via => via.wf
  | .zoneSetOverride via => via.wf
  | .lineCycleEnd f c => f < 12 && c.wf
  | .lineCycleTimeout f c => f < 12 && c.wf
  | .pseudoCycleEntry f => f < 12
  | .modulatorStuck k => k < 16
  | .clockFault n => n < 2
  | .overRange k _ => k < 16
  | .faultLiveEnd clock n => n < (if clock then 2 else 16)
  | .mappingCheck via => via.wf
  | .chainLatch n st => n < 4 && st.all (fun x => x.length ≤ 255)
  | .matrixRowSlot n st => n < 4 && st.all (fun x => x.length ≤ 255)
  | .linkFrameReceive frame uid sid => frame.length ≤ 1514 && uid < 2 ^ 64 && sid < 2 ^ 32
  | .handover via => via.wf
  | .odRead via => via.wf
  | .odWrite via => via.wf
  | .sessionOpen via => via.wf
  | .sessionClose id => id < 2 ^ 16
  | .sessionIdleTimeout id => id < 2 ^ 16
  | .versionPost _ m => m.wf
  | .coapRequest _ m => m.wf
  | .block1Discard session => session < 2 ^ 16
  | .separateResponse _ m => m.wf
  | .moduleRestart via => via.wf
  | .restoreFactory via => via.wf
  | .forcedSet via => via.wf
  | .identify via => via.wf
  | .clearNodeFault via => via.wf
  | .rejoin via => via.wf
  | .leave via => via.wf
  | .nodeRead via => via.wf
  | .clearRegisters via => via.wf
  | .newEpoch via => via.wf
  | .arm via => via.wf
  | .disarm via => via.wf
  | .confirm via => via.wf
  | .revert via => via.wf
  | .nodeDistribution via => via.wf
  | .loadOpen via => via.wf
  | .loadData via => via.wf
  | .loadClose via => via.wf
  | .loadAbort via => via.wf
  | .clearFault via => via.wf
  | .testTransmission via => via.wf
  | .fbFrameReceive f => f.wf
  | .fbTxComplete e => e.wf
  | .fbError inc code _ => inc ≤ 8 && code < 8
  | .xnc8StatusMissing node => node < 128
  | .ethFrameReceive k _ _ => k < 3
  | .ethFrameSend k => k < 3
  | .portLinkChange k _ _ _ _ _ => k < 4
  | .dnsResolve found => found.all (fun a => match a with | some x => x.length = 4 || x.length = 16 | none => true)
  | .hwQueueWrite agent n _ _ => agent < 5 && n < 32
  | .portSelect _ k _ => k < 4
  | .portHdrWrite _ k _ => k < 4
  | .portDataWrite _ k _ => k < 4
  | .portHdrRead _ k _ => k < 4
  | .portDataRead _ k => k < 4
  | .portCommit _ k => k < 4
  | .portRewind _ k => k < 4
  | .portNext _ k => k < 4
  | .contextLoad _ c _ => c < 3
  | .eventPost src code data _ => src < 256 && code < 256 && data.length ≤ 20
  | .portPost _ k _ => k < 2
  | .repeatEntryClose j => j < 32
  | .updJobDone found done => found.wf 65536 && done ≤ 65536
  | .faultEnd code source => code < 2 ^ 16 && source < 2 ^ 32
  | .irqRequestChange n => n < 160
  | .irqClaim _ t => t < 2
  | .irqComplete _ t _ => t < 2
  | .priorityWrite _ n _ => n < 160
  | .thresholdWrite _ t _ => t < 2
  | .wakeLatchSet k _ => k < 24
  | .cellMeasureDone mv => mv < 2 ^ 16
  | .chargerSwitch mv => mv < 2 ^ 16
  | .tamper k _ _ => k < 4
  | .gpioEdge n _ => n < 16
  | .gpioPulseEnd n => n < 16
  | .dinEdge k _ _ => k < 8
  | .contactorTrip n => n < 4
  | .contactorOpenLoad n => n < 4
  | .pseudoCycleEnd f c => f < 12 && c.wf
  | .contactorCurrentReturn n => n < 4
  | .registerWrite _ _ _ _ | .core1RunWrite _ _ | .sysrst _ | .seal _ | .powerModeWrite _ _ | .wdt0Kick _ _
  | .wdt0Warn | .wdt0Expiry | .wdt1Kick _ _ | .wdt1Expiry | .ntbRun _ _ | .timeRead _ | .timeSet _ | .timeStep _
  | .sourceFed _ | .timeInvalidate _ | .sourceHoldExpiry | .ntpPoll | .terminusAnnounce | .announceMissed
  | .deputyClaim | .terminusReady | .handbackSecond | .subscribeSend | .conflictExpiry | .rfeStop _
  | .txenWrite _ _ | .dutyBucketClose | .readmit | .tteRunWrite _ _ | .tteOpen _ | .silentFifoRead _
  | .joinResponseExpiry | .nodeRelease _ | .joinCellsReduce | .standbyBeaconResync _ _ | .epochDeliveryEnd
  | .epochAgeLimit | .joinRequestReceive | .reportReceive | .dataFrameReceive | .alarmReceive | .forwardEntryRead
  | .commandRetry _ | .distributionPassEnd | .lfeRunWrite _ _ | .lfeGo _ | .innerCycleStart | .cycleOverrun
  | .cycleComplete | .engineWordAccess _ _ | .surveyStep | .zoneModelApply | .zoneModelMapsWrite | .localMidnight
  | .ainSample _ _ | .photocellMean | .photocellPoint | .programPoint | .calendarEventEdge | .trafficEvaluation
  | .rSchedWrite | .overrideRenew | .overrideEnd | .meterRunWrite _ _ | .meterLoad _ | .meterSave _
  | .meterSaveDone | .meterClear _ | .meterClose _ | .profileRecordCopy | .balanceCompute | .mappingCheckStep
  | .sdcRunWrite _ _ | .sdcGo _ _ | .sdcCfgall _ | .sdcTableAccess _ _ | .tokenClaim _ | .tokenRelease _
  | .tknRunWrite _ _ | .autoClaim | .ilkInChange _ | .interlockConflict | .fbHeartbeatSend | .linkCycleFrameSend
  | .slotFrameSend | .linkSilence | .keeperStart | .admissionTimeout | .slotCollisionBackoff | .heartbeatPathLoss _
  | .streamResend | .streamSnapshot | .startListenEnd | .startWaitEnd | .becomeActive | .yield | .yieldEnd
  | .takeover | .handoverPrepare | .handoverSwitch | .handoverAbandon | .transferSegment | .segmentAcknowledgement
  | .transferAbort | .transferTimeout | .loadIdleTimeout | .loadVerifyDone | .xnc8StatusReceive
  | .inputEventReceive | .claimReceive | .fbTxRequest _ _ | .fbTxAbort _ _ | .fbBusOff | .fbRecover _
  | .fbBusOffRecovered | .fbRecoverPauseEnd | .fbcRunWrite _ _ | .fbWakeupPattern | .fbClaimStart
  | .fbClaimListenEnd | .fbDupRecheck | .contactorCommandSend | .pppFrameReceive _ _ | .pppFrameSend
  | .backhaulReturn | .pauseRepeat | .pquRunWrite _ _ | .regen _ _ | .zeroize _ | .wipe _ | .hopload _
  | .flushall _ | .cacheFlush _ _ | .ceilingRaise | .aesCtr | .aesGcmEncrypt | .aesGcmDecrypt | .aesCmac
  | .aesKeyWrap | .sha256 | .ecdsaVerify | .ecdsaSign | .ephemeralEcdh | .random | .installSecretKey | .invalidate
  | .installPublicKey | .enrol | .certificatePart | .kvtAbort _ | .kvtCommandDone | .entropyHealthFail
  | .evrRunWrite _ _ | .evrSpill _ | .spillComplete | .evrRelease _ _ | .recordRead _ | .recordBlockWrite
  | .journalBlockWrite | .updHash _ | .updDecrypt _ | .updAbort _ | .activation | .trialStartCheck | .trialExpiry
  | .standbyTrialRestart | .faultHandlerEnd | .escalation _ | .journalReplay | .softwareInterrupt _ _
  | .wakeLatchClear _ _ _ | .calendarSet _ | .calendarShift _ | .cellMeasure _ | .calendarSecond | .trimWindow
  | .backupPowerOn | .bkdWriteCarried | .mirrorCheckpoint | .calendarDiscipline | .earlyWarning _ _
  | .vinRecovery _ | .brownOut _ | .powerOnReset _ | .pinReset _ | .bootRom _ | .firmwareStart _
  | .hibernateEnter _ | .hibernatePowerDown | .wake | .timetableKeepingChange | .pllLock _ | .temperatureHigh _
  | .registerRead _ _ _ | .calendarRead _ | .meterValueRead _ | .calendarShiftEnd | .backupDomainLoss
  | .entropyHealthPass | .testTransmissionEnd | .daylightSavingTransition | .leapSecond _ => true

end Sys2Proof
end

