-- ==== Sys2Proof/Safety.lean ====
section
/-!
DEFINITION. What counts as a safe state and a safe run, in the terms the statements use.
-/

namespace Sys2Proof.Machine

/-- Whether a waiting shadow is one of an RW field of code S, and fits it. -/
def shadowFits (p : Nat × Nat) : Bool :=
  match fieldInfoAt (p.1 / 32) (p.1 % 32) with
  | some f => f.ty == .rw && (match f.timing with | .shadow _ => true | _ => false) && p.2 < 2 ^ f.width
  | none => false

/-- The form of the waiting shadows: keys rise, and each stands for an RW field of code S and fits it. -/
def ShadowForm (l : List (Nat × Nat)) : Prop := Rising l ∧ ∀ p ∈ l, shadowFits p = true

/-- The sparse stores of a state are in their canonical form: registers and shadows, the RAM and the cell store, the bulk
store, the dictionary. -/
structure Canon (s : State) : Prop where
  regs : Canonical resetWord s.regs
  shadows : ShadowForm s.shadows
  mem : Memory.wf s.mem
  bulk : Canonical (fun _ => zeroBlock) s.bulk
  od : Canonical odDefault s.od
  held : Rising s.odHeld

/-- A command's outcome that goes on, with what holds of the state reached. -/
def Goes (o : Host.Outcome State Fault Refusal) (P : State → Prop) : Prop :=
  match o with
  | .next t => P t
  | .fault _ | .refused _ => False

/-- `n` steps from `s` never stop. -/
def Safe : Nat → State → Prop
  | 0, _ => True
  | n + 1, s => Goes (step s) (Safe n)

/-- All commands that wait are well formed. -/
def QueueWf (s : State) : Prop := ∀ c ∈ s.pending, c.wf = true

/-! ### Registers, as the statements speak of them -/

/-- The plane lets the core write the register at `a`, whatever the word. -/
def Lets (s : State) (o : Origin) (a : Nat) : Prop := ∀ w : Word, judge s o a (some w) = .pass

/-- The plane lets the core read the register at `a`. -/
def LetsRead (s : State) (o : Origin) (a : Nat) : Prop := judge s o a none = .pass

/-- The two places of `cfg_err` of block `i` (R51). -/
def cfgStat (i : Nat) : Field := ⟨blockBase i + 4, 31, 1⟩
def cfgFlag (i : Nat) : Field := ⟨blockBase i + 12, 31, 1⟩

/-- Whether block `i` shows a configuration error, in its status and in its flags. -/
def cfgErrSet (s : State) (i : Nat) : Prop := isSet s (cfgStat i) = true ∧ isSet s (cfgFlag i) = true

/-- The place of field row `fi` in the register at `a`. -/
def FieldInfo.at (fi : FieldInfo) (a : Nat) : Field := ⟨a, fi.lsb, fi.width⟩

/-- Whether two fields share no bit. -/
def Field.apart (f g : Field) : Bool :=
  f.addr != g.addr || g.lsb + g.width ≤ f.lsb || f.lsb + f.width ≤ g.lsb

/-- What a field of type `fi.ty` and code `fi.timing` holds after a word `w` was written to its register at `a` (R49, R52): an RW
field the value its block takes, in force or later from its shadow, unless the block takes none or the field is locked; a W1C
field its bits but those written 1; an SC field its bits with those of the word's lower half set and those of its upper half
cleared, neither where both are 1; any other field its old value. -/
def fieldAfter (s : State) (o : Origin) (a : Nat) (w : Word) (fi : FieldInfo) : Nat :=
  let old := fld s (fi.at a)
  let v := bits w.toNat fi.lsb fi.width
  match fi.ty with
  | .rw => match (admitField s o a fi.lsb v w).value with
    | none => old
    | some v => match fi.timing with
      | .shadow _ => if shadowing s a then old else v % 2 ^ fi.width
      | .lock => if locked s a fi.lsb then old else v % 2 ^ fi.width
      | _ => v % 2 ^ fi.width
  | .w1c => (old &&& (2 ^ fi.width - 1 - v)) % 2 ^ fi.width
  | .sc =>
    let off := bits w.toNat (fi.lsb + 16) fi.width
    ((old ||| (v - (v &&& off))) &&& (2 ^ fi.width - 1 - (off - (v &&& off)))) % 2 ^ fi.width
  | _ => old

/-! ### The parts of a state -/

/-- The parts of the machine's state that a command may or may not touch: the stores, and what each block holds beside its
registers. The queue and the tick are no parts: no command touches them. -/
inductive Part where
  | free | out | regs | shadows | mem | bulk | od | odHeld | sys | bsc | evr | ntb | pqu | tkn | vault | bkd | flt
  | rfe | tte | lfe | sdc | mtr | fb | icu | ioc | pwr | nodes | zones | sched | bal | bhn | dict | upd | nv
  deriving DecidableEq, Repr

/-- A part is the same in two states. -/
def Part.same (p : Part) (s t : State) : Prop :=
  match p with
  | .free => t.free = s.free
  | .out => t.out = s.out
  | .regs => t.regs = s.regs
  | .shadows => t.shadows = s.shadows
  | .mem => t.mem = s.mem
  | .bulk => t.bulk = s.bulk
  | .od => t.od = s.od
  | .odHeld => t.odHeld = s.odHeld
  | .sys => t.sys = s.sys
  | .bsc => t.bsc = s.bsc
  | .evr => t.evr = s.evr
  | .ntb => t.ntb = s.ntb
  | .pqu => t.pqu = s.pqu
  | .tkn => t.tkn = s.tkn
  | .vault => t.vault = s.vault
  | .bkd => t.bkd = s.bkd
  | .flt => t.flt = s.flt
  | .rfe => t.rfe = s.rfe
  | .tte => t.tte = s.tte
  | .lfe => t.lfe = s.lfe
  | .sdc => t.sdc = s.sdc
  | .mtr => t.mtr = s.mtr
  | .fb => t.fb = s.fb
  | .icu => t.icu = s.icu
  | .ioc => t.ioc = s.ioc
  | .pwr => t.pwr = s.pwr
  | .nodes => t.nodes = s.nodes
  | .zones => t.zones = s.zones
  | .sched => t.sched = s.sched
  | .bal => t.bal = s.bal
  | .bhn => t.bhn = s.bhn
  | .dict => t.dict = s.dict
  | .upd => t.upd = s.upd
  | .nv => t.nv = s.nv

/-- The number of a part. -/
def Part.idx : Part → Nat
  | .free => 0
  | .out => 1
  | .regs => 2
  | .shadows => 3
  | .mem => 4
  | .bulk => 5
  | .od => 6
  | .odHeld => 7
  | .sys => 8
  | .bsc => 9
  | .evr => 10
  | .ntb => 11
  | .pqu => 12
  | .tkn => 13
  | .vault => 14
  | .bkd => 15
  | .flt => 16
  | .rfe => 17
  | .tte => 18
  | .lfe => 19
  | .sdc => 20
  | .mtr => 21
  | .fb => 22
  | .icu => 23
  | .ioc => 24
  | .pwr => 25
  | .nodes => 26
  | .zones => 27
  | .sched => 28
  | .bal => 29
  | .bhn => 30
  | .dict => 31
  | .upd => 32
  | .nv => 33

/-! ### What a command touches -/

/-- Every part but the frames sent: what a command of the dictionary may reach. -/
def Part.stored : List Part :=
  [.free, .regs, .shadows, .mem, .bulk, .od, .odHeld, .sys, .bsc, .evr, .ntb, .pqu, .tkn, .vault, .bkd, .flt, .rfe, .tte, .lfe, .sdc,
    .mtr, .fb, .icu, .ioc, .pwr, .nodes, .zones, .sched, .bal, .bhn, .dict, .upd, .nv]

/-- The parts that each command may touch: the registers and the state of its block, the recorder where it records an event,
the stores it writes, and what it sets going elsewhere. -/
def partsOf : Instr → List Part
  | .registerWrite _ _ _ _ => Part.stored.filter (fun p => p ∉ [Part.bulk])
  | .memoryAccess _ _ _ _ _ _ => Part.stored.filter (fun p => p ∉ [Part.bulk])
  | .patrolScrub _ _ _ => [.regs, .sys, .evr, .flt]
  | .bscRead _ _ => [.regs, .shadows, .sys, .bsc, .evr]
  | .bscWrite _ _ => [.regs, .shadows, .sys, .bsc, .evr]
  | .bscTrim _ _ => [.regs, .shadows, .sys, .bsc, .evr]
  | .bscCommandDone _ _ => [.regs, .mem, .bulk, .bsc, .evr, .flt]
  | .core1RunWrite _ _ => Part.stored.filter (fun p => p ∉ [Part.free, Part.bulk])
  | .sysrst _ => Part.stored.filter (fun p => p ∉ [Part.free, Part.bulk])
  | .seal _ => Part.stored.filter (fun p => p ∉ [Part.free, Part.bulk])
  | .powerModeWrite _ _ => Part.stored.filter (fun p => p ∉ [Part.free, Part.bulk])
  | .wdt0Kick _ _ => Part.stored.filter (fun p => p ∉ [Part.free, Part.bulk])
  | .wdt0Warn => [.regs, .sys, .evr, .mtr, .nv]
  | .wdt0Expiry => Part.stored.filter (fun p => p ∉ [Part.free, Part.bulk])
  | .wdt1Kick _ _ => Part.stored.filter (fun p => p ∉ [Part.free, Part.bulk])
  | .wdt1Expiry => [.regs, .sys, .evr, .flt]
  | .pathBoundary _ => Part.stored.filter (fun p => p ∉ [Part.bulk, Part.od, Part.odHeld, Part.sys, Part.bsc, Part.fb,
    Part.zones, Part.sched, Part.bhn])
  | .ntbRun _ _ => [.regs, .shadows, .sys, .evr, .ntb]
  | .timeRead _ => [.regs, .sys, .evr, .ntb]
  | .timeSet _ => [.regs, .shadows, .sys, .evr, .ntb]
  | .timeStep _ => [.regs, .shadows, .sys, .evr, .ntb]
  | .timeAdjustApply _ => Part.stored.filter (fun p => p ∉ [Part.bulk, Part.od, Part.odHeld, Part.sys, Part.bsc,
    Part.fb, Part.zones, Part.bhn])
  | .sourceFed _ => [.regs, .shadows, .sys, .evr, .ntb]
  | .timeInvalidate _ => [.regs, .shadows, .sys, .evr, .ntb]
  | .sourceHoldExpiry => [.regs, .evr, .ntb, .flt]
  | .pathLengthChange _ => Part.stored.filter (fun p => p ∉ [Part.bulk, Part.od, Part.odHeld, Part.sys, Part.bsc,
    Part.fb, Part.zones, Part.sched, Part.bhn])
  | .comparatorEnable _ _ _ => [.regs, .shadows, .sys, .evr, .ntb]
  | .comparatorFire _ => [.free, .regs, .shadows, .evr, .ntb, .tte, .sdc, .mtr, .icu, .ioc, .bal, .nv]
  | .capture _ _ => [.free, .regs, .shadows, .evr, .ntb, .flt, .bhn]
  | .ntpPoll => [.regs, .evr, .pqu, .bhn]
  | .ntpResponse _ => [.free, .regs, .shadows, .evr, .ntb, .pqu, .flt, .bhn]
  | .ntpRequest _ => [.regs, .evr, .pqu, .bhn]
  | .terminusAnnounce => [.regs, .evr, .pqu, .bhn]
  | .announceMissed => [.regs, .evr, .flt, .bhn]
  | .deputyClaim => [.regs, .evr, .pqu, .bhn]
  | .terminusReady => [.regs, .evr, .pqu, .bhn]
  | .handbackSecond => [.regs, .evr, .pqu, .bhn]
  | .subscribeSend => [.regs, .evr, .pqu]
  | .terminusMessageReceive _ => [.regs, .shadows, .evr, .pqu, .flt, .tte, .bhn]
  | .subscriberExpiry _ => [.bhn]
  | .conflictExpiry => [.regs, .shadows, .tte, .bhn]
  | .rxFrame _ => [.free, .regs, .shadows, .mem, .evr, .pqu, .tkn, .vault, .flt, .tte, .sdc]
  | .txFrameEnd _ _ _ _ => [.regs, .evr, .flt, .rfe]
  | .rfeStop _ => [.regs, .shadows, .sys, .evr, .rfe]
  | .txenWrite _ _ => [.regs, .shadows, .sys, .evr, .rfe]
  | .bandRegisterWrite _ _ _ _ => [.regs, .shadows, .sys, .evr, .rfe]
  | .dutyBucketClose => [.rfe, .nv]
  | .readmit => [.regs, .evr, .rfe]
  | .tteRunWrite _ _ => [.regs, .shadows, .sys, .evr, .tte]
  | .tteOpen _ => [.regs, .shadows, .sys, .evr, .tte]
  | .silentFifoRead _ => [.regs, .sys, .evr, .tte]
  | .joinResponseExpiry => [.regs, .pqu]
  | .nodeRelease _ => [.free, .regs, .shadows, .mem, .od, .evr, .pqu, .tkn, .vault, .bkd, .flt, .tte, .lfe, .sdc, .pwr,
    .nodes, .upd, .nv]
  | .joinCellsReduce => [.regs, .shadows, .tte, .nodes]
  | .standbyBeaconResync _ _ => [.free, .regs, .shadows, .evr, .ntb, .flt]
  | .epochDeliveryEnd => [.tkn, .nodes]
  | .epochAgeLimit => [.free, .regs, .shadows, .mem, .evr, .pqu, .tkn, .vault, .bkd, .nodes, .upd, .nv]
  | .joinRequestReceive => [.free, .regs, .shadows, .mem, .od, .evr, .pqu, .tkn, .vault, .bkd, .flt, .tte, .lfe, .sdc,
    .pwr, .nodes, .upd, .nv]
  | .reportReceive => [.free, .regs, .shadows, .mem, .od, .evr, .pqu, .tkn, .vault, .bkd, .flt, .tte, .lfe, .sdc, .pwr,
    .nodes, .upd, .nv]
  | .dataFrameReceive => [.free, .regs, .shadows, .mem, .od, .evr, .pqu, .tkn, .vault, .bkd, .flt, .tte, .lfe, .sdc,
    .pwr, .nodes, .upd, .nv]
  | .alarmReceive => [.free, .regs, .shadows, .mem, .od, .evr, .pqu, .tkn, .vault, .bkd, .flt, .tte, .lfe, .sdc, .pwr,
    .nodes, .upd, .nv]
  | .forwardEntryRead => [.free, .regs, .shadows, .mem, .od, .evr, .pqu, .tkn, .vault, .bkd, .flt, .tte, .lfe, .sdc,
    .pwr, .nodes, .upd, .nv]
  | .commandRetry _ => [.regs, .evr, .pqu, .tkn, .nodes, .nv]
  | .distributionPassEnd => [.regs, .evr, .nodes]
  | .lfeRunWrite _ _ => [.regs, .shadows, .sys, .evr, .pqu, .tkn, .flt, .lfe, .sdc, .pwr]
  | .lfeIngest _ => [.regs, .evr, .pqu, .tkn, .lfe]
  | .lfeGo _ => [.regs, .shadows, .sys, .evr, .pqu, .tkn, .flt, .lfe, .sdc, .pwr]
  | .innerCycleStart => [.regs, .shadows, .evr, .ntb, .pqu, .tkn, .flt, .lfe, .sdc]
  | .cycleOverrun => [.regs, .shadows, .evr, .ntb, .pqu, .tkn, .flt, .lfe, .sdc]
  | .cycleComplete => Part.stored.filter (fun p => p ∉ [Part.free, Part.bulk])
  | .engineWordAccess _ _ => [.regs, .shadows, .sys, .evr, .pqu, .tkn, .flt, .lfe, .sdc, .pwr]
  | .gainSurvey _ => Part.stored
  | .surveyStep => [.regs, .mem, .evr, .pqu, .tkn, .nodes, .nv]
  | .zoneModelApply => [.regs, .shadows, .mem, .evr, .ntb, .pqu, .tkn, .flt, .lfe, .sdc, .pwr, .nodes, .zones, .sched, .nv]
  | .zoneModelMapsWrite => [.regs, .mem, .od, .evr, .pqu, .tkn, .lfe, .sdc, .nodes, .zones, .nv]
  | .localMidnight => [.regs, .evr, .pqu, .tkn, .nodes, .sched, .nv]
  | .ainSample _ _ => [.regs, .evr, .flt, .sched]
  | .photocellMean => [.regs, .evr, .pqu, .sched]
  | .photocellPoint => [.regs, .evr, .sched]
  | .programPoint => [.sched]
  | .calendarEventEdge => [.sched]
  | .trafficEvaluation => [.regs, .evr, .sched]
  | .rSchedWrite => [.mem, .tkn, .sched]
  | .inputOverride _ => Part.stored
  | .zoneOverride _ => Part.stored
  | .groupOverride _ => Part.stored
  | .zoneSetOverride _ => Part.stored
  | .overrideRenew => [.regs, .evr, .pqu, .tkn, .nodes, .nv]
  | .overrideEnd => [.regs, .mem, .evr, .pqu, .tkn, .nodes, .sched, .nv]
  | .meterRunWrite _ _ => [.regs, .shadows, .sys, .evr, .mtr, .nv]
  | .meterLoad _ => [.regs, .shadows, .sys, .evr, .mtr, .nv]
  | .meterSave _ => [.regs, .shadows, .sys, .evr, .mtr, .nv]
  | .meterSaveDone => [.regs, .mtr, .nv]
  | .meterClear _ => [.regs, .shadows, .sys, .evr, .mtr, .nv]
  | .meterClose _ => [.regs, .shadows, .sys, .evr, .mtr, .nv]
  | .lineCycleEnd _ _ => [.regs, .shadows, .mem, .mtr]
  | .lineCycleTimeout _ _ => [.regs, .shadows, .mem, .mtr]
  | .pseudoCycleEntry _ => [.regs, .mtr]
  | .profileRecordCopy => [.regs, .bal, .nv]
  | .modulatorStuck _ => [.regs, .evr, .flt, .mtr]
  | .clockFault _ => [.regs, .evr, .flt, .mtr]
  | .overRange _ _ => [.regs, .evr, .mtr]
  | .faultLiveEnd _ _ => [.flt, .mtr]
  | .balanceCompute => [.free, .regs, .evr, .flt, .nodes, .bal, .nv]
  | .mappingCheck _ => Part.stored
  | .mappingCheckStep => [.regs, .mem, .evr, .pqu, .tkn, .nodes, .bal, .nv]
  | .sdcRunWrite _ _ => [.regs, .shadows, .sys, .evr, .sdc]
  | .sdcGo _ _ => [.regs, .shadows, .sys, .evr, .sdc]
  | .sdcCfgall _ => [.regs, .shadows, .sys, .evr, .sdc]
  | .chainLatch _ _ => [.free, .regs, .shadows, .evr, .flt, .sdc]
  | .matrixRowSlot _ _ => [.free, .regs, .shadows, .evr, .flt, .sdc]
  | .sdcTableAccess _ _ => [.regs, .shadows, .sys, .evr, .sdc]
  | .tokenClaim _ => [.regs, .shadows, .sys, .evr, .tkn, .sdc]
  | .tokenRelease _ => [.regs, .shadows, .sys, .evr, .tkn, .sdc]
  | .tknRunWrite _ _ => [.regs, .shadows, .sys, .evr, .tkn, .sdc]
  | .autoClaim => [.regs, .shadows, .evr, .tkn, .sdc]
  | .ilkInChange _ => [.regs, .shadows, .evr, .ntb, .pqu, .tkn, .vault, .flt, .rfe, .tte, .lfe, .sdc, .pwr]
  | .interlockConflict => [.regs, .shadows, .evr, .ntb, .pqu, .tkn, .vault, .flt, .rfe, .tte, .lfe, .sdc, .pwr]
  | .fbHeartbeatSend => [.regs, .shadows, .fb]
  | .linkCycleFrameSend => [.out, .regs, .tkn]
  | .slotFrameSend => [.out, .regs, .pqu, .tkn]
  | .linkFrameReceive _ _ _ => Part.stored
  | .linkSilence => [.regs]
  | .keeperStart => [.regs]
  | .admissionTimeout => [.free, .regs, .evr, .tkn]
  | .slotCollisionBackoff => [.free, .tkn]
  | .heartbeatPathLoss _ => [.regs, .evr, .tkn, .flt]
  | .streamResend => [.tkn]
  | .streamSnapshot => [.mem, .tkn]
  | .startListenEnd => [.regs, .shadows, .evr, .ntb, .pqu, .tkn, .vault, .flt, .rfe, .tte, .lfe, .sdc, .pwr]
  | .startWaitEnd => [.regs, .shadows, .evr, .ntb, .pqu, .tkn, .vault, .flt, .rfe, .tte, .lfe, .sdc, .pwr]
  | .becomeActive => [.regs, .shadows, .mem, .evr, .ntb, .tkn, .rfe, .tte, .sdc, .nv]
  | .yield => [.regs, .shadows, .evr, .tkn, .sdc]
  | .yieldEnd => [.regs, .shadows, .evr, .ntb, .pqu, .tkn, .vault, .flt, .rfe, .tte, .lfe, .sdc, .pwr]
  | .takeover => [.regs, .shadows, .mem, .evr, .ntb, .pqu, .tkn, .vault, .flt, .rfe, .tte, .lfe, .sdc, .pwr, .nodes, .nv]
  | .handover _ => Part.stored
  | .handoverPrepare => [.regs, .shadows, .mem, .evr, .ntb, .pqu, .tkn, .vault, .flt, .rfe, .tte, .lfe, .sdc, .pwr, .nv]
  | .handoverSwitch => [.regs, .shadows, .evr, .tkn, .sdc]
  | .handoverAbandon => Part.stored
  | .odRead _ => Part.stored
  | .odWrite _ => Part.stored
  | .sessionOpen _ => [.regs, .shadows, .evr, .fb, .dict]
  | .sessionClose _ => [.regs, .shadows, .evr, .fb, .dict]
  | .sessionIdleTimeout _ => [.regs, .evr, .dict]
  | .versionPost _ _ => Part.stored
  | .transferSegment => Part.stored
  | .segmentAcknowledgement => [.regs, .shadows, .fb, .dict]
  | .transferAbort => [.regs, .shadows, .fb, .dict]
  | .transferTimeout => [.regs, .shadows, .fb, .dict]
  | .coapRequest _ _ => Part.stored
  | .block1Discard _ => [.dict]
  | .separateResponse _ _ => Part.stored
  | .moduleRestart _ => Part.stored
  | .restoreFactory _ => Part.stored
  | .forcedSet _ => Part.stored
  | .identify _ => Part.stored
  | .clearNodeFault _ => Part.stored
  | .rejoin _ => Part.stored
  | .leave _ => Part.stored
  | .nodeRead _ => Part.stored
  | .clearRegisters _ => Part.stored
  | .newEpoch _ => Part.stored
  | .arm _ => Part.stored
  | .disarm _ => Part.stored
  | .confirm _ => Part.stored
  | .revert _ => Part.stored
  | .nodeDistribution _ => Part.stored
  | .loadOpen _ => Part.stored
  | .loadData _ => Part.stored
  | .loadClose _ => Part.stored
  | .loadAbort _ => Part.stored
  | .loadIdleTimeout => [.upd, .nv]
  | .loadVerifyDone => [.regs, .shadows, .od, .evr, .zones, .upd, .nv]
  | .clearFault _ => Part.stored
  | .testTransmission _ => Part.stored
  | .fbFrameReceive _ => [.free, .regs, .shadows, .mem, .evr, .tkn, .flt, .sdc, .fb]
  | .xnc8StatusReceive => [.regs, .evr, .flt, .fb]
  | .inputEventReceive => [.regs, .evr, .pqu, .fb, .sched]
  | .claimReceive => [.regs, .shadows, .evr, .fb]
  | .fbTxRequest _ _ => [.regs, .shadows, .sys, .evr, .fb]
  | .fbTxAbort _ _ => [.regs, .shadows, .sys, .evr, .fb]
  | .fbTxComplete _ => [.out, .regs, .shadows, .evr, .tkn, .flt, .sdc, .fb]
  | .fbError _ _ _ => [.regs, .fb]
  | .fbBusOff => [.regs, .evr, .flt, .fb]
  | .fbRecover _ => [.regs, .shadows, .sys, .evr, .fb]
  | .fbBusOffRecovered => [.regs, .shadows, .flt, .fb]
  | .fbRecoverPauseEnd => [.regs, .shadows, .fb]
  | .fbcRunWrite _ _ => [.regs, .shadows, .sys, .evr, .fb]
  | .fbWakeupPattern => [.regs, .evr, .pwr]
  | .fbClaimStart => [.regs, .shadows, .fb]
  | .fbClaimListenEnd => [.regs, .shadows, .evr, .tkn, .flt, .sdc, .fb]
  | .fbDupRecheck => [.regs, .shadows, .fb]
  | .contactorCommandSend => [.regs, .shadows, .fb]
  | .xnc8StatusMissing _ => [.regs, .evr, .flt, .fb]
  | .ethFrameReceive _ _ _ => [.out, .regs, .evr, .pqu, .bhn]
  | .ethFrameSend _ => [.out, .regs, .pqu, .bhn]
  | .pppFrameReceive _ _ => [.out, .regs, .evr, .pqu, .bhn]
  | .pppFrameSend => [.out, .regs, .pqu, .bhn]
  | .portLinkChange _ _ _ _ _ _ => [.regs, .evr, .pqu, .flt, .bhn, .dict]
  | .backhaulReturn => [.regs, .evr, .pqu, .bhn, .dict]
  | .pauseRepeat => [.out, .regs, .bhn]
  | .dnsResolve _ => [.regs, .evr, .bhn]
  | .pquRunWrite _ _ => [.regs, .shadows, .sys, .evr, .pqu]
  | .hwQueueWrite _ _ _ _ => [.regs, .evr, .pqu]
  | .portSelect _ _ _ => [.regs, .shadows, .sys, .evr, .pqu]
  | .portHdrWrite _ _ _ => [.regs, .shadows, .sys, .evr, .pqu]
  | .portDataWrite _ _ _ => [.regs, .shadows, .sys, .evr, .pqu]
  | .portHdrRead _ _ _ => [.regs, .sys, .evr, .pqu]
  | .portDataRead _ _ => [.regs, .sys, .evr, .pqu]
  | .portCommit _ _ => [.regs, .shadows, .sys, .evr, .pqu]
  | .portRewind _ _ => [.regs, .shadows, .sys, .evr, .pqu]
  | .portNext _ _ => [.regs, .shadows, .sys, .evr, .pqu]
  | .regen _ _ => [.free, .regs, .shadows, .mem, .sys, .evr, .vault, .bkd, .upd, .nv]
  | .zeroize _ => [.free, .regs, .shadows, .mem, .sys, .evr, .vault, .bkd, .upd, .nv]
  | .wipe _ => [.free, .regs, .shadows, .mem, .sys, .evr, .vault, .bkd, .upd, .nv]
  | .hopload _ => [.free, .regs, .shadows, .mem, .sys, .evr, .vault, .bkd, .upd, .nv]
  | .flushall _ => [.free, .regs, .shadows, .mem, .sys, .evr, .vault, .bkd, .upd, .nv]
  | .cacheFlush _ _ => [.free, .regs, .shadows, .mem, .sys, .evr, .vault, .bkd, .upd, .nv]
  | .contextLoad _ _ _ => [.free, .regs, .shadows, .mem, .sys, .evr, .vault, .bkd, .upd, .nv]
  | .ceilingRaise => [.regs, .nv]
  | .aesCtr => [.regs, .mem, .evr, .vault]
  | .aesGcmEncrypt => [.regs, .mem, .evr, .vault]
  | .aesGcmDecrypt => [.regs, .mem, .evr, .vault]
  | .aesCmac => [.regs, .mem, .evr, .vault]
  | .aesKeyWrap => [.mem, .vault]
  | .sha256 => [.mem, .vault]
  | .ecdsaVerify => [.vault]
  | .ecdsaSign => [.free, .mem, .vault]
  | .ephemeralEcdh => [.free, .mem, .vault]
  | .random => [.free, .mem, .vault]
  | .installSecretKey => [.free, .regs, .evr, .vault, .bkd, .nv]
  | .invalidate => [.free, .regs, .evr, .vault, .bkd, .nv]
  | .installPublicKey => [.free, .regs, .evr, .vault, .bkd, .nv]
  | .enrol => [.free, .regs, .evr, .vault, .bkd, .nv]
  | .certificatePart => [.free, .regs, .evr, .vault, .bkd, .nv]
  | .kvtAbort _ => [.free, .regs, .shadows, .mem, .sys, .evr, .vault, .bkd, .upd, .nv]
  | .kvtCommandDone => [.regs, .mem, .vault]
  | .entropyHealthFail => [.regs, .evr, .vault]
  | .eventPost _ _ _ _ => [.regs, .evr]
  | .portPost _ _ _ => [.regs, .shadows, .sys, .evr]
  | .repeatEntryClose _ => [.regs, .evr]
  | .evrRunWrite _ _ => [.regs, .shadows, .sys, .evr]
  | .evrSpill _ => [.regs, .shadows, .sys, .evr]
  | .spillComplete => [.regs, .mem, .evr]
  | .evrRelease _ _ => [.regs, .shadows, .sys, .evr]
  | .recordRead _ => [.regs, .sys, .evr]
  | .recordBlockWrite => [.regs, .bulk, .evr, .nv]
  | .journalBlockWrite => [.regs, .bulk, .evr, .nv]
  | .updHash _ => [.regs, .shadows, .sys, .evr, .upd]
  | .updDecrypt _ => [.regs, .shadows, .sys, .evr, .upd]
  | .updAbort _ => [.regs, .shadows, .sys, .evr, .upd]
  | .updJobDone _ _ => [.free, .regs, .shadows, .bulk, .upd]
  | .activation => Part.stored
  | .trialStartCheck => Part.stored
  | .trialExpiry => Part.stored
  | .standbyTrialRestart => [.mem, .dict, .nv]
  | .faultEnd _ _ => [.regs, .evr, .flt]
  | .faultHandlerEnd => [.flt]
  | .escalation _ => [.regs, .sys, .evr, .flt]
  | .journalReplay => [.regs, .shadows, .mem, .evr, .ntb, .pqu, .tkn, .nodes, .dict, .upd, .nv]
  | .irqRequestChange _ => [.icu]
  | .irqClaim _ _ => [.regs, .sys, .evr, .icu]
  | .irqComplete _ _ _ => [.regs, .shadows, .sys, .evr, .icu]
  | .softwareInterrupt _ _ => [.regs, .shadows, .sys, .evr, .icu]
  | .priorityWrite _ _ _ => [.regs, .shadows, .sys, .evr, .icu]
  | .thresholdWrite _ _ _ => [.regs, .shadows, .sys, .evr, .icu]
  | .wakeLatchSet _ _ => [.regs, .evr, .pwr]
  | .wakeLatchClear _ _ _ => [.regs, .shadows, .sys, .evr, .icu]
  | .calendarSet _ => [.regs, .sys, .evr, .bkd]
  | .calendarShift _ => [.regs, .sys, .evr, .bkd]
  | .cellMeasure _ => [.regs, .sys, .evr, .bkd]
  | .cellMeasureDone _ => [.regs, .evr, .flt]
  | .calendarSecond => [.regs, .evr, .bkd, .pwr]
  | .trimWindow => [.regs, .shadows, .bkd]
  | .chargerSwitch _ => [.regs]
  | .tamper _ _ _ => [.regs, .mem, .evr, .vault, .bkd, .flt, .upd]
  | .backupPowerOn => [.regs, .shadows, .bkd]
  | .bkdWriteCarried => [.regs, .shadows, .mem, .evr, .vault, .bkd, .flt, .upd]
  | .mirrorCheckpoint => [.mem, .bkd]
  | .calendarDiscipline => [.regs, .shadows, .evr, .bkd]
  | .earlyWarning _ _ => [.regs, .shadows, .evr, .tkn, .sdc, .mtr, .fb, .pwr, .nv]
  | .vinRecovery _ => [.regs, .shadows, .mem, .evr, .tkn, .sdc, .pwr]
  | .brownOut _ => Part.stored.filter (fun p => p ∉ [Part.free, Part.bulk])
  | .powerOnReset _ => Part.stored.filter (fun p => p ∉ [Part.free, Part.bulk])
  | .pinReset _ => Part.stored.filter (fun p => p ∉ [Part.free, Part.bulk])
  | .bootRom _ => [.free, .regs, .shadows, .mem, .sys, .bsc, .evr, .ntb, .vault, .bkd, .pwr, .upd, .nv]
  | .firmwareStart _ => Part.stored
  | .hibernateEnter _ => Part.stored.filter (fun p => p ∉ [Part.free, Part.bulk])
  | .hibernatePowerDown => Part.stored.filter (fun p => p ∉ [Part.free, Part.bulk, Part.nv])
  | .wake => [.regs, .sys, .evr, .icu, .pwr]
  | .timetableKeepingChange => Part.stored.filter (fun p => p ∉ [Part.free, Part.bulk])
  | .pllLock _ => [.regs, .shadows, .evr, .pqu, .tkn, .flt, .lfe, .sdc, .pwr]
  | .gpioEdge _ _ => [.regs, .icu, .ioc]
  | .gpioPulseEnd _ => [.regs, .icu, .ioc]
  | .dinEdge _ _ _ => [.regs, .mem, .evr, .pqu, .tkn, .icu, .ioc, .nodes, .sched, .nv]
  | .contactorTrip _ => [.regs, .evr]
  | .contactorOpenLoad _ => [.regs, .evr]
  | .temperatureHigh _ => [.regs, .ioc]
  | .registerRead _ _ _ => [.free, .regs, .sys, .evr, .ntb, .pqu, .bkd, .tte, .lfe, .sdc, .mtr, .icu]
  | .calendarRead _ => [.regs, .sys, .evr, .bkd]
  | .meterValueRead _ => [.free, .regs, .sys, .evr, .mtr]
  | .pseudoCycleEnd _ _ => [.regs, .shadows, .mem, .mtr]
  | .calendarShiftEnd => [.regs, .bkd]
  | .backupDomainLoss => [.bkd]
  | .entropyHealthPass => [.vault]
  | .testTransmissionEnd => [.regs, .shadows, .evr, .rfe, .pwr]
  | .contactorCurrentReturn _ => [.regs]
  | .daylightSavingTransition => [.regs, .evr, .pqu, .tkn, .nodes, .sched, .nv]
  | .leapSecond _ => [.regs, .od, .evr, .pqu, .tkn, .nodes, .sched, .nv]

/-- Every block of the register plane. -/
def everyBlock : List Nat := List.range 32

/-- The blocks, by bit index (R42), whose registers each command may change: those of its own block, of the recorder where it
records an event, and of the blocks it sets going; every block where it may reset the module or reach any register. -/
def blocksOf : Instr → List Nat
  | .registerWrite _ _ _ _ => everyBlock
  | .memoryAccess _ _ _ _ _ _ => everyBlock
  | .patrolScrub _ _ _ => [0, 12]
  | .bscRead _ _ => everyBlock
  | .bscWrite _ _ => everyBlock
  | .bscTrim _ _ => everyBlock
  | .bscCommandDone _ _ => everyBlock
  | .core1RunWrite _ _ => everyBlock
  | .sysrst _ => everyBlock
  | .seal _ => everyBlock
  | .powerModeWrite _ _ => everyBlock
  | .wdt0Kick _ _ => everyBlock
  | .wdt0Warn => [0, 9, 12]
  | .wdt0Expiry => everyBlock
  | .wdt1Kick _ _ => everyBlock
  | .wdt1Expiry => [0, 12]
  | .pathBoundary _ => everyBlock
  | .ntbRun _ _ => everyBlock
  | .timeRead _ => [0, 2, 12]
  | .timeSet _ => everyBlock
  | .timeStep _ => everyBlock
  | .timeAdjustApply _ => everyBlock
  | .sourceFed _ => everyBlock
  | .timeInvalidate _ => everyBlock
  | .sourceHoldExpiry => [2, 12]
  | .pathLengthChange _ => everyBlock
  | .comparatorEnable _ _ _ => everyBlock
  | .comparatorFire _ => everyBlock
  | .capture _ _ => everyBlock
  | .ntpPoll => [4, 12]
  | .ntpResponse _ => everyBlock
  | .ntpRequest _ => [4, 12]
  | .terminusAnnounce => [4, 12]
  | .announceMissed => [12]
  | .deputyClaim => [4, 12]
  | .terminusReady => [4, 12]
  | .handbackSecond => [4, 12]
  | .subscribeSend => [4, 12]
  | .terminusMessageReceive _ => [4, 7, 12]
  | .subscriberExpiry _ => []
  | .conflictExpiry => [7]
  | .rxFrame _ => everyBlock
  | .txFrameEnd _ _ _ _ => everyBlock
  | .rfeStop _ => [0, 6, 7, 12]
  | .txenWrite _ _ => [0, 6, 7, 12]
  | .bandRegisterWrite _ _ _ _ => everyBlock
  | .dutyBucketClose => []
  | .readmit => everyBlock
  | .tteRunWrite _ _ => [0, 7, 12]
  | .tteOpen _ => [0, 7, 12]
  | .silentFifoRead _ => [0, 7, 12]
  | .joinResponseExpiry => [4, 7]
  | .nodeRelease _ => everyBlock
  | .joinCellsReduce => [7]
  | .standbyBeaconResync _ _ => everyBlock
  | .epochDeliveryEnd => []
  | .epochAgeLimit => everyBlock
  | .joinRequestReceive => everyBlock
  | .reportReceive => everyBlock
  | .dataFrameReceive => everyBlock
  | .alarmReceive => everyBlock
  | .forwardEntryRead => everyBlock
  | .commandRetry _ => [4, 12]
  | .distributionPassEnd => [12]
  | .lfeRunWrite _ _ => [0, 4, 6, 10, 11, 12]
  | .lfeIngest _ => [4, 10, 12]
  | .lfeGo _ => [0, 4, 6, 10, 11, 12]
  | .innerCycleStart => [4, 10, 11, 12]
  | .cycleOverrun => [4, 10, 11, 12]
  | .cycleComplete => everyBlock
  | .engineWordAccess _ _ => [0, 4, 6, 10, 11, 12]
  | .gainSurvey _ => everyBlock
  | .surveyStep => [4, 12]
  | .zoneModelApply => everyBlock
  | .zoneModelMapsWrite => [4, 10, 11, 12]
  | .localMidnight => [4, 12]
  | .ainSample _ _ => [12, 16]
  | .photocellMean => [4, 12]
  | .photocellPoint => [12]
  | .programPoint => []
  | .calendarEventEdge => []
  | .trafficEvaluation => [12]
  | .rSchedWrite => []
  | .inputOverride _ => everyBlock
  | .zoneOverride _ => everyBlock
  | .groupOverride _ => everyBlock
  | .zoneSetOverride _ => everyBlock
  | .overrideRenew => [4, 12]
  | .overrideEnd => [4, 12]
  | .meterRunWrite _ _ => everyBlock
  | .meterLoad _ => everyBlock
  | .meterSave _ => everyBlock
  | .meterSaveDone => [9]
  | .meterClear _ => everyBlock
  | .meterClose _ => everyBlock
  | .lineCycleEnd _ _ => [9]
  | .lineCycleTimeout _ _ => [9]
  | .pseudoCycleEntry _ => [9]
  | .profileRecordCopy => [9]
  | .modulatorStuck _ => [9, 12]
  | .clockFault _ => [9, 12]
  | .overRange _ _ => [9, 12]
  | .faultLiveEnd _ _ => []
  | .balanceCompute => [12]
  | .mappingCheck _ => everyBlock
  | .mappingCheckStep => [4, 12]
  | .sdcRunWrite _ _ => everyBlock
  | .sdcGo _ _ => everyBlock
  | .sdcCfgall _ => everyBlock
  | .chainLatch _ _ => everyBlock
  | .matrixRowSlot _ _ => everyBlock
  | .sdcTableAccess _ _ => everyBlock
  | .tokenClaim _ => everyBlock
  | .tokenRelease _ => everyBlock
  | .tknRunWrite _ _ => everyBlock
  | .autoClaim => everyBlock
  | .ilkInChange _ => everyBlock
  | .interlockConflict => everyBlock
  | .fbHeartbeatSend => everyBlock
  | .linkCycleFrameSend => [13]
  | .slotFrameSend => [4, 13]
  | .linkFrameReceive _ _ _ => everyBlock
  | .linkSilence => [13]
  | .keeperStart => [13]
  | .admissionTimeout => [12]
  | .slotCollisionBackoff => []
  | .heartbeatPathLoss _ => [12, 13]
  | .streamResend => []
  | .streamSnapshot => []
  | .startListenEnd => everyBlock
  | .startWaitEnd => everyBlock
  | .becomeActive => everyBlock
  | .yield => everyBlock
  | .yieldEnd => everyBlock
  | .takeover => everyBlock
  | .handover _ => everyBlock
  | .handoverPrepare => everyBlock
  | .handoverSwitch => everyBlock
  | .handoverAbandon => everyBlock
  | .odRead _ => everyBlock
  | .odWrite _ => everyBlock
  | .sessionOpen _ => everyBlock
  | .sessionClose _ => everyBlock
  | .sessionIdleTimeout _ => [12]
  | .versionPost _ _ => everyBlock
  | .transferSegment => everyBlock
  | .segmentAcknowledgement => everyBlock
  | .transferAbort => everyBlock
  | .transferTimeout => everyBlock
  | .coapRequest _ _ => everyBlock
  | .block1Discard _ => []
  | .separateResponse _ _ => everyBlock
  | .moduleRestart _ => everyBlock
  | .restoreFactory _ => everyBlock
  | .forcedSet _ => everyBlock
  | .identify _ => everyBlock
  | .clearNodeFault _ => everyBlock
  | .rejoin _ => everyBlock
  | .leave _ => everyBlock
  | .nodeRead _ => everyBlock
  | .clearRegisters _ => everyBlock
  | .newEpoch _ => everyBlock
  | .arm _ => everyBlock
  | .disarm _ => everyBlock
  | .confirm _ => everyBlock
  | .revert _ => everyBlock
  | .nodeDistribution _ => everyBlock
  | .loadOpen _ => everyBlock
  | .loadData _ => everyBlock
  | .loadClose _ => everyBlock
  | .loadAbort _ => everyBlock
  | .loadIdleTimeout => []
  | .loadVerifyDone => everyBlock
  | .clearFault _ => everyBlock
  | .testTransmission _ => everyBlock
  | .fbFrameReceive _ => everyBlock
  | .xnc8StatusReceive => [5, 12]
  | .inputEventReceive => [4, 5, 12]
  | .claimReceive => everyBlock
  | .fbTxRequest _ _ => [0, 5, 12]
  | .fbTxAbort _ _ => [0, 5, 12]
  | .fbTxComplete _ => everyBlock
  | .fbError _ _ _ => everyBlock
  | .fbBusOff => [5, 12]
  | .fbRecover _ => [0, 5, 12]
  | .fbBusOffRecovered => [5]
  | .fbRecoverPauseEnd => [5]
  | .fbcRunWrite _ _ => [0, 5, 12]
  | .fbWakeupPattern => [1, 5, 12]
  | .fbClaimStart => everyBlock
  | .fbClaimListenEnd => everyBlock
  | .fbDupRecheck => [5]
  | .contactorCommandSend => everyBlock
  | .xnc8StatusMissing _ => [12]
  | .ethFrameReceive _ _ _ => [4, 12, 15]
  | .ethFrameSend _ => [4, 15]
  | .pppFrameReceive _ _ => [4, 12, 15]
  | .pppFrameSend => [4, 15]
  | .portLinkChange _ _ _ _ _ _ => [4, 12, 15]
  | .backhaulReturn => [4, 12]
  | .pauseRepeat => [15]
  | .dnsResolve _ => [12]
  | .pquRunWrite _ _ => everyBlock
  | .hwQueueWrite _ _ _ _ => [4, 12]
  | .portSelect _ _ _ => everyBlock
  | .portHdrWrite _ _ _ => everyBlock
  | .portDataWrite _ _ _ => everyBlock
  | .portHdrRead _ _ _ => everyBlock
  | .portDataRead _ _ => everyBlock
  | .portCommit _ _ => everyBlock
  | .portRewind _ _ => everyBlock
  | .portNext _ _ => everyBlock
  | .regen _ _ => everyBlock
  | .zeroize _ => everyBlock
  | .wipe _ => everyBlock
  | .hopload _ => everyBlock
  | .flushall _ => everyBlock
  | .cacheFlush _ _ => everyBlock
  | .contextLoad _ _ _ => everyBlock
  | .ceilingRaise => everyBlock
  | .aesCtr => [8, 12]
  | .aesGcmEncrypt => [8, 12]
  | .aesGcmDecrypt => [8, 12]
  | .aesCmac => [8, 12]
  | .aesKeyWrap => []
  | .sha256 => []
  | .ecdsaVerify => []
  | .ecdsaSign => []
  | .ephemeralEcdh => []
  | .random => []
  | .installSecretKey => [3, 8, 12]
  | .invalidate => [3, 8, 12]
  | .installPublicKey => [3, 8, 12]
  | .enrol => [3, 8, 12]
  | .certificatePart => [3, 8, 12]
  | .kvtAbort _ => everyBlock
  | .kvtCommandDone => [8]
  | .entropyHealthFail => [8, 12]
  | .eventPost _ _ _ _ => [12]
  | .portPost _ _ _ => everyBlock
  | .repeatEntryClose _ => [12]
  | .evrRunWrite _ _ => [0, 12]
  | .evrSpill _ => [0, 12]
  | .spillComplete => [12]
  | .evrRelease _ _ => [0, 12]
  | .recordRead _ => [0, 12]
  | .recordBlockWrite => [12]
  | .journalBlockWrite => [12]
  | .updHash _ => [0, 12, 14]
  | .updDecrypt _ => [0, 12, 14]
  | .updAbort _ => [0, 12, 14]
  | .updJobDone _ _ => everyBlock
  | .activation => everyBlock
  | .trialStartCheck => everyBlock
  | .trialExpiry => everyBlock
  | .standbyTrialRestart => []
  | .faultEnd _ _ => [12]
  | .faultHandlerEnd => []
  | .escalation _ => [12]
  | .journalReplay => everyBlock
  | .irqRequestChange _ => []
  | .irqClaim _ _ => everyBlock
  | .irqComplete _ _ _ => everyBlock
  | .softwareInterrupt _ _ => [0, 1, 12]
  | .priorityWrite _ _ _ => everyBlock
  | .thresholdWrite _ _ _ => everyBlock
  | .wakeLatchSet _ _ => [1, 12]
  | .wakeLatchClear _ _ _ => [0, 1, 12]
  | .calendarSet _ => [0, 3, 12]
  | .calendarShift _ => [0, 3, 12]
  | .cellMeasure _ => [0, 3, 12]
  | .cellMeasureDone _ => [3, 12]
  | .calendarSecond => [1, 3, 12]
  | .trimWindow => [3]
  | .chargerSwitch _ => [3]
  | .tamper _ _ _ => everyBlock
  | .backupPowerOn => everyBlock
  | .bkdWriteCarried => everyBlock
  | .mirrorCheckpoint => []
  | .calendarDiscipline => [3, 12]
  | .earlyWarning _ _ => everyBlock
  | .vinRecovery _ => everyBlock
  | .brownOut _ => everyBlock
  | .powerOnReset _ => everyBlock
  | .pinReset _ => everyBlock
  | .bootRom _ => everyBlock
  | .firmwareStart _ => everyBlock
  | .hibernateEnter _ => everyBlock
  | .hibernatePowerDown => everyBlock
  | .wake => [12]
  | .timetableKeepingChange => everyBlock
  | .pllLock _ => [4, 6, 10, 11, 12]
  | .gpioEdge _ _ => [16]
  | .gpioPulseEnd _ => [16]
  | .dinEdge _ _ _ => everyBlock
  | .contactorTrip _ => [12, 16]
  | .contactorOpenLoad _ => [12, 16]
  | .temperatureHigh _ => [16]
  | .registerRead _ _ _ => everyBlock
  | .calendarRead _ => [0, 3, 12]
  | .meterValueRead _ => [0, 9, 12]
  | .pseudoCycleEnd _ _ => [9]
  | .calendarShiftEnd => [3]
  | .backupDomainLoss => []
  | .entropyHealthPass => []
  | .testTransmissionEnd => [6, 12]
  | .contactorCurrentReturn _ => [16]
  | .daylightSavingTransition => [4, 12]
  | .leapSecond _ => [4, 12]

end Sys2Proof.Machine
end

