-- ==== Sys2Proof/Certificates/Slice0/Obligations.lean ====
section
/-!
DEFINITION. The statements for the provers, chapter by chapter: what reset leaves, what every command and every step keeps, and what
each command does.
-/

open Sys2Proof Sys2Proof.Machine

/-- The state after reset is in canonical form (chapter 02, R37, chapter 02, R49, chapter 16, R416). -/
def Obligations.ResetIsCanonical : Prop :=
  Canon State.reset

/-- Every step keeps the canonical form of all the stores (chapter 02, R37, chapter 02, R49, chapter 16, R416). -/
def Obligations.EveryStepKeepsTheForm : Prop :=
  ∀ s t : State, Canon s → step s = .next t → Canon t

/-- A step runs the command at the front of the queue (log entry 2, spec/opcode_table.json). -/
def Obligations.StepRunsTheFrontCommand : Prop :=
  ∀ (c : Instr) (rest : List Instr) (s : State), step { s with pending := c :: rest } = exec c { s with pending := rest }

/-- A step on an empty queue is one tick of 20 ns (log entry 2, chapter 03, R55). -/
def Obligations.IdleStepIsOneTick : Prop :=
  ∀ s : State, s.pending = [] →
    Goes (step s) fun t => t.now = s.now + 1 ∧ t.pending = [] ∧ s.out <:+ t.out

/-- Every command goes on and touches only its own parts of the state (spec/opcode_table.json, chapter 02, R42). -/
def Obligations.EveryCommandTouchesOnlyItsParts : Prop :=
  ∀ (c : Instr) (s : State), Goes (exec c s) fun t => ∀ p : Part, p ∉ partsOf c → p.same s t

/-- No command moves the clock, the queue or a frame already sent (log entry 2, spec/opcode_table.json). -/
def Obligations.NoCommandMovesClockOrQueue : Prop :=
  ∀ (c : Instr) (s : State),
    Goes (exec c s) fun t => t.now = s.now ∧ t.pending = s.pending ∧ s.free ≤ t.free ∧ s.out <:+ t.out

/-- No run ever stops (spec/opcode_table.json, chapter 02, R44). -/
def Obligations.NoRunEverStops : Prop :=
  ∀ (n : Nat) (s : State), Safe n s

/-- What the platform's registers hold after reset (chapter 02, R28, chapter 02, R33, chapter 02, R39, chapter 02, R43,
chapter 02, R45, chapter 25, R612). -/
def Obligations.ResetHoldsTheTables : Prop :=
  reg State.reset A.SYS_PLANE_WR = 0x7109 ∧ reg State.reset A.SYS_PLANE_RD = 0 ∧
  c1SramFrom State.reset = 0x10100000 ∧ c1DramFrom State.reset = 0x90000000 ∧
  (∀ p < 12, fldBit State.reset R.BSC_C1ACC_rd p = (p == 10) ∧ fldBit State.reset R.BSC_C1ACC_wr p = (p == 10)) ∧
  isSet State.reset R.SYS_CTRL_c1_run = false ∧ isSet State.reset R.SYS_STAT_c1_busy = false ∧ sealed State.reset = false ∧
  State.reset.shadows = [] ∧ (∀ i < 18, busy State.reset i = decide (i ∈ [0, 1, 3, 16])) ∧ ∀ a, reg State.reset a = resetWord a

/-- Every command leaves the registers of all blocks but its own (spec/opcode_table.json, chapter 02, R42). -/
def Obligations.EveryCommandLeavesOtherBlocksRegisters : Prop :=
  ∀ (c : Instr) (s : State), Canon s → Goes (exec c s) fun t => ∀ a, blockIndex a ∉ blocksOf c → reg t a = reg s a

/-- Plane locks refuse core 1 block by block and never core 0 (R42). -/
def Obligations.PlaneLocksRefuseCoreOneByBlock : Prop :=
  [A.SYS_CTRL, A.ICU_CTRL, A.NTB_CTRL, A.BKD_CTRL, A.PQU_CTRL, A.FBC_CTRL, A.RFE_CTRL, A.TTE_CTRL, A.KVT_CTRL, A.MTR_CTRL,
    A.LFE_CTRL, A.SDC_CTRL, A.EVR_CTRL, A.TKN_CTRL, A.UPD_CTRL, A.BHN_CTRL, A.IOC_CTRL, A.BSC_CTRL].map blockIndex = List.range 18 ∧
  ∀ (s : State) (mmode : Bool) (a : Nat),
    (∀ w, fldBit s R.SYS_PLANE_WR_lock (a / 0x10000 % 32) = true →
      a ∉ [A.SYS_WDT1_KICK, A.EVR_Pk_Dj 1 0, A.EVR_Pk_Dj 1 1, A.EVR_Pk_Dj 1 2, A.EVR_Pk_Dj 1 3, A.EVR_Pk_Dj 1 4, A.EVR_Pk_POST 1] →
      a % 4 = 0 → judge s ⟨.core1, mmode⟩ a (some w) = .refuse) ∧
    (fldBit s R.SYS_PLANE_RD_lock (a / 0x10000 % 32) = true → judge s ⟨.core1, mmode⟩ a none = .refuse) ∧
    ∀ wr, judge s ⟨.core0, mmode⟩ a wr ≠ .refuse

/-- A refused access of core 1 does nothing but leave its log (chapter 02, R44, chapter 02, R31, chapter 20, R522). -/
def Obligations.RefusedAccessOnlyLeavesItsLog : Prop :=
  ∀ (s : State) (o : Origin) (addr : Word) (wr : Bool) (value : Word) (c : Instr), Canon s → inPlane addr.toNat = true →
    addr.toNat % 4 = 0 → judge s o addr.toNat (if wr then some value else none) = .refuse →
    (c = .memoryAccess o (if wr then .store else .load) 4 addr value .clean ∨ c = .registerRead o addr [] ∧ wr = false ∨
      c = .registerWrite o addr value 0 ∧ wr = true) →
    Goes (exec c s) fun t =>
      lastResult t o.core = .accessFault ∧ isSet t R.SYS_STAT_plane_err = true ∧ isSet t R.SYS_IFLG_plane_err = true ∧
      (isSet s R.SYS_STAT_plane_err = false →
        fld t R.SYS_PLANE_LOG_addr = addr.toNat ∧ isSet t R.SYS_PLANE_LOGI_wr = wr ∧ isSet t R.SYS_PLANE_LOGI_mmode = o.mmode) ∧
      (isSet s R.SYS_STAT_plane_err = true →
        fld t R.SYS_PLANE_LOG_addr = fld s R.SYS_PLANE_LOG_addr ∧ fld t R.SYS_PLANE_LOGI_wr = fld s R.SYS_PLANE_LOGI_wr ∧
        fld t R.SYS_PLANE_LOGI_mmode = fld s R.SYS_PLANE_LOGI_mmode) ∧
      fld t R.SYS_PLANE_LOGI_count = min (fld s R.SYS_PLANE_LOGI_count + 1) 65535 ∧
      ∀ p : Part, p ∉ [Part.regs, .sys, .evr] → p.same s t

/-- LR, SC and AMO raise an access fault outside SRAM and DRAM and do nothing (R30). -/
def Obligations.AtomicsActOnSramAndDramOnly : Prop :=
  ∀ (s : State) (o : Origin) (op : MemOp) (size : Nat) (addr v : Word), Canon s → isAtomic op = true → addr.toNat % 4 = 0 →
    (inSram addr.toNat ∨ inDram addr.toNat → o.core = .core0 ∨ core1May s addr.toNat → s.sys.eccBad = [] →
      Goes (exec (.memoryAccess o op size addr v .clean) s) fun t => ∃ w, lastResult t o.core = .value w) ∧
    (inRom addr.toNat ∨ inCell addr.toNat ∨ inPlane addr.toNat → ∀ found,
      (o.core = .core0 ∨ inPlane addr.toNat → exec (.memoryAccess o op size addr v found) s = .next (setResult o .accessFault s)) ∧
      Goes (exec (.memoryAccess o op size addr v found) s) fun t =>
        lastResult t o.core = .accessFault ∧ t.mem = s.mem ∧ t.sys.reserve0 = s.sys.reserve0 ∧ t.sys.reserve1 = s.sys.reserve1 ∧
        ∀ a, blockIndex a ∉ [0, 12] → reg t a = reg s a)

/-- Narrow and misaligned accesses do nothing (chapter 02, R8, chapter 02, R31, chapter 02, R32). -/
def Obligations.NarrowAndMisalignedAccessesDoNothing : Prop :=
  ∀ (s : State) (o : Origin) (op : MemOp) (size : Nat) (addr v : Word) (found : EccFind),
    (inPlane addr.toNat → (op = .load ∨ op = .store) → (size = 1 ∨ size = 2) → addr.toNat % size = 0 →
      exec (.memoryAccess o op size addr v found) s = .next (setResult o .busError s)) ∧
    (op ≠ .fetch → addr.toNat % accessSize op size ≠ 0 →
      exec (.memoryAccess o op size addr v found) s = .next (setResult o .misaligned s)) ∧
    (addr.toNat % accessSize op size = 0 → ¬ (inRom addr.toNat ∨ inSram addr.toNat ∨ inCell addr.toNat ∨ inDram addr.toNat ∨ inPlane addr.toNat) →
      exec (.memoryAccess o op size addr v found) s = .next (setResult o .busError s))

/-- Loads, stores, LR, SC and AMO on SRAM and DRAM (chapter 02, R30, chapter 02, R32, chapter 02, R33, chapter 02, R36). -/
def Obligations.MemoryAccessesReadAndWriteTheirOctets : Prop :=
  ∀ (s : State) (o : Origin) (size : Nat) (addr v : Word), Canon s → s.sys.eccBad = [] → (size = 1 ∨ size = 2 ∨ size = 4) →
    let a := addr.toNat
    (inSram a ∨ inDram a) → o.core = .core0 ∨ core1May s a →
    let same (t : State) (n : Nat) : Prop := (∀ b, b < a ∨ a + n ≤ b → memByte t b = memByte s b) ∧ ∀ p : Part, p ∉ [Part.mem, .sys] → p.same s t
    let holds (t : State) (n x : Nat) : Prop := ∀ i < n, memByte t (a + i) = BitVec.ofNat 8 (x / 256 ^ i)
    (a % size = 0 → ∀ op, op = .load ∨ op = .fetch →
      exec (.memoryAccess o op size addr v .clean) s = .next (setResult o (.value (BitVec.ofNat 32 (memNat s a size))) s)) ∧
    (a % size = 0 → Goes (exec (.memoryAccess o .store size addr v .clean) s) fun t =>
      lastResult t o.core = .done ∧ holds t size v.toNat ∧ same t size ∧ ∀ c, reservation t c ≠ some (a / 4 * 4)) ∧
    (a % 4 = 0 →
      (Goes (exec (.memoryAccess o .lr size addr v .clean) s) fun t =>
        lastResult t o.core = .value (BitVec.ofNat 32 (memNat s a 4)) ∧ reservation t o.core = some a ∧ t.mem = s.mem ∧ same t 0) ∧
      (reservation s o.core = some a → Goes (exec (.memoryAccess o .sc size addr v .clean) s) fun t =>
        lastResult t o.core = .value 0 ∧ holds t 4 v.toNat ∧ same t 4 ∧ ∀ c, reservation t c ≠ some a) ∧
      (reservation s o.core ≠ some a → Goes (exec (.memoryAccess o .sc size addr v .clean) s) fun t =>
        lastResult t o.core = .value 1 ∧ t.mem = s.mem ∧ reservation t o.core = none ∧ same t 0) ∧
      ∀ f, Goes (exec (.memoryAccess o (.amo f) size addr v .clean) s) fun t =>
        lastResult t o.core = .value (BitVec.ofNat 32 (memNat s a 4)) ∧
        holds t 4 (amoValue f (BitVec.ofNat 32 (memNat s a 4)) v).toNat ∧ same t 4 ∧ ∀ c, reservation t c ≠ some a)

/-- A register write acts on every field by its type and code (chapter 02, R49, chapter 02, R52, chapter 02, R54). -/
def Obligations.WritesActByTypeAndCode : Prop :=
  ∀ (s : State) (o : Origin) (addr w hw : Word) (r : RegInfo), Canon s → Lets s o addr.toNat → regAt addr.toNat = some r →
    blockIndex addr.toNat ≠ 3 → addr.toNat ≠ A.ICU_WLAT →
    let a := addr.toNat
    let i := blockIndex a
    ∃ s1, exec (.registerWrite o addr w hw) s = .next (raiseFlags a hw (setResult o .done (planeWritten o a w s s1))) ∧
      (∀ fi ∈ r.fields, (cfgStat i).apart (fi.at a) = true → (cfgFlag i).apart (fi.at a) = true →
        fld s1 (fi.at a) = fieldAfter s o a w fi) ∧
      (∀ b, b ∉ [a, (cfgStat i).addr, (cfgFlag i).addr] → reg s1 b = reg s b) ∧
      ∀ p : Part, p ∉ [Part.regs, .shadows] → p.same s s1

/-- A register read returns the fields and clears RC fields only (chapter 02, R49, chapter 02, R50, chapter 02, R51, chapter
02, R52). -/
def Obligations.ReadsReturnFieldsAndClearRc : Prop :=
  ∀ (s : State) (o : Origin) (addr : Word) (gained : List (Nat × Nat)) (r : RegInfo), Canon s → LetsRead s o addr.toNat →
    regAt addr.toNat = some r →
    let a := addr.toNat
    ∃ (v : Word) (s1 : State),
      exec (.registerRead o addr gained) s = .next (setResult o (.value (planeRead o a v s1).1) (planeRead o a v s1).2) ∧
      (blockIndex a ∈ [5, 14, 16, 17] → exec (.registerRead o addr gained) s = .next (setResult o (.value v) s1)) ∧
      (∀ fi ∈ r.fields, (a = blockBase (blockIndex a) + 4 → fi.lsb + fi.width ≤ 30 ∨ 31 ≤ fi.lsb) →
        bits v.toNat fi.lsb fi.width = if fi.ty = .wo ∨ fi.ty = .cmd then 0 else fldRead s (fi.at a)) ∧
      (∀ fi ∈ r.fields, fld s1 (fi.at a) =
        if fi.ty = .rc then min ((slook gained fi.lsb).getD 0) (2 ^ fi.width - 1) else fld s (fi.at a)) ∧
      (∀ b, b ≠ a → reg s1 b = reg s b) ∧ ∀ p : Part, p ≠ .regs → p.same s s1

/-- CORE1_RUN_WRITE, SEAL, POWER_MODE_WRITE, HIBERNATE_ENTER (chapter 02, R28, chapter 02, R45, chapter 02, R54, chapter 25,
R603, chapter 25, R605). -/
def Obligations.PlatformControlWrites : Prop :=
  ∀ (s : State) (o : Origin), Canon s →
    (Lets s o A.SYS_CTRL →
      (isSet s R.SYS_STAT_c1_busy = false → isSet s R.SYS_CTRL_c1_run = true ∨ c1BootOk s = true →
        Goes (exec (.core1RunWrite o true) s) fun t =>
          isSet t R.SYS_CTRL_c1_run = true ∧ isSet t R.SYS_STAT_c1_busy = true ∧ t.sys.wdt1From = s.now) ∧
      (isSet s R.SYS_CTRL_c1_run = false → c1BootOk s = false →
        Goes (exec (.core1RunWrite o true) s) fun t =>
          isSet t R.SYS_CTRL_c1_run = false ∧ cfgErrSet t 0) ∧
      (isSet s R.SYS_STAT_c1_busy = true →
        Goes (exec (.core1RunWrite o false) s) fun t =>
          isSet t R.SYS_CTRL_c1_run = false ∧ isSet t R.SYS_STAT_c1_busy = false ∧ t.sys.reserve1 = none) ∧
      Goes (exec (.seal o) s) fun t => sealed t = true ∧ isSet t R.SYS_CTRL_c1_run = isSet s R.SYS_CTRL_c1_run) ∧
    (Lets s o A.SYS_PWR → ∀ mode : BitVec 3,
      (mode.toNat < 2 → Goes (exec (.powerModeWrite o mode) s) fun t => fld t R.SYS_PWR_mode = mode.toNat ∧ t.pwr = s.pwr) ∧
      (2 < mode.toNat ∨ (mode = 2 ∧ mayHibernate s = false) →
        Goes (exec (.powerModeWrite o mode) s) fun t => cfgErrSet t 0 ∧ (fld s R.SYS_PWR_mode ≠ 2 → fld t R.SYS_PWR_mode = fld s R.SYS_PWR_mode ∧ t.pwr = s.pwr)) ∧
      (mayHibernate s = true → fld s R.SYS_PWR_mode ≠ 2 → s.pwr.entering = none → s.pwr.asleep = false →
        Goes (exec (.hibernateEnter o) s) fun t =>
          fld t R.SYS_PWR_mode = 2 ∧ t.pwr = { s.pwr with entering := some s.now } ∧ isSet t R.EVR_STAT_spill_busy = true))

/-- The two watchdogs: kicks, the warning, core 1's expiry (chapter 02, R46, chapter 02, R48, chapter 22, R556). -/
def Obligations.WatchdogKicksAndExpiries : Prop :=
  ∀ (s : State) (o : Origin), Canon s →
    (Lets s o A.SYS_WDT0_KICK →
      exec (.wdt0Kick o kickKey) s = .next (setResult o .done { s with sys := { s.sys with wdt0From := s.now, wdt0Warned := false } }) ∧
      ∀ w, w ≠ kickKey → exec (.wdt0Kick o w) s = .next (setResult o .done (cfgErr s 0))) ∧
    (Lets s o A.SYS_WDT1_KICK →
      exec (.wdt1Kick o kickKey) s = .next (setResult o .done { s with sys := { s.sys with wdt1From := s.now } }) ∧
      ∀ w, w ≠ kickKey → exec (.wdt1Kick o w) s = .next (setResult o .done (cfgErr s 0))) ∧
    (s.pwr.booted = true → s.sys.wdt0Warned = false → s.flt.escalated = false → s.sys.wdt0From + 20000000 ≤ s.now →
      exec .wdt0Warn s = .next (raise { s with sys := { s.sys with wdt0Warned := true } } R.SYS_IFLG_wdt0_warn)) ∧
    (isSet s R.SYS_WDT1_CTRL_en = true → isSet s R.SYS_STAT_c1_busy = true →
      s.sys.wdt1From + 500000 * fld s R.SYS_WDT1_CTRL_to ≤ s.now →
      Goes (exec .wdt1Expiry s) fun t =>
        isSet t R.SYS_CTRL_c1_run = false ∧ isSet t R.SYS_STAT_c1_busy = false ∧ isSet t R.SYS_STAT_wdt1_exp = true ∧
        isSet t R.SYS_IFLG_wdt1_exp = true ∧ t.sys = { s.sys with reserve1 := none } ∧
        (s.pwr.begun = true → ∃ e ∈ t.flt.list ++ t.flt.unlisted, e.code = 0x0102 ∧ e.source = 0))

/-- The bulk store's channels take a command and end it (chapter 02, R37, chapter 02, R38, chapter 02, R39, chapter 02,
R40). -/
def Obligations.BulkStoreCommands : Prop :=
  ∀ (s : State) (o : Origin) (n : Nat), n < 2 → Canon s →
    let job (op : BscOp) : BscJob := { op, part := fld s (R.BSC_Cn_LOC_part n), blk := fld s (R.BSC_Cn_LOC_blk n),
                                       cnt := fld s (R.BSC_Cn_CNT_cnt n), buf := 4 * fld s (R.BSC_Cn_ADDR_addr n) }
    (Lets s o (A.BSC_Cn_GO n) → isSet s R.BSC_CTRL_run = true →
      ∀ op : BscOp,
        let c := match op with | .read => Instr.bscRead o n | .write => Instr.bscWrite o n | .trim => Instr.bscTrim o n
        (bscJob s n = none → bscInRange (job op) = true → (n = 1 → bscPermitted s (job op) = true) →
          Goes (exec c s) fun t => bscJob t n = some (job op) ∧ fld t (R.BSC_Cn_RES_status n) = 7 ∧ fld t (R.BSC_Cn_RES_done n) = 0 ∧
            isSet t R.BSC_STAT_busy = true ∧ bscJob t (1 - n) = bscJob s (1 - n)) ∧
        (bscJob s n = none → bscInRange (job op) = false →
          Goes (exec c s) fun t => bscJob t n = none ∧ fld t (R.BSC_Cn_RES_status n) = 1 ∧ fldBit t R.BSC_IFLG_done n = true ∧
            fldBit t R.BSC_IFLG_err n = true) ∧
        (bscJob s n = none → bscInRange (job op) = true → n = 1 → bscPermitted s (job op) = false →
          Goes (exec c s) fun t => bscJob t n = none ∧ fld t (R.BSC_Cn_RES_status n) = 2 ∧ fldBit t R.BSC_IFLG_err n = true) ∧
        ((bscJob s n).isSome = true → exec c s = .next (setResult o .done (cfgErr s 17)))) ∧
    ∀ j : BscJob, bscJob s n = some j →
      Goes (exec (.bscCommandDone n .ok) s) fun t =>
        bscJob t n = none ∧ fld t (R.BSC_Cn_RES_status n) = 0 ∧ fld t (R.BSC_Cn_RES_done n) = j.cnt % 512 ∧
        fldBit t R.BSC_IFLG_done n = true ∧
        (j.op = .read → t.bulk = s.bulk ∧
          (∀ i < j.cnt, ∀ k < 4096, memByte t (j.buf + 4096 * i + k) = (bulkBlock s j.part (j.blk + i)).getD k 0) ∧
          ∀ a, a < j.buf ∨ j.buf + 4096 * j.cnt ≤ a → memByte t a = memByte s a) ∧
        (j.op ≠ .read → t.mem = s.mem ∧
          (∀ i < j.cnt, bulkBlock t j.part (j.blk + i) =
            if j.op = .write then memBytes s (j.buf + 4096 * i) 4096 else List.replicate 4096 0) ∧
          ∀ p b, (∀ i < j.cnt, partitionFirst p + b ≠ partitionFirst j.part + (j.blk + i)) → bulkBlock t p b = bulkBlock s p b)

/-- The patrol scrubber counts what it corrects and logs what it cannot (chapter 02, R34). -/
def Obligations.PatrolScrubCountsAndLogs : Prop :=
  ∀ (s : State) (dram : Bool) (l : List Word) (w : Word), Canon s →
    let ours (a : Nat) : Bool := if dram then inDram a else inSram a
    (l ≠ [] → (∀ x ∈ l, ours x.toNat = true) → Goes (exec (.patrolScrub dram l []) s) fun t =>
      fld t R.SYS_ECC_ce = min (fld s R.SYS_ECC_ce + l.length) 65535 ∧ isSet t R.SYS_IFLG_ecc_ce = true ∧ t.mem = s.mem ∧ t.sys = s.sys) ∧
    (ours w.toNat = true → Goes (exec (.patrolScrub dram [] [w]) s) fun t =>
      w.toNat / 4 * 4 ∈ t.sys.eccBad ∧ fld t R.SYS_ECC_ADDR_addr = w.toNat / 4 * 4 ∧ isSet t R.SYS_STAT_ecc_ue = true ∧
      isSet t R.SYS_IFLG_ecc_ue = true ∧ fld t R.SYS_ECC_ue = min (fld s R.SYS_ECC_ue + 1) 255 ∧ t.mem = s.mem)

/-- Every reset leaves the backup domain and the cause, and the rest at reset (chapter 02, R46, chapter 25, R612, chapter
25, R613). -/
def Obligations.ResetsKeepTheBackupDomain : Prop :=
  ∀ (s : State), Canon s →
    let after (c : Nat) (t : State) : Prop :=
      fld t ⟨A.SYS_RSTCAUSE, 0, 5⟩ = (if c ≤ 1 then 2 ^ c else fld s ⟨A.SYS_RSTCAUSE, 0, 5⟩ ||| 2 ^ c) ∧
      (∀ a, blockIndex a ∉ [1, 3, 13, 16] → a ≠ A.SYS_RSTCAUSE → reg t a = resetWord a) ∧
      (∀ a, blockIndex a ∈ [1, 3] → a ≠ A.BKD_STAT → reg t a = if backupRegister a then reg s a else resetWord a) ∧
      (∀ p ∈ t.shadows, blockIndex (p.1 / 32) ∈ [1, 3]) ∧
      t.sys = {} ∧ t.bsc = {} ∧ t.evr = {} ∧ t.ntb = {} ∧ t.pqu = {} ∧ t.vault = {} ∧ t.flt = {} ∧ t.rfe = {} ∧ t.tte = {} ∧
      t.lfe = {} ∧ t.sdc = {} ∧ t.mtr = {} ∧ t.fb = {} ∧ t.icu = {} ∧ t.nodes = {} ∧ t.zones = {} ∧ t.sched = {} ∧ t.bal = {} ∧
      t.bhn = {} ∧ t.dict = {} ∧ t.upd = {} ∧ t.pwr.booted = false ∧ t.pwr.started = false ∧
      (if c ≤ 1 then ∀ a, memByte t a = if inCell a then memByte s a else 0 else s.evr.spill = none → t.mem = s.mem) ∧
      (c ≤ 1 ∨ s.mtr.saving = none → t.nv = s.nv ∧ t.bulk = s.bulk)
    (∀ o, Lets s o A.SYS_CTRL → Goes (exec (.sysrst o) s) fun t => t = setResult o .done { t with sys := {} } ∧ after 3 { t with sys := {} }) ∧
    (s.pwr.booted = true → s.pwr.vin = true → s.sys.wdt0From + 25000000 ≤ s.now → Goes (exec .wdt0Expiry s) (after 2)) ∧
    (s.pwr.vin = true → ∀ ns, 1000 ≤ ns → Goes (exec (.pinReset ns) s) (after 4)) ∧
    (s.pwr.vin = true → ∀ mv, mv < 4500 → Goes (exec (.brownOut mv) s) fun t => after 1 t ∧ t.pwr.vin = false) ∧
    (s.pwr.vin = false → s.pwr.cold = true → ∀ mv, 5200 ≤ mv → Goes (exec (.powerOnReset mv) s) fun t => after 0 t ∧ t.pwr.vin = true)

/-- NTB's commands: run, read, set, step, feed, invalidate, comparators (chapter 03, R57, chapter 03, R60, chapter 03, R62,
chapter 03, R63, chapter 03, R67, chapter 03, R78). -/
def Obligations.NetworkTimeCommands : Prop :=
  ∀ (s : State) (o : Origin), Canon s →
    (Lets s o A.NTB_CTRL →
      (isSet s R.NTB_CTRL_run = false →
        Goes (exec (.ntbRun o true) s) fun t => isSet t R.NTB_CTRL_run = true ∧ busy t 2 = true ∧ t.ntb = s.ntb) ∧
      (isSet s R.NTB_CTRL_run = true →
        Goes (exec (.ntbRun o false) s) fun t => isSet t R.NTB_CTRL_run = true ∧ cfgErrSet t 2 ∧ t.ntb = s.ntb) ∧
      Goes (exec (.sourceFed o) s) (fun t => t.ntb = { s.ntb with fedAt := some s.now } ∧
        isSet t R.NTB_CTRL_run = isSet s R.NTB_CTRL_run ∧ fld t R.NTB_STAT_tstate = fld s R.NTB_STAT_tstate) ∧
      Goes (exec (.timeInvalidate o) s) fun t => fld t R.NTB_STAT_tstate = 1 ∧ t.ntb = s.ntb ∧
        isSet t R.NTB_CTRL_run = isSet s R.NTB_CTRL_run) ∧
    (LetsRead s o A.NTB_TIME_NS → Goes (exec (.timeRead o) s) fun t =>
      lastResult t o.core = .value (BitVec.ofNat 32 s.ntb.ns) ∧ timeHold t o.core = ⟨s.ntb.sec, s.ntb.frac, s.ntb.path % 2 ^ 48⟩ ∧
      (∀ c, c ≠ o.core → timeHold t c = timeHold s c) ∧ t.regs = s.regs) ∧
    (Lets s o A.NTB_ADJ_GO →
      let adj (step : Bool) : TimeAdj := { step, sec := fld s R.NTB_ADJ_SLO_s + 2 ^ 32 * fld s R.NTB_ADJ_SHI_s,
                                           ns := fld s R.NTB_ADJ_NS_ns, src := isSet s R.NTB_ADJ_NS_src, due := s.now + 2 }
      (s.ntb.adj = none → fld s R.NTB_ADJ_NS_ns < 1000000000 →
        Goes (exec (.timeSet o) s) (fun t => t.ntb = { s.ntb with adj := some (adj false) } ∧ isSet t R.NTB_STAT_adj_busy = true) ∧
        Goes (exec (.timeStep o) s) fun t => t.ntb = { s.ntb with adj := some (adj true) } ∧ isSet t R.NTB_STAT_adj_busy = true) ∧
      (s.ntb.adj ≠ none ∨ 1000000000 ≤ fld s R.NTB_ADJ_NS_ns →
        exec (.timeSet o) s = .next (setResult o .done (cfgErr s 2)) ∧ exec (.timeStep o) s = .next (setResult o .done (cfgErr s 2)))) ∧
    ∀ n < 16, Lets s o (A.CMPn_CFG n) → ∀ cfg : Word,
      (isSet s (R.CMPn_CFG_en n) = false → bits cfg.toNat 0 2 = 1 → cmpPeriod s n = 0 ∨ 100000 ≤ cmpPeriod s n → netNs s < cmpNext s n →
        Goes (exec (.comparatorEnable o n cfg) s) fun t => isSet t (R.CMPn_CFG_en n) = true ∧ isSet t (R.CMPn_CFG_mode n) = false ∧
          fld t (R.CMPn_CFG_route n) = bits cfg.toNat 4 3 ∧ cmpNext t n = cmpNext s n ∧ t.ntb = s.ntb) ∧
      (isSet s (R.CMPn_CFG_en n) = false → bits cfg.toNat 0 2 = 1 → cmpPeriod s n = 0 → cmpNext s n ≤ netNs s →
        Goes (exec (.comparatorEnable o n cfg) s) fun t => isSet t (R.CMPn_CFG_en n) = false ∧ isSet t (R.CMPn_CST_past n) = true) ∧
      (bits cfg.toNat 0 1 = 0 →
        Goes (exec (.comparatorEnable o n cfg) s) fun t => isSet t (R.CMPn_CFG_en n) = false ∧
          t.ntb = { s.ntb with waiting := sdel s.ntb.waiting n })

/-- Network time's events: boundaries, jumps, source loss, comparators, captures (chapter 03, R61, chapter 03, R64, chapter
03, R65, chapter 03, R67, chapter 03, R74, chapter 03, R75, chapter 03, R76, chapter 03, R79). -/
def Obligations.NetworkTimeEvents : Prop :=
  ∀ (s : State) (obs : PathObs), Canon s →
    (boundaryDue s = true → plenDue s = false → Goes (exec (.pathBoundary obs) s) fun t =>
      t.ntb.path = netNs s / pathLen s % 2 ^ 48 ∧ isSet t R.NTB_IFLG_path = true ∧
      (netNs s / pathLen s % 64 = 0 → isSet t R.NTB_IFLG_bint = true) ∧
      t.ntb.sec = s.ntb.sec ∧ t.ntb.ns = s.ntb.ns ∧ t.ntb.frac = s.ntb.frac) ∧
    (plenDue s = true → Goes (exec (.pathLengthChange obs) s) fun t =>
      fld t R.NTB_STAT_plen_act = fldRead s R.NTB_PATHCFG_plen ∧ fld t R.NTB_PATHCFG_plen = fldRead s R.NTB_PATHCFG_plen ∧
      isSet t R.NTB_IFLG_plen = true ∧ t.ntb.plenAt = none ∧ t.ntb.path = netNs s / plenNs (fldRead s R.NTB_PATHCFG_plen) % 2 ^ 48) ∧
    (∀ r : TimeAdj, s.ntb.adj = some r → r.due ≤ s.now → r.step = false → r.sec < 2 ^ 64 → r.ns < 1000000000 →
      let diff : Int := ((r.sec * 1000000000 + r.ns : Nat) : Int) * 2 ^ 24 - ((netNs s : Nat) * 2 ^ 24 + s.ntb.frac : Nat)
      let guard : Nat := fld s R.NTB_GUARD_us * 1000 * 2 ^ 24
      (fld s R.NTB_STAT_tstate ≠ 2 ∨ diff.natAbs ≤ guard → Goes (exec (.timeAdjustApply obs) s) fun t =>
        t.ntb.sec = r.sec ∧ t.ntb.ns = r.ns ∧ t.ntb.frac = 0 ∧ fld t R.NTB_STAT_tstate = (if r.src then 2 else 1) ∧
        isSet t R.NTB_IFLG_jump = true ∧ t.ntb.adj = none ∧ isSet t R.NTB_STAT_adj_busy = false) ∧
      (fld s R.NTB_STAT_tstate = 2 → guard < diff.natAbs → Goes (exec (.timeAdjustApply obs) s) fun t =>
        t.ntb = { s.ntb with adj := none } ∧ fld t R.NTB_STAT_tstate = 2 ∧ isSet t R.NTB_IFLG_jref = true ∧
        isSet t R.NTB_STAT_adj_busy = false)) ∧
    (∀ at0 : Nat, s.ntb.fedAt = some at0 → fld s R.NTB_STAT_tstate = 2 → 50000000 * fld s R.NTB_HOLD_s ≤ s.now - at0 →
      Goes (exec .sourceHoldExpiry s) fun t => t.ntb = { s.ntb with fedAt := none } ∧ isSet t R.NTB_IFLG_srclost = true ∧
        (s.pwr.begun = true → ∃ e ∈ t.flt.list ++ t.flt.unlisted, e.code = 0x0502 ∧ e.source = 0)) ∧
    (∀ n < 16, n ∉ [2, 5] → slook s.ntb.waiting n = none → isSet s (R.CMPn_CFG_en n) = true → isSet s (R.CMPn_CFG_mode n) = false →
      fld s (R.CMPn_CFG_route n) = 0 → cmpNext s n ≤ netNs s → netNs s < 2 ^ 62 →
      Goes (exec (.comparatorFire n) s) fun t => isSet t (R.CMPn_CST_fired n) = true ∧ isSet t R.NTB_IFLG_trig = true ∧
        isSet t (R.CMPn_CST_lockd n) = timeLocked s ∧
        (cmpPeriod s n = 0 → isSet t (R.CMPn_CFG_en n) = false) ∧
        (cmpPeriod s n ≠ 0 → cmpNext t n = cmpNext s n + cmpPeriod s n ∧ isSet t (R.CMPn_CFG_en n) = true)) ∧
    ∀ n < 16, ∀ (src : Nat) (rising : Bool), src ≠ 0x100 → isSet s (R.CAPn_CFG_en n) = true → fld s (R.CAPn_CFG_src n) = src →
      (0x100 ≤ src ∧ src ≤ 0x11F → isSet s (R.CAPn_CFG_edge n) = !rising) →
      (isSet s (R.CAPn_CFG_full n) = false → Goes (exec (.capture src rising) s) fun t =>
        fld t (R.CAPn_NS_ns n) = netNs s % 1000000000 ∧ fld t (R.CAPn_SLO_s n) = netNs s / 1000000000 % 2 ^ 32 ∧
        fld t (R.CAPn_SHI_s n) = netNs s / 1000000000 / 2 ^ 32 % 2 ^ 32 ∧ isSet t (R.CAPn_CFG_full n) = true ∧ isSet t R.NTB_IFLG_cap = true) ∧
      (isSet s (R.CAPn_CFG_full n) = true → Goes (exec (.capture src rising) s) fun t => isSet t (R.CAPn_CFG_ovr n) = true ∧
        fld t (R.CAPn_NS_ns n) = fld s (R.CAPn_NS_ns n) ∧ fld t (R.CAPn_SLO_s n) = fld s (R.CAPn_SLO_s n))

/-- The radio's commands: stop, transmit enable, bands, frame ends, duty, re-admission (chapter 04, R93, chapter 04, R95,
chapter 04, R96, chapter 04, R98, chapter 04, R100, chapter 04, R101, chapter 04, R103). -/
def Obligations.RadioCommands : Prop :=
  ∀ (s : State) (o : Origin), Canon s →
    (Lets s o A.RFE_CTRL →
      Goes (exec (.rfeStop o) s) (fun t => fld t R.RFE_CTRL_mode = 0 ∧ isSet t R.RFE_STAT_rx_on = false ∧
        t.rfe.stopAt = some (s.now + 2500) ∧ ∀ f ∈ t.rfe.air, f.finish ≤ netNs s) ∧
      Goes (exec (.txenWrite o true) s) (fun t => isSet t R.RFE_CTRL_txen = true ∧ t.rfe = s.rfe) ∧
      Goes (exec (.txenWrite o false) s) fun t => isSet t R.RFE_CTRL_txen = false ∧
        (isSet s R.RFE_CTRL_txen = true → ∀ f ∈ t.rfe.air, f.finish ≤ netNs s)) ∧
    (∀ b < 4, ∀ k < 3, ∀ w : Word,
      let a := A.RFE_BANDb_EDGE b + 4 * k
      let fs := ((regAt a).map (·.fields)).getD []
      Lets s o a → Goes (exec (.bandRegisterWrite o b k w) s) fun t =>
        (bandOk s a w = true → ∀ fi ∈ fs, (if busy s 6 then fldRead t (fi.at a) else fld t (fi.at a)) = bits w.toNat fi.lsb fi.width) ∧
        (bandOk s a w = false → cfgErrSet t 6 ∧ ∀ fi ∈ fs, fldRead t (fi.at a) = fldRead s (fi.at a))) ∧
    (∀ c < 4, ∀ (fwd : Int) (rl : Nat) (unlock : Bool), ∀ f ∈ s.rfe.air,
      s.rfe.air.find? (fun g => g.chain == c && g.finish ≤ netNs s) = some f →
      Goes (exec (.txFrameEnd c fwd rl unlock) s) fun t =>
        t.rfe.air = s.rfe.air.filter (· != f) ∧
        bucket t (bucketKey f.band c s.rfe.minute) = bucket s (bucketKey f.band c s.rfe.minute) + f.airtime ∧
        fld t (R.RFE_CHc_MON_fwd c) = unsigned 8 fwd ∧ fld t (R.RFE_CHc_MON_rl c) = rl % 256 ∧
        fld t (R.RFE_CHc_MON_cause c) = chainCause s f fwd rl unlock ∧
        (chainCause s f fwd rl unlock ≠ 0 → fldBit t R.RFE_TXOK_ok c = false ∧ isSet t R.RFE_IFLG_tx_fail = true)) ∧
    (s.rfe.minute < netSec s / 60 → Goes (exec .dutyBucketClose s) fun t =>
      t.rfe.minute = netSec s / 60 ∧ t.nv.duty = t.rfe.duty ∧ t.nv.dutyMinute = some t.rfe.minute ∧
      ∀ b < 4, ∀ c < 4, bucket t (bucketKey b c t.rfe.minute) = 0) ∧
    (s.rfe.readmitAt + 64 ≤ s.ntb.path / 256 → Goes (exec .readmit s) fun t =>
      t.rfe = { s.rfe with readmitAt := s.ntb.path / 256 } ∧
      (∀ b < 2, fldBit t R.RFE_BRANCH_ok b = (fldBit s R.RFE_BRANCH_ok b || decide (exclusions s b < 3))) ∧
      ∀ c < 4, fldBit t R.RFE_TXOK_ok c = (fldBit s R.RFE_TXOK_ok c || decide (exclusions s (c + 2) < 3)))

/-- Frames received, and the timetable engine's run, open, silent list and keeping (chapter 04, R89, chapter 05, R124,
chapter 05, R126, chapter 05, R141, chapter 05, R143, chapter 25, R604). -/
def Obligations.TimetableCommands : Prop :=
  ∀ (s : State) (o : Origin), Canon s →
    (∀ f : RxFrame,
      let p := if netNs s < pathStart s s.ntb.path + f.sof then s.ntb.path - 1 else s.ntb.path
      let heard := chanUsable s f.chan && f.rate == fld s R.RFE_PHY_rxrate && rxOn s p && s.pwr.pllR
      let cells := if p = s.ntb.path then s.tte.cells else s.tte.cellsBefore
      let counted := if fcsOk f then bump s R.RFE_CNT_RX_n 1 else bump s R.RFE_CNT_ERR_fcs 1
      (heard = true → f.phr = false ∨ f.psdu.length < 5 ∨ 255 < f.psdu.length →
        exec (.rxFrame f) s = .next (bump s R.RFE_CNT_ERR_phr 1)) ∧
      (heard = true → f.phr = true → 5 ≤ f.psdu.length → f.psdu.length ≤ 255 →
        (isSet s R.TTE_STAT_open = false ∨ cells.find? (fun c => c.chan == f.chan && c.listen) = none →
          exec (.rxFrame f) s = .next counted) ∧
        (isSet s R.TTE_STAT_open = true → cells.find? (fun c => c.chan == f.chan && c.listen) ≠ none →
          Goes (exec (.rxFrame f) s) fun t =>
            fld t R.RFE_CNT_RX_n = fld counted R.RFE_CNT_RX_n ∧ fld t R.RFE_CNT_ERR_fcs = fld counted R.RFE_CNT_ERR_fcs ∧
            ((fld t R.TTE_CNT_RX_n = min (fld s R.TTE_CNT_RX_n + 1) (2 ^ 32 - 1) ∧ isSet t R.TTE_IFLG_rx = true) ∨
              (fld t R.TTE_CNT_DROP_rx = min (fld s R.TTE_CNT_DROP_rx + 1) 65535 ∧ isSet t R.TTE_IFLG_qfull = true))))) ∧
    (Lets s o A.TTE_CTRL →
      (busy s 7 = false → tteMayRun s = true → Goes (exec (.tteRunWrite o true) s) fun t =>
        isSet t R.TTE_CTRL_run = true ∧ busy t 7 = true ∧ t.tte = s.tte) ∧
      (busy s 7 = false → tteMayRun s = false → Goes (exec (.tteRunWrite o true) s) fun t =>
        cfgErrSet t 7 ∧ isSet t R.TTE_CTRL_run = isSet s R.TTE_CTRL_run ∧ t.tte = s.tte) ∧
      (busy s 7 = true → Goes (exec (.tteRunWrite o false) s) fun t =>
        isSet t R.TTE_CTRL_run = false ∧ busy t 7 = true ∧ t.tte = { s.tte with stopping := true }) ∧
      (busy s 7 = true → isSet s R.TTE_CTRL_run = true → s.tte.stopping = false → isSet s R.TTE_STAT_open = false →
        Goes (exec (.tteOpen o) s) fun t =>
          t.tte = { s.tte with opening := true } ∧ isSet t R.TTE_CTRL_run = true)) ∧
    (LetsRead s o A.TTE_SILENT →
      (∀ n < 8192, s.tte.silent.head? = some n → Goes (exec (.silentFifoRead o) s) fun t =>
        lastResult t o.core = .value (BitVec.ofNat 32 (n + 2 ^ 31)) ∧ t.tte = { s.tte with silent := s.tte.silent.tail } ∧
        ∀ a, a ≠ A.TTE_SILENT → reg t a = reg s a) ∧
      (s.tte.silent = [] → Goes (exec (.silentFifoRead o) s) fun t => lastResult t o.core = .value 0 ∧ t.tte = s.tte)) ∧
    (s.pwr.started = true → s.lfe.cyc = none →
      (allDark s = true → s.pwr.dark = 1 ∨ s.pwr.dark = 2 → fld s R.SYS_PWR_mode = 0 → odNat s 1 0x11 0 = 1 →
        Goes (exec .timetableKeepingChange s) fun t =>
          fld t R.SYS_PWR_mode = 1 ∧ (if busy s 7 then fldRead t R.TTE_SHARE_map else fld t R.TTE_SHARE_map) = 1 ∧ t.pwr = { s.pwr with dark := 2 }) ∧
      (allDark s = false → fld s R.SYS_PWR_mode = 1 → Goes (exec .timetableKeepingChange s) fun t =>
        fld t R.SYS_PWR_mode = 0 ∧ (if busy s 7 then fldRead t R.TTE_SHARE_map else fld t R.TTE_SHARE_map) = 0xF ∧ t.pwr = { s.pwr with dark := 0 }) ∧
      (allDark s = true → s.pwr.dark = 0 → fld s R.SYS_PWR_mode = 0 →
        exec .timetableKeepingChange s = .next { s with pwr := { s.pwr with dark := 1 } }))

/-- Frames from nodes that the resident firmware takes: joins, reports, data, alarms, presence (chapter 05, R129, chapter
06, R154, chapter 07, R177, chapter 07, R205, chapter 07, R211, chapter 07, R212, chapter 07, R213, chapter 07, R214,
chapter 20, R523). -/
def Obligations.NodeFramesTaken : Prop :=
  ∀ (s : State), Canon s →
    (let q := fld s R.TTE_RXQ_base + 2
      ∀ e ∈ hwHead agentCore q s, ∀ f ∈ entryFrame e.body, f.type = 12 → q < 32 → fld s (R.PQU_Qn_CFG_prod q) ≠ agentCore →
      Goes (exec .joinRequestReceive s) fun t => (queueAt t q).entries = (queueAt s q).entries.tail ∧
        (joinRefusal s f.addr f.body ≠ 0 → t.nv.nodes = s.nv.nodes) ∧
        (joinRefusal s f.addr f.body = 0 → s.nv.nodes.length < 2048 → ∀ a ∈ joinShort s f.addr,
          ((nodeEntry t a).any fun n => n.eui == f.addr && !n.released && n.nkind == leAt f.body 9 1) = true)) ∧
    (∀ q ∈ upHead [8] s, ∀ e ∈ hwHead agentCore q s, ∀ f ∈ entryFrame e.body, ∀ n ∈ nodeEntry s f.short,
      let pl := f.body.take (f.body.length - 4 * f.nack)
      let fault := if leAt pl 0 1 = 1 then leAt pl 8 1 else leAt pl 7 1
      n.released = false → (live s f.short).cmd = none → q < 32 → fld s (R.PQU_Qn_CFG_prod q) ≠ agentCore →
      Goes (exec .reportReceive s) fun t => (queueAt t q).entries = (queueAt s q).entries.tail ∧
        (leAt pl 0 1 ∈ [1, 2, 3] → (live t f.short).fault = fault ∧ (live t f.short).fb = bit (leAt pl 1 1) 2) ∧
        (leAt pl 0 1 = 1 → n.cls = 1 ∨ n.cls = 4 → bit (leAt pl 1 1) 3 = false → fault ≠ 8 → ∀ r ∈ (live s f.short).raw,
          (live t f.short).energy = (live s f.short).energy + (leAt pl 4 4 + 2 ^ 32 - r) % 2 ^ 32 * 100)) ∧
    (∀ q ∈ upHead [9] s, ∀ e ∈ hwHead agentCore q s, ∀ f ∈ entryFrame e.body,
      let pl := f.body.take (f.body.length - 4 * f.nack)
      isJoined s f.short = true → (live s f.short).cmd = none → q < 32 → fld s (R.PQU_Qn_CFG_prod q) ≠ agentCore →
      Goes (exec .dataFrameReceive s) fun t => (queueAt t q).entries = (queueAt s q).entries.tail ∧
        t.nodes.data = sdel s.nodes.data f.short ∧ (leAt pl 0 1 = 5 → (live t f.short).answer = octets pl 5 (leAt pl 4 1))) ∧
    (∀ q ∈ upHead [11] s, ∀ e ∈ hwHead agentCore q s, ∀ f ∈ entryFrame e.body,
      isJoined s f.short = true → (live s f.short).cmd = none → q < 32 → fld s (R.PQU_Qn_CFG_prod q) ≠ agentCore →
      Goes (exec .alarmReceive s) fun t => (queueAt t q).entries = (queueAt s q).entries.tail ∧
        (live t f.short).fault = leAt (f.body.take (f.body.length - 4 * f.nack)) 0 1) ∧
    (∀ q ∈ upHead [8, 9, 10, 11] s, ∀ e ∈ hwHead agentCore q s, ∀ f ∈ entryFrame e.body,
      f.type = 10 → isJoined s f.short = true → (live s f.short).cmd = none → q < 32 → fld s (R.PQU_Qn_CFG_prod q) ≠ agentCore →
      Goes (exec .forwardEntryRead s) fun t => (queueAt t q).entries = (queueAt s q).entries.tail ∧
        (live t f.short).event = some (leAt (f.body.take (f.body.length - 4 * f.nack)) 2 2))

/-- The node table's times: retries, releases, join cells, epochs, distribution passes, a standby's beacon (chapter 05,
R129, chapter 05, R130, chapter 05, R138, chapter 05, R139, chapter 06, R164, chapter 06, R172, chapter 07, R200, chapter
07, R221). -/
def Obligations.NodeTableTimes : Prop :=
  ∀ (s : State), Canon s →
    (∀ a : BitVec 13, ∀ n ∈ nodeEntry s a.toNat, ∀ c ∈ (live s a.toNat).cmd, n.released = false → isSilent s a.toNat = false →
      reportCellAfter n c.sentPath 2 < pathNow s →
      Goes (exec (.commandRetry a) s) fun t =>
        (c.sends < 5 → n.battery = false → (live t a.toNat).cmd = some { c with sends := c.sends + 1, sentPath := pathNow s }) ∧
        (5 ≤ c.sends → (live s a.toNat).wants = [] → (live t a.toNat).cmd = none)) ∧
    (∀ a : BitVec 13, isJoined s a.toNat = true → isSilent s a.toNat = true →
      leNat (memBytes s (nstAddr s a.toNat) 6) + 6 * 256 ≤ pathNow s → Goes (exec (.nodeRelease a) s) fun t =>
        isJoined t a.toNat = false ∧ live t a.toNat = {} ∧ t.nodes.data = sdel s.nodes.data a.toNat) ∧
    (let q := fld s R.TTE_TXQ_base + 12
      ∀ e ∈ (queueAt s q).entries.head?, q < 32 → leAt e.body 0 6 ≠ 0 → leAt e.body 0 6 < pathNow s →
      Goes (exec .joinResponseExpiry s) fun t => (queueAt t q).entries = (queueAt s q).entries.tail ∧
        fld t R.TTE_CNT_DROP_tx = min (fld s R.TTE_CNT_DROP_tx + 1) 65535 ∧ isSet t R.TTE_IFLG_drop = true) ∧
    (s.nodes.joinsReduced = false → s.nodes.startPath + 64 * 256 ≤ pathNow s → Goes (exec .joinCellsReduce s) fun t =>
      t.nodes = { s.nodes with joinsReduced := true } ∧
      (if busy s 7 then fldRead t R.TTE_JOIN_cnt else fld t R.TTE_JOIN_cnt) = 0) ∧
    (∀ path sof : Nat, isTwin s = true → role s = 1 → fld s R.NTB_STAT_tstate ≠ 2 → s.ntb.adj = none →
      let d : Int := (pathStart s path + nominalSof s : Nat) - (sof : Int)
      Goes (exec (.standbyBeaconResync path sof) s) fun t =>
        t.ntb.adj = some { step := true, sec := unsigned 64 (d / 1000000000), ns := (d % 1000000000).toNat, src := true, due := s.now + 2 } ∧
        t.ntb.fedAt = some s.now) ∧
    (s.nodes.epoch.phase = 1 → s.nodes.epoch.left = [] ∨ s.nodes.epoch.since + 8 * 256 ≤ pathNow s →
      Goes (exec .epochDeliveryEnd s) fun t => t.nodes = { s.nodes with epoch :=
        { s.nodes.epoch with phase := 2, left := [], switchAt := 256 * (pathNow s / 256 + 8) } }) ∧
    (s.nodes.epoch.phase = 0 → s.nv.epochStart + 180 * 86400 ≤ netSec s → fld s R.KVT_STAT_vstate = 0 → (slotKey s 2).isSome = true →
      (slotKey s 3).isSome = true → isSet s (R.KVT_CTXc_CFG_en (1 - ctxInForce s)) = false → Goes (exec .epochAgeLimit s) fun t =>
        t.nodes.epoch.phase = 1 ∧ t.nodes.epoch.epoch = (s.nv.epochNo + 1) % 256 ∧ t.nodes.epoch.ctx = 1 - ctxInForce s ∧
        t.nodes.epoch.left = (validNodes s).map (·.1) ∧ t.nodes.epoch.since = pathNow s) ∧
    (∀ d ∈ s.nodes.dist, d.running = true → d.act = none → d.queue = [] → Goes (exec .distributionPassEnd s) fun t =>
      (d.polledAt = none →
        t.nodes.dist = some (distWants s { d with pass := d.pass + 1 } [distPoll { d with pass := d.pass + 1 }])) ∧
      ∀ q ∈ d.polledAt, d.targets.all (distHolds s) = true → q / 256 + 2 ≤ pathNow s / 256 →
        (t.nodes.dist.any fun x => x.act == some ((pathNow s / 256 + 4) * 256) && x.missed == d.missed) = true)

/-- Network time over the backhaul: the NTP poll, the terminus and its deputy (chapter 03, R67, chapter 03, R71, chapter 03,
R72, chapter 03, R73, chapter 18, R468, chapter 18, R469, chapter 18, R471, chapter 18, R473, chapter 18, R474). -/
def Obligations.TerminusCommands : Prop :=
  ∀ (s : State), Canon s →
    (∀ x ∈ ntpServer s, s.bhn.asked = none → s.bhn.polledAt = none → (slook s.bhn.addrs s.bhn.upstream).isSome = true →
      Goes (exec .ntpPoll s) fun t => t.bhn = { s.bhn with asked := some ⟨x.1, x.2, toNtp s (netNs s), none⟩, polledAt := some s.now }) ∧
    (netSec s % 10 = 0 → s.bhn.announced ≠ some (netSec s) → isActive s = true →
      s.bhn.claims = true ∨ (isTerminus s = true ∧ s.bhn.ceded = false) → Goes (exec .terminusAnnounce s) fun t =>
        t.bhn = { s.bhn with claims := true, announced := some (netSec s) }) ∧
    (isDeputy s = true → s.bhn.claims = false → isActive s = true → netSec s % 10 = 1 → s.bhn.heard ≠ netSec s - 1 →
      Goes (exec .announceMissed s) fun t => t.bhn = { s.bhn with missed := s.bhn.missed + 1 } ∧
        (s.bhn.missed = 2 → s.pwr.begun = true → (t.flt.list ++ t.flt.unlisted).any (fun e => e.code == 0x0504) = true)) ∧
    (isDeputy s = true → s.bhn.claims = false → isActive s = true → 3 ≤ s.bhn.missed → fld s R.NTB_STAT_tstate = 2 → netSec s % 10 = 0 →
      Goes (exec .deputyClaim s) fun t =>
        t.bhn = { s.bhn with claims := true, handback := none, announced := some (netSec s) }) ∧
    (∀ at0 ∈ s.bhn.lockedAt, isTerminus s = true → s.bhn.ceded = true → s.bhn.readyAt = none → isActive s = true → timeLocked s = true →
      at0 + 30000000000 ≤ s.now → (slook s.bhn.addrs 3).isSome = true →
      Goes (exec .terminusReady s) fun t => t.bhn = { s.bhn with readyAt := some s.now }) ∧
    (∀ h ∈ s.bhn.handback, h ≤ netSec s → Goes (exec .handbackSecond s) fun t =>
      (isTerminus s = true → t.bhn = { s.bhn with handback := none, readyAt := none, claims := true, ceded := false,
                                                  announced := some (netSec s) }) ∧
      (isDeputy s = true → s.bhn.claims = true → t.bhn = { s.bhn with handback := none, readyAt := none, claims := false,
                                                                      missed := 0, heard := h })) ∧
    (∀ peer ∈ slook s.bhn.addrs 2, ∀ k ∈ backhaulPort s, ∀ m ∈ terminusMessage s 2 (uid0 + 2 ^ 32 * twinUid s),
      let q := portTx s k
      let body := Config.ipFrame k 17 peer 5685 5685 m
      isActive s = true → slook s.bhn.addrs 3 = none → fld s (R.PQU_Qn_CFG_prod q) = agentCore → hasRoom s q body.length = true →
      Goes (exec .subscribeSend s) fun t => t.bhn = s.bhn ∧
        (queueAt t q).entries = (queueAt s q).entries ++ [{ tag := 0, body, at_ := s.now }]) ∧
    (∀ k < 4, ∀ d ∈ (netHead k (queueAt s (portRx s k)).entries.length s).1, d.dport = 5685 →
      let m := d.payload
      (terminusAccepts s m = true → Goes (exec (.terminusMessageReceive k) s) fun t =>
        slook t.bhn.last (8 * leAt m 2 2 + leAt m 1 1) = some (leAt m 8 8) ∧
        (leAt m 1 1 = 2 → isTerminus s = true ∨ isDeputy s = true →
          t.bhn.subs.any (fun x => x.uid == leAt m 16 8 % 2 ^ 32 && x.peer == d.peer && x.last == s.now) = true)) ∧
      (terminusAccepts s m = false → Goes (exec (.terminusMessageReceive k) s) fun t =>
        s.bhn.discards < t.bhn.discards ∧ t.bhn.last = s.bhn.last ∧ t.bhn.subs = s.bhn.subs)) ∧
    (∀ uid : Nat, Goes (exec (.subscriberExpiry uid) s) fun t =>
      t.bhn.subs = s.bhn.subs.filter fun x => x.uid != uid || s.now < x.last + 9000000000) ∧
    (∀ at0 ∈ s.bhn.conflictAt, at0 + 9000000000 ≤ s.now → Goes (exec .conflictExpiry s) fun t =>
      t.bhn = { s.bhn with conflictAt := none } ∧
      (s.pwr.started = true → mayOpenPaths t = true → busy s 7 = false → tteMayRun s = true → isSet t R.TTE_CTRL_run = true))

/-- BHN's ports: frames in and out, links, PAUSE, NTP answers, the backhaul in use (chapter 18, R460, chapter 18, R462,
chapter 18, R464, chapter 18, R466, chapter 18, R467, chapter 18, R469, chapter 18, R470, chapter 18, R475, chapter 18,
R482). -/
def Obligations.BackhaulPorts : Prop :=
  ∀ (s : State), Canon s →
    (∀ k < 3, ∀ frame : List Byte, portOn s k = true → portLink s k = true →
      let q := portRx s k
      let kind := beNat (octets frame 12 2)
      (kind ≠ 0x8100 → kind ≠ 0x8808 → 60 ≤ frame.length → frame.length ≤ 1514 → fld s (R.PQU_Qn_CFG_prod q) = agentBhn →
        hasRoom s q (8 + frame.length) = true → Goes (exec (.ethFrameReceive k frame true) s) fun t =>
          (queueAt t q).entries = (queueAt s q).entries ++
            [{ tag := 0, body := leBytes 4 s.ntb.ns ++ leBytes 4 (s.ntb.sec % 2 ^ 32) ++ frame, at_ := s.now }] ∧
          fld t R.BHN_CNT_RX_n = (fld s R.BHN_CNT_RX_n + 1) % 2 ^ 32) ∧
      exec (.ethFrameReceive k frame false) s = .next (raise (bump s R.BHN_CNT_ERR_fcs 1) R.BHN_IFLG_err)) ∧
    (∀ raw : List Byte, portOn s 3 = true →
      let b := pppUnescape raw
      let q := portRx s 3
      (2 ≤ b.length → crc16 (b.take (b.length - 2)) = leNat (b.drop (b.length - 2)) → fld s (R.PQU_Qn_CFG_prod q) = agentBhn →
        hasRoom s q (8 + (b.length - 2)) = true → Goes (exec (.pppFrameReceive raw false) s) fun t =>
          (queueAt t q).entries = (queueAt s q).entries ++
            [{ tag := 0, body := leBytes 4 s.ntb.ns ++ leBytes 4 (s.ntb.sec % 2 ^ 32) ++ b.take (b.length - 2), at_ := s.now }] ∧
          fld t R.BHN_CNT_RX_n = (fld s R.BHN_CNT_RX_n + 1) % 2 ^ 32) ∧
      exec (.pppFrameReceive raw true) s = .next (raise (bump s R.BHN_CNT_ERR_fcs 1) R.BHN_IFLG_err)) ∧
    (∀ k < 3, ∀ e ∈ hwHead agentBhn (portTx s k) s, portOn s k = true → portLink s k = true → sget (fun _ => 0) s.bhn.pausedTo k ≤ s.now →
      Goes (exec (.ethFrameSend k) s) fun t => t.out = ⟨.eth k, withFcs e.body⟩ :: s.out ∧
        (queueAt t (portTx s k)).entries = (queueAt s (portTx s k)).entries.tail ∧
        fld t R.BHN_CNT_TX_n = (fld s R.BHN_CNT_TX_n + 1) % 2 ^ 32 ∧ (bit e.tag 0 = true → k < 2 → isSet t R.BHN_IFLG_txsfd = true)) ∧
    (∀ e ∈ hwHead agentBhn (portTx s 3) s, portOn s 3 = true → isSet s R.BHN_UART_flow = false ∨ portLink s 3 = true →
      Goes (exec .pppFrameSend s) fun t =>
        t.out = ⟨.ppp, [0x7E] ++ pppEscape (e.body ++ leBytes 2 (crc16 e.body)) ++ [0x7E]⟩ :: s.out ∧
        (queueAt t (portTx s 3)).entries = (queueAt s (portTx s 3)).entries.tail ∧
        fld t R.BHN_CNT_TX_n = (fld s R.BHN_CNT_TX_n + 1) % 2 ^ 32) ∧
    (∀ k < 2, ∀ at0 ∈ slook s.bhn.pauseAt k, wmState s (portRx s k) = true → mayPause s k = true →
      at0 + fld s R.BHN_PAUSE_quanta * pauseUnit s k / 2 ≤ s.now → Goes (exec .pauseRepeat s) fun t =>
        slook t.bhn.pauseAt k = some s.now ∧ isSet t R.BHN_IFLG_pause = true ∧ s.out.length < t.out.length) ∧
    (∀ k < 4, ∀ up spd fdx pause usable : Bool, portOn s k = true →
      Goes (exec (.portLinkChange k up spd fdx pause usable) s) fun t => portLink t k = up ∧
        (k < 2 → fldBit t R.BHN_STAT_fdx k = (up && fdx) ∧ fldBit t R.BHN_STAT_pause k = (up && fdx && pause)) ∧
        (k = 0 → isSet t R.BHN_STAT_spd0 = (up && spd)) ∧ (portLink s k ≠ up → isSet t R.BHN_IFLG_link = true)) ∧
    (∀ at0 ∈ s.bhn.heldSince, s.bhn.inUse = 2 → at0 + 3000000000 ≤ s.now → Goes (exec .backhaulReturn s) fun t =>
      t.bhn = { s.bhn with inUse := 1, asked := none }) ∧
    (∀ found : List (Option (List Byte)), Rising s.bhn.addrs → Goes (exec (.dnsResolve found) s) fun t => ∀ k < 4,
      let used := odGet s 10 (0x12 + k / 2) (k % 2) != [0]
      slook t.bhn.addrs k = if used then (found.getD k none <|> slook s.bhn.addrs k) else none) ∧
    (∀ k < 4, ∀ d ∈ (netHead k (queueAt s (portRx s k)).entries.length s).1, ∀ r ∈ s.bhn.asked, d.dport = 123 →
      beNat (octets d.payload 0 1) % 8 = 4 →
      let t1 : Int := ((r.left.getD 0 + (stampLag s k).2 : Nat) : Int)
      let t2 := ofNtp s (octets d.payload 32 8)
      let t3 := ofNtp s (octets d.payload 40 8)
      let t4 : Int := (d.stamp : Int) - (stampLag s k).1
      (ntpAccepts r d = true → Goes (exec (.ntpResponse k) s) fun t => t.bhn.asked = none ∧
        t.bhn.stratum = beNat (octets d.payload 1 1) ∧
        t.bhn.samples = (⟨((t2 - t1) + (t3 - t4)) / 2, ((t4 - t1) - (t3 - t2)).toNat, s.now⟩ :: s.bhn.samples).take 8) ∧
      (ntpAccepts r d = false → Goes (exec (.ntpResponse k) s) fun t =>
        t.bhn.asked = some r ∧ t.bhn.samples = s.bhn.samples ∧ s.bhn.discards < t.bhn.discards)) ∧
    (∀ k < 4, ∀ d ∈ (netHead k (queueAt s (portRx s k)).entries.length s).1, d.dport = 123 → beNat (octets d.payload 0 1) % 8 = 3 →
      fld s R.NTB_STAT_tstate = 2 →
      let s1 := hwNext agentCore (portRx s k) (netHead k (queueAt s (portRx s k)).entries.length s).2
      let q := portTx s k
      let answer : List Byte := [BitVec.ofNat 8 (8 * (beNat (octets d.payload 0 1) / 8 % 8) + 4), BitVec.ofNat 8 (ownStratum s)] ++
        octets d.payload 2 1 ++ List.replicate 21 0 ++ octets d.payload 40 8 ++ toNtp s (d.stamp - (stampLag s k).1) ++ toNtp s (netNs s)
      let body := Config.ipFrame k 17 d.peer 123 d.sport answer
      fld s (R.PQU_Qn_CFG_prod q) = agentCore → hasRoom s1 q body.length = true → Goes (exec (.ntpRequest k) s) fun t =>
        (queueAt t q).entries = (queueAt s1 q).entries ++ [{ tag := 0, body, at_ := s.now }])

/-- The light field engine's commands: run, ingest, go, cycles, engine words (chapter 08, R229, chapter 08, R233, chapter
08, R235, chapter 08, R239, chapter 08, R251, chapter 08, R252, chapter 08, R254). -/
def Obligations.LightFieldCommands : Prop :=
  ∀ (s : State) (o : Origin), Canon s →
    (Lets s o A.LFE_CTRL →
      let fwd := fld s R.LFE_QCFG_fwd
      let clash := fwd = fld s R.LFE_QCFG_rq0 ∨ fwd = fld s R.LFE_QCFG_rq1 ∨ fwd = fld s R.LFE_QCFG_evq
      (busy s 10 = false → isSet s R.LFE_CTRL_run = false → (¬ clash → Goes (exec (.lfeRunWrite o true) s) fun t =>
          isSet t R.LFE_CTRL_run = true ∧ busy t 10 = true ∧ t.lfe = s.lfe) ∧
        (clash → Goes (exec (.lfeRunWrite o true) s) fun t => isSet t R.LFE_CTRL_run = false ∧ cfgErrSet t 10 ∧ t.lfe = s.lfe)) ∧
      (isSet s R.LFE_CTRL_run = true → Goes (exec (.lfeRunWrite o false) s) fun t => isSet t R.LFE_CTRL_run = false ∧ t.lfe = s.lfe ∧
        busy t 10 = (s.lfe.cyc.isSome && busy s 10)) ∧
      (isSet s R.LFE_CTRL_run = true → s.pwr.pllE = true → s.lfe.cyc = none → Goes (exec (.lfeGo o) s) fun t =>
        t.lfe.cyc = some ⟨s.ntb.path / cyclePaths t, s.now⟩ ∧ isSet t R.LFE_STAT_cyc_act = true ∧ isSet t R.LFE_CTRL_run = true)) ∧
    (∀ n < 3, ∀ q ∈ (lfeQueues s)[n]?, ∀ e ∈ hwHead agentLfe q s, ingesting s = true → s.pwr.pllE = true →
      fld s R.LFE_QCFG_fwd ≠ q →
      Goes (exec (.lfeIngest n) s) fun t => (queueAt t q).entries = (queueAt s q).entries.tail ∧
        (q ≠ fld s R.LFE_QCFG_evq → fld s (R.PQU_Qn_CFG_prod (fld s R.LFE_QCFG_fwd)) = agentLfe →
          hasRoom s (fld s R.LFE_QCFG_fwd) e.body.length = true → (queueAt t (fld s R.LFE_QCFG_fwd)).entries =
            (queueAt s (fld s R.LFE_QCFG_fwd)).entries ++ [{ tag := e.tag, body := e.body, at_ := s.now }]) ∧
        (q = fld s R.LFE_QCFG_evq → e.body.length = 8 → leAt e.body 0 1 = 1 → leAt e.body 3 1 = 0 → leAt e.body 6 2 = 0 →
          let z := leAt e.body 1 1
          let i := leAt e.body 2 1
          z < 128 → i < (zoneEntry s z).p → i < 64 →
            elem t z i = { elem s z i with acc := clampInt (-32768) 32767 ((elem s z i).acc + signed 16 (leAt e.body 4 2)) })) ∧
    (∀ p ∈ slook s.ntb.pulses 1, isSet s R.LFE_CTRL_run = true → s.pwr.pllE = true → s.lfe.cyc = none →
      Goes (exec .innerCycleStart s) fun t => t.lfe.cyc = some ⟨p / cyclePaths t, s.now⟩ ∧ isSet t R.LFE_STAT_cyc_act = true ∧
        t.ntb.pulses = sdel s.ntb.pulses 1) ∧
    (∀ p ∈ slook s.ntb.pulses 1, isSet s R.LFE_CTRL_run = true → s.lfe.cyc ≠ none → Goes (exec .cycleOverrun s) fun t =>
      t.lfe = s.lfe ∧ t.ntb.pulses = sdel s.ntb.pulses 1 ∧ isSet t R.LFE_IFLG_ovr = true ∧
      fld t R.LFE_CNT_OVR_ovr = min (fld s R.LFE_CNT_OVR_ovr + 1) 65535) ∧
    (∀ k ∈ s.lfe.cyc, Goes (exec .cycleComplete s) fun t => t.lfe = { s.lfe with cyc := none } ∧ isSet t R.LFE_STAT_cyc_act = false ∧
      isSet t R.LFE_IFLG_done = true ∧ fld t R.LFE_LAST_c = k.c % 2 ^ 32 ∧ (isSet s R.LFE_CTRL_run = false → busy t 10 = false)) ∧
    (let a := 4 * fld s R.LFE_EADDR_addr;
      (LetsRead s o A.LFE_EDATA → a < 0x50000 → Goes (exec (.engineWordAccess o none) s) fun t =>
        lastResult t o.core = .value (BitVec.ofNat 32 (engNat s a 4)) ∧ t.lfe = s.lfe ∧
        fld t R.LFE_EADDR_addr = (fld s R.LFE_EADDR_addr + 1) % 2 ^ R.LFE_EADDR_addr.width) ∧
      (Lets s o A.LFE_EDATA → a < 0x30000 ∨ (a < 0x50000 ∧ busy s 10 = false) → ∀ w : Word,
        Goes (exec (.engineWordAccess o (some w)) s) fun t => engNat t a 4 = w.toNat ∧
        (∀ b, b < a ∨ a + 4 ≤ b → engByte t b = engByte s b) ∧
        fld t R.LFE_EADDR_addr = (fld s R.LFE_EADDR_addr + 1) % 2 ^ R.LFE_EADDR_addr.width) ∧
      (Lets s o A.LFE_EDATA → 0x30000 ≤ a → busy s 10 = true → ∀ w : Word, Goes (exec (.engineWordAccess o (some w)) s) fun t =>
        t.lfe = s.lfe ∧ cfgErrSet t 10))

/-- Every level that a zone's run gives lies in its input's envelope (chapter 08, R225, chapter 08, R227, chapter 08, R238). -/
def Obligations.LevelsStayInTheirEnvelopes : Prop :=
  ∀ (s : State) (c tz : Nat) (k : ZoneSnap), k.z < 128 → k.e.n ≤ 64 → k.e.m ≤ 64 → k.e.q ≤ 32 →
    let r := runZone c tz k s
    r.1.length ≤ k.e.m ∧
    (∀ j < r.1.length,
      let i := zoneInput r.2 k.e j
      let u := r.1.getD j 0
      (i.kind = 0 → u = 0) ∧ (i.kind ≠ 0 → i.held = true → u = i.level) ∧
      (i.kind ≠ 0 → i.held = false → i.lo ≤ i.hi → u = 0 ∨ ((i.lo : Int) ≤ u ∧ u ≤ i.hi))) ∧
    (∀ a, a < zoneAddr k.z ∨ zoneAddr (k.z + 1) ≤ a → engByte r.2 a = engByte s a) ∧ r.2.mem = s.mem

/-- Schedules: midnight, points, events, traffic, daylight saving, leap seconds, overrides, set writes (chapter 03, R69,
chapter 10, R274, chapter 10, R275, chapter 10, R280, chapter 10, R283, chapter 10, R284, chapter 10, R285, chapter 10,
R287, chapter 10, R288, chapter 10, R293). -/
def Obligations.ScheduleCommands : Prop :=
  ∀ (s : State), Canon s → Rising s.sched.sets → Rising s.sched.written →
    let follows (t : State) : Prop := ∀ r ∈ zoneRecords s, slook t.sched.sets r.zone = effectiveSet t r.zone
    let day := localDay s (netSec s)
    (fld s R.NTB_STAT_tstate ≠ 0 → s.sched.date ≠ some day.toNat → Goes (exec .localMidnight s) fun t =>
      t.sched.date = some day.toNat ∧ follows t) ∧
    (fld s R.NTB_STAT_tstate ≠ 0 → Goes (exec .programPoint s) fun t => follows t ∧
      t.sched = { s.sched with sets := t.sched.sets }) ∧
    (fld s R.NTB_STAT_tstate ≠ 0 → Goes (exec .calendarEventEdge s) fun t => follows t ∧
      t.sched = { s.sched with sets := t.sched.sets }) ∧
    (fld s R.NTB_STAT_tstate ≠ 0 → Goes (exec .photocellPoint s) fun t => follows t ∧
      ∀ d ∈ plansInUse s day, ∀ i < planLength s d, ∀ w ∈ photoWindow s day (planPoint s d i), 3 ≤ (planPoint s d i).ref →
        0 ≤ day → firedAt s day d i = none → w.2 ≤ (netSec s : Int) → (netSec s : Int) < w.2 + 86400 →
        firedAt t day d i = some (netSec s)) ∧
    (fld s R.NTB_STAT_tstate ≠ 0 → s.sched.trafficAt ≠ netSec s / 900 * 900 → Goes (exec .trafficEvaluation s) fun t =>
      follows t ∧ t.sched.trafficAt = netSec s / 900 * 900 ∧
      ∀ k < 8, (meterSources s k).any (sourceAlive s) = true →
        let m := netSec s / 60
        let rate := 4 * ((s.sched.counts.filter fun c => c.1 == k && m ≤ c.2.1 + 15 && c.2.1 < m).map (·.2.2)).sum
        sget (fun _ => 0) t.sched.rates k = rate ∧
        sget (fun _ => 0) t.sched.classes k = classStep s k (sget (fun _ => 0) s.sched.classes k) rate) ∧
    (fld s R.NTB_STAT_tstate ≠ 0 → Goes (exec .daylightSavingTransition s) fun t => follows t ∧ t.nodes.toff = toffAt s (netSec s)) ∧
    (∀ insert : Bool, fld s R.NTB_STAT_tstate ≠ 0 → -1000000 < utcDelta s → utcDelta s < 1000000 →
      Goes (exec (.leapSecond insert) s) fun t =>
        follows t ∧ utcDelta t = utcDelta s + (if insert then 1 else -1) ∧ t.ntb = s.ntb ∧ t.nodes.toff = toffAt t (netSec s)) ∧
    (s.nv.overrides.Nodup → Goes (exec .overrideRenew s) fun t => t.nv.overrides = s.nv.overrides.map fun o =>
      if o.levels && o.renew ≤ netSec s && (o.stop == 0 || netSec s < o.stop) then { o with renew := netSec s + 1800 } else o) ∧
    (fld s R.NTB_STAT_tstate ≠ 0 → Goes (exec .overrideEnd s) fun t => follows t ∧
      t.nv.overrides = s.nv.overrides.filter fun o => o.stop == 0 || netSec s < o.stop) ∧
    (s.lfe.cyc = none → isActive s = true → Goes (exec .rSchedWrite s) fun t => t.sched.sets = s.sched.sets ∧
      ∀ r ∈ zoneRecords s, ∀ x ∈ slook s.sched.sets r.zone, slook t.sched.written r.zone = some x.1)

/-- Zone models put in force, pads, contactors and analogue inputs (chapter 09, R255, chapter 09, R267, chapter 09, R269,
chapter 10, R279, chapter 10, R289, chapter 26, R623, chapter 26, R624, chapter 26, R625, chapter 26, R626, chapter 17,
R458). -/
def Obligations.ZoneModelAndPadCommands : Prop :=
  ∀ (s : State), Canon s →
    (∀ b ∈ s.zones.apply, Goes (exec .zoneModelApply s) fun t => t.nv.zfile = b ∧ t.nv.zfileOld = s.nv.zfile ∧
      t.zones.apply = none ∧ t.zones.wait = true) ∧
    (s.zones.wait = true → isSet s R.LFE_IFLG_dir = true → dirPending s = false → Goes (exec .zoneModelMapsWrite s) fun t =>
      t.zones = { s.zones with wait := false, moved := [] } ∧ isSet t R.LFE_IFLG_dir = false) ∧
    ((zoneRecord s s.nodes.survey.zone).isSome = true → s.nodes.survey.state = 1 → s.nodes.survey.step = 2 →
      s.nodes.survey.from_ + 256 ≤ pathNow s →
      exec .surveyStep s = .next { s with nodes := { s.nodes with survey := { s.nodes.survey with step := 3, samples := [] } } }) ∧
    (∀ n < 16, ∀ b : Bool, Goes (exec (.gpioEdge n (some b)) s) fun t => slook t.ioc.drive n = some b ∧
      (∀ m < 16, fldBit t R.IOC_GIN_v m = padLevel t m) ∧
      (fldBit t R.IOC_GIN_v n ≠ fldBit s R.IOC_GIN_v n →
        fldBit s R.IOC_GEDGE_both n = true ∨ fldBit s R.IOC_GEDGE_fall n = !fldBit t R.IOC_GIN_v n → fldBit t R.IOC_GIFLG_f n = true)) ∧
    (∀ n < 16, ∀ at0 ∈ slook s.ioc.pulseEnd n, at0 ≤ s.now → Goes (exec (.gpioPulseEnd n) s) fun t =>
      t.ioc.pulseEnd = sdel s.ioc.pulseEnd n ∧ ∀ m < 16, fldBit t R.IOC_GIN_v m = padLevel t m) ∧
    (∀ k < 8, ∀ (level : Bool) (held : Nat), Goes (exec (.dinEdge k level held) s) fun t => fldBit t R.IOC_DIN_raw k = level ∧
      (held < dinFilter s k ∨ bit s.ioc.filt k = level → t.ioc = s.ioc) ∧
      (dinFilter s k ≤ held → bit s.ioc.filt k ≠ level → bit t.ioc.filt k = level ∧
        dinActive t k = (level != fldBit s R.IOC_DIN_pol k) ∧
        (dinActive t k = true → fld t (R.IOC_DCNTk_n k) = (fld s (R.IOC_DCNTk_n k) + 1) % 2 ^ 32 ∧ fldBit t R.IOC_IFLG_din k = true))) ∧
    (∀ n < 4, fldBit s R.IOC_STAT_ctc_on n = true → Goes (exec (.contactorTrip n) s) (fun t =>
        fldBit t R.IOC_STAT_ctc_trip n = true ∧ fldBit t R.IOC_STAT_ctc_on n = false ∧ fldBit t R.IOC_IFLG_ctc n = true) ∧
      (fldBit s R.IOC_STAT_ctc_open n = false → Goes (exec (.contactorOpenLoad n) s) fun t =>
        fldBit t R.IOC_STAT_ctc_open n = true ∧ fldBit t R.IOC_STAT_ctc_on n = true ∧ fldBit t R.IOC_IFLG_ctc n = true)) ∧
    (∀ n < 4, Goes (exec (.contactorCurrentReturn n) s) fun t => fldBit t R.IOC_STAT_ctc_open n = false ∧ t.ioc = s.ioc) ∧
    (∀ temp : Int, Goes (exec (.temperatureHigh temp) s) fun t => fld t R.IOC_MON_temp = unsigned 16 temp ∧
      (signed 16 (fld s R.IOC_TEMP_hi) ≤ temp → t.ioc = { s.ioc with armed := false } ∧
        (s.ioc.armed = true → isSet t R.IOC_IFLG_temp = true)) ∧
      (temp ≤ signed 16 (fld s R.IOC_TEMP_hi) - 50 → t.ioc = { s.ioc with armed := true })) ∧
    (∀ a0 a1 : Int, (isSet s R.IOC_CTRL_ain_en = true → Goes (exec (.ainSample a0 a1) s) fun t =>
        fld t R.IOC_AIN_a0 = unsigned 16 (clampInt (-1000) 12000 a0) ∧ fld t R.IOC_AIN_a1 = unsigned 16 (clampInt (-1000) 12000 a1) ∧
        isSet t R.IOC_IFLG_ain = true ∧ (photocell t 0).samples.getLast? = some (clampInt (-1000) 12000 a0)) ∧
      (isSet s R.IOC_CTRL_ain_en = false → exec (.ainSample a0 a1) s = .next s)) ∧
    (∀ k < 2, (photocell s k).samples ≠ [] → isSet s R.IOC_CTRL_ain_en = true → Goes (exec .photocellMean s) fun t =>
      (photocell t k).means.getLast? = some (photoOf s k (photocell s k)) ∧ (photocell t k).samples = (photocell s k).samples) ∧
    (∀ x ∈ (inputTake s).1, sourceEntries s (0x300 + x.1) = [] → Goes (exec .inputEventReceive s) fun t =>
      sget (fun _ => 0) t.fb.unmapped x.1 = sget (fun _ => 0) s.fb.unmapped x.1 + 1 ∧ t.sched = s.sched)
end

