-- ==== Sys2Proof/Laws/Sparse.lean ====
section
/-!
SUPPORT. The laws of sparse maps: what a lookup gives after an insertion, a removal or a store with a default, and
that each of these keeps the canonical form.
-/

namespace Sys2Proof.Machine

theorem slook_eq_none_of_lt {α : Type} {m : List (Nat × α)} {k : Nat} (h : ∀ p ∈ m, k < p.1) : slook m k = none := by
  cases m with
  | nil => rfl
  | cons p t =>
    have := h p (by simp)
    obtain ⟨k', v⟩ := p
    simp only [slook] at *
    rw [if_neg (by omega), if_pos (by omega)]

theorem mem_of_slook {α : Type} {m : List (Nat × α)} {k : Nat} {v : α} (h : slook m k = some v) : (k, v) ∈ m := by
  induction m with
  | nil => simp [slook] at h
  | cons p t ih =>
    obtain ⟨k', v'⟩ := p
    simp only [slook] at h
    split at h
    · rename_i e
      injection h with h
      simp [← e, ← h]
    · split at h
      · cases h
      · simp [ih h]

theorem slook_sins_self {α : Type} (m : List (Nat × α)) (k : Nat) (v : α) : slook (sins m k v) k = some v := by
  induction m with
  | nil => simp [sins, slook]
  | cons p t ih =>
    obtain ⟨k', v'⟩ := p
    simp only [sins]
    split
    · simp [slook]
    · split
      · simp [slook]
      · rw [slook, if_neg (by omega), if_neg (by omega), ih]

theorem slook_sins_other {α : Type} (m : List (Nat × α)) {k j : Nat} (v : α) (h : j ≠ k) :
    Rising m → slook (sins m k v) j = slook m j := by
  induction m with
  | nil => intro _; simp only [sins, slook, if_neg h]; split <;> rfl
  | cons p t ih =>
    obtain ⟨k', v'⟩ := p
    intro hr
    have hr' := List.pairwise_cons.1 hr
    simp only [sins]
    split
    · rename_i hk
      simp only [slook, if_neg h]
      by_cases hj : j < k
      · rw [if_pos hj, if_neg (by omega), if_pos (by omega)]
      · rw [if_neg hj]
    · split
      · rename_i hk hk2
        subst hk2
        simp only [slook, if_neg h]
      · simp only [slook]
        split
        · rfl
        · split
          · rfl
          · exact ih hr'.2

theorem mem_sins {α : Type} {m : List (Nat × α)} {k : Nat} {v : α} {p : Nat × α} (h : p ∈ sins m k v) :
    p = (k, v) ∨ p ∈ m := by
  induction m with
  | nil => simpa [sins] using h
  | cons q t ih =>
    obtain ⟨k', v'⟩ := q
    simp only [sins] at h
    split at h
    · simpa using h
    · split at h
      · rcases List.mem_cons.1 h with h | h
        · exact .inl h
        · exact .inr (by simp [h])
      · rcases List.mem_cons.1 h with h | h
        · exact .inr (by simp [h])
        · rcases ih h with h | h
          · exact .inl h
          · exact .inr (by simp [h])

theorem rising_sins {α : Type} {m : List (Nat × α)} (k : Nat) (v : α) (h : Rising m) : Rising (sins m k v) := by
  induction m with
  | nil => simp [sins, Rising]
  | cons q t ih =>
    obtain ⟨k', v'⟩ := q
    have hc := List.pairwise_cons.1 h
    simp only [sins]
    split
    · rename_i hk
      refine List.pairwise_cons.2 ⟨?_, h⟩
      intro p hp
      rcases List.mem_cons.1 hp with rfl | hp
      · exact hk
      · exact Nat.lt_trans hk (hc.1 p hp)
    · split
      · rename_i hk hk2
        subst hk2
        exact List.pairwise_cons.2 ⟨hc.1, hc.2⟩
      · refine List.pairwise_cons.2 ⟨?_, ih hc.2⟩
        intro p hp
        rcases mem_sins hp with rfl | hp
        · simp only; omega
        · exact hc.1 p hp

theorem mem_of_mem_sdel {α : Type} {m : List (Nat × α)} {k : Nat} {p : Nat × α} (h : p ∈ sdel m k) : p ∈ m := by
  induction m with
  | nil => simp [sdel] at h
  | cons q t ih =>
    obtain ⟨k', v'⟩ := q
    simp only [sdel] at h
    split at h
    · exact h
    · split at h
      · simp [h]
      · rcases List.mem_cons.1 h with h | h
        · simp [h]
        · simp [ih h]

theorem rising_sdel {α : Type} {m : List (Nat × α)} (k : Nat) (h : Rising m) : Rising (sdel m k) := by
  induction m with
  | nil => simp [sdel, Rising]
  | cons q t ih =>
    obtain ⟨k', v'⟩ := q
    have hc := List.pairwise_cons.1 h
    simp only [sdel]
    split
    · exact h
    · split
      · exact hc.2
      · exact List.pairwise_cons.2 ⟨fun p hp => hc.1 p (mem_of_mem_sdel hp), ih hc.2⟩

theorem slook_sdel_self {α : Type} {m : List (Nat × α)} (k : Nat) (h : Rising m) : slook (sdel m k) k = none := by
  induction m with
  | nil => rfl
  | cons q t ih =>
    obtain ⟨k', v'⟩ := q
    have hc := List.pairwise_cons.1 h
    simp only [sdel]
    split
    · rw [slook, if_neg (by omega), if_pos (by omega)]
    · split
      · rename_i hk hk2
        subst hk2
        exact slook_eq_none_of_lt hc.1
      · rw [slook, if_neg (by omega), if_neg (by omega), ih hc.2]

theorem slook_sdel_other {α : Type} {m : List (Nat × α)} {k j : Nat} (hj : j ≠ k) (h : Rising m) :
    slook (sdel m k) j = slook m j := by
  induction m with
  | nil => rfl
  | cons q t ih =>
    obtain ⟨k', v'⟩ := q
    have hc := List.pairwise_cons.1 h
    simp only [sdel]
    split
    · rfl
    · split
      · rename_i hk hk2
        subst hk2
        by_cases hlt : j < k
        · rw [slook, if_neg hj, if_pos hlt]
          exact slook_eq_none_of_lt (fun p hp => Nat.lt_trans hlt (hc.1 p hp))
        · rw [slook.eq_2 , if_neg hj, if_neg hlt]
      · simp only [slook]
        split
        · rfl
        · split
          · rfl
          · exact ih hc.2

theorem sget_sput_self {α : Type} [DecidableEq α] (d : Nat → α) {m : List (Nat × α)} (k : Nat) (v : α) (h : Rising m) :
    sget d (sput d m k v) k = v := by
  unfold sget sput
  split
  · rename_i w hw
    split at hw
    · rw [slook_sdel_self k h] at hw; cases hw
    · rw [slook_sins_self] at hw; exact (Option.some.inj hw).symm
  · rename_i hn
    split at hn
    · rename_i hv; exact hv.symm
    · rw [slook_sins_self] at hn; cases hn

theorem sget_sput_other {α : Type} [DecidableEq α] (d : Nat → α) {m : List (Nat × α)} {k j : Nat} (v : α)
    (hj : j ≠ k) (h : Rising m) : sget d (sput d m k v) j = sget d m j := by
  have hl : slook (sput d m k v) j = slook m j := by
    unfold sput
    split
    · exact slook_sdel_other hj h
    · exact slook_sins_other m v hj h
  simp only [sget, hl]

theorem canonical_sput {α : Type} [DecidableEq α] (d : Nat → α) {m : List (Nat × α)} (k : Nat) (v : α)
    (h : Canonical d m) : Canonical d (sput d m k v) := by
  unfold sput
  split
  · exact ⟨rising_sdel k h.1, fun p hp => h.2 p (mem_of_mem_sdel hp)⟩
  · rename_i hv
    refine ⟨rising_sins k v h.1, fun p hp => ?_⟩
    rcases mem_sins hp with rfl | hp
    · exact hv
    · exact h.2 p hp

end Sys2Proof.Machine
end

