-- ==== Sys2Proof/Laws/State.lean ====
section
/-!
SUPPORT. What each update of a part of the state does to every field: one lemma per update, its parts simp lemmas, so that no
proof unfolds a record update.
-/

namespace Sys2Proof.Machine

variable (s : State)

@[simp] theorem setBkd_fields (x : BkdState) :
    (setBkd x s).now = s.now ∧ (setBkd x s).free = s.free ∧ (setBkd x s).pending = s.pending ∧ (setBkd x s).out = s.out ∧
    (setBkd x s).regs = s.regs ∧ (setBkd x s).shadows = s.shadows ∧ (setBkd x s).mem = s.mem ∧ (setBkd x s).bulk = s.bulk ∧
    (setBkd x s).od = s.od ∧ (setBkd x s).odHeld = s.odHeld ∧ (setBkd x s).sys = s.sys ∧ (setBkd x s).bsc = s.bsc ∧
    (setBkd x s).evr = s.evr ∧ (setBkd x s).ntb = s.ntb ∧ (setBkd x s).pqu = s.pqu ∧ (setBkd x s).tkn = s.tkn ∧
    (setBkd x s).vault = s.vault ∧ (setBkd x s).bkd = x ∧ (setBkd x s).flt = s.flt ∧ (setBkd x s).rfe = s.rfe ∧
    (setBkd x s).tte = s.tte ∧ (setBkd x s).lfe = s.lfe ∧ (setBkd x s).sdc = s.sdc ∧ (setBkd x s).mtr = s.mtr ∧
    (setBkd x s).fb = s.fb ∧ (setBkd x s).icu = s.icu ∧ (setBkd x s).ioc = s.ioc ∧ (setBkd x s).pwr = s.pwr ∧
    (setBkd x s).nodes = s.nodes ∧ (setBkd x s).zones = s.zones ∧ (setBkd x s).sched = s.sched ∧ (setBkd x s).bal = s.bal ∧
    (setBkd x s).bhn = s.bhn ∧ (setBkd x s).dict = s.dict ∧ (setBkd x s).upd = s.upd ∧ (setBkd x s).nv = s.nv := by
  refine ⟨rfl, rfl, rfl, rfl, rfl, rfl, rfl, rfl, rfl, rfl, rfl, rfl, rfl, rfl, rfl, rfl, rfl, rfl, rfl, rfl, rfl, rfl, rfl,
    rfl, rfl, rfl, rfl, rfl, rfl, rfl, rfl, rfl, rfl, rfl, rfl, rfl⟩

@[simp] theorem setBal_fields (x : BalanceState) :
    (setBal x s).now = s.now ∧ (setBal x s).free = s.free ∧ (setBal x s).pending = s.pending ∧ (setBal x s).out = s.out ∧
    (setBal x s).regs = s.regs ∧ (setBal x s).shadows = s.shadows ∧ (setBal x s).mem = s.mem ∧ (setBal x s).bulk = s.bulk ∧
    (setBal x s).od = s.od ∧ (setBal x s).odHeld = s.odHeld ∧ (setBal x s).sys = s.sys ∧ (setBal x s).bsc = s.bsc ∧
    (setBal x s).evr = s.evr ∧ (setBal x s).ntb = s.ntb ∧ (setBal x s).pqu = s.pqu ∧ (setBal x s).tkn = s.tkn ∧
    (setBal x s).vault = s.vault ∧ (setBal x s).bkd = s.bkd ∧ (setBal x s).flt = s.flt ∧ (setBal x s).rfe = s.rfe ∧
    (setBal x s).tte = s.tte ∧ (setBal x s).lfe = s.lfe ∧ (setBal x s).sdc = s.sdc ∧ (setBal x s).mtr = s.mtr ∧
    (setBal x s).fb = s.fb ∧ (setBal x s).icu = s.icu ∧ (setBal x s).ioc = s.ioc ∧ (setBal x s).pwr = s.pwr ∧
    (setBal x s).nodes = s.nodes ∧ (setBal x s).zones = s.zones ∧ (setBal x s).sched = s.sched ∧ (setBal x s).bal = x ∧
    (setBal x s).bhn = s.bhn ∧ (setBal x s).dict = s.dict ∧ (setBal x s).upd = s.upd ∧ (setBal x s).nv = s.nv := by
  refine ⟨rfl, rfl, rfl, rfl, rfl, rfl, rfl, rfl, rfl, rfl, rfl, rfl, rfl, rfl, rfl, rfl, rfl, rfl, rfl, rfl, rfl, rfl, rfl,
    rfl, rfl, rfl, rfl, rfl, rfl, rfl, rfl, rfl, rfl, rfl, rfl, rfl⟩

@[simp] theorem setFlt_fields (x : FaultState) :
    (setFlt x s).now = s.now ∧ (setFlt x s).free = s.free ∧ (setFlt x s).pending = s.pending ∧ (setFlt x s).out = s.out ∧
    (setFlt x s).regs = s.regs ∧ (setFlt x s).shadows = s.shadows ∧ (setFlt x s).mem = s.mem ∧ (setFlt x s).bulk = s.bulk ∧
    (setFlt x s).od = s.od ∧ (setFlt x s).odHeld = s.odHeld ∧ (setFlt x s).sys = s.sys ∧ (setFlt x s).bsc = s.bsc ∧
    (setFlt x s).evr = s.evr ∧ (setFlt x s).ntb = s.ntb ∧ (setFlt x s).pqu = s.pqu ∧ (setFlt x s).tkn = s.tkn ∧
    (setFlt x s).vault = s.vault ∧ (setFlt x s).bkd = s.bkd ∧ (setFlt x s).flt = x ∧ (setFlt x s).rfe = s.rfe ∧
    (setFlt x s).tte = s.tte ∧ (setFlt x s).lfe = s.lfe ∧ (setFlt x s).sdc = s.sdc ∧ (setFlt x s).mtr = s.mtr ∧
    (setFlt x s).fb = s.fb ∧ (setFlt x s).icu = s.icu ∧ (setFlt x s).ioc = s.ioc ∧ (setFlt x s).pwr = s.pwr ∧
    (setFlt x s).nodes = s.nodes ∧ (setFlt x s).zones = s.zones ∧ (setFlt x s).sched = s.sched ∧ (setFlt x s).bal = s.bal ∧
    (setFlt x s).bhn = s.bhn ∧ (setFlt x s).dict = s.dict ∧ (setFlt x s).upd = s.upd ∧ (setFlt x s).nv = s.nv := by
  refine ⟨rfl, rfl, rfl, rfl, rfl, rfl, rfl, rfl, rfl, rfl, rfl, rfl, rfl, rfl, rfl, rfl, rfl, rfl, rfl, rfl, rfl, rfl, rfl,
    rfl, rfl, rfl, rfl, rfl, rfl, rfl, rfl, rfl, rfl, rfl, rfl, rfl⟩

@[simp] theorem setFb_fields (x : FbState) :
    (setFb x s).now = s.now ∧ (setFb x s).free = s.free ∧ (setFb x s).pending = s.pending ∧ (setFb x s).out = s.out ∧
    (setFb x s).regs = s.regs ∧ (setFb x s).shadows = s.shadows ∧ (setFb x s).mem = s.mem ∧ (setFb x s).bulk = s.bulk ∧
    (setFb x s).od = s.od ∧ (setFb x s).odHeld = s.odHeld ∧ (setFb x s).sys = s.sys ∧ (setFb x s).bsc = s.bsc ∧
    (setFb x s).evr = s.evr ∧ (setFb x s).ntb = s.ntb ∧ (setFb x s).pqu = s.pqu ∧ (setFb x s).tkn = s.tkn ∧
    (setFb x s).vault = s.vault ∧ (setFb x s).bkd = s.bkd ∧ (setFb x s).flt = s.flt ∧ (setFb x s).rfe = s.rfe ∧
    (setFb x s).tte = s.tte ∧ (setFb x s).lfe = s.lfe ∧ (setFb x s).sdc = s.sdc ∧ (setFb x s).mtr = s.mtr ∧
    (setFb x s).fb = x ∧ (setFb x s).icu = s.icu ∧ (setFb x s).ioc = s.ioc ∧ (setFb x s).pwr = s.pwr ∧
    (setFb x s).nodes = s.nodes ∧ (setFb x s).zones = s.zones ∧ (setFb x s).sched = s.sched ∧ (setFb x s).bal = s.bal ∧
    (setFb x s).bhn = s.bhn ∧ (setFb x s).dict = s.dict ∧ (setFb x s).upd = s.upd ∧ (setFb x s).nv = s.nv := by
  refine ⟨rfl, rfl, rfl, rfl, rfl, rfl, rfl, rfl, rfl, rfl, rfl, rfl, rfl, rfl, rfl, rfl, rfl, rfl, rfl, rfl, rfl, rfl, rfl,
    rfl, rfl, rfl, rfl, rfl, rfl, rfl, rfl, rfl, rfl, rfl, rfl, rfl⟩

@[simp] theorem setLfe_fields (x : LfeState) :
    (setLfe x s).now = s.now ∧ (setLfe x s).free = s.free ∧ (setLfe x s).pending = s.pending ∧ (setLfe x s).out = s.out ∧
    (setLfe x s).regs = s.regs ∧ (setLfe x s).shadows = s.shadows ∧ (setLfe x s).mem = s.mem ∧ (setLfe x s).bulk = s.bulk ∧
    (setLfe x s).od = s.od ∧ (setLfe x s).odHeld = s.odHeld ∧ (setLfe x s).sys = s.sys ∧ (setLfe x s).bsc = s.bsc ∧
    (setLfe x s).evr = s.evr ∧ (setLfe x s).ntb = s.ntb ∧ (setLfe x s).pqu = s.pqu ∧ (setLfe x s).tkn = s.tkn ∧
    (setLfe x s).vault = s.vault ∧ (setLfe x s).bkd = s.bkd ∧ (setLfe x s).flt = s.flt ∧ (setLfe x s).rfe = s.rfe ∧
    (setLfe x s).tte = s.tte ∧ (setLfe x s).lfe = x ∧ (setLfe x s).sdc = s.sdc ∧ (setLfe x s).mtr = s.mtr ∧
    (setLfe x s).fb = s.fb ∧ (setLfe x s).icu = s.icu ∧ (setLfe x s).ioc = s.ioc ∧ (setLfe x s).pwr = s.pwr ∧
    (setLfe x s).nodes = s.nodes ∧ (setLfe x s).zones = s.zones ∧ (setLfe x s).sched = s.sched ∧ (setLfe x s).bal = s.bal ∧
    (setLfe x s).bhn = s.bhn ∧ (setLfe x s).dict = s.dict ∧ (setLfe x s).upd = s.upd ∧ (setLfe x s).nv = s.nv := by
  refine ⟨rfl, rfl, rfl, rfl, rfl, rfl, rfl, rfl, rfl, rfl, rfl, rfl, rfl, rfl, rfl, rfl, rfl, rfl, rfl, rfl, rfl, rfl, rfl,
    rfl, rfl, rfl, rfl, rfl, rfl, rfl, rfl, rfl, rfl, rfl, rfl, rfl⟩

@[simp] theorem setMtr_fields (x : MtrState) :
    (setMtr x s).now = s.now ∧ (setMtr x s).free = s.free ∧ (setMtr x s).pending = s.pending ∧ (setMtr x s).out = s.out ∧
    (setMtr x s).regs = s.regs ∧ (setMtr x s).shadows = s.shadows ∧ (setMtr x s).mem = s.mem ∧ (setMtr x s).bulk = s.bulk ∧
    (setMtr x s).od = s.od ∧ (setMtr x s).odHeld = s.odHeld ∧ (setMtr x s).sys = s.sys ∧ (setMtr x s).bsc = s.bsc ∧
    (setMtr x s).evr = s.evr ∧ (setMtr x s).ntb = s.ntb ∧ (setMtr x s).pqu = s.pqu ∧ (setMtr x s).tkn = s.tkn ∧
    (setMtr x s).vault = s.vault ∧ (setMtr x s).bkd = s.bkd ∧ (setMtr x s).flt = s.flt ∧ (setMtr x s).rfe = s.rfe ∧
    (setMtr x s).tte = s.tte ∧ (setMtr x s).lfe = s.lfe ∧ (setMtr x s).sdc = s.sdc ∧ (setMtr x s).mtr = x ∧
    (setMtr x s).fb = s.fb ∧ (setMtr x s).icu = s.icu ∧ (setMtr x s).ioc = s.ioc ∧ (setMtr x s).pwr = s.pwr ∧
    (setMtr x s).nodes = s.nodes ∧ (setMtr x s).zones = s.zones ∧ (setMtr x s).sched = s.sched ∧ (setMtr x s).bal = s.bal ∧
    (setMtr x s).bhn = s.bhn ∧ (setMtr x s).dict = s.dict ∧ (setMtr x s).upd = s.upd ∧ (setMtr x s).nv = s.nv := by
  refine ⟨rfl, rfl, rfl, rfl, rfl, rfl, rfl, rfl, rfl, rfl, rfl, rfl, rfl, rfl, rfl, rfl, rfl, rfl, rfl, rfl, rfl, rfl, rfl,
    rfl, rfl, rfl, rfl, rfl, rfl, rfl, rfl, rfl, rfl, rfl, rfl, rfl⟩

@[simp] theorem setNodes_fields (x : NodesState) :
    (setNodes x s).now = s.now ∧ (setNodes x s).free = s.free ∧ (setNodes x s).pending = s.pending ∧
    (setNodes x s).out = s.out ∧ (setNodes x s).regs = s.regs ∧ (setNodes x s).shadows = s.shadows ∧
    (setNodes x s).mem = s.mem ∧ (setNodes x s).bulk = s.bulk ∧ (setNodes x s).od = s.od ∧ (setNodes x s).odHeld = s.odHeld ∧
    (setNodes x s).sys = s.sys ∧ (setNodes x s).bsc = s.bsc ∧ (setNodes x s).evr = s.evr ∧ (setNodes x s).ntb = s.ntb ∧
    (setNodes x s).pqu = s.pqu ∧ (setNodes x s).tkn = s.tkn ∧ (setNodes x s).vault = s.vault ∧ (setNodes x s).bkd = s.bkd ∧
    (setNodes x s).flt = s.flt ∧ (setNodes x s).rfe = s.rfe ∧ (setNodes x s).tte = s.tte ∧ (setNodes x s).lfe = s.lfe ∧
    (setNodes x s).sdc = s.sdc ∧ (setNodes x s).mtr = s.mtr ∧ (setNodes x s).fb = s.fb ∧ (setNodes x s).icu = s.icu ∧
    (setNodes x s).ioc = s.ioc ∧ (setNodes x s).pwr = s.pwr ∧ (setNodes x s).nodes = x ∧ (setNodes x s).zones = s.zones ∧
    (setNodes x s).sched = s.sched ∧ (setNodes x s).bal = s.bal ∧ (setNodes x s).bhn = s.bhn ∧ (setNodes x s).dict = s.dict ∧
    (setNodes x s).upd = s.upd ∧ (setNodes x s).nv = s.nv := by
  refine ⟨rfl, rfl, rfl, rfl, rfl, rfl, rfl, rfl, rfl, rfl, rfl, rfl, rfl, rfl, rfl, rfl, rfl, rfl, rfl, rfl, rfl, rfl, rfl,
    rfl, rfl, rfl, rfl, rfl, rfl, rfl, rfl, rfl, rfl, rfl, rfl, rfl⟩

@[simp] theorem setIoc_fields (x : IocState) :
    (setIoc x s).now = s.now ∧ (setIoc x s).free = s.free ∧ (setIoc x s).pending = s.pending ∧ (setIoc x s).out = s.out ∧
    (setIoc x s).regs = s.regs ∧ (setIoc x s).shadows = s.shadows ∧ (setIoc x s).mem = s.mem ∧ (setIoc x s).bulk = s.bulk ∧
    (setIoc x s).od = s.od ∧ (setIoc x s).odHeld = s.odHeld ∧ (setIoc x s).sys = s.sys ∧ (setIoc x s).bsc = s.bsc ∧
    (setIoc x s).evr = s.evr ∧ (setIoc x s).ntb = s.ntb ∧ (setIoc x s).pqu = s.pqu ∧ (setIoc x s).tkn = s.tkn ∧
    (setIoc x s).vault = s.vault ∧ (setIoc x s).bkd = s.bkd ∧ (setIoc x s).flt = s.flt ∧ (setIoc x s).rfe = s.rfe ∧
    (setIoc x s).tte = s.tte ∧ (setIoc x s).lfe = s.lfe ∧ (setIoc x s).sdc = s.sdc ∧ (setIoc x s).mtr = s.mtr ∧
    (setIoc x s).fb = s.fb ∧ (setIoc x s).icu = s.icu ∧ (setIoc x s).ioc = x ∧ (setIoc x s).pwr = s.pwr ∧
    (setIoc x s).nodes = s.nodes ∧ (setIoc x s).zones = s.zones ∧ (setIoc x s).sched = s.sched ∧ (setIoc x s).bal = s.bal ∧
    (setIoc x s).bhn = s.bhn ∧ (setIoc x s).dict = s.dict ∧ (setIoc x s).upd = s.upd ∧ (setIoc x s).nv = s.nv := by
  refine ⟨rfl, rfl, rfl, rfl, rfl, rfl, rfl, rfl, rfl, rfl, rfl, rfl, rfl, rfl, rfl, rfl, rfl, rfl, rfl, rfl, rfl, rfl, rfl,
    rfl, rfl, rfl, rfl, rfl, rfl, rfl, rfl, rfl, rfl, rfl, rfl, rfl⟩

@[simp] theorem setBhn_fields (x : BhnState) :
    (setBhn x s).now = s.now ∧ (setBhn x s).free = s.free ∧ (setBhn x s).pending = s.pending ∧ (setBhn x s).out = s.out ∧
    (setBhn x s).regs = s.regs ∧ (setBhn x s).shadows = s.shadows ∧ (setBhn x s).mem = s.mem ∧ (setBhn x s).bulk = s.bulk ∧
    (setBhn x s).od = s.od ∧ (setBhn x s).odHeld = s.odHeld ∧ (setBhn x s).sys = s.sys ∧ (setBhn x s).bsc = s.bsc ∧
    (setBhn x s).evr = s.evr ∧ (setBhn x s).ntb = s.ntb ∧ (setBhn x s).pqu = s.pqu ∧ (setBhn x s).tkn = s.tkn ∧
    (setBhn x s).vault = s.vault ∧ (setBhn x s).bkd = s.bkd ∧ (setBhn x s).flt = s.flt ∧ (setBhn x s).rfe = s.rfe ∧
    (setBhn x s).tte = s.tte ∧ (setBhn x s).lfe = s.lfe ∧ (setBhn x s).sdc = s.sdc ∧ (setBhn x s).mtr = s.mtr ∧
    (setBhn x s).fb = s.fb ∧ (setBhn x s).icu = s.icu ∧ (setBhn x s).ioc = s.ioc ∧ (setBhn x s).pwr = s.pwr ∧
    (setBhn x s).nodes = s.nodes ∧ (setBhn x s).zones = s.zones ∧ (setBhn x s).sched = s.sched ∧ (setBhn x s).bal = s.bal ∧
    (setBhn x s).bhn = x ∧ (setBhn x s).dict = s.dict ∧ (setBhn x s).upd = s.upd ∧ (setBhn x s).nv = s.nv := by
  refine ⟨rfl, rfl, rfl, rfl, rfl, rfl, rfl, rfl, rfl, rfl, rfl, rfl, rfl, rfl, rfl, rfl, rfl, rfl, rfl, rfl, rfl, rfl, rfl,
    rfl, rfl, rfl, rfl, rfl, rfl, rfl, rfl, rfl, rfl, rfl, rfl, rfl⟩

@[simp] theorem setPwr_fields (x : PwrState) :
    (setPwr x s).now = s.now ∧ (setPwr x s).free = s.free ∧ (setPwr x s).pending = s.pending ∧ (setPwr x s).out = s.out ∧
    (setPwr x s).regs = s.regs ∧ (setPwr x s).shadows = s.shadows ∧ (setPwr x s).mem = s.mem ∧ (setPwr x s).bulk = s.bulk ∧
    (setPwr x s).od = s.od ∧ (setPwr x s).odHeld = s.odHeld ∧ (setPwr x s).sys = s.sys ∧ (setPwr x s).bsc = s.bsc ∧
    (setPwr x s).evr = s.evr ∧ (setPwr x s).ntb = s.ntb ∧ (setPwr x s).pqu = s.pqu ∧ (setPwr x s).tkn = s.tkn ∧
    (setPwr x s).vault = s.vault ∧ (setPwr x s).bkd = s.bkd ∧ (setPwr x s).flt = s.flt ∧ (setPwr x s).rfe = s.rfe ∧
    (setPwr x s).tte = s.tte ∧ (setPwr x s).lfe = s.lfe ∧ (setPwr x s).sdc = s.sdc ∧ (setPwr x s).mtr = s.mtr ∧
    (setPwr x s).fb = s.fb ∧ (setPwr x s).icu = s.icu ∧ (setPwr x s).ioc = s.ioc ∧ (setPwr x s).pwr = x ∧
    (setPwr x s).nodes = s.nodes ∧ (setPwr x s).zones = s.zones ∧ (setPwr x s).sched = s.sched ∧ (setPwr x s).bal = s.bal ∧
    (setPwr x s).bhn = s.bhn ∧ (setPwr x s).dict = s.dict ∧ (setPwr x s).upd = s.upd ∧ (setPwr x s).nv = s.nv := by
  refine ⟨rfl, rfl, rfl, rfl, rfl, rfl, rfl, rfl, rfl, rfl, rfl, rfl, rfl, rfl, rfl, rfl, rfl, rfl, rfl, rfl, rfl, rfl, rfl,
    rfl, rfl, rfl, rfl, rfl, rfl, rfl, rfl, rfl, rfl, rfl, rfl, rfl⟩

@[simp] theorem setSched_fields (x : SchedState) :
    (setSched x s).now = s.now ∧ (setSched x s).free = s.free ∧ (setSched x s).pending = s.pending ∧
    (setSched x s).out = s.out ∧ (setSched x s).regs = s.regs ∧ (setSched x s).shadows = s.shadows ∧
    (setSched x s).mem = s.mem ∧ (setSched x s).bulk = s.bulk ∧ (setSched x s).od = s.od ∧ (setSched x s).odHeld = s.odHeld ∧
    (setSched x s).sys = s.sys ∧ (setSched x s).bsc = s.bsc ∧ (setSched x s).evr = s.evr ∧ (setSched x s).ntb = s.ntb ∧
    (setSched x s).pqu = s.pqu ∧ (setSched x s).tkn = s.tkn ∧ (setSched x s).vault = s.vault ∧ (setSched x s).bkd = s.bkd ∧
    (setSched x s).flt = s.flt ∧ (setSched x s).rfe = s.rfe ∧ (setSched x s).tte = s.tte ∧ (setSched x s).lfe = s.lfe ∧
    (setSched x s).sdc = s.sdc ∧ (setSched x s).mtr = s.mtr ∧ (setSched x s).fb = s.fb ∧ (setSched x s).icu = s.icu ∧
    (setSched x s).ioc = s.ioc ∧ (setSched x s).pwr = s.pwr ∧ (setSched x s).nodes = s.nodes ∧
    (setSched x s).zones = s.zones ∧ (setSched x s).sched = x ∧ (setSched x s).bal = s.bal ∧ (setSched x s).bhn = s.bhn ∧
    (setSched x s).dict = s.dict ∧ (setSched x s).upd = s.upd ∧ (setSched x s).nv = s.nv := by
  refine ⟨rfl, rfl, rfl, rfl, rfl, rfl, rfl, rfl, rfl, rfl, rfl, rfl, rfl, rfl, rfl, rfl, rfl, rfl, rfl, rfl, rfl, rfl, rfl,
    rfl, rfl, rfl, rfl, rfl, rfl, rfl, rfl, rfl, rfl, rfl, rfl, rfl⟩

@[simp] theorem setDict_fields (x : DictState) :
    (setDict x s).now = s.now ∧ (setDict x s).free = s.free ∧ (setDict x s).pending = s.pending ∧ (setDict x s).out = s.out ∧
    (setDict x s).regs = s.regs ∧ (setDict x s).shadows = s.shadows ∧ (setDict x s).mem = s.mem ∧
    (setDict x s).bulk = s.bulk ∧ (setDict x s).od = s.od ∧ (setDict x s).odHeld = s.odHeld ∧ (setDict x s).sys = s.sys ∧
    (setDict x s).bsc = s.bsc ∧ (setDict x s).evr = s.evr ∧ (setDict x s).ntb = s.ntb ∧ (setDict x s).pqu = s.pqu ∧
    (setDict x s).tkn = s.tkn ∧ (setDict x s).vault = s.vault ∧ (setDict x s).bkd = s.bkd ∧ (setDict x s).flt = s.flt ∧
    (setDict x s).rfe = s.rfe ∧ (setDict x s).tte = s.tte ∧ (setDict x s).lfe = s.lfe ∧ (setDict x s).sdc = s.sdc ∧
    (setDict x s).mtr = s.mtr ∧ (setDict x s).fb = s.fb ∧ (setDict x s).icu = s.icu ∧ (setDict x s).ioc = s.ioc ∧
    (setDict x s).pwr = s.pwr ∧ (setDict x s).nodes = s.nodes ∧ (setDict x s).zones = s.zones ∧
    (setDict x s).sched = s.sched ∧ (setDict x s).bal = s.bal ∧ (setDict x s).bhn = s.bhn ∧ (setDict x s).dict = x ∧
    (setDict x s).upd = s.upd ∧ (setDict x s).nv = s.nv := by
  refine ⟨rfl, rfl, rfl, rfl, rfl, rfl, rfl, rfl, rfl, rfl, rfl, rfl, rfl, rfl, rfl, rfl, rfl, rfl, rfl, rfl, rfl, rfl, rfl,
    rfl, rfl, rfl, rfl, rfl, rfl, rfl, rfl, rfl, rfl, rfl, rfl, rfl⟩

@[simp] theorem setSdc_fields (x : SdcState) :
    (setSdc x s).now = s.now ∧ (setSdc x s).free = s.free ∧ (setSdc x s).pending = s.pending ∧ (setSdc x s).out = s.out ∧
    (setSdc x s).regs = s.regs ∧ (setSdc x s).shadows = s.shadows ∧ (setSdc x s).mem = s.mem ∧ (setSdc x s).bulk = s.bulk ∧
    (setSdc x s).od = s.od ∧ (setSdc x s).odHeld = s.odHeld ∧ (setSdc x s).sys = s.sys ∧ (setSdc x s).bsc = s.bsc ∧
    (setSdc x s).evr = s.evr ∧ (setSdc x s).ntb = s.ntb ∧ (setSdc x s).pqu = s.pqu ∧ (setSdc x s).tkn = s.tkn ∧
    (setSdc x s).vault = s.vault ∧ (setSdc x s).bkd = s.bkd ∧ (setSdc x s).flt = s.flt ∧ (setSdc x s).rfe = s.rfe ∧
    (setSdc x s).tte = s.tte ∧ (setSdc x s).lfe = s.lfe ∧ (setSdc x s).sdc = x ∧ (setSdc x s).mtr = s.mtr ∧
    (setSdc x s).fb = s.fb ∧ (setSdc x s).icu = s.icu ∧ (setSdc x s).ioc = s.ioc ∧ (setSdc x s).pwr = s.pwr ∧
    (setSdc x s).nodes = s.nodes ∧ (setSdc x s).zones = s.zones ∧ (setSdc x s).sched = s.sched ∧ (setSdc x s).bal = s.bal ∧
    (setSdc x s).bhn = s.bhn ∧ (setSdc x s).dict = s.dict ∧ (setSdc x s).upd = s.upd ∧ (setSdc x s).nv = s.nv := by
  refine ⟨rfl, rfl, rfl, rfl, rfl, rfl, rfl, rfl, rfl, rfl, rfl, rfl, rfl, rfl, rfl, rfl, rfl, rfl, rfl, rfl, rfl, rfl, rfl,
    rfl, rfl, rfl, rfl, rfl, rfl, rfl, rfl, rfl, rfl, rfl, rfl, rfl⟩

@[simp] theorem setSys_fields (x : SysState) :
    (setSys x s).now = s.now ∧ (setSys x s).free = s.free ∧ (setSys x s).pending = s.pending ∧ (setSys x s).out = s.out ∧
    (setSys x s).regs = s.regs ∧ (setSys x s).shadows = s.shadows ∧ (setSys x s).mem = s.mem ∧ (setSys x s).bulk = s.bulk ∧
    (setSys x s).od = s.od ∧ (setSys x s).odHeld = s.odHeld ∧ (setSys x s).sys = x ∧ (setSys x s).bsc = s.bsc ∧
    (setSys x s).evr = s.evr ∧ (setSys x s).ntb = s.ntb ∧ (setSys x s).pqu = s.pqu ∧ (setSys x s).tkn = s.tkn ∧
    (setSys x s).vault = s.vault ∧ (setSys x s).bkd = s.bkd ∧ (setSys x s).flt = s.flt ∧ (setSys x s).rfe = s.rfe ∧
    (setSys x s).tte = s.tte ∧ (setSys x s).lfe = s.lfe ∧ (setSys x s).sdc = s.sdc ∧ (setSys x s).mtr = s.mtr ∧
    (setSys x s).fb = s.fb ∧ (setSys x s).icu = s.icu ∧ (setSys x s).ioc = s.ioc ∧ (setSys x s).pwr = s.pwr ∧
    (setSys x s).nodes = s.nodes ∧ (setSys x s).zones = s.zones ∧ (setSys x s).sched = s.sched ∧ (setSys x s).bal = s.bal ∧
    (setSys x s).bhn = s.bhn ∧ (setSys x s).dict = s.dict ∧ (setSys x s).upd = s.upd ∧ (setSys x s).nv = s.nv := by
  refine ⟨rfl, rfl, rfl, rfl, rfl, rfl, rfl, rfl, rfl, rfl, rfl, rfl, rfl, rfl, rfl, rfl, rfl, rfl, rfl, rfl, rfl, rfl, rfl,
    rfl, rfl, rfl, rfl, rfl, rfl, rfl, rfl, rfl, rfl, rfl, rfl, rfl⟩

@[simp] theorem setTte_fields (x : TteState) :
    (setTte x s).now = s.now ∧ (setTte x s).free = s.free ∧ (setTte x s).pending = s.pending ∧ (setTte x s).out = s.out ∧
    (setTte x s).regs = s.regs ∧ (setTte x s).shadows = s.shadows ∧ (setTte x s).mem = s.mem ∧ (setTte x s).bulk = s.bulk ∧
    (setTte x s).od = s.od ∧ (setTte x s).odHeld = s.odHeld ∧ (setTte x s).sys = s.sys ∧ (setTte x s).bsc = s.bsc ∧
    (setTte x s).evr = s.evr ∧ (setTte x s).ntb = s.ntb ∧ (setTte x s).pqu = s.pqu ∧ (setTte x s).tkn = s.tkn ∧
    (setTte x s).vault = s.vault ∧ (setTte x s).bkd = s.bkd ∧ (setTte x s).flt = s.flt ∧ (setTte x s).rfe = s.rfe ∧
    (setTte x s).tte = x ∧ (setTte x s).lfe = s.lfe ∧ (setTte x s).sdc = s.sdc ∧ (setTte x s).mtr = s.mtr ∧
    (setTte x s).fb = s.fb ∧ (setTte x s).icu = s.icu ∧ (setTte x s).ioc = s.ioc ∧ (setTte x s).pwr = s.pwr ∧
    (setTte x s).nodes = s.nodes ∧ (setTte x s).zones = s.zones ∧ (setTte x s).sched = s.sched ∧ (setTte x s).bal = s.bal ∧
    (setTte x s).bhn = s.bhn ∧ (setTte x s).dict = s.dict ∧ (setTte x s).upd = s.upd ∧ (setTte x s).nv = s.nv := by
  refine ⟨rfl, rfl, rfl, rfl, rfl, rfl, rfl, rfl, rfl, rfl, rfl, rfl, rfl, rfl, rfl, rfl, rfl, rfl, rfl, rfl, rfl, rfl, rfl,
    rfl, rfl, rfl, rfl, rfl, rfl, rfl, rfl, rfl, rfl, rfl, rfl, rfl⟩

@[simp] theorem setTkn_fields (x : TknState) :
    (setTkn x s).now = s.now ∧ (setTkn x s).free = s.free ∧ (setTkn x s).pending = s.pending ∧ (setTkn x s).out = s.out ∧
    (setTkn x s).regs = s.regs ∧ (setTkn x s).shadows = s.shadows ∧ (setTkn x s).mem = s.mem ∧ (setTkn x s).bulk = s.bulk ∧
    (setTkn x s).od = s.od ∧ (setTkn x s).odHeld = s.odHeld ∧ (setTkn x s).sys = s.sys ∧ (setTkn x s).bsc = s.bsc ∧
    (setTkn x s).evr = s.evr ∧ (setTkn x s).ntb = s.ntb ∧ (setTkn x s).pqu = s.pqu ∧ (setTkn x s).tkn = x ∧
    (setTkn x s).vault = s.vault ∧ (setTkn x s).bkd = s.bkd ∧ (setTkn x s).flt = s.flt ∧ (setTkn x s).rfe = s.rfe ∧
    (setTkn x s).tte = s.tte ∧ (setTkn x s).lfe = s.lfe ∧ (setTkn x s).sdc = s.sdc ∧ (setTkn x s).mtr = s.mtr ∧
    (setTkn x s).fb = s.fb ∧ (setTkn x s).icu = s.icu ∧ (setTkn x s).ioc = s.ioc ∧ (setTkn x s).pwr = s.pwr ∧
    (setTkn x s).nodes = s.nodes ∧ (setTkn x s).zones = s.zones ∧ (setTkn x s).sched = s.sched ∧ (setTkn x s).bal = s.bal ∧
    (setTkn x s).bhn = s.bhn ∧ (setTkn x s).dict = s.dict ∧ (setTkn x s).upd = s.upd ∧ (setTkn x s).nv = s.nv := by
  refine ⟨rfl, rfl, rfl, rfl, rfl, rfl, rfl, rfl, rfl, rfl, rfl, rfl, rfl, rfl, rfl, rfl, rfl, rfl, rfl, rfl, rfl, rfl, rfl,
    rfl, rfl, rfl, rfl, rfl, rfl, rfl, rfl, rfl, rfl, rfl, rfl, rfl⟩

@[simp] theorem setUpd_fields (x : UpdState) :
    (setUpd x s).now = s.now ∧ (setUpd x s).free = s.free ∧ (setUpd x s).pending = s.pending ∧ (setUpd x s).out = s.out ∧
    (setUpd x s).regs = s.regs ∧ (setUpd x s).shadows = s.shadows ∧ (setUpd x s).mem = s.mem ∧ (setUpd x s).bulk = s.bulk ∧
    (setUpd x s).od = s.od ∧ (setUpd x s).odHeld = s.odHeld ∧ (setUpd x s).sys = s.sys ∧ (setUpd x s).bsc = s.bsc ∧
    (setUpd x s).evr = s.evr ∧ (setUpd x s).ntb = s.ntb ∧ (setUpd x s).pqu = s.pqu ∧ (setUpd x s).tkn = s.tkn ∧
    (setUpd x s).vault = s.vault ∧ (setUpd x s).bkd = s.bkd ∧ (setUpd x s).flt = s.flt ∧ (setUpd x s).rfe = s.rfe ∧
    (setUpd x s).tte = s.tte ∧ (setUpd x s).lfe = s.lfe ∧ (setUpd x s).sdc = s.sdc ∧ (setUpd x s).mtr = s.mtr ∧
    (setUpd x s).fb = s.fb ∧ (setUpd x s).icu = s.icu ∧ (setUpd x s).ioc = s.ioc ∧ (setUpd x s).pwr = s.pwr ∧
    (setUpd x s).nodes = s.nodes ∧ (setUpd x s).zones = s.zones ∧ (setUpd x s).sched = s.sched ∧ (setUpd x s).bal = s.bal ∧
    (setUpd x s).bhn = s.bhn ∧ (setUpd x s).dict = s.dict ∧ (setUpd x s).upd = x ∧ (setUpd x s).nv = s.nv := by
  refine ⟨rfl, rfl, rfl, rfl, rfl, rfl, rfl, rfl, rfl, rfl, rfl, rfl, rfl, rfl, rfl, rfl, rfl, rfl, rfl, rfl, rfl, rfl, rfl,
    rfl, rfl, rfl, rfl, rfl, rfl, rfl, rfl, rfl, rfl, rfl, rfl, rfl⟩

@[simp] theorem setZones_fields (x : ZonesState) :
    (setZones x s).now = s.now ∧ (setZones x s).free = s.free ∧ (setZones x s).pending = s.pending ∧
    (setZones x s).out = s.out ∧ (setZones x s).regs = s.regs ∧ (setZones x s).shadows = s.shadows ∧
    (setZones x s).mem = s.mem ∧ (setZones x s).bulk = s.bulk ∧ (setZones x s).od = s.od ∧ (setZones x s).odHeld = s.odHeld ∧
    (setZones x s).sys = s.sys ∧ (setZones x s).bsc = s.bsc ∧ (setZones x s).evr = s.evr ∧ (setZones x s).ntb = s.ntb ∧
    (setZones x s).pqu = s.pqu ∧ (setZones x s).tkn = s.tkn ∧ (setZones x s).vault = s.vault ∧ (setZones x s).bkd = s.bkd ∧
    (setZones x s).flt = s.flt ∧ (setZones x s).rfe = s.rfe ∧ (setZones x s).tte = s.tte ∧ (setZones x s).lfe = s.lfe ∧
    (setZones x s).sdc = s.sdc ∧ (setZones x s).mtr = s.mtr ∧ (setZones x s).fb = s.fb ∧ (setZones x s).icu = s.icu ∧
    (setZones x s).ioc = s.ioc ∧ (setZones x s).pwr = s.pwr ∧ (setZones x s).nodes = s.nodes ∧ (setZones x s).zones = x ∧
    (setZones x s).sched = s.sched ∧ (setZones x s).bal = s.bal ∧ (setZones x s).bhn = s.bhn ∧ (setZones x s).dict = s.dict ∧
    (setZones x s).upd = s.upd ∧ (setZones x s).nv = s.nv := by
  refine ⟨rfl, rfl, rfl, rfl, rfl, rfl, rfl, rfl, rfl, rfl, rfl, rfl, rfl, rfl, rfl, rfl, rfl, rfl, rfl, rfl, rfl, rfl, rfl,
    rfl, rfl, rfl, rfl, rfl, rfl, rfl, rfl, rfl, rfl, rfl, rfl, rfl⟩

/-! ### The operations on the stores -/

@[simp] theorem setReg_fields (a : Nat) (w : Word) :
    (setReg s a w).now = s.now ∧ (setReg s a w).free = s.free ∧ (setReg s a w).pending = s.pending ∧
    (setReg s a w).out = s.out ∧ (setReg s a w).regs = sput resetWord s.regs a w ∧ (setReg s a w).shadows = s.shadows ∧
    (setReg s a w).mem = s.mem ∧ (setReg s a w).bulk = s.bulk ∧ (setReg s a w).od = s.od ∧ (setReg s a w).odHeld = s.odHeld ∧
    (setReg s a w).sys = s.sys ∧ (setReg s a w).bsc = s.bsc ∧ (setReg s a w).evr = s.evr ∧ (setReg s a w).ntb = s.ntb ∧
    (setReg s a w).pqu = s.pqu ∧ (setReg s a w).tkn = s.tkn ∧ (setReg s a w).vault = s.vault ∧ (setReg s a w).bkd = s.bkd ∧
    (setReg s a w).flt = s.flt ∧ (setReg s a w).rfe = s.rfe ∧ (setReg s a w).tte = s.tte ∧ (setReg s a w).lfe = s.lfe ∧
    (setReg s a w).sdc = s.sdc ∧ (setReg s a w).mtr = s.mtr ∧ (setReg s a w).fb = s.fb ∧ (setReg s a w).icu = s.icu ∧
    (setReg s a w).ioc = s.ioc ∧ (setReg s a w).pwr = s.pwr ∧ (setReg s a w).nodes = s.nodes ∧
    (setReg s a w).zones = s.zones ∧ (setReg s a w).sched = s.sched ∧ (setReg s a w).bal = s.bal ∧
    (setReg s a w).bhn = s.bhn ∧ (setReg s a w).dict = s.dict ∧ (setReg s a w).upd = s.upd ∧ (setReg s a w).nv = s.nv := by
  refine ⟨rfl, rfl, rfl, rfl, rfl, rfl, rfl, rfl, rfl, rfl, rfl, rfl, rfl, rfl, rfl, rfl, rfl, rfl, rfl, rfl, rfl, rfl, rfl,
    rfl, rfl, rfl, rfl, rfl, rfl, rfl, rfl, rfl, rfl, rfl, rfl, rfl⟩

@[simp] theorem shadow_fields (f : Field) (v : Nat) :
    (shadow s f v).now = s.now ∧ (shadow s f v).free = s.free ∧ (shadow s f v).pending = s.pending ∧
    (shadow s f v).out = s.out ∧ (shadow s f v).regs = s.regs ∧
    (shadow s f v).shadows = sins s.shadows (shadowKey f) (v % 2 ^ f.width) ∧ (shadow s f v).mem = s.mem ∧
    (shadow s f v).bulk = s.bulk ∧ (shadow s f v).od = s.od ∧ (shadow s f v).odHeld = s.odHeld ∧ (shadow s f v).sys = s.sys ∧
    (shadow s f v).bsc = s.bsc ∧ (shadow s f v).evr = s.evr ∧ (shadow s f v).ntb = s.ntb ∧ (shadow s f v).pqu = s.pqu ∧
    (shadow s f v).tkn = s.tkn ∧ (shadow s f v).vault = s.vault ∧ (shadow s f v).bkd = s.bkd ∧ (shadow s f v).flt = s.flt ∧
    (shadow s f v).rfe = s.rfe ∧ (shadow s f v).tte = s.tte ∧ (shadow s f v).lfe = s.lfe ∧ (shadow s f v).sdc = s.sdc ∧
    (shadow s f v).mtr = s.mtr ∧ (shadow s f v).fb = s.fb ∧ (shadow s f v).icu = s.icu ∧ (shadow s f v).ioc = s.ioc ∧
    (shadow s f v).pwr = s.pwr ∧ (shadow s f v).nodes = s.nodes ∧ (shadow s f v).zones = s.zones ∧
    (shadow s f v).sched = s.sched ∧ (shadow s f v).bal = s.bal ∧ (shadow s f v).bhn = s.bhn ∧ (shadow s f v).dict = s.dict ∧
    (shadow s f v).upd = s.upd ∧ (shadow s f v).nv = s.nv := by
  refine ⟨rfl, rfl, rfl, rfl, rfl, rfl, rfl, rfl, rfl, rfl, rfl, rfl, rfl, rfl, rfl, rfl, rfl, rfl, rfl, rfl, rfl, rfl, rfl,
    rfl, rfl, rfl, rfl, rfl, rfl, rfl, rfl, rfl, rfl, rfl, rfl, rfl⟩

@[simp] theorem setByte_fields (a : Nat) (b : Byte) :
    (setByte s a b).now = s.now ∧ (setByte s a b).free = s.free ∧ (setByte s a b).pending = s.pending ∧
    (setByte s a b).out = s.out ∧ (setByte s a b).regs = s.regs ∧ (setByte s a b).shadows = s.shadows ∧
    (setByte s a b).mem = sput memDefault s.mem a b ∧ (setByte s a b).bulk = s.bulk ∧ (setByte s a b).od = s.od ∧
    (setByte s a b).odHeld = s.odHeld ∧ (setByte s a b).sys = s.sys ∧ (setByte s a b).bsc = s.bsc ∧
    (setByte s a b).evr = s.evr ∧ (setByte s a b).ntb = s.ntb ∧ (setByte s a b).pqu = s.pqu ∧ (setByte s a b).tkn = s.tkn ∧
    (setByte s a b).vault = s.vault ∧ (setByte s a b).bkd = s.bkd ∧ (setByte s a b).flt = s.flt ∧
    (setByte s a b).rfe = s.rfe ∧ (setByte s a b).tte = s.tte ∧ (setByte s a b).lfe = s.lfe ∧ (setByte s a b).sdc = s.sdc ∧
    (setByte s a b).mtr = s.mtr ∧ (setByte s a b).fb = s.fb ∧ (setByte s a b).icu = s.icu ∧ (setByte s a b).ioc = s.ioc ∧
    (setByte s a b).pwr = s.pwr ∧ (setByte s a b).nodes = s.nodes ∧ (setByte s a b).zones = s.zones ∧
    (setByte s a b).sched = s.sched ∧ (setByte s a b).bal = s.bal ∧ (setByte s a b).bhn = s.bhn ∧
    (setByte s a b).dict = s.dict ∧ (setByte s a b).upd = s.upd ∧ (setByte s a b).nv = s.nv := by
  refine ⟨rfl, rfl, rfl, rfl, rfl, rfl, rfl, rfl, rfl, rfl, rfl, rfl, rfl, rfl, rfl, rfl, rfl, rfl, rfl, rfl, rfl, rfl, rfl,
    rfl, rfl, rfl, rfl, rfl, rfl, rfl, rfl, rfl, rfl, rfl, rfl, rfl⟩

@[simp] theorem odSet_fields (area obj el : Nat) (v : List Byte) :
    (odSet s area obj el v).now = s.now ∧ (odSet s area obj el v).free = s.free ∧
    (odSet s area obj el v).pending = s.pending ∧ (odSet s area obj el v).out = s.out ∧
    (odSet s area obj el v).regs = s.regs ∧ (odSet s area obj el v).shadows = s.shadows ∧
    (odSet s area obj el v).mem = s.mem ∧ (odSet s area obj el v).bulk = s.bulk ∧
    (odSet s area obj el v).od = sput odDefault s.od (odKey area obj el) v ∧ (odSet s area obj el v).odHeld = s.odHeld ∧
    (odSet s area obj el v).sys = s.sys ∧ (odSet s area obj el v).bsc = s.bsc ∧ (odSet s area obj el v).evr = s.evr ∧
    (odSet s area obj el v).ntb = s.ntb ∧ (odSet s area obj el v).pqu = s.pqu ∧ (odSet s area obj el v).tkn = s.tkn ∧
    (odSet s area obj el v).vault = s.vault ∧ (odSet s area obj el v).bkd = s.bkd ∧ (odSet s area obj el v).flt = s.flt ∧
    (odSet s area obj el v).rfe = s.rfe ∧ (odSet s area obj el v).tte = s.tte ∧ (odSet s area obj el v).lfe = s.lfe ∧
    (odSet s area obj el v).sdc = s.sdc ∧ (odSet s area obj el v).mtr = s.mtr ∧ (odSet s area obj el v).fb = s.fb ∧
    (odSet s area obj el v).icu = s.icu ∧ (odSet s area obj el v).ioc = s.ioc ∧ (odSet s area obj el v).pwr = s.pwr ∧
    (odSet s area obj el v).nodes = s.nodes ∧ (odSet s area obj el v).zones = s.zones ∧
    (odSet s area obj el v).sched = s.sched ∧ (odSet s area obj el v).bal = s.bal ∧ (odSet s area obj el v).bhn = s.bhn ∧
    (odSet s area obj el v).dict = s.dict ∧ (odSet s area obj el v).upd = s.upd ∧ (odSet s area obj el v).nv = s.nv := by
  refine ⟨rfl, rfl, rfl, rfl, rfl, rfl, rfl, rfl, rfl, rfl, rfl, rfl, rfl, rfl, rfl, rfl, rfl, rfl, rfl, rfl, rfl, rfl, rfl,
    rfl, rfl, rfl, rfl, rfl, rfl, rfl, rfl, rfl, rfl, rfl, rfl, rfl⟩

@[simp] theorem emit_fields (p : OutPort) (d : List Byte) :
    (emit p d s).now = s.now ∧ (emit p d s).free = s.free ∧ (emit p d s).pending = s.pending ∧
    (emit p d s).out = ⟨p, d⟩ :: s.out ∧ (emit p d s).regs = s.regs ∧ (emit p d s).shadows = s.shadows ∧
    (emit p d s).mem = s.mem ∧ (emit p d s).bulk = s.bulk ∧ (emit p d s).od = s.od ∧ (emit p d s).odHeld = s.odHeld ∧
    (emit p d s).sys = s.sys ∧ (emit p d s).bsc = s.bsc ∧ (emit p d s).evr = s.evr ∧ (emit p d s).ntb = s.ntb ∧
    (emit p d s).pqu = s.pqu ∧ (emit p d s).tkn = s.tkn ∧ (emit p d s).vault = s.vault ∧ (emit p d s).bkd = s.bkd ∧
    (emit p d s).flt = s.flt ∧ (emit p d s).rfe = s.rfe ∧ (emit p d s).tte = s.tte ∧ (emit p d s).lfe = s.lfe ∧
    (emit p d s).sdc = s.sdc ∧ (emit p d s).mtr = s.mtr ∧ (emit p d s).fb = s.fb ∧ (emit p d s).icu = s.icu ∧
    (emit p d s).ioc = s.ioc ∧ (emit p d s).pwr = s.pwr ∧ (emit p d s).nodes = s.nodes ∧ (emit p d s).zones = s.zones ∧
    (emit p d s).sched = s.sched ∧ (emit p d s).bal = s.bal ∧ (emit p d s).bhn = s.bhn ∧ (emit p d s).dict = s.dict ∧
    (emit p d s).upd = s.upd ∧ (emit p d s).nv = s.nv := by
  refine ⟨rfl, rfl, rfl, rfl, rfl, rfl, rfl, rfl, rfl, rfl, rfl, rfl, rfl, rfl, rfl, rfl, rfl, rfl, rfl, rfl, rfl, rfl, rfl,
    rfl, rfl, rfl, rfl, rfl, rfl, rfl, rfl, rfl, rfl, rfl, rfl, rfl⟩

@[simp] theorem setFld_fields (f : Field) (v : Nat) :
    (setFld s f v).now = s.now ∧ (setFld s f v).free = s.free ∧ (setFld s f v).pending = s.pending ∧
    (setFld s f v).out = s.out ∧ (setFld s f v).shadows = s.shadows ∧ (setFld s f v).mem = s.mem ∧
    (setFld s f v).bulk = s.bulk ∧ (setFld s f v).od = s.od ∧ (setFld s f v).odHeld = s.odHeld ∧ (setFld s f v).sys = s.sys ∧
    (setFld s f v).bsc = s.bsc ∧ (setFld s f v).evr = s.evr ∧ (setFld s f v).ntb = s.ntb ∧ (setFld s f v).pqu = s.pqu ∧
    (setFld s f v).tkn = s.tkn ∧ (setFld s f v).vault = s.vault ∧ (setFld s f v).bkd = s.bkd ∧ (setFld s f v).flt = s.flt ∧
    (setFld s f v).rfe = s.rfe ∧ (setFld s f v).tte = s.tte ∧ (setFld s f v).lfe = s.lfe ∧ (setFld s f v).sdc = s.sdc ∧
    (setFld s f v).mtr = s.mtr ∧ (setFld s f v).fb = s.fb ∧ (setFld s f v).icu = s.icu ∧ (setFld s f v).ioc = s.ioc ∧
    (setFld s f v).pwr = s.pwr ∧ (setFld s f v).nodes = s.nodes ∧ (setFld s f v).zones = s.zones ∧
    (setFld s f v).sched = s.sched ∧ (setFld s f v).bal = s.bal ∧ (setFld s f v).bhn = s.bhn ∧ (setFld s f v).dict = s.dict ∧
    (setFld s f v).upd = s.upd ∧ (setFld s f v).nv = s.nv := by
  simp [setFld]

@[simp] theorem raise_fields (f : Field) :
    (raise s f).now = s.now ∧ (raise s f).free = s.free ∧ (raise s f).pending = s.pending ∧ (raise s f).out = s.out ∧
    (raise s f).shadows = s.shadows ∧ (raise s f).mem = s.mem ∧ (raise s f).bulk = s.bulk ∧ (raise s f).od = s.od ∧
    (raise s f).odHeld = s.odHeld ∧ (raise s f).sys = s.sys ∧ (raise s f).bsc = s.bsc ∧ (raise s f).evr = s.evr ∧
    (raise s f).ntb = s.ntb ∧ (raise s f).pqu = s.pqu ∧ (raise s f).tkn = s.tkn ∧ (raise s f).vault = s.vault ∧
    (raise s f).bkd = s.bkd ∧ (raise s f).flt = s.flt ∧ (raise s f).rfe = s.rfe ∧ (raise s f).tte = s.tte ∧
    (raise s f).lfe = s.lfe ∧ (raise s f).sdc = s.sdc ∧ (raise s f).mtr = s.mtr ∧ (raise s f).fb = s.fb ∧
    (raise s f).icu = s.icu ∧ (raise s f).ioc = s.ioc ∧ (raise s f).pwr = s.pwr ∧ (raise s f).nodes = s.nodes ∧
    (raise s f).zones = s.zones ∧ (raise s f).sched = s.sched ∧ (raise s f).bal = s.bal ∧ (raise s f).bhn = s.bhn ∧
    (raise s f).dict = s.dict ∧ (raise s f).upd = s.upd ∧ (raise s f).nv = s.nv := by
  simp [raise]

@[simp] theorem lower_fields (f : Field) :
    (lower s f).now = s.now ∧ (lower s f).free = s.free ∧ (lower s f).pending = s.pending ∧ (lower s f).out = s.out ∧
    (lower s f).shadows = s.shadows ∧ (lower s f).mem = s.mem ∧ (lower s f).bulk = s.bulk ∧ (lower s f).od = s.od ∧
    (lower s f).odHeld = s.odHeld ∧ (lower s f).sys = s.sys ∧ (lower s f).bsc = s.bsc ∧ (lower s f).evr = s.evr ∧
    (lower s f).ntb = s.ntb ∧ (lower s f).pqu = s.pqu ∧ (lower s f).tkn = s.tkn ∧ (lower s f).vault = s.vault ∧
    (lower s f).bkd = s.bkd ∧ (lower s f).flt = s.flt ∧ (lower s f).rfe = s.rfe ∧ (lower s f).tte = s.tte ∧
    (lower s f).lfe = s.lfe ∧ (lower s f).sdc = s.sdc ∧ (lower s f).mtr = s.mtr ∧ (lower s f).fb = s.fb ∧
    (lower s f).icu = s.icu ∧ (lower s f).ioc = s.ioc ∧ (lower s f).pwr = s.pwr ∧ (lower s f).nodes = s.nodes ∧
    (lower s f).zones = s.zones ∧ (lower s f).sched = s.sched ∧ (lower s f).bal = s.bal ∧ (lower s f).bhn = s.bhn ∧
    (lower s f).dict = s.dict ∧ (lower s f).upd = s.upd ∧ (lower s f).nv = s.nv := by
  simp [lower]

@[simp] theorem setBool_fields (f : Field) (b : Bool) :
    (setBool s f b).now = s.now ∧ (setBool s f b).free = s.free ∧ (setBool s f b).pending = s.pending ∧
    (setBool s f b).out = s.out ∧ (setBool s f b).shadows = s.shadows ∧ (setBool s f b).mem = s.mem ∧
    (setBool s f b).bulk = s.bulk ∧ (setBool s f b).od = s.od ∧ (setBool s f b).odHeld = s.odHeld ∧
    (setBool s f b).sys = s.sys ∧ (setBool s f b).bsc = s.bsc ∧ (setBool s f b).evr = s.evr ∧ (setBool s f b).ntb = s.ntb ∧
    (setBool s f b).pqu = s.pqu ∧ (setBool s f b).tkn = s.tkn ∧ (setBool s f b).vault = s.vault ∧
    (setBool s f b).bkd = s.bkd ∧ (setBool s f b).flt = s.flt ∧ (setBool s f b).rfe = s.rfe ∧ (setBool s f b).tte = s.tte ∧
    (setBool s f b).lfe = s.lfe ∧ (setBool s f b).sdc = s.sdc ∧ (setBool s f b).mtr = s.mtr ∧ (setBool s f b).fb = s.fb ∧
    (setBool s f b).icu = s.icu ∧ (setBool s f b).ioc = s.ioc ∧ (setBool s f b).pwr = s.pwr ∧
    (setBool s f b).nodes = s.nodes ∧ (setBool s f b).zones = s.zones ∧ (setBool s f b).sched = s.sched ∧
    (setBool s f b).bal = s.bal ∧ (setBool s f b).bhn = s.bhn ∧ (setBool s f b).dict = s.dict ∧ (setBool s f b).upd = s.upd ∧
    (setBool s f b).nv = s.nv := by
  simp [setBool]

@[simp] theorem raiseBit_fields (f : Field) (i : Nat) :
    (raiseBit s f i).now = s.now ∧ (raiseBit s f i).free = s.free ∧ (raiseBit s f i).pending = s.pending ∧
    (raiseBit s f i).out = s.out ∧ (raiseBit s f i).shadows = s.shadows ∧ (raiseBit s f i).mem = s.mem ∧
    (raiseBit s f i).bulk = s.bulk ∧ (raiseBit s f i).od = s.od ∧ (raiseBit s f i).odHeld = s.odHeld ∧
    (raiseBit s f i).sys = s.sys ∧ (raiseBit s f i).bsc = s.bsc ∧ (raiseBit s f i).evr = s.evr ∧
    (raiseBit s f i).ntb = s.ntb ∧ (raiseBit s f i).pqu = s.pqu ∧ (raiseBit s f i).tkn = s.tkn ∧
    (raiseBit s f i).vault = s.vault ∧ (raiseBit s f i).bkd = s.bkd ∧ (raiseBit s f i).flt = s.flt ∧
    (raiseBit s f i).rfe = s.rfe ∧ (raiseBit s f i).tte = s.tte ∧ (raiseBit s f i).lfe = s.lfe ∧
    (raiseBit s f i).sdc = s.sdc ∧ (raiseBit s f i).mtr = s.mtr ∧ (raiseBit s f i).fb = s.fb ∧ (raiseBit s f i).icu = s.icu ∧
    (raiseBit s f i).ioc = s.ioc ∧ (raiseBit s f i).pwr = s.pwr ∧ (raiseBit s f i).nodes = s.nodes ∧
    (raiseBit s f i).zones = s.zones ∧ (raiseBit s f i).sched = s.sched ∧ (raiseBit s f i).bal = s.bal ∧
    (raiseBit s f i).bhn = s.bhn ∧ (raiseBit s f i).dict = s.dict ∧ (raiseBit s f i).upd = s.upd ∧ (raiseBit s f i).nv = s.nv
    := by
  simp [raiseBit]

@[simp] theorem lowerBit_fields (f : Field) (i : Nat) :
    (lowerBit s f i).now = s.now ∧ (lowerBit s f i).free = s.free ∧ (lowerBit s f i).pending = s.pending ∧
    (lowerBit s f i).out = s.out ∧ (lowerBit s f i).shadows = s.shadows ∧ (lowerBit s f i).mem = s.mem ∧
    (lowerBit s f i).bulk = s.bulk ∧ (lowerBit s f i).od = s.od ∧ (lowerBit s f i).odHeld = s.odHeld ∧
    (lowerBit s f i).sys = s.sys ∧ (lowerBit s f i).bsc = s.bsc ∧ (lowerBit s f i).evr = s.evr ∧
    (lowerBit s f i).ntb = s.ntb ∧ (lowerBit s f i).pqu = s.pqu ∧ (lowerBit s f i).tkn = s.tkn ∧
    (lowerBit s f i).vault = s.vault ∧ (lowerBit s f i).bkd = s.bkd ∧ (lowerBit s f i).flt = s.flt ∧
    (lowerBit s f i).rfe = s.rfe ∧ (lowerBit s f i).tte = s.tte ∧ (lowerBit s f i).lfe = s.lfe ∧
    (lowerBit s f i).sdc = s.sdc ∧ (lowerBit s f i).mtr = s.mtr ∧ (lowerBit s f i).fb = s.fb ∧ (lowerBit s f i).icu = s.icu ∧
    (lowerBit s f i).ioc = s.ioc ∧ (lowerBit s f i).pwr = s.pwr ∧ (lowerBit s f i).nodes = s.nodes ∧
    (lowerBit s f i).zones = s.zones ∧ (lowerBit s f i).sched = s.sched ∧ (lowerBit s f i).bal = s.bal ∧
    (lowerBit s f i).bhn = s.bhn ∧ (lowerBit s f i).dict = s.dict ∧ (lowerBit s f i).upd = s.upd ∧ (lowerBit s f i).nv = s.nv
    := by
  simp [lowerBit]

@[simp] theorem bump_fields (f : Field) (n : Nat) :
    (bump s f n).now = s.now ∧ (bump s f n).free = s.free ∧ (bump s f n).pending = s.pending ∧ (bump s f n).out = s.out ∧
    (bump s f n).shadows = s.shadows ∧ (bump s f n).mem = s.mem ∧ (bump s f n).bulk = s.bulk ∧ (bump s f n).od = s.od ∧
    (bump s f n).odHeld = s.odHeld ∧ (bump s f n).sys = s.sys ∧ (bump s f n).bsc = s.bsc ∧ (bump s f n).evr = s.evr ∧
    (bump s f n).ntb = s.ntb ∧ (bump s f n).pqu = s.pqu ∧ (bump s f n).tkn = s.tkn ∧ (bump s f n).vault = s.vault ∧
    (bump s f n).bkd = s.bkd ∧ (bump s f n).flt = s.flt ∧ (bump s f n).rfe = s.rfe ∧ (bump s f n).tte = s.tte ∧
    (bump s f n).lfe = s.lfe ∧ (bump s f n).sdc = s.sdc ∧ (bump s f n).mtr = s.mtr ∧ (bump s f n).fb = s.fb ∧
    (bump s f n).icu = s.icu ∧ (bump s f n).ioc = s.ioc ∧ (bump s f n).pwr = s.pwr ∧ (bump s f n).nodes = s.nodes ∧
    (bump s f n).zones = s.zones ∧ (bump s f n).sched = s.sched ∧ (bump s f n).bal = s.bal ∧ (bump s f n).bhn = s.bhn ∧
    (bump s f n).dict = s.dict ∧ (bump s f n).upd = s.upd ∧ (bump s f n).nv = s.nv := by
  simp [bump]

@[simp] theorem bumpWrap_fields (f : Field) (n : Nat) :
    (bumpWrap s f n).now = s.now ∧ (bumpWrap s f n).free = s.free ∧ (bumpWrap s f n).pending = s.pending ∧
    (bumpWrap s f n).out = s.out ∧ (bumpWrap s f n).shadows = s.shadows ∧ (bumpWrap s f n).mem = s.mem ∧
    (bumpWrap s f n).bulk = s.bulk ∧ (bumpWrap s f n).od = s.od ∧ (bumpWrap s f n).odHeld = s.odHeld ∧
    (bumpWrap s f n).sys = s.sys ∧ (bumpWrap s f n).bsc = s.bsc ∧ (bumpWrap s f n).evr = s.evr ∧
    (bumpWrap s f n).ntb = s.ntb ∧ (bumpWrap s f n).pqu = s.pqu ∧ (bumpWrap s f n).tkn = s.tkn ∧
    (bumpWrap s f n).vault = s.vault ∧ (bumpWrap s f n).bkd = s.bkd ∧ (bumpWrap s f n).flt = s.flt ∧
    (bumpWrap s f n).rfe = s.rfe ∧ (bumpWrap s f n).tte = s.tte ∧ (bumpWrap s f n).lfe = s.lfe ∧
    (bumpWrap s f n).sdc = s.sdc ∧ (bumpWrap s f n).mtr = s.mtr ∧ (bumpWrap s f n).fb = s.fb ∧ (bumpWrap s f n).icu = s.icu ∧
    (bumpWrap s f n).ioc = s.ioc ∧ (bumpWrap s f n).pwr = s.pwr ∧ (bumpWrap s f n).nodes = s.nodes ∧
    (bumpWrap s f n).zones = s.zones ∧ (bumpWrap s f n).sched = s.sched ∧ (bumpWrap s f n).bal = s.bal ∧
    (bumpWrap s f n).bhn = s.bhn ∧ (bumpWrap s f n).dict = s.dict ∧ (bumpWrap s f n).upd = s.upd ∧ (bumpWrap s f n).nv = s.nv
    := by
  simp [bumpWrap]

@[simp] theorem cfgErr_fields (i : Nat) :
    (cfgErr s i).now = s.now ∧ (cfgErr s i).free = s.free ∧ (cfgErr s i).pending = s.pending ∧ (cfgErr s i).out = s.out ∧
    (cfgErr s i).shadows = s.shadows ∧ (cfgErr s i).mem = s.mem ∧ (cfgErr s i).bulk = s.bulk ∧ (cfgErr s i).od = s.od ∧
    (cfgErr s i).odHeld = s.odHeld ∧ (cfgErr s i).sys = s.sys ∧ (cfgErr s i).bsc = s.bsc ∧ (cfgErr s i).evr = s.evr ∧
    (cfgErr s i).ntb = s.ntb ∧ (cfgErr s i).pqu = s.pqu ∧ (cfgErr s i).tkn = s.tkn ∧ (cfgErr s i).vault = s.vault ∧
    (cfgErr s i).bkd = s.bkd ∧ (cfgErr s i).flt = s.flt ∧ (cfgErr s i).rfe = s.rfe ∧ (cfgErr s i).tte = s.tte ∧
    (cfgErr s i).lfe = s.lfe ∧ (cfgErr s i).sdc = s.sdc ∧ (cfgErr s i).mtr = s.mtr ∧ (cfgErr s i).fb = s.fb ∧
    (cfgErr s i).icu = s.icu ∧ (cfgErr s i).ioc = s.ioc ∧ (cfgErr s i).pwr = s.pwr ∧ (cfgErr s i).nodes = s.nodes ∧
    (cfgErr s i).zones = s.zones ∧ (cfgErr s i).sched = s.sched ∧ (cfgErr s i).bal = s.bal ∧ (cfgErr s i).bhn = s.bhn ∧
    (cfgErr s i).dict = s.dict ∧ (cfgErr s i).upd = s.upd ∧ (cfgErr s i).nv = s.nv := by
  simp [cfgErr]

end Sys2Proof.Machine
end

