-- ==== Sys2Proof/Laws/Fields.lean ====
section
/-!
SUPPORT. The laws of register fields: what a field holds after it or another one was set, and that the register store keeps
its form.
-/

namespace Sys2Proof.Machine

/-! ### Bit fields of a number -/

theorem bits_putBits_self (n lsb w v : Nat) : bits (putBits n lsb w v) lsb w = v % 2 ^ w := by
  unfold bits putBits
  have h1 : n % 2 ^ lsb < 2 ^ lsb := Nat.mod_lt _ (Nat.two_pow_pos _)
  rw [Nat.pow_add, Nat.mul_assoc, Nat.add_assoc, ← Nat.mul_add, Nat.add_mul_div_left _ _ (Nat.two_pow_pos _),
    Nat.div_eq_of_lt h1, Nat.zero_add, Nat.add_mul_mod_self_left, Nat.mod_mod]

theorem bits_putBits_below {n lsb w v l k : Nat} (h : l + k ≤ lsb) : bits (putBits n lsb w v) l k = bits n l k := by
  unfold bits putBits
  obtain ⟨d, rfl⟩ : ∃ d, lsb = l + k + d := ⟨lsb - (l + k), by omega⟩
  have e : n % 2 ^ (l + k + d) + 2 ^ (l + k + d) * (v % 2 ^ w) + 2 ^ (l + k + d + w) * (n / 2 ^ (l + k + d + w)) =
      n % 2 ^ (l + k + d) + 2 ^ (l + k) * (2 ^ d * (v % 2 ^ w) + 2 ^ (d + w) * (n / 2 ^ (l + k + d + w))) := by
    rw [Nat.mul_add, ← Nat.mul_assoc, ← Nat.mul_assoc, ← Nat.pow_add, ← Nat.pow_add, Nat.add_assoc, Nat.add_assoc (l + k)]
  rw [e]
  have key : ∀ x y : Nat, (x + 2 ^ (l + k) * y) / 2 ^ l % 2 ^ k = x / 2 ^ l % 2 ^ k := by
    intro x y
    rw [Nat.pow_add, Nat.mul_assoc, Nat.add_mul_div_left _ _ (Nat.two_pow_pos _), Nat.add_mul_mod_self_left]
  rw [key]
  have back : n = n % 2 ^ (l + k + d) + 2 ^ (l + k) * (2 ^ d * (n / 2 ^ (l + k + d))) := by
    rw [← Nat.mul_assoc, ← Nat.pow_add]
    exact (Nat.mod_add_div n _).symm
  conv_rhs => rw [back]
  rw [key]

theorem bits_putBits_above {n lsb w v l k : Nat} (h : lsb + w ≤ l) : bits (putBits n lsb w v) l k = bits n l k := by
  unfold bits
  congr 1
  obtain ⟨d, rfl⟩ : ∃ d, l = lsb + w + d := ⟨l - (lsb + w), by omega⟩
  rw [Nat.pow_add 2 (lsb + w) d, ← Nat.div_div_eq_div_mul, ← Nat.div_div_eq_div_mul]
  congr 1
  unfold putBits
  have h1 : n % 2 ^ lsb + 2 ^ lsb * (v % 2 ^ w) < 2 ^ (lsb + w) := by
    have a : n % 2 ^ lsb < 2 ^ lsb := Nat.mod_lt _ (Nat.two_pow_pos _)
    have b : v % 2 ^ w + 1 ≤ 2 ^ w := Nat.mod_lt _ (Nat.two_pow_pos _)
    calc n % 2 ^ lsb + 2 ^ lsb * (v % 2 ^ w) < 2 ^ lsb + 2 ^ lsb * (v % 2 ^ w) := by omega
      _ = 2 ^ lsb * (v % 2 ^ w + 1) := by rw [Nat.mul_add, Nat.mul_one, Nat.add_comm]
      _ ≤ 2 ^ lsb * 2 ^ w := Nat.mul_le_mul_left _ b
      _ = 2 ^ (lsb + w) := (Nat.pow_add _ _ _).symm
  rw [Nat.add_mul_div_left _ _ (Nat.two_pow_pos _), Nat.div_eq_of_lt h1, Nat.zero_add]

theorem putBits_lt {n lsb w v k : Nat} (hn : n < 2 ^ k) (hf : lsb + w ≤ k) : putBits n lsb w v < 2 ^ k := by
  obtain ⟨d, rfl⟩ : ∃ d, k = lsb + w + d := ⟨k - (lsb + w), by omega⟩
  have h := bits_putBits_above (n := n) (lsb := lsb) (w := w) (v := v) (l := lsb + w) (k := d) (Nat.le_refl _)
  rw [Nat.pow_add] at *
  have a : putBits n lsb w v / 2 ^ (lsb + w) = n / 2 ^ (lsb + w) := by
    unfold putBits
    have h1 : n % 2 ^ lsb + 2 ^ lsb * (v % 2 ^ w) < 2 ^ (lsb + w) := by
      have a : n % 2 ^ lsb < 2 ^ lsb := Nat.mod_lt _ (Nat.two_pow_pos _)
      have b : v % 2 ^ w + 1 ≤ 2 ^ w := Nat.mod_lt _ (Nat.two_pow_pos _)
      calc n % 2 ^ lsb + 2 ^ lsb * (v % 2 ^ w) < 2 ^ lsb + 2 ^ lsb * (v % 2 ^ w) := by omega
        _ = 2 ^ lsb * (v % 2 ^ w + 1) := by rw [Nat.mul_add, Nat.mul_one, Nat.add_comm]
        _ ≤ 2 ^ lsb * 2 ^ w := Nat.mul_le_mul_left _ b
        _ = 2 ^ (lsb + w) := (Nat.pow_add _ _ _).symm
    rw [Nat.add_mul_div_left _ _ (Nat.two_pow_pos _), Nat.div_eq_of_lt h1, Nat.zero_add]
  have b : n / 2 ^ (lsb + w) < 2 ^ d := Nat.div_lt_of_lt_mul hn
  rw [← a] at b
  exact (Nat.div_lt_iff_lt_mul (Nat.two_pow_pos _)).1 b |>.trans_eq (Nat.mul_comm _ _)

/-! ### Registers -/

variable {s : State}

theorem rising_setReg (h : Rising s.regs) (a : Nat) (w : Word) : Rising (setReg s a w).regs := by
  simp only [setReg_fields, sput]
  split
  · exact rising_sdel a h
  · exact rising_sins a w h

theorem reg_setReg_self (h : Rising s.regs) (a : Nat) (w : Word) : reg (setReg s a w) a = w := by
  simpa [reg] using sget_sput_self resetWord a w h

theorem reg_setReg_other (h : Rising s.regs) {a b : Nat} (w : Word) (hb : b ≠ a) : reg (setReg s a w) b = reg s b := by
  simpa [reg] using sget_sput_other resetWord w hb h

theorem rising_setFld (h : Rising s.regs) (f : Field) (v : Nat) : Rising (setFld s f v).regs := rising_setReg h _ _

theorem reg_setFld_other (h : Rising s.regs) (f : Field) (v : Nat) {b : Nat} (hb : b ≠ f.addr) :
    reg (setFld s f v) b = reg s b := reg_setReg_other h _ hb

/-- A field that was set holds the value, cut to its width. -/
theorem fld_setFld_self (h : Rising s.regs) (f : Field) (v : Nat) (hf : f.lsb + f.width ≤ 32) :
    fld (setFld s f v) f = v % 2 ^ f.width := by
  unfold fld setFld
  rw [reg_setReg_self h, BitVec.toNat_ofNat, Nat.mod_eq_of_lt (putBits_lt (reg s f.addr).isLt hf), bits_putBits_self]

/-- Setting a field changes no field of another register. -/
theorem fld_setFld_addr (h : Rising s.regs) (f g : Field) (v : Nat) (hg : g.addr ≠ f.addr) :
    fld (setFld s f v) g = fld s g := by
  unfold fld
  rw [reg_setFld_other h f v hg]

/-- Setting a field changes no other field of its register. -/
theorem fld_setFld_bits (h : Rising s.regs) (f g : Field) (v : Nat) (hf : f.lsb + f.width ≤ 32) (ha : g.addr = f.addr)
    (hg : g.lsb + g.width ≤ f.lsb ∨ f.lsb + f.width ≤ g.lsb) : fld (setFld s f v) g = fld s g := by
  unfold fld setFld
  rw [ha, reg_setReg_self h, BitVec.toNat_ofNat, Nat.mod_eq_of_lt (putBits_lt (reg s f.addr).isLt hf)]
  rcases hg with hg | hg
  · exact bits_putBits_below hg
  · exact bits_putBits_above hg

/-- Setting a field changes no field that shares no bit with it. -/
theorem fld_setFld_apart (h : Rising s.regs) {f g : Field} (v : Nat) (hf : f.lsb + f.width ≤ 32) (hg : f.apart g = true) :
    fld (setFld s f v) g = fld s g := by
  by_cases ha : g.addr = f.addr
  · refine fld_setFld_bits h f g v hf ha ?_
    simpa [Field.apart, ha] using hg
  · exact fld_setFld_addr h f g v ha

theorem isSet_raise (h : Rising s.regs) (f : Field) (hf : f.lsb + f.width ≤ 32) (hw : 0 < f.width) :
    isSet (raise s f) f = true := by
  unfold isSet raise
  rw [fld_setFld_self h f 1 hf, Nat.mod_eq_of_lt (Nat.one_lt_two_pow (by omega))]
  rfl

theorem isSet_lower (h : Rising s.regs) (f : Field) (hf : f.lsb + f.width ≤ 32) : isSet (lower s f) f = false := by
  unfold isSet lower
  rw [fld_setFld_self h f 0 hf, Nat.zero_mod]
  rfl

/-! ### Flags and counters -/

section
variable (h : Rising s.regs) {f g : Field}
include h

theorem rising_raise : Rising (raise s f).regs := rising_setFld h f 1
theorem rising_lower : Rising (lower s f).regs := rising_setFld h f 0
theorem rising_setBool (b : Bool) : Rising (setBool s f b).regs := rising_setFld h f _
theorem rising_bump (n : Nat) : Rising (bump s f n).regs := rising_setFld h f _
theorem rising_raiseBit (i : Nat) : Rising (raiseBit s f i).regs := rising_setFld h _ _
theorem rising_lowerBit (i : Nat) : Rising (lowerBit s f i).regs := rising_setFld h _ _

theorem fld_raise_self (hf : f.lsb + f.width ≤ 32) (hw : 0 < f.width) : fld (raise s f) f = 1 := by
  unfold raise
  rw [fld_setFld_self h f 1 hf, Nat.mod_eq_of_lt (Nat.one_lt_two_pow (by omega))]

theorem fld_lower_self (hf : f.lsb + f.width ≤ 32) : fld (lower s f) f = 0 := by
  unfold lower
  rw [fld_setFld_self h f 0 hf, Nat.zero_mod]

theorem fld_setBool_self (b : Bool) (hf : f.lsb + f.width ≤ 32) (hw : 0 < f.width) : fld (setBool s f b) f = b2n b := by
  unfold setBool
  rw [fld_setFld_self h f _ hf, Nat.mod_eq_of_lt]
  exact Nat.lt_of_le_of_lt (by cases b <;> decide) (Nat.one_lt_two_pow (by omega))

/-- A counter that saturates. -/
theorem fld_bump_self (n : Nat) (hf : f.lsb + f.width ≤ 32) :
    fld (bump s f n) f = min (fld s f + n) (2 ^ f.width - 1) := by
  unfold bump satAdd
  rw [fld_setFld_self h f _ hf, Nat.mod_eq_of_lt]
  exact Nat.lt_of_le_of_lt (Nat.min_le_right _ _) (Nat.sub_lt (Nat.two_pow_pos _) Nat.one_pos)

theorem fld_raise_apart (hf : f.lsb + f.width ≤ 32) (hg : f.apart g = true) : fld (raise s f) g = fld s g :=
  fld_setFld_apart h 1 hf hg
theorem fld_lower_apart (hf : f.lsb + f.width ≤ 32) (hg : f.apart g = true) : fld (lower s f) g = fld s g :=
  fld_setFld_apart h 0 hf hg
theorem fld_setBool_apart (b : Bool) (hf : f.lsb + f.width ≤ 32) (hg : f.apart g = true) :
    fld (setBool s f b) g = fld s g := fld_setFld_apart h _ hf hg
theorem fld_bump_apart (n : Nat) (hf : f.lsb + f.width ≤ 32) (hg : f.apart g = true) : fld (bump s f n) g = fld s g :=
  fld_setFld_apart h _ hf hg

end

/-- `cfg_err` of block `i` touches its two bits only. -/
theorem rising_cfgErr (h : Rising s.regs) (i : Nat) : Rising (cfgErr s i).regs := rising_raise (rising_raise h)

end Sys2Proof.Machine
end

