-- ==== Sys2Proof/Laws/Keeps.lean ====
section
/-!
SUPPORT. What every operation of the block keeps, whatever it does: the queue of waiting commands and the tick it happens
in, the frames already sent, the counter of free values (it never runs back), the canonical form of the sparse stores, and
every part of the state outside the operation's own ones. One lemma per operation says so (`<operation>_keeps`), in the
files beside this one; a set of parts is written as a number, bit `Part.idx p` for part `p`.
-/

namespace Sys2Proof.Machine

/-- Every part of the set `a` is one of the set `m`. -/
def Sub (a m : Nat) : Prop := ∀ i, a.testBit i = true → m.testBit i = true

theorem Sub.refl (m : Nat) : Sub m m := fun _ h => h

theorem Sub.mono {a b m : Nat} (h : Sub b m) (e : a ||| b = b) : Sub a m := by
  intro i hi
  apply h
  rw [← e, Nat.testBit_or, hi, Bool.true_or]

/-- From `s` to `t` nothing but the parts of the set `m`, the free values drawn and the frames sent has changed. -/
structure Keeps (m : Nat) (s t : State) : Prop where
  pending : t.pending = s.pending
  now : t.now = s.now
  free : s.free ≤ t.free
  out : s.out <:+ t.out
  canon : Canon s → Canon t
  regs : Canon s → ∀ a, m.testBit (40 + blockIndex a) = false → reg t a = reg s a
  parts : ∀ p : Part, m.testBit p.idx = false → p.same s t

/-- The same of an operation that also answers a value. -/
structure KeepsP {α : Type} (m : Nat) (s : State) (p : α × State) : Prop where
  snd : Keeps m s p.2

/-- A command that goes on, and keeps what every operation keeps. -/
def NextKeeps (m : Nat) (r : State) (o : Host.Outcome State Fault Refusal) : Prop := ∃ t, o = .next t ∧ Keeps m r t

theorem ShadowForm.sublist {l l' : List (Nat × Nat)} (c : ShadowForm l) (h : l'.Sublist l) : ShadowForm l' :=
  ⟨c.1.sublist h, fun p hp => c.2 p (h.subset hp)⟩

theorem ShadowForm.insert {l : List (Nat × Nat)} {k v : Nat} (c : ShadowForm l) (h : shadowFits (k, v) = true) :
    ShadowForm (sins l k v) :=
  ⟨rising_sins _ _ c.1, fun p hp => by
    rcases mem_sins hp with rfl | hp
    · exact h
    · exact c.2 p hp⟩

theorem ShadowForm.delete {l : List (Nat × Nat)} (c : ShadowForm l) (k : Nat) : ShadowForm (sdel l k) :=
  ⟨rising_sdel _ c.1, fun _ hp => c.2 _ (mem_of_mem_sdel hp)⟩

/-- Every field row of the register tables is found by its lowest bit. -/
theorem table_fields : ∀ i < 32, (Regs.table i).all (fun r => r.fields.all fun f =>
    f.lsb < 32 && r.fields.find? (fun g => g.lsb == f.lsb) == some f) = true := by decide

theorem fieldInfoAt_of {a : Nat} {r : RegInfo} {f : FieldInfo} (h : regAt a = some r) (hf : f ∈ r.fields) :
    fieldInfoAt a f.lsb = some f ∧ f.lsb < 32 := by
  have ht := table_fields (blockIndex a) (Nat.mod_lt _ (by decide))
  have hr : r ∈ Regs.table (blockIndex a) := List.mem_of_find?_eq_some h
  have := List.all_eq_true.1 (List.all_eq_true.1 ht r hr) f hf
  simp only [Bool.and_eq_true, decide_eq_true_eq, beq_iff_eq] at this
  exact ⟨by unfold fieldInfoAt; rw [h]; exact this.2, this.1⟩

theorem Part.same_refl (p : Part) (s : State) : p.same s s := by cases p <;> rfl

/-- All parts. -/
def Part.every : List Part :=
  [.free, .out, .regs, .shadows, .mem, .bulk, .od, .odHeld, .sys, .bsc, .evr, .ntb, .pqu, .tkn, .vault, .bkd, .flt, .rfe, .tte, .lfe,
    .sdc, .mtr, .fb, .icu, .ioc, .pwr, .nodes, .zones, .sched, .bal, .bhn, .dict, .upd, .nv]

/-- A list of parts and the number of a set agree where every part outside the list is outside the set. -/
theorem Part.outside {l : List Part} {m : Nat} (h : Part.every.all (fun p => decide (p ∈ l) || !m.testBit p.idx) = true)
    (p : Part) (hp : p ∉ l) : m.testBit p.idx = false := by
  have hmem : p ∈ Part.every := by cases p <;> decide
  have := List.all_eq_true.1 h p hmem
  simpa [hp] using this

theorem Part.same_trans {p : Part} {r s t : State} (h : p.same r s) (k : p.same s t) : p.same r t := by
  cases p <;> exact Eq.trans k h

/-! ### Registers in a set -/

/-- The set of a write to the register at `a`: the registers, of them those of its block (bit 40 + i for block i). -/
def regMask (a : Nat) : Nat := 2 ^ 2 ||| 2 ^ (40 + blockIndex a)

/-- The registers of every block. -/
def regsMask : Nat := 4722366481770133585924

theorem Sub.left {a b c m : Nat} (h : Sub c m) (e : c = a ||| b) : Sub a m := by
  intro i hi
  apply h
  rw [e, Nat.testBit_or, hi, Bool.true_or]

theorem Sub.right {a b c m : Nat} (h : Sub c m) (e : c = a ||| b) : Sub b m := by
  intro i hi
  apply h
  rw [e, Nat.testBit_or, hi, Bool.or_true]

theorem regMask.part {a m : Nat} (h : Sub (regMask a) m) : Sub (2 ^ 2) m := h.left rfl

theorem regMask.block {a m : Nat} (h : Sub (regMask a) m) : m.testBit (40 + blockIndex a) = true := by
  apply h
  simp only [regMask, Nat.testBit_or, Nat.testBit_two_pow_self, Bool.or_true]

theorem regMask.same {a b m : Nat} (h : Sub (regMask a) m) (e : blockIndex b = blockIndex a) : Sub (regMask b) m := by
  unfold regMask
  rw [e]
  exact h

theorem blockIndex_base (i : Nat) : blockIndex (blockBase i) = i % 32 := by
  simp only [blockBase, blockIndex]
  omega

/-- Whatever register it is. -/
theorem regMask.any {a m : Nat} (h : Sub regsMask m) : Sub (regMask a) m := by
  have hb : blockIndex a < 32 := Nat.mod_lt _ (by decide)
  have key : ∀ i < 32, (2 ^ 2 ||| 2 ^ (40 + i)) ||| regsMask = regsMask := by decide
  exact h.mono (key _ hb)

/-- Whatever register it is, beside other parts. -/
theorem regMask.anyOr {a k m : Nat} (h : Sub (regsMask ||| k) m) : Sub (regMask a ||| k) m := by
  intro i hi
  rw [Nat.testBit_or, Bool.or_eq_true] at hi
  rcases hi with hi | hi
  · exact regMask.any (h.left rfl) i hi
  · exact h.right rfl i hi

theorem Part.clash {a m i : Nat} (hm : Sub a m) (h : a.testBit i = true) (e : m.testBit i = false) : False := by
  rw [hm i h] at e
  cases e

namespace Keeps

variable {m : Nat} {r s t : State}

theorem refl (s : State) : Keeps m s s := ⟨rfl, rfl, Nat.le_refl _, List.suffix_refl _, id, fun _ _ _ => rfl, fun p _ => p.same_refl s⟩

theorem trans (h : Keeps m r s) (k : Keeps m s t) : Keeps m r t :=
  ⟨k.pending.trans h.pending, k.now.trans h.now, Nat.le_trans h.free k.free, h.out.trans k.out,
    fun c => k.canon (h.canon c), fun c a e => (k.regs (h.canon c) a e).trans (h.regs c a e), fun p e => Part.same_trans (h.parts p e) (k.parts p e)⟩

theorem ite {c : Prop} [Decidable c] (h : Keeps m r s) (k : Keeps m r t) : Keeps m r (if c then s else t) := by
  split <;> assumption

theorem upTo {n : Nat} {f : Nat → State → State} (h : Keeps m r s)
    (k : ∀ i t, Keeps m r t → Keeps m r (f i t)) : Keeps m r (upTo n f s) := by
  unfold Machine.upTo
  generalize List.range n = l
  induction l generalizing s with
  | nil => exact h
  | cons a l ih => exact ih (k _ _ h)

theorem foldl {α : Type} {l : List α} {f : State → α → State} (h : Keeps m r s)
    (k : ∀ t a, Keeps m r t → Keeps m r (f t a)) : Keeps m r (l.foldl f s) := by
  induction l generalizing s with
  | nil => exact h
  | cons a l ih => exact ih (k _ _ h)

theorem foldl_mem {α : Type} {l : List α} {f : State → α → State} (h : Keeps m r s)
    (k : ∀ t, ∀ a ∈ l, Keeps m r t → Keeps m r (f t a)) : Keeps m r (l.foldl f s) := by
  induction l generalizing s with
  | nil => exact h
  | cons a l ih => exact ih (k _ _ (by simp) h) (fun t b hb => k t b (by simp [hb]))

/-- A sparse map that keeps some of its entries stays canonical. -/
theorem canonical_sublist {α : Type} [DecidableEq α] {d : Nat → α} {l l' : List (Nat × α)} (h : l'.Sublist l)
    (c : Canonical d l) : Canonical d l' := ⟨c.1.sublist h, fun p hp => c.2 p (h.subset hp)⟩

/-- An update that drops entries of the stores. -/
theorem thin (h : Keeps m r s) (hp : t.pending = s.pending) (hn : t.now = s.now) (hf : t.free = s.free)
    (ho : t.out = s.out) (h1 : t.regs.Sublist s.regs) (h2 : t.shadows.Sublist s.shadows) (h3 : t.mem.Sublist s.mem)
    (h4 : t.bulk.Sublist s.bulk) (h5 : t.od.Sublist s.od) (h6 : t.odHeld.Sublist s.odHeld)
    (hb : Sub regsMask m) (hm : ∀ p : Part, m.testBit p.idx = false → p.same s t) : Keeps m r t :=
  h.trans ⟨hp, hn, hf ▸ Nat.le_refl _, ho ▸ List.suffix_refl _,
    fun c => ⟨canonical_sublist h1 c.regs, c.shadows.sublist h2, canonical_sublist h3 c.mem, canonical_sublist h4 c.bulk,
      canonical_sublist h5 c.od, c.held.sublist h6⟩,
    fun _ a e => absurd (regMask.block (a := a) (regMask.any hb)) (by rw [e]; decide), hm⟩

/-- An update of a part in the set. -/
theorem part_ne {i : Nat} (hm : Sub (2 ^ i) m) {p : Part} (e : m.testBit p.idx = false) : p.idx ≠ i := by
  intro h
  have := hm i (by simp)
  rw [← h, e] at this
  cases this

theorem set_sys {x0 : SysState} (hm : Sub (2 ^ 8) m) (h : Keeps m r s) : Keeps m r { s with sys := x0 } :=
  h.trans ⟨rfl, rfl, Nat.le_refl _, List.suffix_refl _, fun c => ⟨c.regs, c.shadows, c.mem, c.bulk, c.od, c.held⟩, fun _ _ _ => rfl, by
    intro p e
    have n := part_ne hm e
    cases p <;> first | rfl | exact absurd rfl n⟩

theorem set_bsc {x0 : BscState} (hm : Sub (2 ^ 9) m) (h : Keeps m r s) : Keeps m r { s with bsc := x0 } :=
  h.trans ⟨rfl, rfl, Nat.le_refl _, List.suffix_refl _, fun c => ⟨c.regs, c.shadows, c.mem, c.bulk, c.od, c.held⟩, fun _ _ _ => rfl, by
    intro p e
    have n := part_ne hm e
    cases p <;> first | rfl | exact absurd rfl n⟩

theorem set_evr {x0 : EvrState} (hm : Sub (2 ^ 10) m) (h : Keeps m r s) : Keeps m r { s with evr := x0 } :=
  h.trans ⟨rfl, rfl, Nat.le_refl _, List.suffix_refl _, fun c => ⟨c.regs, c.shadows, c.mem, c.bulk, c.od, c.held⟩, fun _ _ _ => rfl, by
    intro p e
    have n := part_ne hm e
    cases p <;> first | rfl | exact absurd rfl n⟩

theorem set_ntb {x0 : NtbState} (hm : Sub (2 ^ 11) m) (h : Keeps m r s) : Keeps m r { s with ntb := x0 } :=
  h.trans ⟨rfl, rfl, Nat.le_refl _, List.suffix_refl _, fun c => ⟨c.regs, c.shadows, c.mem, c.bulk, c.od, c.held⟩, fun _ _ _ => rfl, by
    intro p e
    have n := part_ne hm e
    cases p <;> first | rfl | exact absurd rfl n⟩

theorem set_pqu {x0 : PquState} (hm : Sub (2 ^ 12) m) (h : Keeps m r s) : Keeps m r { s with pqu := x0 } :=
  h.trans ⟨rfl, rfl, Nat.le_refl _, List.suffix_refl _, fun c => ⟨c.regs, c.shadows, c.mem, c.bulk, c.od, c.held⟩, fun _ _ _ => rfl, by
    intro p e
    have n := part_ne hm e
    cases p <;> first | rfl | exact absurd rfl n⟩

theorem set_tkn {x0 : TknState} (hm : Sub (2 ^ 13) m) (h : Keeps m r s) : Keeps m r { s with tkn := x0 } :=
  h.trans ⟨rfl, rfl, Nat.le_refl _, List.suffix_refl _, fun c => ⟨c.regs, c.shadows, c.mem, c.bulk, c.od, c.held⟩, fun _ _ _ => rfl, by
    intro p e
    have n := part_ne hm e
    cases p <;> first | rfl | exact absurd rfl n⟩

theorem set_vault {x0 : VaultState} (hm : Sub (2 ^ 14) m) (h : Keeps m r s) : Keeps m r { s with vault := x0 } :=
  h.trans ⟨rfl, rfl, Nat.le_refl _, List.suffix_refl _, fun c => ⟨c.regs, c.shadows, c.mem, c.bulk, c.od, c.held⟩, fun _ _ _ => rfl, by
    intro p e
    have n := part_ne hm e
    cases p <;> first | rfl | exact absurd rfl n⟩

theorem set_bkd {x0 : BkdState} (hm : Sub (2 ^ 15) m) (h : Keeps m r s) : Keeps m r { s with bkd := x0 } :=
  h.trans ⟨rfl, rfl, Nat.le_refl _, List.suffix_refl _, fun c => ⟨c.regs, c.shadows, c.mem, c.bulk, c.od, c.held⟩, fun _ _ _ => rfl, by
    intro p e
    have n := part_ne hm e
    cases p <;> first | rfl | exact absurd rfl n⟩

theorem set_flt {x0 : FaultState} (hm : Sub (2 ^ 16) m) (h : Keeps m r s) : Keeps m r { s with flt := x0 } :=
  h.trans ⟨rfl, rfl, Nat.le_refl _, List.suffix_refl _, fun c => ⟨c.regs, c.shadows, c.mem, c.bulk, c.od, c.held⟩, fun _ _ _ => rfl, by
    intro p e
    have n := part_ne hm e
    cases p <;> first | rfl | exact absurd rfl n⟩

theorem set_rfe {x0 : RfeState} (hm : Sub (2 ^ 17) m) (h : Keeps m r s) : Keeps m r { s with rfe := x0 } :=
  h.trans ⟨rfl, rfl, Nat.le_refl _, List.suffix_refl _, fun c => ⟨c.regs, c.shadows, c.mem, c.bulk, c.od, c.held⟩, fun _ _ _ => rfl, by
    intro p e
    have n := part_ne hm e
    cases p <;> first | rfl | exact absurd rfl n⟩

theorem set_tte {x0 : TteState} (hm : Sub (2 ^ 18) m) (h : Keeps m r s) : Keeps m r { s with tte := x0 } :=
  h.trans ⟨rfl, rfl, Nat.le_refl _, List.suffix_refl _, fun c => ⟨c.regs, c.shadows, c.mem, c.bulk, c.od, c.held⟩, fun _ _ _ => rfl, by
    intro p e
    have n := part_ne hm e
    cases p <;> first | rfl | exact absurd rfl n⟩

theorem set_lfe {x0 : LfeState} (hm : Sub (2 ^ 19) m) (h : Keeps m r s) : Keeps m r { s with lfe := x0 } :=
  h.trans ⟨rfl, rfl, Nat.le_refl _, List.suffix_refl _, fun c => ⟨c.regs, c.shadows, c.mem, c.bulk, c.od, c.held⟩, fun _ _ _ => rfl, by
    intro p e
    have n := part_ne hm e
    cases p <;> first | rfl | exact absurd rfl n⟩

theorem set_sdc {x0 : SdcState} (hm : Sub (2 ^ 20) m) (h : Keeps m r s) : Keeps m r { s with sdc := x0 } :=
  h.trans ⟨rfl, rfl, Nat.le_refl _, List.suffix_refl _, fun c => ⟨c.regs, c.shadows, c.mem, c.bulk, c.od, c.held⟩, fun _ _ _ => rfl, by
    intro p e
    have n := part_ne hm e
    cases p <;> first | rfl | exact absurd rfl n⟩

theorem set_mtr {x0 : MtrState} (hm : Sub (2 ^ 21) m) (h : Keeps m r s) : Keeps m r { s with mtr := x0 } :=
  h.trans ⟨rfl, rfl, Nat.le_refl _, List.suffix_refl _, fun c => ⟨c.regs, c.shadows, c.mem, c.bulk, c.od, c.held⟩, fun _ _ _ => rfl, by
    intro p e
    have n := part_ne hm e
    cases p <;> first | rfl | exact absurd rfl n⟩

theorem set_fb {x0 : FbState} (hm : Sub (2 ^ 22) m) (h : Keeps m r s) : Keeps m r { s with fb := x0 } :=
  h.trans ⟨rfl, rfl, Nat.le_refl _, List.suffix_refl _, fun c => ⟨c.regs, c.shadows, c.mem, c.bulk, c.od, c.held⟩, fun _ _ _ => rfl, by
    intro p e
    have n := part_ne hm e
    cases p <;> first | rfl | exact absurd rfl n⟩

theorem set_icu {x0 : IcuState} (hm : Sub (2 ^ 23) m) (h : Keeps m r s) : Keeps m r { s with icu := x0 } :=
  h.trans ⟨rfl, rfl, Nat.le_refl _, List.suffix_refl _, fun c => ⟨c.regs, c.shadows, c.mem, c.bulk, c.od, c.held⟩, fun _ _ _ => rfl, by
    intro p e
    have n := part_ne hm e
    cases p <;> first | rfl | exact absurd rfl n⟩

theorem set_ioc {x0 : IocState} (hm : Sub (2 ^ 24) m) (h : Keeps m r s) : Keeps m r { s with ioc := x0 } :=
  h.trans ⟨rfl, rfl, Nat.le_refl _, List.suffix_refl _, fun c => ⟨c.regs, c.shadows, c.mem, c.bulk, c.od, c.held⟩, fun _ _ _ => rfl, by
    intro p e
    have n := part_ne hm e
    cases p <;> first | rfl | exact absurd rfl n⟩

theorem set_pwr {x0 : PwrState} (hm : Sub (2 ^ 25) m) (h : Keeps m r s) : Keeps m r { s with pwr := x0 } :=
  h.trans ⟨rfl, rfl, Nat.le_refl _, List.suffix_refl _, fun c => ⟨c.regs, c.shadows, c.mem, c.bulk, c.od, c.held⟩, fun _ _ _ => rfl, by
    intro p e
    have n := part_ne hm e
    cases p <;> first | rfl | exact absurd rfl n⟩

theorem set_nodes {x0 : NodesState} (hm : Sub (2 ^ 26) m) (h : Keeps m r s) : Keeps m r { s with nodes := x0 } :=
  h.trans ⟨rfl, rfl, Nat.le_refl _, List.suffix_refl _, fun c => ⟨c.regs, c.shadows, c.mem, c.bulk, c.od, c.held⟩, fun _ _ _ => rfl, by
    intro p e
    have n := part_ne hm e
    cases p <;> first | rfl | exact absurd rfl n⟩

theorem set_zones {x0 : ZonesState} (hm : Sub (2 ^ 27) m) (h : Keeps m r s) : Keeps m r { s with zones := x0 } :=
  h.trans ⟨rfl, rfl, Nat.le_refl _, List.suffix_refl _, fun c => ⟨c.regs, c.shadows, c.mem, c.bulk, c.od, c.held⟩, fun _ _ _ => rfl, by
    intro p e
    have n := part_ne hm e
    cases p <;> first | rfl | exact absurd rfl n⟩

theorem set_sched {x0 : SchedState} (hm : Sub (2 ^ 28) m) (h : Keeps m r s) : Keeps m r { s with sched := x0 } :=
  h.trans ⟨rfl, rfl, Nat.le_refl _, List.suffix_refl _, fun c => ⟨c.regs, c.shadows, c.mem, c.bulk, c.od, c.held⟩, fun _ _ _ => rfl, by
    intro p e
    have n := part_ne hm e
    cases p <;> first | rfl | exact absurd rfl n⟩

theorem set_bal {x0 : BalanceState} (hm : Sub (2 ^ 29) m) (h : Keeps m r s) : Keeps m r { s with bal := x0 } :=
  h.trans ⟨rfl, rfl, Nat.le_refl _, List.suffix_refl _, fun c => ⟨c.regs, c.shadows, c.mem, c.bulk, c.od, c.held⟩, fun _ _ _ => rfl, by
    intro p e
    have n := part_ne hm e
    cases p <;> first | rfl | exact absurd rfl n⟩

theorem set_bhn {x0 : BhnState} (hm : Sub (2 ^ 30) m) (h : Keeps m r s) : Keeps m r { s with bhn := x0 } :=
  h.trans ⟨rfl, rfl, Nat.le_refl _, List.suffix_refl _, fun c => ⟨c.regs, c.shadows, c.mem, c.bulk, c.od, c.held⟩, fun _ _ _ => rfl, by
    intro p e
    have n := part_ne hm e
    cases p <;> first | rfl | exact absurd rfl n⟩

theorem set_dict {x0 : DictState} (hm : Sub (2 ^ 31) m) (h : Keeps m r s) : Keeps m r { s with dict := x0 } :=
  h.trans ⟨rfl, rfl, Nat.le_refl _, List.suffix_refl _, fun c => ⟨c.regs, c.shadows, c.mem, c.bulk, c.od, c.held⟩, fun _ _ _ => rfl, by
    intro p e
    have n := part_ne hm e
    cases p <;> first | rfl | exact absurd rfl n⟩

theorem set_upd {x0 : UpdState} (hm : Sub (2 ^ 32) m) (h : Keeps m r s) : Keeps m r { s with upd := x0 } :=
  h.trans ⟨rfl, rfl, Nat.le_refl _, List.suffix_refl _, fun c => ⟨c.regs, c.shadows, c.mem, c.bulk, c.od, c.held⟩, fun _ _ _ => rfl, by
    intro p e
    have n := part_ne hm e
    cases p <;> first | rfl | exact absurd rfl n⟩

theorem set_nv {x0 : NvState} (hm : Sub (2 ^ 33) m) (h : Keeps m r s) : Keeps m r { s with nv := x0 } :=
  h.trans ⟨rfl, rfl, Nat.le_refl _, List.suffix_refl _, fun c => ⟨c.regs, c.shadows, c.mem, c.bulk, c.od, c.held⟩, fun _ _ _ => rfl, by
    intro p e
    have n := part_ne hm e
    cases p <;> first | rfl | exact absurd rfl n⟩

theorem set_sys_bkd_flt_icu {x0 : SysState} {x1 : BkdState} {x2 : FaultState} {x3 : IcuState} (hm : Sub 8487168 m) (h : Keeps m r s) :
    Keeps m r { s with sys := x0, bkd := x1, flt := x2, icu := x3 } :=
  set_icu (x0 := x3) (hm.mono rfl)
    (set_flt (x0 := x2) (hm.mono rfl) (set_bkd (x0 := x1) (hm.mono rfl) (set_sys (x0 := x0) (hm.mono rfl) h)))

theorem set_vault_nv {x0 : VaultState} {x1 : NvState} (hm : Sub 8589950976 m) (h : Keeps m r s) :
    Keeps m r { s with vault := x0, nv := x1 } :=
  set_nv (x0 := x1) (hm.mono rfl) (set_vault (x0 := x0) (hm.mono rfl) h)

end Keeps

namespace KeepsP

variable {m : Nat} {r s : State}

theorem mk' {α : Type} {a : α} (h : Keeps m r s) : KeepsP m r (a, s) := ⟨h⟩

theorem ite {α : Type} {c : Prop} [Decidable c] {p q : α × State} (h : KeepsP m r p) (k : KeepsP m r q) :
    KeepsP m r (if c then p else q) := by
  split <;> assumption

theorem foldl {α β : Type} {p : β × State} {l : List α} {f : β × State → α → β × State} (h : KeepsP m r p)
    (k : ∀ q a, KeepsP m r q → KeepsP m r (f q a)) : KeepsP m r (l.foldl f p) := by
  induction l generalizing p with
  | nil => exact h
  | cons a l ih => exact ih (k _ _ h)

theorem of_eq {α : Type} {p q : α × State} (e : p = q) (h : KeepsP m r p) : KeepsP m r q := e ▸ h

end KeepsP

namespace NextKeeps

variable {m : Nat} {r t : State}

theorem next (h : Keeps m r t) : NextKeeps m r (.next t) := ⟨t, rfl, h⟩

theorem ite {c : Prop} [Decidable c] {p q : Host.Outcome State Fault Refusal} (h : NextKeeps m r p)
    (k : NextKeeps m r q) : NextKeeps m r (if c then p else q) := by
  split <;> assumption

end NextKeeps

/-! ### The operations that write the stores -/

variable {m : Nat} {r s t : State}

theorem takeFree_keeps {w : Nat} (hm : Sub (2 ^ 0) m) (h : Keeps m r s) : KeepsP m r (takeFree w s) :=
  ⟨h.trans ⟨rfl, rfl, Nat.le_succ _, List.suffix_refl _,
    fun c => ⟨c.regs, c.shadows, c.mem, c.bulk, c.od, c.held⟩, fun _ _ _ => rfl, by
      intro p e
      have n := Keeps.part_ne hm e
      cases p <;> first | rfl | exact absurd rfl n⟩⟩

theorem emit_keeps {port : OutPort} {data : List Byte} (hm : Sub (2 ^ 1) m) (h : Keeps m r s) : Keeps m r (emit port data s) :=
  h.trans ⟨rfl, rfl, Nat.le_refl _, List.suffix_cons _ _,
    fun c => ⟨c.regs, c.shadows, c.mem, c.bulk, c.od, c.held⟩, fun _ _ _ => rfl, by
      intro p e
      have n := Keeps.part_ne hm e
      cases p <;> first | rfl | exact absurd rfl n⟩

theorem shadow_keeps {f : Field} {v : Nat} (hs : shadowFits (shadowKey f, v % 2 ^ f.width) = true) (hm : Sub (2 ^ 3) m) (h : Keeps m r s) : Keeps m r (shadow s f v) :=
  h.trans ⟨rfl, rfl, Nat.le_refl _, List.suffix_refl _,
    fun c => ⟨c.regs, c.shadows.insert hs, c.mem, c.bulk, c.od, c.held⟩, fun _ _ _ => rfl, by
      intro p e
      have n := Keeps.part_ne hm e
      cases p <;> first | rfl | exact absurd rfl n⟩

theorem unshadow_keeps {k : Nat} (hm : Sub (2 ^ 3) m) (h : Keeps m r s) : Keeps m r { s with shadows := sdel s.shadows k } :=
  h.trans ⟨rfl, rfl, Nat.le_refl _, List.suffix_refl _,
    fun c => ⟨c.regs, c.shadows.delete _, c.mem, c.bulk, c.od, c.held⟩, fun _ _ _ => rfl, by
      intro p e
      have n := Keeps.part_ne hm e
      cases p <;> first | rfl | exact absurd rfl n⟩

theorem setReg_keeps {a : Nat} {w : Word} (hm : Sub (regMask a) m) (h : Keeps m r s) : Keeps m r (setReg s a w) :=
  h.trans ⟨rfl, rfl, Nat.le_refl _, List.suffix_refl _,
    fun c => ⟨canonical_sput _ _ _ c.regs, c.shadows, c.mem, c.bulk, c.od, c.held⟩,
    fun c b hb => sget_sput_other resetWord w (fun e => by
      rw [e, regMask.block hm] at hb
      exact Bool.noConfusion hb) c.regs.1, by
      intro p e
      have n := Keeps.part_ne (regMask.part hm) e
      cases p <;> first | rfl | exact absurd rfl n⟩

theorem setFld_keeps {f : Field} {v : Nat} (hm : Sub (regMask f.addr) m) (h : Keeps m r s) : Keeps m r (setFld s f v) :=
  setReg_keeps hm h

theorem raise_keeps {f : Field} (hm : Sub (regMask f.addr) m) (h : Keeps m r s) : Keeps m r (raise s f) := setFld_keeps hm h

theorem lower_keeps {f : Field} (hm : Sub (regMask f.addr) m) (h : Keeps m r s) : Keeps m r (lower s f) := setFld_keeps hm h

theorem setBool_keeps {f : Field} {b : Bool} (hm : Sub (regMask f.addr) m) (h : Keeps m r s) : Keeps m r (setBool s f b) :=
  setFld_keeps hm h

theorem raiseBit_keeps {f : Field} {i : Nat} (hm : Sub (regMask f.addr) m) (h : Keeps m r s) : Keeps m r (raiseBit s f i) :=
  setFld_keeps hm h

theorem lowerBit_keeps {f : Field} {i : Nat} (hm : Sub (regMask f.addr) m) (h : Keeps m r s) : Keeps m r (lowerBit s f i) :=
  setFld_keeps hm h

theorem bump_keeps {f : Field} {n : Nat} (hm : Sub (regMask f.addr) m) (h : Keeps m r s) : Keeps m r (bump s f n) :=
  setFld_keeps hm h

theorem bumpWrap_keeps {f : Field} {n : Nat} (hm : Sub (regMask f.addr) m) (h : Keeps m r s) : Keeps m r (bumpWrap s f n) :=
  setFld_keeps hm h

theorem cfgErr_keeps {i : Nat} (hm : Sub (regMask (blockBase i)) m) (h : Keeps m r s) : Keeps m r (cfgErr s i) :=
  raise_keeps (regMask.same hm (by simp only [blockBase, blockIndex]; omega))
    (raise_keeps (regMask.same hm (by simp only [blockBase, blockIndex]; omega)) h)

theorem blockStart_keeps {i : Nat} (hm : Sub (regMask (blockBase i)) m) (h : Keeps m r s) : Keeps m r (blockStart s i) :=
  raise_keeps (regMask.same hm (by simp only [blockBase, blockIndex]; omega)) h

/-- Shadows of one block's registers take effect in that block. -/
theorem applyShadows_in_keeps {l : List (Nat × Nat)} {a : Nat} (hl : ∀ p ∈ l, blockIndex (p.1 / 32) = blockIndex a)
    (hm : Sub (regMask a ||| 8) m) (h : Keeps m r s) : Keeps m r (applyShadows s l) := by
  unfold applyShadows
  induction l generalizing s with
  | nil => exact h
  | cons p l ih =>
    refine ih (fun q hq => hl q (by simp [hq])) ?_
    beta_reduce
    split
    · exact setFld_keeps (regMask.same (hm.left rfl) (hl p (by simp))) (unshadow_keeps (hm.right rfl) h)
    · exact h

theorem applyShadows_keeps {l : List (Nat × Nat)} (hm : Sub (regsMask ||| 8) m) (h : Keeps m r s) :
    Keeps m r (applyShadows s l) := by
  unfold applyShadows
  refine Keeps.foldl h (fun t p k => ?_)
  split
  · exact setFld_keeps (regMask.any (hm.left rfl)) (unshadow_keeps (hm.right rfl) k)
  · exact k

theorem transferShadows_keeps {i : Nat} {b : Boundary} (hm : Sub (regMask (blockBase i) ||| 8) m) (h : Keeps m r s) :
    Keeps m r (transferShadows s i b) := by
  refine applyShadows_in_keeps (fun p hp => ?_) hm h
  have := (List.mem_filter.1 hp).2
  simp only [waitsFor, Bool.and_eq_true, beq_iff_eq] at this
  rw [this.1.symm, blockIndex_base]
  simp only [blockIndex]
  omega

theorem blockStop_keeps {i : Nat} (hm : Sub (regMask (blockBase i) ||| 8) m) (h : Keeps m r s) : Keeps m r (blockStop s i) := by
  refine lower_keeps (regMask.same (hm.left rfl) (by simp only [blockBase, blockIndex]; omega)) ?_
  refine applyShadows_in_keeps (fun p hp => ?_) hm h
  have := (List.mem_filter.1 hp).2
  simp only [beq_iff_eq] at this
  rw [this.symm, blockIndex_base]
  simp only [blockIndex]
  omega

theorem writeField_keeps {old : State} {o : Origin} {a : Nat} {w : Word} {fi : FieldInfo}
    (hfi : fieldInfoAt a fi.lsb = some fi ∧ fi.lsb < 32) (hm : Sub (regMask a ||| 8) m)
    (h : Keeps m r s) : Keeps m r (writeField old o a w s fi) := by
  have ha : ∀ {t : State} (x : Field) (v : Nat), x.addr = a → Keeps m r t → Keeps m r (setFld t x v) :=
    fun x v e k => setFld_keeps (e ▸ hm.left rfl) k
  have he : ∀ {t : State}, Keeps m r t → Keeps m r (cfgErr t (blockIndex a)) :=
    fun k => cfgErr_keeps (regMask.same (hm.left rfl) (by rw [blockIndex_base]; simp only [blockIndex]; omega)) k
  unfold writeField
  extract_lets +onlyGivenNames f v
  split
  · rename_i hty
    extract_lets +onlyGivenNames ad s1
    have h1 : Keeps m r s1 := Keeps.ite (he h) h
    clear_value s1
    split
    · exact h1
    · split
      · rename_i htm
        refine Keeps.ite (shadow_keeps ?_ (hm.right rfl) h1) (ha _ _ rfl h1)
        have e1 : shadowKey f / 32 = a := by simp only [shadowKey, f]; omega
        have e2 : shadowKey f % 32 = fi.lsb := by simp only [shadowKey, f]; omega
        simp only [shadowFits, e1, e2, hfi.1, hty, htm, f]
        simpa using Nat.mod_lt _ (Nat.two_pow_pos _)
      · exact Keeps.ite (Keeps.ite h1 (he h1)) (ha _ _ rfl h1)
      · exact ha _ _ rfl h1
  · exact ha _ _ rfl h
  · exact ha _ _ rfl (Keeps.ite h (he h))
  · exact h

theorem writeFields_keeps {o : Origin} {a : Nat} {w : Word} (hm : Sub (regMask a ||| 8) m) (h : Keeps m r s) :
    Keeps m r (writeFields o a w s) := by
  unfold writeFields
  split
  · rename_i r hr
    refine Keeps.foldl_mem h (fun t fi hfi k => writeField_keeps (fieldInfoAt_of hr hfi) hm k)
  · exact h

theorem clearRc_keeps {l : List (Nat × Nat)} {a : Nat} (hm : Sub (regMask a) m) (h : Keeps m r s) :
    Keeps m r (clearRc l a s) := by
  unfold clearRc
  split
  · exact h
  · refine Keeps.foldl h (fun t fi k => ?_)
    split
    · exact setFld_keeps hm k
    · exact k

theorem raiseFlags_keeps {a : Nat} {w : Word} (hm : Sub (regMask a) m) (h : Keeps m r s) : Keeps m r (raiseFlags a w s) := by
  unfold raiseFlags
  split
  · exact h
  · refine Keeps.foldl h (fun t fi k => ?_)
    split
    · exact setFld_keeps hm k
    · exact k

theorem regWrite_keeps {hook : WriteHook} {o : Origin} {a : Nat} {w : Word} (hm : Sub (regMask a ||| 8) m)
    (hh : ∀ c0 c1 c2 c3 c4, Keeps m r c4 → Keeps m r (hook c0 c1 c2 c3 c4)) (h : Keeps m r s) :
    Keeps m r (regWrite hook o a w s) := hh _ _ _ _ _ (writeFields_keeps hm h)

theorem fwWrite_keeps {hook : WriteHook} {a : Nat} {w : Word} (hm : Sub (regMask a ||| 8) m)
    (hh : ∀ c0 c1 c2 c3 c4, Keeps m r c4 → Keeps m r (hook c0 c1 c2 c3 c4)) (h : Keeps m r s) :
    Keeps m r (fwWrite hook a w s) := regWrite_keeps hm hh h

theorem fwField_keeps {hook : WriteHook} {f : Field} {v : Nat} (hm : Sub (regMask f.addr ||| 8) m)
    (hh : ∀ c0 c1 c2 c3 c4, Keeps m r c4 → Keeps m r (hook c0 c1 c2 c3 c4)) (h : Keeps m r s) :
    Keeps m r (fwField hook f v s) := fwWrite_keeps hm hh h

theorem regRead_keeps {hook : ReadHook} {l : List (Nat × Nat)} {o : Origin} {a : Nat} (hm : Sub (regMask a) m)
    (hh : ∀ c0 c1 c2 c3, Keeps m r c3 → KeepsP m r (hook c0 c1 c2 c3)) (h : Keeps m r s) :
    KeepsP m r (regRead hook l o a s) := hh _ _ _ _ (clearRc_keeps hm h)

/-- The drop counters lie in PQU. -/
theorem dropCount_mask {n : Nat} (hm : Sub 17592186044420 m) : Sub (regMask (dropCount n).addr) m := by
  have : blockIndex (dropCount n).addr = 4 := by
    simp only [dropCount, R.PQU_Qn_CNT_drop, A.PQU_Qn_CNT, blockIndex]
    omega
  unfold regMask
  rw [this]
  exact hm

theorem setByte_keeps {a : Nat} {b : Byte} (hm : Sub (2 ^ 4) m) (h : Keeps m r s) : Keeps m r (setByte s a b) :=
  h.trans ⟨rfl, rfl, Nat.le_refl _, List.suffix_refl _,
    fun c => ⟨c.regs, c.shadows, canonical_sput _ _ _ c.mem, c.bulk, c.od, c.held⟩, fun _ _ _ => rfl, by
      intro p e
      have n := Keeps.part_ne hm e
      cases p <;> first | rfl | exact absurd rfl n⟩

theorem setBytes_keeps {a : Nat} {bs : List Byte} (hm : Sub (2 ^ 4) m) (h : Keeps m r s) :
    Keeps m r (setBytes s a bs) := by
  induction bs generalizing s a with
  | nil => exact h
  | cons b t ih => exact ih (setByte_keeps hm h)

theorem setBulk_keeps {p b : Nat} {bs : List Byte} (hm : Sub (2 ^ 5) m) (h : Keeps m r s) : Keeps m r (setBulk s p b bs) :=
  h.trans ⟨rfl, rfl, Nat.le_refl _, List.suffix_refl _,
    fun c => ⟨c.regs, c.shadows, c.mem, canonical_sput _ _ _ c.bulk, c.od, c.held⟩, fun _ _ _ => rfl, by
      intro p e
      have n := Keeps.part_ne hm e
      cases p <;> first | rfl | exact absurd rfl n⟩

theorem odSet_keeps {area obj el : Nat} {v : List Byte} (hm : Sub (2 ^ 6) m) (h : Keeps m r s) : Keeps m r (odSet s area obj el v) :=
  h.trans ⟨rfl, rfl, Nat.le_refl _, List.suffix_refl _,
    fun c => ⟨c.regs, c.shadows, c.mem, c.bulk, canonical_sput _ _ _ c.od, c.held⟩, fun _ _ _ => rfl, by
      intro p e
      have n := Keeps.part_ne hm e
      cases p <;> first | rfl | exact absurd rfl n⟩

theorem odFilter_keeps {q : Nat × List Byte → Bool} (hm : Sub (2 ^ 6) m) (h : Keeps m r s) : Keeps m r { s with od := s.od.filter q } :=
  h.trans ⟨rfl, rfl, Nat.le_refl _, List.suffix_refl _,
    fun c => ⟨c.regs, c.shadows, c.mem, c.bulk, ⟨c.od.1.filter _, fun p hp => c.od.2 p (List.mem_of_mem_filter hp)⟩, c.held⟩, fun _ _ _ => rfl, by
      intro p e
      have n := Keeps.part_ne hm e
      cases p <;> first | rfl | exact absurd rfl n⟩

theorem odKeep_keeps {q : Nat × List Byte → Bool} {nv : NvState} (hm : Sub 8589934656 m) (h : Keeps m r s) :
    Keeps m r { s with nv := nv, od := s.od.filter q } :=
  odFilter_keeps (hm.mono rfl) (Keeps.set_nv (x0 := nv) (hm.mono rfl) h)

theorem joinRoom_some_keeps {eui : List Byte} (hm : Sub 8589934656 m) (h : Keeps m r s) (e : joinRoom s eui = some t) :
    Keeps m r t := by
  unfold joinRoom at e
  split at e
  · cases e
    exact h
  · split at e
    · cases e
      exact odKeep_keeps hm h
    · cases e

theorem odHold_keeps {k : Nat} {v : List Byte} (hm : Sub (2 ^ 7) m) (h : Keeps m r s) : Keeps m r { s with odHeld := sins s.odHeld k v } :=
  h.trans ⟨rfl, rfl, Nat.le_refl _, List.suffix_refl _,
    fun c => ⟨c.regs, c.shadows, c.mem, c.bulk, c.od, rising_sins _ _ c.held⟩, fun _ _ _ => rfl, by
      intro p e
      have n := Keeps.part_ne hm e
      cases p <;> first | rfl | exact absurd rfl n⟩

theorem odRelease_keeps {q : Nat × List Byte → Bool} (hm : Sub (2 ^ 7) m) (h : Keeps m r s) : Keeps m r { s with odHeld := s.odHeld.filter q } :=
  h.trans ⟨rfl, rfl, Nat.le_refl _, List.suffix_refl _,
    fun c => ⟨c.regs, c.shadows, c.mem, c.bulk, c.od, c.held.filter _⟩, fun _ _ _ => rfl, by
      intro p e
      have n := Keeps.part_ne hm e
      cases p <;> first | rfl | exact absurd rfl n⟩

end Sys2Proof.Machine
end

