-- ==== Sys2Proof/Laws/KeepsPlane.lean ====
section
/-!
SUPPORT. What each operation keeps (`Keeps`), one lemma per operation.
The operations of: Ops, Recorder, Plane, Queues, Faults, Time, Ports, Sessions, Vault.
-/

namespace Sys2Proof.Machine

/-! ### Ops -/

theorem pllSettle_keeps {m : Nat} {r : State} {s : State} (hm : Sub 70368777732100 m) (hs : Keeps m r s) :
    Keeps m r (pllSettle s) := by
  unfold pllSettle
  extract_lets +onlyGivenNames x1
  exact setBool_keeps (hm.mono rfl) (Keeps.set_pwr (hm.mono rfl) hs)

theorem streamPut_keeps {m : Nat} {r : State} {b0 : ℕ} {b1 : Bool} {b2 : List Byte} {s : State} (hm : Sub 8192 m) (hs : Keeps
    m r s) :
    Keeps m r (streamPut b0 b1 b2 s) := by
  unfold streamPut
  refine Keeps.ite ?_ hs
  extract_lets +onlyGivenNames x1
  split
  · rename_i y3 y4 y5 e6
    exact Keeps.set_tkn (hm.mono rfl) hs

theorem setBulkBytes_keeps {m : Nat} {r : State} {o0 : State} {b1 : ℕ} {b2 : ℕ} {b3 : ℕ} {b4 : List Byte} (hm : Sub 32 m)
    (ho0 : Keeps m r o0) :
    Keeps m r (setBulkBytes o0 b1 b2 b3 b4) := by
  unfold setBulkBytes
  extract_lets +onlyGivenNames x1 x2 x3 x4 x5
  refine Keeps.upTo ho0 (fun i6 s7 h8 => ?_)
  exact setBulk_keeps (hm.mono rfl) h8

theorem odSetNat_keeps {m : Nat} {r : State} {o0 : State} {b1 : ℕ} {b2 : ℕ} {b3 : ℕ} {b4 : ℕ} {b5 : ℕ} (hm : Sub 64 m) (ho0 :
    Keeps m r o0) :
    Keeps m r (odSetNat o0 b1 b2 b3 b4 b5) := by
  unfold odSetNat
  exact odSet_keeps (hm.mono rfl) ho0

theorem setMemNat_keeps {m : Nat} {r : State} {o0 : State} {b1 : ℕ} {b2 : ℕ} {b3 : ℕ} (hm : Sub 16 m) (ho0 : Keeps m r o0) :
    Keeps m r (setMemNat o0 b1 b2 b3) := by
  unfold setMemNat
  exact setBytes_keeps (hm.mono rfl) ho0

/-! ### Recorder -/

theorem evrShow_keeps {m : Nat} {r : State} {s : State} (hm : Sub 4503599627370500 m) (hs : Keeps m r s) :
    Keeps m r (evrShow s) := by
  unfold evrShow
  extract_lets +onlyGivenNames x1
  have h2 : Keeps m r x1 := setFld_keeps (hm.mono rfl) hs
  clear_value x1
  extract_lets +onlyGivenNames x3
  have h4 : Keeps m r x3 := setFld_keeps (hm.mono rfl) h2
  clear_value x3
  exact setFld_keeps (hm.mono rfl) h4

theorem evrLose_keeps {m : Nat} {r : State} {s : State} (hm : Sub 4503599627371524 m) (hs : Keeps m r s) :
    Keeps m r (evrLose s) := by
  unfold evrLose
  extract_lets +onlyGivenNames x1 x2 x3
  have h4 : Keeps m r x3 := Keeps.set_evr (hm.mono rfl) hs
  clear_value x3
  exact evrShow_keeps (hm.mono rfl) (raise_keeps (hm.mono rfl) (bump_keeps (hm.mono rfl) h4))

theorem setEvrSeq_keeps {m : Nat} {r : State} {o0 : State} {b1 : ℕ} (hm : Sub 4503599627370500 m) (ho0 : Keeps m r o0) :
    Keeps m r (setEvrSeq o0 b1) := by
  unfold setEvrSeq
  exact setFld_keeps (hm.mono rfl) (setFld_keeps (hm.mono rfl) ho0)

theorem evrStage_keeps {m : Nat} {r : State} {b0 : EvtRecord} {s : State} (hm : Sub 4503599627371524 m) (hs : Keeps m r s) :
    Keeps m r (evrStage b0 s) := by
  unfold evrStage
  extract_lets +onlyGivenNames x1 x2 x3 x4
  have h5 : Keeps m r x4 := Keeps.ite (setEvrSeq_keeps (hm.mono rfl) hs) hs
  clear_value x4
  extract_lets +onlyGivenNames x6 x7
  have h8 : Keeps m r x7 := Keeps.set_evr (hm.mono rfl) h5
  clear_value x7
  extract_lets +onlyGivenNames x9
  have h10 : Keeps m r x9 := raise_keeps (hm.mono rfl) h8
  clear_value x9
  extract_lets +onlyGivenNames x11
  have h12 : Keeps m r x11 := Keeps.ite (raise_keeps (hm.mono rfl) h10) h10
  clear_value x11
  exact evrShow_keeps (hm.mono rfl) h12

theorem evrStageOrLose_keeps {m : Nat} {r : State} {b0 : EvtRecord} {s : State} (hm : Sub 4503599627371524 m) (hs : Keeps m r
    s) :
    Keeps m r (evrStageOrLose b0 s) := by
  unfold evrStageOrLose
  exact Keeps.ite (evrLose_keeps hm hs) (evrStage_keeps hm hs)

theorem rptClose_keeps {m : Nat} {r : State} {b0 : ℕ} {s : State} (hm : Sub 4503599627371524 m) (hs : Keeps m r s) :
    Keeps m r (rptClose b0 s) := by
  unfold rptClose
  split
  · rename_i y2 e3
    exact hs
  · rename_i y4 y5 e6
    extract_lets +onlyGivenNames x7 x8
    have h9 : Keeps m r x8 := Keeps.set_evr (hm.mono rfl) hs
    clear_value x8
    exact Keeps.ite (evrStageOrLose_keeps hm (evrShow_keeps (hm.mono rfl) h9)) (evrShow_keeps (hm.mono rfl) h9)

theorem evrPost_keeps {m : Nat} {r : State} {b0 : ℕ} {b1 : ℕ} {b2 : List Byte} {b3 : Bool} {b4 : Bool} {b5 : Bool} {s :
    State} (hm : Sub 4503599627371524 m) (hs : Keeps m r s) :
    Keeps m r (evrPost b0 b1 b2 b3 b4 b5 s) := by
  unfold evrPost
  extract_lets +onlyGivenNames x1 x2
  refine Keeps.ite (evrStageOrLose_keeps hm hs) ?_
  split
  · rename_i y4 y5 e6
    split
    · rename_i y8 y9 e10
      exact Keeps.set_evr (hm.mono rfl) hs
    · rename_i y11 e12
      exact hs
  · rename_i y13 e14
    refine Keeps.ite (evrLose_keeps hm hs) ?_
    extract_lets +onlyGivenNames x15
    have h16 : Keeps m r x15 := Keeps.ite (rptClose_keeps hm hs) hs
    clear_value x15
    refine Keeps.ite (evrLose_keeps hm h16) ?_
    extract_lets +onlyGivenNames x17
    have h18 : Keeps m r x17 := evrStage_keeps hm h16
    clear_value x17
    extract_lets +onlyGivenNames x19
    exact evrShow_keeps (hm.mono rfl) (Keeps.set_evr (hm.mono rfl) h18)

theorem postFnd_keeps {m : Nat} {r : State} {b0 : ℕ} {b1 : ℕ} {b2 : List Byte} {s : State} (hm : Sub 4503599627371524 m) (hs
    : Keeps m r s) :
    Keeps m r (postFnd b0 b1 b2 s) := by
  unfold postFnd
  exact evrPost_keeps hm hs

theorem spillFinish_keeps {m : Nat} {r : State} {s : State} (hm : Sub 4503599627371540 m) (hs : Keeps m r s) :
    Keeps m r (spillFinish s) := by
  unfold spillFinish
  split
  · rename_i y2 e3
    exact hs
  · rename_i y4 y5 e6
    extract_lets +onlyGivenNames x7
    have h8 : Keeps m r x7 := setBytes_keeps (hm.mono rfl) hs
    clear_value x7
    exact raise_keeps (hm.mono rfl) (lower_keeps (hm.mono rfl) (Keeps.set_evr (hm.mono rfl) h8))

theorem spillStart_keeps {m : Nat} {r : State} {s : State} (hm : Sub 4503599627371524 m) (hs : Keeps m r s) :
    Keeps m r (spillStart s) := by
  unfold spillStart
  exact raise_keeps (hm.mono rfl) (Keeps.set_evr (hm.mono rfl) hs)

theorem post_keeps {m : Nat} {r : State} {b0 : ℕ} {b1 : ℕ} {b2 : List Byte} {s : State} (hm : Sub 4503599627371524 m) (hs :
    Keeps m r s) :
    Keeps m r (post b0 b1 b2 s) := by
  unfold post
  exact evrPost_keeps hm hs

theorem spillCommand_keeps {m : Nat} {r : State} {s : State} (hm : Sub 4503599627371524 m) (hs : Keeps m r s) :
    Keeps m r (spillCommand s) := by
  unfold spillCommand
  exact Keeps.ite (cfgErr_keeps (hm.mono rfl) hs) (spillStart_keeps hm hs)

theorem evrLossRecord_keeps {m : Nat} {r : State} {s : State} (hm : Sub 4503599627371524 m) (hs : Keeps m r s) :
    Keeps m r (evrLossRecord s) := by
  unfold evrLossRecord
  refine Keeps.ite ?_ hs
  extract_lets +onlyGivenNames x1 x2
  exact evrStage_keeps hm (Keeps.set_evr (hm.mono rfl) hs)

theorem evrRelease_keeps {m : Nat} {r : State} {b0 : ℕ} {s : State} (hm : Sub 4503599627371524 m) (hs : Keeps m r s) :
    Keeps m r (evrRelease b0 s) := by
  unfold evrRelease
  exact Keeps.ite (cfgErr_keeps (hm.mono rfl) hs) (evrLossRecord_keeps hm (evrShow_keeps (hm.mono rfl) (Keeps.set_evr
      (hm.mono rfl) hs)))

theorem evrWritten_keeps {m : Nat} {r : State} {b0 : Origin} {b1 : ℕ} {b2 : Word} {o3 : State} {s : State} (hm : Sub
    4503599627371532 m) (hs : Keeps m r s) :
    Keeps m r (evrWritten b0 b1 b2 o3 s) := by
  unfold evrWritten
  refine Keeps.ite ?_ ?_
  · extract_lets +onlyGivenNames x1 x2 x3 x4 x5
    have h6 : Keeps m r x5 := Keeps.ite (blockStart_keeps (hm.mono rfl) (setEvrSeq_keeps (hm.mono rfl) (Keeps.set_evr
        (hm.mono rfl) hs))) (Keeps.ite (blockStop_keeps (hm.mono rfl) hs) hs)
    clear_value x5
    exact Keeps.ite (spillCommand_keeps (hm.mono rfl) h6) h6
  · refine Keeps.ite ?_ (Keeps.ite (evrRelease_keeps (hm.mono rfl) hs) hs)
    extract_lets +onlyGivenNames x7 x8 x9
    exact evrPost_keeps (hm.mono rfl) hs

theorem journalPut_keeps {m : Nat} {r : State} {b0 : JEntry} {s : State} (hm : Sub 8589942784 m) (hs : Keeps m r s) :
    Keeps m r (journalPut b0 s) := by
  unfold journalPut
  extract_lets +onlyGivenNames x1 x2 x3
  have h4 : Keeps m r x3 := Keeps.set_nv (hm.mono rfl) hs
  clear_value x3
  exact Keeps.ite (streamPut_keeps (hm.mono rfl) h4) (streamPut_keeps (hm.mono rfl) h4)

theorem journalRelease_keeps {m : Nat} {r : State} {b0 : ℕ} {s : State} (hm : Sub 8589942784 m) (hs : Keeps m r s) :
    Keeps m r (journalRelease b0 s) := by
  unfold journalRelease
  extract_lets +onlyGivenNames x1
  refine Keeps.foldl hs (fun s3 a2 h4 => ?_)
  extract_lets +onlyGivenNames x5
  exact journalPut_keeps hm (Keeps.set_nv (hm.mono rfl) h4)

theorem journalWrite_keeps {m : Nat} {r : State} {b0 : ℕ} {b1 : ℕ} {b2 : ℕ} {b3 : List Byte} {s : State} (hm : Sub 8589942784
    m) (hs : Keeps m r s) :
    KeepsP m r (journalWrite b0 b1 b2 b3 s) := by
  unfold journalWrite
  extract_lets +onlyGivenNames x1 x2 x3 x4 x5
  have h6 : Keeps m r x5 := Keeps.set_nv (hm.mono rfl) hs
  clear_value x5
  extract_lets +onlyGivenNames x7
  refine KeepsP.mk' ?_
  refine Keeps.foldl h6 (fun s9 a8 h10 => ?_)
  exact journalPut_keeps hm h10

theorem evrRead_keeps {m : Nat} {r : State} {b0 : ℕ} {b1 : Word} {s : State} (hm : Sub 4503599627370500 m) (hs : Keeps m r s) :
    KeepsP m r (evrRead b0 b1 s) := by
  unfold evrRead
  refine KeepsP.ite ?_ (KeepsP.mk' hs)
  extract_lets +onlyGivenNames x1 x2 x3
  exact KeepsP.mk' (setFld_keeps (hm.mono rfl) hs)

theorem checkpointStep_keeps {m : Nat} {r : State} {b0 : List ℕ} {b1 : ℕ} {s : State} (hm : Sub 8589934592 m) (hs : Keeps m r
    s) :
    Keeps m r (checkpointStep b0 b1 s) := by
  induction b1 generalizing b0 s hs with
  | zero =>
    unfold checkpointStep
    exact hs
  | succ n ih =>
    unfold checkpointStep
    extract_lets +onlyGivenNames x1
    refine Keeps.ite hs ?_
    refine Keeps.ite ?_ hs
    refine @ih _ _ ?_
    exact Keeps.set_nv (hm.mono rfl) hs

theorem execEventPost_keeps {m : Nat} {r : State} {b0 : ℕ} {b1 : ℕ} {b2 : List Byte} {b3 : Bool} {s : State} (hm : Sub
    4503599627371524 m) (hs : Keeps m r s) :
    NextKeeps m r (execEventPost b0 b1 b2 b3 s) := by
  unfold execEventPost
  exact NextKeeps.next (evrPost_keeps hm hs)

theorem writeRolling_keeps {m : Nat} {r : State} {b0 : ℕ} {b1 : List Byte} {s : State} (hm : Sub 32 m) (hs : Keeps m r s) :
    Keeps m r (writeRolling b0 b1 s) := by
  unfold writeRolling
  split
  · rename_i y2 y3 y4 e5
    exact Keeps.ite (setBulk_keeps (hm.mono rfl) hs) (setBulkBytes_keeps hm hs)

theorem fndCounted_keeps {m : Nat} {r : State} {s : State} (hm : Sub 8589934592 m) (hs : Keeps m r s) :
    Keeps m r (fndCounted s) := by
  unfold fndCounted
  exact Keeps.set_nv (hm.mono rfl) hs

theorem fndStore_keeps {m : Nat} {r : State} {b0 : EvtRecord} {s : State} (hm : Sub 8589934624 m) (hs : Keeps m r s) :
    Keeps m r (fndStore b0 s) := by
  unfold fndStore
  exact fndCounted_keeps (hm.mono rfl) (setBulkBytes_keeps (hm.mono rfl) hs)

theorem recordDurable_keeps {m : Nat} {r : State} {b0 : EvtRecord} {s : State} (hm : Sub 4503608217306148 m) (hs : Keeps m r
    s) :
    Keeps m r (recordDurable b0 s) := by
  unfold recordDurable
  extract_lets +onlyGivenNames x1
  refine Keeps.ite ?_ (writeRolling_keeps (hm.mono rfl) hs)
  refine Keeps.ite (writeRolling_keeps (hm.mono rfl) (fndStore_keeps (hm.mono rfl) hs)) ?_
  extract_lets +onlyGivenNames x2 x3 x4
  have h5 : Keeps m r x4 := writeRolling_keeps (hm.mono rfl) (Keeps.set_nv (hm.mono rfl) hs)
  clear_value x4
  exact Keeps.ite h5 (post_keeps (hm.mono rfl) h5)

theorem journalBlockWrite_keeps {m : Nat} {r : State} {s : State} (hm : Sub 4503608217306148 m) (hs : Keeps m r s) :
    Keeps m r (journalBlockWrite s) := by
  unfold journalBlockWrite
  extract_lets +onlyGivenNames x1
  refine Keeps.ite hs ?_
  extract_lets +onlyGivenNames x2 x3 x4 x5
  have h6 : Keeps m r x5 := setBulk_keeps (hm.mono rfl) hs
  clear_value x5
  extract_lets +onlyGivenNames x7 x8 x9
  have h10 : Keeps m r x9 := Keeps.set_nv (hm.mono rfl) h6
  clear_value x9
  extract_lets +onlyGivenNames x11
  have h12 : Keeps m r x11 := Keeps.ite (post_keeps (hm.mono rfl) h10) h10
  clear_value x11
  exact checkpointStep_keeps (hm.mono rfl) h12

theorem execJournalBlockWrite_keeps {m : Nat} {r : State} {s : State} (hm : Sub 4503608217306148 m) (hs : Keeps m r s) :
    NextKeeps m r (execJournalBlockWrite s) := by
  unfold execJournalBlockWrite
  exact NextKeeps.next (journalBlockWrite_keeps hm hs)

theorem recordBlockWrite_keeps {m : Nat} {r : State} {s : State} (hm : Sub 4503608217306148 m) (hs : Keeps m r s) :
    Keeps m r (recordBlockWrite s) := by
  unfold recordBlockWrite
  extract_lets +onlyGivenNames x1
  refine evrRelease_keeps (hm.mono rfl) ?_
  refine Keeps.foldl hs (fun s3 a2 h4 => ?_)
  exact recordDurable_keeps hm h4

theorem execRecordBlockWrite_keeps {m : Nat} {r : State} {s : State} (hm : Sub 4503608217306148 m) (hs : Keeps m r s) :
    NextKeeps m r (execRecordBlockWrite s) := by
  unfold execRecordBlockWrite
  exact NextKeeps.next (recordBlockWrite_keeps hm hs)

theorem execRepeatEntryClose_keeps {m : Nat} {r : State} {b0 : ℕ} {s : State} (hm : Sub 4503599627371524 m) (hs : Keeps m r s) :
    NextKeeps m r (execRepeatEntryClose b0 s) := by
  unfold execRepeatEntryClose
  split
  · rename_i y2 y3 e4
    exact NextKeeps.next (Keeps.ite (rptClose_keeps hm hs) hs)
  · rename_i y5 e6
    exact NextKeeps.next hs

theorem execSpillComplete_keeps {m : Nat} {r : State} {s : State} (hm : Sub 4503599627371540 m) (hs : Keeps m r s) :
    NextKeeps m r (execSpillComplete s) := by
  unfold execSpillComplete
  exact NextKeeps.next (spillFinish_keeps hm hs)

/-! ### Plane -/

theorem setResult_keeps {m : Nat} {r : State} {b0 : Origin} {b1 : BusResult} {s : State} (hm : Sub 256 m) (hs : Keeps m r s) :
    Keeps m r (setResult b0 b1 s) := by
  unfold setResult
  split
  · rename_i y2 e3
    exact Keeps.set_sys (hm.mono rfl) hs
  · rename_i y4 e5
    exact Keeps.set_sys (hm.mono rfl) hs

theorem planeRefuse_keeps {m : Nat} {r : State} {b0 : Origin} {b1 : ℕ} {b2 : Bool} {s : State} (hm : Sub 4504699138999556 m)
    (hs : Keeps m r s) :
    Keeps m r (planeRefuse b0 b1 b2 s) := by
  unfold planeRefuse
  extract_lets +onlyGivenNames x1
  have h2 : Keeps m r x1 := setFld_keeps (hm.mono rfl) hs
  clear_value x1
  extract_lets +onlyGivenNames x3
  have h4 : Keeps m r x3 := setBool_keeps (hm.mono rfl) h2
  clear_value x3
  extract_lets +onlyGivenNames x5
  have h6 : Keeps m r x5 := Keeps.ite hs (setBool_keeps (hm.mono rfl) h4)
  clear_value x5
  extract_lets +onlyGivenNames x7
  have h8 : Keeps m r x7 := bump_keeps (hm.mono rfl) h6
  clear_value x7
  extract_lets +onlyGivenNames x9
  have h10 : Keeps m r x9 := raise_keeps (hm.mono rfl) (raise_keeps (hm.mono rfl) h8)
  clear_value x9
  extract_lets +onlyGivenNames x11
  exact setResult_keeps (hm.mono rfl) (post_keeps (hm.mono rfl) h10)

theorem coreWrite_keeps {m : Nat} {r : State} {b0 : WriteHook} {b1 : Origin} {b2 : ℕ} {b3 : Word} {s : State} (hm : Sub
    (regMask b2 ||| 4504699138999564) m) (hb0 : ∀ c0 c1 c2 c3 c4, Keeps m r c4 → Keeps m r (b0 c0 c1 c2 c3 c4)) (hs : Keeps m
        r s) :
    Keeps m r (coreWrite b0 b1 b2 b3 s) := by
  have he : Keeps m r (cfgErr s (blockIndex b2)) :=
    cfgErr_keeps (regMask.same (hm.left rfl) (by rw [blockIndex_base]; simp only [blockIndex]; omega)) hs
  unfold coreWrite
  split
  · refine setResult_keeps ((hm.right rfl).mono rfl) ?_
    refine regWrite_keeps (fun i hi => ?_) hb0 hs
    rw [Nat.testBit_or, Bool.or_eq_true] at hi
    rcases hi with hi | hi
    · exact hm.left rfl i hi
    · exact (hm.right rfl).mono (a := 8) rfl i hi
  · exact planeRefuse_keeps ((hm.right rfl).mono rfl) hs
  · exact setResult_keeps ((hm.right rfl).mono rfl) hs
  · exact setResult_keeps ((hm.right rfl).mono rfl) he

theorem coreRead_keeps {m : Nat} {r : State} {b0 : ReadHook} {b1 : List (ℕ × ℕ)} {b2 : Origin} {b3 : ℕ} {s : State} (hm : Sub
    (regMask b3 ||| 4504699138999556) m) (hb0 : ∀ c0 c1 c2 c3, Keeps m r c3 → KeepsP m r (b0 c0 c1 c2 c3)) (hs : Keeps m r s) :
    Keeps m r (coreRead b0 b1 b2 b3 s) := by
  unfold coreRead
  split
  · have h1 := regRead_keeps (hook := b0) (l := b1) (o := b2) (hm.left rfl) hb0 hs
    exact setResult_keeps ((hm.right rfl).mono rfl) h1.snd
  · exact planeRefuse_keeps ((hm.right rfl).mono rfl) hs
  · exact setResult_keeps ((hm.right rfl).mono rfl) hs

theorem execEvrRelease_keeps {m : Nat} {r : State} {b0 : Origin} {b1 : Word} {s : State} (hm : Sub 4504699138999564 m) (hs :
    Keeps m r s) :
    NextKeeps m r (execEvrRelease b0 b1 s) := by
  unfold execEvrRelease
  refine NextKeeps.next ?_
  refine coreWrite_keeps (hm.mono rfl) (fun a1 a2 a3 a4 a5 a6 => ?_) hs
  exact evrWritten_keeps (hm.mono rfl) a6

theorem execEvrRunWrite_keeps {m : Nat} {r : State} {b0 : Origin} {b1 : Bool} {s : State} (hm : Sub 4504699138999564 m) (hs :
    Keeps m r s) :
    NextKeeps m r (execEvrRunWrite b0 b1 s) := by
  unfold execEvrRunWrite
  refine NextKeeps.next ?_
  refine coreWrite_keeps (hm.mono rfl) (fun a1 a2 a3 a4 a5 a6 => ?_) hs
  exact evrWritten_keeps (hm.mono rfl) a6

theorem execEvrSpill_keeps {m : Nat} {r : State} {b0 : Origin} {s : State} (hm : Sub 4504699138999564 m) (hs : Keeps m r s) :
    NextKeeps m r (execEvrSpill b0 s) := by
  unfold execEvrSpill
  refine NextKeeps.next ?_
  refine coreWrite_keeps (hm.mono rfl) (fun a1 a2 a3 a4 a5 a6 => ?_) hs
  exact evrWritten_keeps (hm.mono rfl) a6

theorem execPortPost_keeps {m : Nat} {r : State} {b0 : Origin} {b1 : ℕ} {b2 : Word} {s : State} (hm : Sub
    4722366481770133587212 m) (hs : Keeps m r s) :
    NextKeeps m r (execPortPost b0 b1 b2 s) := by
  unfold execPortPost
  refine NextKeeps.next ?_
  refine coreWrite_keeps (regMask.anyOr (hm.mono rfl)) (fun a1 a2 a3 a4 a5 a6 => ?_) hs
  exact evrWritten_keeps (hm.mono rfl) a6

theorem execRecordRead_keeps {m : Nat} {r : State} {b0 : Origin} {s : State} (hm : Sub 4504699138999556 m) (hs : Keeps m r s) :
    NextKeeps m r (execRecordRead b0 s) := by
  unfold execRecordRead
  refine NextKeeps.next ?_
  refine coreRead_keeps (hm.mono rfl) (fun a1 a2 a3 a4 a5 => ?_) hs
  exact evrRead_keeps (hm.mono rfl) a5

theorem noHook_keeps {m : Nat} {r : State} {b0 : Origin} {b1 : ℕ} {b2 : Word} {o3 : State} {s : State} (_hm : Sub 0 m) (hs :
    Keeps m r s) :
    Keeps m r (noHook b0 b1 b2 o3 s) := by
  unfold noHook
  exact hs

/-! ### Queues -/

theorem setQueue_keeps {m : Nat} {r : State} {b0 : ℕ} {b1 : Queue} {s : State} (hm : Sub 4096 m) (hs : Keeps m r s) :
    Keeps m r (setQueue b0 b1 s) := by
  unfold setQueue
  exact Keeps.set_pqu (hm.mono rfl) hs

theorem showOpen_keeps {m : Nat} {r : State} {b0 : ℕ} {s : State} (hm : Sub 4722366481770133585924 m) (hs : Keeps m r s) :
    Keeps m r (showOpen b0 s) := by
  unfold showOpen
  exact setBool_keeps (regMask.any (hm.mono rfl)) hs

theorem setPort_keeps {m : Nat} {r : State} {b0 : ℕ} {b1 : Port} {s : State} (hm : Sub 4096 m) (hs : Keeps m r s) :
    Keeps m r (setPort b0 b1 s) := by
  unfold setPort
  exact Keeps.set_pqu (hm.mono rfl) hs

theorem emptyQueue_keeps {m : Nat} {r : State} {b0 : ℕ} {s : State} (hm : Sub 4722366481770133590020 m) (hs : Keeps m r s) :
    Keeps m r (emptyQueue b0 s) := by
  unfold emptyQueue
  extract_lets +onlyGivenNames x1
  have h2 : Keeps m r x1 := setQueue_keeps (hm.mono rfl) hs
  clear_value x1
  extract_lets +onlyGivenNames x3
  have h4 : Keeps m r x3 := lowerBit_keeps (hm.mono rfl) h2
  clear_value x3
  refine Keeps.upTo h4 (fun i5 s6 h7 => ?_)
  exact Keeps.ite (showOpen_keeps (hm.mono rfl) (setPort_keeps (hm.mono rfl) h7)) h7

theorem rewindQueue_keeps {m : Nat} {r : State} {b0 : ℕ} {s : State} (hm : Sub 4096 m) (hs : Keeps m r s) :
    Keeps m r (rewindQueue b0 s) := by
  unfold rewindQueue
  exact setQueue_keeps hm hs

theorem portSelected_keeps {m : Nat} {r : State} {b0 : ℕ} {o1 : State} {s : State} (hm : Sub 4722366481770133590020 m) (hs :
    Keeps m r s) :
    Keeps m r (portSelected b0 o1 s) := by
  unfold portSelected
  extract_lets +onlyGivenNames x1 x2
  refine Keeps.ite ?_ hs
  extract_lets +onlyGivenNames x3 x4
  have h5 : Keeps m r x4 := Keeps.ite (rewindQueue_keeps (hm.mono rfl) hs) (setQueue_keeps (hm.mono rfl) hs)
  clear_value x4
  exact showOpen_keeps (hm.mono rfl) (setPort_keeps (hm.mono rfl) h5)

theorem wrongAgent_keeps {m : Nat} {r : State} {b0 : ℕ} {s : State} (hm : Sub 17592186044420 m) (hs : Keeps m r s) :
    Keeps m r (wrongAgent b0 s) := by
  unfold wrongAgent
  exact cfgErr_keeps (hm.mono rfl) (bump_keeps (dropCount_mask (hm.mono rfl)) hs)

theorem refuseEntry_keeps {m : Nat} {r : State} {b0 : ℕ} {s : State} (hm : Sub 4521191813415940 m) (hs : Keeps m r s) :
    Keeps m r (refuseEntry b0 s) := by
  unfold refuseEntry
  extract_lets +onlyGivenNames x1 x2
  have h3 : Keeps m r x2 := bump_keeps (dropCount_mask (hm.mono rfl)) hs
  clear_value x2
  extract_lets +onlyGivenNames x4
  have h5 : Keeps m r x4 := raise_keeps (hm.mono rfl) (raiseBit_keeps (hm.mono rfl) h3)
  clear_value x4
  exact Keeps.ite h5 (post_keeps (hm.mono rfl) h5)

theorem portHdr_keeps {m : Nat} {r : State} {b0 : ℕ} {b1 : Word} {s : State} (hm : Sub 4722366481770133591044 m) (hs : Keeps
    m r s) :
    Keeps m r (portHdr b0 b1 s) := by
  unfold portHdr
  refine Keeps.ite (cfgErr_keeps (hm.mono rfl) hs) ?_
  split
  · rename_i y2 e3
    exact cfgErr_keeps (hm.mono rfl) hs
  · rename_i y4 y5 e6
    refine Keeps.ite (wrongAgent_keeps (hm.mono rfl) hs) ?_
    refine Keeps.ite (cfgErr_keeps (hm.mono rfl) hs) ?_
    extract_lets +onlyGivenNames x7 x8
    refine Keeps.ite ?_ (refuseEntry_keeps (hm.mono rfl) (raise_keeps (regMask.any (hm.mono rfl)) hs))
    extract_lets +onlyGivenNames x9
    have h10 : Keeps m r x9 := lower_keeps (regMask.any (hm.mono rfl)) hs
    clear_value x9
    exact Keeps.ite (setQueue_keeps (hm.mono rfl) h10) (showOpen_keeps (hm.mono rfl) (setPort_keeps (hm.mono rfl) h10))

theorem portData_keeps {m : Nat} {r : State} {b0 : ℕ} {b1 : Word} {s : State} (hm : Sub 4722366481770133590020 m) (hs : Keeps
    m r s) :
    Keeps m r (portData b0 b1 s) := by
  unfold portData
  refine Keeps.ite (cfgErr_keeps (hm.mono rfl) hs) ?_
  split
  · rename_i y2 e3
    exact cfgErr_keeps (hm.mono rfl) hs
  · rename_i y4 y5 e6
    split
    · rename_i y8 e9
      exact cfgErr_keeps (hm.mono rfl) (bump_keeps (regMask.any (hm.mono rfl)) hs)
    · rename_i y10 y11 y12 y13 e14
      extract_lets +onlyGivenNames x15
      refine Keeps.ite ?_ (setPort_keeps (hm.mono rfl) hs)
      extract_lets +onlyGivenNames x16 x17
      have h18 : Keeps m r x17 := setQueue_keeps (hm.mono rfl) hs
      clear_value x17
      exact showOpen_keeps (hm.mono rfl) (setPort_keeps (hm.mono rfl) h18)

theorem wmCommit_keeps {m : Nat} {r : State} {b0 : ℕ} {s : State} (hm : Sub 17592186044420 m) (hs : Keeps m r s) :
    Keeps m r (wmCommit b0 s) := by
  unfold wmCommit
  extract_lets +onlyGivenNames x1
  exact Keeps.ite (raise_keeps (hm.mono rfl) (raiseBit_keeps (hm.mono rfl) hs)) hs

theorem commitQueue_keeps {m : Nat} {r : State} {b0 : ℕ} {s : State} (hm : Sub 17592186048516 m) (hs : Keeps m r s) :
    Keeps m r (commitQueue b0 s) := by
  unfold commitQueue
  extract_lets +onlyGivenNames x1
  exact Keeps.ite hs (wmCommit_keeps (hm.mono rfl) (setQueue_keeps (hm.mono rfl) hs))

theorem portCommit_keeps {m : Nat} {r : State} {b0 : ℕ} {s : State} (hm : Sub 17592186048516 m) (hs : Keeps m r s) :
    Keeps m r (portCommit b0 s) := by
  unfold portCommit
  split
  · rename_i y2 e3
    exact cfgErr_keeps (hm.mono rfl) hs
  · rename_i y4 y5 e6
    exact Keeps.ite (cfgErr_keeps (hm.mono rfl) hs) (commitQueue_keeps hm hs)

theorem portRewind_keeps {m : Nat} {r : State} {b0 : ℕ} {s : State} (hm : Sub 4722366481770133590020 m) (hs : Keeps m r s) :
    Keeps m r (portRewind b0 s) := by
  unfold portRewind
  split
  · rename_i y2 e3
    exact cfgErr_keeps (hm.mono rfl) hs
  · rename_i y4 y5 e6
    exact showOpen_keeps (hm.mono rfl) (setPort_keeps (hm.mono rfl) (rewindQueue_keeps (hm.mono rfl) hs))

theorem wmRelease_keeps {m : Nat} {r : State} {b0 : ℕ} {s : State} (hm : Sub 17592186044420 m) (hs : Keeps m r s) :
    Keeps m r (wmRelease b0 s) := by
  unfold wmRelease
  exact Keeps.ite (raise_keeps (hm.mono rfl) (lowerBit_keeps (hm.mono rfl) hs)) hs

theorem releaseHead_keeps {m : Nat} {r : State} {b0 : ℕ} {s : State} (hm : Sub 17592186048516 m) (hs : Keeps m r s) :
    Keeps m r (releaseHead b0 s) := by
  unfold releaseHead
  extract_lets +onlyGivenNames x1
  exact wmRelease_keeps (hm.mono rfl) (setQueue_keeps (hm.mono rfl) hs)

theorem portNext_keeps {m : Nat} {r : State} {b0 : ℕ} {s : State} (hm : Sub 17592186048516 m) (hs : Keeps m r s) :
    Keeps m r (portNext b0 s) := by
  unfold portNext
  split
  · rename_i y2 e3
    exact cfgErr_keeps (hm.mono rfl) hs
  · rename_i y4 y5 e6
    exact Keeps.ite (setPort_keeps (hm.mono rfl) (releaseHead_keeps hm hs)) (cfgErr_keeps (hm.mono rfl) hs)

theorem portCmd_keeps {m : Nat} {r : State} {b0 : ℕ} {b1 : Word} {s : State} (hm : Sub 4722366481770133590020 m) (hs : Keeps
    m r s) :
    Keeps m r (portCmd b0 b1 s) := by
  unfold portCmd
  refine Keeps.ite hs ?_
  refine Keeps.ite (cfgErr_keeps (hm.mono rfl) hs) ?_
  extract_lets +onlyGivenNames x1
  have h2 : Keeps m r x1 := Keeps.ite (portCommit_keeps (hm.mono rfl) hs) hs
  clear_value x1
  extract_lets +onlyGivenNames x3
  have h4 : Keeps m r x3 := Keeps.ite (portRewind_keeps hm h2) h2
  clear_value x3
  exact Keeps.ite (portNext_keeps (hm.mono rfl) h4) h4

theorem pquWritten_keeps {m : Nat} {r : State} {b0 : Origin} {b1 : ℕ} {b2 : Word} {o3 : State} {s : State} (hm : Sub
    4722366481770133591052 m) (hs : Keeps m r s) :
    Keeps m r (pquWritten b0 b1 b2 o3 s) := by
  unfold pquWritten
  refine Keeps.ite (Keeps.ite (blockStart_keeps (hm.mono rfl) hs) (blockStop_keeps (hm.mono rfl) hs)) ?_
  refine Keeps.ite ?_ ?_
  · extract_lets +onlyGivenNames x1
    refine Keeps.ite ?_ (Keeps.ite (Keeps.ite (lowerBit_keeps (hm.mono rfl) hs) hs) hs)
    extract_lets +onlyGivenNames x2 x3
    have h4 : Keeps m r x3 := Keeps.ite hs (setQueue_keeps (hm.mono rfl) hs)
    clear_value x3
    exact Keeps.ite h4 (Keeps.ite (emptyQueue_keeps (hm.mono rfl) h4) h4)
  · refine Keeps.ite ?_ hs
    extract_lets +onlyGivenNames x5
    refine Keeps.ite ?_ ?_
    · exact portSelected_keeps (hm.mono rfl) hs
    · exact Keeps.ite (portHdr_keeps (hm.mono rfl) hs) (Keeps.ite (portData_keeps (hm.mono rfl) hs) (portCmd_keeps (hm.mono
          rfl) hs))

theorem hwNext_keeps {m : Nat} {r : State} {b0 : ℕ} {b1 : ℕ} {s : State} (hm : Sub 17592186048516 m) (hs : Keeps m r s) :
    Keeps m r (hwNext b0 b1 s) := by
  unfold hwNext
  exact Keeps.ite (releaseHead_keeps hm hs) hs

theorem hwWrite_keeps {m : Nat} {r : State} {b0 : ℕ} {b1 : ℕ} {b2 : ℕ} {b3 : List Byte} {s : State} (hm : Sub
    4521191813420036 m) (hs : Keeps m r s) :
    KeepsP m r (hwWrite b0 b1 b2 b3 s) := by
  unfold hwWrite
  refine KeepsP.ite (KeepsP.mk' (wrongAgent_keeps (hm.mono rfl) hs)) ?_
  refine KeepsP.ite ?_ (KeepsP.mk' (refuseEntry_keeps (hm.mono rfl) hs))
  extract_lets +onlyGivenNames x1 x2
  have h3 : Keeps m r x2 := setQueue_keeps (hm.mono rfl) hs
  clear_value x2
  exact KeepsP.mk' (wmCommit_keeps (hm.mono rfl) h3)

theorem coreQueue_keeps {m : Nat} {r : State} {b0 : ℕ} {b1 : ℕ} {b2 : List Byte} {s : State} (hm : Sub 4521191813420036 m)
    (hs : Keeps m r s) :
    KeepsP m r (coreQueue b0 b1 b2 s) := by
  unfold coreQueue
  exact hwWrite_keeps hm hs

theorem pquRead_keeps {m : Nat} {r : State} {b0 : Origin} {b1 : ℕ} {b2 : Word} {s : State} (hm : Sub 17592186048516 m) (hs :
    Keeps m r s) :
    KeepsP m r (pquRead b0 b1 b2 s) := by
  unfold pquRead
  refine KeepsP.ite ?_ ?_
  · extract_lets +onlyGivenNames x1
    refine KeepsP.ite ?_ (KeepsP.mk' hs)
    extract_lets +onlyGivenNames x2
    exact KeepsP.mk' hs
  · refine KeepsP.ite ?_ (KeepsP.mk' hs)
    extract_lets +onlyGivenNames x3
    refine KeepsP.ite (KeepsP.mk' hs) ?_
    split
    · rename_i y5 e6
      exact KeepsP.mk' hs
    · rename_i y7 y8 e9
      refine KeepsP.ite ?_ ?_
      · extract_lets +onlyGivenNames x10 x11
        have h12 : Keeps m r x11 := setPort_keeps (hm.mono rfl) hs
        clear_value x11
        split
        · rename_i y14 e15
          exact KeepsP.mk' h12
        · rename_i y16 y17 e18
          exact KeepsP.mk' (setQueue_keeps (hm.mono rfl) h12)
      · refine KeepsP.ite ?_ (KeepsP.mk' hs)
        extract_lets +onlyGivenNames x19
        split
        · rename_i y21 e22
          exact KeepsP.mk' (cfgErr_keeps (hm.mono rfl) hs)
        · rename_i y23 y24 e25
          exact KeepsP.ite (KeepsP.mk' (setPort_keeps (hm.mono rfl) hs)) (KeepsP.mk' (cfgErr_keeps (hm.mono rfl) hs))

theorem coreTake_keeps {m : Nat} {r : State} {b0 : ℕ} {s : State} (hm : Sub 17592186048516 m) (hs : Keeps m r s) :
    KeepsP m r (coreTake b0 s) := by
  unfold coreTake
  split
  · rename_i y2 y3 e4
    exact KeepsP.mk' (releaseHead_keeps hm hs)
  · rename_i y5 e6
    exact KeepsP.mk' hs

theorem execHwQueueWrite_keeps {m : Nat} {r : State} {b0 : ℕ} {b1 : ℕ} {b2 : Byte} {b3 : List Byte} {s : State} (hm : Sub
    4521191813420036 m) (hs : Keeps m r s) :
    NextKeeps m r (execHwQueueWrite b0 b1 b2 b3 s) := by
  unfold execHwQueueWrite
  exact NextKeeps.next (hwWrite_keeps hm hs).snd

theorem execPortCommit_keeps {m : Nat} {r : State} {b0 : Origin} {b1 : ℕ} {s : State} (hm : Sub 4722366481770133591308 m) (hs
    : Keeps m r s) :
    NextKeeps m r (execPortCommit b0 b1 s) := by
  unfold execPortCommit
  refine NextKeeps.next ?_
  refine coreWrite_keeps (regMask.anyOr (hm.mono rfl)) (fun a1 a2 a3 a4 a5 a6 => ?_) hs
  exact pquWritten_keeps (hm.mono rfl) a6

theorem execPortDataRead_keeps {m : Nat} {r : State} {b0 : Origin} {b1 : ℕ} {s : State} (hm : Sub 4722366481770133591300 m)
    (hs : Keeps m r s) :
    NextKeeps m r (execPortDataRead b0 b1 s) := by
  unfold execPortDataRead
  refine NextKeeps.next ?_
  refine coreRead_keeps (regMask.anyOr (hm.mono rfl)) (fun a1 a2 a3 a4 a5 => ?_) hs
  exact pquRead_keeps (hm.mono rfl) a5

theorem execPortDataWrite_keeps {m : Nat} {r : State} {b0 : Origin} {b1 : ℕ} {b2 : Word} {s : State} (hm : Sub
    4722366481770133591308 m) (hs : Keeps m r s) :
    NextKeeps m r (execPortDataWrite b0 b1 b2 s) := by
  unfold execPortDataWrite
  refine NextKeeps.next ?_
  refine coreWrite_keeps (regMask.anyOr (hm.mono rfl)) (fun a1 a2 a3 a4 a5 a6 => ?_) hs
  exact pquWritten_keeps (hm.mono rfl) a6

theorem markBad_keeps {m : Nat} {r : State} {b0 : ℕ} {s : State} (hm : Sub 4521191813420036 m) (hs : Keeps m r s) :
    Keeps m r (markBad b0 s) := by
  unfold markBad
  split
  · rename_i y2 e3
    exact hs
  · rename_i y4 y5 y6 e7
    exact post_keeps (hm.mono rfl) (raise_keeps (hm.mono rfl) (setQueue_keeps (hm.mono rfl) hs))

theorem execPortHdrRead_keeps {m : Nat} {r : State} {b0 : Origin} {b1 : ℕ} {b2 : Bool} {s : State} (hm : Sub
    4722366481770133591300 m) (hs : Keeps m r s) :
    NextKeeps m r (execPortHdrRead b0 b1 b2 s) := by
  unfold execPortHdrRead
  extract_lets +onlyGivenNames x1
  have h2 : Keeps m r x1 := by
    unfold x1
    split
    · rename_i y4 y5 y6 e7 e8
      exact markBad_keeps (hm.mono rfl) hs
    · rename_i y9 y10 e11
      exact hs
  clear_value x1
  refine NextKeeps.next ?_
  refine coreRead_keeps (regMask.anyOr (hm.mono rfl)) (fun a12 a13 a14 a15 a16 => ?_) h2
  exact pquRead_keeps (hm.mono rfl) a16

theorem execPortHdrWrite_keeps {m : Nat} {r : State} {b0 : Origin} {b1 : ℕ} {b2 : Word} {s : State} (hm : Sub
    4722366481770133591308 m) (hs : Keeps m r s) :
    NextKeeps m r (execPortHdrWrite b0 b1 b2 s) := by
  unfold execPortHdrWrite
  refine NextKeeps.next ?_
  refine coreWrite_keeps (regMask.anyOr (hm.mono rfl)) (fun a1 a2 a3 a4 a5 a6 => ?_) hs
  exact pquWritten_keeps (hm.mono rfl) a6

theorem execPortNext_keeps {m : Nat} {r : State} {b0 : Origin} {b1 : ℕ} {s : State} (hm : Sub 4722366481770133591308 m) (hs :
    Keeps m r s) :
    NextKeeps m r (execPortNext b0 b1 s) := by
  unfold execPortNext
  refine NextKeeps.next ?_
  refine coreWrite_keeps (regMask.anyOr (hm.mono rfl)) (fun a1 a2 a3 a4 a5 a6 => ?_) hs
  exact pquWritten_keeps (hm.mono rfl) a6

theorem execPortRewind_keeps {m : Nat} {r : State} {b0 : Origin} {b1 : ℕ} {s : State} (hm : Sub 4722366481770133591308 m) (hs
    : Keeps m r s) :
    NextKeeps m r (execPortRewind b0 b1 s) := by
  unfold execPortRewind
  refine NextKeeps.next ?_
  refine coreWrite_keeps (regMask.anyOr (hm.mono rfl)) (fun a1 a2 a3 a4 a5 a6 => ?_) hs
  exact pquWritten_keeps (hm.mono rfl) a6

theorem execPortSelect_keeps {m : Nat} {r : State} {b0 : Origin} {b1 : ℕ} {b2 : Word} {s : State} (hm : Sub
    4722366481770133591308 m) (hs : Keeps m r s) :
    NextKeeps m r (execPortSelect b0 b1 b2 s) := by
  unfold execPortSelect
  refine NextKeeps.next ?_
  refine coreWrite_keeps (regMask.anyOr (hm.mono rfl)) (fun a1 a2 a3 a4 a5 a6 => ?_) hs
  exact pquWritten_keeps (hm.mono rfl) a6

theorem execPquRunWrite_keeps {m : Nat} {r : State} {b0 : Origin} {b1 : Bool} {s : State} (hm : Sub 4722366481770133591308 m)
    (hs : Keeps m r s) :
    NextKeeps m r (execPquRunWrite b0 b1 s) := by
  unfold execPquRunWrite
  refine NextKeeps.next ?_
  refine coreWrite_keeps (hm.mono rfl) (fun a1 a2 a3 a4 a5 a6 => ?_) hs
  exact pquWritten_keeps (hm.mono rfl) a6

/-! ### Faults -/

theorem setFlt_keeps {m : Nat} {r : State} {b0 : FaultState} {s : State} (hm : Sub 65536 m) (hs : Keeps m r s) :
    Keeps m r (setFlt b0 s) := by
  unfold setFlt
  exact Keeps.set_flt (hm.mono rfl) hs

theorem markHandled_keeps {m : Nat} {r : State} {b0 : ℕ} {b1 : ℕ} {s : State} (hm : Sub 65536 m) (hs : Keeps m r s) :
    Keeps m r (markHandled b0 b1 s) := by
  unfold markHandled
  exact setFlt_keeps hm hs

theorem handlerFor_keeps {m : Nat} {r : State} {b0 : ℕ} {b1 : ℕ} {s : State} (hm : Sub 4503599627437060 m) (hs : Keeps m r s) :
    Keeps m r (handlerFor b0 b1 s) := by
  unfold handlerFor
  split
  · rename_i y2 e3
    exact markHandled_keeps (hm.mono rfl) (setFlt_keeps (hm.mono rfl) hs)
  · rename_i y4 y5 e6
    exact Keeps.ite (post_keeps (hm.mono rfl) (markHandled_keeps (hm.mono rfl) (setFlt_keeps (hm.mono rfl) hs))) hs

theorem faultRaise_keeps {m : Nat} {r : State} {b0 : ℕ} {b1 : ℕ} {b2 : Bool} {s : State} (hm : Sub 4503599627437060 m) (hs :
    Keeps m r s) :
    Keeps m r (faultRaise b0 b1 b2 s) := by
  unfold faultRaise
  extract_lets +onlyGivenNames x1 x2 x3
  refine Keeps.ite hs ?_
  refine Keeps.ite (setFlt_keeps (hm.mono rfl) hs) ?_
  refine Keeps.ite (setFlt_keeps (hm.mono rfl) hs) ?_
  extract_lets +onlyGivenNames x4 x5 x6
  have h7 : Keeps m r x6 := Keeps.ite (setFlt_keeps (hm.mono rfl) hs) (setFlt_keeps (hm.mono rfl) hs)
  clear_value x6
  exact handlerFor_keeps hm (post_keeps (hm.mono rfl) h7)

theorem faultGone_keeps {m : Nat} {r : State} {b0 : ℕ} {b1 : ℕ} {s : State} (hm : Sub 65536 m) (hs : Keeps m r s) :
    Keeps m r (faultGone b0 b1 s) := by
  unfold faultGone
  extract_lets +onlyGivenNames x1
  exact setFlt_keeps hm hs

theorem faultSet_keeps {m : Nat} {r : State} {b0 : ℕ} {b1 : ℕ} {b2 : Bool} {s : State} (hm : Sub 4503599627437060 m) (hs :
    Keeps m r s) :
    Keeps m r (faultSet b0 b1 b2 s) := by
  unfold faultSet
  exact Keeps.ite (faultRaise_keeps hm hs) (faultGone_keeps (hm.mono rfl) hs)

theorem faultsEnd_keeps {m : Nat} {r : State} {b0 : FaultEntry → Bool} {s : State} (hm : Sub 4503599627437060 m) (hs : Keeps
    m r s) :
    Keeps m r (faultsEnd b0 s) := by
  unfold faultsEnd
  extract_lets +onlyGivenNames x1 x2 x3 x4 x5 x6
  have h7 : Keeps m r x6 := setFlt_keeps (hm.mono rfl) hs
  clear_value x6
  refine Keeps.upTo h7 (fun i8 s9 h10 => ?_)
  exact post_keeps (hm.mono rfl) h10

theorem clearFaults_keeps {m : Nat} {r : State} {b0 : ℕ} {s : State} (hm : Sub 4503599627437060 m) (hs : Keeps m r s) :
    Keeps m r (clearFaults b0 s) := by
  unfold clearFaults
  exact faultsEnd_keeps hm hs

theorem escalate_keeps {m : Nat} {r : State} {b0 : Bool} {s : State} (hm : Sub 4503599627437316 m) (hs : Keeps m r s) :
    Keeps m r (escalate b0 s) := by
  unfold escalate
  split
  · rename_i y2 e3
    exact hs
  · rename_i y4 y5 y6 y7 e8
    refine Keeps.ite hs ?_
    extract_lets +onlyGivenNames x9 x10
    have h11 : Keeps m r x10 := setFlt_keeps (hm.mono rfl) (postFnd_keeps (hm.mono rfl) hs)
    clear_value x10
    exact Keeps.set_sys (hm.mono rfl) h11

theorem execEscalation_keeps {m : Nat} {r : State} {b0 : Bool} {s : State} (hm : Sub 4503599627437316 m) (hs : Keeps m r s) :
    NextKeeps m r (execEscalation b0 s) := by
  unfold execEscalation
  exact NextKeeps.next (escalate_keeps hm hs)

theorem faultEnd_keeps {m : Nat} {r : State} {b0 : ℕ} {b1 : ℕ} {s : State} (hm : Sub 4503599627437060 m) (hs : Keeps m r s) :
    Keeps m r (faultEnd b0 b1 s) := by
  unfold faultEnd
  exact faultsEnd_keeps hm hs

theorem execFaultEnd_keeps {m : Nat} {r : State} {b0 : ℕ} {b1 : ℕ} {s : State} (hm : Sub 4503599627437060 m) (hs : Keeps m r
    s) :
    NextKeeps m r (execFaultEnd b0 b1 s) := by
  unfold execFaultEnd
  exact NextKeeps.next (faultEnd_keeps hm hs)

theorem handlerEnd_keeps {m : Nat} {r : State} {s : State} (hm : Sub 65536 m) (hs : Keeps m r s) :
    Keeps m r (handlerEnd s) := by
  unfold handlerEnd
  split
  · rename_i y2 y3 e4
    exact hs
  · rename_i y5 y6 y7 y8 y9 y10 e11 e12
    exact setFlt_keeps hm hs
  · rename_i y13 y14 y15 e16 e17
    split
    · rename_i y19 y20 e21
      exact markHandled_keeps hm (setFlt_keeps hm hs)
    · rename_i y22 e23
      exact setFlt_keeps hm hs

theorem execFaultHandlerEnd_keeps {m : Nat} {r : State} {s : State} (hm : Sub 65536 m) (hs : Keeps m r s) :
    NextKeeps m r (execFaultHandlerEnd s) := by
  unfold execFaultHandlerEnd
  exact NextKeeps.next (handlerEnd_keeps hm hs)

/-! ### Time -/

theorem cmpPlenCheck_keeps {m : Nat} {r : State} {s : State} (hm : Sub 4722366481770133586948 m) (hs : Keeps m r s) :
    Keeps m r (cmpPlenCheck s) := by
  unfold cmpPlenCheck
  refine Keeps.upTo hs (fun i1 s2 h3 => ?_)
  exact Keeps.ite (post_keeps (hm.mono rfl) (cfgErr_keeps (hm.mono rfl) (lower_keeps (regMask.any (hm.mono rfl)) h3))) h3

theorem plenNow_keeps {m : Nat} {r : State} {s : State} (hm : Sub 4722366481770133588996 m) (hs : Keeps m r s) :
    Keeps m r (plenNow s) := by
  unfold plenNow
  extract_lets +onlyGivenNames x1
  have h2 : Keeps m r x1 := setFld_keeps (hm.mono rfl) hs
  clear_value x1
  extract_lets +onlyGivenNames x3 x4
  have h5 : Keeps m r x4 := Keeps.set_ntb (hm.mono rfl) h2
  clear_value x4
  exact raise_keeps (hm.mono rfl) (cmpPlenCheck_keeps (hm.mono rfl) h5)

theorem requestAdjust_keeps {m : Nat} {r : State} {b0 : Word} {s : State} (hm : Sub 4398046513156 m) (hs : Keeps m r s) :
    Keeps m r (requestAdjust b0 s) := by
  unfold requestAdjust
  extract_lets +onlyGivenNames x1 x2
  refine Keeps.ite hs ?_
  refine Keeps.ite (cfgErr_keeps (hm.mono rfl) hs) ?_
  extract_lets +onlyGivenNames x3
  exact raise_keeps (hm.mono rfl) (Keeps.set_ntb (hm.mono rfl) hs)

theorem setCmpNext_keeps {m : Nat} {r : State} {b0 : ℕ} {b1 : ℕ} {s : State} (hm : Sub 4722366481770133585924 m) (hs : Keeps
    m r s) :
    Keeps m r (setCmpNext b0 b1 s) := by
  unfold setCmpNext
  extract_lets +onlyGivenNames x1
  exact setFld_keeps (regMask.any (hm.mono rfl)) (setFld_keeps (regMask.any (hm.mono rfl)) (setFld_keeps (regMask.any
      (hm.mono rfl)) hs))

theorem cmpArm_keeps {m : Nat} {r : State} {b0 : ℕ} {s : State} (hm : Sub 4722366481770133586948 m) (hs : Keeps m r s) :
    Keeps m r (cmpArm b0 s) := by
  unfold cmpArm
  refine Keeps.ite (cfgErr_keeps (hm.mono rfl) (lower_keeps (regMask.any (hm.mono rfl)) hs)) ?_
  refine Keeps.ite ?_ ?_
  · exact Keeps.ite (post_keeps (hm.mono rfl) (raise_keeps (regMask.any (hm.mono rfl)) (lower_keeps (regMask.any (hm.mono
        rfl)) hs))) (setCmpNext_keeps (hm.mono rfl) hs)
  · exact hs

theorem cmpDisarm_keeps {m : Nat} {r : State} {b0 : ℕ} {s : State} (hm : Sub 2048 m) (hs : Keeps m r s) :
    Keeps m r (cmpDisarm b0 s) := by
  unfold cmpDisarm
  exact Keeps.set_ntb (hm.mono rfl) hs

theorem ntbWritten_keeps {m : Nat} {r : State} {b0 : Origin} {b1 : ℕ} {b2 : Word} {o3 : State} {s : State} (hm : Sub
    4722366481770133588996 m) (hs : Keeps m r s) :
    Keeps m r (ntbWritten b0 b1 b2 o3 s) := by
  unfold ntbWritten
  refine Keeps.ite ?_ ?_
  · extract_lets +onlyGivenNames x1
    have h2 : Keeps m r x1 := Keeps.ite (blockStart_keeps (hm.mono rfl) hs) hs
    clear_value x1
    extract_lets +onlyGivenNames x3 x4
    have h5 : Keeps m r x4 := Keeps.ite (Keeps.set_ntb (hm.mono rfl) h2) h2
    clear_value x4
    exact Keeps.ite (setFld_keeps (hm.mono rfl) h5) h5
  · refine Keeps.ite (Keeps.ite (Keeps.ite hs (Keeps.set_ntb (hm.mono rfl) hs)) (Keeps.ite (plenNow_keeps hm hs) hs)) ?_
    refine Keeps.ite (requestAdjust_keeps (hm.mono rfl) hs) ?_
    refine Keeps.ite ?_ ?_
    · extract_lets +onlyGivenNames x6
      refine Keeps.ite ?_ ?_
      · exact Keeps.ite (Keeps.ite hs (cmpArm_keeps (hm.mono rfl) hs)) (cmpDisarm_keeps (hm.mono rfl) hs)
      · exact Keeps.ite (Keeps.ite hs (setFld_keeps (regMask.any (hm.mono rfl)) hs)) hs
    · refine Keeps.ite ?_ hs
      extract_lets +onlyGivenNames x7
      exact Keeps.ite (cfgErr_keeps (hm.mono rfl) (lower_keeps (regMask.any (hm.mono rfl)) hs)) hs

theorem cmpOff_keeps {m : Nat} {r : State} {b0 : ℕ} {s : State} (hm : Sub 4722366481770133589004 m) (hs : Keeps m r s) :
    Keeps m r (cmpOff b0 s) := by
  unfold cmpOff
  refine fwWrite_keeps (regMask.anyOr (hm.mono rfl)) (fun a1 a2 a3 a4 a5 a6 => ?_) hs
  exact ntbWritten_keeps (hm.mono rfl) a6

theorem cmpTime_keeps {m : Nat} {r : State} {b0 : ℕ} {b1 : ℕ} {b2 : ℕ} {b3 : ℕ} {s : State} (hm : Sub 4722366481770133589004
    m) (hs : Keeps m r s) :
    Keeps m r (cmpTime b0 b1 b2 b3 s) := by
  unfold cmpTime
  extract_lets +onlyGivenNames x1
  have h2 : Keeps m r x1 := setCmpNext_keeps (hm.mono rfl) (cmpOff_keeps hm hs)
  clear_value x1
  extract_lets +onlyGivenNames x3
  have h4 : Keeps m r x3 := by
    unfold x3
    refine fwWrite_keeps (regMask.anyOr (hm.mono rfl)) (fun a5 a6 a7 a8 a9 a10 => ?_) h2
    exact ntbWritten_keeps (hm.mono rfl) a10
  clear_value x3
  refine fwWrite_keeps (regMask.anyOr (hm.mono rfl)) (fun a11 a12 a13 a14 a15 a16 => ?_) ?_
  · exact ntbWritten_keeps (hm.mono rfl) a16
  · refine fwWrite_keeps (regMask.anyOr (hm.mono rfl)) (fun a17 a18 a19 a20 a21 a22 => ?_) h4
    exact ntbWritten_keeps (hm.mono rfl) a22

theorem cmpPath_keeps {m : Nat} {r : State} {b0 : ℕ} {b1 : ℕ} {b2 : ℕ} {b3 : ℕ} {s : State} (hm : Sub 4722366481770133589004
    m) (hs : Keeps m r s) :
    Keeps m r (cmpPath b0 b1 b2 b3 s) := by
  unfold cmpPath
  extract_lets +onlyGivenNames x1
  have h2 : Keeps m r x1 := by
    unfold x1
    refine fwWrite_keeps (regMask.anyOr (hm.mono rfl)) (fun a3 a4 a5 a6 a7 a8 => ?_) (cmpOff_keeps hm hs)
    exact ntbWritten_keeps (hm.mono rfl) a8
  clear_value x1
  refine fwWrite_keeps (regMask.anyOr (hm.mono rfl)) (fun a9 a10 a11 a12 a13 a14 => ?_) ?_
  · exact ntbWritten_keeps (hm.mono rfl) a14
  · refine fwWrite_keeps (regMask.anyOr (hm.mono rfl)) (fun a15 a16 a17 a18 a19 a20 => ?_) h2
    exact ntbWritten_keeps (hm.mono rfl) a20

theorem ntbRead_keeps {m : Nat} {r : State} {b0 : Origin} {b1 : ℕ} {b2 : Word} {s : State} (hm : Sub 2048 m) (hs : Keeps m r
    s) :
    KeepsP m r (ntbRead b0 b1 b2 s) := by
  unfold ntbRead
  refine KeepsP.ite ?_ ?_
  · extract_lets +onlyGivenNames x1
    refine KeepsP.mk' ?_
    split
    · rename_i y3 e4
      exact Keeps.set_ntb (hm.mono rfl) hs
    · rename_i y5 e6
      exact Keeps.set_ntb (hm.mono rfl) hs
  · extract_lets +onlyGivenNames x7
    refine KeepsP.ite ?_ ?_
    · exact KeepsP.mk' hs
    · exact KeepsP.ite (KeepsP.mk' hs) (KeepsP.ite (KeepsP.mk' hs) (KeepsP.ite (KeepsP.mk' hs) (KeepsP.ite (KeepsP.mk' hs)
          (KeepsP.ite (KeepsP.mk' hs) (KeepsP.mk' hs)))))

theorem askStep_keeps {m : Nat} {r : State} {b0 : ℤ} {s : State} (hm : Sub 4722366481770133589004 m) (hs : Keeps m r s) :
    Keeps m r (askStep b0 s) := by
  unfold askStep
  extract_lets +onlyGivenNames x1
  have h2 : Keeps m r x1 := by
    unfold x1
    refine fwWrite_keeps (hm.mono rfl) (fun a3 a4 a5 a6 a7 a8 => ?_) hs
    exact ntbWritten_keeps (hm.mono rfl) a8
  clear_value x1
  extract_lets +onlyGivenNames x9
  have h10 : Keeps m r x9 := by
    unfold x9
    refine fwWrite_keeps (hm.mono rfl) (fun a11 a12 a13 a14 a15 a16 => ?_) h2
    exact ntbWritten_keeps (hm.mono rfl) a16
  clear_value x9
  extract_lets +onlyGivenNames x17
  have h18 : Keeps m r x17 := by
    unfold x17
    refine fwWrite_keeps (hm.mono rfl) (fun a19 a20 a21 a22 a23 a24 => ?_) h10
    exact ntbWritten_keeps (hm.mono rfl) a24
  clear_value x17
  refine fwWrite_keeps (hm.mono rfl) (fun a25 a26 a27 a28 a29 a30 => ?_) h18
  exact ntbWritten_keeps (hm.mono rfl) a30

theorem slew_keeps {m : Nat} {r : State} {s : State} (hm : Sub 4722366481770133589005 m) (hs : Keeps m r s) :
    Keeps m r (slew s) := by
  unfold slew
  split
  · rename_i y2 y3 s4 e5
    have h6 : Keeps m r s4 := (KeepsP.of_eq e5 (takeFree_keeps (hm.mono rfl) hs)).snd
    refine fwWrite_keeps (hm.mono rfl) (fun a7 a8 a9 a10 a11 a12 => ?_) h6
    exact ntbWritten_keeps (hm.mono rfl) a12

theorem timeSample_keeps {m : Nat} {r : State} {b0 : ℤ} {s : State} (hm : Sub 4722366481770133654541 m) (hs : Keeps m r s) :
    Keeps m r (timeSample b0 s) := by
  unfold timeSample
  refine Keeps.ite ?_ ?_
  · extract_lets +onlyGivenNames x1
    have h2 : Keeps m r x1 := askStep_keeps (hm.mono rfl) hs
    clear_value x1
    extract_lets +onlyGivenNames x3 x4 x5 x6
    have h7 : Keeps m r x6 := Keeps.set_ntb (hm.mono rfl) h2
    clear_value x6
    exact Keeps.ite (faultRaise_keeps (hm.mono rfl) (post_keeps (hm.mono rfl) h7)) h7
  · extract_lets +onlyGivenNames x8
    have h9 : Keeps m r x8 := Keeps.ite (slew_keeps (hm.mono rfl) hs) (askStep_keeps (hm.mono rfl) hs)
    clear_value x8
    extract_lets +onlyGivenNames x10 x11
    have h12 : Keeps m r x11 := Keeps.set_ntb (hm.mono rfl) h9
    clear_value x11
    refine fwWrite_keeps (hm.mono rfl) (fun a13 a14 a15 a16 a17 a18 => ?_) (faultGone_keeps (hm.mono rfl) (faultGone_keeps
        (hm.mono rfl) h12))
    exact ntbWritten_keeps (hm.mono rfl) a18

theorem captureAt_keeps {m : Nat} {r : State} {b0 : ℕ} {b1 : ℕ} {b2 : Bool} {s : State} (hm : Sub 4722366481770133585924 m)
    (hs : Keeps m r s) :
    Keeps m r (captureAt b0 b1 b2 s) := by
  unfold captureAt
  refine Keeps.upTo hs (fun i1 s2 h3 => ?_)
  extract_lets +onlyGivenNames x4
  refine Keeps.ite ?_ h3
  refine Keeps.ite (raise_keeps (regMask.any (hm.mono rfl)) h3) ?_
  extract_lets +onlyGivenNames x5
  have h6 : Keeps m r x5 := setFld_keeps (regMask.any (hm.mono rfl)) h3
  clear_value x5
  extract_lets +onlyGivenNames x7
  have h8 : Keeps m r x7 := setFld_keeps (regMask.any (hm.mono rfl)) h6
  clear_value x7
  extract_lets +onlyGivenNames x9
  have h10 : Keeps m r x9 := setFld_keeps (regMask.any (hm.mono rfl)) h8
  clear_value x9
  exact raise_keeps (hm.mono rfl) (raise_keeps (regMask.any (hm.mono rfl)) h10)

theorem captureEvent_keeps {m : Nat} {r : State} {b0 : ℕ} {b1 : Bool} {s : State} (hm : Sub 4722366481770133585924 m) (hs :
    Keeps m r s) :
    Keeps m r (captureEvent b0 b1 s) := by
  unfold captureEvent
  exact captureAt_keeps hm hs

theorem execComparatorEnable_keeps {m : Nat} {r : State} {b0 : Origin} {b1 : ℕ} {b2 : Word} {s : State} (hm : Sub
    4722366481770133589260 m) (hs : Keeps m r s) :
    NextKeeps m r (execComparatorEnable b0 b1 b2 s) := by
  unfold execComparatorEnable
  refine NextKeeps.next ?_
  refine coreWrite_keeps (regMask.anyOr (hm.mono rfl)) (fun a1 a2 a3 a4 a5 a6 => ?_) hs
  exact ntbWritten_keeps (hm.mono rfl) a6

theorem execNtbRun_keeps {m : Nat} {r : State} {b0 : Origin} {b1 : Bool} {s : State} (hm : Sub 4722366481770133589260 m) (hs
    : Keeps m r s) :
    NextKeeps m r (execNtbRun b0 b1 s) := by
  unfold execNtbRun
  refine NextKeeps.next ?_
  refine coreWrite_keeps (hm.mono rfl) (fun a1 a2 a3 a4 a5 a6 => ?_) hs
  exact ntbWritten_keeps (hm.mono rfl) a6

theorem execSourceFed_keeps {m : Nat} {r : State} {b0 : Origin} {s : State} (hm : Sub 4722366481770133589260 m) (hs : Keeps m
    r s) :
    NextKeeps m r (execSourceFed b0 s) := by
  unfold execSourceFed
  refine NextKeeps.next ?_
  refine coreWrite_keeps (hm.mono rfl) (fun a1 a2 a3 a4 a5 a6 => ?_) hs
  exact ntbWritten_keeps (hm.mono rfl) a6

theorem sourceHoldExpiry_keeps {m : Nat} {r : State} {s : State} (hm : Sub 4507997673950212 m) (hs : Keeps m r s) :
    Keeps m r (sourceHoldExpiry s) := by
  unfold sourceHoldExpiry
  split
  · rename_i y2 e3
    exact hs
  · rename_i y4 y5 e6
    refine Keeps.ite hs ?_
    extract_lets +onlyGivenNames x7 x8
    have h9 : Keeps m r x8 := Keeps.set_ntb (hm.mono rfl) hs
    clear_value x8
    exact Keeps.ite (faultRaise_keeps (hm.mono rfl) (post_keeps (hm.mono rfl) (raise_keeps (hm.mono rfl) h9))) h9

theorem execSourceHoldExpiry_keeps {m : Nat} {r : State} {s : State} (hm : Sub 4507997673950212 m) (hs : Keeps m r s) :
    NextKeeps m r (execSourceHoldExpiry s) := by
  unfold execSourceHoldExpiry
  exact NextKeeps.next (sourceHoldExpiry_keeps hm hs)

theorem execTimeInvalidate_keeps {m : Nat} {r : State} {b0 : Origin} {s : State} (hm : Sub 4722366481770133589260 m) (hs :
    Keeps m r s) :
    NextKeeps m r (execTimeInvalidate b0 s) := by
  unfold execTimeInvalidate
  refine NextKeeps.next ?_
  refine coreWrite_keeps (hm.mono rfl) (fun a1 a2 a3 a4 a5 a6 => ?_) hs
  exact ntbWritten_keeps (hm.mono rfl) a6

theorem execTimeRead_keeps {m : Nat} {r : State} {b0 : Origin} {s : State} (hm : Sub 4509097185512708 m) (hs : Keeps m r s) :
    NextKeeps m r (execTimeRead b0 s) := by
  unfold execTimeRead
  refine NextKeeps.next ?_
  refine coreRead_keeps (hm.mono rfl) (fun a1 a2 a3 a4 a5 => ?_) hs
  exact ntbRead_keeps (hm.mono rfl) a5

theorem execTimeSet_keeps {m : Nat} {r : State} {b0 : Origin} {s : State} (hm : Sub 4722366481770133589260 m) (hs : Keeps m r
    s) :
    NextKeeps m r (execTimeSet b0 s) := by
  unfold execTimeSet
  refine NextKeeps.next ?_
  refine coreWrite_keeps (hm.mono rfl) (fun a1 a2 a3 a4 a5 a6 => ?_) hs
  exact ntbWritten_keeps (hm.mono rfl) a6

theorem execTimeStep_keeps {m : Nat} {r : State} {b0 : Origin} {s : State} (hm : Sub 4722366481770133589260 m) (hs : Keeps m
    r s) :
    NextKeeps m r (execTimeStep b0 s) := by
  unfold execTimeStep
  refine NextKeeps.next ?_
  refine coreWrite_keeps (hm.mono rfl) (fun a1 a2 a3 a4 a5 a6 => ?_) hs
  exact ntbWritten_keeps (hm.mono rfl) a6

theorem ntbTick_keeps {m : Nat} {r : State} {s : State} (hm : Sub 2048 m) (hs : Keeps m r s) :
    Keeps m r (ntbTick s) := by
  unfold ntbTick
  refine Keeps.ite ?_ hs
  extract_lets +onlyGivenNames x1 x2 x3
  exact Keeps.set_ntb (hm.mono rfl) hs

/-! ### Ports -/

theorem setBhn_keeps {m : Nat} {r : State} {b0 : BhnState} {s : State} (hm : Sub 1073741824 m) (hs : Keeps m r s) :
    Keeps m r (setBhn b0 s) := by
  unfold setBhn
  exact Keeps.set_bhn (hm.mono rfl) hs

theorem bhnRead_keeps {m : Nat} {r : State} {b0 : Origin} {b1 : ℕ} {b2 : Word} {s : State} (_hm : Sub 0 m) (hs : Keeps m r s) :
    KeepsP m r (bhnRead b0 b1 b2 s) := by
  unfold bhnRead
  extract_lets +onlyGivenNames x1
  exact KeepsP.ite (KeepsP.mk' hs) (KeepsP.ite (KeepsP.mk' hs) (KeepsP.ite (KeepsP.mk' hs) (KeepsP.ite (KeepsP.mk' hs)
      (KeepsP.mk' hs))))

theorem rxError_keeps {m : Nat} {r : State} {s : State} (hm : Sub 36028797018963972 m) (hs : Keeps m r s) :
    Keeps m r (rxError s) := by
  unfold rxError
  exact raise_keeps (hm.mono rfl) (bump_keeps (hm.mono rfl) hs)

theorem pauseSend_keeps {m : Nat} {r : State} {b0 : ℕ} {b1 : ℕ} {s : State} (hm : Sub 36028797018963974 m) (hs : Keeps m r s) :
    Keeps m r (pauseSend b0 b1 s) := by
  unfold pauseSend
  extract_lets +onlyGivenNames x1
  exact raise_keeps (hm.mono rfl) (emit_keeps (hm.mono rfl) hs)

theorem pauseSettle_keeps {m : Nat} {r : State} {b0 : ℕ} {s : State} (hm : Sub 36028798092705798 m) (hs : Keeps m r s) :
    Keeps m r (pauseSettle b0 s) := by
  unfold pauseSettle
  extract_lets +onlyGivenNames x1 x2
  refine Keeps.ite ?_ ?_
  · extract_lets +onlyGivenNames x3
    clear_value x2
    split
    · rename_i y5 y6
      exact Keeps.ite (pauseSend_keeps (hm.mono rfl) (setBhn_keeps (hm.mono rfl) hs)) hs
    · rename_i y7
      exact pauseSend_keeps (hm.mono rfl) (setBhn_keeps (hm.mono rfl) hs)
  · refine Keeps.ite ?_ hs
    extract_lets +onlyGivenNames x8 x9
    have h10 : Keeps m r x9 := setBhn_keeps (hm.mono rfl) hs
    clear_value x9
    exact Keeps.ite (pauseSend_keeps (hm.mono rfl) h10) h10

theorem rxQueued_keeps {m : Nat} {r : State} {b0 : ℕ} {b1 : List Byte} {s : State} (hm : Sub 40549989906125830 m) (hs : Keeps
    m r s) :
    Keeps m r (rxQueued b0 b1 s) := by
  unfold rxQueued
  split
  · rename_i y2 y3 s4 e5
    have h6 : Keeps m r s4 := (KeepsP.of_eq e5 (hwWrite_keeps (hm.mono rfl) hs)).snd
    exact Keeps.ite (pauseSettle_keeps (hm.mono rfl) (bumpWrap_keeps (hm.mono rfl) h6)) (raise_keeps (hm.mono rfl)
        (bump_keeps (hm.mono rfl) h6))

theorem ethReceive_keeps {m : Nat} {r : State} {b0 : ℕ} {b1 : List Byte} {b2 : Bool} {s : State} (hm : Sub 40549989906125830
    m) (hs : Keeps m r s) :
    Keeps m r (ethReceive b0 b1 b2 s) := by
  unfold ethReceive
  extract_lets +onlyGivenNames x1
  refine Keeps.ite hs ?_
  refine Keeps.ite (rxError_keeps (hm.mono rfl) hs) ?_
  refine Keeps.ite hs ?_
  refine Keeps.ite (Keeps.ite (raise_keeps (hm.mono rfl) (setBhn_keeps (hm.mono rfl) hs)) hs) ?_
  extract_lets +onlyGivenNames x2
  have h3 : Keeps m r x2 := Keeps.ite (raise_keeps (hm.mono rfl) hs) hs
  clear_value x2
  exact rxQueued_keeps hm h3

theorem txDone_keeps {m : Nat} {r : State} {b0 : ℕ} {b1 : QEntry} {s : State} (hm : Sub 36046390278754308 m) (hs : Keeps m r
    s) :
    Keeps m r (txDone b0 b1 s) := by
  unfold txDone
  extract_lets +onlyGivenNames x1
  have h2 : Keeps m r x1 := bumpWrap_keeps (hm.mono rfl) (hwNext_keeps (hm.mono rfl) hs)
  clear_value x1
  refine Keeps.ite ?_ h2
  extract_lets +onlyGivenNames x3
  have h4 : Keeps m r x3 := Keeps.ite (raise_keeps (hm.mono rfl) h2) h2
  clear_value x3
  split
  · rename_i y6 y7 e8
    exact Keeps.ite (setBhn_keeps (hm.mono rfl) h4) h4
  · rename_i y9 e10
    exact h4

theorem ethSend_keeps {m : Nat} {r : State} {b0 : ℕ} {s : State} (hm : Sub 36046390278754310 m) (hs : Keeps m r s) :
    Keeps m r (ethSend b0 s) := by
  unfold ethSend
  refine Keeps.ite hs ?_
  split
  · rename_i y2 e3
    exact hs
  · rename_i y4 y5 e6
    exact txDone_keeps (hm.mono rfl) (emit_keeps (hm.mono rfl) hs)

theorem execEthFrameReceive_keeps {m : Nat} {r : State} {b0 : ℕ} {b1 : List (BitVec 8)} {b2 : Bool} {s : State} (hm : Sub
    40549989906125830 m) (hs : Keeps m r s) :
    NextKeeps m r (execEthFrameReceive b0 b1 b2 s) := by
  unfold execEthFrameReceive
  exact NextKeeps.next (ethReceive_keeps hm hs)

theorem execEthFrameSend_keeps {m : Nat} {r : State} {b0 : ℕ} {s : State} (hm : Sub 36046390278754310 m) (hs : Keeps m r s) :
    NextKeeps m r (execEthFrameSend b0 s) := by
  unfold execEthFrameSend
  exact NextKeeps.next (ethSend_keeps hm hs)

theorem pausesSettle_keeps {m : Nat} {r : State} {s : State} (hm : Sub 36028798092705798 m) (hs : Keeps m r s) :
    Keeps m r (pausesSettle s) := by
  unfold pausesSettle
  exact pauseSettle_keeps hm (pauseSettle_keeps hm hs)

theorem execPauseRepeat_keeps {m : Nat} {r : State} {s : State} (hm : Sub 36028798092705798 m) (hs : Keeps m r s) :
    NextKeeps m r (execPauseRepeat s) := by
  unfold execPauseRepeat
  exact NextKeeps.next (pausesSettle_keeps hm hs)

theorem pppReceive_keeps {m : Nat} {r : State} {b0 : List Byte} {b1 : Bool} {s : State} (hm : Sub 40549989906125830 m) (hs :
    Keeps m r s) :
    Keeps m r (pppReceive b0 b1 s) := by
  unfold pppReceive
  refine Keeps.ite hs ?_
  extract_lets +onlyGivenNames x1 x2
  exact Keeps.ite (rxError_keeps (hm.mono rfl) hs) (rxQueued_keeps hm hs)

theorem execPppFrameReceive_keeps {m : Nat} {r : State} {b0 : List (BitVec 8)} {b1 : Bool} {s : State} (hm : Sub
    40549989906125830 m) (hs : Keeps m r s) :
    NextKeeps m r (execPppFrameReceive b0 b1 s) := by
  unfold execPppFrameReceive
  exact NextKeeps.next (pppReceive_keeps hm hs)

theorem pppSend_keeps {m : Nat} {r : State} {s : State} (hm : Sub 36046390278754310 m) (hs : Keeps m r s) :
    Keeps m r (pppSend s) := by
  unfold pppSend
  refine Keeps.ite hs ?_
  split
  · rename_i y2 e3
    exact hs
  · rename_i y4 y5 e6
    extract_lets +onlyGivenNames x7
    exact txDone_keeps (hm.mono rfl) (emit_keeps (hm.mono rfl) hs)

theorem execPppFrameSend_keeps {m : Nat} {r : State} {s : State} (hm : Sub 36046390278754310 m) (hs : Keeps m r s) :
    NextKeeps m r (execPppFrameSend s) := by
  unfold execPppFrameSend
  exact NextKeeps.next (pppSend_keeps hm hs)

/-! ### Sessions -/

theorem sessionEvent_keeps {m : Nat} {r : State} {b0 : ℕ} {b1 : ℕ} {b2 : ℕ} {s : State} (hm : Sub 4503599627371524 m) (hs :
    Keeps m r s) :
    Keeps m r (sessionEvent b0 b1 b2 s) := by
  unfold sessionEvent
  exact post_keeps hm hs

theorem setDict_keeps {m : Nat} {r : State} {b0 : DictState} {s : State} (hm : Sub 2147483648 m) (hs : Keeps m r s) :
    Keeps m r (setDict b0 s) := by
  unfold setDict
  exact Keeps.set_dict (hm.mono rfl) hs

theorem closeSession_keeps {m : Nat} {r : State} {b0 : ℕ} {b1 : ℕ} {s : State} (hm : Sub 4503601774855172 m) (hs : Keeps m r
    s) :
    Keeps m r (closeSession b0 b1 s) := by
  unfold closeSession
  split
  · rename_i y2 e3
    exact hs
  · rename_i y4 y5 e6
    exact sessionEvent_keeps (hm.mono rfl) (setDict_keeps (hm.mono rfl) hs)

theorem closeSessions_keeps {m : Nat} {r : State} {b0 : ℕ} {b1 : ℕ} {s : State} (hm : Sub 4503601774855172 m) (hs : Keeps m r
    s) :
    Keeps m r (closeSessions b0 b1 s) := by
  unfold closeSessions
  refine Keeps.foldl hs (fun s2 a1 h3 => ?_)
  exact closeSession_keeps hm h3

theorem putSession_keeps {m : Nat} {r : State} {b0 : Session} {s : State} (hm : Sub 2147483648 m) (hs : Keeps m r s) :
    Keeps m r (putSession b0 s) := by
  unfold putSession
  exact setDict_keeps hm hs

theorem openSession_keeps {m : Nat} {r : State} {b0 : ℕ} {b1 : ℕ} {b2 : List Byte} {b3 : Bool} {b4 : Option (ℕ × ℕ)} {s :
    State} (hm : Sub 4503601774855172 m) (hs : Keeps m r s) :
    KeepsP m r (openSession b0 b1 b2 b3 b4 s) := by
  unfold openSession
  refine KeepsP.ite (KeepsP.mk' (sessionEvent_keeps (hm.mono rfl) hs)) ?_
  extract_lets +onlyGivenNames x1 x2
  exact KeepsP.mk' (sessionEvent_keeps (hm.mono rfl) (setDict_keeps (hm.mono rfl) hs))

theorem sessionExpire_keeps {m : Nat} {r : State} {b0 : ℕ} {s : State} (hm : Sub 4503601774855172 m) (hs : Keeps m r s) :
    Keeps m r (sessionExpire b0 s) := by
  unfold sessionExpire
  split
  · rename_i y2 y3 e4
    exact Keeps.ite (closeSession_keeps hm hs) hs
  · rename_i y5 e6
    exact hs

theorem execSessionIdleTimeout_keeps {m : Nat} {r : State} {b0 : ℕ} {s : State} (hm : Sub 4503601774855172 m) (hs : Keeps m r
    s) :
    NextKeeps m r (execSessionIdleTimeout b0 s) := by
  unfold execSessionIdleTimeout
  exact NextKeeps.next (sessionExpire_keeps hm hs)

/-! ### Vault -/

theorem regenerate_keeps {m : Nat} {r : State} {b0 : Bool} {s : State} (hm : Sub 4785074604098564 m) (hs : Keeps m r s) :
    Keeps m r (regenerate b0 s) := by
  unfold regenerate
  extract_lets +onlyGivenNames x1
  have h2 : ∀ a3 a4 s5, Keeps m r s5 → Keeps m r (x1 a3 a4 s5) := by
    intro a3 a4 s5 h6
    unfold x1
    exact setFld_keeps (hm.mono rfl) (setFld_keeps (hm.mono rfl) h6)
  clear_value x1
  split
  · rename_i y8 e9
    exact postFnd_keeps (hm.mono rfl) (@h2 _ _ _ (Keeps.set_vault (hm.mono rfl) hs))
  · rename_i y10 y11 e12
    refine Keeps.ite (@h2 _ _ _ (Keeps.set_vault (hm.mono rfl) hs)) ?_
    extract_lets +onlyGivenNames x13
    exact postFnd_keeps (hm.mono rfl) (@h2 _ _ _ (Keeps.set_vault (hm.mono rfl) hs))

theorem jobEnd_keeps {m : Nat} {r : State} {b0 : ℕ} {b1 : ℕ} {s : State} (hm : Sub 281474976727060 m) (hs : Keeps m r s) :
    Keeps m r (jobEnd b0 b1 s) := by
  unfold jobEnd
  split
  · rename_i y2 e3
    exact hs
  · rename_i y4 y5 e6
    extract_lets +onlyGivenNames x7 x8
    have h9 : Keeps m r x8 := Keeps.set_vault (hm.mono rfl) hs
    clear_value x8
    extract_lets +onlyGivenNames x10
    have h11 : Keeps m r x10 := Keeps.ite (setByte_keeps (hm.mono rfl) h9) h9
    clear_value x10
    extract_lets +onlyGivenNames x12
    have h13 : Keeps m r x12 := setFld_keeps (hm.mono rfl) (setFld_keeps (hm.mono rfl) h11)
    clear_value x12
    extract_lets +onlyGivenNames x14
    have h15 : Keeps m r x14 := raise_keeps (hm.mono rfl) (lower_keeps (hm.mono rfl) h13)
    clear_value x14
    exact Keeps.ite h15 (raise_keeps (hm.mono rfl) h15)

theorem clearKeys_keeps {m : Nat} {r : State} {s : State} (hm : Sub 4722366481774428569620 m) (hs : Keeps m r s) :
    Keeps m r (clearKeys s) := by
  unfold clearKeys
  extract_lets +onlyGivenNames x1
  have h2 : Keeps m r x1 := jobEnd_keeps (hm.mono rfl) hs
  clear_value x1
  extract_lets +onlyGivenNames x3 x4
  have h5 : Keeps m r x4 := Keeps.set_upd (hm.mono rfl) h2
  clear_value x4
  extract_lets +onlyGivenNames x6 x7
  have h8 : Keeps m r x7 := Keeps.set_vault (hm.mono rfl) h5
  clear_value x7
  extract_lets +onlyGivenNames x9
  have h10 : Keeps m r x9 := by
    unfold x9
    refine Keeps.upTo h8 (fun i11 s12 h13 => ?_)
    exact lower_keeps (regMask.any (hm.mono rfl)) h13
  clear_value x9
  exact lower_keeps (hm.mono rfl) (lower_keeps (hm.mono rfl) h10)

theorem zeroize_keeps {m : Nat} {r : State} {b0 : ℕ} {b1 : ℕ} {s : State} (hm : Sub 4722366481774428603412 m) (hs : Keeps m r
    s) :
    Keeps m r (zeroize b0 b1 s) := by
  unfold zeroize
  extract_lets +onlyGivenNames x1
  have h2 : Keeps m r x1 := clearKeys_keeps (hm.mono rfl) hs
  clear_value x1
  extract_lets +onlyGivenNames x3 x4
  have h5 : Keeps m r x4 := Keeps.ite h2 (Keeps.set_bkd (hm.mono rfl) h2)
  clear_value x4
  extract_lets +onlyGivenNames x6
  have h7 : Keeps m r x6 := setFld_keeps (hm.mono rfl) h5
  clear_value x6
  extract_lets +onlyGivenNames x8
  have h9 : Keeps m r x8 := setFld_keeps (hm.mono rfl) h7
  clear_value x8
  extract_lets +onlyGivenNames x10
  have h11 : Keeps m r x10 := setFld_keeps (hm.mono rfl) (setFld_keeps (hm.mono rfl) h9)
  clear_value x10
  exact postFnd_keeps (hm.mono rfl) (raise_keeps (hm.mono rfl) h11)

theorem showKeys_keeps {m : Nat} {r : State} {s : State} (hm : Sub 140737488355332 m) (hs : Keeps m r s) :
    Keeps m r (showKeys s) := by
  unfold showKeys
  exact setBool_keeps (hm.mono rfl) hs

theorem setSlot_keeps {m : Nat} {r : State} {b0 : ℕ} {b1 : Slot} {s : State} (hm : Sub 8589934592 m) (hs : Keeps m r s) :
    Keeps m r (setSlot b0 b1 s) := by
  unfold setSlot
  exact Keeps.set_nv (hm.mono rfl) hs

theorem changeSlot_keeps {m : Nat} {r : State} {b0 : ℕ} {b1 : ℕ} {b2 : ℕ} {b3 : List Byte} {s : State} (hm : Sub 8589934592
    m) (hs : Keeps m r s) :
    Keeps m r (changeSlot b0 b1 b2 b3 s) := by
  unfold changeSlot
  exact setSlot_keeps hm hs

theorem hopload_keeps {m : Nat} {r : State} {s : State} (hm : Sub 422221055016964 m) (hs : Keeps m r s) :
    Keeps m r (hopload s) := by
  unfold hopload
  extract_lets +onlyGivenNames x1
  have h2 : ∀ a3 s4, Keeps m r s4 → Keeps m r (x1 a3 s4) := by
    intro a3 s4 h5
    unfold x1
    exact showKeys_keeps (hm.mono rfl) (raise_keeps (hm.mono rfl) (Keeps.set_vault (hm.mono rfl) h5))
  clear_value x1
  refine Keeps.ite (cfgErr_keeps (hm.mono rfl) hs) ?_
  split
  · rename_i y7 y8 y9 e10
    exact @h2 _ _ hs
  · rename_i y11 y12 y13 e14 e15
    extract_lets +onlyGivenNames x16
    exact @h2 _ _ (changeSlot_keeps (hm.mono rfl) hs)
  · rename_i y17 y18 e19 e20
    exact cfgErr_keeps (hm.mono rfl) hs

theorem flushAll_keeps {m : Nat} {r : State} {s : State} (hm : Sub 16384 m) (hs : Keeps m r s) :
    Keeps m r (flushAll s) := by
  unfold flushAll
  exact Keeps.set_vault (hm.mono rfl) hs

theorem commandGo_keeps {m : Nat} {r : State} {s : State} (hm : Sub 281474976727045 m) (hs : Keeps m r s) :
    Keeps m r (commandGo s) := by
  unfold commandGo
  refine Keeps.ite (cfgErr_keeps (hm.mono rfl) hs) ?_
  extract_lets +onlyGivenNames x1 x2 x3 x4
  have h5 : Keeps m r x4 := raise_keeps (hm.mono rfl) hs
  clear_value x4
  refine Keeps.ite (Keeps.set_vault (hm.mono rfl) h5) ?_
  refine Keeps.ite (Keeps.set_vault (hm.mono rfl) h5) ?_
  split
  · rename_i y7 y8 s9 e10
    have h11 : Keeps m r s9 := (KeepsP.of_eq e10 (takeFree_keeps (hm.mono rfl) h5)).snd
    exact Keeps.set_vault (hm.mono rfl) h11

theorem jobResult_keeps {m : Nat} {r : State} {b0 : ℕ} {b1 : ℕ} {s : State} (hm : Sub 16384 m) (hs : Keeps m r s) :
    Keeps m r (jobResult b0 b1 s) := by
  unfold jobResult
  split
  · rename_i y2 e3
    exact hs
  · rename_i y4 y5 e6
    exact Keeps.set_vault (hm.mono rfl) hs

theorem jobAbort_keeps {m : Nat} {r : State} {s : State} (hm : Sub 16400 m) (hs : Keeps m r s) :
    Keeps m r (jobAbort s) := by
  unfold jobAbort
  split
  · rename_i y2 e3
    exact hs
  · rename_i y4 y5 e6
    exact Keeps.ite hs (Keeps.ite (jobResult_keeps (hm.mono rfl) (setBytes_keeps (hm.mono rfl) hs)) (jobResult_keeps (hm.mono
        rfl) hs))

theorem cacheFlush_keeps {m : Nat} {r : State} {b0 : ℕ} {s : State} (hm : Sub 16384 m) (hs : Keeps m r s) :
    Keeps m r (cacheFlush b0 s) := by
  unfold cacheFlush
  exact Keeps.set_vault (hm.mono rfl) hs

theorem setCtxKey_keeps {m : Nat} {r : State} {b0 : ℕ} {b1 : Option CtxKey} {s : State} (hm : Sub 16384 m) (hs : Keeps m r s) :
    Keeps m r (setCtxKey b0 b1 s) := by
  unfold setCtxKey
  exact Keeps.ite (Keeps.set_vault (hm.mono rfl) hs) (Keeps.ite (Keeps.set_vault (hm.mono rfl) hs) hs)

theorem contextLoad_keeps {m : Nat} {r : State} {b0 : ℕ} {s : State} (hm : Sub 4722366481770133602308 m) (hs : Keeps m r s) :
    Keeps m r (contextLoad b0 s) := by
  unfold contextLoad
  extract_lets +onlyGivenNames x1
  refine Keeps.ite (cfgErr_keeps (hm.mono rfl) hs) ?_
  split
  · rename_i y3 e4
    exact cfgErr_keeps (hm.mono rfl) hs
  · rename_i y5 y6 e7
    extract_lets +onlyGivenNames x8
    exact setFld_keeps (regMask.any (hm.mono rfl)) (setCtxKey_keeps (hm.mono rfl) hs)

theorem kvtWrittenWith_keeps {m : Nat} {r : State} {b0 : Bool} {b1 : Origin} {b2 : ℕ} {b3 : Word} {o4 : State} {s : State}
    (hm : Sub 4722366481783018538013 m) (hs : Keeps m r s) :
    Keeps m r (kvtWrittenWith b0 b1 b2 b3 o4 s) := by
  unfold kvtWrittenWith
  extract_lets +onlyGivenNames x1
  refine Keeps.ite ?_ ?_
  · extract_lets +onlyGivenNames x2
    have h3 : Keeps m r x2 := Keeps.ite (Keeps.ite hs (blockStart_keeps (hm.mono rfl) hs)) (Keeps.ite (blockStop_keeps
        (hm.mono rfl) hs) hs)
    clear_value x2
    extract_lets +onlyGivenNames x4
    have h5 : Keeps m r x4 := Keeps.ite (regenerate_keeps (hm.mono rfl) h3) h3
    clear_value x4
    extract_lets +onlyGivenNames x6
    have h7 : Keeps m r x6 := Keeps.ite (zeroize_keeps (hm.mono rfl) h5) h5
    clear_value x6
    extract_lets +onlyGivenNames x8
    have h9 : Keeps m r x8 := Keeps.ite (zeroize_keeps (hm.mono rfl) h7) h7
    clear_value x8
    extract_lets +onlyGivenNames x10
    have h11 : Keeps m r x10 := Keeps.ite (hopload_keeps (hm.mono rfl) h9) h9
    clear_value x10
    exact Keeps.ite (flushAll_keeps (hm.mono rfl) h11) h11
  · refine Keeps.ite ?_ ?_
    · extract_lets +onlyGivenNames x12
      have h13 : Keeps m r x12 := Keeps.ite (commandGo_keeps (hm.mono rfl) hs) hs
      clear_value x12
      exact Keeps.ite (jobAbort_keeps (hm.mono rfl) h13) h13
    · refine Keeps.ite (cacheFlush_keeps (hm.mono rfl) hs) ?_
      refine Keeps.ite ?_ hs
      extract_lets +onlyGivenNames x14
      exact showKeys_keeps (hm.mono rfl) (Keeps.ite (contextLoad_keeps (hm.mono rfl) hs) hs)

theorem kvtWritten_keeps {m : Nat} {r : State} {b0 : Origin} {b1 : ℕ} {b2 : Word} {o3 : State} {s : State} (hm : Sub
    4722366481783018538013 m) (hs : Keeps m r s) :
    Keeps m r (kvtWritten b0 b1 b2 o3 s) := by
  unfold kvtWritten
  exact kvtWrittenWith_keeps hm hs

theorem tokenCounters_keeps {m : Nat} {r : State} {s : State} (hm : Sub 4722366481770133585924 m) (hs : Keeps m r s) :
    Keeps m r (tokenCounters s) := by
  unfold tokenCounters
  refine Keeps.upTo hs (fun i1 s2 h3 => ?_)
  exact Keeps.ite (setFld_keeps (regMask.any (hm.mono rfl)) (setFld_keeps (regMask.any (hm.mono rfl)) h3)) h3

theorem staleUse_keeps {m : Nat} {r : State} {b0 : ℕ} {s : State} (hm : Sub 4785074604082180 m) (hs : Keeps m r s) :
    Keeps m r (staleUse b0 s) := by
  unfold staleUse
  exact post_keeps (hm.mono rfl) (bump_keeps (hm.mono rfl) (raise_keeps (hm.mono rfl) hs))

theorem ctxUse_keeps {m : Nat} {r : State} {b0 : ℕ} {s : State} (hm : Sub 4785074604082180 m) (hs : Keeps m r s) :
    KeepsP m r (ctxUse b0 s) := by
  unfold ctxUse
  refine KeepsP.ite (KeepsP.mk' hs) ?_
  split
  · rename_i y2 e3
    exact KeepsP.mk' hs
  · rename_i y4 y5 e6
    exact KeepsP.ite (KeepsP.mk' hs) (KeepsP.mk' (staleUse_keeps hm hs))

theorem joinKey_keeps {m : Nat} {r : State} {b0 : List Byte} {s : State} (hm : Sub 1 m) (hs : Keeps m r s) :
    KeepsP m r (joinKey b0 s) := by
  unfold joinKey
  split
  · rename_i y2 e3
    exact KeepsP.mk' hs
  · rename_i y4 y5 e6
    extract_lets +onlyGivenNames x7
    refine KeepsP.ite ?_ ?_
    · split
      · rename_i y9 y10 s11 e12
        have h13 : Keeps m r s11 := (KeepsP.of_eq e12 (takeFree_keeps (hm.mono rfl) hs)).snd
        exact KeepsP.mk' h13
    · split
      · rename_i y15 e16
        exact KeepsP.mk' hs
      · rename_i y17 y18 e19
        exact KeepsP.mk' hs

theorem linkKeyUse_keeps {m : Nat} {r : State} {b0 : ℕ} {s : State} (hm : Sub 281474976727045 m) (hs : Keeps m r s) :
    KeepsP m r (linkKeyUse b0 s) := by
  unfold linkKeyUse
  refine KeepsP.ite (KeepsP.mk' hs) ?_
  split
  · rename_i y2 y3 e4
    exact KeepsP.mk' (Keeps.set_vault (hm.mono rfl) hs)
  · rename_i y5 e6
    extract_lets +onlyGivenNames x7
    have h8 : Keeps m r x7 := bump_keeps (hm.mono rfl) hs
    clear_value x7
    extract_lets +onlyGivenNames x9
    refine KeepsP.ite (KeepsP.mk' h8) ?_
    split
    · rename_i y11 s12 e13
      have h14 : Keeps m r s12 := (KeepsP.of_eq e13 (joinKey_keeps (hm.mono rfl) h8)).snd
      exact KeepsP.mk' h14
    · rename_i y15 y16 s17 e18
      have h19 : Keeps m r s17 := (KeepsP.of_eq e18 (joinKey_keeps (hm.mono rfl) h8)).snd
      extract_lets +onlyGivenNames x20
      exact KeepsP.mk' (Keeps.set_vault (hm.mono rfl) h19)

theorem nextCounter_keeps {m : Nat} {r : State} {b0 : ℕ} {s : State} (hm : Sub 4722366481770133585924 m) (hs : Keeps m r s) :
    KeepsP m r (nextCounter b0 s) := by
  unfold nextCounter
  extract_lets +onlyGivenNames x1 x2
  refine KeepsP.ite (KeepsP.mk' hs) ?_
  refine KeepsP.ite (KeepsP.mk' (bump_keeps (hm.mono rfl) hs)) ?_
  extract_lets +onlyGivenNames x3
  have h4 : Keeps m r x3 := setFld_keeps (regMask.any (hm.mono rfl)) hs
  clear_value x3
  exact KeepsP.mk' (Keeps.ite (raise_keeps (hm.mono rfl) h4) h4)

theorem kvtRead_keeps {m : Nat} {r : State} {b0 : Origin} {b1 : ℕ} {b2 : Word} {s : State} (_hm : Sub 0 m) (hs : Keeps m r s) :
    KeepsP m r (kvtRead b0 b1 b2 s) := by
  unfold kvtRead
  refine KeepsP.ite ?_ (KeepsP.mk' hs)
  extract_lets +onlyGivenNames x1 x2 x3
  exact KeepsP.mk' hs

theorem setUpdateCounter_keeps {m : Nat} {r : State} {b0 : ℕ} {b1 : ℕ} {s : State} (hm : Sub 8589934592 m) (hs : Keeps m r s) :
    Keeps m r (setUpdateCounter b0 b1 s) := by
  unfold setUpdateCounter
  exact Keeps.set_nv (hm.mono rfl) hs

theorem enrol_keeps {m : Nat} {r : State} {s : State} (hm : Sub 4793879287088132 m) (hs : Keeps m r s) :
    Keeps m r (enrol s) := by
  unfold enrol
  extract_lets +onlyGivenNames x1 x2 x3
  have h4 : Keeps m r x3 := by
    unfold x3
    refine Keeps.upTo hs (fun i5 s6 h7 => ?_)
    exact Keeps.ite (changeSlot_keeps (hm.mono rfl) h7) h7
  clear_value x3
  extract_lets +onlyGivenNames x8
  have h9 : Keeps m r x8 := by
    unfold x8
    refine Keeps.upTo h4 (fun i10 s11 h12 => ?_)
    exact setUpdateCounter_keeps (hm.mono rfl) h12
  clear_value x8
  extract_lets +onlyGivenNames x13 x14
  have h15 : Keeps m r x14 := Keeps.set_nv (hm.mono rfl) h9
  clear_value x14
  extract_lets +onlyGivenNames x16 x17
  have h18 : Keeps m r x17 := setFld_keeps (hm.mono rfl) (Keeps.set_bkd (hm.mono rfl) h15)
  clear_value x17
  extract_lets +onlyGivenNames x19 x20
  have h21 : Keeps m r x20 := Keeps.set_vault (hm.mono rfl) h18
  clear_value x20
  extract_lets +onlyGivenNames x22
  have h23 : Keeps m r x22 := setFld_keeps (hm.mono rfl) (setFld_keeps (hm.mono rfl) h21)
  clear_value x22
  extract_lets +onlyGivenNames x24
  have h25 : Keeps m r x24 := setFld_keeps (hm.mono rfl) h23
  clear_value x24
  exact postFnd_keeps (hm.mono rfl) h25

theorem certificatePart_keeps {m : Nat} {r : State} {b0 : List Byte} {s : State} (hm : Sub 8589950976 m) (hs : Keeps m r s) :
    Keeps m r (certificatePart b0 s) := by
  unfold certificatePart
  extract_lets +onlyGivenNames x1 x2 x3 x4 x5 x6 x7
  exact Keeps.ite (Keeps.set_vault_nv (hm.mono rfl) hs) (Keeps.set_vault (hm.mono rfl) hs)

theorem kuApply_keeps {m : Nat} {r : State} {b0 : List Byte} {s : State} (hm : Sub 4793879287088132 m) (hs : Keeps m r s) :
    Keeps m r (kuApply b0 s) := by
  unfold kuApply
  extract_lets +onlyGivenNames x1
  split
  · rename_i y3 e4
    exact changeSlot_keeps (hm.mono rfl) hs
  · rename_i y5 e6
    exact changeSlot_keeps (hm.mono rfl) hs
  · rename_i y7 e8
    extract_lets +onlyGivenNames x9
    have h10 : Keeps m r x9 := changeSlot_keeps (hm.mono rfl) hs
    clear_value x9
    exact Keeps.ite (setUpdateCounter_keeps (hm.mono rfl) h10) h10
  · rename_i y11 e12
    exact enrol_keeps hm hs
  · rename_i y13 e14 e15 e16 e17
    exact certificatePart_keeps (hm.mono rfl) hs

theorem keyUpdate_keeps {m : Nat} {r : State} {b0 : List Byte} {s : State} (hm : Sub 4793879287088132 m) (hs : Keeps m r s) :
    KeepsP m r (keyUpdate b0 s) := by
  unfold keyUpdate
  extract_lets +onlyGivenNames x1 x2
  exact KeepsP.ite (KeepsP.mk' (postFnd_keeps (hm.mono rfl) (kuApply_keeps hm (setUpdateCounter_keeps (hm.mono rfl) hs))))
      (KeepsP.mk' (post_keeps (hm.mono rfl) hs))

theorem ceilingRaise_keeps {m : Nat} {r : State} {s : State} (hm : Sub 4722366481778723520516 m) (hs : Keeps m r s) :
    Keeps m r (ceilingRaise s) := by
  unfold ceilingRaise
  refine Keeps.ite hs ?_
  extract_lets +onlyGivenNames x1
  have h2 : Keeps m r x1 := lower_keeps (hm.mono rfl) hs
  clear_value x1
  refine Keeps.upTo h2 (fun i3 s4 h5 => ?_)
  extract_lets +onlyGivenNames x6
  refine Keeps.ite ?_ h5
  extract_lets +onlyGivenNames x7
  exact setFld_keeps (regMask.any (hm.mono rfl)) (Keeps.set_nv (hm.mono rfl) h5)

theorem commandDone_keeps {m : Nat} {r : State} {s : State} (hm : Sub 281474976727060 m) (hs : Keeps m r s) :
    Keeps m r (commandDone s) := by
  unfold commandDone
  split
  · rename_i y2 y3 e4
    split
    · rename_i y6 y7 y8 e9
      exact jobEnd_keeps hm hs
    · rename_i y10 e11
      exact hs
  · rename_i y12 e13
    exact hs

theorem runCmac_keeps {m : Nat} {r : State} {s : State} (hm : Sub 4785074604098580 m) (hs : Keeps m r s) :
    Keeps m r (runCmac s) := by
  unfold runCmac
  split
  · rename_i y2 e3
    exact hs
  · rename_i y4 y5 e6
    refine Keeps.ite ?_ ?_
    · exact jobResult_keeps (hm.mono rfl) (staleUse_keeps (hm.mono rfl) (setBytes_keeps (hm.mono rfl) hs))
    · exact jobResult_keeps (hm.mono rfl) (setBytes_keeps (hm.mono rfl) hs)

theorem execAesCmac_keeps {m : Nat} {r : State} {s : State} (hm : Sub 4785074604098580 m) (hs : Keeps m r s) :
    NextKeeps m r (execAesCmac s) := by
  unfold execAesCmac
  exact NextKeeps.next (runCmac_keeps hm hs)

theorem staleEnd_keeps {m : Nat} {r : State} {b0 : KvtJob} {b1 : List Byte} {s : State} (hm : Sub 4785074604098580 m) (hs :
    Keeps m r s) :
    Keeps m r (staleEnd b0 b1 s) := by
  unfold staleEnd
  exact jobResult_keeps (hm.mono rfl) (staleUse_keeps (hm.mono rfl) (setBytes_keeps (hm.mono rfl) hs))

theorem runAesCtr_keeps {m : Nat} {r : State} {s : State} (hm : Sub 4785074604098580 m) (hs : Keeps m r s) :
    Keeps m r (runAesCtr s) := by
  unfold runAesCtr
  split
  · rename_i y2 e3
    exact hs
  · rename_i y4 y5 e6
    extract_lets +onlyGivenNames x7
    exact Keeps.ite (staleEnd_keeps hm hs) (jobResult_keeps (hm.mono rfl) (setBytes_keeps (hm.mono rfl) hs))

theorem execAesCtr_keeps {m : Nat} {r : State} {s : State} (hm : Sub 4785074604098580 m) (hs : Keeps m r s) :
    NextKeeps m r (execAesCtr s) := by
  unfold execAesCtr
  exact NextKeeps.next (runAesCtr_keeps hm hs)

theorem runGcmDecrypt_keeps {m : Nat} {r : State} {s : State} (hm : Sub 4785074604098580 m) (hs : Keeps m r s) :
    Keeps m r (runGcmDecrypt s) := by
  unfold runGcmDecrypt
  split
  · rename_i y2 e3
    exact hs
  · rename_i y4 y5 e6
    extract_lets +onlyGivenNames x7
    refine Keeps.ite ?_ ?_
    · exact staleEnd_keeps hm hs
    · exact Keeps.ite (jobResult_keeps (hm.mono rfl) (setBytes_keeps (hm.mono rfl) hs)) (jobResult_keeps (hm.mono rfl)
          (setBytes_keeps (hm.mono rfl) hs))

theorem execAesGcmDecrypt_keeps {m : Nat} {r : State} {s : State} (hm : Sub 4785074604098580 m) (hs : Keeps m r s) :
    NextKeeps m r (execAesGcmDecrypt s) := by
  unfold execAesGcmDecrypt
  exact NextKeeps.next (runGcmDecrypt_keeps hm hs)

theorem runGcmEncrypt_keeps {m : Nat} {r : State} {s : State} (hm : Sub 4785074604098580 m) (hs : Keeps m r s) :
    Keeps m r (runGcmEncrypt s) := by
  unfold runGcmEncrypt
  split
  · rename_i y2 e3
    exact hs
  · rename_i y4 y5 e6
    extract_lets +onlyGivenNames x7
    exact Keeps.ite (staleEnd_keeps hm hs) (jobResult_keeps (hm.mono rfl) (setBytes_keeps (hm.mono rfl) (setBytes_keeps
        (hm.mono rfl) hs)))

theorem execAesGcmEncrypt_keeps {m : Nat} {r : State} {s : State} (hm : Sub 4785074604098580 m) (hs : Keeps m r s) :
    NextKeeps m r (execAesGcmEncrypt s) := by
  unfold execAesGcmEncrypt
  exact NextKeeps.next (runGcmEncrypt_keeps hm hs)

theorem runKeyWrap_keeps {m : Nat} {r : State} {s : State} (hm : Sub 16400 m) (hs : Keeps m r s) :
    Keeps m r (runKeyWrap s) := by
  unfold runKeyWrap
  split
  · rename_i y2 e3
    exact hs
  · rename_i y4 y5 e6
    exact jobResult_keeps (hm.mono rfl) (setBytes_keeps (hm.mono rfl) hs)

theorem execAesKeyWrap_keeps {m : Nat} {r : State} {s : State} (hm : Sub 16400 m) (hs : Keeps m r s) :
    NextKeeps m r (execAesKeyWrap s) := by
  unfold execAesKeyWrap
  exact NextKeeps.next (runKeyWrap_keeps hm hs)

theorem execCacheFlush_keeps {m : Nat} {r : State} {b0 : Origin} {b1 : BitVec 13} {s : State} (hm : Sub
    4722366481783018538269 m) (hs : Keeps m r s) :
    NextKeeps m r (execCacheFlush b0 b1 s) := by
  unfold execCacheFlush
  refine NextKeeps.next ?_
  refine coreWrite_keeps (hm.mono rfl) (fun a1 a2 a3 a4 a5 a6 => ?_) hs
  exact kvtWritten_keeps (hm.mono rfl) a6

theorem execCeilingRaise_keeps {m : Nat} {r : State} {s : State} (hm : Sub 4722366481778723520516 m) (hs : Keeps m r s) :
    NextKeeps m r (execCeilingRaise s) := by
  unfold execCeilingRaise
  exact NextKeeps.next (ceilingRaise_keeps hm hs)

theorem kuResult_keeps {m : Nat} {r : State} {b0 : ℕ} {s : State} (hm : Sub 1 m) (hs : Keeps m r s) :
    KeepsP m r (kuResult b0 s) := by
  unfold kuResult
  refine KeepsP.ite (KeepsP.mk' hs) ?_
  refine KeepsP.ite (KeepsP.mk' hs) ?_
  refine KeepsP.ite (KeepsP.mk' hs) ?_
  split
  · rename_i y2 y3 s4 e5
    have h6 : Keeps m r s4 := (KeepsP.of_eq e5 (takeFree_keeps (hm.mono rfl) hs)).snd
    exact KeepsP.mk' h6

theorem runKeyUpdate_keeps {m : Nat} {r : State} {b0 : ℕ} {s : State} (hm : Sub 4793879287088133 m) (hs : Keeps m r s) :
    Keeps m r (runKeyUpdate b0 s) := by
  unfold runKeyUpdate
  split
  · rename_i y2 e3
    exact hs
  · rename_i y4 y5 e6
    extract_lets +onlyGivenNames x7 x8
    refine Keeps.ite ?_ hs
    split
    · rename_i y10 y11 s12 e13
      have h14 : Keeps m r s12 := (KeepsP.of_eq e13 (keyUpdate_keeps (hm.mono rfl) hs)).snd
      split
      · rename_i y16 y17 s18 e19
        have h20 : Keeps m r s18 := (KeepsP.of_eq e19 (kuResult_keeps (hm.mono rfl) h14)).snd
        exact jobResult_keeps (hm.mono rfl) h20

theorem execCertificatePart_keeps {m : Nat} {r : State} {s : State} (hm : Sub 4793879287088133 m) (hs : Keeps m r s) :
    NextKeeps m r (execCertificatePart s) := by
  unfold execCertificatePart
  exact NextKeeps.next (runKeyUpdate_keeps hm hs)

theorem execContextLoad_keeps {m : Nat} {r : State} {b0 : Origin} {b1 : ℕ} {b2 : Word} {s : State} (hm : Sub
    4722366481783018538269 m) (hs : Keeps m r s) :
    NextKeeps m r (execContextLoad b0 b1 b2 s) := by
  unfold execContextLoad
  refine NextKeeps.next ?_
  refine coreWrite_keeps (regMask.anyOr (hm.mono rfl)) (fun a1 a2 a3 a4 a5 a6 => ?_) hs
  exact kvtWritten_keeps (hm.mono rfl) a6

theorem freeScalar_keeps {m : Nat} {r : State} {s : State} (hm : Sub 1 m) (hs : Keeps m r s) :
    KeepsP m r (freeScalar s) := by
  unfold freeScalar
  split
  · rename_i y2 y3 s4 e5
    have h6 : Keeps m r s4 := (KeepsP.of_eq e5 (takeFree_keeps (hm.mono rfl) hs)).snd
    exact KeepsP.mk' h6

theorem runSign_keeps {m : Nat} {r : State} {s : State} (hm : Sub 16401 m) (hs : Keeps m r s) :
    Keeps m r (runSign s) := by
  unfold runSign
  split
  · rename_i y2 e3
    exact hs
  · rename_i y4 y5 e6
    split
    · rename_i y8 y9 s10 e11
      have h12 : Keeps m r s10 := (KeepsP.of_eq e11 (freeScalar_keeps (hm.mono rfl) hs)).snd
      exact jobResult_keeps (hm.mono rfl) (setBytes_keeps (hm.mono rfl) h12)

theorem execEcdsaSign_keeps {m : Nat} {r : State} {s : State} (hm : Sub 16401 m) (hs : Keeps m r s) :
    NextKeeps m r (execEcdsaSign s) := by
  unfold execEcdsaSign
  exact NextKeeps.next (runSign_keeps hm hs)

theorem runVerify_keeps {m : Nat} {r : State} {s : State} (hm : Sub 16384 m) (hs : Keeps m r s) :
    Keeps m r (runVerify s) := by
  unfold runVerify
  split
  · rename_i y2 e3
    exact hs
  · rename_i y4 y5 e6
    exact jobResult_keeps hm hs

theorem execEcdsaVerify_keeps {m : Nat} {r : State} {s : State} (hm : Sub 16384 m) (hs : Keeps m r s) :
    NextKeeps m r (execEcdsaVerify s) := by
  unfold execEcdsaVerify
  exact NextKeeps.next (runVerify_keeps hm hs)

theorem execEnrol_keeps {m : Nat} {r : State} {s : State} (hm : Sub 4793879287088133 m) (hs : Keeps m r s) :
    NextKeeps m r (execEnrol s) := by
  unfold execEnrol
  exact NextKeeps.next (runKeyUpdate_keeps hm hs)

theorem execEntropyHealthFail_keeps {m : Nat} {r : State} {s : State} (hm : Sub 4785074604098564 m) (hs : Keeps m r s) :
    NextKeeps m r (execEntropyHealthFail s) := by
  unfold execEntropyHealthFail
  exact NextKeeps.next (post_keeps (hm.mono rfl) (raise_keeps (hm.mono rfl) (Keeps.set_vault (hm.mono rfl) hs)))

theorem execEntropyHealthPass_keeps {m : Nat} {r : State} {s : State} (hm : Sub 16384 m) (hs : Keeps m r s) :
    NextKeeps m r (execEntropyHealthPass s) := by
  unfold execEntropyHealthPass
  exact NextKeeps.next (Keeps.set_vault (hm.mono rfl) hs)

theorem runEcdh_keeps {m : Nat} {r : State} {s : State} (hm : Sub 16401 m) (hs : Keeps m r s) :
    Keeps m r (runEcdh s) := by
  unfold runEcdh
  split
  · rename_i y2 e3
    exact hs
  · rename_i y4 y5 e6
    split
    · rename_i y8 y9 s10 e11
      have h12 : Keeps m r s10 := (KeepsP.of_eq e11 (freeScalar_keeps (hm.mono rfl) hs)).snd
      extract_lets +onlyGivenNames x13 x14
      have h15 : Keeps m r x14 := setBytes_keeps (hm.mono rfl) h12
      clear_value x14
      split
      · rename_i y17 y18 e19
        exact jobResult_keeps (hm.mono rfl) (setBytes_keeps (hm.mono rfl) h15)
      · rename_i y20 e21
        split
        · rename_i y23 y24 s25 e26
          have h27 : Keeps m r s25 := (KeepsP.of_eq e26 (takeFree_keeps (hm.mono rfl) h15)).snd
          split
          · rename_i y29 y30 s31 e32
            have h33 : Keeps m r s31 := (KeepsP.of_eq e32 (takeFree_keeps (hm.mono rfl) h27)).snd
            exact jobResult_keeps (hm.mono rfl) (setBytes_keeps (hm.mono rfl) h33)

theorem execEphemeralEcdh_keeps {m : Nat} {r : State} {s : State} (hm : Sub 16401 m) (hs : Keeps m r s) :
    NextKeeps m r (execEphemeralEcdh s) := by
  unfold execEphemeralEcdh
  exact NextKeeps.next (runEcdh_keeps hm hs)

theorem kvtCtrl_keeps {m : Nat} {r : State} {b0 : Origin} {b1 : Bool} {b2 : ℕ} {s : State} (hm : Sub 4722366481783018538269
    m) (hs : Keeps m r s) :
    Keeps m r (kvtCtrl b0 b1 b2 s) := by
  unfold kvtCtrl
  refine coreWrite_keeps (hm.mono rfl) (fun a1 a2 a3 a4 a5 a6 => ?_) hs
  exact kvtWrittenWith_keeps (hm.mono rfl) a6

theorem execFlushall_keeps {m : Nat} {r : State} {b0 : Origin} {s : State} (hm : Sub 4722366481783018538269 m) (hs : Keeps m
    r s) :
    NextKeeps m r (execFlushall b0 s) := by
  unfold execFlushall
  exact NextKeeps.next (kvtCtrl_keeps hm hs)

theorem execHopload_keeps {m : Nat} {r : State} {b0 : Origin} {s : State} (hm : Sub 4722366481783018538269 m) (hs : Keeps m r
    s) :
    NextKeeps m r (execHopload b0 s) := by
  unfold execHopload
  exact NextKeeps.next (kvtCtrl_keeps hm hs)

theorem execInstallPublicKey_keeps {m : Nat} {r : State} {s : State} (hm : Sub 4793879287088133 m) (hs : Keeps m r s) :
    NextKeeps m r (execInstallPublicKey s) := by
  unfold execInstallPublicKey
  exact NextKeeps.next (runKeyUpdate_keeps hm hs)

theorem execInstallSecretKey_keeps {m : Nat} {r : State} {s : State} (hm : Sub 4793879287088133 m) (hs : Keeps m r s) :
    NextKeeps m r (execInstallSecretKey s) := by
  unfold execInstallSecretKey
  exact NextKeeps.next (runKeyUpdate_keeps hm hs)

theorem execInvalidate_keeps {m : Nat} {r : State} {s : State} (hm : Sub 4793879287088133 m) (hs : Keeps m r s) :
    NextKeeps m r (execInvalidate s) := by
  unfold execInvalidate
  exact NextKeeps.next (runKeyUpdate_keeps hm hs)

theorem execKvtAbort_keeps {m : Nat} {r : State} {b0 : Origin} {s : State} (hm : Sub 4722366481783018538269 m) (hs : Keeps m
    r s) :
    NextKeeps m r (execKvtAbort b0 s) := by
  unfold execKvtAbort
  refine NextKeeps.next ?_
  refine coreWrite_keeps (hm.mono rfl) (fun a1 a2 a3 a4 a5 a6 => ?_) hs
  exact kvtWritten_keeps (hm.mono rfl) a6

theorem execKvtCommandDone_keeps {m : Nat} {r : State} {s : State} (hm : Sub 281474976727060 m) (hs : Keeps m r s) :
    NextKeeps m r (execKvtCommandDone s) := by
  unfold execKvtCommandDone
  exact NextKeeps.next (commandDone_keeps hm hs)

theorem runRandom_keeps {m : Nat} {r : State} {s : State} (hm : Sub 16401 m) (hs : Keeps m r s) :
    Keeps m r (runRandom s) := by
  unfold runRandom
  split
  · rename_i y2 e3
    exact hs
  · rename_i y4 y5 e6
    split
    · rename_i y8 y9 s10 e11
      have h12 : Keeps m r s10 := (KeepsP.of_eq e11 (takeFree_keeps (hm.mono rfl) hs)).snd
      exact jobResult_keeps (hm.mono rfl) (setBytes_keeps (hm.mono rfl) h12)

theorem execRandom_keeps {m : Nat} {r : State} {s : State} (hm : Sub 16401 m) (hs : Keeps m r s) :
    NextKeeps m r (execRandom s) := by
  unfold execRandom
  exact NextKeeps.next (runRandom_keeps hm hs)

theorem execRegen_keeps {m : Nat} {r : State} {b0 : Origin} {b1 : Bool} {s : State} (hm : Sub 4722366481783018538269 m) (hs :
    Keeps m r s) :
    NextKeeps m r (execRegen b0 b1 s) := by
  unfold execRegen
  exact NextKeeps.next (kvtCtrl_keeps hm hs)

theorem runSha_keeps {m : Nat} {r : State} {s : State} (hm : Sub 16400 m) (hs : Keeps m r s) :
    Keeps m r (runSha s) := by
  unfold runSha
  split
  · rename_i y2 e3
    exact hs
  · rename_i y4 y5 e6
    extract_lets +onlyGivenNames x7 x8 x9
    have h10 : Keeps m r x9 := Keeps.set_vault (hm.mono rfl) hs
    clear_value x9
    exact jobResult_keeps (hm.mono rfl) (setBytes_keeps (hm.mono rfl) h10)

theorem execSha256_keeps {m : Nat} {r : State} {s : State} (hm : Sub 16400 m) (hs : Keeps m r s) :
    NextKeeps m r (execSha256 s) := by
  unfold execSha256
  exact NextKeeps.next (runSha_keeps hm hs)

theorem execWipe_keeps {m : Nat} {r : State} {b0 : Origin} {s : State} (hm : Sub 4722366481783018538269 m) (hs : Keeps m r s) :
    NextKeeps m r (execWipe b0 s) := by
  unfold execWipe
  exact NextKeeps.next (kvtCtrl_keeps hm hs)

theorem execZeroize_keeps {m : Nat} {r : State} {b0 : Origin} {s : State} (hm : Sub 4722366481783018538269 m) (hs : Keeps m r
    s) :
    NextKeeps m r (execZeroize b0 s) := by
  unfold execZeroize
  exact NextKeeps.next (kvtCtrl_keeps hm hs)

end Sys2Proof.Machine
end

