-- ==== Sys2Proof/Laws/KeepsRadio.lean ====
section
/-!
SUPPORT. What each operation keeps (`Keeps`), one lemma per operation.
The operations of: Radio, Frames, Timetable, Siding, Light.
-/

namespace Sys2Proof.Machine

/-! ### Radio -/

theorem airRemove_keeps {m : Nat} {r : State} {b0 : AirTx} {s : State} (hm : Sub 70368744308740 m) (hs : Keeps m r s) :
    Keeps m r (airRemove b0 s) := by
  unfold airRemove
  extract_lets +onlyGivenNames x1
  exact setBool_keeps (hm.mono rfl) (Keeps.set_rfe (hm.mono rfl) hs)

theorem tteDrop_keeps {m : Nat} {r : State} {s : State} (hm : Sub 140737488355332 m) (hs : Keeps m r s) :
    Keeps m r (tteDrop s) := by
  unfold tteDrop
  exact raise_keeps (hm.mono rfl) (bump_keeps (hm.mono rfl) hs)

theorem setBucket_keeps {m : Nat} {r : State} {b0 : ℕ} {b1 : ℕ} {s : State} (hm : Sub 131072 m) (hs : Keeps m r s) :
    Keeps m r (setBucket b0 b1 s) := by
  unfold setBucket
  exact Keeps.set_rfe (hm.mono rfl) hs

theorem dutyAdd_keeps {m : Nat} {r : State} {b0 : ℕ} {b1 : ℕ} {b2 : ℕ} {s : State} (hm : Sub 70368744308740 m) (hs : Keeps m
    r s) :
    Keeps m r (dutyAdd b0 b1 b2 s) := by
  unfold dutyAdd
  extract_lets +onlyGivenNames x1 x2 x3 x4
  have h5 : Keeps m r x4 := setBucket_keeps (hm.mono rfl) hs
  clear_value x4
  exact Keeps.ite (raise_keeps (hm.mono rfl) h5) h5

theorem airCut_keeps {m : Nat} {r : State} {b0 : Bool} {o1 : State} {b2 : AirTx} (hm : Sub 211106232664068 m) (ho1 : Keeps m
    r o1) :
    Keeps m r (airCut b0 o1 b2) := by
  unfold airCut
  extract_lets +onlyGivenNames x1 x2
  have h3 : Keeps m r x2 := airRemove_keeps (hm.mono rfl) ho1
  clear_value x2
  refine Keeps.ite (Keeps.ite (Keeps.ite (raise_keeps (hm.mono rfl) h3) (tteDrop_keeps (hm.mono rfl) h3)) h3) ?_
  extract_lets +onlyGivenNames x4
  exact raise_keeps (hm.mono rfl) (bump_keeps (hm.mono rfl) (dutyAdd_keeps (hm.mono rfl) h3))

theorem airCutAll_keeps {m : Nat} {r : State} {b0 : Bool} {s : State} (hm : Sub 211106232664068 m) (hs : Keeps m r s) :
    Keeps m r (airCutAll b0 s) := by
  unfold airCutAll
  refine Keeps.foldl hs (fun s2 a1 h3 => ?_)
  exact airCut_keeps hm h3

theorem rfeWritten_keeps {m : Nat} {r : State} {b0 : Origin} {b1 : ℕ} {b2 : Word} {o3 : State} {s : State} (hm : Sub
    211106232664076 m) (hs : Keeps m r s) :
    Keeps m r (rfeWritten b0 b1 b2 o3 s) := by
  unfold rfeWritten
  refine Keeps.ite ?_ ?_
  · extract_lets +onlyGivenNames x1 x2
    have h3 : Keeps m r x2 := Keeps.ite (blockStart_keeps (hm.mono rfl) hs) hs
    clear_value x2
    extract_lets +onlyGivenNames x4
    have h5 : Keeps m r x4 := Keeps.ite (airCutAll_keeps (hm.mono rfl) h3) h3
    clear_value x4
    refine Keeps.ite ?_ h5
    extract_lets +onlyGivenNames x6
    have h7 : Keeps m r x6 := airCutAll_keeps (hm.mono rfl) h5
    clear_value x6
    extract_lets +onlyGivenNames x8
    have h9 : Keeps m r x8 := by
      unfold x8
      refine unshadow_keeps (hm.mono rfl) ?_
      exact h7
    clear_value x8
    extract_lets +onlyGivenNames x10
    have h11 : Keeps m r x10 := lower_keeps (hm.mono rfl) (setFld_keeps (hm.mono rfl) h9)
    clear_value x10
    exact Keeps.set_rfe (hm.mono rfl) h11
  · refine Keeps.ite ?_ hs
    refine Keeps.ite hs ?_
    extract_lets +onlyGivenNames x12
    exact setBucket_keeps (hm.mono rfl) hs

theorem radioBoundary_keeps {m : Nat} {r : State} {b0 : ℕ} {b1 : PathObs} {s : State} (hm : Sub 4714705860035588 m) (hs :
    Keeps m r s) :
    Keeps m r (radioBoundary b0 b1 s) := by
  unfold radioBoundary
  extract_lets +onlyGivenNames x1 x2
  have h3 : Keeps m r x2 := Keeps.ite (raise_keeps (hm.mono rfl) (bump_keeps (hm.mono rfl) hs)) hs
  clear_value x2
  extract_lets +onlyGivenNames x4
  have h5 : Keeps m r x4 := Keeps.ite (airCutAll_keeps (hm.mono rfl) h3) h3
  clear_value x4
  extract_lets +onlyGivenNames x6 x7
  have h8 : Keeps m r x7 := by
    unfold x7
    refine Keeps.upTo h5 (fun i9 s10 h11 => ?_)
    exact Keeps.ite (post_keeps (hm.mono rfl) (raise_keeps (hm.mono rfl) h11)) h11
  clear_value x7
  extract_lets +onlyGivenNames x12 x13 x14
  exact Keeps.set_rfe (hm.mono rfl) h8

theorem setExclusions_keeps {m : Nat} {r : State} {b0 : ℕ} {b1 : ℕ} {s : State} (hm : Sub 131072 m) (hs : Keeps m r s) :
    Keeps m r (setExclusions b0 b1 s) := by
  unfold setExclusions
  exact Keeps.set_rfe (hm.mono rfl) hs

theorem judged_keeps {m : Nat} {r : State} {b0 : ℕ} {b1 : Bool} {s : State} (hm : Sub 4503599627568132 m) (hs : Keeps m r s) :
    Keeps m r (judged b0 b1 s) := by
  unfold judged
  extract_lets +onlyGivenNames x1
  have h2 : Keeps m r x1 := setExclusions_keeps (hm.mono rfl) hs
  clear_value x1
  exact faultSet_keeps (hm.mono rfl) h2

theorem branchEvaluate_keeps {m : Nat} {r : State} {b0 : PathObs} {b1 : ℕ} {s : State} (hm : Sub 4722366481770133783556 m)
    (hs : Keeps m r s) :
    Keeps m r (branchEvaluate b0 b1 s) := by
  unfold branchEvaluate
  refine Keeps.ite hs ?_
  extract_lets +onlyGivenNames x1 x2 x3
  have h4 : Keeps m r x3 := Keeps.set_rfe (hm.mono rfl) hs
  clear_value x3
  extract_lets +onlyGivenNames x5 x6 x7 x8 x9
  have h10 : Keeps m r x9 := setFld_keeps (regMask.any (hm.mono rfl)) (setFld_keeps (regMask.any (hm.mono rfl)) h4)
  clear_value x9
  extract_lets +onlyGivenNames x11
  have h12 : Keeps m r x11 := judged_keeps (hm.mono rfl) (setFld_keeps (regMask.any (hm.mono rfl)) h10)
  clear_value x11
  exact Keeps.ite h12 (post_keeps (hm.mono rfl) (raise_keeps (hm.mono rfl) (lowerBit_keeps (hm.mono rfl) h12)))

theorem radioTimetable_keeps {m : Nat} {r : State} {b0 : PathObs} {s : State} (hm : Sub 4722366481770133783556 m) (hs : Keeps
    m r s) :
    Keeps m r (radioTimetable b0 s) := by
  unfold radioTimetable
  refine Keeps.ite hs ?_
  extract_lets +onlyGivenNames x1
  have h2 : Keeps m r x1 := branchEvaluate_keeps hm (branchEvaluate_keeps hm hs)
  clear_value x1
  exact raise_keeps (hm.mono rfl) (Keeps.set_rfe (hm.mono rfl) h2)

theorem txGrant_keeps {m : Nat} {r : State} {b0 : ℕ} {b1 : ℕ} {b2 : ℕ} {b3 : Bool} {b4 : List Byte} {b5 : ℕ} {b6 : ℕ} {b7 :
    ℕ} {s : State} (hm : Sub 70368744308740 m) (hs : Keeps m r s) :
    Keeps m r (txGrant b0 b1 b2 b3 b4 b5 b6 b7 s) := by
  unfold txGrant
  extract_lets +onlyGivenNames x1
  exact raise_keeps (hm.mono rfl) (Keeps.set_rfe (hm.mono rfl) hs)

theorem txRefused_keeps {m : Nat} {r : State} {b0 : TxRefusal} {s : State} (hm : Sub 70368744177668 m) (hs : Keeps m r s) :
    Keeps m r (txRefused b0 s) := by
  unfold txRefused
  split
  · rename_i y2
    exact bump_keeps (hm.mono rfl) hs
  · rename_i y3
    exact bump_keeps (hm.mono rfl) hs
  · rename_i y4
    exact bump_keeps (hm.mono rfl) hs
  · rename_i y5
    exact raise_keeps (hm.mono rfl) (bump_keeps (hm.mono rfl) hs)
  · rename_i y6
    exact bump_keeps (hm.mono rfl) hs
  · rename_i y7 e8 e9 e10 e11 e12
    exact hs

theorem rfeShow_keeps {m : Nat} {r : State} {s : State} (hm : Sub 70368777732108 m) (hs : Keeps m r s) :
    Keeps m r (rfeShow s) := by
  unfold rfeShow
  extract_lets +onlyGivenNames x1
  have h2 : Keeps m r x1 := Keeps.ite (Keeps.ite (blockStop_keeps (hm.mono rfl) hs) hs) (blockStart_keeps (hm.mono rfl) hs)
  clear_value x1
  exact pllSettle_keeps (hm.mono rfl) (setBool_keeps (hm.mono rfl) h2)

theorem rfeRead_keeps {m : Nat} {r : State} {b0 : Origin} {b1 : ℕ} {b2 : Word} {s : State} (_hm : Sub 0 m) (hs : Keeps m r s) :
    KeepsP m r (rfeRead b0 b1 b2 s) := by
  unfold rfeRead
  extract_lets +onlyGivenNames x1 x2 x3 x4
  exact KeepsP.ite (KeepsP.mk' hs) (KeepsP.ite (KeepsP.mk' hs) (KeepsP.ite (KeepsP.mk' hs) (KeepsP.ite (KeepsP.mk' hs)
      (KeepsP.ite (KeepsP.mk' hs) (KeepsP.mk' hs)))))

theorem radioCleared_keeps {m : Nat} {r : State} {b0 : ℕ} {s : State} (hm : Sub 4722366481770133716996 m) (hs : Keeps m r s) :
    Keeps m r (radioCleared b0 s) := by
  unfold radioCleared
  refine Keeps.upTo hs (fun i1 s2 h3 => ?_)
  extract_lets +onlyGivenNames x4
  refine Keeps.ite ?_ h3
  split
  · rename_i y6 y7 y8 e9
    exact setExclusions_keeps (hm.mono rfl) (raiseBit_keeps (regMask.any (hm.mono rfl)) h3)

theorem dutyCopy_keeps {m : Nat} {r : State} {s : State} (hm : Sub 8589934592 m) (hs : Keeps m r s) :
    Keeps m r (dutyCopy s) := by
  unfold dutyCopy
  exact Keeps.set_nv (hm.mono rfl) hs

theorem dutyRotate_keeps {m : Nat} {r : State} {s : State} (hm : Sub 131072 m) (hs : Keeps m r s) :
    Keeps m r (dutyRotate s) := by
  unfold dutyRotate
  extract_lets +onlyGivenNames x1 x2
  refine Keeps.ite hs ?_
  extract_lets +onlyGivenNames x3
  have h4 : Keeps m r x3 := by
    unfold x3
    refine Keeps.upTo hs (fun i5 s6 h7 => ?_)
    refine Keeps.upTo h7 (fun i8 s9 h10 => ?_)
    exact setBucket_keeps hm h10
  clear_value x3
  exact Keeps.set_rfe (hm.mono rfl) h4

theorem dutyClose_keeps {m : Nat} {r : State} {s : State} (hm : Sub 8590065664 m) (hs : Keeps m r s) :
    Keeps m r (dutyClose s) := by
  unfold dutyClose
  exact Keeps.ite (dutyCopy_keeps (hm.mono rfl) (dutyRotate_keeps (hm.mono rfl) hs)) hs

theorem dutyRestore_keeps {m : Nat} {r : State} {s : State} (hm : Sub 4503599627502596 m) (hs : Keeps m r s) :
    Keeps m r (dutyRestore s) := by
  unfold dutyRestore
  extract_lets +onlyGivenNames x1
  split
  · rename_i y3 y4 e5
    exact Keeps.ite (post_keeps (hm.mono rfl) (Keeps.set_rfe (hm.mono rfl) hs)) (dutyRotate_keeps (hm.mono rfl)
        (Keeps.set_rfe (hm.mono rfl) hs))
  · rename_i y6 e7
    exact post_keeps (hm.mono rfl) (Keeps.set_rfe (hm.mono rfl) hs)

theorem execBandRegisterWrite_keeps {m : Nat} {r : State} {b0 : Origin} {b1 : ℕ} {b2 : ℕ} {b3 : Word} {s : State} (hm : Sub
    4722366481770133718284 m) (hs : Keeps m r s) :
    NextKeeps m r (execBandRegisterWrite b0 b1 b2 b3 s) := by
  unfold execBandRegisterWrite
  refine NextKeeps.next ?_
  refine coreWrite_keeps (regMask.anyOr (hm.mono rfl)) (fun a1 a2 a3 a4 a5 a6 => ?_) hs
  exact rfeWritten_keeps (hm.mono rfl) a6

theorem execDutyBucketClose_keeps {m : Nat} {r : State} {s : State} (hm : Sub 8590065664 m) (hs : Keeps m r s) :
    NextKeeps m r (execDutyBucketClose s) := by
  unfold execDutyBucketClose
  exact NextKeeps.next (dutyClose_keeps hm hs)

theorem readmit_keeps {m : Nat} {r : State} {s : State} (hm : Sub 4722366481770133718020 m) (hs : Keeps m r s) :
    Keeps m r (readmit s) := by
  unfold readmit
  extract_lets +onlyGivenNames x1
  refine Keeps.ite hs ?_
  extract_lets +onlyGivenNames x2 x3
  have h4 : Keeps m r x3 := Keeps.set_rfe (hm.mono rfl) hs
  clear_value x3
  refine Keeps.upTo h4 (fun i5 s6 h7 => ?_)
  split
  · rename_i y9 y10 y11 e12
    exact Keeps.ite h7 (post_keeps (hm.mono rfl) (raiseBit_keeps (regMask.any (hm.mono rfl)) h7))

theorem execReadmit_keeps {m : Nat} {r : State} {s : State} (hm : Sub 4722366481770133718020 m) (hs : Keeps m r s) :
    NextKeeps m r (execReadmit s) := by
  unfold execReadmit
  exact NextKeeps.next (readmit_keeps hm hs)

theorem execRfeStop_keeps {m : Nat} {r : State} {b0 : Origin} {s : State} (hm : Sub 4715805371663628 m) (hs : Keeps m r s) :
    NextKeeps m r (execRfeStop b0 s) := by
  unfold execRfeStop
  refine NextKeeps.next ?_
  refine coreWrite_keeps (hm.mono rfl) (fun a1 a2 a3 a4 a5 a6 => ?_) hs
  exact rfeWritten_keeps (hm.mono rfl) a6

theorem txEnd_keeps {m : Nat} {r : State} {b0 : ℕ} {b1 : ℤ} {b2 : ℕ} {b3 : Bool} {s : State} (hm : Sub 4722366481770133783556
    m) (hs : Keeps m r s) :
    Keeps m r (txEnd b0 b1 b2 b3 s) := by
  unfold txEnd
  split
  · rename_i y2 e3
    exact hs
  · rename_i y4 y5 e6
    extract_lets +onlyGivenNames x7
    have h8 : Keeps m r x7 := dutyAdd_keeps (hm.mono rfl) (airRemove_keeps (hm.mono rfl) hs)
    clear_value x7
    extract_lets +onlyGivenNames x9
    have h10 : Keeps m r x9 := setFld_keeps (regMask.any (hm.mono rfl)) (setFld_keeps (regMask.any (hm.mono rfl)) h8)
    clear_value x9
    extract_lets +onlyGivenNames x11 x12
    have h13 : Keeps m r x12 := Keeps.ite (captureAt_keeps (hm.mono rfl) h10) h10
    clear_value x12
    extract_lets +onlyGivenNames x14
    have h15 : Keeps m r x14 := judged_keeps (hm.mono rfl) (setFld_keeps (regMask.any (hm.mono rfl)) h13)
    clear_value x14
    exact Keeps.ite h15 (post_keeps (hm.mono rfl) (raise_keeps (hm.mono rfl) (lowerBit_keeps (hm.mono rfl) h15)))

theorem execTxFrameEnd_keeps {m : Nat} {r : State} {b0 : ℕ} {b1 : ℤ} {b2 : ℕ} {b3 : Bool} {s : State} (hm : Sub
    4722366481770133783556 m) (hs : Keeps m r s) :
    NextKeeps m r (execTxFrameEnd b0 b1 b2 b3 s) := by
  unfold execTxFrameEnd
  exact NextKeeps.next (txEnd_keeps hm hs)

theorem execTxenWrite_keeps {m : Nat} {r : State} {b0 : Origin} {b1 : Bool} {s : State} (hm : Sub 4715805371663628 m) (hs :
    Keeps m r s) :
    NextKeeps m r (execTxenWrite b0 b1 s) := by
  unfold execTxenWrite
  refine NextKeeps.next ?_
  refine coreWrite_keeps (hm.mono rfl) (fun a1 a2 a3 a4 a5 a6 => ?_) hs
  exact rfeWritten_keeps (hm.mono rfl) a6

theorem radioTick_keeps {m : Nat} {r : State} {s : State} (hm : Sub 70368777863180 m) (hs : Keeps m r s) :
    Keeps m r (radioTick s) := by
  unfold radioTick
  split
  · rename_i y2 y3 e4
    exact Keeps.ite (pllSettle_keeps (hm.mono rfl) (blockStop_keeps (hm.mono rfl) (Keeps.set_rfe (hm.mono rfl) hs))) hs
  · rename_i y5 e6
    exact hs

/-! ### Frames -/

theorem clearWindow_keeps {m : Nat} {r : State} {b0 : ℕ} {s : State} (hm : Sub 262160 m) (hs : Keeps m r s) :
    Keeps m r (clearWindow b0 s) := by
  unfold clearWindow
  exact setMemNat_keeps (hm.mono rfl) (Keeps.set_tte (hm.mono rfl) hs)

/-! ### Timetable -/

theorem setTte_keeps {m : Nat} {r : State} {b0 : TteState} {s : State} (hm : Sub 262144 m) (hs : Keeps m r s) :
    Keeps m r (setTte b0 s) := by
  unfold setTte
  exact Keeps.set_tte (hm.mono rfl) hs

theorem ackFor_keeps {m : Nat} {r : State} {b0 : Frame} {s : State} (hm : Sub 262144 m) (hs : Keeps m r s) :
    Keeps m r (ackFor b0 s) := by
  unfold ackFor
  extract_lets +onlyGivenNames x1
  exact setTte_keeps hm hs

theorem tteOpen_keeps {m : Nat} {r : State} {s : State} (hm : Sub 262144 m) (hs : Keeps m r s) :
    Keeps m r (tteOpen s) := by
  unfold tteOpen
  exact Keeps.ite (setTte_keeps hm hs) hs

theorem tteWritten_keeps {m : Nat} {r : State} {b0 : Origin} {b1 : ℕ} {b2 : Word} {o3 : State} {s : State} (hm : Sub
    140737488617476 m) (hs : Keeps m r s) :
    Keeps m r (tteWritten b0 b1 b2 o3 s) := by
  unfold tteWritten
  refine Keeps.ite ?_ hs
  extract_lets +onlyGivenNames x1 x2
  have h3 : Keeps m r x2 := Keeps.ite (Keeps.ite hs (blockStart_keeps (hm.mono rfl) hs)) (Keeps.ite (setTte_keeps (hm.mono
      rfl) hs) hs)
  clear_value x2
  exact Keeps.ite (tteOpen_keeps (hm.mono rfl) h3) h3

theorem tteHalt_keeps {m : Nat} {r : State} {s : State} (hm : Sub 4644337116005388 m) (hs : Keeps m r s) :
    Keeps m r (tteHalt s) := by
  unfold tteHalt
  extract_lets +onlyGivenNames x1 x2
  have h3 : Keeps m r x2 := setTte_keeps (hm.mono rfl) hs
  clear_value x2
  extract_lets +onlyGivenNames x4 x5
  have h6 : Keeps m r x5 := Keeps.set_vault (hm.mono rfl) h3
  clear_value x5
  extract_lets +onlyGivenNames x7
  have h8 : Keeps m r x7 := Keeps.ite (post_keeps (hm.mono rfl) (raise_keeps (hm.mono rfl) (lower_keeps (hm.mono rfl) h6))) h3
  clear_value x7
  extract_lets +onlyGivenNames x9
  have h10 : Keeps m r x9 := lower_keeps (hm.mono rfl) h8
  clear_value x9
  exact Keeps.ite h10 (blockStop_keeps (hm.mono rfl) h10)

theorem setNst_keeps {m : Nat} {r : State} {b0 : ℕ} {b1 : ℕ} {b2 : List Byte} {s : State} (hm : Sub 16 m) (hs : Keeps m r s) :
    Keeps m r (setNst b0 b1 b2 s) := by
  unfold setNst
  exact setBytes_keeps (hm.mono rfl) hs

theorem silentFault_keeps {m : Nat} {r : State} {s : State} (hm : Sub 4503599627437060 m) (hs : Keeps m r s) :
    Keeps m r (silentFault s) := by
  unfold silentFault
  exact faultSet_keeps hm hs

theorem nodeSilent_keeps {m : Nat} {r : State} {b0 : ℕ} {s : State} (hm : Sub 4644337116054548 m) (hs : Keeps m r s) :
    Keeps m r (nodeSilent b0 s) := by
  unfold nodeSilent
  extract_lets +onlyGivenNames x1
  have h2 : Keeps m r x1 := setNst_keeps (hm.mono rfl) hs
  clear_value x1
  extract_lets +onlyGivenNames x3 x4 x5
  have h6 : Keeps m r x5 := setTte_keeps (hm.mono rfl) h2
  clear_value x5
  exact silentFault_keeps (hm.mono rfl) (post_keeps (hm.mono rfl) (raise_keeps (hm.mono rfl) h6))

theorem reportCellsEnd_keeps {m : Nat} {r : State} {s : State} (hm : Sub 4644337116054548 m) (hs : Keeps m r s) :
    Keeps m r (reportCellsEnd s) := by
  unfold reportCellsEnd
  refine Keeps.foldl hs (fun s2 a1 h3 => ?_)
  refine Keeps.ite (setNst_keeps (hm.mono rfl) h3) ?_
  extract_lets +onlyGivenNames x4 x5
  have h6 : Keeps m r x5 := setNst_keeps (hm.mono rfl) h3
  clear_value x5
  exact Keeps.ite (nodeSilent_keeps hm h6) h6

theorem offerFrom_keeps {m : Nat} {r : State} {b0 : ℕ} {b1 : ℕ} {b2 : ℕ} {b3 : Bool} {b4 : List Byte} {b5 : List ℕ} {s :
    State} (hm : Sub 70368744308740 m) (hs : Keeps m r s) :
    KeepsP m r (offerFrom b0 b1 b2 b3 b4 b5 s) := by
  induction b5 generalizing b0 b1 b2 b3 b4 s hs with
  | nil =>
    unfold offerFrom
    exact KeepsP.mk' hs
  | cons hd tl ih =>
    unfold offerFrom
    split
    · rename_i y2 y3 y4 y5 e6
      exact KeepsP.mk' (txGrant_keeps hm hs)
    · rename_i y7 y8 e9
      extract_lets +onlyGivenNames x10
      have h11 : Keeps m r x10 := txRefused_keeps (hm.mono rfl) hs
      clear_value x10
      refine KeepsP.ite ?_ (KeepsP.mk' h11)
      refine KeepsP.ite (KeepsP.mk' h11) ?_
      refine @ih _ _ _ _ _ _ ?_
      exact h11

theorem sendBeacon_keeps {m : Nat} {r : State} {b0 : ℕ} {s : State} (hm : Sub 4996180836746244 m) (hs : Keeps m r s) :
    Keeps m r (sendBeacon b0 s) := by
  unfold sendBeacon
  extract_lets +onlyGivenNames x1
  split
  · rename_i y3 s4 e5
    have h6 : Keeps m r s4 := (KeepsP.of_eq e5 (ctxUse_keeps (hm.mono rfl) hs)).snd
    exact tteDrop_keeps (hm.mono rfl) h6
  · rename_i y7 y8 s9 e10
    have h11 : Keeps m r s9 := (KeepsP.of_eq e10 (ctxUse_keeps (hm.mono rfl) hs)).snd
    extract_lets +onlyGivenNames x12 x13 x14
    refine Keeps.ite (tteDrop_keeps (hm.mono rfl) h11) ?_
    split
    · rename_i y16 s17 e18
      have h19 : Keeps m r s17 := (KeepsP.of_eq e18 (offerFrom_keeps (hm.mono rfl) h11)).snd
      exact raise_keeps (hm.mono rfl) h19
    · rename_i y20 y21 s22 e23
      have h24 : Keeps m r s22 := (KeepsP.of_eq e23 (offerFrom_keeps (hm.mono rfl) h11)).snd
      exact raise_keeps (hm.mono rfl) h24

theorem sourceDone_keeps {m : Nat} {r : State} {b0 : ℕ} {b1 : LaneSource} {s : State} (hm : Sub 17592186310660 m) (hs : Keeps
    m r s) :
    Keeps m r (sourceDone b0 b1 s) := by
  unfold sourceDone
  split
  · rename_i y2
    split
    · rename_i y4 y5 e6
      exact setTte_keeps (hm.mono rfl) hs
    · rename_i y7 e8
      exact hs
  · rename_i y9
    exact hs
  · rename_i y10 y11
    exact hwNext_keeps (hm.mono rfl) hs

theorem sendKey_keeps {m : Nat} {r : State} {b0 : ℕ} {b1 : List Byte} {s : State} (hm : Sub 4785074604098565 m) (hs : Keeps m
    r s) :
    KeepsP m r (sendKey b0 b1 s) := by
  unfold sendKey
  split
  · rename_i y2
    split
    · rename_i y4 y5 s6 e7
      have h8 : Keeps m r s6 := (KeepsP.of_eq e7 (linkKeyUse_keeps (hm.mono rfl) hs)).snd
      exact KeepsP.mk' h8
    · rename_i y9 s10 e11
      have h12 : Keeps m r s10 := (KeepsP.of_eq e11 (linkKeyUse_keeps (hm.mono rfl) hs)).snd
      exact KeepsP.mk' h12
  · rename_i y13
    extract_lets +onlyGivenNames x14
    split
    · rename_i y16 y17 s18 e19
      have h20 : Keeps m r s18 := (KeepsP.of_eq e19 (ctxUse_keeps (hm.mono rfl) hs)).snd
      exact KeepsP.mk' h20
    · rename_i y21 s22 e23
      have h24 : Keeps m r s22 := (KeepsP.of_eq e23 (ctxUse_keeps (hm.mono rfl) hs)).snd
      exact KeepsP.mk' h24
  · rename_i y25
    split
    · rename_i y27 y28 s29 e30
      have h31 : Keeps m r s29 := (KeepsP.of_eq e30 (joinKey_keeps (hm.mono rfl) hs)).snd
      exact KeepsP.mk' h31
    · rename_i y32 s33 e34
      have h35 : Keeps m r s33 := (KeepsP.of_eq e34 (joinKey_keeps (hm.mono rfl) hs)).snd
      exact KeepsP.mk' h35
  · rename_i y36 e37 e38 e39
    exact KeepsP.mk' hs

theorem secure_keeps {m : Nat} {r : State} {b0 : List Byte} {b1 : List (List Byte)} {s : State} (hm : Sub
    4722366481770133865477 m) (hs : Keeps m r s) :
    KeepsP m r (secure b0 b1 s) := by
  unfold secure
  extract_lets +onlyGivenNames x1 x2 x3
  refine KeepsP.ite (KeepsP.mk' hs) ?_
  extract_lets +onlyGivenNames x4
  split
  · rename_i y6 s7 e8
    have h9 : Keeps m r s7 := (KeepsP.of_eq e8 (sendKey_keeps (hm.mono rfl) hs)).snd
    exact KeepsP.mk' h9
  · rename_i y10 y11 y12 y13 s14 e15
    have h16 : Keeps m r s14 := (KeepsP.of_eq e15 (sendKey_keeps (hm.mono rfl) hs)).snd
    split
    · rename_i y18 s19 e20
      have h21 : Keeps m r s19 := (KeepsP.of_eq e20 (nextCounter_keeps (hm.mono rfl) h16)).snd
      exact KeepsP.mk' h21
    · rename_i y22 y23 s24 e25
      have h26 : Keeps m r s24 := (KeepsP.of_eq e25 (nextCounter_keeps (hm.mono rfl) h16)).snd
      extract_lets +onlyGivenNames x27 x28 x29 x30 x31
      have h32 : Keeps m r x31 := Keeps.ite (setTte_keeps (hm.mono rfl) h26) h26
      clear_value x31
      exact KeepsP.mk' h32

theorem dropAcks_keeps {m : Nat} {r : State} {b0 : ℕ} {b1 : ℕ} {s : State} (hm : Sub 262144 m) (hs : Keeps m r s) :
    Keeps m r (dropAcks b0 b1 s) := by
  unfold dropAcks
  extract_lets +onlyGivenNames x1
  exact setTte_keeps hm hs

theorem tryHead_keeps {m : Nat} {r : State} {b0 : ℕ} {b1 : ℕ} {b2 : ℕ} {b3 : Bool} {b4 : LaneSource} {s : State} (hm : Sub
    4722366481770134000645 m) (hs : Keeps m r s) :
    KeepsP m r (tryHead b0 b1 b2 b3 b4 s) := by
  unfold tryHead
  split
  · rename_i y2 e3
    exact KeepsP.mk' hs
  · rename_i y4 y5 y6 y7 e8
    extract_lets +onlyGivenNames x9 x10 x11
    refine KeepsP.ite (KeepsP.mk' (tteDrop_keeps (hm.mono rfl) (sourceDone_keeps (hm.mono rfl) hs))) ?_
    refine KeepsP.ite (KeepsP.mk' hs) ?_
    split
    · rename_i y13 s14 e15
      have h16 : Keeps m r s14 := (KeepsP.of_eq e15 (secure_keeps (hm.mono rfl) hs)).snd
      exact KeepsP.mk' (tteDrop_keeps (hm.mono rfl) (dropAcks_keeps (hm.mono rfl) (sourceDone_keeps (hm.mono rfl) h16)))
    · rename_i y17 y18 s19 e20
      have h21 : Keeps m r s19 := (KeepsP.of_eq e20 (secure_keeps (hm.mono rfl) hs)).snd
      extract_lets +onlyGivenNames x22
      split
      · rename_i y24 s25 e26
        have h27 : Keeps m r s25 := (KeepsP.of_eq e26 (offerFrom_keeps (hm.mono rfl) h21)).snd
        exact KeepsP.mk' (dropAcks_keeps (hm.mono rfl) (sourceDone_keeps (hm.mono rfl) h27))
      · rename_i y28 y29 s30 e31
        have h32 : Keeps m r s30 := (KeepsP.of_eq e31 (offerFrom_keeps (hm.mono rfl) h21)).snd
        exact KeepsP.ite (KeepsP.mk' (tteDrop_keeps (hm.mono rfl) (dropAcks_keeps (hm.mono rfl) (sourceDone_keeps (hm.mono
            rfl) h32)))) (KeepsP.mk' h32)

theorem trySource_keeps {m : Nat} {r : State} {b0 : ℕ} {b1 : ℕ} {b2 : ℕ} {b3 : Bool} {b4 : LaneSource} {b5 : ℕ} {s : State}
    (hm : Sub 4722366481770134000645 m) (hs : Keeps m r s) :
    KeepsP m r (trySource b0 b1 b2 b3 b4 b5 s) := by
  induction b5 generalizing b0 b1 b2 b3 b4 s hs with
  | zero =>
    unfold trySource
    exact KeepsP.mk' hs
  | succ n ih =>
    unfold trySource
    split
    · rename_i y2 s3 e4
      have h5 : Keeps m r s3 := (KeepsP.of_eq e4 (tryHead_keeps hm hs)).snd
      refine @ih _ _ _ _ _ _ ?_
      exact h5
    · rename_i y6 s7 e8
      have h9 : Keeps m r s7 := (KeepsP.of_eq e8 (tryHead_keeps hm hs)).snd
      exact KeepsP.mk' h9
    · rename_i y10 y11 s12 e13 e14 e15
      have h16 : Keeps m r s12 := (KeepsP.of_eq e15 (tryHead_keeps hm hs)).snd
      exact KeepsP.mk' h16

theorem laneSend_keeps {m : Nat} {r : State} {b0 : ℕ} {b1 : ℕ} {s : State} (hm : Sub 4722366481770134000645 m) (hs : Keeps m
    r s) :
    Keeps m r (laneSend b0 b1 s) := by
  unfold laneSend
  extract_lets +onlyGivenNames x1 x2
  refine KeepsP.snd ?_
  refine KeepsP.foldl (KeepsP.mk' hs) (fun s4 a3 h5 => ?_)
  exact KeepsP.ite h5 (trySource_keeps hm h5.snd)

theorem sendDown_keeps {m : Nat} {r : State} {b0 : ℕ} {s : State} (hm : Sub 4722366481770134000645 m) (hs : Keeps m r s) :
    Keeps m r (sendDown b0 s) := by
  unfold sendDown
  extract_lets +onlyGivenNames x1 x2 x3 x4 x5
  have h6 : Keeps m r x5 := by
    unfold x5
    refine Keeps.upTo hs (fun i7 s8 h9 => ?_)
    exact Keeps.ite (trySource_keeps hm h9).snd (laneSend_keeps hm h9)
  clear_value x5
  exact setTte_keeps (hm.mono rfl) h6

theorem tteBoundary_keeps {m : Nat} {r : State} {b0 : Bool} {b1 : ℕ} {s : State} (hm : Sub 4722366481770134066205 m) (hs :
    Keeps m r s) :
    Keeps m r (tteBoundary b0 b1 s) := by
  unfold tteBoundary
  extract_lets +onlyGivenNames x1
  have h2 : Keeps m r x1 := Keeps.ite (reportCellsEnd_keeps (hm.mono rfl) hs) hs
  clear_value x1
  extract_lets +onlyGivenNames x3 x4
  have h5 : Keeps m r x4 := setTte_keeps (hm.mono rfl) h2
  clear_value x4
  extract_lets +onlyGivenNames x6
  have h7 : Keeps m r x6 := setBool_keeps (hm.mono rfl) h5
  clear_value x6
  refine Keeps.ite (tteHalt_keeps (hm.mono rfl) h7) ?_
  refine Keeps.ite (Keeps.set_vault (hm.mono rfl) h7) ?_
  extract_lets +onlyGivenNames x8 x9
  have h10 : Keeps m r x9 := Keeps.ite (setTte_keeps (hm.mono rfl) (raise_keeps (hm.mono rfl) h7)) h7
  clear_value x9
  refine Keeps.ite h10 ?_
  extract_lets +onlyGivenNames x11 x12 x13
  have h14 : Keeps m r x13 := setTte_keeps (hm.mono rfl) h10
  clear_value x13
  exact Keeps.ite (Keeps.set_rfe (hm.mono rfl) h14) (Keeps.ite (Keeps.ite (sendBeacon_keeps (hm.mono rfl) h14)
      (sendDown_keeps (hm.mono rfl) h14)) h14)

theorem tteRead_keeps {m : Nat} {r : State} {b0 : Origin} {b1 : ℕ} {b2 : Word} {s : State} (hm : Sub 262144 m) (hs : Keeps m
    r s) :
    KeepsP m r (tteRead b0 b1 b2 s) := by
  unfold tteRead
  refine KeepsP.ite (KeepsP.mk' hs) ?_
  refine KeepsP.ite ?_ (KeepsP.ite (KeepsP.mk' hs) (KeepsP.mk' hs))
  split
  · rename_i y2 y3 y4 e5
    exact KeepsP.mk' (setTte_keeps hm hs)
  · rename_i y6 e7
    exact KeepsP.mk' hs

theorem downKey_keeps {m : Nat} {r : State} {b0 : Frame} {s : State} (hm : Sub 4785074604098565 m) (hs : Keeps m r s) :
    KeepsP m r (downKey b0 s) := by
  unfold downKey
  split
  · rename_i y2 e3
    exact linkKeyUse_keeps (hm.mono rfl) hs
  · rename_i y4 e5
    split
    · rename_i y7 y8 e9
      exact ctxUse_keeps (hm.mono rfl) hs
    · rename_i y10 e11
      exact KeepsP.mk' hs
  · rename_i y12 e13 e14
    exact joinKey_keeps (hm.mono rfl) hs

theorem receiveKey_keeps {m : Nat} {r : State} {b0 : Frame} {s : State} (hm : Sub 4785074604098565 m) (hs : Keeps m r s) :
    KeepsP m r (receiveKey b0 s) := by
  unfold receiveKey
  refine KeepsP.ite ?_ ?_
  · split
    · rename_i y2 y3 s4 e5
      have h6 : Keeps m r s4 := (KeepsP.of_eq e5 (joinKey_keeps (hm.mono rfl) hs)).snd
      exact KeepsP.mk' h6
    · rename_i y7 s8 e9
      have h10 : Keeps m r s8 := (KeepsP.of_eq e9 (joinKey_keeps (hm.mono rfl) hs)).snd
      exact KeepsP.mk' h10
  · refine KeepsP.ite ?_ ?_
    · refine KeepsP.ite (KeepsP.mk' hs) ?_
      split
      · rename_i y12 y13 s14 e15
        have h16 : Keeps m r s14 := (KeepsP.of_eq e15 (linkKeyUse_keeps (hm.mono rfl) hs)).snd
        exact KeepsP.mk' h16
      · rename_i y17 s18 e19
        have h20 : Keeps m r s18 := (KeepsP.of_eq e19 (linkKeyUse_keeps (hm.mono rfl) hs)).snd
        exact KeepsP.mk' h20
    · split
      · rename_i y22 s23 e24
        have h25 : Keeps m r s23 := (KeepsP.of_eq e24 (downKey_keeps hm hs)).snd
        exact KeepsP.mk' h25
      · rename_i y26 y27 s28 e29
        have h30 : Keeps m r s28 := (KeepsP.of_eq e29 (downKey_keeps hm hs)).snd
        refine KeepsP.ite ?_ (KeepsP.mk' h30)
        extract_lets +onlyGivenNames x31
        exact KeepsP.mk' h30

theorem receiveChecks_keeps {m : Nat} {r : State} {b0 : RxFrame} {s : State} (hm : Sub 4785074604098565 m) (hs : Keeps m r s) :
    KeepsP m r (receiveChecks b0 s) := by
  unfold receiveChecks
  refine KeepsP.ite (KeepsP.mk' hs) ?_
  split
  · rename_i y2 e3
    exact KeepsP.mk' hs
  · rename_i y4 y5 e6
    refine KeepsP.ite (KeepsP.mk' hs) ?_
    split
    · rename_i y8 y9 s10 e11
      have h12 : Keeps m r s10 := (KeepsP.of_eq e11 (receiveKey_keeps hm hs)).snd
      exact KeepsP.mk' h12
    · rename_i y13 y14 y15 s16 e17
      have h18 : Keeps m r s16 := (KeepsP.of_eq e17 (receiveKey_keeps hm hs)).snd
      split
      · rename_i y20 e21
        exact KeepsP.mk' h18
      · rename_i y22 y23 e24
        exact KeepsP.ite (KeepsP.mk' h18) (KeepsP.mk' h18)

theorem nodeHeard_keeps {m : Nat} {r : State} {b0 : ℕ} {b1 : ℕ} {b2 : List Byte} {b3 : ℕ} {b4 : Cell} {b5 : Bool} {s : State}
    (hm : Sub 4644337116054548 m) (hs : Keeps m r s) :
    Keeps m r (nodeHeard b0 b1 b2 b3 b4 b5 s) := by
  unfold nodeHeard
  extract_lets +onlyGivenNames x1 x2 x3
  have h4 : Keeps m r x3 := Keeps.ite (raise_keeps (hm.mono rfl) hs) hs
  clear_value x3
  extract_lets +onlyGivenNames x5
  have h6 : Keeps m r x5 := setNst_keeps (hm.mono rfl) h4
  clear_value x5
  extract_lets +onlyGivenNames x7
  have h8 : Keeps m r x7 := setNst_keeps (hm.mono rfl) h6
  clear_value x7
  extract_lets +onlyGivenNames x9
  have h10 : Keeps m r x9 := setNst_keeps (hm.mono rfl) h8
  clear_value x9
  extract_lets +onlyGivenNames x11 x12
  have h13 : Keeps m r x12 := Keeps.ite (silentFault_keeps (hm.mono rfl) (setTte_keeps (hm.mono rfl) h10)) h10
  clear_value x12
  exact Keeps.ite (Keeps.ite (setTte_keeps (hm.mono rfl) h13) (setNst_keeps (hm.mono rfl) h13)) h13

theorem windowMove_keeps {m : Nat} {r : State} {b0 : WindowMove} {s : State} (hm : Sub 262160 m) (hs : Keeps m r s) :
    Keeps m r (windowMove b0 s) := by
  unfold windowMove
  split
  · rename_i y2
    exact hs
  · rename_i y3 y4 y5
    exact setTte_keeps (hm.mono rfl) hs
  · rename_i y6 y7 y8
    exact setTte_keeps (hm.mono rfl) hs
  · rename_i y9 y10 y11 y12
    extract_lets +onlyGivenNames x13 x14
    have h15 : Keeps m r x14 := setTte_keeps (hm.mono rfl) hs
    clear_value x14
    split
    · rename_i y17 y18
      exact setMemNat_keeps (hm.mono rfl) h15
    · rename_i y19
      exact h15

theorem fastAdd_keeps {m : Nat} {r : State} {b0 : ℕ} {b1 : ℕ} {b2 : List Byte} {s : State} (hm : Sub 140737488617476 m) (hs :
    Keeps m r s) :
    Keeps m r (fastAdd b0 b1 b2 s) := by
  unfold fastAdd
  extract_lets +onlyGivenNames x1
  refine Keeps.ite (tteDrop_keeps (hm.mono rfl) hs) ?_
  split
  · rename_i y3 y4 e5
    exact setTte_keeps (hm.mono rfl) hs
  · rename_i y6 e7
    exact setTte_keeps (hm.mono rfl) hs

theorem fastPath_keeps {m : Nat} {r : State} {b0 : Frame} {b1 : List Byte} {s : State} (hm : Sub 140737488617476 m) (hs :
    Keeps m r s) :
    KeepsP m r (fastPath b0 b1 s) := by
  unfold fastPath
  extract_lets +onlyGivenNames x1 x2
  refine KeepsP.ite (KeepsP.mk' hs) ?_
  refine KeepsP.ite (KeepsP.mk' (tteDrop_keeps (hm.mono rfl) hs)) ?_
  extract_lets +onlyGivenNames x3
  refine KeepsP.mk' ?_
  refine Keeps.upTo hs (fun i4 s5 h6 => ?_)
  exact Keeps.ite (fastAdd_keeps hm h6) h6

theorem receiveIn_keeps {m : Nat} {r : State} {b0 : RxFrame} {b1 : List Byte} {b2 : ℕ} {b3 : Cell} {s : State} (hm : Sub
    4722366481770133935125 m) (hs : Keeps m r s) :
    KeepsP m r (receiveIn b0 b1 b2 b3 s) := by
  unfold receiveIn
  split
  · rename_i y2 y3 s4 e5
    have h6 : Keeps m r s4 := (KeepsP.of_eq e5 (receiveChecks_keeps (hm.mono rfl) hs)).snd
    extract_lets +onlyGivenNames x7 x8
    have h9 : Keeps m r x8 := by
      unfold x8
      clear_value x7
      split
      · rename_i y11 y12
        exact nodeHeard_keeps (hm.mono rfl) h6
      · rename_i y13
        exact h6
    clear_value x8
    extract_lets +onlyGivenNames x14
    have h15 : Keeps m r x14 := by
      unfold x14
      split
      · rename_i y17 y18 e19
        exact Keeps.ite (captureAt_keeps (hm.mono rfl) h9) h9
      · rename_i y20 e21
        exact h9
    clear_value x14
    extract_lets +onlyGivenNames x22 x23 x24
    split
    · rename_i y26 s27 e28
      have h29 : Keeps m r s27 := (KeepsP.of_eq e28 (hwWrite_keeps (hm.mono rfl) h15)).snd
      exact KeepsP.mk' (raise_keeps (hm.mono rfl) (bump_keeps (hm.mono rfl) h29))
    · rename_i y30 s31 e32
      have h33 : Keeps m r s31 := (KeepsP.of_eq e32 (hwWrite_keeps (hm.mono rfl) h15)).snd
      extract_lets +onlyGivenNames x34
      have h35 : Keeps m r x34 := raise_keeps (hm.mono rfl) (bump_keeps (hm.mono rfl) h33)
      clear_value x34
      extract_lets +onlyGivenNames x36
      have h37 : Keeps m r x36 := Keeps.ite (windowMove_keeps (hm.mono rfl) h35) h35
      clear_value x36
      extract_lets +onlyGivenNames x38
      have h39 : Keeps m r x38 := by
        unfold x38
        clear_value x7
        split
        · rename_i y41
          exact h37
        · rename_i y42 y43
          refine Keeps.ite h37 ?_
          split
          · rename_i y45 y46 s47 e48
            have h49 : Keeps m r s47 := (KeepsP.of_eq e48 (KeepsP.ite (fastPath_keeps (hm.mono rfl) h37) (KeepsP.mk' h37))).snd
            exact Keeps.ite (ackFor_keeps (hm.mono rfl) h49) h49
      clear_value x38
      split
      · rename_i y51 y52 e53
        exact KeepsP.ite (KeepsP.mk' h39) (KeepsP.mk' h39)
      · rename_i y54 e55
        exact KeepsP.mk' h39

theorem receiveFrame_keeps {m : Nat} {r : State} {b0 : RxFrame} {s : State} (hm : Sub 4722366481770133935125 m) (hs : Keeps m
    r s) :
    KeepsP m r (receiveFrame b0 s) := by
  unfold receiveFrame
  extract_lets +onlyGivenNames x1
  refine KeepsP.ite (KeepsP.mk' hs) ?_
  refine KeepsP.ite (KeepsP.mk' (bump_keeps (hm.mono rfl) hs)) ?_
  extract_lets +onlyGivenNames x2
  have h3 : Keeps m r x2 := Keeps.ite (bump_keeps (hm.mono rfl) hs) (bump_keeps (hm.mono rfl) hs)
  clear_value x2
  extract_lets +onlyGivenNames x4
  split
  · rename_i y6 y7 e8
    exact KeepsP.ite (receiveIn_keeps hm h3) (KeepsP.mk' h3)
  · rename_i y9 e10
    exact KeepsP.mk' h3

theorem execSilentFifoRead_keeps {m : Nat} {r : State} {b0 : Origin} {s : State} (hm : Sub 4645436627617028 m) (hs : Keeps m
    r s) :
    NextKeeps m r (execSilentFifoRead b0 s) := by
  unfold execSilentFifoRead
  refine NextKeeps.next ?_
  refine coreRead_keeps (hm.mono rfl) (fun a1 a2 a3 a4 a5 => ?_) hs
  exact tteRead_keeps (hm.mono rfl) a5

theorem execTteOpen_keeps {m : Nat} {r : State} {b0 : Origin} {s : State} (hm : Sub 4645436627617036 m) (hs : Keeps m r s) :
    NextKeeps m r (execTteOpen b0 s) := by
  unfold execTteOpen
  refine NextKeeps.next ?_
  refine coreWrite_keeps (hm.mono rfl) (fun a1 a2 a3 a4 a5 a6 => ?_) hs
  exact tteWritten_keeps (hm.mono rfl) a6

theorem execTteRunWrite_keeps {m : Nat} {r : State} {b0 : Origin} {b1 : Bool} {s : State} (hm : Sub 4645436627617036 m) (hs :
    Keeps m r s) :
    NextKeeps m r (execTteRunWrite b0 b1 s) := by
  unfold execTteRunWrite
  refine NextKeeps.next ?_
  refine coreWrite_keeps (hm.mono rfl) (fun a1 a2 a3 a4 a5 a6 => ?_) hs
  exact tteWritten_keeps (hm.mono rfl) a6

/-! ### Siding -/

theorem setSdc_keeps {m : Nat} {r : State} {b0 : SdcState} {s : State} (hm : Sub 1048576 m) (hs : Keeps m r s) :
    Keeps m r (setSdc b0 s) := by
  unfold setSdc
  exact Keeps.set_sdc (hm.mono rfl) hs

theorem setSdcWord_keeps {m : Nat} {r : State} {b0 : ℕ} {b1 : ℕ} {s : State} (hm : Sub 1048576 m) (hs : Keeps m r s) :
    Keeps m r (setSdcWord b0 b1 s) := by
  unfold setSdcWord
  exact setSdc_keeps hm hs

theorem setChan_keeps {m : Nat} {r : State} {b0 : ℕ} {b1 : SdcChan} {s : State} (hm : Sub 1048576 m) (hs : Keeps m r s) :
    Keeps m r (setChan b0 b1 s) := by
  unfold setChan
  exact setSdc_keeps hm hs

theorem setSdcFld_keeps {m : Nat} {r : State} {b0 : ℕ} {b1 : ℕ} {b2 : ℕ} {b3 : ℕ} {s : State} (hm : Sub 1048576 m) (hs :
    Keeps m r s) :
    Keeps m r (setSdcFld b0 b1 b2 b3 s) := by
  unfold setSdcFld
  exact setSdcWord_keeps hm hs

theorem setPending_keeps {m : Nat} {r : State} {b0 : ℕ} {b1 : ℕ} {b2 : ℕ} {b3 : Bool} {s : State} (hm : Sub 1048576 m) (hs :
    Keeps m r s) :
    Keeps m r (setPending b0 b1 b2 b3 s) := by
  unfold setPending
  exact setSdcFld_keeps hm hs

theorem sdcTableWrite_keeps {m : Nat} {r : State} {b0 : ℕ} {b1 : ℕ} {s : State} (hm : Sub 2251799814733828 m) (hs : Keeps m r
    s) :
    Keeps m r (sdcTableWrite b0 b1 s) := by
  unfold sdcTableWrite
  split
  · rename_i y2 e3
    exact cfgErr_keeps (hm.mono rfl) hs
  · rename_i y4 y5 e6
    extract_lets +onlyGivenNames x7 x8
    have h9 : Keeps m r x8 := setSdcWord_keeps (hm.mono rfl) hs
    clear_value x8
    refine Keeps.ite ?_ (Keeps.ite (setPending_keeps (hm.mono rfl) h9) h9)
    extract_lets +onlyGivenNames x10 x11
    exact setChan_keeps (hm.mono rfl) h9

theorem handWired_keeps {m : Nat} {r : State} {b0 : ℕ} {b1 : ℕ} {b2 : ℕ} {s : State} (hm : Sub 2251799814733828 m) (hs :
    Keeps m r s) :
    Keeps m r (handWired b0 b1 b2 s) := by
  unfold handWired
  exact sdcTableWrite_keeps hm hs

theorem devPending_keeps {m : Nat} {r : State} {b0 : ℕ} {b1 : ℕ} {s : State} (hm : Sub 1048576 m) (hs : Keeps m r s) :
    Keeps m r (devPending b0 b1 s) := by
  unfold devPending
  exact setPending_keeps hm (setPending_keeps hm hs)

theorem allPending_keeps {m : Nat} {r : State} {b0 : ℕ} {s : State} (hm : Sub 1048576 m) (hs : Keeps m r s) :
    Keeps m r (allPending b0 s) := by
  unfold allPending
  refine Keeps.upTo hs (fun i1 s2 h3 => ?_)
  exact devPending_keeps hm h3

theorem setSiding_keeps {m : Nat} {r : State} {b0 : ℕ} {b1 : Siding} {s : State} (hm : Sub 1048576 m) (hs : Keeps m r s) :
    Keeps m r (setSiding b0 b1 s) := by
  unfold setSiding
  exact setSdc_keeps hm hs

theorem rowStart_keeps {m : Nat} {r : State} {b0 : ℕ} {b1 : ℕ} {s : State} (hm : Sub 2251799814733828 m) (hs : Keeps m r s) :
    Keeps m r (rowStart b0 b1 s) := by
  unfold rowStart
  extract_lets +onlyGivenNames x1 x2
  exact raiseBit_keeps (hm.mono rfl) (setSiding_keeps (hm.mono rfl) hs)

theorem driveStart_keeps {m : Nat} {r : State} {b0 : ℕ} {s : State} (hm : Sub 2251799814733828 m) (hs : Keeps m r s) :
    Keeps m r (driveStart b0 s) := by
  unfold driveStart
  extract_lets +onlyGivenNames x1 x2
  have h3 : Keeps m r x2 := raiseBit_keeps (hm.mono rfl) (setSiding_keeps (hm.mono rfl) hs)
  clear_value x2
  refine Keeps.ite ?_ h3
  extract_lets +onlyGivenNames x4
  have h5 : Keeps m r x4 := rowStart_keeps hm h3
  clear_value x4
  exact setSiding_keeps (hm.mono rfl) h5

theorem sidingStart_keeps {m : Nat} {r : State} {b0 : ℕ} {s : State} (hm : Sub 2251799814733828 m) (hs : Keeps m r s) :
    Keeps m r (sidingStart b0 s) := by
  unfold sidingStart
  extract_lets +onlyGivenNames x1 x2
  have h3 : Keeps m r x2 := allPending_keeps (hm.mono rfl) (setSiding_keeps (hm.mono rfl) hs)
  clear_value x2
  extract_lets +onlyGivenNames x4
  have h5 : Keeps m r x4 := Keeps.ite h3 (blockStart_keeps (hm.mono rfl) h3)
  clear_value x4
  exact Keeps.ite (driveStart_keeps hm h5) h5

theorem transferSiding_keeps {m : Nat} {r : State} {b0 : ℕ} {s : State} (hm : Sub 4722366481770134634508 m) (hs : Keeps m r s) :
    Keeps m r (transferSiding b0 s) := by
  unfold transferSiding
  extract_lets +onlyGivenNames x1 x2 x3
  have h4 : Keeps m r x3 := applyShadows_keeps (hm.mono rfl) hs
  clear_value x3
  exact Keeps.ite (allPending_keeps (hm.mono rfl) h4) h4

theorem driveStop_keeps {m : Nat} {r : State} {b0 : ℕ} {s : State} (hm : Sub 2251799814733828 m) (hs : Keeps m r s) :
    Keeps m r (driveStop b0 s) := by
  unfold driveStop
  exact lowerBit_keeps (hm.mono rfl) (lowerBit_keeps (hm.mono rfl) (setSiding_keeps (hm.mono rfl) hs))

theorem sidingHalt_keeps {m : Nat} {r : State} {b0 : ℕ} {s : State} (hm : Sub 4722366481770134634508 m) (hs : Keeps m r s) :
    Keeps m r (sidingHalt b0 s) := by
  unfold sidingHalt
  extract_lets +onlyGivenNames x1
  have h2 : Keeps m r x1 := transferSiding_keeps hm (driveStop_keeps (hm.mono rfl) hs)
  clear_value x1
  extract_lets +onlyGivenNames x3 x4
  have h5 : Keeps m r x4 := setSiding_keeps (hm.mono rfl) h2
  clear_value x4
  exact Keeps.ite h5 (blockStop_keeps (hm.mono rfl) h5)

theorem sidingLate_keeps {m : Nat} {r : State} {b0 : ℕ} {s : State} (hm : Sub 4722366481770133585924 m) (hs : Keeps m r s) :
    Keeps m r (sidingLate b0 s) := by
  unfold sidingLate
  exact raise_keeps (hm.mono rfl) (bump_keeps (regMask.any (hm.mono rfl)) hs)

theorem frameStart_keeps {m : Nat} {r : State} {b0 : ℕ} {s : State} (hm : Sub 4722366481770134634508 m) (hs : Keeps m r s) :
    Keeps m r (frameStart b0 s) := by
  unfold frameStart
  extract_lets +onlyGivenNames x1
  refine Keeps.ite hs ?_
  refine Keeps.ite (sidingLate_keeps (hm.mono rfl) hs) ?_
  refine Keeps.ite hs ?_
  extract_lets +onlyGivenNames x2
  have h3 : Keeps m r x2 := transferSiding_keeps hm hs
  clear_value x2
  extract_lets +onlyGivenNames x4 x5 x6 x7 x8 x9
  have h10 : Keeps m r x9 := raiseBit_keeps (hm.mono rfl) (setSiding_keeps (hm.mono rfl) h3)
  clear_value x9
  exact Keeps.ite h10 (sidingLate_keeps (hm.mono rfl) h10)

theorem sdcAccess_keeps {m : Nat} {r : State} {b0 : Option Word} {s : State} (hm : Sub 2251799814733828 m) (hs : Keeps m r s) :
    KeepsP m r (sdcAccess b0 s) := by
  unfold sdcAccess
  extract_lets +onlyGivenNames x1 x2
  have h3 : Keeps m r x2 := bumpWrap_keeps (hm.mono rfl) hs
  clear_value x2
  split
  · rename_i y5
    exact KeepsP.mk' h3
  · rename_i y6 y7
    exact KeepsP.mk' (sdcTableWrite_keeps hm h3)

theorem sdcWritten_keeps {m : Nat} {r : State} {b0 : Origin} {b1 : ℕ} {b2 : Word} {o3 : State} {s : State} (hm : Sub
    4722366481770134634508 m) (hs : Keeps m r s) :
    Keeps m r (sdcWritten b0 b1 b2 o3 s) := by
  unfold sdcWritten
  refine Keeps.ite ?_ (Keeps.ite (sdcAccess_keeps (hm.mono rfl) (setReg_keeps (hm.mono rfl) hs)).snd hs)
  extract_lets +onlyGivenNames x1
  have h2 : Keeps m r x1 := by
    unfold x1
    refine Keeps.upTo hs (fun i3 s4 h5 => ?_)
    extract_lets +onlyGivenNames x6
    exact Keeps.ite (sidingStart_keeps (hm.mono rfl) h5) (Keeps.ite (sidingHalt_keeps hm h5) h5)
  clear_value x1
  extract_lets +onlyGivenNames x7
  have h8 : Keeps m r x7 := by
    unfold x7
    refine Keeps.upTo h2 (fun i9 s10 h11 => ?_)
    exact Keeps.ite (frameStart_keeps hm h11) h11
  clear_value x7
  refine Keeps.ite ?_ h8
  refine Keeps.upTo h8 (fun i12 s13 h14 => ?_)
  exact allPending_keeps (hm.mono rfl) h14

theorem sdcOwn_keeps {m : Nat} {r : State} {b0 : Bool} {s : State} (hm : Sub 4722366481770134634508 m) (hs : Keeps m r s) :
    Keeps m r (sdcOwn b0 s) := by
  unfold sdcOwn
  refine Keeps.ite hs ?_
  extract_lets +onlyGivenNames x1
  have h2 : Keeps m r x1 := setBool_keeps (hm.mono rfl) hs
  clear_value x1
  refine Keeps.upTo h2 (fun i3 s4 h5 => ?_)
  refine Keeps.ite ?_ h5
  refine Keeps.ite (driveStart_keeps (hm.mono rfl) h5) ?_
  extract_lets +onlyGivenNames x6
  have h7 : Keeps m r x6 := driveStop_keeps (hm.mono rfl) h5
  clear_value x6
  exact Keeps.ite h7 (sidingHalt_keeps hm h7)

theorem sdcPut_keeps {m : Nat} {r : State} {b0 : ℕ} {b1 : ℕ} {s : State} (hm : Sub 2251799814733828 m) (hs : Keeps m r s) :
    Keeps m r (sdcPut b0 b1 s) := by
  unfold sdcPut
  exact Keeps.ite hs (sdcTableWrite_keeps hm hs)

theorem coefApply_keeps {m : Nat} {r : State} {b0 : ℕ} {b1 : ℕ} {s : State} (hm : Sub 2251799814733828 m) (hs : Keeps m r s) :
    Keeps m r (coefApply b0 b1 s) := by
  unfold coefApply
  extract_lets +onlyGivenNames x1 x2
  exact sdcPut_keeps hm (sdcPut_keeps hm (sdcPut_keeps hm hs))

theorem matrixApply_keeps {m : Nat} {r : State} {b0 : ℕ} {b1 : ℕ} {s : State} (hm : Sub 2251799814733828 m) (hs : Keeps m r s) :
    Keeps m r (matrixApply b0 b1 s) := by
  unfold matrixApply
  extract_lets +onlyGivenNames x1
  refine Keeps.upTo hs (fun i2 s3 h4 => ?_)
  exact sdcPut_keeps hm h4

theorem deviceApply_keeps {m : Nat} {r : State} {b0 : ℕ} {b1 : ℕ} {s : State} (hm : Sub 1048576 m) (hs : Keeps m r s) :
    Keeps m r (deviceApply b0 b1 s) := by
  unfold deviceApply
  exact setSdcFld_keeps hm hs

theorem channelApply_keeps {m : Nat} {r : State} {b0 : ℕ} {s : State} (hm : Sub 2251799814733828 m) (hs : Keeps m r s) :
    Keeps m r (channelApply b0 s) := by
  unfold channelApply
  extract_lets +onlyGivenNames x1 x2
  have h3 : Keeps m r x2 := sdcPut_keeps hm hs
  clear_value x2
  extract_lets +onlyGivenNames x4
  have h5 : Keeps m r x4 := sdcPut_keeps hm h3
  clear_value x4
  extract_lets +onlyGivenNames x6
  exact sdcPut_keeps hm h5

theorem routePulse5_keeps {m : Nat} {r : State} {s : State} (hm : Sub 4722366481770134634508 m) (hs : Keeps m r s) :
    Keeps m r (routePulse5 s) := by
  unfold routePulse5
  refine Keeps.upTo hs (fun i1 s2 h3 => ?_)
  exact frameStart_keeps hm h3

theorem sdcRead_keeps {m : Nat} {r : State} {b0 : Origin} {b1 : ℕ} {b2 : Word} {s : State} (hm : Sub 2251799814733828 m) (hs
    : Keeps m r s) :
    KeepsP m r (sdcRead b0 b1 b2 s) := by
  unfold sdcRead
  exact KeepsP.ite (sdcAccess_keeps hm hs) (KeepsP.mk' hs)

theorem chainCheck_keeps {m : Nat} {r : State} {b0 : ℕ} {s : State} (hm : Sub 6755399441122308 m) (hs : Keeps m r s) :
    Keeps m r (chainCheck b0 s) := by
  unfold chainCheck
  extract_lets +onlyGivenNames x1 x2 x3
  refine Keeps.ite ?_ ?_
  · exact faultRaise_keeps (hm.mono rfl) (post_keeps (hm.mono rfl) (raise_keeps (hm.mono rfl) (raiseBit_keeps (hm.mono rfl)
        hs)))
  · exact Keeps.ite (faultGone_keeps (hm.mono rfl) (lowerBit_keeps (hm.mono rfl) hs)) hs

theorem haltAfterLatch_keeps {m : Nat} {r : State} {b0 : ℕ} {s : State} (hm : Sub 4722366481770134634508 m) (hs : Keeps m r s) :
    Keeps m r (haltAfterLatch b0 s) := by
  unfold haltAfterLatch
  exact Keeps.ite hs (sidingHalt_keeps hm hs)

theorem latchFrame_keeps {m : Nat} {r : State} {b0 : ℕ} {b1 : SdcFrame} {s : State} (hm : Sub 4722366481770134634500 m) (hs :
    Keeps m r s) :
    Keeps m r (latchFrame b0 b1 s) := by
  unfold latchFrame
  extract_lets +onlyGivenNames x1 x2
  have h3 : Keeps m r x2 := lowerBit_keeps (hm.mono rfl) (setSiding_keeps (hm.mono rfl) hs)
  clear_value x2
  extract_lets +onlyGivenNames x4
  have h5 : Keeps m r x4 := setFld_keeps (regMask.any (hm.mono rfl)) (bump_keeps (regMask.any (hm.mono rfl)) (raise_keeps
      (hm.mono rfl) h3))
  clear_value x4
  refine Keeps.ite h5 ?_
  refine Keeps.upTo h5 (fun i6 s7 h8 => ?_)
  extract_lets +onlyGivenNames x9 x10 x11
  have h12 : Keeps m r x11 := setChan_keeps (hm.mono rfl) h8
  clear_value x11
  split
  · rename_i y14 y15 y16 e17
    exact setSdcFld_keeps (hm.mono rfl) (setChan_keeps (hm.mono rfl) h12)
  · rename_i y18 e19
    exact h12

theorem sdcEvent_keeps {m : Nat} {r : State} {b0 : ℕ} {b1 : ℕ} {b2 : ℕ} {s : State} (hm : Sub 4503599627371524 m) (hs : Keeps
    m r s) :
    Keeps m r (sdcEvent b0 b1 b2 s) := by
  unfold sdcEvent
  exact post_keeps hm hs

theorem gainUpdate_keeps {m : Nat} {r : State} {b0 : ℕ} {b1 : ℕ} {s : State} (hm : Sub 6755399442105348 m) (hs : Keeps m r s) :
    Keeps m r (gainUpdate b0 b1 s) := by
  unfold gainUpdate
  refine Keeps.upTo hs (fun i1 s2 h3 => ?_)
  extract_lets +onlyGivenNames x4 x5 x6 x7
  refine Keeps.ite h3 ?_
  extract_lets +onlyGivenNames x8 x9 x10 x11 x12 x13
  have h14 : Keeps m r x13 := setSdcFld_keeps (hm.mono rfl) h3
  clear_value x13
  exact Keeps.ite (sdcEvent_keeps (hm.mono rfl) (raise_keeps (hm.mono rfl) h14)) h14

theorem loadChange_keeps {m : Nat} {r : State} {b0 : ℕ} {b1 : ℕ} {b2 : ℕ} {b3 : ℕ} {b4 : ℕ} {s : State} (hm : Sub
    6755399441122308 m) (hs : Keeps m r s) :
    Keeps m r (loadChange b0 b1 b2 b3 b4 s) := by
  unfold loadChange
  refine Keeps.upTo hs (fun i1 s2 h3 => ?_)
  refine Keeps.ite h3 ?_
  extract_lets +onlyGivenNames x4 x5
  have h6 : Keeps m r x5 := post_keeps (hm.mono rfl) (raise_keeps (hm.mono rfl) h3)
  clear_value x5
  exact faultSet_keeps (hm.mono rfl) h6

theorem statusTaken_keeps {m : Nat} {r : State} {b0 : ℕ} {b1 : ℕ} {b2 : SdcFrame} {b3 : List Byte} {s : State} (hm : Sub
    6755399442170885 m) (hs : Keeps m r s) :
    Keeps m r (statusTaken b0 b1 b2 b3 s) := by
  unfold statusTaken
  extract_lets +onlyGivenNames x1 x2 x3 x4 x5 x6
  have h7 : Keeps m r x6 := setSdcWord_keeps (hm.mono rfl) hs
  clear_value x6
  extract_lets +onlyGivenNames x8
  have h9 : Keeps m r x8 := setSdcWord_keeps (hm.mono rfl) h7
  clear_value x8
  extract_lets +onlyGivenNames x10
  have h11 : Keeps m r x10 := setSdcWord_keeps (hm.mono rfl) h9
  clear_value x10
  extract_lets +onlyGivenNames x12
  have h13 : Keeps m r x12 := setSdcFld_keeps (hm.mono rfl) h11
  clear_value x12
  extract_lets +onlyGivenNames x14
  have h15 : Keeps m r x14 := Keeps.ite (faultGone_keeps (hm.mono rfl) (setSdcFld_keeps (hm.mono rfl) h13)) h13
  clear_value x14
  extract_lets +onlyGivenNames x16 x17
  have h18 : Keeps m r x17 := Keeps.ite (setPending_keeps (hm.mono rfl) h15) h15
  clear_value x17
  extract_lets +onlyGivenNames x19
  have h20 : Keeps m r x19 := Keeps.ite (setPending_keeps (hm.mono rfl) h18) h18
  clear_value x19
  extract_lets +onlyGivenNames x21
  have h22 : Keeps m r x21 := Keeps.ite (sdcEvent_keeps (hm.mono rfl) (raise_keeps (hm.mono rfl) (devPending_keeps (hm.mono
      rfl) h20))) h20
  clear_value x21
  extract_lets +onlyGivenNames x23
  have h24 : Keeps m r x23 := loadChange_keeps (hm.mono rfl) (loadChange_keeps (hm.mono rfl) h22)
  clear_value x23
  refine Keeps.foldl h24 (fun s26 a25 h27 => ?_)
  refine Keeps.ite ?_ h27
  split
  · rename_i y29 y30 s31 e32
    have h33 : Keeps m r s31 := (KeepsP.of_eq e32 (takeFree_keeps (hm.mono rfl) h27)).snd
    exact sdcEvent_keeps (hm.mono rfl) h33

theorem statusInvalid_keeps {m : Nat} {r : State} {b0 : ℕ} {b1 : ℕ} {s : State} (hm : Sub 4722366481770134701060 m) (hs :
    Keeps m r s) :
    Keeps m r (statusInvalid b0 b1 s) := by
  unfold statusInvalid
  extract_lets +onlyGivenNames x1 x2 x3
  have h4 : Keeps m r x3 := setSdcFld_keeps (hm.mono rfl) (bump_keeps (regMask.any (hm.mono rfl)) hs)
  clear_value x3
  refine Keeps.ite ?_ h4
  extract_lets +onlyGivenNames x5
  have h6 : Keeps m r x5 := setFld_keeps (regMask.any (hm.mono rfl)) (setSdcFld_keeps (hm.mono rfl) h4)
  clear_value x5
  exact faultRaise_keeps (hm.mono rfl) (sdcEvent_keeps (hm.mono rfl) (raise_keeps (hm.mono rfl) h6))

theorem derateCheck_keeps {m : Nat} {r : State} {b0 : ℕ} {b1 : ℕ} {s : State} (hm : Sub 6755399442105348 m) (hs : Keeps m r s) :
    Keeps m r (derateCheck b0 b1 s) := by
  unfold derateCheck
  extract_lets +onlyGivenNames x1 x2
  refine Keeps.ite ?_ ?_
  · exact sdcEvent_keeps (hm.mono rfl) (raise_keeps (hm.mono rfl) (setSiding_keeps (hm.mono rfl) hs))
  · exact Keeps.ite (sdcEvent_keeps (hm.mono rfl) (setSiding_keeps (hm.mono rfl) hs)) hs

theorem takeStatuses_keeps {m : Nat} {r : State} {b0 : ℕ} {b1 : List (List Byte)} {s : State} (hm : Sub
    4722366481770134701061 m) (hs : Keeps m r s) :
    Keeps m r (takeStatuses b0 b1 s) := by
  unfold takeStatuses
  extract_lets +onlyGivenNames x1
  split
  · rename_i y3 y4 y5 e6 e7
    extract_lets +onlyGivenNames x8
    have h9 : Keeps m r x8 := by
      unfold x8
      refine Keeps.upTo hs (fun i10 s11 h12 => ?_)
      extract_lets +onlyGivenNames x13
      exact Keeps.ite (gainUpdate_keeps (hm.mono rfl) (statusTaken_keeps (hm.mono rfl) h12)) (statusInvalid_keeps (hm.mono
          rfl) h12)
    clear_value x8
    refine chainCheck_keeps (hm.mono rfl) ?_
    refine Keeps.upTo h9 (fun i14 s15 h16 => ?_)
    exact derateCheck_keeps (hm.mono rfl) h16
  · rename_i y17 y18 e19
    exact hs

theorem chainLatch_keeps {m : Nat} {r : State} {b0 : ℕ} {b1 : List (List Byte)} {s : State} (hm : Sub 4722366481770134701069
    m) (hs : Keeps m r s) :
    Keeps m r (chainLatch b0 b1 s) := by
  unfold chainLatch
  split
  · rename_i y2 e3
    exact hs
  · rename_i y4 y5 e6
    exact Keeps.ite hs (haltAfterLatch_keeps (hm.mono rfl) (latchFrame_keeps (hm.mono rfl) (takeStatuses_keeps (hm.mono rfl)
        hs)))

theorem execChainLatch_keeps {m : Nat} {r : State} {b0 : ℕ} {b1 : List (List (BitVec 8))} {s : State} (hm : Sub
    4722366481770134701069 m) (hs : Keeps m r s) :
    NextKeeps m r (execChainLatch b0 b1 s) := by
  unfold execChainLatch
  exact NextKeeps.next (chainLatch_keeps hm hs)

theorem matrixSlot_keeps {m : Nat} {r : State} {b0 : ℕ} {b1 : List (List Byte)} {s : State} (hm : Sub 4722366481770134701069
    m) (hs : Keeps m r s) :
    Keeps m r (matrixSlot b0 b1 s) := by
  unfold matrixSlot
  extract_lets +onlyGivenNames x1
  split
  · rename_i y3 e4
    exact hs
  · rename_i y5 y6 e7
    refine Keeps.ite hs ?_
    extract_lets +onlyGivenNames x8
    have h9 : Keeps m r x8 := Keeps.ite (transferSiding_keeps (hm.mono rfl) hs) hs
    clear_value x8
    extract_lets +onlyGivenNames x10
    have h11 : Keeps m r x10 := latchFrame_keeps (hm.mono rfl) (takeStatuses_keeps (hm.mono rfl) h9)
    clear_value x10
    refine Keeps.ite (sidingHalt_keeps (hm.mono rfl) h11) ?_
    extract_lets +onlyGivenNames x12
    have h13 : Keeps m r x12 := rowStart_keeps (hm.mono rfl) h11
    clear_value x12
    exact setSiding_keeps (hm.mono rfl) h13

theorem execMatrixRowSlot_keeps {m : Nat} {r : State} {b0 : ℕ} {b1 : List (List (BitVec 8))} {s : State} (hm : Sub
    4722366481770134701069 m) (hs : Keeps m r s) :
    NextKeeps m r (execMatrixRowSlot b0 b1 s) := by
  unfold execMatrixRowSlot
  exact NextKeeps.next (matrixSlot_keeps hm hs)

theorem execSdcCfgall_keeps {m : Nat} {r : State} {b0 : Origin} {s : State} (hm : Sub 4722366481770134635788 m) (hs : Keeps m
    r s) :
    NextKeeps m r (execSdcCfgall b0 s) := by
  unfold execSdcCfgall
  refine NextKeeps.next ?_
  refine coreWrite_keeps (hm.mono rfl) (fun a1 a2 a3 a4 a5 a6 => ?_) hs
  exact sdcWritten_keeps (hm.mono rfl) a6

theorem execSdcGo_keeps {m : Nat} {r : State} {b0 : Origin} {b1 : BitVec 4} {s : State} (hm : Sub 4722366481770134635788 m)
    (hs : Keeps m r s) :
    NextKeeps m r (execSdcGo b0 b1 s) := by
  unfold execSdcGo
  refine NextKeeps.next ?_
  refine coreWrite_keeps (hm.mono rfl) (fun a1 a2 a3 a4 a5 a6 => ?_) hs
  exact sdcWritten_keeps (hm.mono rfl) a6

theorem execSdcRunWrite_keeps {m : Nat} {r : State} {b0 : Origin} {b1 : BitVec 4} {s : State} (hm : Sub
    4722366481770134635788 m) (hs : Keeps m r s) :
    NextKeeps m r (execSdcRunWrite b0 b1 s) := by
  unfold execSdcRunWrite
  refine NextKeeps.next ?_
  refine coreWrite_keeps (hm.mono rfl) (fun a1 a2 a3 a4 a5 a6 => ?_) hs
  exact sdcWritten_keeps (hm.mono rfl) a6

theorem execSdcTableAccess_keeps {m : Nat} {r : State} {b0 : Origin} {b1 : Option Word} {s : State} (hm : Sub
    4722366481770134635788 m) (hs : Keeps m r s) :
    NextKeeps m r (execSdcTableAccess b0 b1 s) := by
  unfold execSdcTableAccess
  refine NextKeeps.next ?_
  split
  · rename_i y2 y3
    refine coreWrite_keeps (hm.mono rfl) (fun a4 a5 a6 a7 a8 a9 => ?_) hs
    exact sdcWritten_keeps (hm.mono rfl) a9
  · rename_i y10
    refine coreRead_keeps (hm.mono rfl) (fun a11 a12 a13 a14 a15 => ?_) hs
    exact sdcRead_keeps (hm.mono rfl) a15

/-! ### Light -/

theorem dirSwitch_keeps {m : Nat} {r : State} {s : State} (hm : Sub 1125899906842628 m) (hs : Keeps m r s) :
    Keeps m r (dirSwitch s) := by
  unfold dirSwitch
  exact Keeps.ite hs (raise_keeps (hm.mono rfl) (setFld_keeps (hm.mono rfl) hs))

theorem cycleOverrun_keeps {m : Nat} {r : State} {b0 : ℕ} {s : State} (hm : Sub 5629499534279684 m) (hs : Keeps m r s) :
    Keeps m r (cycleOverrun b0 s) := by
  unfold cycleOverrun
  exact faultRaise_keeps (hm.mono rfl) (post_keeps (hm.mono rfl) (bump_keeps (hm.mono rfl) (raise_keeps (hm.mono rfl) hs)))

theorem setLfe_keeps {m : Nat} {r : State} {b0 : LfeState} {s : State} (hm : Sub 524288 m) (hs : Keeps m r s) :
    Keeps m r (setLfe b0 s) := by
  unfold setLfe
  exact Keeps.set_lfe (hm.mono rfl) hs

theorem setEng_keeps {m : Nat} {r : State} {b0 : ℕ} {b1 : List Byte} {s : State} (hm : Sub 524288 m) (hs : Keeps m r s) :
    Keeps m r (setEng b0 b1 s) := by
  unfold setEng
  exact setLfe_keeps hm hs

theorem setElem_keeps {m : Nat} {r : State} {b0 : ℕ} {b1 : ℕ} {b2 : Elem} {s : State} (hm : Sub 524288 m) (hs : Keeps m r s) :
    Keeps m r (setElem b0 b1 b2 s) := by
  unfold setElem
  exact setEng_keeps hm hs

theorem elemUpdate_keeps {m : Nat} {r : State} {b0 : ℕ} {b1 : ℕ} {b2 : Elem → Elem} {s : State} (hm : Sub 1125899907366916 m)
    (hs : Keeps m r s) :
    Keeps m r (elemUpdate b0 b1 b2 s) := by
  unfold elemUpdate
  exact Keeps.ite (setElem_keeps (hm.mono rfl) hs) (bump_keeps (hm.mono rfl) hs)

theorem eventItem_keeps {m : Nat} {r : State} {b0 : List Byte} {s : State} (hm : Sub 1125899907366916 m) (hs : Keeps m r s) :
    Keeps m r (eventItem b0 s) := by
  unfold eventItem
  extract_lets +onlyGivenNames x1 x2 x3 x4
  exact Keeps.ite (raise_keeps (hm.mono rfl) hs) (elemUpdate_keeps hm hs)

theorem measured_keeps {m : Nat} {r : State} {b0 : ℕ} {b1 : ℕ} {b2 : ℕ} {b3 : ℕ} {b4 : ℕ} {s : State} (hm : Sub
    1125899907366916 m) (hs : Keeps m r s) :
    Keeps m r (measured b0 b1 b2 b3 b4 s) := by
  unfold measured
  exact Keeps.ite (elemUpdate_keeps hm hs) (Keeps.ite hs (Keeps.ite (elemUpdate_keeps hm hs) (Keeps.ite (elemUpdate_keeps hm
      hs) (Keeps.ite (elemUpdate_keeps hm hs) hs))))

theorem ingestFrame_keeps {m : Nat} {r : State} {b0 : Frame} {s : State} (hm : Sub 1125899907366916 m) (hs : Keeps m r s) :
    Keeps m r (ingestFrame b0 s) := by
  unfold ingestFrame
  extract_lets +onlyGivenNames x1 x2
  refine Keeps.ite ?_ ?_
  · refine Keeps.upTo hs (fun i3 s4 h5 => ?_)
    extract_lets +onlyGivenNames x6
    exact Keeps.ite (measured_keeps hm h5) (bump_keeps (hm.mono rfl) h5)
  · refine Keeps.ite ?_ hs
    extract_lets +onlyGivenNames x7 x8 x9 x10 x11
    exact Keeps.ite (bump_keeps (hm.mono rfl) hs) (Keeps.ite (elemUpdate_keeps hm hs) (elemUpdate_keeps hm hs))

theorem ingestHead_keeps {m : Nat} {r : State} {b0 : ℕ} {s : State} (hm : Sub 5647091720795140 m) (hs : Keeps m r s) :
    Keeps m r (ingestHead b0 s) := by
  unfold ingestHead
  split
  · rename_i y2 e3
    exact hs
  · rename_i y4 y5 e6
    extract_lets +onlyGivenNames x7
    have h8 : Keeps m r x7 := hwNext_keeps (hm.mono rfl) hs
    clear_value x7
    extract_lets +onlyGivenNames x9 x10
    have h11 : Keeps m r x10 := Keeps.ite h8 (Keeps.set_tkn (hm.mono rfl) h8)
    clear_value x10
    refine Keeps.ite (eventItem_keeps (hm.mono rfl) h11) ?_
    extract_lets +onlyGivenNames x12
    have h13 : Keeps m r x12 := by
      unfold x12
      split
      · rename_i y15 s16 e17
        have h18 : Keeps m r s16 := (KeepsP.of_eq e17 (hwWrite_keeps (hm.mono rfl) h11)).snd
        exact h18
      · rename_i y19 s20 e21
        have h22 : Keeps m r s20 := (KeepsP.of_eq e21 (hwWrite_keeps (hm.mono rfl) h11)).snd
        exact raise_keeps (hm.mono rfl) (bump_keeps (hm.mono rfl) h22)
    clear_value x12
    split
    · rename_i y24 y25 e26
      exact ingestFrame_keeps (hm.mono rfl) h13
    · rename_i y27 e28
      exact h13

theorem ingestAll_keeps {m : Nat} {r : State} {b0 : ℕ} {b1 : ℕ} {s : State} (hm : Sub 5647091720795140 m) (hs : Keeps m r s) :
    Keeps m r (ingestAll b0 b1 s) := by
  induction b1 generalizing b0 s hs with
  | zero =>
    unfold ingestAll
    exact hs
  | succ n ih =>
    unfold ingestAll
    split
    · rename_i y2 y3 e4
      refine Keeps.ite ?_ hs
      refine @ih _ _ ?_
      exact ingestHead_keeps hm hs
    · rename_i y5 e6
      exact hs

theorem zoneError_keeps {m : Nat} {r : State} {b0 : ℕ} {b1 : ℕ} {s : State} (hm : Sub 5629499534803972 m) (hs : Keeps m r s) :
    Keeps m r (zoneError b0 b1 s) := by
  unfold zoneError
  extract_lets +onlyGivenNames x1
  have h2 : Keeps m r x1 := setFld_keeps (hm.mono rfl) (setFld_keeps (hm.mono rfl) hs)
  clear_value x1
  extract_lets +onlyGivenNames x3
  have h4 : Keeps m r x3 := bump_keeps (hm.mono rfl) (raise_keeps (hm.mono rfl) h2)
  clear_value x3
  extract_lets +onlyGivenNames x5
  have h6 : Keeps m r x5 := setEng_keeps (hm.mono rfl) h4
  clear_value x5
  exact faultRaise_keeps (hm.mono rfl) (post_keeps (hm.mono rfl) h6)

theorem initZone_keeps {m : Nat} {r : State} {b0 : ℕ} {b1 : ZoneEntry} {s : State} (hm : Sub 524288 m) (hs : Keeps m r s) :
    Keeps m r (initZone b0 b1 s) := by
  unfold initZone
  extract_lets +onlyGivenNames x1 x2
  have h3 : Keeps m r x2 := setEng_keeps hm hs
  clear_value x2
  extract_lets +onlyGivenNames x4
  have h5 : Keeps m r x4 := setEng_keeps hm h3
  clear_value x4
  extract_lets +onlyGivenNames x6
  have h7 : Keeps m r x6 := setEng_keeps hm h5
  clear_value x6
  exact setEng_keeps hm (setEng_keeps hm h7)

theorem sampleElem_keeps {m : Nat} {r : State} {b0 : ℕ} {b1 : ZoneEntry} {b2 : ℕ} {b3 : ℕ} {s : State} (hm : Sub 524288 m)
    (hs : Keeps m r s) :
    KeepsP m r (sampleElem b0 b1 b2 b3 s) := by
  unfold sampleElem
  extract_lets +onlyGivenNames x1
  exact KeepsP.ite (KeepsP.mk' (setElem_keeps hm hs)) (KeepsP.mk' (setElem_keeps hm hs))

theorem snapshotZone_keeps {m : Nat} {r : State} {b0 : ℕ} {b1 : ZoneEntry} {b2 : Bool} {s : State} (hm : Sub 524288 m) (hs :
    Keeps m r s) :
    KeepsP m r (snapshotZone b0 b1 b2 s) := by
  unfold snapshotZone
  extract_lets +onlyGivenNames x1 x2
  have h3 : KeepsP m r x2 := by
    unfold x2
    refine KeepsP.foldl (KeepsP.mk' hs) (fun s5 a4 h6 => ?_)
    extract_lets +onlyGivenNames x7
    have h8 : KeepsP m r x7 := sampleElem_keeps hm h6.snd
    clear_value x7
    exact KeepsP.mk' h8.snd
  clear_value x2
  exact KeepsP.mk' h3.snd

theorem takeZone_keeps {m : Nat} {r : State} {b0 : ℕ} {b1 : ℕ} {b2 : List ZoneSnap} {s : State} (hm : Sub 5629499534803972 m)
    (hs : Keeps m r s) :
    KeepsP m r (takeZone b0 b1 b2 s) := by
  unfold takeZone
  extract_lets +onlyGivenNames x1 x2
  refine KeepsP.ite (KeepsP.mk' hs) ?_
  extract_lets +onlyGivenNames x3
  refine KeepsP.ite (KeepsP.mk' hs) ?_
  extract_lets +onlyGivenNames x4
  refine KeepsP.ite (KeepsP.mk' (zoneError_keeps hm hs)) ?_
  extract_lets +onlyGivenNames x5 x6
  have h7 : Keeps m r x6 := Keeps.ite (initZone_keeps (hm.mono rfl) hs) hs
  clear_value x6
  split
  · rename_i y9 y10 s11 e12
    have h13 : Keeps m r s11 := (KeepsP.of_eq e12 (snapshotZone_keeps (hm.mono rfl) h7)).snd
    exact KeepsP.mk' h13

theorem saturated_keeps {m : Nat} {r : State} {b0 : ℕ} {b1 : ℕ} {b2 : ℕ} {s : State} (hm : Sub 1125899906842628 m) (hs :
    Keeps m r s) :
    Keeps m r (saturated b0 b1 b2 s) := by
  unfold saturated
  refine Keeps.ite hs ?_
  extract_lets +onlyGivenNames x1
  have h2 : Keeps m r x1 := raise_keeps (hm.mono rfl) (bump_keeps (hm.mono rfl) hs)
  clear_value x1
  exact Keeps.ite h2 (raise_keeps (hm.mono rfl) (setFld_keeps (hm.mono rfl) (setFld_keeps (hm.mono rfl) h2)))

theorem zoneCorrect_keeps {m : Nat} {r : State} {b0 : ZoneSnap} {b1 : List ℤ} {b2 : List ℤ} {s : State} (hm : Sub
    1125899906842628 m) (hs : Keeps m r s) :
    KeepsP m r (zoneCorrect b0 b1 b2 s) := by
  unfold zoneCorrect
  refine KeepsP.ite (KeepsP.mk' hs) ?_
  extract_lets +onlyGivenNames x1 x2 x3 x4
  exact KeepsP.mk' (saturated_keeps hm (saturated_keeps hm hs))

theorem zoneTargets_keeps {m : Nat} {r : State} {b0 : ZoneSnap} {b1 : List ℤ} {s : State} (hm : Sub 1125899906842628 m) (hs :
    Keeps m r s) :
    KeepsP m r (zoneTargets b0 b1 s) := by
  unfold zoneTargets
  refine KeepsP.ite ?_ (KeepsP.mk' hs)
  extract_lets +onlyGivenNames x1 x2 x3
  exact KeepsP.mk' (saturated_keeps hm hs)

theorem runZone_keeps {m : Nat} {r : State} {b0 : ℕ} {b1 : ℕ} {b2 : ZoneSnap} {s : State} (hm : Sub 1125899907366916 m) (hs :
    Keeps m r s) :
    KeepsP m r (runZone b0 b1 b2 s) := by
  unfold runZone
  extract_lets +onlyGivenNames x1 x2 x3 x4 x5
  have h6 : KeepsP m r x5 := zoneCorrect_keeps (hm.mono rfl) hs
  clear_value x5
  extract_lets +onlyGivenNames x7 x8
  have h9 : KeepsP m r x8 := zoneTargets_keeps (hm.mono rfl) h6.snd
  clear_value x8
  extract_lets +onlyGivenNames x10
  have h11 : Keeps m r x10 := h9.snd
  clear_value x10
  extract_lets +onlyGivenNames x12 x13 x14
  have h15 : Keeps m r x14 := saturated_keeps (hm.mono rfl) h11
  clear_value x14
  extract_lets +onlyGivenNames x16 x17 x18
  have h19 : Keeps m r x18 := saturated_keeps (hm.mono rfl) h15
  clear_value x18
  extract_lets +onlyGivenNames x20 x21
  have h22 : Keeps m r x21 := saturated_keeps (hm.mono rfl) h19
  clear_value x21
  extract_lets +onlyGivenNames x23 x24 x25 x26 x27
  have h28 : Keeps m r x27 := saturated_keeps (hm.mono rfl) h22
  clear_value x27
  extract_lets +onlyGivenNames x29 x30
  have h31 : Keeps m r x30 := saturated_keeps (hm.mono rfl) h28
  clear_value x30
  extract_lets +onlyGivenNames x32
  have h33 : Keeps m r x32 := setEng_keeps (hm.mono rfl) h31
  clear_value x32
  extract_lets +onlyGivenNames x34
  have h35 : Keeps m r x34 := setEng_keeps (hm.mono rfl) h33
  clear_value x34
  extract_lets +onlyGivenNames x36
  have h37 : Keeps m r x36 := setEng_keeps (hm.mono rfl) h35
  clear_value x36
  extract_lets +onlyGivenNames x38
  have h39 : Keeps m r x38 := setEng_keeps (hm.mono rfl) h37
  clear_value x38
  exact KeepsP.mk' (setEng_keeps (hm.mono rfl) h39)

theorem publishFrame_keeps {m : Nat} {r : State} {b0 : ℕ} {b1 : List Byte} {s : State} (hm : Sub 5647091720262660 m) (hs :
    Keeps m r s) :
    Keeps m r (publishFrame b0 b1 s) := by
  unfold publishFrame
  split
  · rename_i y2 s3 e4
    have h5 : Keeps m r s3 := (KeepsP.of_eq e4 (hwWrite_keeps (hm.mono rfl) hs)).snd
    exact bump_keeps (hm.mono rfl) h5
  · rename_i y6 s7 e8
    have h9 : Keeps m r s7 := (KeepsP.of_eq e8 (hwWrite_keeps (hm.mono rfl) hs)).snd
    exact raise_keeps (hm.mono rfl) (bump_keeps (hm.mono rfl) h9)

theorem publishZone_keeps {m : Nat} {r : State} {b0 : ℕ} {b1 : ℕ} {b2 : ℕ} {b3 : ZoneSnap} {b4 : List ℤ} {s : State} (hm :
    Sub 7898891534996484 m) (hs : Keeps m r s) :
    Keeps m r (publishZone b0 b1 b2 b3 b4 s) := by
  unfold publishZone
  refine Keeps.ite hs ?_
  extract_lets +onlyGivenNames x1 x2
  have h3 : Keeps m r x2 := by
    unfold x2
    refine Keeps.foldl hs (fun s5 a4 h6 => ?_)
    exact Keeps.ite (handWired_keeps (hm.mono rfl) h6) h6
  clear_value x2
  extract_lets +onlyGivenNames x7 x8 x9 x10
  refine Keeps.upTo h3 (fun i11 s12 h13 => ?_)
  refine Keeps.ite ?_ h13
  refine Keeps.foldl h13 (fun s15 a14 h16 => ?_)
  exact publishFrame_keeps (hm.mono rfl) h16

theorem cycleStart_keeps {m : Nat} {r : State} {b0 : ℕ} {s : State} (hm : Sub 7898891535594508 m) (hs : Keeps m r s) :
    Keeps m r (cycleStart b0 s) := by
  unfold cycleStart
  extract_lets +onlyGivenNames x1
  have h2 : Keeps m r x1 := dirSwitch_keeps (hm.mono rfl) (transferShadows_keeps (hm.mono rfl) hs)
  clear_value x1
  extract_lets +onlyGivenNames x3
  have h4 : Keeps m r x3 := by
    unfold x3
    refine Keeps.ite ?_ h2
    refine Keeps.foldl h2 (fun s6 a5 h7 => ?_)
    exact ingestAll_keeps (hm.mono rfl) h7
  clear_value x3
  extract_lets +onlyGivenNames x8 x9
  split
  · rename_i y11 y12 s13 e14
    have h15 : Keeps m r s13 := (KeepsP.of_eq e14 (by
        refine KeepsP.foldl (KeepsP.mk' h4) (fun s17 a16 h18 => ?_)
        exact takeZone_keeps (hm.mono rfl) h18.snd
      )).snd
    extract_lets +onlyGivenNames x19
    have h20 : Keeps m r x19 := by
      unfold x19
      refine Keeps.foldl h15 (fun s22 a21 h23 => ?_)
      split
      · rename_i y25 y26 s27 e28
        have h29 : Keeps m r s27 := (KeepsP.of_eq e28 (runZone_keeps (hm.mono rfl) h23)).snd
        exact publishZone_keeps (hm.mono rfl) h29
    clear_value x19
    exact raise_keeps (hm.mono rfl) (setLfe_keeps (hm.mono rfl) h20)

theorem lfePulse_keeps {m : Nat} {r : State} {b0 : ℕ} {s : State} (hm : Sub 7898891535594508 m) (hs : Keeps m r s) :
    Keeps m r (lfePulse b0 s) := by
  unfold lfePulse
  exact Keeps.ite hs (Keeps.ite (cycleOverrun_keeps (hm.mono rfl) hs) (cycleStart_keeps hm hs))

theorem engAccess_keeps {m : Nat} {r : State} {b0 : Option Word} {s : State} (hm : Sub 1125899907366916 m) (hs : Keeps m r s) :
    KeepsP m r (engAccess b0 s) := by
  unfold engAccess
  extract_lets +onlyGivenNames x1 x2
  have h3 : Keeps m r x2 := bumpWrap_keeps (hm.mono rfl) hs
  clear_value x2
  split
  · rename_i y5
    exact KeepsP.mk' h3
  · rename_i y6 y7
    exact KeepsP.ite (KeepsP.mk' (cfgErr_keeps (hm.mono rfl) h3)) (KeepsP.mk' (setEng_keeps (hm.mono rfl) h3))

theorem lfeWritten_keeps {m : Nat} {r : State} {b0 : Origin} {b1 : ℕ} {b2 : Word} {o3 : State} {s : State} (hm : Sub
    7969260313326604 m) (hs : Keeps m r s) :
    Keeps m r (lfeWritten b0 b1 b2 o3 s) := by
  unfold lfeWritten
  refine Keeps.ite ?_ (Keeps.ite (Keeps.ite hs (dirSwitch_keeps (hm.mono rfl) hs)) (Keeps.ite (engAccess_keeps (hm.mono rfl)
      (setReg_keeps (hm.mono rfl) hs)).snd hs))
  extract_lets +onlyGivenNames x1
  have h2 : Keeps m r x1 := by
    unfold x1
    refine Keeps.ite ?_ ?_
    · exact Keeps.ite hs (blockStart_keeps (hm.mono rfl) hs)
    · exact Keeps.ite (pllSettle_keeps (hm.mono rfl) (dirSwitch_keeps (hm.mono rfl) (blockStop_keeps (hm.mono rfl) hs))) hs
  clear_value x1
  exact Keeps.ite (Keeps.ite (lfePulse_keeps (hm.mono rfl) h2) (Keeps.set_pwr (hm.mono rfl) h2)) h2

theorem lfeRead_keeps {m : Nat} {r : State} {b0 : Origin} {b1 : ℕ} {b2 : Word} {s : State} (hm : Sub 1125899907366916 m) (hs
    : Keeps m r s) :
    KeepsP m r (lfeRead b0 b1 b2 s) := by
  unfold lfeRead
  exact KeepsP.ite (engAccess_keeps hm hs) (KeepsP.mk' hs)

theorem cycleComplete_keeps {m : Nat} {r : State} {s : State} (hm : Sub 1196268685099020 m) (hs : Keeps m r s) :
    Keeps m r (cycleComplete s) := by
  unfold cycleComplete
  split
  · rename_i y2 e3
    exact hs
  · rename_i y4 y5 e6
    extract_lets +onlyGivenNames x7 x8
    have h9 : Keeps m r x8 := setFld_keeps (hm.mono rfl) (setFld_keeps (hm.mono rfl) hs)
    clear_value x8
    extract_lets +onlyGivenNames x10
    have h11 : Keeps m r x10 := setFld_keeps (hm.mono rfl) h9
    clear_value x10
    extract_lets +onlyGivenNames x12
    have h13 : Keeps m r x12 := lower_keeps (hm.mono rfl) (bump_keeps (hm.mono rfl) (raise_keeps (hm.mono rfl) h11))
    clear_value x12
    extract_lets +onlyGivenNames x14 x15
    have h16 : Keeps m r x15 := setLfe_keeps (hm.mono rfl) h13
    clear_value x15
    exact Keeps.ite h16 (pllSettle_keeps (hm.mono rfl) (dirSwitch_keeps (hm.mono rfl) (blockStop_keeps (hm.mono rfl) h16)))

theorem takePulse_keeps {m : Nat} {r : State} {b0 : ℕ} {s : State} (hm : Sub 2048 m) (hs : Keeps m r s) :
    KeepsP m r (takePulse b0 s) := by
  unfold takePulse
  exact KeepsP.mk' (Keeps.set_ntb (hm.mono rfl) hs)

theorem execCycleOverrun_keeps {m : Nat} {r : State} {s : State} (hm : Sub 7898891535596556 m) (hs : Keeps m r s) :
    NextKeeps m r (execCycleOverrun s) := by
  unfold execCycleOverrun
  refine NextKeeps.next ?_
  refine Keeps.ite hs ?_
  split
  · rename_i y2 y3 s4 e5
    have h6 : Keeps m r s4 := (KeepsP.of_eq e5 (takePulse_keeps (hm.mono rfl) hs)).snd
    exact lfePulse_keeps (hm.mono rfl) h6
  · rename_i y7 s8 e9
    have h10 : Keeps m r s8 := (KeepsP.of_eq e9 (takePulse_keeps (hm.mono rfl) hs)).snd
    exact h10

theorem execEngineWordAccess_keeps {m : Nat} {r : State} {b0 : Origin} {b1 : Option Word} {s : State} (hm : Sub
    7970359824954636 m) (hs : Keeps m r s) :
    NextKeeps m r (execEngineWordAccess b0 b1 s) := by
  unfold execEngineWordAccess
  refine NextKeeps.next ?_
  split
  · rename_i y2 y3
    refine coreWrite_keeps (hm.mono rfl) (fun a4 a5 a6 a7 a8 a9 => ?_) hs
    exact lfeWritten_keeps (hm.mono rfl) a9
  · rename_i y10
    refine coreRead_keeps (hm.mono rfl) (fun a11 a12 a13 a14 a15 => ?_) hs
    exact lfeRead_keeps (hm.mono rfl) a15

theorem execInnerCycleStart_keeps {m : Nat} {r : State} {s : State} (hm : Sub 7898891535596556 m) (hs : Keeps m r s) :
    NextKeeps m r (execInnerCycleStart s) := by
  unfold execInnerCycleStart
  refine NextKeeps.next ?_
  refine Keeps.ite hs ?_
  split
  · rename_i y2 y3 s4 e5
    have h6 : Keeps m r s4 := (KeepsP.of_eq e5 (takePulse_keeps (hm.mono rfl) hs)).snd
    exact lfePulse_keeps (hm.mono rfl) h6
  · rename_i y7 s8 e9
    have h10 : Keeps m r s8 := (KeepsP.of_eq e9 (takePulse_keeps (hm.mono rfl) hs)).snd
    exact h10

theorem execLfeGo_keeps {m : Nat} {r : State} {b0 : Origin} {s : State} (hm : Sub 7970359824954636 m) (hs : Keeps m r s) :
    NextKeeps m r (execLfeGo b0 s) := by
  unfold execLfeGo
  refine NextKeeps.next ?_
  refine coreWrite_keeps (hm.mono rfl) (fun a1 a2 a3 a4 a5 a6 => ?_) hs
  exact lfeWritten_keeps (hm.mono rfl) a6

theorem execLfeIngest_keeps {m : Nat} {r : State} {b0 : ℕ} {s : State} (hm : Sub 5647091720795140 m) (hs : Keeps m r s) :
    NextKeeps m r (execLfeIngest b0 s) := by
  unfold execLfeIngest
  refine NextKeeps.next ?_
  split
  · rename_i y2 y3 e4
    exact Keeps.ite (ingestHead_keeps hm hs) hs
  · rename_i y5 e6
    exact hs

theorem execLfeRunWrite_keeps {m : Nat} {r : State} {b0 : Origin} {b1 : Bool} {s : State} (hm : Sub 7970359824954636 m) (hs :
    Keeps m r s) :
    NextKeeps m r (execLfeRunWrite b0 b1 s) := by
  unfold execLfeRunWrite
  refine NextKeeps.next ?_
  refine coreWrite_keeps (hm.mono rfl) (fun a1 a2 a3 a4 a5 a6 => ?_) hs
  exact lfeWritten_keeps (hm.mono rfl) a6

end Sys2Proof.Machine
end

