-- ==== Sys2Proof/Laws/KeepsMeter.lean ====
section
/-!
SUPPORT. What each operation keeps (`Keeps`), one lemma per operation.
The operations of: Meter, Icu, Pads, Tokens, Backhaul.
-/

namespace Sys2Proof.Machine

/-! ### Meter -/

theorem setMeterCopy_keeps {m : Nat} {r : State} {b0 : ℕ} {b1 : Option MeterImage} {s : State} (hm : Sub 8589934592 m) (hs :
    Keeps m r s) :
    Keeps m r (setMeterCopy b0 b1 s) := by
  unfold setMeterCopy
  exact Keeps.set_nv (hm.mono rfl) hs

theorem setMtr_keeps {m : Nat} {r : State} {b0 : MtrState} {s : State} (hm : Sub 2097152 m) (hs : Keeps m r s) :
    Keeps m r (setMtr b0 s) := by
  unfold setMtr
  exact Keeps.set_mtr (hm.mono rfl) hs

theorem saveDone_keeps {m : Nat} {r : State} {s : State} (hm : Sub 562958545453060 m) (hs : Keeps m r s) :
    Keeps m r (saveDone s) := by
  unfold saveDone
  split
  · rename_i y2 e3
    exact hs
  · rename_i y4 y5 y6 e7
    extract_lets +onlyGivenNames x8 x9
    have h10 : Keeps m r x9 := setMeterCopy_keeps (hm.mono rfl) (setMtr_keeps (hm.mono rfl) hs)
    clear_value x9
    exact raise_keeps (hm.mono rfl) (lower_keeps (hm.mono rfl) (setFld_keeps (hm.mono rfl) h10))

theorem meterShow_keeps {m : Nat} {r : State} {s : State} (hm : Sub 2097152 m) (hs : Keeps m r s) :
    Keeps m r (meterShow s) := by
  unfold meterShow
  exact setMtr_keeps hm hs

theorem meterFresh_keeps {m : Nat} {r : State} {s : State} (hm : Sub 2097152 m) (hs : Keeps m r s) :
    Keeps m r (meterFresh s) := by
  unfold meterFresh
  exact meterShow_keeps hm (setMtr_keeps hm hs)

theorem meterLoad_keeps {m : Nat} {r : State} {s : State} (hm : Sub 5066549582889988 m) (hs : Keeps m r s) :
    Keeps m r (meterLoad s) := by
  unfold meterLoad
  refine Keeps.ite (cfgErr_keeps (hm.mono rfl) hs) ?_
  extract_lets +onlyGivenNames x1
  clear_value x1
  split
  · rename_i y3
    exact post_keeps (hm.mono rfl) (setFld_keeps (hm.mono rfl) (meterFresh_keeps (hm.mono rfl) hs))
  · rename_i y4 y5
    extract_lets +onlyGivenNames x6 x7 x8
    have h9 : Keeps m r x8 := meterShow_keeps (hm.mono rfl) (setMtr_keeps (hm.mono rfl) hs)
    clear_value x8
    extract_lets +onlyGivenNames x10
    exact post_keeps (hm.mono rfl) (setFld_keeps (hm.mono rfl) (setFld_keeps (hm.mono rfl) h9))

theorem meterClear_keeps {m : Nat} {r : State} {s : State} (hm : Sub 5066549582889988 m) (hs : Keeps m r s) :
    Keeps m r (meterClear s) := by
  unfold meterClear
  exact Keeps.ite (cfgErr_keeps (hm.mono rfl) hs) (post_keeps (hm.mono rfl) (meterFresh_keeps (hm.mono rfl) hs))

theorem setMfdr_keeps {m : Nat} {r : State} {b0 : ℕ} {b1 : MFeeder} {s : State} (hm : Sub 2097152 m) (hs : Keeps m r s) :
    Keeps m r (setMfdr b0 b1 s) := by
  unfold setMfdr
  exact setMtr_keeps hm hs

theorem closeAll_keeps {m : Nat} {r : State} {b0 : Bool} {b1 : Bool} {s : State} (hm : Sub 562949955518476 m) (hs : Keeps m r
    s) :
    Keeps m r (closeAll b0 b1 s) := by
  unfold closeAll
  refine Keeps.ite hs ?_
  extract_lets +onlyGivenNames x1
  have h2 : Keeps m r x1 := transferShadows_keeps (hm.mono rfl) hs
  clear_value x1
  extract_lets +onlyGivenNames x3 x4
  refine Keeps.foldl h2 (fun s6 a5 h7 => ?_)
  exact setMfdr_keeps (hm.mono rfl) h7

theorem saveStart_keeps {m : Nat} {r : State} {b0 : ℕ} {b1 : Bool} {s : State} (hm : Sub 562958545453060 m) (hs : Keeps m r s) :
    Keeps m r (saveStart b0 b1 s) := by
  unfold saveStart
  extract_lets +onlyGivenNames x1
  exact setMeterCopy_keeps (hm.mono rfl) (raise_keeps (hm.mono rfl) (setMtr_keeps (hm.mono rfl) hs))

theorem meterSave_keeps {m : Nat} {r : State} {s : State} (hm : Sub 562958545453060 m) (hs : Keeps m r s) :
    Keeps m r (meterSave s) := by
  unfold meterSave
  exact Keeps.ite (cfgErr_keeps (hm.mono rfl) hs) (saveStart_keeps hm hs)

theorem meterDrive_keeps {m : Nat} {r : State} {s : State} (hm : Sub 562949953421316 m) (hs : Keeps m r s) :
    Keeps m r (meterDrive s) := by
  unfold meterDrive
  extract_lets +onlyGivenNames x1
  exact setBool_keeps (hm.mono rfl) hs

theorem meterStart_keeps {m : Nat} {r : State} {s : State} (hm : Sub 5066549582889988 m) (hs : Keeps m r s) :
    Keeps m r (meterStart s) := by
  unfold meterStart
  extract_lets +onlyGivenNames x1
  have h2 : Keeps m r x1 := meterDrive_keeps (hm.mono rfl) (blockStart_keeps (hm.mono rfl) hs)
  clear_value x1
  extract_lets +onlyGivenNames x3
  refine Keeps.foldl h2 (fun s5 a4 h6 => ?_)
  extract_lets +onlyGivenNames x7 x8
  split
  · rename_i y10 e11
    exact setMfdr_keeps (hm.mono rfl) h6
  · rename_i y12 y13 e14
    extract_lets +onlyGivenNames x15
    refine Keeps.ite (setMfdr_keeps (hm.mono rfl) h6) ?_
    extract_lets +onlyGivenNames x16 x17
    have h18 : Keeps m r x17 := setMfdr_keeps (hm.mono rfl) h6
    clear_value x17
    exact Keeps.ite (post_keeps (hm.mono rfl) h18) h18

theorem meterHalt_keeps {m : Nat} {r : State} {s : State} (hm : Sub 562949955518476 m) (hs : Keeps m r s) :
    Keeps m r (meterHalt s) := by
  unfold meterHalt
  refine Keeps.ite ?_ hs
  extract_lets +onlyGivenNames x1 x2
  have h3 : Keeps m r x2 := setMtr_keeps (hm.mono rfl) hs
  clear_value x2
  exact meterDrive_keeps (hm.mono rfl) (lower_keeps (hm.mono rfl) (blockStop_keeps (hm.mono rfl) h3))

theorem meterStop_keeps {m : Nat} {r : State} {s : State} (hm : Sub 562949955518476 m) (hs : Keeps m r s) :
    Keeps m r (meterStop s) := by
  unfold meterStop
  refine Keeps.ite (meterHalt_keeps hm hs) ?_
  refine meterHalt_keeps hm ?_
  refine Keeps.foldl hs (fun s2 a1 h3 => ?_)
  exact setMfdr_keeps (hm.mono rfl) h3

theorem mtrWritten_keeps {m : Nat} {r : State} {b0 : Origin} {b1 : ℕ} {b2 : Word} {o3 : State} {s : State} (hm : Sub
    4722366481778725618700 m) (hs : Keeps m r s) :
    Keeps m r (mtrWritten b0 b1 b2 o3 s) := by
  unfold mtrWritten
  refine Keeps.ite ?_ (Keeps.ite (setMtr_keeps (hm.mono rfl) (setReg_keeps (regMask.any (hm.mono rfl)) hs)) hs)
  extract_lets +onlyGivenNames x1
  have h2 : Keeps m r x1 := Keeps.ite (meterLoad_keeps (hm.mono rfl) hs) hs
  clear_value x1
  extract_lets +onlyGivenNames x3
  have h4 : Keeps m r x3 := Keeps.ite (meterClear_keeps (hm.mono rfl) h2) h2
  clear_value x3
  extract_lets +onlyGivenNames x5
  have h6 : Keeps m r x5 := Keeps.ite (closeAll_keeps (hm.mono rfl) h4) h4
  clear_value x5
  extract_lets +onlyGivenNames x7
  have h8 : Keeps m r x7 := Keeps.ite (meterSave_keeps (hm.mono rfl) h6) h6
  clear_value x7
  exact Keeps.ite (Keeps.ite h8 (meterStart_keeps (hm.mono rfl) h8)) (Keeps.ite (meterStop_keeps (hm.mono rfl) h8) h8)

theorem routePulse2_keeps {m : Nat} {r : State} {s : State} (hm : Sub 562949955518469 m) (hs : Keeps m r s) :
    Keeps m r (routePulse2 s) := by
  unfold routePulse2
  refine Keeps.ite hs ?_
  refine Keeps.ite ?_ ?_
  · extract_lets +onlyGivenNames x1 x2
    have h3 : Keeps m r x2 := setMtr_keeps (hm.mono rfl) (raise_keeps (hm.mono rfl) hs)
    clear_value x2
    refine Keeps.foldl h3 (fun s5 a4 h6 => ?_)
    extract_lets +onlyGivenNames x7 x8
    exact setMfdr_keeps (hm.mono rfl) h6
  · extract_lets +onlyGivenNames x9
    split
    · rename_i y11 y12 s13 e14
      have h15 : Keeps m r s13 := (KeepsP.of_eq e14 (KeepsP.ite (KeepsP.mk' hs) (takeFree_keeps (hm.mono rfl) hs))).snd
      extract_lets +onlyGivenNames x16 x17
      have h18 : Keeps m r x17 := setFld_keeps (hm.mono rfl) (setFld_keeps (hm.mono rfl) h15)
      clear_value x17
      exact setMtr_keeps (hm.mono rfl) h18

theorem routePulse3_keeps {m : Nat} {r : State} {b0 : Bool} {s : State} (hm : Sub 562949955518476 m) (hs : Keeps m r s) :
    Keeps m r (routePulse3 b0 s) := by
  unfold routePulse3
  exact closeAll_keeps hm hs

theorem powerFactor_keeps {m : Nat} {r : State} {b0 : ℤ} {b1 : ℤ} {s : State} (hm : Sub 1 m) (hs : Keeps m r s) :
    KeepsP m r (powerFactor b0 b1 s) := by
  unfold powerFactor
  refine KeepsP.ite ?_ (KeepsP.mk' hs)
  split
  · rename_i y2 y3 s4 e5
    have h6 : Keeps m r s4 := (KeepsP.of_eq e5 (takeFree_keeps (hm.mono rfl) hs)).snd
    exact KeepsP.mk' h6

theorem meterValue_keeps {m : Nat} {r : State} {b0 : ℕ} {s : State} (hm : Sub 1 m) (hs : Keeps m r s) :
    KeepsP m r (meterValue b0 s) := by
  unfold meterValue
  extract_lets +onlyGivenNames x1 x2 x3 x4 x5 x6 x7
  have h8 : ∀ a9 s10, KeepsP m r (x7 a9 s10) := by
    intro a9 s10
    unfold x7
    extract_lets +onlyGivenNames x12
    exact KeepsP.mk' hs
  clear_value x7
  refine KeepsP.ite ?_ ?_
  · extract_lets +onlyGivenNames x13 x14
    refine KeepsP.ite (@h8 _ _) ?_
    refine KeepsP.ite (KeepsP.mk' hs) ?_
    refine KeepsP.ite (KeepsP.mk' hs) ?_
    refine KeepsP.ite (KeepsP.mk' hs) ?_
    refine KeepsP.ite (KeepsP.mk' hs) ?_
    refine KeepsP.ite (KeepsP.mk' hs) ?_
    refine KeepsP.ite ?_ (KeepsP.mk' hs)
    split
    · rename_i y16 y17 s18 e19
      have h20 : Keeps m r s18 := (KeepsP.of_eq e19 (powerFactor_keeps hm hs)).snd
      exact KeepsP.mk' h20
  · refine KeepsP.ite ?_ ?_
    · extract_lets +onlyGivenNames x21 x22 x23
      refine KeepsP.ite (@h8 _ _) ?_
      refine KeepsP.ite (KeepsP.mk' hs) ?_
      refine KeepsP.ite (KeepsP.mk' hs) ?_
      refine KeepsP.ite (KeepsP.mk' hs) ?_
      refine KeepsP.ite (KeepsP.mk' hs) ?_
      refine KeepsP.ite ?_ (KeepsP.ite (KeepsP.mk' hs) (KeepsP.ite (KeepsP.mk' hs) (KeepsP.mk' hs)))
      split
      · rename_i y25 y26 s27 e28
        have h29 : Keeps m r s27 := (KeepsP.of_eq e28 (powerFactor_keeps hm hs)).snd
        exact KeepsP.mk' h29
    · refine KeepsP.ite ?_ (KeepsP.mk' hs)
      extract_lets +onlyGivenNames x30 x31
      exact KeepsP.ite (KeepsP.mk' hs) (KeepsP.ite (KeepsP.mk' hs) (KeepsP.ite (KeepsP.mk' hs) (KeepsP.mk' hs)))

theorem mtrRead_keeps {m : Nat} {r : State} {b0 : Origin} {b1 : ℕ} {b2 : Word} {s : State} (hm : Sub 2097153 m) (hs : Keeps m
    r s) :
    KeepsP m r (mtrRead b0 b1 b2 s) := by
  unfold mtrRead
  extract_lets +onlyGivenNames x1 x2
  refine KeepsP.ite (KeepsP.mk' hs) ?_
  refine KeepsP.ite ?_ (KeepsP.ite (KeepsP.mk' hs) (KeepsP.ite (KeepsP.mk' hs) (KeepsP.mk' hs)))
  split
  · rename_i y4 y5 s6 e7
    have h8 : Keeps m r s6 := (KeepsP.of_eq e7 (meterValue_keeps (hm.mono rfl) hs)).snd
    extract_lets +onlyGivenNames x9 x10
    exact KeepsP.mk' (setMtr_keeps (hm.mono rfl) h8)

theorem meterFlt_keeps {m : Nat} {r : State} {s : State} (hm : Sub 5066549580792836 m) (hs : Keeps m r s) :
    Keeps m r (meterFlt s) := by
  unfold meterFlt
  exact post_keeps (hm.mono rfl) (raise_keeps (hm.mono rfl) hs)

theorem inputsLive_keeps {m : Nat} {r : State} {b0 : List ℕ} {s : State} (hm : Sub 2097152 m) (hs : Keeps m r s) :
    Keeps m r (inputsLive b0 s) := by
  unfold inputsLive
  extract_lets +onlyGivenNames x1 x2
  have h3 : Keeps m r x2 := setMtr_keeps hm hs
  clear_value x2
  refine Keeps.foldl h3 (fun s5 a4 h6 => ?_)
  extract_lets +onlyGivenNames x7
  exact setMfdr_keeps hm h6

theorem clockFault_keeps {m : Nat} {r : State} {b0 : ℕ} {s : State} (hm : Sub 5066549582955524 m) (hs : Keeps m r s) :
    Keeps m r (clockFault b0 s) := by
  unfold clockFault
  refine Keeps.ite hs ?_
  extract_lets +onlyGivenNames x1 x2
  have h3 : Keeps m r x2 := setMtr_keeps (hm.mono rfl) hs
  clear_value x2
  extract_lets +onlyGivenNames x4
  exact faultRaise_keeps (hm.mono rfl) (meterFlt_keeps (hm.mono rfl) (inputsLive_keeps (hm.mono rfl) (raiseBit_keeps (hm.mono
      rfl) h3)))

theorem feederClose_keeps {m : Nat} {r : State} {b0 : ℕ} {b1 : ClosePend} {s : State} (hm : Sub 562949955518484 m) (hs :
    Keeps m r s) :
    Keeps m r (feederClose b0 b1 s) := by
  unfold feederClose
  extract_lets +onlyGivenNames x1 x2
  refine Keeps.ite (raise_keeps (hm.mono rfl) (bump_keeps (hm.mono rfl) (setMfdr_keeps (hm.mono rfl) hs))) ?_
  extract_lets +onlyGivenNames x3 x4
  have h5 : Keeps m r x4 := setBytes_keeps (hm.mono rfl) hs
  clear_value x4
  extract_lets +onlyGivenNames x6
  have h7 : Keeps m r x6 := setFld_keeps (hm.mono rfl) h5
  clear_value x6
  extract_lets +onlyGivenNames x8 x9
  have h10 : Keeps m r x9 := setMtr_keeps (hm.mono rfl) h7
  clear_value x9
  extract_lets +onlyGivenNames x11 x12
  exact raise_keeps (hm.mono rfl) (setMfdr_keeps (hm.mono rfl) h10)

theorem cycleDone_keeps {m : Nat} {r : State} {b0 : ℕ} {s : State} (hm : Sub 562949955518492 m) (hs : Keeps m r s) :
    Keeps m r (cycleDone b0 s) := by
  unfold cycleDone
  extract_lets +onlyGivenNames x1
  have h2 : Keeps m r x1 := by
    unfold x1
    split
    · rename_i y4 y5 e6
      exact feederClose_keeps (hm.mono rfl) hs
    · rename_i y7 e8
      exact hs
  clear_value x1
  exact Keeps.ite h2 (meterHalt_keeps (hm.mono rfl) (setMfdr_keeps (hm.mono rfl) h2))

theorem inputWindows_keeps {m : Nat} {r : State} {b0 : ℕ} {b1 : ℕ} {b2 : CycleObs} {s : State} (hm : Sub 2097152 m) (hs :
    Keeps m r s) :
    Keeps m r (inputWindows b0 b1 b2 s) := by
  unfold inputWindows
  refine Keeps.foldl hs (fun s2 a1 h3 => ?_)
  extract_lets +onlyGivenNames x4 x5 x6
  exact setMtr_keeps hm h3

theorem cycleSort_keeps {m : Nat} {r : State} {b0 : ℕ} {b1 : ℕ} {b2 : CycleKind} {b3 : CycleObs} {s : State} (hm : Sub
    2097152 m) (hs : Keeps m r s) :
    Keeps m r (cycleSort b0 b1 b2 b3 s) := by
  unfold cycleSort
  extract_lets +onlyGivenNames x1 x2 x3 x4 x5
  have h6 : Keeps m r x5 := by
    unfold x5
    refine Keeps.foldl hs (fun s8 a7 h9 => ?_)
    exact setMtr_keeps hm h9
  clear_value x5
  extract_lets +onlyGivenNames x10
  have h11 : Keeps m r x10 := by
    unfold x10
    refine Keeps.foldl h6 (fun s13 a12 h14 => ?_)
    extract_lets +onlyGivenNames x15 x16
    exact setMtr_keeps hm h14
  clear_value x10
  extract_lets +onlyGivenNames x17 x18 x19 x20 x21 x22 x23
  have h24 : Keeps m r x23 := setMtr_keeps hm h11
  clear_value x23
  extract_lets +onlyGivenNames x25
  have h26 : Keeps m r x25 := inputWindows_keeps hm h24
  clear_value x25
  extract_lets +onlyGivenNames x27 x28 x29
  exact setMfdr_keeps hm h26

theorem meterWarning_keeps {m : Nat} {r : State} {s : State} (hm : Sub 562958545453060 m) (hs : Keeps m r s) :
    Keeps m r (meterWarning s) := by
  unfold meterWarning
  split
  · rename_i y2 y3 y4 e5
    exact saveStart_keeps hm (bump_keeps (hm.mono rfl) hs)
  · rename_i y6 e7
    exact saveStart_keeps hm hs

theorem execClockFault_keeps {m : Nat} {r : State} {b0 : ℕ} {s : State} (hm : Sub 5066549582955524 m) (hs : Keeps m r s) :
    NextKeeps m r (execClockFault b0 s) := by
  unfold execClockFault
  exact NextKeeps.next (clockFault_keeps hm hs)

theorem faultLiveEnd_keeps {m : Nat} {r : State} {b0 : Bool} {b1 : ℕ} {s : State} (hm : Sub 2162688 m) (hs : Keeps m r s) :
    Keeps m r (faultLiveEnd b0 b1 s) := by
  unfold faultLiveEnd
  refine Keeps.ite ?_ (Keeps.ite hs (faultGone_keeps (hm.mono rfl) (setMtr_keeps (hm.mono rfl) hs)))
  refine Keeps.ite hs ?_
  extract_lets +onlyGivenNames x1 x2
  have h3 : Keeps m r x2 := setMtr_keeps (hm.mono rfl) hs
  clear_value x2
  exact faultGone_keeps (hm.mono rfl) h3

theorem execFaultLiveEnd_keeps {m : Nat} {r : State} {b0 : Bool} {b1 : ℕ} {s : State} (hm : Sub 2162688 m) (hs : Keeps m r s) :
    NextKeeps m r (execFaultLiveEnd b0 b1 s) := by
  unfold execFaultLiveEnd
  exact NextKeeps.next (faultLiveEnd_keeps hm hs)

theorem lineCycleEnd_keeps {m : Nat} {r : State} {b0 : ℕ} {b1 : CycleObs} {s : State} (hm : Sub 562949955518492 m) (hs :
    Keeps m r s) :
    Keeps m r (lineCycleEnd b0 b1 s) := by
  unfold lineCycleEnd
  extract_lets +onlyGivenNames x1 x2
  refine Keeps.ite hs ?_
  extract_lets +onlyGivenNames x3
  have h4 : Keeps m r x3 := Keeps.ite (setMfdr_keeps (hm.mono rfl) hs) hs
  clear_value x3
  extract_lets +onlyGivenNames x5
  have h6 : Keeps m r x5 := cycleSort_keeps (hm.mono rfl) h4
  clear_value x5
  extract_lets +onlyGivenNames x7 x8
  have h9 : Keeps m r x8 := Keeps.ite (setMfdr_keeps (hm.mono rfl) h6) h6
  clear_value x8
  exact cycleDone_keeps hm h9

theorem execLineCycleEnd_keeps {m : Nat} {r : State} {b0 : ℕ} {b1 : CycleObs} {s : State} (hm : Sub 562949955518492 m) (hs :
    Keeps m r s) :
    NextKeeps m r (execLineCycleEnd b0 b1 s) := by
  unfold execLineCycleEnd
  exact NextKeeps.next (lineCycleEnd_keeps hm hs)

theorem lineCycleTimeout_keeps {m : Nat} {r : State} {b0 : ℕ} {b1 : CycleObs} {s : State} (hm : Sub 562949955518492 m) (hs :
    Keeps m r s) :
    Keeps m r (lineCycleTimeout b0 b1 s) := by
  unfold lineCycleTimeout
  exact Keeps.ite hs (cycleDone_keeps hm (cycleSort_keeps (hm.mono rfl) hs))

theorem execLineCycleTimeout_keeps {m : Nat} {r : State} {b0 : ℕ} {b1 : CycleObs} {s : State} (hm : Sub 562949955518492 m)
    (hs : Keeps m r s) :
    NextKeeps m r (execLineCycleTimeout b0 b1 s) := by
  unfold execLineCycleTimeout
  exact NextKeeps.next (lineCycleTimeout_keeps hm hs)

theorem execMeterClear_keeps {m : Nat} {r : State} {b0 : Origin} {s : State} (hm : Sub 4722366481778725618956 m) (hs : Keeps
    m r s) :
    NextKeeps m r (execMeterClear b0 s) := by
  unfold execMeterClear
  refine NextKeeps.next ?_
  refine coreWrite_keeps (hm.mono rfl) (fun a1 a2 a3 a4 a5 a6 => ?_) hs
  exact mtrWritten_keeps (hm.mono rfl) a6

theorem execMeterClose_keeps {m : Nat} {r : State} {b0 : Origin} {s : State} (hm : Sub 4722366481778725618956 m) (hs : Keeps
    m r s) :
    NextKeeps m r (execMeterClose b0 s) := by
  unfold execMeterClose
  refine NextKeeps.next ?_
  refine coreWrite_keeps (hm.mono rfl) (fun a1 a2 a3 a4 a5 a6 => ?_) hs
  exact mtrWritten_keeps (hm.mono rfl) a6

theorem execMeterLoad_keeps {m : Nat} {r : State} {b0 : Origin} {s : State} (hm : Sub 4722366481778725618956 m) (hs : Keeps m
    r s) :
    NextKeeps m r (execMeterLoad b0 s) := by
  unfold execMeterLoad
  refine NextKeeps.next ?_
  refine coreWrite_keeps (hm.mono rfl) (fun a1 a2 a3 a4 a5 a6 => ?_) hs
  exact mtrWritten_keeps (hm.mono rfl) a6

theorem execMeterRunWrite_keeps {m : Nat} {r : State} {b0 : Origin} {b1 : Bool} {s : State} (hm : Sub 4722366481778725618956
    m) (hs : Keeps m r s) :
    NextKeeps m r (execMeterRunWrite b0 b1 s) := by
  unfold execMeterRunWrite
  refine NextKeeps.next ?_
  refine coreWrite_keeps (hm.mono rfl) (fun a1 a2 a3 a4 a5 a6 => ?_) hs
  exact mtrWritten_keeps (hm.mono rfl) a6

theorem execMeterSave_keeps {m : Nat} {r : State} {b0 : Origin} {s : State} (hm : Sub 4722366481778725618956 m) (hs : Keeps m
    r s) :
    NextKeeps m r (execMeterSave b0 s) := by
  unfold execMeterSave
  refine NextKeeps.next ?_
  refine coreWrite_keeps (hm.mono rfl) (fun a1 a2 a3 a4 a5 a6 => ?_) hs
  exact mtrWritten_keeps (hm.mono rfl) a6

theorem execMeterSaveDone_keeps {m : Nat} {r : State} {s : State} (hm : Sub 562958545453060 m) (hs : Keeps m r s) :
    NextKeeps m r (execMeterSaveDone s) := by
  unfold execMeterSaveDone
  exact NextKeeps.next (saveDone_keeps hm hs)

theorem execMeterValueRead_keeps {m : Nat} {r : State} {b0 : Origin} {s : State} (hm : Sub 5067649094518021 m) (hs : Keeps m
    r s) :
    NextKeeps m r (execMeterValueRead b0 s) := by
  unfold execMeterValueRead
  refine NextKeeps.next ?_
  refine coreRead_keeps (hm.mono rfl) (fun a1 a2 a3 a4 a5 => ?_) hs
  exact mtrRead_keeps (hm.mono rfl) a5

theorem inputStuck_keeps {m : Nat} {r : State} {b0 : ℕ} {s : State} (hm : Sub 5066549582955524 m) (hs : Keeps m r s) :
    Keeps m r (inputStuck b0 s) := by
  unfold inputStuck
  exact Keeps.ite hs (faultRaise_keeps (hm.mono rfl) (meterFlt_keeps (hm.mono rfl) (inputsLive_keeps (hm.mono rfl)
      (raiseBit_keeps (hm.mono rfl) hs))))

theorem execModulatorStuck_keeps {m : Nat} {r : State} {b0 : ℕ} {s : State} (hm : Sub 5066549582955524 m) (hs : Keeps m r s) :
    NextKeeps m r (execModulatorStuck b0 s) := by
  unfold execModulatorStuck
  exact NextKeeps.next (inputStuck_keeps hm hs)

theorem overRange_keeps {m : Nat} {r : State} {b0 : ℕ} {b1 : ℕ} {s : State} (hm : Sub 5066549582889988 m) (hs : Keeps m r s) :
    Keeps m r (overRange b0 b1 s) := by
  unfold overRange
  refine Keeps.ite hs ?_
  extract_lets +onlyGivenNames x1
  have h2 : Keeps m r x1 := raise_keeps (hm.mono rfl) (raiseBit_keeps (hm.mono rfl) hs)
  clear_value x1
  extract_lets +onlyGivenNames x3
  have h4 : Keeps m r x3 := by
    unfold x3
    refine Keeps.foldl h2 (fun s6 a5 h7 => ?_)
    exact Keeps.ite (setMfdr_keeps (hm.mono rfl) h7) h7
  clear_value x3
  exact post_keeps (hm.mono rfl) h4

theorem execOverRange_keeps {m : Nat} {r : State} {b0 : ℕ} {b1 : ℕ} {s : State} (hm : Sub 5066549582889988 m) (hs : Keeps m r
    s) :
    NextKeeps m r (execOverRange b0 b1 s) := by
  unfold execOverRange
  exact NextKeeps.next (overRange_keeps hm hs)

theorem profileCopy_keeps {m : Nat} {r : State} {s : State} (hm : Sub 562958543355908 m) (hs : Keeps m r s) :
    Keeps m r (profileCopy s) := by
  unfold profileCopy
  extract_lets +onlyGivenNames x1
  refine Keeps.ite hs ?_
  extract_lets +onlyGivenNames x2
  exact setFld_keeps (hm.mono rfl) (Keeps.set_nv (hm.mono rfl) hs)

theorem pseudoEnd_keeps {m : Nat} {r : State} {b0 : ℕ} {b1 : CycleObs} {s : State} (hm : Sub 562949955518492 m) (hs : Keeps m
    r s) :
    Keeps m r (pseudoEnd b0 b1 s) := by
  unfold pseudoEnd
  exact Keeps.ite hs (cycleDone_keeps hm (cycleSort_keeps (hm.mono rfl) hs))

theorem execPseudoCycleEnd_keeps {m : Nat} {r : State} {b0 : ℕ} {b1 : CycleObs} {s : State} (hm : Sub 562949955518492 m) (hs
    : Keeps m r s) :
    NextKeeps m r (execPseudoCycleEnd b0 b1 s) := by
  unfold execPseudoCycleEnd
  exact NextKeeps.next (pseudoEnd_keeps hm hs)

theorem pseudoEntry_keeps {m : Nat} {r : State} {b0 : ℕ} {s : State} (hm : Sub 562949955518468 m) (hs : Keeps m r s) :
    Keeps m r (pseudoEntry b0 s) := by
  unfold pseudoEntry
  extract_lets +onlyGivenNames x1
  exact Keeps.ite hs (raise_keeps (hm.mono rfl) (setMfdr_keeps (hm.mono rfl) hs))

theorem execPseudoCycleEntry_keeps {m : Nat} {r : State} {b0 : ℕ} {s : State} (hm : Sub 562949955518468 m) (hs : Keeps m r s) :
    NextKeeps m r (execPseudoCycleEntry b0 s) := by
  unfold execPseudoCycleEntry
  exact NextKeeps.next (pseudoEntry_keeps hm hs)

/-! ### Icu -/

theorem icuPulse_keeps {m : Nat} {r : State} {b0 : ℕ} {s : State} (hm : Sub 8388608 m) (hs : Keeps m r s) :
    Keeps m r (icuPulse b0 s) := by
  unfold icuPulse
  exact Keeps.set_icu (hm.mono rfl) hs

theorem icuSettle_keeps {m : Nat} {r : State} {s : State} (hm : Sub 8388608 m) (hs : Keeps m r s) :
    Keeps m r (icuSettle s) := by
  unfold icuSettle
  exact Keeps.set_icu (hm.mono rfl) hs

theorem setIcuSrc_keeps {m : Nat} {r : State} {b0 : ℕ} {b1 : IcuSrc} {s : State} (hm : Sub 8388608 m) (hs : Keeps m r s) :
    Keeps m r (setIcuSrc b0 b1 s) := by
  unfold setIcuSrc
  exact Keeps.set_icu (hm.mono rfl) hs

theorem icuComplete_keeps {m : Nat} {r : State} {b0 : ℕ} {b1 : ℕ} {s : State} (hm : Sub 2199031644164 m) (hs : Keeps m r s) :
    Keeps m r (icuComplete b0 b1 s) := by
  unfold icuComplete
  extract_lets +onlyGivenNames x1
  exact Keeps.ite (icuSettle_keeps (hm.mono rfl) (setIcuSrc_keeps (hm.mono rfl) hs)) (cfgErr_keeps (hm.mono rfl) hs)

theorem icuWritten_keeps {m : Nat} {r : State} {b0 : Origin} {b1 : ℕ} {b2 : Word} {o3 : State} {s : State} (hm : Sub
    2199031644164 m) (hs : Keeps m r s) :
    Keeps m r (icuWritten b0 b1 b2 o3 s) := by
  unfold icuWritten
  refine Keeps.ite ?_ (Keeps.ite (icuComplete_keeps hm hs) (Keeps.ite (icuComplete_keeps hm hs) (icuSettle_keeps (hm.mono
      rfl) hs)))
  refine Keeps.upTo hs (fun i1 s2 h3 => ?_)
  exact Keeps.ite (icuPulse_keeps (hm.mono rfl) h3) h3

theorem icuClaim_keeps {m : Nat} {r : State} {b0 : ℕ} {s : State} (hm : Sub 8388608 m) (hs : Keeps m r s) :
    KeepsP m r (icuClaim b0 s) := by
  unfold icuClaim
  split
  · rename_i y2 e3
    exact KeepsP.mk' hs
  · rename_i y4 y5 e6
    exact KeepsP.mk' (icuSettle_keeps hm (setIcuSrc_keeps hm hs))

theorem icuRead_keeps {m : Nat} {r : State} {b0 : Origin} {b1 : ℕ} {b2 : Word} {s : State} (hm : Sub 8388608 m) (hs : Keeps m
    r s) :
    KeepsP m r (icuRead b0 b1 b2 s) := by
  unfold icuRead
  extract_lets +onlyGivenNames x1
  refine KeepsP.ite ?_ ?_
  · split
    · rename_i y3 y4 s5 e6
      have h7 : Keeps m r s5 := (KeepsP.of_eq e6 (icuClaim_keeps hm hs)).snd
      exact KeepsP.mk' h7
  · refine KeepsP.ite ?_ ?_
    · split
      · rename_i y9 y10 s11 e12
        have h13 : Keeps m r s11 := (KeepsP.of_eq e12 (icuClaim_keeps hm hs)).snd
        exact KeepsP.mk' h13
    · refine KeepsP.ite (KeepsP.mk' hs) ?_
      refine KeepsP.ite (KeepsP.mk' hs) ?_
      refine KeepsP.ite ?_ ?_
      · extract_lets +onlyGivenNames x14
        refine KeepsP.ite (KeepsP.mk' hs) ?_
        extract_lets +onlyGivenNames x15
        exact KeepsP.mk' hs
      · refine KeepsP.ite ?_ (KeepsP.mk' hs)
        extract_lets +onlyGivenNames x16
        exact KeepsP.mk' hs

theorem latchSet_keeps {m : Nat} {r : State} {b0 : ℕ} {s : State} (hm : Sub 4505798684181508 m) (hs : Keeps m r s) :
    Keeps m r (latchSet b0 s) := by
  unfold latchSet
  refine Keeps.ite hs ?_
  extract_lets +onlyGivenNames x1
  have h2 : Keeps m r x1 := raiseBit_keeps (hm.mono rfl) hs
  clear_value x1
  extract_lets +onlyGivenNames x3
  have h4 : Keeps m r x3 := Keeps.ite h2 (raise_keeps (hm.mono rfl) h2)
  clear_value x3
  exact Keeps.ite (Keeps.set_pwr (hm.mono rfl) h4) (post_keeps (hm.mono rfl) h4)

theorem execIrqClaim_keeps {m : Nat} {r : State} {b0 : Origin} {b1 : ℕ} {s : State} (hm : Sub 4722366481770141975812 m) (hs :
    Keeps m r s) :
    NextKeeps m r (execIrqClaim b0 b1 s) := by
  unfold execIrqClaim
  refine NextKeeps.next ?_
  refine coreRead_keeps (regMask.anyOr (hm.mono rfl)) (fun a1 a2 a3 a4 a5 => ?_) hs
  exact icuRead_keeps (hm.mono rfl) a5

theorem execIrqComplete_keeps {m : Nat} {r : State} {b0 : Origin} {b1 : ℕ} {b2 : Word} {s : State} (hm : Sub
    4722366481770141975820 m) (hs : Keeps m r s) :
    NextKeeps m r (execIrqComplete b0 b1 b2 s) := by
  unfold execIrqComplete
  refine NextKeeps.next ?_
  refine coreWrite_keeps (regMask.anyOr (hm.mono rfl)) (fun a1 a2 a3 a4 a5 a6 => ?_) hs
  exact icuWritten_keeps (hm.mono rfl) a6

theorem requestChange_keeps {m : Nat} {r : State} {b0 : ℕ} {s : State} (hm : Sub 8388608 m) (hs : Keeps m r s) :
    Keeps m r (requestChange b0 s) := by
  unfold requestChange
  refine Keeps.ite hs ?_
  extract_lets +onlyGivenNames x1 x2
  refine Keeps.ite ?_ (Keeps.ite (icuSettle_keeps hm (setIcuSrc_keeps hm hs)) hs)
  extract_lets +onlyGivenNames x3 x4
  have h5 : Keeps m r x4 := Keeps.set_icu (hm.mono rfl) hs
  clear_value x4
  exact icuSettle_keeps hm (setIcuSrc_keeps hm h5)

theorem execIrqRequestChange_keeps {m : Nat} {r : State} {b0 : ℕ} {s : State} (hm : Sub 8388608 m) (hs : Keeps m r s) :
    NextKeeps m r (execIrqRequestChange b0 s) := by
  unfold execIrqRequestChange
  exact NextKeeps.next (requestChange_keeps hm hs)

theorem execPriorityWrite_keeps {m : Nat} {r : State} {b0 : Origin} {b1 : ℕ} {b2 : Word} {s : State} (hm : Sub
    4722366481770141975820 m) (hs : Keeps m r s) :
    NextKeeps m r (execPriorityWrite b0 b1 b2 s) := by
  unfold execPriorityWrite
  refine NextKeeps.next ?_
  refine coreWrite_keeps (regMask.anyOr (hm.mono rfl)) (fun a1 a2 a3 a4 a5 a6 => ?_) hs
  exact icuWritten_keeps (hm.mono rfl) a6

theorem execSoftwareInterrupt_keeps {m : Nat} {r : State} {b0 : Origin} {b1 : BitVec 7} {s : State} (hm : Sub
    4506898170643724 m) (hs : Keeps m r s) :
    NextKeeps m r (execSoftwareInterrupt b0 b1 s) := by
  unfold execSoftwareInterrupt
  refine NextKeeps.next ?_
  refine coreWrite_keeps (hm.mono rfl) (fun a1 a2 a3 a4 a5 a6 => ?_) hs
  exact icuWritten_keeps (hm.mono rfl) a6

theorem execThresholdWrite_keeps {m : Nat} {r : State} {b0 : Origin} {b1 : ℕ} {b2 : Word} {s : State} (hm : Sub
    4722366481770141975820 m) (hs : Keeps m r s) :
    NextKeeps m r (execThresholdWrite b0 b1 b2 s) := by
  unfold execThresholdWrite
  refine NextKeeps.next ?_
  refine coreWrite_keeps (regMask.anyOr (hm.mono rfl)) (fun a1 a2 a3 a4 a5 a6 => ?_) hs
  exact icuWritten_keeps (hm.mono rfl) a6

theorem execWakeLatchClear_keeps {m : Nat} {r : State} {b0 : Origin} {b1 : Word} {b2 : Word} {s : State} (hm : Sub
    4506898170643724 m) (hs : Keeps m r s) :
    NextKeeps m r (execWakeLatchClear b0 b1 b2 s) := by
  unfold execWakeLatchClear
  refine NextKeeps.next ?_
  refine coreWrite_keeps (hm.mono rfl) (fun a1 a2 a3 a4 a5 a6 => ?_) hs
  exact icuWritten_keeps (hm.mono rfl) a6

theorem wakeLatch_keeps {m : Nat} {r : State} {b0 : ℕ} {b1 : ℕ} {s : State} (hm : Sub 4505798684181508 m) (hs : Keeps m r s) :
    Keeps m r (wakeLatch b0 b1 s) := by
  unfold wakeLatch
  extract_lets +onlyGivenNames x1
  exact Keeps.ite (latchSet_keeps hm hs) hs

theorem execWakeLatchSet_keeps {m : Nat} {r : State} {b0 : ℕ} {b1 : ℕ} {s : State} (hm : Sub 4505798684181508 m) (hs : Keeps
    m r s) :
    NextKeeps m r (execWakeLatchSet b0 b1 s) := by
  unfold execWakeLatchSet
  exact NextKeeps.next (wakeLatch_keeps hm hs)

/-! ### Pads -/

theorem setIoc_keeps {m : Nat} {r : State} {b0 : IocState} {s : State} (hm : Sub 16777216 m) (hs : Keeps m r s) :
    Keeps m r (setIoc b0 s) := by
  unfold setIoc
  exact Keeps.set_ioc (hm.mono rfl) hs

theorem dinShow_keeps {m : Nat} {r : State} {s : State} (hm : Sub 72057594037927940 m) (hs : Keeps m r s) :
    Keeps m r (dinShow s) := by
  unfold dinShow
  exact setFld_keeps (hm.mono rfl) hs

theorem ctcSettle_keeps {m : Nat} {r : State} {s : State} (hm : Sub 72057594037927940 m) (hs : Keeps m r s) :
    Keeps m r (ctcSettle s) := by
  unfold ctcSettle
  extract_lets +onlyGivenNames x1 x2
  exact setFld_keeps (hm.mono rfl) (setFld_keeps (hm.mono rfl) (setBool_keeps (hm.mono rfl) hs))

theorem outputMirror_keeps {m : Nat} {r : State} {s : State} (hm : Sub 8192 m) (hs : Keeps m r s) :
    Keeps m r (outputMirror s) := by
  unfold outputMirror
  exact streamPut_keeps hm hs

theorem padSettle_keeps {m : Nat} {r : State} {b0 : ℕ} {s : State} (hm : Sub 72057594046316548 m) (hs : Keeps m r s) :
    Keeps m r (padSettle b0 s) := by
  unfold padSettle
  extract_lets +onlyGivenNames x1
  refine Keeps.ite hs ?_
  extract_lets +onlyGivenNames x2
  have h3 : Keeps m r x2 := Keeps.ite (raiseBit_keeps (hm.mono rfl) hs) (lowerBit_keeps (hm.mono rfl) hs)
  clear_value x2
  refine Keeps.ite ?_ h3
  extract_lets +onlyGivenNames x4
  have h5 : Keeps m r x4 := raiseBit_keeps (hm.mono rfl) h3
  clear_value x4
  exact Keeps.ite (icuPulse_keeps (hm.mono rfl) h5) h5

theorem padsSettle_keeps {m : Nat} {r : State} {s : State} (hm : Sub 72057594046316548 m) (hs : Keeps m r s) :
    Keeps m r (padsSettle s) := by
  unfold padsSettle
  refine Keeps.upTo hs (fun i1 s2 h3 => ?_)
  exact padSettle_keeps hm h3

theorem iocWritten_keeps {m : Nat} {r : State} {b0 : Origin} {b1 : ℕ} {b2 : Word} {o3 : State} {s : State} (hm : Sub
    72057594046324740 m) (hs : Keeps m r s) :
    Keeps m r (iocWritten b0 b1 b2 o3 s) := by
  unfold iocWritten
  refine Keeps.ite (outputMirror_keeps (hm.mono rfl) (ctcSettle_keeps (hm.mono rfl) hs)) ?_
  refine Keeps.ite (ctcSettle_keeps (hm.mono rfl) hs) ?_
  refine Keeps.ite ?_ ?_
  · exact outputMirror_keeps (hm.mono rfl) (padsSettle_keeps (hm.mono rfl) hs)
  · exact Keeps.ite (padsSettle_keeps (hm.mono rfl) hs) (Keeps.ite (dinShow_keeps (hm.mono rfl) hs) hs)

theorem gpioFire_keeps {m : Nat} {r : State} {b0 : ℕ} {s : State} (hm : Sub 72057594063093764 m) (hs : Keeps m r s) :
    Keeps m r (gpioFire b0 s) := by
  unfold gpioFire
  exact padsSettle_keeps (hm.mono rfl) (setIoc_keeps (hm.mono rfl) hs)

theorem ainTake_keeps {m : Nat} {r : State} {b0 : ℤ} {b1 : ℤ} {s : State} (hm : Sub 72057594037927940 m) (hs : Keeps m r s) :
    KeepsP m r (ainTake b0 b1 s) := by
  unfold ainTake
  refine KeepsP.ite ?_ (KeepsP.mk' hs)
  extract_lets +onlyGivenNames x1
  exact KeepsP.mk' (raise_keeps (hm.mono rfl) (setFld_keeps (hm.mono rfl) (setFld_keeps (hm.mono rfl) hs)))

theorem ctcRecord_keeps {m : Nat} {r : State} {s : State} (hm : Sub 4503599627371524 m) (hs : Keeps m r s) :
    Keeps m r (ctcRecord s) := by
  unfold ctcRecord
  exact post_keeps hm hs

theorem ctcOpen_keeps {m : Nat} {r : State} {b0 : ℕ} {s : State} (hm : Sub 76561193665299460 m) (hs : Keeps m r s) :
    Keeps m r (ctcOpen b0 s) := by
  unfold ctcOpen
  exact Keeps.ite (ctcRecord_keeps (hm.mono rfl) (raiseBit_keeps (hm.mono rfl) (raiseBit_keeps (hm.mono rfl) hs))) hs

theorem ctcTrip_keeps {m : Nat} {r : State} {b0 : ℕ} {s : State} (hm : Sub 76561193665299460 m) (hs : Keeps m r s) :
    Keeps m r (ctcTrip b0 s) := by
  unfold ctcTrip
  exact Keeps.ite (ctcRecord_keeps (hm.mono rfl) (ctcSettle_keeps (hm.mono rfl) (raiseBit_keeps (hm.mono rfl) (raiseBit_keeps
      (hm.mono rfl) hs)))) hs

theorem dinHeld_keeps {m : Nat} {r : State} {b0 : ℕ} {b1 : Bool} {b2 : ℕ} {s : State} (hm : Sub 4722366481770158751748 m) (hs
    : Keeps m r s) :
    KeepsP m r (dinHeld b0 b1 b2 s) := by
  unfold dinHeld
  refine KeepsP.ite (KeepsP.mk' hs) ?_
  extract_lets +onlyGivenNames x1
  have h2 : Keeps m r x1 := Keeps.ite (raiseBit_keeps (hm.mono rfl) hs) (lowerBit_keeps (hm.mono rfl) hs)
  clear_value x1
  refine KeepsP.ite (KeepsP.mk' h2) ?_
  extract_lets +onlyGivenNames x3 x4
  have h5 : Keeps m r x4 := dinShow_keeps (hm.mono rfl) (setIoc_keeps (hm.mono rfl) h2)
  clear_value x4
  refine KeepsP.ite ?_ (KeepsP.mk' h5)
  extract_lets +onlyGivenNames x6
  have h7 : Keeps m r x6 := raiseBit_keeps (hm.mono rfl) (bumpWrap_keeps (regMask.any (hm.mono rfl)) h5)
  clear_value x6
  exact KeepsP.mk' (Keeps.ite (icuPulse_keeps (hm.mono rfl) h7) h7)

theorem execContactorCurrentReturn_keeps {m : Nat} {r : State} {b0 : ℕ} {s : State} (hm : Sub 72057594037927940 m) (hs :
    Keeps m r s) :
    NextKeeps m r (execContactorCurrentReturn b0 s) := by
  unfold execContactorCurrentReturn
  exact NextKeeps.next (Keeps.ite (lowerBit_keeps (hm.mono rfl) hs) hs)

theorem execContactorOpenLoad_keeps {m : Nat} {r : State} {b0 : ℕ} {s : State} (hm : Sub 76561193665299460 m) (hs : Keeps m r
    s) :
    NextKeeps m r (execContactorOpenLoad b0 s) := by
  unfold execContactorOpenLoad
  exact NextKeeps.next (ctcOpen_keeps hm hs)

theorem execContactorTrip_keeps {m : Nat} {r : State} {b0 : ℕ} {s : State} (hm : Sub 76561193665299460 m) (hs : Keeps m r s) :
    NextKeeps m r (execContactorTrip b0 s) := by
  unfold execContactorTrip
  exact NextKeeps.next (ctcTrip_keeps hm hs)

theorem padDrive_keeps {m : Nat} {r : State} {b0 : ℕ} {b1 : Option Bool} {s : State} (hm : Sub 72057594063093764 m) (hs :
    Keeps m r s) :
    Keeps m r (padDrive b0 b1 s) := by
  unfold padDrive
  exact Keeps.ite hs (padsSettle_keeps (hm.mono rfl) (setIoc_keeps (hm.mono rfl) hs))

theorem execGpioEdge_keeps {m : Nat} {r : State} {b0 : ℕ} {b1 : Option Bool} {s : State} (hm : Sub 72057594063093764 m) (hs :
    Keeps m r s) :
    NextKeeps m r (execGpioEdge b0 b1 s) := by
  unfold execGpioEdge
  exact NextKeeps.next (padDrive_keeps hm hs)

theorem gpioPulseEnd_keeps {m : Nat} {r : State} {b0 : ℕ} {s : State} (hm : Sub 72057594063093764 m) (hs : Keeps m r s) :
    Keeps m r (gpioPulseEnd b0 s) := by
  unfold gpioPulseEnd
  split
  · rename_i y2 y3 e4
    exact Keeps.ite (padsSettle_keeps (hm.mono rfl) (setIoc_keeps (hm.mono rfl) hs)) hs
  · rename_i y5 e6
    exact hs

theorem execGpioPulseEnd_keeps {m : Nat} {r : State} {b0 : ℕ} {s : State} (hm : Sub 72057594063093764 m) (hs : Keeps m r s) :
    NextKeeps m r (execGpioPulseEnd b0 s) := by
  unfold execGpioPulseEnd
  exact NextKeeps.next (gpioPulseEnd_keeps hm hs)

theorem temperature_keeps {m : Nat} {r : State} {b0 : ℤ} {s : State} (hm : Sub 72057594054705156 m) (hs : Keeps m r s) :
    Keeps m r (temperature b0 s) := by
  unfold temperature
  extract_lets +onlyGivenNames x1 x2
  have h3 : Keeps m r x2 := setFld_keeps (hm.mono rfl) hs
  clear_value x2
  exact Keeps.ite (setIoc_keeps (hm.mono rfl) h3) (Keeps.ite (raise_keeps (hm.mono rfl) (setIoc_keeps (hm.mono rfl) h3)) h3)

theorem execTemperatureHigh_keeps {m : Nat} {r : State} {b0 : ℤ} {s : State} (hm : Sub 72057594054705156 m) (hs : Keeps m r s) :
    NextKeeps m r (execTemperatureHigh b0 s) := by
  unfold execTemperatureHigh
  exact NextKeeps.next (temperature_keeps hm hs)

/-! ### Tokens -/

theorem setTkn_keeps {m : Nat} {r : State} {b0 : TknState} {s : State} (hm : Sub 8192 m) (hs : Keeps m r s) :
    Keeps m r (setTkn b0 s) := by
  unfold setTkn
  exact Keeps.set_tkn (hm.mono rfl) hs

theorem hbShow_keeps {m : Nat} {r : State} {s : State} (hm : Sub 9007199254740996 m) (hs : Keeps m r s) :
    Keeps m r (hbShow s) := by
  unfold hbShow
  extract_lets +onlyGivenNames x1
  have h2 : Keeps m r x1 := setBool_keeps (hm.mono rfl) hs
  clear_value x1
  extract_lets +onlyGivenNames x3
  have h4 : Keeps m r x3 := setBool_keeps (hm.mono rfl) h2
  clear_value x3
  exact setBool_keeps (hm.mono rfl) h4

theorem tknSettle_keeps {m : Nat} {r : State} {b0 : Bool} {s : State} (hm : Sub 4722366481770134643724 m) (hs : Keeps m r s) :
    Keeps m r (tknSettle b0 s) := by
  unfold tknSettle
  extract_lets +onlyGivenNames x1 x2 x3 x4 x5
  have h6 : Keeps m r x5 := setTkn_keeps (hm.mono rfl) hs
  clear_value x5
  extract_lets +onlyGivenNames x7 x8
  have h9 : Keeps m r x8 := setBool_keeps (hm.mono rfl) (setBool_keeps (hm.mono rfl) h6)
  clear_value x8
  refine Keeps.ite h9 ?_
  extract_lets +onlyGivenNames x10
  have h11 : Keeps m r x10 := ctcSettle_keeps (hm.mono rfl) (meterDrive_keeps (hm.mono rfl) (sdcOwn_keeps (hm.mono rfl) h9))
  clear_value x10
  exact Keeps.ite (post_keeps (hm.mono rfl) (raise_keeps (hm.mono rfl) h11)) h11

theorem ilkRelease_keeps {m : Nat} {r : State} {b0 : Bool} {s : State} (hm : Sub 4722366481770134643724 m) (hs : Keeps m r s) :
    Keeps m r (ilkRelease b0 s) := by
  unfold ilkRelease
  exact tknSettle_keeps hm (lower_keeps (hm.mono rfl) hs)

theorem ilkClaim_keeps {m : Nat} {r : State} {s : State} (hm : Sub 4722366481770134643724 m) (hs : Keeps m r s) :
    Keeps m r (ilkClaim s) := by
  unfold ilkClaim
  exact Keeps.ite (post_keeps (hm.mono rfl) (raise_keeps (hm.mono rfl) (tknSettle_keeps hm (raise_keeps (hm.mono rfl) hs))))
      (raise_keeps (hm.mono rfl) hs)

theorem tknWritten_keeps {m : Nat} {r : State} {b0 : Origin} {b1 : ℕ} {b2 : Word} {o3 : State} {s : State} (hm : Sub
    4722366481770134643724 m) (hs : Keeps m r s) :
    Keeps m r (tknWritten b0 b1 b2 o3 s) := by
  unfold tknWritten
  refine Keeps.ite ?_ (Keeps.ite (tknSettle_keeps hm hs) hs)
  extract_lets +onlyGivenNames x1 x2 x3
  have h4 : Keeps m r x3 := blockStop_keeps (hm.mono rfl) (ilkRelease_keeps hm hs)
  clear_value x3
  extract_lets +onlyGivenNames x5 x6
  have h7 : Keeps m r x6 := by
    unfold x6
    refine Keeps.ite ?_ ?_
    · exact hbShow_keeps (hm.mono rfl) (setTkn_keeps (hm.mono rfl) (blockStart_keeps (hm.mono rfl) hs))
    · exact Keeps.ite (hbShow_keeps (hm.mono rfl) (setTkn_keeps (hm.mono rfl) (lower_keeps (hm.mono rfl) (lower_keeps
          (hm.mono rfl) h4)))) hs
  clear_value x6
  extract_lets +onlyGivenNames x8
  have h9 : Keeps m r x8 := Keeps.ite (ilkRelease_keeps hm h7) h7
  clear_value x8
  exact Keeps.ite (ilkClaim_keeps hm h9) h9

theorem admissionTimeout_keeps {m : Nat} {r : State} {s : State} (hm : Sub 4503599627379717 m) (hs : Keeps m r s) :
    Keeps m r (admissionTimeout s) := by
  unfold admissionTimeout
  refine Keeps.ite hs ?_
  split
  · rename_i y2 y3 s4 e5
    have h6 : Keeps m r s4 := (KeepsP.of_eq e5 (takeFree_keeps (hm.mono rfl) hs)).snd
    exact post_keeps (hm.mono rfl) (setTkn_keeps (hm.mono rfl) h6)

theorem admitSender_keeps {m : Nat} {r : State} {b0 : ℕ} {b1 : ℕ} {b2 : ℕ} {s : State} (hm : Sub 13510798882120709 m) (hs :
    Keeps m r s) :
    Keeps m r (admitSender b0 b1 b2 s) := by
  unfold admitSender
  extract_lets +onlyGivenNames x1 x2 x3
  refine Keeps.ite hs ?_
  refine Keeps.ite ?_ (raise_keeps (hm.mono rfl) (setTkn_keeps (hm.mono rfl) hs))
  split
  · rename_i y5 y6 s7 e8
    have h9 : Keeps m r s7 := (KeepsP.of_eq e8 (takeFree_keeps (hm.mono rfl) hs)).snd
    exact post_keeps (hm.mono rfl) h9

theorem tknRead_keeps {m : Nat} {r : State} {b0 : Origin} {b1 : ℕ} {b2 : Word} {s : State} (_hm : Sub 0 m) (hs : Keeps m r s) :
    KeepsP m r (tknRead b0 b1 b2 s) := by
  unfold tknRead
  exact KeepsP.ite (KeepsP.mk' hs) (KeepsP.mk' hs)

theorem autoClaim_keeps {m : Nat} {r : State} {s : State} (hm : Sub 4722366481770134643724 m) (hs : Keeps m r s) :
    Keeps m r (autoClaim s) := by
  unfold autoClaim
  exact Keeps.ite (ilkClaim_keeps hm hs) hs

theorem collisionBackoff_keeps {m : Nat} {r : State} {s : State} (hm : Sub 8193 m) (hs : Keeps m r s) :
    Keeps m r (collisionBackoff s) := by
  unfold collisionBackoff
  split
  · rename_i y2 y3 e4
    exact Keeps.ite (setTkn_keeps (hm.mono rfl) hs) hs
  · rename_i y5 e6
    split
    · rename_i y8 y9 s10 e11
      have h12 : Keeps m r s10 := (KeepsP.of_eq e11 (takeFree_keeps (hm.mono rfl) hs)).snd
      exact setTkn_keeps (hm.mono rfl) h12

theorem setHbPath_keeps {m : Nat} {r : State} {b0 : Bool} {b1 : HbPath} {s : State} (hm : Sub 8192 m) (hs : Keeps m r s) :
    Keeps m r (setHbPath b0 b1 s) := by
  unfold setHbPath
  exact setTkn_keeps hm hs

theorem hbPathSet_keeps {m : Nat} {r : State} {b0 : Bool} {b1 : Bool} {s : State} (hm : Sub 13510798882186244 m) (hs : Keeps
    m r s) :
    Keeps m r (hbPathSet b0 b1 s) := by
  unfold hbPathSet
  extract_lets +onlyGivenNames x1 x2
  have h3 : Keeps m r x2 := hbShow_keeps (hm.mono rfl) (setHbPath_keeps (hm.mono rfl) hs)
  clear_value x2
  extract_lets +onlyGivenNames x4
  have h5 : Keeps m r x4 := post_keeps (hm.mono rfl) (raise_keeps (hm.mono rfl) h3)
  clear_value x4
  extract_lets +onlyGivenNames x6
  have h7 : Keeps m r x6 := faultSet_keeps (hm.mono rfl) h5
  clear_value x6
  extract_lets +onlyGivenNames x8 x9
  have h10 : Keeps m r x9 := Keeps.ite (raise_keeps (hm.mono rfl) h7) h7
  clear_value x9
  exact faultSet_keeps (hm.mono rfl) h10

theorem hbTaken_keeps {m : Nat} {r : State} {b0 : Bool} {b1 : List Byte} {s : State} (hm : Sub 4722366481770133660676 m) (hs
    : Keeps m r s) :
    Keeps m r (hbTaken b0 b1 s) := by
  unfold hbTaken
  split
  · rename_i y2 e3
    exact hs
  · rename_i y4 y5 e6
    refine Keeps.ite hs ?_
    extract_lets +onlyGivenNames x7 x8 x9
    have h10 : Keeps m r x9 := Keeps.ite (setTkn_keeps (hm.mono rfl) hs) hs
    clear_value x9
    extract_lets +onlyGivenNames x11 x12
    have h13 : Keeps m r x12 := Keeps.ite (setTkn_keeps (hm.mono rfl) h10) h10
    clear_value x12
    extract_lets +onlyGivenNames x14
    have h15 : Keeps m r x14 := Keeps.ite (lower_keeps (hm.mono rfl) h13) h13
    clear_value x14
    refine Keeps.ite h15 ?_
    extract_lets +onlyGivenNames x16 x17
    have h18 : Keeps m r x17 := setHbPath_keeps (hm.mono rfl) h15
    clear_value x17
    extract_lets +onlyGivenNames x19 x20
    have h21 : Keeps m r x20 := setTkn_keeps (hm.mono rfl) h18
    clear_value x20
    extract_lets +onlyGivenNames x22
    have h23 : Keeps m r x22 := by
      unfold x22
      refine Keeps.upTo h21 (fun i24 s25 h26 => ?_)
      exact setFld_keeps (regMask.any (hm.mono rfl)) h26
    clear_value x22
    extract_lets +onlyGivenNames x27
    have h28 : Keeps m r x27 := Keeps.ite (hbPathSet_keeps (hm.mono rfl) h23) (hbShow_keeps (hm.mono rfl) h23)
    clear_value x27
    extract_lets +onlyGivenNames x29
    have h30 : Keeps m r x29 := Keeps.ite (faultRaise_keeps (hm.mono rfl) (Keeps.ite h28 (post_keeps (hm.mono rfl)
        (raise_keeps (hm.mono rfl) h28)))) (faultGone_keeps (hm.mono rfl) h28)
    clear_value x29
    extract_lets +onlyGivenNames x31
    have h32 : Keeps m r x31 := Keeps.ite (Keeps.ite (setFld_keeps (hm.mono rfl) (raise_keeps (hm.mono rfl) h30)) (Keeps.ite
        (setFld_keeps (hm.mono rfl) (lower_keeps (hm.mono rfl) h30)) h30)) h30
    clear_value x31
    exact Keeps.ite (post_keeps (hm.mono rfl) (setTkn_keeps (hm.mono rfl) h32)) h32

theorem cycleTaken_keeps {m : Nat} {r : State} {b0 : ℕ} {b1 : List Byte} {s : State} (hm : Sub 13510798882120708 m) (hs :
    Keeps m r s) :
    Keeps m r (cycleTaken b0 b1 s) := by
  unfold cycleTaken
  extract_lets +onlyGivenNames x1 x2 x3 x4 x5
  have h6 : Keeps m r x5 := Keeps.ite (raise_keeps (hm.mono rfl) (lower_keeps (hm.mono rfl) hs)) hs
  clear_value x5
  extract_lets +onlyGivenNames x7 x8
  have h9 : Keeps m r x8 := setTkn_keeps (hm.mono rfl) h6
  clear_value x8
  extract_lets +onlyGivenNames x10 x11
  have h12 : Keeps m r x11 := setTkn_keeps (hm.mono rfl) h9
  clear_value x11
  extract_lets +onlyGivenNames x13
  have h14 : Keeps m r x13 := Keeps.ite h12 (raise_keeps (hm.mono rfl) (raise_keeps (hm.mono rfl) h12))
  clear_value x13
  extract_lets +onlyGivenNames x15
  have h16 : Keeps m r x15 := setFld_keeps (hm.mono rfl) h14
  clear_value x15
  extract_lets +onlyGivenNames x17 x18
  have h19 : Keeps m r x18 := Keeps.ite h16 (raise_keeps (hm.mono rfl) (setBool_keeps (hm.mono rfl) h16))
  clear_value x18
  clear_value x2
  split
  · rename_i y21 y22
    exact Keeps.ite (post_keeps (hm.mono rfl) (setTkn_keeps (hm.mono rfl) h19)) h19
  · rename_i y23
    exact h19

theorem execAdmissionTimeout_keeps {m : Nat} {r : State} {s : State} (hm : Sub 4503599627379717 m) (hs : Keeps m r s) :
    NextKeeps m r (execAdmissionTimeout s) := by
  unfold execAdmissionTimeout
  exact NextKeeps.next (admissionTimeout_keeps hm hs)

theorem execAutoClaim_keeps {m : Nat} {r : State} {s : State} (hm : Sub 4722366481770134643724 m) (hs : Keeps m r s) :
    NextKeeps m r (execAutoClaim s) := by
  unfold execAutoClaim
  exact NextKeeps.next (autoClaim_keeps hm hs)

theorem hbLoss_keeps {m : Nat} {r : State} {b0 : Bool} {s : State} (hm : Sub 13510798882186244 m) (hs : Keeps m r s) :
    Keeps m r (hbLoss b0 s) := by
  unfold hbLoss
  extract_lets +onlyGivenNames x1 x2
  refine Keeps.ite hs ?_
  extract_lets +onlyGivenNames x3
  have h4 : Keeps m r x3 := hbPathSet_keeps hm hs
  clear_value x3
  exact Keeps.ite h4 (Keeps.ite (post_keeps (hm.mono rfl) h4) (Keeps.ite (post_keeps (hm.mono rfl) h4) h4))

theorem execHeartbeatPathLoss_keeps {m : Nat} {r : State} {b0 : Bool} {s : State} (hm : Sub 13510798882186244 m) (hs : Keeps
    m r s) :
    NextKeeps m r (execHeartbeatPathLoss b0 s) := by
  unfold execHeartbeatPathLoss
  exact NextKeeps.next (hbLoss_keeps hm hs)

theorem ilkInput_keeps {m : Nat} {r : State} {b0 : Bool} {s : State} (hm : Sub 4722366481770134643724 m) (hs : Keeps m r s) :
    Keeps m r (ilkInput b0 s) := by
  unfold ilkInput
  refine Keeps.ite hs ?_
  extract_lets +onlyGivenNames x1 x2
  have h3 : Keeps m r x2 := setTkn_keeps (hm.mono rfl) hs
  clear_value x2
  exact tknSettle_keeps hm (captureEvent_keeps (hm.mono rfl) (setBool_keeps (hm.mono rfl) h3))

theorem ilkConflict_keeps {m : Nat} {r : State} {s : State} (hm : Sub 4722366481770134643724 m) (hs : Keeps m r s) :
    Keeps m r (ilkConflict s) := by
  unfold ilkConflict
  split
  · rename_i y2 y3 e4
    exact Keeps.ite (ilkRelease_keeps hm (post_keeps (hm.mono rfl) (raise_keeps (hm.mono rfl) hs))) hs
  · rename_i y5 e6
    exact hs

theorem keeperStart_keeps {m : Nat} {r : State} {s : State} (hm : Sub 9007199254740996 m) (hs : Keeps m r s) :
    Keeps m r (keeperStart s) := by
  unfold keeperStart
  extract_lets +onlyGivenNames x1
  exact Keeps.ite hs (raise_keeps (hm.mono rfl) (raise_keeps (hm.mono rfl) hs))

theorem execKeeperStart_keeps {m : Nat} {r : State} {s : State} (hm : Sub 9007199254740996 m) (hs : Keeps m r s) :
    NextKeeps m r (execKeeperStart s) := by
  unfold execKeeperStart
  exact NextKeeps.next (keeperStart_keeps hm hs)

theorem sendCycle_keeps {m : Nat} {r : State} {s : State} (hm : Sub 9007199254749190 m) (hs : Keeps m r s) :
    Keeps m r (sendCycle s) := by
  unfold sendCycle
  extract_lets +onlyGivenNames x1
  refine Keeps.ite hs ?_
  extract_lets +onlyGivenNames x2 x3 x4
  have h5 : Keeps m r x4 := setTkn_keeps (hm.mono rfl) hs
  clear_value x4
  extract_lets +onlyGivenNames x6
  have h7 : Keeps m r x6 := Keeps.ite (raise_keeps (hm.mono rfl) h5) h5
  clear_value x6
  exact emit_keeps (hm.mono rfl) h7

theorem execLinkCycleFrameSend_keeps {m : Nat} {r : State} {s : State} (hm : Sub 9007199254749190 m) (hs : Keeps m r s) :
    NextKeeps m r (execLinkCycleFrameSend s) := by
  unfold execLinkCycleFrameSend
  exact NextKeeps.next (sendCycle_keeps hm hs)

theorem linkSilence_keeps {m : Nat} {r : State} {s : State} (hm : Sub 9007199254740996 m) (hs : Keeps m r s) :
    Keeps m r (linkSilence s) := by
  unfold linkSilence
  exact Keeps.ite hs (raise_keeps (hm.mono rfl) (lower_keeps (hm.mono rfl) hs))

theorem execLinkSilence_keeps {m : Nat} {r : State} {s : State} (hm : Sub 9007199254740996 m) (hs : Keeps m r s) :
    NextKeeps m r (execLinkSilence s) := by
  unfold execLinkSilence
  exact NextKeeps.next (linkSilence_keeps hm hs)

theorem execSlotCollisionBackoff_keeps {m : Nat} {r : State} {s : State} (hm : Sub 8193 m) (hs : Keeps m r s) :
    NextKeeps m r (execSlotCollisionBackoff s) := by
  unfold execSlotCollisionBackoff
  exact NextKeeps.next (collisionBackoff_keeps hm hs)

theorem takeItems_keeps {m : Nat} {r : State} {b0 : ℕ} {b1 : ℕ} {s : State} (hm : Sub 17592186048516 m) (hs : Keeps m r s) :
    KeepsP m r (takeItems b0 b1 s) := by
  induction b0 generalizing b1 s hs with
  | zero =>
    unfold takeItems
    exact KeepsP.mk' hs
  | succ n ih =>
    unfold takeItems
    extract_lets +onlyGivenNames x1
    split
    · rename_i y3 e4
      exact KeepsP.mk' hs
    · rename_i y5 y6 e7
      refine KeepsP.ite (KeepsP.mk' hs) ?_
      split
      · rename_i y9 y10 s11 e12
        have h13 : Keeps m r s11 := (KeepsP.of_eq e12 (by
            refine @ih _ _ ?_
            exact hwNext_keeps hm hs
          )).snd
        exact KeepsP.mk' h13

theorem slotItems_keeps {m : Nat} {r : State} {s : State} (hm : Sub 17592186056708 m) (hs : Keeps m r s) :
    KeepsP m r (slotItems s) := by
  unfold slotItems
  extract_lets +onlyGivenNames x1 x2 x3 x4 x5 x6
  have h7 : Keeps m r x6 := setTkn_keeps (hm.mono rfl) hs
  clear_value x6
  extract_lets +onlyGivenNames x8
  split
  · rename_i y10 y11 s12 e13
    have h14 : Keeps m r s12 := (KeepsP.of_eq e13 (takeItems_keeps (hm.mono rfl) h7)).snd
    extract_lets +onlyGivenNames x15 x16
    have h17 : Keeps m r x16 := setTkn_keeps (hm.mono rfl) h14
    clear_value x16
    extract_lets +onlyGivenNames x18
    refine KeepsP.ite ?_ (KeepsP.mk' h17)
    extract_lets +onlyGivenNames x19
    exact KeepsP.mk' (setTkn_keeps (hm.mono rfl) h17)

theorem sendSlot_keeps {m : Nat} {r : State} {s : State} (hm : Sub 9024791440797702 m) (hs : Keeps m r s) :
    Keeps m r (sendSlot s) := by
  unfold sendSlot
  refine Keeps.ite hs ?_
  extract_lets +onlyGivenNames x1
  have h2 : Keeps m r x1 := Keeps.ite (bump_keeps (hm.mono rfl) hs) hs
  clear_value x1
  extract_lets +onlyGivenNames x3 x4
  have h5 : Keeps m r x4 := setTkn_keeps (hm.mono rfl) h2
  clear_value x4
  split
  · rename_i y7 y8 s9 e10
    have h11 : Keeps m r s9 := (KeepsP.of_eq e10 (KeepsP.ite (slotItems_keeps (hm.mono rfl) h5) (KeepsP.mk' h5))).snd
    exact emit_keeps (hm.mono rfl) h11

theorem execSlotFrameSend_keeps {m : Nat} {r : State} {s : State} (hm : Sub 9024791440797702 m) (hs : Keeps m r s) :
    NextKeeps m r (execSlotFrameSend s) := by
  unfold execSlotFrameSend
  exact NextKeeps.next (sendSlot_keeps hm hs)

theorem execTknRunWrite_keeps {m : Nat} {r : State} {b0 : Origin} {b1 : Bool} {s : State} (hm : Sub 4722366481770134643980 m)
    (hs : Keeps m r s) :
    NextKeeps m r (execTknRunWrite b0 b1 s) := by
  unfold execTknRunWrite
  refine NextKeeps.next ?_
  refine coreWrite_keeps (hm.mono rfl) (fun a1 a2 a3 a4 a5 a6 => ?_) hs
  exact tknWritten_keeps (hm.mono rfl) a6

theorem execTokenClaim_keeps {m : Nat} {r : State} {b0 : Origin} {s : State} (hm : Sub 4722366481770134643980 m) (hs : Keeps
    m r s) :
    NextKeeps m r (execTokenClaim b0 s) := by
  unfold execTokenClaim
  refine NextKeeps.next ?_
  refine coreWrite_keeps (hm.mono rfl) (fun a1 a2 a3 a4 a5 a6 => ?_) hs
  exact tknWritten_keeps (hm.mono rfl) a6

theorem execTokenRelease_keeps {m : Nat} {r : State} {b0 : Origin} {s : State} (hm : Sub 4722366481770134643980 m) (hs :
    Keeps m r s) :
    NextKeeps m r (execTokenRelease b0 s) := by
  unfold execTokenRelease
  refine NextKeeps.next ?_
  refine coreWrite_keeps (hm.mono rfl) (fun a1 a2 a3 a4 a5 a6 => ?_) hs
  exact tknWritten_keeps (hm.mono rfl) a6

/-! ### Backhaul -/

theorem sendDatagram_keeps {m : Nat} {r : State} {b0 : ℕ} {b1 : ℕ} {b2 : List Byte} {b3 : ℕ} {b4 : ℕ} {b5 : ℕ} {b6 : List
    Byte} {s : State} (hm : Sub 4521191813420036 m) (hs : Keeps m r s) :
    Keeps m r (sendDatagram b0 b1 b2 b3 b4 b5 b6 s) := by
  unfold sendDatagram
  exact Keeps.ite hs (coreQueue_keeps hm hs).snd

theorem sendBackhaul_keeps {m : Nat} {r : State} {b0 : List Byte} {b1 : ℕ} {b2 : ℕ} {b3 : List Byte} {s : State} (hm : Sub
    4521191813420036 m) (hs : Keeps m r s) :
    Keeps m r (sendBackhaul b0 b1 b2 b3 s) := by
  unfold sendBackhaul
  split
  · rename_i y2 y3 e4
    exact sendDatagram_keeps hm hs
  · rename_i y5 e6
    exact hs

theorem sendTerminus_keeps {m : Nat} {r : State} {b0 : ℕ} {b1 : ℕ} {b2 : List Byte} {s : State} (hm : Sub 4521191813420036 m)
    (hs : Keeps m r s) :
    Keeps m r (sendTerminus b0 b1 b2 s) := by
  unfold sendTerminus
  split
  · rename_i y2 y3 e4
    exact sendBackhaul_keeps hm hs
  · rename_i y5 e6
    exact hs

theorem subscribeSend_keeps {m : Nat} {r : State} {s : State} (hm : Sub 4521191813420036 m) (hs : Keeps m r s) :
    Keeps m r (subscribeSend s) := by
  unfold subscribeSend
  refine Keeps.ite hs ?_
  refine Keeps.foldl hs (fun s2 a1 h3 => ?_)
  split
  · rename_i y5 y6 e7
    exact sendTerminus_keeps hm h3
  · rename_i y8 e9
    exact h3

theorem backhaulChange_keeps {m : Nat} {r : State} {b0 : ℕ} {s : State} (hm : Sub 4521195034645508 m) (hs : Keeps m r s) :
    Keeps m r (backhaulChange b0 s) := by
  unfold backhaulChange
  refine Keeps.ite hs ?_
  extract_lets +onlyGivenNames x1
  have h2 : Keeps m r x1 := closeSessions_keeps (hm.mono rfl) hs
  clear_value x1
  extract_lets +onlyGivenNames x3 x4
  have h5 : Keeps m r x4 := setBhn_keeps (hm.mono rfl) h2
  clear_value x4
  exact subscribeSend_keeps (hm.mono rfl) (post_keeps (hm.mono rfl) h5)

theorem backhaulSettle_keeps {m : Nat} {r : State} {s : State} (hm : Sub 4521195034711044 m) (hs : Keeps m r s) :
    Keeps m r (backhaulSettle s) := by
  unfold backhaulSettle
  extract_lets +onlyGivenNames x1 x2 x3 x4
  have h5 : Keeps m r x4 := setBhn_keeps (hm.mono rfl) hs
  clear_value x4
  refine Keeps.ite ?_ ?_
  · extract_lets +onlyGivenNames x6
    have h7 : Keeps m r x6 := faultGone_keeps (hm.mono rfl) h5
    clear_value x6
    exact Keeps.ite (backhaulChange_keeps (hm.mono rfl) h7) h7
  · extract_lets +onlyGivenNames x8
    have h9 : Keeps m r x8 := Keeps.ite (faultRaise_keeps (hm.mono rfl) h5) h5
    clear_value x8
    exact backhaulChange_keeps (hm.mono rfl) h9

theorem bhnWritten_keeps {m : Nat} {r : State} {b0 : Origin} {b1 : ℕ} {b2 : Word} {o3 : State} {s : State} (hm : Sub
    40620360831407116 m) (hs : Keeps m r s) :
    Keeps m r (bhnWritten b0 b1 b2 o3 s) := by
  unfold bhnWritten
  refine Keeps.ite ?_ hs
  extract_lets +onlyGivenNames x1
  have h2 : Keeps m r x1 := Keeps.ite (blockStop_keeps (hm.mono rfl) hs) (blockStart_keeps (hm.mono rfl) hs)
  clear_value x1
  extract_lets +onlyGivenNames x3
  have h4 : Keeps m r x3 := pllSettle_keeps (hm.mono rfl) h2
  clear_value x3
  refine Keeps.upTo h4 (fun i5 s6 h7 => ?_)
  refine Keeps.ite ?_ h7
  extract_lets +onlyGivenNames x8
  have h9 : Keeps m r x8 := raise_keeps (hm.mono rfl) (lowerBit_keeps (hm.mono rfl) h7)
  clear_value x8
  extract_lets +onlyGivenNames x10
  have h11 : Keeps m r x10 := Keeps.ite (lowerBit_keeps (hm.mono rfl) (lowerBit_keeps (hm.mono rfl) h9)) h9
  clear_value x10
  exact Keeps.ite (backhaulSettle_keeps (hm.mono rfl) (lower_keeps (hm.mono rfl) h11)) h11

theorem announce_keeps {m : Nat} {r : State} {s : State} (hm : Sub 4521192887161860 m) (hs : Keeps m r s) :
    Keeps m r (announce s) := by
  unfold announce
  extract_lets +onlyGivenNames x1 x2
  have h3 : Keeps m r x2 := setBhn_keeps (hm.mono rfl) hs
  clear_value x2
  refine Keeps.foldl h3 (fun s5 a4 h6 => ?_)
  exact sendTerminus_keeps (hm.mono rfl) h6

theorem announceMissed_keeps {m : Nat} {r : State} {s : State} (hm : Sub 4503600701178884 m) (hs : Keeps m r s) :
    Keeps m r (announceMissed s) := by
  unfold announceMissed
  refine Keeps.ite hs ?_
  refine Keeps.ite hs ?_
  extract_lets +onlyGivenNames x1 x2 x3
  have h4 : Keeps m r x3 := setBhn_keeps (hm.mono rfl) hs
  clear_value x3
  exact Keeps.ite (faultRaise_keeps (hm.mono rfl) h4) h4

theorem backhaulReturn_keeps {m : Nat} {r : State} {s : State} (hm : Sub 4521195034645508 m) (hs : Keeps m r s) :
    Keeps m r (backhaulReturn s) := by
  unfold backhaulReturn
  split
  · rename_i y2 y3 e4
    exact Keeps.ite (backhaulChange_keeps hm hs) hs
  · rename_i y5 e6
    exact hs

theorem fragment_keeps {m : Nat} {r : State} {b0 : List Byte} {b1 : ℕ} {b2 : ℕ} {b3 : ℕ} {b4 : Bool} {b5 : List Byte} {s :
    State} (hm : Sub 1073741824 m) (hs : Keeps m r s) :
    KeepsP m r (fragment b0 b1 b2 b3 b4 b5 s) := by
  unfold fragment
  extract_lets +onlyGivenNames x1 x2 x3
  refine KeepsP.ite (KeepsP.mk' hs) ?_
  extract_lets +onlyGivenNames x4
  split
  · rename_i y6 y7 e8
    exact KeepsP.mk' (setBhn_keeps hm hs)
  · rename_i y9 e10
    exact KeepsP.mk' (setBhn_keeps hm hs)

theorem ipPayload_keeps {m : Nat} {r : State} {b0 : ℕ} {b1 : List Byte} {s : State} (hm : Sub 1073741824 m) (hs : Keeps m r s) :
    KeepsP m r (ipPayload b0 b1 s) := by
  unfold ipPayload
  extract_lets +onlyGivenNames x1
  refine KeepsP.ite ?_ ?_
  · extract_lets +onlyGivenNames x2 x3 x4 x5 x6
    refine KeepsP.ite (KeepsP.mk' hs) ?_
    split
    · rename_i y8 y9 s10 e11
      have h12 : Keeps m r s10 := (KeepsP.of_eq e11 (fragment_keeps hm hs)).snd
      exact KeepsP.mk' h12
  · extract_lets +onlyGivenNames x13 x14
    refine KeepsP.ite (KeepsP.mk' hs) ?_
    extract_lets +onlyGivenNames x15 x16
    split
    · rename_i y18 y19 s20 e21
      have h22 : Keeps m r s20 := (KeepsP.of_eq e21 (fragment_keeps hm hs)).snd
      exact KeepsP.mk' h22

theorem datagramOf_keeps {m : Nat} {r : State} {b0 : ℕ} {b1 : List Byte} {s : State} (hm : Sub 1073741824 m) (hs : Keeps m r
    s) :
    KeepsP m r (datagramOf b0 b1 s) := by
  unfold datagramOf
  extract_lets +onlyGivenNames x1
  split
  · rename_i y3 y4 y5 e6
    refine KeepsP.ite (KeepsP.mk' hs) ?_
    split
    · rename_i y8 y9 s10 e11
      have h12 : Keeps m r s10 := (KeepsP.of_eq e11 (ipPayload_keeps hm hs)).snd
      exact KeepsP.mk' h12

theorem netHead_keeps {m : Nat} {r : State} {b0 : ℕ} {b1 : ℕ} {s : State} (hm : Sub 4521192887161860 m) (hs : Keeps m r s) :
    KeepsP m r (netHead b0 b1 s) := by
  induction b1 generalizing b0 s hs with
  | zero =>
    unfold netHead
    exact KeepsP.mk' hs
  | succ n ih =>
    unfold netHead
    split
    · rename_i y2 e3
      exact KeepsP.mk' hs
    · rename_i y4 y5 e6
      split
      · rename_i y8 y9 s10 e11
        have h12 : Keeps m r s10 := (KeepsP.of_eq e11 (datagramOf_keeps (hm.mono rfl) hs)).snd
        split
        · rename_i y14 y15
          refine KeepsP.ite (KeepsP.mk' h12) ?_
          extract_lets +onlyGivenNames x16
          have h17 : Keeps m r x16 := hwNext_keeps (hm.mono rfl) h12
          clear_value x16
          refine KeepsP.ite ?_ ?_
          · extract_lets +onlyGivenNames x18
            refine @ih _ _ ?_
            exact sendDatagram_keeps (hm.mono rfl) h17
          · refine @ih _ _ ?_
            exact setBhn_keeps (hm.mono rfl) h17
        · rename_i y19
          refine @ih _ _ ?_
          exact hwNext_keeps (hm.mono rfl) (setBhn_keeps (hm.mono rfl) h12)

theorem netTake_keeps {m : Nat} {r : State} {b0 : ℕ} {b1 : Datagram → Bool} {s : State} (hm : Sub 4521192887161860 m) (hs :
    Keeps m r s) :
    KeepsP m r (netTake b0 b1 s) := by
  unfold netTake
  split
  · rename_i y2 y3 s4 e5
    have h6 : Keeps m r s4 := (KeepsP.of_eq e5 (netHead_keeps hm hs)).snd
    split
    · rename_i y8 y9
      exact KeepsP.ite (KeepsP.mk' (hwNext_keeps (hm.mono rfl) h6)) (KeepsP.mk' h6)
    · rename_i y10
      exact KeepsP.mk' h6

theorem pathsReopen_keeps {m : Nat} {r : State} {s : State} (hm : Sub 140737488617484 m) (hs : Keeps m r s) :
    Keeps m r (pathsReopen s) := by
  unfold pathsReopen
  refine Keeps.ite ?_ hs
  refine fwWrite_keeps (hm.mono rfl) (fun a1 a2 a3 a4 a5 a6 => ?_) hs
  exact tteWritten_keeps (hm.mono rfl) a6

theorem conflictExpiry_keeps {m : Nat} {r : State} {s : State} (hm : Sub 140738562359308 m) (hs : Keeps m r s) :
    Keeps m r (conflictExpiry s) := by
  unfold conflictExpiry
  split
  · rename_i y2 y3 e4
    exact Keeps.ite (pathsReopen_keeps (hm.mono rfl) (setBhn_keeps (hm.mono rfl) hs)) hs
  · rename_i y5 e6
    exact hs

theorem lockedSince_keeps {m : Nat} {r : State} {s : State} (hm : Sub 1073741824 m) (hs : Keeps m r s) :
    Keeps m r (lockedSince s) := by
  unfold lockedSince
  extract_lets +onlyGivenNames x1
  exact setBhn_keeps hm hs

theorem sourceSample_keeps {m : Nat} {r : State} {b0 : ℕ} {b1 : ℤ} {s : State} (hm : Sub 4722366481771207396365 m) (hs :
    Keeps m r s) :
    Keeps m r (sourceSample b0 b1 s) := by
  unfold sourceSample
  extract_lets +onlyGivenNames x1
  have h2 : Keeps m r x1 := timeSample_keeps (hm.mono rfl) hs
  clear_value x1
  exact lockedSince_keeps (hm.mono rfl) (Keeps.set_ntb (hm.mono rfl) h2)

theorem terminusEvent_keeps {m : Nat} {r : State} {b0 : ℕ} {b1 : ℕ} {s : State} (hm : Sub 4503599627371524 m) (hs : Keeps m r
    s) :
    Keeps m r (terminusEvent b0 b1 s) := by
  unfold terminusEvent
  exact post_keeps hm hs

theorem deputyClaim_keeps {m : Nat} {r : State} {s : State} (hm : Sub 4521192887161860 m) (hs : Keeps m r s) :
    Keeps m r (deputyClaim s) := by
  unfold deputyClaim
  exact Keeps.ite (announce_keeps hm (terminusEvent_keeps (hm.mono rfl) (setBhn_keeps (hm.mono rfl) hs))) hs

theorem dnsResolve_keeps {m : Nat} {r : State} {b0 : List (Option (List Byte))} {s : State} (hm : Sub 4503600701113348 m) (hs
    : Keeps m r s) :
    Keeps m r (dnsResolve b0 s) := by
  unfold dnsResolve
  extract_lets +onlyGivenNames x1
  refine Keeps.upTo hs (fun i2 s3 h4 => ?_)
  refine Keeps.ite (setBhn_keeps (hm.mono rfl) h4) ?_
  split
  · rename_i y6 y7 e8
    exact setBhn_keeps (hm.mono rfl) h4
  · rename_i y9 e10
    exact post_keeps (hm.mono rfl) h4

theorem execAnnounceMissed_keeps {m : Nat} {r : State} {s : State} (hm : Sub 4503600701178884 m) (hs : Keeps m r s) :
    NextKeeps m r (execAnnounceMissed s) := by
  unfold execAnnounceMissed
  exact NextKeeps.next (announceMissed_keeps hm hs)

theorem execBackhaulReturn_keeps {m : Nat} {r : State} {s : State} (hm : Sub 4521195034645508 m) (hs : Keeps m r s) :
    NextKeeps m r (execBackhaulReturn s) := by
  unfold execBackhaulReturn
  exact NextKeeps.next (backhaulReturn_keeps hm hs)

theorem ppsSample_keeps {m : Nat} {r : State} {s : State} (hm : Sub 4722366481771207396365 m) (hs : Keeps m r s) :
    Keeps m r (ppsSample s) := by
  unfold ppsSample
  extract_lets +onlyGivenNames x1
  refine Keeps.ite ?_ hs
  extract_lets +onlyGivenNames x2 x3
  exact sourceSample_keeps hm (lower_keeps (hm.mono rfl) hs)

theorem execCapture_keeps {m : Nat} {r : State} {b0 : ℕ} {b1 : Bool} {s : State} (hm : Sub 4722366481771207396365 m) (hs :
    Keeps m r s) :
    NextKeeps m r (execCapture b0 b1 s) := by
  unfold execCapture
  extract_lets +onlyGivenNames x1
  have h2 : Keeps m r x1 := captureEvent_keeps (hm.mono rfl) hs
  clear_value x1
  exact NextKeeps.next (Keeps.ite (ppsSample_keeps hm h2) h2)

theorem execConflictExpiry_keeps {m : Nat} {r : State} {s : State} (hm : Sub 140738562359308 m) (hs : Keeps m r s) :
    NextKeeps m r (execConflictExpiry s) := by
  unfold execConflictExpiry
  exact NextKeeps.next (conflictExpiry_keeps hm hs)

theorem execDeputyClaim_keeps {m : Nat} {r : State} {s : State} (hm : Sub 4521192887161860 m) (hs : Keeps m r s) :
    NextKeeps m r (execDeputyClaim s) := by
  unfold execDeputyClaim
  exact NextKeeps.next (deputyClaim_keeps hm hs)

theorem execDnsResolve_keeps {m : Nat} {r : State} {b0 : List (Option (List (BitVec 8)))} {s : State} (hm : Sub
    4503600701113348 m) (hs : Keeps m r s) :
    NextKeeps m r (execDnsResolve b0 s) := by
  unfold execDnsResolve
  exact NextKeeps.next (dnsResolve_keeps hm hs)

theorem handbackSecond_keeps {m : Nat} {r : State} {s : State} (hm : Sub 4521192887161860 m) (hs : Keeps m r s) :
    Keeps m r (handbackSecond s) := by
  unfold handbackSecond
  split
  · rename_i y2 e3
    exact hs
  · rename_i y4 y5 e6
    refine Keeps.ite hs ?_
    extract_lets +onlyGivenNames x7 x8
    have h9 : Keeps m r x8 := setBhn_keeps (hm.mono rfl) hs
    clear_value x8
    refine Keeps.ite ?_ ?_
    · exact announce_keeps hm (terminusEvent_keeps (hm.mono rfl) (setBhn_keeps (hm.mono rfl) h9))
    · exact Keeps.ite (terminusEvent_keeps (hm.mono rfl) (setBhn_keeps (hm.mono rfl) h9)) h9

theorem execHandbackSecond_keeps {m : Nat} {r : State} {s : State} (hm : Sub 4521192887161860 m) (hs : Keeps m r s) :
    NextKeeps m r (execHandbackSecond s) := by
  unfold execHandbackSecond
  exact NextKeeps.next (handbackSecond_keeps hm hs)

theorem ntpPoll_keeps {m : Nat} {r : State} {s : State} (hm : Sub 4521192887161860 m) (hs : Keeps m r s) :
    Keeps m r (ntpPoll s) := by
  unfold ntpPoll
  extract_lets +onlyGivenNames x1 x2 x3 x4
  have h5 : Keeps m r x4 := Keeps.ite (setBhn_keeps (hm.mono rfl) hs) hs
  clear_value x4
  split
  · rename_i y7 e8
    exact h5
  · rename_i y9 y10 y11 e12
    extract_lets +onlyGivenNames x13 x14 x15 x16
    have h17 : Keeps m r x16 := setBhn_keeps (hm.mono rfl) h5
    clear_value x16
    exact sendBackhaul_keeps (hm.mono rfl) h17

theorem ntpPollDue_keeps {m : Nat} {r : State} {s : State} (hm : Sub 4521192887161860 m) (hs : Keeps m r s) :
    Keeps m r (ntpPollDue s) := by
  unfold ntpPollDue
  split
  · rename_i y2 y3 e4
    exact Keeps.ite (ntpPoll_keeps hm hs) hs
  · rename_i y5 e6
    exact ntpPoll_keeps hm hs

theorem execNtpPoll_keeps {m : Nat} {r : State} {s : State} (hm : Sub 4521192887161860 m) (hs : Keeps m r s) :
    NextKeeps m r (execNtpPoll s) := by
  unfold execNtpPoll
  exact NextKeeps.next (ntpPollDue_keeps hm hs)

theorem ntpRequest_keeps {m : Nat} {r : State} {b0 : ℕ} {s : State} (hm : Sub 4521192887161860 m) (hs : Keeps m r s) :
    Keeps m r (ntpRequest b0 s) := by
  unfold ntpRequest
  split
  · rename_i y2 y3 s4 e5
    have h6 : Keeps m r s4 := (KeepsP.of_eq e5 (netTake_keeps hm hs)).snd
    split
    · rename_i y8
      exact h6
    · rename_i y9 y10
      refine Keeps.ite h6 ?_
      extract_lets +onlyGivenNames x11 x12
      exact sendDatagram_keeps (hm.mono rfl) h6

theorem execNtpRequest_keeps {m : Nat} {r : State} {b0 : ℕ} {s : State} (hm : Sub 4521192887161860 m) (hs : Keeps m r s) :
    NextKeeps m r (execNtpRequest b0 s) := by
  unfold execNtpRequest
  exact NextKeeps.next (ntpRequest_keeps hm hs)

theorem ntpResponse_keeps {m : Nat} {r : State} {b0 : ℕ} {s : State} (hm : Sub 4722366481771207400461 m) (hs : Keeps m r s) :
    Keeps m r (ntpResponse b0 s) := by
  unfold ntpResponse
  split
  · rename_i y2 y3 s4 e5
    have h6 : Keeps m r s4 := (KeepsP.of_eq e5 (netTake_keeps (hm.mono rfl) hs)).snd
    split
    · rename_i y8 y9 y10 y11 e12
      refine Keeps.ite (setBhn_keeps (hm.mono rfl) h6) ?_
      split
      · rename_i y14 y15 y16 e17
        extract_lets +onlyGivenNames x18 x19 x20 x21 x22 x23 x24 x25
        have h26 : Keeps m r x25 := setBhn_keeps (hm.mono rfl) h6
        clear_value x25
        split
        · rename_i y28 y29 e30
          exact Keeps.ite (sourceSample_keeps (hm.mono rfl) (setBhn_keeps (hm.mono rfl) h26)) h26
        · rename_i y31 e32
          exact h26
    · rename_i y33 y34 y35 e36
      exact h6

theorem execNtpResponse_keeps {m : Nat} {r : State} {b0 : ℕ} {s : State} (hm : Sub 4722366481771207400461 m) (hs : Keeps m r
    s) :
    NextKeeps m r (execNtpResponse b0 s) := by
  unfold execNtpResponse
  exact NextKeeps.next (ntpResponse_keeps hm hs)

theorem portLinkChange_keeps {m : Nat} {r : State} {b0 : ℕ} {b1 : Bool} {b2 : Bool} {b3 : Bool} {b4 : Bool} {b5 : Bool} {s :
    State} (hm : Sub 40549992053675012 m) (hs : Keeps m r s) :
    Keeps m r (portLinkChange b0 b1 b2 b3 b4 b5 s) := by
  unfold portLinkChange
  refine Keeps.ite hs ?_
  extract_lets +onlyGivenNames x1 x2
  have h3 : Keeps m r x2 := Keeps.ite (raiseBit_keeps (hm.mono rfl) hs) (lowerBit_keeps (hm.mono rfl) hs)
  clear_value x2
  extract_lets +onlyGivenNames x4
  have h5 : Keeps m r x4 := Keeps.ite h3 (raise_keeps (hm.mono rfl) h3)
  clear_value x4
  extract_lets +onlyGivenNames x6
  have h7 : Keeps m r x6 := Keeps.ite (raiseBit_keeps (hm.mono rfl) h5) (lowerBit_keeps (hm.mono rfl) h5)
  clear_value x6
  extract_lets +onlyGivenNames x8
  have h9 : Keeps m r x8 := Keeps.ite (raiseBit_keeps (hm.mono rfl) h7) (lowerBit_keeps (hm.mono rfl) h7)
  clear_value x8
  extract_lets +onlyGivenNames x10 x11
  have h12 : Keeps m r x11 := Keeps.ite (Keeps.ite h9 (setBhn_keeps (hm.mono rfl) h9)) h5
  clear_value x11
  refine Keeps.ite ?_ h12
  extract_lets +onlyGivenNames x13
  have h14 : Keeps m r x13 := setBool_keeps (hm.mono rfl) h12
  clear_value x13
  exact backhaulSettle_keeps (hm.mono rfl) (setBhn_keeps (hm.mono rfl) h14)

theorem execPortLinkChange_keeps {m : Nat} {r : State} {b0 : ℕ} {b1 : Bool} {b2 : Bool} {b3 : Bool} {b4 : Bool} {b5 : Bool}
    {s : State} (hm : Sub 40549992053675012 m) (hs : Keeps m r s) :
    NextKeeps m r (execPortLinkChange b0 b1 b2 b3 b4 b5 s) := by
  unfold execPortLinkChange
  exact NextKeeps.next (portLinkChange_keeps hm hs)

theorem execSubscribeSend_keeps {m : Nat} {r : State} {s : State} (hm : Sub 4521191813420036 m) (hs : Keeps m r s) :
    NextKeeps m r (execSubscribeSend s) := by
  unfold execSubscribeSend
  exact NextKeeps.next (subscribeSend_keeps hm hs)

theorem subscriberExpiry_keeps {m : Nat} {r : State} {b0 : ℕ} {s : State} (hm : Sub 1073741824 m) (hs : Keeps m r s) :
    Keeps m r (subscriberExpiry b0 s) := by
  unfold subscriberExpiry
  exact setBhn_keeps hm hs

theorem execSubscriberExpiry_keeps {m : Nat} {r : State} {b0 : ℕ} {s : State} (hm : Sub 1073741824 m) (hs : Keeps m r s) :
    NextKeeps m r (execSubscriberExpiry b0 s) := by
  unfold execSubscriberExpiry
  exact NextKeeps.next (subscriberExpiry_keeps hm hs)

theorem terminusAnnounce_keeps {m : Nat} {r : State} {s : State} (hm : Sub 4521192887161860 m) (hs : Keeps m r s) :
    Keeps m r (terminusAnnounce s) := by
  unfold terminusAnnounce
  exact Keeps.ite hs (Keeps.ite (announce_keeps hm hs) (Keeps.ite (announce_keeps hm (terminusEvent_keeps (hm.mono rfl)
      (setBhn_keeps (hm.mono rfl) hs))) hs))

theorem execTerminusAnnounce_keeps {m : Nat} {r : State} {s : State} (hm : Sub 4521192887161860 m) (hs : Keeps m r s) :
    NextKeeps m r (execTerminusAnnounce s) := by
  unfold execTerminusAnnounce
  exact NextKeeps.next (terminusAnnounce_keeps hm hs)

theorem followClaimant_keeps {m : Nat} {r : State} {b0 : Bool} {s : State} (hm : Sub 4521192887161860 m) (hs : Keeps m r s) :
    Keeps m r (followClaimant b0 s) := by
  unfold followClaimant
  exact Keeps.ite hs (ntpPoll_keeps hm (setBhn_keeps (hm.mono rfl) hs))

theorem takeAnnounce_keeps {m : Nat} {r : State} {b0 : ℕ} {b1 : ℕ} {b2 : ℕ} {b3 : Bool} {s : State} (hm : Sub
    4661930375844876 m) (hs : Keeps m r s) :
    Keeps m r (takeAnnounce b0 b1 b2 b3 s) := by
  unfold takeAnnounce
  extract_lets +onlyGivenNames x1 x2 x3 x4
  have h5 : Keeps m r x4 := setBhn_keeps (hm.mono rfl) hs
  clear_value x4
  extract_lets +onlyGivenNames x6 x7 x8
  have h9 : Keeps m r x8 := Keeps.ite (terminusEvent_keeps (hm.mono rfl) (setBhn_keeps (hm.mono rfl) h5)) (Keeps.ite
      (terminusEvent_keeps (hm.mono rfl) h5) h5)
  clear_value x8
  extract_lets +onlyGivenNames x10
  have h11 : Keeps m r x10 := Keeps.ite h9 (followClaimant_keeps (hm.mono rfl) h9)
  clear_value x10
  extract_lets +onlyGivenNames x12 x13
  have h14 : Keeps m r x13 := Keeps.ite (setBhn_keeps (hm.mono rfl) h11) h11
  clear_value x13
  extract_lets +onlyGivenNames x15 x16
  have h17 : Keeps m r x16 := Keeps.ite (setBhn_keeps (hm.mono rfl) h14) h14
  clear_value x16
  extract_lets +onlyGivenNames x18
  have h19 : Keeps m r x18 := faultsEnd_keeps (hm.mono rfl) h17
  clear_value x18
  extract_lets +onlyGivenNames x20 x21 x22 x23
  have h24 : Keeps m r x23 := setBhn_keeps (hm.mono rfl) h19
  clear_value x23
  exact Keeps.ite (post_keeps (hm.mono rfl) h24) (Keeps.ite (pathsReopen_keeps (hm.mono rfl) h24) h24)

theorem takeSubscribe_keeps {m : Nat} {r : State} {b0 : ℕ} {b1 : ℕ} {b2 : ℕ} {b3 : List Byte} {s : State} (hm : Sub
    4521192887161860 m) (hs : Keeps m r s) :
    Keeps m r (takeSubscribe b0 b1 b2 b3 s) := by
  unfold takeSubscribe
  refine Keeps.ite hs ?_
  extract_lets +onlyGivenNames x1 x2 x3 x4 x5
  have h6 : Keeps m r x5 := setBhn_keeps (hm.mono rfl) hs
  clear_value x5
  split
  · rename_i y8 y9 e10
    exact Keeps.ite (sendTerminus_keeps (hm.mono rfl) h6) h6
  · rename_i y11 e12
    exact h6

theorem takeConflict_keeps {m : Nat} {r : State} {b0 : ℕ} {s : State} (hm : Sub 4644338189730828 m) (hs : Keeps m r s) :
    Keeps m r (takeConflict b0 s) := by
  unfold takeConflict
  refine Keeps.ite hs ?_
  extract_lets +onlyGivenNames x1 x2 x3
  have h4 : Keeps m r x3 := setBhn_keeps (hm.mono rfl) hs
  clear_value x3
  extract_lets +onlyGivenNames x5
  have h6 : Keeps m r x5 := Keeps.ite h4 (post_keeps (hm.mono rfl) h4)
  clear_value x5
  refine Keeps.ite ?_ h6
  refine fwField_keeps (hm.mono rfl) (fun a7 a8 a9 a10 a11 a12 => ?_) h6
  exact tteWritten_keeps (hm.mono rfl) a12

theorem terminusReceive_keeps {m : Nat} {r : State} {b0 : ℕ} {s : State} (hm : Sub 4661930375844876 m) (hs : Keeps m r s) :
    Keeps m r (terminusReceive b0 s) := by
  unfold terminusReceive
  split
  · rename_i y2 y3 s4 e5
    have h6 : Keeps m r s4 := (KeepsP.of_eq e5 (netTake_keeps (hm.mono rfl) hs)).snd
    split
    · rename_i y8
      exact h6
    · rename_i y9 y10
      extract_lets +onlyGivenNames x11 x12
      refine Keeps.ite (post_keeps (hm.mono rfl) (setBhn_keeps (hm.mono rfl) h6)) ?_
      extract_lets +onlyGivenNames x13 x14 x15 x16 x17
      have h18 : Keeps m r x17 := setBhn_keeps (hm.mono rfl) h6
      clear_value x17
      refine Keeps.ite (takeAnnounce_keeps hm h18) ?_
      refine Keeps.ite (takeSubscribe_keeps (hm.mono rfl) h18) ?_
      refine Keeps.ite ?_ (Keeps.ite (Keeps.ite (setBhn_keeps (hm.mono rfl) h18) h18) (takeConflict_keeps (hm.mono rfl) h18))
      refine Keeps.ite ?_ h18
      extract_lets +onlyGivenNames x19
      exact sendTerminus_keeps (hm.mono rfl) (setBhn_keeps (hm.mono rfl) h18)

theorem execTerminusMessageReceive_keeps {m : Nat} {r : State} {b0 : ℕ} {s : State} (hm : Sub 4661930375844876 m) (hs : Keeps
    m r s) :
    NextKeeps m r (execTerminusMessageReceive b0 s) := by
  unfold execTerminusMessageReceive
  exact NextKeeps.next (terminusReceive_keeps hm hs)

theorem terminusReady_keeps {m : Nat} {r : State} {s : State} (hm : Sub 4521192887161860 m) (hs : Keeps m r s) :
    Keeps m r (terminusReady s) := by
  unfold terminusReady
  split
  · rename_i y2 y3 y4 y5 e6 e7
    exact Keeps.ite (sendTerminus_keeps (hm.mono rfl) (setBhn_keeps (hm.mono rfl) hs)) hs
  · rename_i y8 y9 e10
    exact hs

theorem execTerminusReady_keeps {m : Nat} {r : State} {s : State} (hm : Sub 4521192887161860 m) (hs : Keeps m r s) :
    NextKeeps m r (execTerminusReady s) := by
  unfold execTerminusReady
  exact NextKeeps.next (terminusReady_keeps hm hs)

end Sys2Proof.Machine
end

