-- ==== Sys2Proof/Laws/KeepsNodes.lean ====
section
/-!
SUPPORT. What each operation keeps (`Keeps`), one lemma per operation.
The operations of: FieldBus, Backup, NodeTable, ZoneTables, Nodes.
-/

namespace Sys2Proof.Machine

/-! ### FieldBus -/

theorem setFb_keeps {m : Nat} {r : State} {b0 : FbState} {s : State} (hm : Sub 4194304 m) (hs : Keeps m r s) :
    Keeps m r (setFb b0 s) := by
  unfold setFb
  exact Keeps.set_fb (hm.mono rfl) hs

theorem fbFail_keeps {m : Nat} {r : State} {b0 : ℕ} {s : State} (hm : Sub 35184372088836 m) (hs : Keeps m r s) :
    Keeps m r (fbFail b0 s) := by
  unfold fbFail
  exact raise_keeps (hm.mono rfl) (raiseBit_keeps (hm.mono rfl) (lowerBit_keeps (hm.mono rfl) hs))

theorem fbBusShow_keeps {m : Nat} {r : State} {s : State} (hm : Sub 35184372088836 m) (hs : Keeps m r s) :
    Keeps m r (fbBusShow s) := by
  unfold fbBusShow
  exact setBool_keeps (hm.mono rfl) (setBool_keeps (hm.mono rfl) (setBool_keeps (hm.mono rfl) hs))

theorem fbStart_keeps {m : Nat} {r : State} {s : State} (hm : Sub 35184376283148 m) (hs : Keeps m r s) :
    Keeps m r (fbStart s) := by
  unfold fbStart
  refine Keeps.ite ?_ ?_
  · exact fbBusShow_keeps (hm.mono rfl) (blockStop_keeps (hm.mono rfl) (setFb_keeps (hm.mono rfl) hs))
  · exact Keeps.ite (fbBusShow_keeps (hm.mono rfl) (setFb_keeps (hm.mono rfl) hs)) (fbBusShow_keeps (hm.mono rfl) hs)

theorem fbRecover_keeps {m : Nat} {r : State} {s : State} (hm : Sub 4194304 m) (hs : Keeps m r s) :
    Keeps m r (fbRecover s) := by
  unfold fbRecover
  exact Keeps.ite (setFb_keeps hm hs) hs

theorem fbAbort_keeps {m : Nat} {r : State} {b0 : ℕ} {s : State} (hm : Sub 35184376283140 m) (hs : Keeps m r s) :
    Keeps m r (fbAbort b0 s) := by
  unfold fbAbort
  exact Keeps.ite hs (Keeps.ite (setFb_keeps (hm.mono rfl) hs) (raiseBit_keeps (hm.mono rfl) (lowerBit_keeps (hm.mono rfl) hs)))

theorem fbRequest_keeps {m : Nat} {r : State} {b0 : ℕ} {s : State} (hm : Sub 35184376283148 m) (hs : Keeps m r s) :
    Keeps m r (fbRequest b0 s) := by
  unfold fbRequest
  exact fbStart_keeps hm (raiseBit_keeps (hm.mono rfl) hs)

theorem fbcWritten_keeps {m : Nat} {r : State} {b0 : Origin} {b1 : ℕ} {b2 : Word} {o3 : State} {s : State} (hm : Sub
    35184376283148 m) (hs : Keeps m r s) :
    Keeps m r (fbcWritten b0 b1 b2 o3 s) := by
  unfold fbcWritten
  refine Keeps.ite ?_ ?_
  · extract_lets +onlyGivenNames x1 x2
    have h3 : Keeps m r x2 := by
      unfold x2
      refine Keeps.foldl hs (fun s5 a4 h6 => ?_)
      exact Keeps.ite h6 (Keeps.ite (setFb_keeps (hm.mono rfl) h6) (fbFail_keeps (hm.mono rfl) h6))
    clear_value x2
    extract_lets +onlyGivenNames x7 x8
    have h9 : Keeps m r x8 := Keeps.ite (blockStart_keeps (hm.mono rfl) (setFb_keeps (hm.mono rfl) hs)) (Keeps.ite
        (setFb_keeps (hm.mono rfl) h3) hs)
    clear_value x8
    extract_lets +onlyGivenNames x10 x11
    have h12 : Keeps m r x11 := Keeps.ite (setFb_keeps (hm.mono rfl) h9) h9
    clear_value x11
    exact fbStart_keeps hm (Keeps.ite (fbRecover_keeps (hm.mono rfl) h12) h12)
  · refine Keeps.ite ?_ hs
    extract_lets +onlyGivenNames x13
    have h14 : Keeps m r x13 := by
      unfold x13
      refine Keeps.foldl hs (fun s16 a15 h17 => ?_)
      exact Keeps.ite (fbAbort_keeps (hm.mono rfl) h17) h17
    clear_value x13
    refine Keeps.foldl h14 (fun s19 a18 h20 => ?_)
    exact Keeps.ite (fbRequest_keeps hm h20) h20

theorem fbRestrict_keeps {m : Nat} {r : State} {b0 : Bool} {s : State} (hm : Sub 35184376283148 m) (hs : Keeps m r s) :
    Keeps m r (fbRestrict b0 s) := by
  unfold fbRestrict
  exact fbStart_keeps hm (setBool_keeps (hm.mono rfl) hs)

theorem claimBegin_keeps {m : Nat} {r : State} {s : State} (hm : Sub 35184376283148 m) (hs : Keeps m r s) :
    Keeps m r (claimBegin s) := by
  unfold claimBegin
  exact fbRestrict_keeps hm (setFb_keeps (hm.mono rfl) hs)

theorem claimAgain_keeps {m : Nat} {r : State} {s : State} (hm : Sub 35184376283148 m) (hs : Keeps m r s) :
    Keeps m r (claimAgain s) := by
  unfold claimAgain
  exact Keeps.ite (claimBegin_keeps hm hs) hs

theorem tknStart_keeps {m : Nat} {r : State} {s : State} (hm : Sub 4722366481770134643724 m) (hs : Keeps m r s) :
    Keeps m r (tknStart s) := by
  unfold tknStart
  refine fwField_keeps (hm.mono rfl) (fun a1 a2 a3 a4 a5 a6 => ?_) hs
  exact tknWritten_keeps hm a6

theorem claimPass_keeps {m : Nat} {r : State} {s : State} (hm : Sub 4722366481770138903564 m) (hs : Keeps m r s) :
    Keeps m r (claimPass s) := by
  unfold claimPass
  exact Keeps.ite (tknStart_keeps (hm.mono rfl) (faultGone_keeps (hm.mono rfl) (setFb_keeps (hm.mono rfl) hs))) hs

theorem fbFill_keeps {m : Nat} {r : State} {b0 : ℕ} {b1 : ℕ} {b2 : Bool} {b3 : List Byte} {s : State} (hm : Sub
    4722366481770137780236 m) (hs : Keeps m r s) :
    Keeps m r (fbFill b0 b1 b2 b3 s) := by
  unfold fbFill
  extract_lets +onlyGivenNames x1 x2 x3
  have h4 : Keeps m r x3 := setReg_keeps (regMask.any (hm.mono rfl)) hs
  clear_value x3
  extract_lets +onlyGivenNames x5
  have h6 : Keeps m r x5 := setReg_keeps (regMask.any (hm.mono rfl)) h4
  clear_value x5
  refine fbRequest_keeps (hm.mono rfl) ?_
  refine Keeps.upTo h6 (fun i7 s8 h9 => ?_)
  exact setFld_keeps (regMask.any (hm.mono rfl)) h9

theorem fbFeed_keeps {m : Nat} {r : State} {b0 : ℕ} {s : State} (hm : Sub 4722366481770137780236 m) (hs : Keeps m r s) :
    Keeps m r (fbFeed b0 s) := by
  induction b0 generalizing s hs with
  | zero =>
    unfold fbFeed
    exact hs
  | succ n ih =>
    unfold fbFeed
    split
    · rename_i y2 e3
      exact hs
    · rename_i y4 y5 y6 e7
      extract_lets +onlyGivenNames x8
      clear_value x8
      split
      · rename_i y10 y11
        refine @ih _ ?_
        exact fbFill_keeps hm (setFb_keeps (hm.mono rfl) hs)
      · rename_i y12
        exact hs

theorem fbSend_keeps {m : Nat} {r : State} {b0 : Option ℕ} {b1 : ℕ} {b2 : Bool} {b3 : List Byte} {s : State} (hm : Sub
    4722366481770137780236 m) (hs : Keeps m r s) :
    Keeps m r (fbSend b0 b1 b2 b3 s) := by
  unfold fbSend
  exact fbFeed_keeps hm (setFb_keeps (hm.mono rfl) hs)

theorem claimSend_keeps {m : Nat} {r : State} {s : State} (hm : Sub 4722366481770137780236 m) (hs : Keeps m r s) :
    Keeps m r (claimSend s) := by
  unfold claimSend
  extract_lets +onlyGivenNames x1
  exact Keeps.ite (fbSend_keeps hm (fbRestrict_keeps (hm.mono rfl) (setFb_keeps (hm.mono rfl) hs))) hs

theorem fbDuplicate_keeps {m : Nat} {r : State} {b0 : List Byte} {s : State} (hm : Sub 4722366481770138903564 m) (hs : Keeps
    m r s) :
    Keeps m r (fbDuplicate b0 s) := by
  unfold fbDuplicate
  extract_lets +onlyGivenNames x1 x2
  have h3 : Keeps m r x2 := fbRestrict_keeps (hm.mono rfl) (setFb_keeps (hm.mono rfl) hs)
  clear_value x2
  exact tknStart_keeps (hm.mono rfl) (faultRaise_keeps (hm.mono rfl) (post_keeps (hm.mono rfl) h3))

theorem claimTried_keeps {m : Nat} {r : State} {b0 : Bool} {b1 : Bool} {s : State} (hm : Sub 4722366481770138903564 m) (hs :
    Keeps m r s) :
    Keeps m r (claimTried b0 b1 s) := by
  unfold claimTried
  exact Keeps.ite hs (Keeps.ite (setFb_keeps (hm.mono rfl) hs) (Keeps.ite (fbDuplicate_keeps hm hs) (setFb_keeps (hm.mono
      rfl) hs)))

theorem fbPop_keeps {m : Nat} {r : State} {s : State} (hm : Sub 35184372088836 m) (hs : Keeps m r s) :
    Keeps m r (fbPop s) := by
  unfold fbPop
  exact setFld_keeps (hm.mono rfl) hs

theorem contactorSend_keeps {m : Nat} {r : State} {s : State} (hm : Sub 4722366481770137780236 m) (hs : Keeps m r s) :
    Keeps m r (contactorSend s) := by
  unfold contactorSend
  extract_lets +onlyGivenNames x1 x2
  refine Keeps.ite ?_ hs
  extract_lets +onlyGivenNames x3 x4 x5
  have h6 : Keeps m r x5 := setFb_keeps (hm.mono rfl) hs
  clear_value x5
  exact fbSend_keeps hm h6

theorem hbSend_keeps {m : Nat} {r : State} {s : State} (hm : Sub 4722366481770137780236 m) (hs : Keeps m r s) :
    Keeps m r (hbSend s) := by
  unfold hbSend
  exact Keeps.ite (fbFill_keeps hm (setFb_keeps (hm.mono rfl) hs)) hs

theorem fbTake_keeps {m : Nat} {r : State} {b0 : ℕ} {b1 : ℕ} {s : State} (hm : Sub 35184372088836 m) (hs : Keeps m r s) :
    KeepsP m r (fbTake b0 b1 s) := by
  induction b1 generalizing b0 s hs with
  | zero =>
    unfold fbTake
    exact KeepsP.mk' hs
  | succ n ih =>
    unfold fbTake
    refine KeepsP.ite (KeepsP.mk' hs) ?_
    split
    · rename_i y2 y3 y4 y5 e6
      refine KeepsP.ite (KeepsP.ite (KeepsP.mk' (fbPop_keeps hm hs)) (KeepsP.mk' hs)) ?_
      refine @ih _ _ ?_
      exact fbPop_keeps hm hs

theorem execClaimReceive_keeps {m : Nat} {r : State} {s : State} (hm : Sub 4722366481770137781260 m) (hs : Keeps m r s) :
    NextKeeps m r (execClaimReceive s) := by
  unfold execClaimReceive
  split
  · rename_i y2 y3 y4 s5 e6
    have h7 : Keeps m r s5 := (KeepsP.of_eq e6 (fbTake_keeps (hm.mono rfl) hs)).snd
    exact NextKeeps.ite (NextKeeps.next (fbSend_keeps (hm.mono rfl) (post_keeps (hm.mono rfl) h7))) (NextKeeps.next h7)
  · rename_i y8 s9 e10
    have h11 : Keeps m r s9 := (KeepsP.of_eq e10 (fbTake_keeps (hm.mono rfl) hs)).snd
    exact NextKeeps.next h11

theorem execContactorCommandSend_keeps {m : Nat} {r : State} {s : State} (hm : Sub 4722366481770137780236 m) (hs : Keeps m r
    s) :
    NextKeeps m r (execContactorCommandSend s) := by
  unfold execContactorCommandSend
  exact NextKeeps.next (contactorSend_keeps hm hs)

theorem fbBusOff_keeps {m : Nat} {r : State} {s : State} (hm : Sub 4538784003720196 m) (hs : Keeps m r s) :
    Keeps m r (fbBusOff s) := by
  unfold fbBusOff
  refine Keeps.ite hs ?_
  extract_lets +onlyGivenNames x1
  have h2 : Keeps m r x1 := raise_keeps (hm.mono rfl) (bump_keeps (hm.mono rfl) (setFld_keeps (hm.mono rfl) hs))
  clear_value x1
  extract_lets +onlyGivenNames x3 x4 x5
  have h6 : Keeps m r x5 := setFb_keeps (hm.mono rfl) h2
  clear_value x5
  extract_lets +onlyGivenNames x7
  have h8 : Keeps m r x7 := by
    unfold x7
    clear_value x3
    split
    · rename_i y10 y11
      exact Keeps.ite (fbFail_keeps (hm.mono rfl) h6) h6
    · rename_i y12
      exact h6
  clear_value x7
  extract_lets +onlyGivenNames x13 x14 x15
  have h16 : Keeps m r x15 := post_keeps (hm.mono rfl) (setFb_keeps (hm.mono rfl) h8)
  clear_value x15
  refine Keeps.ite ?_ (fbBusShow_keeps (hm.mono rfl) h16)
  extract_lets +onlyGivenNames x17 x18
  have h19 : Keeps m r x18 := lower_keeps (hm.mono rfl) (setFb_keeps (hm.mono rfl) h16)
  clear_value x18
  exact fbBusShow_keeps (hm.mono rfl) (faultRaise_keeps (hm.mono rfl) h19)

theorem execFbBusOff_keeps {m : Nat} {r : State} {s : State} (hm : Sub 4538784003720196 m) (hs : Keeps m r s) :
    NextKeeps m r (execFbBusOff s) := by
  unfold execFbBusOff
  exact NextKeeps.next (fbBusOff_keeps hm hs)

theorem fbShow_keeps {m : Nat} {r : State} {s : State} (hm : Sub 35184372088836 m) (hs : Keeps m r s) :
    Keeps m r (fbShow s) := by
  unfold fbShow
  extract_lets +onlyGivenNames x1 x2 x3
  have h4 : Keeps m r x3 := setFld_keeps (hm.mono rfl) (setFld_keeps (hm.mono rfl) hs)
  clear_value x3
  extract_lets +onlyGivenNames x5
  have h6 : Keeps m r x5 := setBool_keeps (hm.mono rfl) (setBool_keeps (hm.mono rfl) h4)
  clear_value x5
  exact Keeps.ite h6 (setFld_keeps (hm.mono rfl) h6)

theorem fbRecovered_keeps {m : Nat} {r : State} {s : State} (hm : Sub 35184376348684 m) (hs : Keeps m r s) :
    Keeps m r (fbRecovered s) := by
  unfold fbRecovered
  split
  · rename_i y2 y3 e4
    refine Keeps.ite ?_ hs
    extract_lets +onlyGivenNames x5 x6
    have h7 : Keeps m r x6 := setFld_keeps (hm.mono rfl) (setFb_keeps (hm.mono rfl) hs)
    clear_value x6
    extract_lets +onlyGivenNames x8
    have h9 : Keeps m r x8 := raise_keeps (hm.mono rfl) (fbShow_keeps (hm.mono rfl) h7)
    clear_value x8
    extract_lets +onlyGivenNames x10
    have h11 : Keeps m r x10 := by
      unfold x10
      refine Keeps.foldl h9 (fun s13 a12 h14 => ?_)
      exact Keeps.ite (faultGone_keeps (hm.mono rfl) h14) h14
    clear_value x10
    exact fbStart_keeps (hm.mono rfl) h11
  · rename_i y15 e16
    exact hs

theorem execFbBusOffRecovered_keeps {m : Nat} {r : State} {s : State} (hm : Sub 35184376348684 m) (hs : Keeps m r s) :
    NextKeeps m r (execFbBusOffRecovered s) := by
  unfold execFbBusOffRecovered
  exact NextKeeps.next (fbRecovered_keeps hm hs)

theorem execFbClaimListenEnd_keeps {m : Nat} {r : State} {s : State} (hm : Sub 4722366481770138903564 m) (hs : Keeps m r s) :
    NextKeeps m r (execFbClaimListenEnd s) := by
  unfold execFbClaimListenEnd
  exact NextKeeps.next (claimPass_keeps hm hs)

theorem execFbClaimStart_keeps {m : Nat} {r : State} {s : State} (hm : Sub 4722366481770137780236 m) (hs : Keeps m r s) :
    NextKeeps m r (execFbClaimStart s) := by
  unfold execFbClaimStart
  exact NextKeeps.next (claimSend_keeps hm hs)

theorem execFbDupRecheck_keeps {m : Nat} {r : State} {s : State} (hm : Sub 35184376283148 m) (hs : Keeps m r s) :
    NextKeeps m r (execFbDupRecheck s) := by
  unfold execFbDupRecheck
  exact NextKeeps.next (claimAgain_keeps hm hs)

theorem fbErrCode_keeps {m : Nat} {r : State} {b0 : ℕ} {b1 : Bool} {s : State} (hm : Sub 4722366481770133585924 m) (hs :
    Keeps m r s) :
    Keeps m r (fbErrCode b0 b1 s) := by
  unfold fbErrCode
  exact setFld_keeps (regMask.any (hm.mono rfl)) hs

theorem fbCount_keeps {m : Nat} {r : State} {b0 : ℕ} {b1 : ℕ} {s : State} (hm : Sub 35184376283140 m) (hs : Keeps m r s) :
    Keeps m r (fbCount b0 b1 s) := by
  unfold fbCount
  extract_lets +onlyGivenNames x1 x2 x3 x4
  have h5 : Keeps m r x4 := fbShow_keeps (hm.mono rfl) (setFb_keeps (hm.mono rfl) hs)
  clear_value x4
  extract_lets +onlyGivenNames x6
  have h7 : Keeps m r x6 := Keeps.ite (raise_keeps (hm.mono rfl) h5) h5
  clear_value x6
  exact Keeps.ite (raise_keeps (hm.mono rfl) h7) h7

theorem fbError_keeps {m : Nat} {r : State} {b0 : Bool} {b1 : ℕ} {b2 : ℕ} {b3 : Bool} {s : State} (hm : Sub
    4722366481770137780228 m) (hs : Keeps m r s) :
    Keeps m r (fbError b0 b1 b2 b3 s) := by
  unfold fbError
  extract_lets +onlyGivenNames x1
  have h2 : Keeps m r x1 := fbErrCode_keeps (hm.mono rfl) hs
  clear_value x1
  exact Keeps.ite h2 (Keeps.ite (fbCount_keeps (hm.mono rfl) h2) (fbCount_keeps (hm.mono rfl) h2))

theorem execFbError_keeps {m : Nat} {r : State} {b0 : ℕ} {b1 : ℕ} {b2 : Bool} {s : State} (hm : Sub 4722366481770137780228 m)
    (hs : Keeps m r s) :
    NextKeeps m r (execFbError b0 b1 b2 s) := by
  unfold execFbError
  exact NextKeeps.next (Keeps.ite (fbError_keeps hm hs) hs)

theorem fbRecGood_keeps {m : Nat} {r : State} {s : State} (hm : Sub 35184376283141 m) (hs : Keeps m r s) :
    Keeps m r (fbRecGood s) := by
  unfold fbRecGood
  refine Keeps.ite ?_ (fbCount_keeps (hm.mono rfl) hs)
  split
  · rename_i y2 y3 s4 e5
    have h6 : Keeps m r s4 := (KeepsP.of_eq e5 (takeFree_keeps (hm.mono rfl) hs)).snd
    exact fbCount_keeps (hm.mono rfl) h6

theorem fbQueue_keeps {m : Nat} {r : State} {b0 : FbFrame} {b1 : ℕ} {b2 : Bool} {s : State} (hm : Sub 35184372088852 m) (hs :
    Keeps m r s) :
    Keeps m r (fbQueue b0 b1 b2 s) := by
  unfold fbQueue
  refine Keeps.ite (raise_keeps (hm.mono rfl) (bump_keeps (hm.mono rfl) hs)) ?_
  extract_lets +onlyGivenNames x1 x2 x3 x4
  have h5 : Keeps m r x4 := setFld_keeps (hm.mono rfl) (setBytes_keeps (hm.mono rfl) hs)
  clear_value x4
  extract_lets +onlyGivenNames x6
  have h7 : Keeps m r x6 := bump_keeps (hm.mono rfl) (raise_keeps (hm.mono rfl) h5)
  clear_value x6
  extract_lets +onlyGivenNames x8
  have h9 : Keeps m r x8 := Keeps.ite (raise_keeps (hm.mono rfl) h7) h7
  clear_value x8
  exact Keeps.ite (raise_keeps (hm.mono rfl) h9) h9

theorem fbReceive_keeps {m : Nat} {r : State} {b0 : FbFrame} {s : State} (hm : Sub 4722366481770138903581 m) (hs : Keeps m r
    s) :
    Keeps m r (fbReceive b0 s) := by
  unfold fbReceive
  refine Keeps.ite hs ?_
  refine Keeps.ite (Keeps.ite (fbError_keeps (hm.mono rfl) hs) (raise_keeps (hm.mono rfl) (bump_keeps (hm.mono rfl) hs))) ?_
  refine Keeps.ite (fbError_keeps (hm.mono rfl) hs) ?_
  extract_lets +onlyGivenNames x1
  have h2 : Keeps m r x1 := Keeps.ite hs (fbRecGood_keeps (hm.mono rfl) hs)
  clear_value x1
  extract_lets +onlyGivenNames x3
  have h4 : Keeps m r x3 := Keeps.ite (hbTaken_keeps (hm.mono rfl) h2) h2
  clear_value x3
  extract_lets +onlyGivenNames x5 x6
  have h7 : Keeps m r x6 := Keeps.ite (raise_keeps (hm.mono rfl) (bump_keeps (hm.mono rfl) h4)) h4
  clear_value x6
  split
  · rename_i y9 y10 y11 y12 e13
    extract_lets +onlyGivenNames x14
    have h15 : Keeps m r x14 := Keeps.ite (fbQueue_keeps (hm.mono rfl) h7) h7
    clear_value x14
    extract_lets +onlyGivenNames x16
    exact Keeps.ite (fbDuplicate_keeps (hm.mono rfl) h15) (Keeps.ite (post_keeps (hm.mono rfl) h15) h15)

theorem execFbFrameReceive_keeps {m : Nat} {r : State} {b0 : FbFrame} {s : State} (hm : Sub 4722366481770138903581 m) (hs :
    Keeps m r s) :
    NextKeeps m r (execFbFrameReceive b0 s) := by
  unfold execFbFrameReceive
  exact NextKeeps.next (fbReceive_keeps hm hs)

theorem hbTick_keeps {m : Nat} {r : State} {s : State} (hm : Sub 4722366481770137780236 m) (hs : Keeps m r s) :
    Keeps m r (hbTick s) := by
  unfold hbTick
  split
  · rename_i y2 y3 e4
    exact Keeps.ite (hbSend_keeps hm hs) hs
  · rename_i y5 e6
    exact hbSend_keeps hm hs

theorem execFbHeartbeatSend_keeps {m : Nat} {r : State} {s : State} (hm : Sub 4722366481770137780236 m) (hs : Keeps m r s) :
    NextKeeps m r (execFbHeartbeatSend s) := by
  unfold execFbHeartbeatSend
  exact NextKeeps.next (hbTick_keeps hm hs)

theorem execFbRecover_keeps {m : Nat} {r : State} {b0 : Origin} {s : State} (hm : Sub 4539883515282700 m) (hs : Keeps m r s) :
    NextKeeps m r (execFbRecover b0 s) := by
  unfold execFbRecover
  refine NextKeeps.next ?_
  refine coreWrite_keeps (hm.mono rfl) (fun a1 a2 a3 a4 a5 a6 => ?_) hs
  exact fbcWritten_keeps (hm.mono rfl) a6

theorem execFbRecoverPauseEnd_keeps {m : Nat} {r : State} {s : State} (hm : Sub 35184376283148 m) (hs : Keeps m r s) :
    NextKeeps m r (execFbRecoverPauseEnd s) := by
  unfold execFbRecoverPauseEnd
  split
  · rename_i y2 y3 e4
    refine NextKeeps.ite ?_ (NextKeeps.next hs)
    refine NextKeeps.next ?_
    refine fwWrite_keeps (hm.mono rfl) (fun a5 a6 a7 a8 a9 a10 => ?_) (setFb_keeps (hm.mono rfl) hs)
    exact fbcWritten_keeps hm a10
  · rename_i y11 e12
    exact NextKeeps.next hs

theorem execFbTxAbort_keeps {m : Nat} {r : State} {b0 : Origin} {b1 : BitVec 3} {s : State} (hm : Sub 4539883515282700 m) (hs
    : Keeps m r s) :
    NextKeeps m r (execFbTxAbort b0 b1 s) := by
  unfold execFbTxAbort
  refine NextKeeps.next ?_
  refine coreWrite_keeps (hm.mono rfl) (fun a1 a2 a3 a4 a5 a6 => ?_) hs
  exact fbcWritten_keeps (hm.mono rfl) a6

theorem fbTryFailed_keeps {m : Nat} {r : State} {b0 : Bool} {s : State} (hm : Sub 4722366481770138903564 m) (hs : Keeps m r s) :
    Keeps m r (fbTryFailed b0 s) := by
  unfold fbTryFailed
  split
  · rename_i y2 e3
    exact hs
  · rename_i y4 y5 e6
    extract_lets +onlyGivenNames x7 x8 x9
    have h10 : Keeps m r x9 := setFb_keeps (hm.mono rfl) hs
    clear_value x9
    extract_lets +onlyGivenNames x11
    have h12 : Keeps m r x11 := Keeps.ite (fbFail_keeps (hm.mono rfl) h10) h10
    clear_value x11
    extract_lets +onlyGivenNames x13
    have h14 : Keeps m r x13 := Keeps.ite (claimTried_keeps hm h12) h12
    clear_value x13
    exact fbFeed_keeps (hm.mono rfl) (fbStart_keeps (hm.mono rfl) h14)

theorem fbTxEnd_keeps {m : Nat} {r : State} {b0 : TxEnd} {s : State} (hm : Sub 4722366481770138903566 m) (hs : Keeps m r s) :
    Keeps m r (fbTxEnd b0 s) := by
  unfold fbTxEnd
  split
  · rename_i y2 y3 y4 e5
    exact hs
  · rename_i y6 y7 y8 e9
    exact fbTryFailed_keeps (hm.mono rfl) hs
  · rename_i y10 y11 y12 y13 y14 y15 e16
    exact fbTryFailed_keeps (hm.mono rfl) (fbError_keeps (hm.mono rfl) hs)
  · rename_i y17 y18 y19 e20
    extract_lets +onlyGivenNames x21
    have h22 : Keeps m r x21 := emit_keeps (hm.mono rfl) hs
    clear_value x21
    extract_lets +onlyGivenNames x23
    have h24 : Keeps m r x23 := bump_keeps (hm.mono rfl) (raise_keeps (hm.mono rfl) (raiseBit_keeps (hm.mono rfl)
        (lowerBit_keeps (hm.mono rfl) h22)))
    clear_value x23
    extract_lets +onlyGivenNames x25 x26
    have h27 : Keeps m r x26 := fbCount_keeps (hm.mono rfl) (setFb_keeps (hm.mono rfl) h24)
    clear_value x26
    exact fbFeed_keeps (hm.mono rfl) (fbStart_keeps (hm.mono rfl) (Keeps.ite (claimTried_keeps (hm.mono rfl) h27) h27))

theorem execFbTxComplete_keeps {m : Nat} {r : State} {b0 : TxEnd} {s : State} (hm : Sub 4722366481770138903566 m) (hs : Keeps
    m r s) :
    NextKeeps m r (execFbTxComplete b0 s) := by
  unfold execFbTxComplete
  exact NextKeeps.next (fbTxEnd_keeps hm hs)

theorem execFbTxRequest_keeps {m : Nat} {r : State} {b0 : Origin} {b1 : BitVec 3} {s : State} (hm : Sub 4539883515282700 m)
    (hs : Keeps m r s) :
    NextKeeps m r (execFbTxRequest b0 b1 s) := by
  unfold execFbTxRequest
  refine NextKeeps.next ?_
  refine coreWrite_keeps (hm.mono rfl) (fun a1 a2 a3 a4 a5 a6 => ?_) hs
  exact fbcWritten_keeps (hm.mono rfl) a6

theorem execFbWakeupPattern_keeps {m : Nat} {r : State} {s : State} (hm : Sub 4540983056270340 m) (hs : Keeps m r s) :
    NextKeeps m r (execFbWakeupPattern s) := by
  unfold execFbWakeupPattern
  exact NextKeeps.next (Keeps.ite (latchSet_keeps (hm.mono rfl) (raise_keeps (hm.mono rfl) hs)) hs)

theorem execFbcRunWrite_keeps {m : Nat} {r : State} {b0 : Origin} {b1 : Bool} {s : State} (hm : Sub 4539883515282700 m) (hs :
    Keeps m r s) :
    NextKeeps m r (execFbcRunWrite b0 b1 s) := by
  unfold execFbcRunWrite
  refine NextKeeps.next ?_
  refine coreWrite_keeps (hm.mono rfl) (fun a1 a2 a3 a4 a5 a6 => ?_) hs
  exact fbcWritten_keeps (hm.mono rfl) a6

theorem inputTake_keeps {m : Nat} {r : State} {s : State} (hm : Sub 35184376283140 m) (hs : Keeps m r s) :
    KeepsP m r (inputTake s) := by
  unfold inputTake
  split
  · rename_i y2 s3 e4
    have h5 : Keeps m r s3 := (KeepsP.of_eq e4 (fbTake_keeps (hm.mono rfl) hs)).snd
    exact KeepsP.mk' h5
  · rename_i y6 y7 y8 s9 e10
    have h11 : Keeps m r s9 := (KeepsP.of_eq e10 (fbTake_keeps (hm.mono rfl) hs)).snd
    extract_lets +onlyGivenNames x12 x13 x14 x15
    refine KeepsP.ite (KeepsP.mk' h11) ?_
    extract_lets +onlyGivenNames x16
    exact KeepsP.mk' (setFb_keeps (hm.mono rfl) h11)

theorem xnc8Record_keeps {m : Nat} {r : State} {b0 : ℕ} {b1 : ℕ} {b2 : ℕ} {s : State} (hm : Sub 4503599627437060 m) (hs :
    Keeps m r s) :
    Keeps m r (xnc8Record b0 b1 b2 s) := by
  unfold xnc8Record
  exact faultRaise_keeps hm (post_keeps (hm.mono rfl) hs)

theorem xnc8Missing_keeps {m : Nat} {r : State} {b0 : ℕ} {s : State} (hm : Sub 4503599631631364 m) (hs : Keeps m r s) :
    Keeps m r (xnc8Missing b0 s) := by
  unfold xnc8Missing
  split
  · rename_i y2 y3 e4
    exact Keeps.ite (xnc8Record_keeps (hm.mono rfl) (setFb_keeps (hm.mono rfl) hs)) hs
  · rename_i y5 e6
    exact hs

theorem execXnc8StatusMissing_keeps {m : Nat} {r : State} {b0 : ℕ} {s : State} (hm : Sub 4503599631631364 m) (hs : Keeps m r
    s) :
    NextKeeps m r (execXnc8StatusMissing b0 s) := by
  unfold execXnc8StatusMissing
  exact NextKeeps.next (xnc8Missing_keeps hm hs)

theorem xnc8Status_keeps {m : Nat} {r : State} {b0 : ℕ} {b1 : List Byte} {s : State} (hm : Sub 4503599631631364 m) (hs :
    Keeps m r s) :
    Keeps m r (xnc8Status b0 b1 s) := by
  unfold xnc8Status
  extract_lets +onlyGivenNames x1 x2 x3 x4 x5 x6
  have h7 : Keeps m r x6 := setFb_keeps (hm.mono rfl) hs
  clear_value x6
  refine Keeps.ite h7 ?_
  extract_lets +onlyGivenNames x8
  have h9 : Keeps m r x8 := Keeps.ite (xnc8Record_keeps (hm.mono rfl) h7) h7
  clear_value x8
  extract_lets +onlyGivenNames x10
  have h11 : Keeps m r x10 := Keeps.ite (xnc8Record_keeps (hm.mono rfl) h9) h9
  clear_value x10
  exact Keeps.ite (faultGone_keeps (hm.mono rfl) h11) h11

theorem execXnc8StatusReceive_keeps {m : Nat} {r : State} {s : State} (hm : Sub 4538784003720196 m) (hs : Keeps m r s) :
    NextKeeps m r (execXnc8StatusReceive s) := by
  unfold execXnc8StatusReceive
  split
  · rename_i y2 y3 y4 s5 e6
    have h7 : Keeps m r s5 := (KeepsP.of_eq e6 (fbTake_keeps (hm.mono rfl) hs)).snd
    exact NextKeeps.next (xnc8Status_keeps (hm.mono rfl) h7)
  · rename_i y8 s9 e10
    have h11 : Keeps m r s9 := (KeepsP.of_eq e10 (fbTake_keeps (hm.mono rfl) hs)).snd
    exact NextKeeps.next h11

/-! ### Backup -/

theorem setBkd_keeps {m : Nat} {r : State} {b0 : BkdState} {s : State} (hm : Sub 32768 m) (hs : Keeps m r s) :
    Keeps m r (setBkd b0 s) := by
  unfold setBkd
  exact Keeps.set_bkd (hm.mono rfl) hs

theorem bkdWrite_keeps {m : Nat} {r : State} {b0 : Origin} {b1 : ℕ} {b2 : Word} {s : State} (hm : Sub 4513495232054532 m) (hs
    : Keeps m r s) :
    Keeps m r (bkdWrite b0 b1 b2 s) := by
  unfold bkdWrite
  split
  · rename_i y2 e3
    exact Keeps.ite (setResult_keeps (hm.mono rfl) (cfgErr_keeps (hm.mono rfl) hs)) (setResult_keeps (hm.mono rfl)
        (raise_keeps (hm.mono rfl) (setBkd_keeps (hm.mono rfl) hs)))
  · rename_i y4 e5
    exact planeRefuse_keeps (hm.mono rfl) hs
  · rename_i y6 e7
    exact setResult_keeps (hm.mono rfl) hs
  · rename_i y8 e9
    exact setResult_keeps (hm.mono rfl) hs

theorem bkdRead_keeps {m : Nat} {r : State} {b0 : Origin} {b1 : ℕ} {b2 : Word} {s : State} (hm : Sub 32768 m) (hs : Keeps m r
    s) :
    KeepsP m r (bkdRead b0 b1 b2 s) := by
  unfold bkdRead
  extract_lets +onlyGivenNames x1
  refine KeepsP.ite ?_ (KeepsP.ite (KeepsP.mk' hs) (KeepsP.ite (KeepsP.mk' hs) (KeepsP.mk' hs)))
  extract_lets +onlyGivenNames x2 x3
  refine KeepsP.mk' ?_
  split
  · rename_i y5 e6
    exact setBkd_keeps hm hs
  · rename_i y7 e8
    exact setBkd_keeps hm hs

theorem backupPowerOn_keeps {m : Nat} {r : State} {s : State} (hm : Sub 4722366481770133618700 m) (hs : Keeps m r s) :
    Keeps m r (backupPowerOn s) := by
  unfold backupPowerOn
  refine Keeps.ite hs ?_
  extract_lets c s1
  refine setBkd_keeps (hm.mono rfl) (Keeps.thin hs rfl rfl rfl rfl List.filter_sublist List.filter_sublist
    (List.Sublist.refl _) (List.Sublist.refl _) (List.Sublist.refl _) (List.Sublist.refl _) (hm.mono rfl) ?_)
  intro p e
  cases p <;> first | rfl | exact (Part.clash hm (by decide) e).elim

theorem calAnchor_keeps {m : Nat} {r : State} {s : State} (hm : Sub 32768 m) (hs : Keeps m r s) :
    Keeps m r (calAnchor s) := by
  unfold calAnchor
  extract_lets +onlyGivenNames x1
  exact setBkd_keeps hm hs

theorem calPut_keeps {m : Nat} {r : State} {b0 : ℕ} {s : State} (hm : Sub 32768 m) (hs : Keeps m r s) :
    Keeps m r (calPut b0 s) := by
  unfold calPut
  extract_lets +onlyGivenNames x1
  have h2 : Keeps m r x1 := calAnchor_keeps hm hs
  clear_value x1
  exact setBkd_keeps hm h2

theorem calSet_keeps {m : Nat} {r : State} {b0 : ℕ} {b1 : ℕ} {b2 : ℕ} {b3 : Bool} {s : State} (hm : Sub 4512395720426500 m)
    (hs : Keeps m r s) :
    Keeps m r (calSet b0 b1 b2 b3 s) := by
  unfold calSet
  refine Keeps.ite ?_ (post_keeps (hm.mono rfl) (raise_keeps (hm.mono rfl) hs))
  extract_lets +onlyGivenNames x1
  have h2 : Keeps m r x1 := calPut_keeps (hm.mono rfl) hs
  clear_value x1
  extract_lets +onlyGivenNames x3 x4
  have h5 : Keeps m r x4 := lower_keeps (hm.mono rfl) (setBkd_keeps (hm.mono rfl) h2)
  clear_value x4
  exact Keeps.ite (lower_keeps (hm.mono rfl) h5) h5

theorem calShift_keeps {m : Nat} {r : State} {b0 : ℤ} {s : State} (hm : Sub 8796093054980 m) (hs : Keeps m r s) :
    Keeps m r (calShift b0 s) := by
  unfold calShift
  refine Keeps.ite ?_ ?_
  · exact cfgErr_keeps (hm.mono rfl) hs
  · exact Keeps.ite (calPut_keeps (hm.mono rfl) hs) (raise_keeps (hm.mono rfl) (setBkd_keeps (hm.mono rfl) (calAnchor_keeps
        (hm.mono rfl) hs)))

theorem cellMeasure_keeps {m : Nat} {r : State} {s : State} (hm : Sub 8796093054980 m) (hs : Keeps m r s) :
    Keeps m r (cellMeasure s) := by
  unfold cellMeasure
  exact Keeps.ite hs (lower_keeps (hm.mono rfl) (raise_keeps (hm.mono rfl) (setBkd_keeps (hm.mono rfl) hs)))

theorem tamperLatch_keeps {m : Nat} {r : State} {b0 : ℕ} {s : State} (hm : Sub 4722366481774428668948 m) (hs : Keeps m r s) :
    Keeps m r (tamperLatch b0 s) := by
  unfold tamperLatch
  refine Keeps.ite hs ?_
  extract_lets +onlyGivenNames x1
  have h2 : Keeps m r x1 := raise_keeps (hm.mono rfl) (raiseBit_keeps (hm.mono rfl) hs)
  clear_value x1
  extract_lets +onlyGivenNames x3
  have h4 : Keeps m r x3 := bump_keeps (hm.mono rfl) h2
  clear_value x3
  extract_lets +onlyGivenNames x5 x6
  have h7 : Keeps m r x6 := zeroize_keeps (hm.mono rfl) h4
  clear_value x6
  exact faultRaise_keeps (hm.mono rfl) (postFnd_keeps (hm.mono rfl) h7)

theorem setOpt_keeps {m : Nat} {r : State} {b0 : ℕ} {s : State} (hm : Sub 8796093022212 m) (hs : Keeps m r s) :
    Keeps m r (setOpt b0 s) := by
  unfold setOpt
  exact setFld_keeps (hm.mono rfl) (setFld_keeps (hm.mono rfl) hs)

theorem bkdWritten_keeps {m : Nat} {r : State} {b0 : Origin} {b1 : ℕ} {b2 : Word} {o3 : State} {s : State} (hm : Sub
    4722366481774428668948 m) (hs : Keeps m r s) :
    Keeps m r (bkdWritten b0 b1 b2 o3 s) := by
  unfold bkdWritten
  refine Keeps.ite ?_ ?_
  · extract_lets +onlyGivenNames x1
    have h2 : Keeps m r x1 := Keeps.ite (calSet_keeps (hm.mono rfl) hs) hs
    clear_value x1
    extract_lets +onlyGivenNames x3
    have h4 : Keeps m r x3 := Keeps.ite (calShift_keeps (hm.mono rfl) h2) h2
    clear_value x3
    exact Keeps.ite (cellMeasure_keeps (hm.mono rfl) h4) h4
  · refine Keeps.ite (Keeps.ite (setBkd_keeps (hm.mono rfl) hs) hs) ?_
    refine Keeps.ite (Keeps.ite (lower_keeps (hm.mono rfl) hs) hs) ?_
    refine Keeps.ite ?_ ?_
    · refine Keeps.upTo hs (fun i5 s6 h7 => ?_)
      extract_lets +onlyGivenNames x8
      exact Keeps.ite (tamperLatch_keeps hm h7) h7
    · refine Keeps.ite (setBkd_keeps (hm.mono rfl) hs) ?_
      refine Keeps.ite ?_ hs
      extract_lets +onlyGivenNames x9 x10 x11
      have h12 : Keeps m r x11 := setBkd_keeps (hm.mono rfl) hs
      clear_value x11
      exact Keeps.ite (cfgErr_keeps (hm.mono rfl) h12) (setOpt_keeps (hm.mono rfl) h12)

theorem bkdCarried_keeps {m : Nat} {r : State} {s : State} (hm : Sub 4722366481774428668956 m) (hs : Keeps m r s) :
    Keeps m r (bkdCarried s) := by
  unfold bkdCarried
  split
  · rename_i y2 e3
    exact hs
  · rename_i y4 y5 y6 e7
    extract_lets +onlyGivenNames x8 x9
    have h10 : Keeps m r x9 := setBool_keeps (hm.mono rfl) (setBkd_keeps (hm.mono rfl) hs)
    clear_value x9
    refine regWrite_keeps (regMask.anyOr (hm.mono rfl)) (fun a11 a12 a13 a14 a15 a16 => ?_) h10
    exact bkdWritten_keeps (hm.mono rfl) a16

theorem calSecond_keeps {m : Nat} {r : State} {s : State} (hm : Sub 4514594777236484 m) (hs : Keeps m r s) :
    Keeps m r (calSecond s) := by
  unfold calSecond
  refine Keeps.ite hs ?_
  extract_lets +onlyGivenNames x1 x2 x3
  have h4 : Keeps m r x3 := calAnchor_keeps (hm.mono rfl) hs
  clear_value x3
  extract_lets +onlyGivenNames x5 x6 x7
  have h8 : Keeps m r x7 := Keeps.ite (raise_keeps (hm.mono rfl) (setBkd_keeps (hm.mono rfl) h4)) (setBkd_keeps (hm.mono rfl)
      hs)
  clear_value x7
  extract_lets +onlyGivenNames x9 x10
  have h11 : Keeps m r x10 := raise_keeps (hm.mono rfl) h8
  clear_value x10
  extract_lets +onlyGivenNames x12
  have h13 : Keeps m r x12 := Keeps.ite (latchSet_keeps (hm.mono rfl) (raise_keeps (hm.mono rfl) h11)) h11
  clear_value x12
  extract_lets +onlyGivenNames x14 x15 x16
  have h17 : Keeps m r x16 := Keeps.ite (Keeps.ite (latchSet_keeps (hm.mono rfl) (setBkd_keeps (hm.mono rfl) h13))
      (setBkd_keeps (hm.mono rfl) h13)) h13
  clear_value x16
  exact Keeps.ite (setOpt_keeps (hm.mono rfl) h17) h17

theorem calShiftEnd_keeps {m : Nat} {r : State} {s : State} (hm : Sub 8796093054980 m) (hs : Keeps m r s) :
    Keeps m r (calShiftEnd s) := by
  unfold calShiftEnd
  exact Keeps.ite (lower_keeps (hm.mono rfl) (calAnchor_keeps (hm.mono rfl) hs)) hs

theorem faultGoneAll_keeps {m : Nat} {r : State} {b0 : ℕ} {s : State} (hm : Sub 65536 m) (hs : Keeps m r s) :
    Keeps m r (faultGoneAll b0 s) := by
  unfold faultGoneAll
  refine Keeps.foldl hs (fun s2 a1 h3 => ?_)
  exact faultGone_keeps hm h3

theorem cellMeasured_keeps {m : Nat} {r : State} {b0 : ℕ} {s : State} (hm : Sub 4512395720459268 m) (hs : Keeps m r s) :
    Keeps m r (cellMeasured b0 s) := by
  unfold cellMeasured
  refine Keeps.ite hs ?_
  extract_lets +onlyGivenNames x1
  have h2 : Keeps m r x1 := setBool_keeps (hm.mono rfl) (lower_keeps (hm.mono rfl) hs)
  clear_value x1
  extract_lets +onlyGivenNames x3
  have h4 : Keeps m r x3 := setFld_keeps (hm.mono rfl) h2
  clear_value x3
  refine Keeps.ite ?_ ?_
  · exact faultRaise_keeps (hm.mono rfl) (post_keeps (hm.mono rfl) (raise_keeps (hm.mono rfl) (raise_keeps (hm.mono rfl) h4)))
  · exact faultGoneAll_keeps (hm.mono rfl) (lower_keeps (hm.mono rfl) h4)

theorem chargerSwitch_keeps {m : Nat} {r : State} {b0 : ℕ} {s : State} (hm : Sub 8796093022212 m) (hs : Keeps m r s) :
    Keeps m r (chargerSwitch b0 s) := by
  unfold chargerSwitch
  exact Keeps.ite (lower_keeps (hm.mono rfl) hs) (Keeps.ite (lower_keeps (hm.mono rfl) hs) (Keeps.ite (raise_keeps (hm.mono
      rfl) hs) hs))

theorem discipline_keeps {m : Nat} {r : State} {s : State} (hm : Sub 4512395720426508 m) (hs : Keeps m r s) :
    Keeps m r (discipline s) := by
  unfold discipline
  extract_lets +onlyGivenNames x1
  refine Keeps.ite (setBkd_keeps (hm.mono rfl) hs) ?_
  refine Keeps.ite hs ?_
  extract_lets +onlyGivenNames x2 x3 x4
  have h5 : Keeps m r x4 := by
    unfold x4
    split
    · rename_i y7 y8 e9
      refine Keeps.ite ?_ hs
      extract_lets +onlyGivenNames x10 x11
      refine shadow_keeps ?_ (hm.mono rfl) hs
      have e : shadowFits (shadowKey R.BKD_TRIM_ppm, 0) = true := by decide
      revert e
      simp only [shadowFits]
      have : fieldInfoAt (shadowKey R.BKD_TRIM_ppm / 32) (shadowKey R.BKD_TRIM_ppm % 32) = some ⟨0, 10, .rw, .shadow .trim, 0⟩ := by decide
      rw [this]
      intro _
      refine Bool.and_eq_true_iff.2 ⟨rfl, decide_eq_true ?_⟩
      exact Nat.mod_lt _ (by decide)
    · rename_i y12 e13
      exact hs
  clear_value x4
  extract_lets +onlyGivenNames x14 x15
  have h16 : Keeps m r x15 := setBkd_keeps (hm.mono rfl) h5
  clear_value x15
  refine Keeps.ite (calShift_keeps (hm.mono rfl) h16) ?_
  extract_lets +onlyGivenNames x17
  exact calSet_keeps (hm.mono rfl) h16

theorem domainLoss_keeps {m : Nat} {r : State} {s : State} (hm : Sub 32768 m) (hs : Keeps m r s) :
    Keeps m r (domainLoss s) := by
  unfold domainLoss
  exact Keeps.ite hs (setBkd_keeps hm hs)

theorem execBackupDomainLoss_keeps {m : Nat} {r : State} {s : State} (hm : Sub 32768 m) (hs : Keeps m r s) :
    NextKeeps m r (execBackupDomainLoss s) := by
  unfold execBackupDomainLoss
  exact NextKeeps.next (domainLoss_keeps hm hs)

theorem execBackupPowerOn_keeps {m : Nat} {r : State} {s : State} (hm : Sub 4722366481770133618700 m) (hs : Keeps m r s) :
    NextKeeps m r (execBackupPowerOn s) := by
  unfold execBackupPowerOn
  exact NextKeeps.next (backupPowerOn_keeps hm hs)

theorem execBkdWriteCarried_keeps {m : Nat} {r : State} {s : State} (hm : Sub 4722366481774428668956 m) (hs : Keeps m r s) :
    NextKeeps m r (execBkdWriteCarried s) := by
  unfold execBkdWriteCarried
  exact NextKeeps.next (bkdCarried_keeps hm hs)

theorem execCalendarDiscipline_keeps {m : Nat} {r : State} {s : State} (hm : Sub 4512395720426508 m) (hs : Keeps m r s) :
    NextKeeps m r (execCalendarDiscipline s) := by
  unfold execCalendarDiscipline
  exact NextKeeps.next (discipline_keeps hm hs)

theorem execCalendarRead_keeps {m : Nat} {r : State} {b0 : Origin} {s : State} (hm : Sub 4513495232054532 m) (hs : Keeps m r
    s) :
    NextKeeps m r (execCalendarRead b0 s) := by
  unfold execCalendarRead
  refine NextKeeps.next ?_
  refine coreRead_keeps (hm.mono rfl) (fun a1 a2 a3 a4 a5 => ?_) hs
  exact bkdRead_keeps (hm.mono rfl) a5

theorem execCalendarSecond_keeps {m : Nat} {r : State} {s : State} (hm : Sub 4514594777236484 m) (hs : Keeps m r s) :
    NextKeeps m r (execCalendarSecond s) := by
  unfold execCalendarSecond
  exact NextKeeps.next (calSecond_keeps hm hs)

theorem execCalendarSet_keeps {m : Nat} {r : State} {b0 : Origin} {s : State} (hm : Sub 4513495232054532 m) (hs : Keeps m r s) :
    NextKeeps m r (execCalendarSet b0 s) := by
  unfold execCalendarSet
  exact NextKeeps.next (bkdWrite_keeps hm hs)

theorem execCalendarShift_keeps {m : Nat} {r : State} {b0 : Origin} {s : State} (hm : Sub 4513495232054532 m) (hs : Keeps m r
    s) :
    NextKeeps m r (execCalendarShift b0 s) := by
  unfold execCalendarShift
  exact NextKeeps.next (bkdWrite_keeps hm hs)

theorem execCalendarShiftEnd_keeps {m : Nat} {r : State} {s : State} (hm : Sub 8796093054980 m) (hs : Keeps m r s) :
    NextKeeps m r (execCalendarShiftEnd s) := by
  unfold execCalendarShiftEnd
  exact NextKeeps.next (calShiftEnd_keeps hm hs)

theorem execCellMeasure_keeps {m : Nat} {r : State} {b0 : Origin} {s : State} (hm : Sub 4513495232054532 m) (hs : Keeps m r s) :
    NextKeeps m r (execCellMeasure b0 s) := by
  unfold execCellMeasure
  exact NextKeeps.next (bkdWrite_keeps hm hs)

theorem execCellMeasureDone_keeps {m : Nat} {r : State} {b0 : ℕ} {s : State} (hm : Sub 4512395720459268 m) (hs : Keeps m r s) :
    NextKeeps m r (execCellMeasureDone b0 s) := by
  unfold execCellMeasureDone
  exact NextKeeps.next (cellMeasured_keeps hm hs)

theorem execChargerSwitch_keeps {m : Nat} {r : State} {b0 : ℕ} {s : State} (hm : Sub 8796093022212 m) (hs : Keeps m r s) :
    NextKeeps m r (execChargerSwitch b0 s) := by
  unfold execChargerSwitch
  exact NextKeeps.next (chargerSwitch_keeps hm hs)

theorem mirrorWrite_keeps {m : Nat} {r : State} {s : State} (hm : Sub 16 m) (hs : Keeps m r s) :
    Keeps m r (mirrorWrite s) := by
  unfold mirrorWrite
  extract_lets +onlyGivenNames x1 x2 x3
  exact setBytes_keeps (hm.mono rfl) hs

theorem reconcile_keeps {m : Nat} {r : State} {s : State} (hm : Sub 4512395720426516 m) (hs : Keeps m r s) :
    Keeps m r (reconcile s) := by
  unfold reconcile
  extract_lets +onlyGivenNames x1 x2 x3 x4
  have h5 : Keeps m r x4 := setOpt_keeps (hm.mono rfl) hs
  clear_value x4
  extract_lets +onlyGivenNames x6
  have h7 : Keeps m r x6 := setFld_keeps (hm.mono rfl) h5
  clear_value x6
  extract_lets +onlyGivenNames x8 x9
  have h10 : Keeps m r x9 := setFld_keeps (hm.mono rfl) h7
  clear_value x9
  extract_lets +onlyGivenNames x11
  have h12 : Keeps m r x11 := Keeps.ite (calSet_keeps (hm.mono rfl) h10) h10
  clear_value x11
  extract_lets +onlyGivenNames x13 x14
  have h15 : Keeps m r x14 := mirrorWrite_keeps (hm.mono rfl) (setBkd_keeps (hm.mono rfl) h12)
  clear_value x14
  exact Keeps.ite (lower_keeps (hm.mono rfl) (postFnd_keeps (hm.mono rfl) h15)) h15

theorem mirrorCheckpoint_keeps {m : Nat} {r : State} {s : State} (hm : Sub 32784 m) (hs : Keeps m r s) :
    Keeps m r (mirrorCheckpoint s) := by
  unfold mirrorCheckpoint
  refine Keeps.ite hs ?_
  extract_lets +onlyGivenNames x1
  exact mirrorWrite_keeps (hm.mono rfl) (setBkd_keeps (hm.mono rfl) hs)

theorem execMirrorCheckpoint_keeps {m : Nat} {r : State} {s : State} (hm : Sub 32784 m) (hs : Keeps m r s) :
    NextKeeps m r (execMirrorCheckpoint s) := by
  unfold execMirrorCheckpoint
  exact NextKeeps.next (mirrorCheckpoint_keeps hm hs)

theorem tamperInput_keeps {m : Nat} {r : State} {b0 : ℕ} {b1 : Bool} {b2 : ℕ} {s : State} (hm : Sub 4722366481774428668948 m)
    (hs : Keeps m r s) :
    Keeps m r (tamperInput b0 b1 b2 s) := by
  unfold tamperInput
  refine Keeps.ite hs ?_
  extract_lets +onlyGivenNames x1
  have h2 : Keeps m r x1 := Keeps.ite (raiseBit_keeps (hm.mono rfl) hs) (lowerBit_keeps (hm.mono rfl) hs)
  clear_value x1
  exact Keeps.ite (tamperLatch_keeps hm h2) h2

theorem execTamper_keeps {m : Nat} {r : State} {b0 : ℕ} {b1 : Bool} {b2 : ℕ} {s : State} (hm : Sub 4722366481774428668948 m)
    (hs : Keeps m r s) :
    NextKeeps m r (execTamper b0 b1 b2 s) := by
  unfold execTamper
  exact NextKeeps.next (tamperInput_keeps hm hs)

theorem trimWindow_keeps {m : Nat} {r : State} {s : State} (hm : Sub 8796093054988 m) (hs : Keeps m r s) :
    Keeps m r (trimWindow s) := by
  unfold trimWindow
  refine Keeps.ite hs ?_
  extract_lets +onlyGivenNames x1
  have h2 : Keeps m r x1 := calAnchor_keeps (hm.mono rfl) hs
  clear_value x1
  exact transferShadows_keeps (hm.mono rfl) (setBkd_keeps (hm.mono rfl) h2)

theorem execTrimWindow_keeps {m : Nat} {r : State} {s : State} (hm : Sub 8796093054988 m) (hs : Keeps m r s) :
    NextKeeps m r (execTrimWindow s) := by
  unfold execTrimWindow
  exact NextKeeps.next (trimWindow_keeps hm hs)

/-! ### NodeTable -/

theorem setNodes_keeps {m : Nat} {r : State} {b0 : NodesState} {s : State} (hm : Sub 67108864 m) (hs : Keeps m r s) :
    Keeps m r (setNodes b0 s) := by
  unfold setNodes
  exact Keeps.set_nodes (hm.mono rfl) hs

theorem setLive_keeps {m : Nat} {r : State} {b0 : ℕ} {b1 : NodeLive} {s : State} (hm : Sub 67108864 m) (hs : Keeps m r s) :
    Keeps m r (setLive b0 b1 s) := by
  unfold setLive
  exact setNodes_keeps hm hs

theorem setEntry_keeps {m : Nat} {r : State} {b0 : ℕ} {b1 : NodeEntry} {s : State} (hm : Sub 8589934592 m) (hs : Keeps m r s) :
    Keeps m r (setEntry b0 b1 s) := by
  unfold setEntry
  exact Keeps.set_nv (hm.mono rfl) hs

theorem streamNode_keeps {m : Nat} {r : State} {b0 : ℕ} {s : State} (hm : Sub 8192 m) (hs : Keeps m r s) :
    Keeps m r (streamNode b0 s) := by
  unfold streamNode
  split
  · rename_i y2 y3 e4
    exact streamPut_keeps hm hs
  · rename_i y5 e6
    exact hs

theorem queueFrame_keeps {m : Nat} {r : State} {b0 : ℕ} {b1 : ℕ} {b2 : ℕ} {b3 : List Byte} {s : State} (hm : Sub
    4521191813420036 m) (hs : Keeps m r s) :
    KeepsP m r (queueFrame b0 b1 b2 b3 s) := by
  unfold queueFrame
  exact coreQueue_keeps hm hs

theorem sendCommand_keeps {m : Nat} {r : State} {b0 : ℕ} {b1 : NodeEntry} {b2 : NodeCmd} {s : State} (hm : Sub
    4521191880528900 m) (hs : Keeps m r s) :
    Keeps m r (sendCommand b0 b1 b2 s) := by
  unfold sendCommand
  extract_lets +onlyGivenNames x1
  split
  · rename_i y3 y4 s5 e6
    have h7 : Keeps m r s5 := (KeepsP.of_eq e6 (queueFrame_keeps (hm.mono rfl) hs)).snd
    exact setLive_keeps (hm.mono rfl) h7

theorem nextCommand_keeps {m : Nat} {r : State} {b0 : ℕ} {b1 : Bool} {s : State} (hm : Sub 4521200470471684 m) (hs : Keeps m
    r s) :
    Keeps m r (nextCommand b0 b1 s) := by
  unfold nextCommand
  split
  · rename_i y2 e3
    exact hs
  · rename_i y4 y5 e6
    extract_lets +onlyGivenNames x7
    refine Keeps.ite hs ?_
    split
    · rename_i y9 e10
      exact hs
    · rename_i y11 y12 y13 e14
      split
      · rename_i y16 e17
        exact setLive_keeps (hm.mono rfl) hs
      · rename_i y18 y19 y20 e21
        extract_lets +onlyGivenNames x22
        split
        · rename_i y24 y25 s26 e27
          have h28 : Keeps m r s26 := (KeepsP.of_eq e27 (journalWrite_keeps (hm.mono rfl) hs)).snd
          extract_lets +onlyGivenNames x29
          have h30 : Keeps m r x29 := setEntry_keeps (hm.mono rfl) (setLive_keeps (hm.mono rfl) h28)
          clear_value x29
          exact streamNode_keeps (hm.mono rfl) (sendCommand_keeps (hm.mono rfl) h30)

theorem setSettings_keeps {m : Nat} {r : State} {b0 : ℕ} {b1 : ℕ} {b2 : ℕ} {b3 : ℕ} {s : State} (hm : Sub 67108864 m) (hs :
    Keeps m r s) :
    Keeps m r (setSettings b0 b1 b2 b3 s) := by
  unfold setSettings
  extract_lets +onlyGivenNames x1
  exact Keeps.ite (setLive_keeps hm hs) (Keeps.ite (setLive_keeps hm hs) hs)

theorem wantCommand_keeps {m : Nat} {r : State} {b0 : ℕ} {b1 : NodeWant} {s : State} (hm : Sub 4521200470471684 m) (hs :
    Keeps m r s) :
    Keeps m r (wantCommand b0 b1 s) := by
  unfold wantCommand
  split
  · rename_i y2 e3
    exact hs
  · rename_i y4 y5 e6
    refine Keeps.ite hs ?_
    extract_lets +onlyGivenNames x7 x8
    have h9 : Keeps m r x8 := Keeps.ite hs (setLive_keeps (hm.mono rfl) hs)
    clear_value x8
    exact nextCommand_keeps hm (setSettings_keeps (hm.mono rfl) h9)

theorem wantSettings_keeps {m : Nat} {r : State} {b0 : ℕ} {b1 : ℕ} {b2 : ℕ} {s : State} (hm : Sub 4521200470471684 m) (hs :
    Keeps m r s) :
    Keeps m r (wantSettings b0 b1 b2 s) := by
  unfold wantSettings
  exact wantCommand_keeps hm hs

theorem groupQueue_keeps {m : Nat} {r : State} {b0 : GroupCmd} {s : State} (hm : Sub 4521191813420036 m) (hs : Keeps m r s) :
    KeepsP m r (groupQueue b0 s) := by
  unfold groupQueue
  refine KeepsP.foldl (KeepsP.mk' hs) (fun s2 a1 h3 => ?_)
  extract_lets +onlyGivenNames x4 x5
  refine KeepsP.ite ?_ h3
  refine KeepsP.mk' ?_
  refine Keeps.upTo h3.snd (fun i6 s7 h8 => ?_)
  exact (queueFrame_keeps hm h8).snd

theorem groupStep_keeps {m : Nat} {r : State} {b0 : ℕ} {s : State} (hm : Sub 4521200470471684 m) (hs : Keeps m r s) :
    Keeps m r (groupStep b0 s) := by
  induction b0 generalizing s hs with
  | zero =>
    unfold groupStep
    exact hs
  | succ n ih =>
    unfold groupStep
    split
    · rename_i y2 e3
      exact hs
    · rename_i y4 y5 y6 e7
      split
      · rename_i y9 y10 s11 e12
        have h13 : Keeps m r s11 := (KeepsP.of_eq e12 (groupQueue_keeps (hm.mono rfl) hs)).snd
        refine Keeps.ite ?_ (setNodes_keeps (hm.mono rfl) h13)
        refine @ih _ ?_
        exact journalRelease_keeps (hm.mono rfl) (setNodes_keeps (hm.mono rfl) h13)

theorem groupCommand_keeps {m : Nat} {r : State} {b0 : ℕ} {b1 : ℕ} {b2 : List Byte} {s : State} (hm : Sub 4521200470471684 m)
    (hs : Keeps m r s) :
    Keeps m r (groupCommand b0 b1 b2 s) := by
  unfold groupCommand
  extract_lets +onlyGivenNames x1 x2 x3 x4
  have h5 : Keeps m r x4 := Keeps.set_nv (hm.mono rfl) hs
  clear_value x4
  split
  · rename_i y7 y8 s9 e10
    have h11 : Keeps m r s9 := (KeepsP.of_eq e10 (journalWrite_keeps (hm.mono rfl) h5)).snd
    exact groupStep_keeps hm (setNodes_keeps (hm.mono rfl) h11)

theorem setPhase_keeps {m : Nat} {r : State} {b0 : HeadwayChan} {b1 : ℕ} {s : State} (hm : Sub 6773000285205572 m) (hs :
    Keeps m r s) :
    Keeps m r (setPhase b0 b1 s) := by
  unfold setPhase
  refine Keeps.ite ?_ (Keeps.ite hs (wantSettings_keeps (hm.mono rfl) (odSetNat_keeps (hm.mono rfl) hs)))
  extract_lets +onlyGivenNames x1
  exact Keeps.ite hs (sdcTableWrite_keeps (hm.mono rfl) hs)

theorem headway_keeps {m : Nat} {r : State} {b0 : ℕ} {b1 : ℕ} {s : State} (hm : Sub 6773000285205572 m) (hs : Keeps m r s) :
    Keeps m r (headway b0 b1 s) := by
  unfold headway
  refine Keeps.ite hs ?_
  refine Keeps.upTo hs (fun i1 s2 h3 => ?_)
  extract_lets +onlyGivenNames x4
  refine Keeps.foldl h3 (fun s6 a5 h7 => ?_)
  split
  · rename_i y9 y10 y11
    exact setPhase_keeps hm h7

theorem headwayAll_keeps {m : Nat} {r : State} {b0 : List (ℕ × ℕ)} {s : State} (hm : Sub 6773000285205572 m) (hs : Keeps m r
    s) :
    Keeps m r (headwayAll b0 s) := by
  unfold headwayAll
  refine Keeps.foldl hs (fun s2 a1 h3 => ?_)
  exact headway_keeps hm h3

theorem sendParams_keeps {m : Nat} {r : State} {b0 : ℕ} {b1 : ℕ} {b2 : List Byte} {s : State} (hm : Sub 4521200470471684 m)
    (hs : Keeps m r s) :
    Keeps m r (sendParams b0 b1 b2 s) := by
  unfold sendParams
  exact wantCommand_keeps hm hs

theorem planWrite_keeps {m : Nat} {r : State} {s : State} (hm : Sub 140737555734556 m) (hs : Keeps m r s) :
    Keeps m r (planWrite s) := by
  unfold planWrite
  extract_lets +onlyGivenNames x1 x2 x3
  refine Keeps.ite hs ?_
  extract_lets +onlyGivenNames x4 x5 x6
  have h7 : ∀ a8 a9 s10, Keeps m r s10 → Keeps m r (x6 a8 a9 s10) := by
    intro a8 a9 s10 h11
    unfold x6
    exact streamPut_keeps (hm.mono rfl) (setMemNat_keeps (hm.mono rfl) h11)
  clear_value x6
  extract_lets +onlyGivenNames x12
  have h13 : Keeps m r x12 := by
    unfold x12
    refine Keeps.foldl hs (fun s15 a14 h16 => ?_)
    exact @h7 _ _ _ h16
  clear_value x12
  extract_lets +onlyGivenNames x17
  have h18 : Keeps m r x17 := by
    unfold x17
    refine Keeps.foldl h13 (fun s20 a19 h21 => ?_)
    exact @h7 _ _ _ h21
  clear_value x17
  extract_lets +onlyGivenNames x22 x23
  have h24 : Keeps m r x23 := setNodes_keeps (hm.mono rfl) h18
  clear_value x23
  refine fwField_keeps (hm.mono rfl) (fun a25 a26 a27 a28 a29 a30 => ?_) h24
  exact tteWritten_keeps (hm.mono rfl) a30

theorem commandEnd_keeps {m : Nat} {r : State} {b0 : ℕ} {b1 : NodeCmd} {b2 : Bool} {s : State} (hm : Sub 8657051648 m) (hs :
    Keeps m r s) :
    Keeps m r (commandEnd b0 b1 b2 s) := by
  unfold commandEnd
  extract_lets +onlyGivenNames x1
  have h2 : Keeps m r x1 := journalRelease_keeps (hm.mono rfl) hs
  clear_value x1
  extract_lets +onlyGivenNames x3 x4 x5
  have h6 : Keeps m r x5 := setLive_keeps (hm.mono rfl) h2
  clear_value x5
  exact Keeps.ite (Keeps.ite (setSettings_keeps (hm.mono rfl) h6) h6) (setSettings_keeps (hm.mono rfl) h6)

theorem showEntry_keeps {m : Nat} {r : State} {b0 : ℕ} {s : State} (hm : Sub 16 m) (hs : Keeps m r s) :
    Keeps m r (showEntry b0 s) := by
  unfold showEntry
  split
  · rename_i y2 y3 e4
    exact setNst_keeps hm hs
  · rename_i y5 e6
    exact setNst_keeps hm hs

theorem commandLost_keeps {m : Nat} {r : State} {b0 : ℕ} {b1 : NodeCmd} {s : State} (hm : Sub 4521200470471684 m) (hs : Keeps
    m r s) :
    Keeps m r (commandLost b0 b1 s) := by
  unfold commandLost
  exact nextCommand_keeps hm (commandEnd_keeps (hm.mono rfl) (post_keeps (hm.mono rfl) hs))

theorem commandRetry_keeps {m : Nat} {r : State} {b0 : ℕ} {s : State} (hm : Sub 4521200470471684 m) (hs : Keeps m r s) :
    Keeps m r (commandRetry b0 s) := by
  unfold commandRetry
  split
  · rename_i y2 y3 y4 y5 e6 e7
    exact Keeps.ite hs (Keeps.ite (commandLost_keeps hm hs) (Keeps.ite hs (sendCommand_keeps (hm.mono rfl) hs)))
  · rename_i y8 y9 e10
    exact hs

theorem resendSettings_keeps {m : Nat} {r : State} {b0 : ℕ} {s : State} (hm : Sub 4521200470471684 m) (hs : Keeps m r s) :
    Keeps m r (resendSettings b0 s) := by
  unfold resendSettings
  split
  · rename_i y2 e3
    exact hs
  · rename_i y4 y5 e6
    extract_lets +onlyGivenNames x7 x8
    have h9 : Keeps m r x8 := by
      unfold x8
      refine Keeps.foldl hs (fun s11 a10 h12 => ?_)
      exact wantSettings_keeps hm h12
    clear_value x8
    refine Keeps.foldl h9 (fun s14 a13 h15 => ?_)
    refine Keeps.foldl h15 (fun s17 a16 h18 => ?_)
    exact wantSettings_keeps hm h18

/-! ### ZoneTables -/

theorem tableWrite_keeps {m : Nat} {r : State} {b0 : ℕ} {b1 : List Byte} {s : State} (hm : Sub 8208 m) (hs : Keeps m r s) :
    Keeps m r (tableWrite b0 b1 s) := by
  unfold tableWrite
  exact streamPut_keeps (hm.mono rfl) (setBytes_keeps (hm.mono rfl) hs)

theorem inputPut_keeps {m : Nat} {r : State} {b0 : ℕ} {b1 : ℕ} {b2 : ℕ} {b3 : List Byte} {s : State} (hm : Sub 8208 m) (hs :
    Keeps m r s) :
    Keeps m r (inputPut b0 b1 b2 b3 s) := by
  unfold inputPut
  refine Keeps.foldl hs (fun s2 a1 h3 => ?_)
  exact Keeps.ite (tableWrite_keeps hm h3) h3

theorem setInputEnvelope_keeps {m : Nat} {r : State} {b0 : ℕ} {b1 : ℕ} {b2 : Envelope} {s : State} (hm : Sub 8208 m) (hs :
    Keeps m r s) :
    Keeps m r (setInputEnvelope b0 b1 b2 s) := by
  unfold setInputEnvelope
  exact inputPut_keeps hm (inputPut_keeps hm hs)

theorem envelopeBefore_keeps {m : Nat} {r : State} {b0 : ℕ} {b1 : ℕ} {s : State} (hm : Sub 8208 m) (hs : Keeps m r s) :
    Keeps m r (envelopeBefore b0 b1 s) := by
  unfold envelopeBefore
  refine Keeps.foldl hs (fun s2 a1 h3 => ?_)
  exact setInputEnvelope_keeps hm h3

theorem setHeld_keeps {m : Nat} {r : State} {b0 : ℕ} {b1 : ℕ} {b2 : Option ℕ} {s : State} (hm : Sub 8208 m) (hs : Keeps m r s) :
    Keeps m r (setHeld b0 b1 b2 s) := by
  unfold setHeld
  exact inputPut_keeps hm hs

theorem envelopeAfter_keeps {m : Nat} {r : State} {b0 : ℕ} {b1 : ℕ} {b2 : Envelope} {s : State} (hm : Sub 8208 m) (hs : Keeps
    m r s) :
    Keeps m r (envelopeAfter b0 b1 b2 s) := by
  unfold envelopeAfter
  refine Keeps.foldl hs (fun s2 a1 h3 => ?_)
  exact setInputEnvelope_keeps hm h3

theorem dirEdit_keeps {m : Nat} {r : State} {b0 : List (ℕ × List Byte)} {s : State} (hm : Sub 7969260313326620 m) (hs : Keeps
    m r s) :
    Keeps m r (dirEdit b0 s) := by
  unfold dirEdit
  refine Keeps.ite hs ?_
  extract_lets +onlyGivenNames x1 x2
  have h3 : Keeps m r x2 := Keeps.ite hs (tableWrite_keeps (hm.mono rfl) hs)
  clear_value x2
  extract_lets +onlyGivenNames x4
  have h5 : Keeps m r x4 := by
    unfold x4
    refine Keeps.foldl h3 (fun s7 a6 h8 => ?_)
    exact tableWrite_keeps (hm.mono rfl) h8
  clear_value x4
  refine fwField_keeps (hm.mono rfl) (fun a9 a10 a11 a12 a13 a14 => ?_) h5
  exact lfeWritten_keeps (hm.mono rfl) a14

theorem lanesRefresh_keeps {m : Nat} {r : State} {b0 : List ℕ} {s : State} (hm : Sub 7969260313326620 m) (hs : Keeps m r s) :
    Keeps m r (lanesRefresh b0 s) := by
  unfold lanesRefresh
  exact dirEdit_keeps hm hs

theorem clearMaps_keeps {m : Nat} {r : State} {b0 : ℕ} {s : State} (hm : Sub 524288 m) (hs : Keeps m r s) :
    Keeps m r (clearMaps b0 s) := by
  unfold clearMaps
  exact setEng_keeps hm (setEng_keeps hm hs)

theorem unresolveNode_keeps {m : Nat} {r : State} {b0 : ℕ} {s : State} (hm : Sub 7969260313326620 m) (hs : Keeps m r s) :
    Keeps m r (unresolveNode b0 s) := by
  unfold unresolveNode
  split
  · rename_i y2 e3
    exact hs
  · rename_i y4 y5 e6
    extract_lets +onlyGivenNames x7
    have h8 : Keeps m r x7 := by
      unfold x7
      refine Keeps.foldl hs (fun s10 a9 h11 => ?_)
      refine Keeps.foldl h11 (fun s13 a12 h14 => ?_)
      exact inputPut_keeps (hm.mono rfl) h14
    clear_value x7
    exact lanesRefresh_keeps hm (clearMaps_keeps (hm.mono rfl) h8)

theorem resolveNode_keeps {m : Nat} {r : State} {b0 : ℕ} {s : State} (hm : Sub 7969260313326620 m) (hs : Keeps m r s) :
    Keeps m r (resolveNode b0 s) := by
  unfold resolveNode
  split
  · rename_i y2 e3
    exact hs
  · rename_i y4 y5 e6
    extract_lets +onlyGivenNames x7
    have h8 : Keeps m r x7 := by
      unfold x7
      refine Keeps.foldl hs (fun s10 a9 h11 => ?_)
      refine Keeps.foldl h11 (fun s13 a12 h14 => ?_)
      exact inputPut_keeps (hm.mono rfl) h14
    clear_value x7
    extract_lets +onlyGivenNames x15
    have h16 : Keeps m r x15 := by
      unfold x15
      refine Keeps.foldl h8 (fun s18 a17 h19 => ?_)
      refine Keeps.foldl h19 (fun s21 a20 h22 => ?_)
      exact setEng_keeps (hm.mono rfl) h22
    clear_value x15
    exact lanesRefresh_keeps hm h16

theorem sendLevelSlots_keeps {m : Nat} {r : State} {b0 : ℕ} {s : State} (hm : Sub 4521200470471684 m) (hs : Keeps m r s) :
    Keeps m r (sendLevelSlots b0 s) := by
  unfold sendLevelSlots
  split
  · rename_i y2 e3
    exact hs
  · rename_i y4 y5 e6
    refine Keeps.foldl hs (fun s8 a7 h9 => ?_)
    refine Keeps.foldl h9 (fun s11 a10 h12 => ?_)
    exact sendParams_keeps hm h12

/-! ### Nodes -/

theorem fastWrite_keeps {m : Nat} {r : State} {b0 : ℕ} {s : State} (hm : Sub 16 m) (hs : Keeps m r s) :
    Keeps m r (fastWrite b0 s) := by
  unfold fastWrite
  exact setMemNat_keeps hm hs

theorem fastRefresh_keeps {m : Nat} {r : State} {s : State} (hm : Sub 16 m) (hs : Keeps m r s) :
    Keeps m r (fastRefresh s) := by
  unfold fastRefresh
  refine Keeps.foldl hs (fun s2 a1 h3 => ?_)
  exact fastWrite_keeps hm h3

theorem loadContext_keeps {m : Nat} {r : State} {b0 : ℕ} {b1 : ℕ} {b2 : Bool} {s : State} (hm : Sub 4722366481783018538013 m)
    (hs : Keeps m r s) :
    Keeps m r (loadContext b0 b1 b2 s) := by
  unfold loadContext
  refine fwWrite_keeps (regMask.anyOr (hm.mono rfl)) (fun a1 a2 a3 a4 a5 a6 => ?_) hs
  exact kvtWritten_keeps hm a6

theorem slotMove_keeps {m : Nat} {r : State} {s : State} (hm : Sub 4722366481783018538013 m) (hs : Keeps m r s) :
    Keeps m r (slotMove s) := by
  unfold slotMove
  extract_lets +onlyGivenNames x1
  refine Keeps.ite ?_ hs
  extract_lets +onlyGivenNames x2 x3
  have h4 : Keeps m r x3 := changeSlot_keeps (hm.mono rfl) (changeSlot_keeps (hm.mono rfl) hs)
  clear_value x3
  exact loadContext_keeps hm h4

theorem epochTimetable_keeps {m : Nat} {r : State} {b0 : ℕ} {s : State} (hm : Sub 4722366481783085909021 m) (hs : Keeps m r s) :
    Keeps m r (epochTimetable b0 s) := by
  unfold epochTimetable
  extract_lets +onlyGivenNames x1
  refine Keeps.ite ?_ ?_
  · extract_lets +onlyGivenNames x2 x3
    have h4 : Keeps m r x3 := setTte_keeps (hm.mono rfl) hs
    clear_value x3
    refine Keeps.ite ?_ h4
    refine fwField_keeps (hm.mono rfl) (fun a5 a6 a7 a8 a9 a10 => ?_) h4
    exact kvtWritten_keeps (hm.mono rfl) a10
  · refine Keeps.ite ?_ ?_
    · extract_lets +onlyGivenNames x11 x12
      have h13 : Keeps m r x12 := by
        unfold x12
        refine setTte_keeps (hm.mono rfl) ?_
        refine fwField_keeps (hm.mono rfl) (fun a14 a15 a16 a17 a18 a19 => ?_) hs
        exact kvtWritten_keeps (hm.mono rfl) a19
      clear_value x12
      extract_lets +onlyGivenNames x20 x21
      have h22 : Keeps m r x21 := Keeps.set_nv (hm.mono rfl) h13
      clear_value x21
      exact setNodes_keeps (hm.mono rfl) h22
    · refine Keeps.ite ?_ hs
      extract_lets +onlyGivenNames x23 x24
      have h25 : Keeps m r x24 := by
        unfold x24
        refine fwField_keeps (regMask.anyOr (hm.mono rfl)) (fun a26 a27 a28 a29 a30 a31 => ?_) (setCtxKey_keeps (hm.mono rfl)
            hs)
        exact kvtWritten_keeps (hm.mono rfl) a31
      clear_value x24
      exact slotMove_keeps (hm.mono rfl) (setNodes_keeps (hm.mono rfl) h25)

theorem assignData_keeps {m : Nat} {r : State} {b0 : ℕ} {s : State} (hm : Sub 140737555734556 m) (hs : Keeps m r s) :
    Keeps m r (assignData b0 s) := by
  unfold assignData
  split
  · rename_i y2 y3 e4
    exact hs
  · rename_i y5 e6
    split
    · rename_i y8 y9 y10 e11
      exact planWrite_keeps hm (setNodes_keeps (hm.mono rfl) hs)
    · rename_i y12 e13
      exact hs

theorem nodeFaults_keeps {m : Nat} {r : State} {s : State} (hm : Sub 4503599627437060 m) (hs : Keeps m r s) :
    Keeps m r (nodeFaults s) := by
  unfold nodeFaults
  exact faultSet_keeps hm hs

theorem nodeFault_keeps {m : Nat} {r : State} {b0 : ℕ} {b1 : ℕ} {b2 : ℕ} {s : State} (hm : Sub 4503599694545924 m) (hs :
    Keeps m r s) :
    Keeps m r (nodeFault b0 b1 b2 s) := by
  unfold nodeFault
  extract_lets +onlyGivenNames x1
  refine Keeps.ite hs ?_
  extract_lets +onlyGivenNames x2
  have h3 : Keeps m r x2 := setLive_keeps (hm.mono rfl) hs
  clear_value x2
  exact nodeFaults_keeps (hm.mono rfl) (Keeps.ite h3 (post_keeps (hm.mono rfl) h3))

theorem silentOff_keeps {m : Nat} {r : State} {b0 : ℕ} {s : State} (hm : Sub 4503599627699220 m) (hs : Keeps m r s) :
    Keeps m r (silentOff b0 s) := by
  unfold silentOff
  exact Keeps.ite (silentFault_keeps (hm.mono rfl) (setTte_keeps (hm.mono rfl) (setNst_keeps (hm.mono rfl) hs))) hs

theorem linkWrite_keeps {m : Nat} {r : State} {b0 : ℕ} {b1 : NodeEntry} {b2 : Bool} {s : State} (hm : Sub
    4722366481783018538013 m) (hs : Keeps m r s) :
    Keeps m r (linkWrite b0 b1 b2 s) := by
  unfold linkWrite
  extract_lets +onlyGivenNames x1
  have h2 : Keeps m r x1 := by
    unfold x1
    refine fwWrite_keeps (hm.mono rfl) (fun a3 a4 a5 a6 a7 a8 => ?_) hs
    exact kvtWritten_keeps hm a8
  clear_value x1
  exact setBytes_keeps (hm.mono rfl) h2

theorem nodeOut_keeps {m : Nat} {r : State} {b0 : ℕ} {b1 : Bool} {s : State} (hm : Sub 4722366481783121114205 m) (hs : Keeps
    m r s) :
    Keeps m r (nodeOut b0 b1 s) := by
  unfold nodeOut
  split
  · rename_i y2 e3
    exact hs
  · rename_i y4 y5 e6
    extract_lets +onlyGivenNames x7 x8
    have h9 : Keeps m r x8 := silentOff_keeps (hm.mono rfl) (unresolveNode_keeps (hm.mono rfl) (linkWrite_keeps (hm.mono rfl)
        hs))
    clear_value x8
    extract_lets +onlyGivenNames x10
    have h11 : Keeps m r x10 := setEntry_keeps (hm.mono rfl) h9
    clear_value x10
    extract_lets +onlyGivenNames x12 x13
    have h14 : Keeps m r x13 := setNodes_keeps (hm.mono rfl) h11
    clear_value x13
    extract_lets +onlyGivenNames x15 x16
    have h17 : Keeps m r x16 := by
      unfold x16
      refine Keeps.ite ?_ h14
      refine odKeep_keeps (hm.mono rfl) ?_
      exact h14
    clear_value x16
    extract_lets +onlyGivenNames x18
    have h19 : Keeps m r x18 := setLive_keeps (hm.mono rfl) h17
    clear_value x18
    exact nodeFaults_keeps (hm.mono rfl) (fastRefresh_keeps (hm.mono rfl) (headwayAll_keeps (hm.mono rfl) (streamNode_keeps
        (hm.mono rfl) (planWrite_keeps (hm.mono rfl) (showEntry_keeps (hm.mono rfl) h19)))))

theorem commandAcked_keeps {m : Nat} {r : State} {b0 : ℕ} {s : State} (hm : Sub 4722366481783121114205 m) (hs : Keeps m r s) :
    Keeps m r (commandAcked b0 s) := by
  unfold commandAcked
  split
  · rename_i y2 e3
    exact hs
  · rename_i y4 y5 e6
    extract_lets +onlyGivenNames x7
    have h8 : Keeps m r x7 := commandEnd_keeps (hm.mono rfl) hs
    clear_value x7
    extract_lets +onlyGivenNames x9 x10
    have h11 : Keeps m r x10 := Keeps.ite (envelopeAfter_keeps (hm.mono rfl) (setLive_keeps (hm.mono rfl) h8)) h8
    clear_value x10
    exact Keeps.ite (nodeOut_keeps hm h11) h11

theorem keyAcked_keeps {m : Nat} {r : State} {b0 : ℕ} {s : State} (hm : Sub 67108864 m) (hs : Keeps m r s) :
    Keeps m r (keyAcked b0 s) := by
  unfold keyAcked
  split
  · rename_i y2 y3 y4 e5
    extract_lets +onlyGivenNames x6 x7
    have h8 : Keeps m r x7 := setLive_keeps hm hs
    clear_value x7
    exact Keeps.ite (setNodes_keeps hm h8) h8
  · rename_i y9 e10
    exact hs

theorem takeAcks_keeps {m : Nat} {r : State} {b0 : ℕ} {b1 : Frame} {s : State} (hm : Sub 4722366481783121114205 m) (hs :
    Keeps m r s) :
    Keeps m r (takeAcks b0 b1 s) := by
  unfold takeAcks
  extract_lets +onlyGivenNames x1
  have h2 : Keeps m r x1 := Keeps.ite (commandAcked_keeps hm hs) hs
  clear_value x1
  exact Keeps.ite (keyAcked_keeps (hm.mono rfl) h2) h2

theorem alarmTaken_keeps {m : Nat} {r : State} {b0 : Frame} {s : State} (hm : Sub 4722366481783121114205 m) (hs : Keeps m r s) :
    Keeps m r (alarmTaken b0 s) := by
  unfold alarmTaken
  extract_lets +onlyGivenNames x1
  refine Keeps.ite hs ?_
  extract_lets +onlyGivenNames x2
  exact nodeFault_keeps (hm.mono rfl) (takeAcks_keeps hm hs)

theorem startCounter_keeps {m : Nat} {r : State} {b0 : ℕ} {b1 : ℕ} {s : State} (hm : Sub 4722366481778723520516 m) (hs :
    Keeps m r s) :
    Keeps m r (startCounter b0 b1 s) := by
  unfold startCounter
  extract_lets +onlyGivenNames x1 x2 x3
  have h4 : Keeps m r x3 := Keeps.set_nv (hm.mono rfl) hs
  clear_value x3
  exact setFld_keeps (regMask.any (hm.mono rfl)) (setFld_keeps (regMask.any (hm.mono rfl)) h4)

theorem sendKeyTo_keeps {m : Nat} {r : State} {b0 : ℕ} {b1 : Bool} {s : State} (hm : Sub 4521191880528900 m) (hs : Keeps m r
    s) :
    Keeps m r (sendKeyTo b0 b1 s) := by
  unfold sendKeyTo
  split
  · rename_i y2 e3
    exact hs
  · rename_i y4 y5 e6
    extract_lets +onlyGivenNames x7
    split
    · rename_i y9 e10
      exact hs
    · rename_i y11 y12 e13
      extract_lets +onlyGivenNames x14 x15
      split
      · rename_i y17 y18 s19 e20
        have h21 : Keeps m r s19 := (KeepsP.of_eq e20 (queueFrame_keeps (hm.mono rfl) hs)).snd
        exact setLive_keeps (hm.mono rfl) h21

theorem epochBegin_keeps {m : Nat} {r : State} {s : State} (hm : Sub 4722366481783085650973 m) (hs : Keeps m r s) :
    Keeps m r (epochBegin s) := by
  unfold epochBegin
  refine Keeps.ite hs ?_
  extract_lets +onlyGivenNames x1 x2 x3
  have h4 : Keeps m r x3 := startCounter_keeps (hm.mono rfl) (loadContext_keeps (hm.mono rfl) hs)
  clear_value x3
  refine Keeps.ite h4 ?_
  extract_lets +onlyGivenNames x5 x6 x7
  have h8 : Keeps m r x7 := setNodes_keeps (hm.mono rfl) h4
  clear_value x7
  refine Keeps.foldl h8 (fun s10 a9 h11 => ?_)
  exact sendKeyTo_keeps (hm.mono rfl) h11

theorem energyLatch_keeps {m : Nat} {r : State} {b0 : ℕ} {b1 : ℕ} {b2 : ℕ} {b3 : ℕ} {b4 : Bool} {s : State} (hm : Sub
    67117056 m) (hs : Keeps m r s) :
    Keeps m r (energyLatch b0 b1 b2 b3 b4 s) := by
  unfold energyLatch
  extract_lets +onlyGivenNames x1 x2 x3
  have h4 : Keeps m r x3 := setLive_keeps (hm.mono rfl) hs
  clear_value x3
  exact streamPut_keeps (hm.mono rfl) h4

theorem beaconSync_keeps {m : Nat} {r : State} {b0 : ℕ} {b1 : ℕ} {s : State} (hm : Sub 4722366481770133654541 m) (hs : Keeps
    m r s) :
    Keeps m r (beaconSync b0 b1 s) := by
  unfold beaconSync
  exact Keeps.ite (timeSample_keeps hm hs) hs

theorem commitEvent_keeps {m : Nat} {r : State} {b0 : List Byte} {s : State} (hm : Sub 4521191813420036 m) (hs : Keeps m r s) :
    Keeps m r (commitEvent b0 s) := by
  unfold commitEvent
  exact (coreQueue_keeps hm hs).snd

theorem sendEvent_keeps {m : Nat} {r : State} {b0 : ℕ} {b1 : List Byte} {s : State} (hm : Sub 4521191813428228 m) (hs : Keeps
    m r s) :
    Keeps m r (sendEvent b0 b1 s) := by
  unfold sendEvent
  extract_lets +onlyGivenNames x1 x2 x3
  have h4 : Keeps m r x3 := setTkn_keeps (hm.mono rfl) hs
  clear_value x3
  exact (coreQueue_keeps (hm.mono rfl) h4).snd

theorem carpetLinks_keeps {m : Nat} {r : State} {b0 : ℕ} {b1 : ℕ} {b2 : ℕ} {s : State} (hm : Sub 4521191813428228 m) (hs :
    Keeps m r s) :
    Keeps m r (carpetLinks b0 b1 b2 s) := by
  unfold carpetLinks
  split
  · rename_i y2 e3
    exact hs
  · rename_i y4 y5 e6
    refine Keeps.foldl hs (fun s8 a7 h9 => ?_)
    extract_lets +onlyGivenNames x10
    exact Keeps.ite (commitEvent_keeps (hm.mono rfl) h9) (sendEvent_keeps hm h9)

theorem channelValues_keeps {m : Nat} {r : State} {b0 : ℕ} {b1 : ℕ} {b2 : ℕ} {b3 : ℕ} {b4 : List Byte} {s : State} (hm : Sub
    4503599694480388 m) (hs : Keeps m r s) :
    Keeps m r (channelValues b0 b1 b2 b3 b4 s) := by
  unfold channelValues
  refine Keeps.upTo hs (fun i1 s2 h3 => ?_)
  extract_lets +onlyGivenNames x4 x5 x6 x7 x8 x9
  have h10 : Keeps m r x9 := setLive_keeps (hm.mono rfl) h3
  clear_value x9
  exact Keeps.ite (setLive_keeps (hm.mono rfl) (post_keeps (hm.mono rfl) h10)) h10

theorem cycleLag_keeps {m : Nat} {r : State} {b0 : ℕ} {b1 : ℕ} {s : State} (hm : Sub 4503599627371524 m) (hs : Keeps m r s) :
    Keeps m r (cycleLag b0 b1 s) := by
  unfold cycleLag
  split
  · rename_i y2 e3
    exact hs
  · rename_i y4 y5 y6 y7 e8
    extract_lets +onlyGivenNames x9
    exact Keeps.ite (post_keeps hm hs) hs

theorem dataTaken_keeps {m : Nat} {r : State} {b0 : Frame} {s : State} (hm : Sub 4722366481783121114205 m) (hs : Keeps m r s) :
    Keeps m r (dataTaken b0 s) := by
  unfold dataTaken
  extract_lets +onlyGivenNames x1
  refine Keeps.ite hs ?_
  extract_lets +onlyGivenNames x2 x3
  have h4 : Keeps m r x3 := takeAcks_keeps hm hs
  clear_value x3
  extract_lets +onlyGivenNames x5 x6
  have h7 : Keeps m r x6 := planWrite_keeps (hm.mono rfl) (setNodes_keeps (hm.mono rfl) h4)
  clear_value x6
  refine Keeps.ite ?_ ?_
  · extract_lets +onlyGivenNames x8 x9
    split
    · rename_i y11 y12 e13
      exact Keeps.ite (setLive_keeps (hm.mono rfl) h7) h7
    · rename_i y14 e15
      exact h7
  · refine Keeps.ite ?_ h7
    extract_lets +onlyGivenNames x16 x17 x18
    exact setLive_keeps (hm.mono rfl) h7

theorem dropCommands_keeps {m : Nat} {r : State} {b0 : ℕ} {s : State} (hm : Sub 4503608284423172 m) (hs : Keeps m r s) :
    Keeps m r (dropCommands b0 s) := by
  unfold dropCommands
  extract_lets +onlyGivenNames x1 x2
  have h3 : Keeps m r x2 := by
    unfold x2
    split
    · rename_i y5 y6 e7
      exact commandEnd_keeps (hm.mono rfl) (post_keeps (hm.mono rfl) hs)
    · rename_i y8 e9
      exact hs
  clear_value x2
  extract_lets +onlyGivenNames x10
  have h11 : Keeps m r x10 := by
    unfold x10
    refine Keeps.foldl h3 (fun s13 a12 h14 => ?_)
    exact setSettings_keeps (hm.mono rfl) (post_keeps (hm.mono rfl) h14)
  clear_value x10
  exact setLive_keeps (hm.mono rfl) h11

theorem epochAge_keeps {m : Nat} {r : State} {s : State} (hm : Sub 4722366481783085659165 m) (hs : Keeps m r s) :
    Keeps m r (epochAge s) := by
  unfold epochAge
  extract_lets +onlyGivenNames x1
  have h2 : Keeps m r x1 := Keeps.ite (epochBegin_keeps (hm.mono rfl) hs) hs
  clear_value x1
  exact Keeps.ite (Keeps.ite h2 (groupCommand_keeps (hm.mono rfl) (post_keeps (hm.mono rfl) (setNodes_keeps (hm.mono rfl)
      h2)))) (setNodes_keeps (hm.mono rfl) h2)

theorem epochDelivered_keeps {m : Nat} {r : State} {s : State} (hm : Sub 67117056 m) (hs : Keeps m r s) :
    Keeps m r (epochDelivered s) := by
  unfold epochDelivered
  extract_lets +onlyGivenNames x1
  refine Keeps.ite hs ?_
  extract_lets +onlyGivenNames x2
  exact streamPut_keeps (hm.mono rfl) (setNodes_keeps (hm.mono rfl) hs)

theorem surveySample_keeps {m : Nat} {r : State} {b0 : ℕ} {b1 : List Byte} {s : State} (hm : Sub 67108864 m) (hs : Keeps m r
    s) :
    Keeps m r (surveySample b0 b1 s) := by
  unfold surveySample
  extract_lets +onlyGivenNames x1
  refine Keeps.ite hs ?_
  split
  · rename_i y3 y4 y5 y6 e7 e8
    refine Keeps.upTo hs (fun i9 s10 h11 => ?_)
    refine Keeps.foldl h11 (fun s13 a12 h14 => ?_)
    split
    · rename_i y16 y17 y18
      extract_lets +onlyGivenNames x19 x20 x21 x22
      exact Keeps.ite h14 (setNodes_keeps hm h14)
  · rename_i y23 y24 e25
    exact hs

theorem imageRestart_keeps {m : Nat} {r : State} {b0 : ℕ} {b1 : ℕ} {s : State} (hm : Sub 4521200470471684 m) (hs : Keeps m r
    s) :
    Keeps m r (imageRestart b0 b1 s) := by
  unfold imageRestart
  split
  · rename_i y2 y3 e4
    exact Keeps.ite (sendParams_keeps hm (setNodes_keeps (hm.mono rfl) hs)) hs
  · rename_i y5 e6
    exact hs

theorem keyRetry_keeps {m : Nat} {r : State} {b0 : ℕ} {s : State} (hm : Sub 4521191880528900 m) (hs : Keeps m r s) :
    Keeps m r (keyRetry b0 s) := by
  unfold keyRetry
  split
  · rename_i y2 y3 y4 y5 e6 e7
    exact Keeps.ite hs (sendKeyTo_keeps hm hs)
  · rename_i y8 y9 e10
    exact hs

theorem reportTaken_keeps {m : Nat} {r : State} {b0 : Frame} {b1 : ℕ} {s : State} (hm : Sub 4722366481783121114205 m) (hs :
    Keeps m r s) :
    Keeps m r (reportTaken b0 b1 s) := by
  unfold reportTaken
  extract_lets +onlyGivenNames x1
  split
  · rename_i y3 e4
    exact hs
  · rename_i y5 y6 e7
    refine Keeps.ite hs ?_
    extract_lets +onlyGivenNames x8 x9 x10
    refine Keeps.ite (takeAcks_keeps hm hs) ?_
    extract_lets +onlyGivenNames x11
    have h12 : Keeps m r x11 := takeAcks_keeps hm hs
    clear_value x11
    extract_lets +onlyGivenNames x13 x14
    have h15 : Keeps m r x14 := by
      unfold x14
      split
      · rename_i y17 y18 e19
        exact Keeps.ite (commandAcked_keeps hm h12) h12
      · rename_i y20 e21
        exact h12
    clear_value x14
    refine Keeps.ite h15 ?_
    extract_lets +onlyGivenNames x22 x23 x24
    have h25 : Keeps m r x24 := nodeFault_keeps (hm.mono rfl) h15
    clear_value x24
    extract_lets +onlyGivenNames x26 x27
    have h28 : Keeps m r x27 := setLive_keeps (hm.mono rfl) h25
    clear_value x27
    extract_lets +onlyGivenNames x29 x30 x31 x32
    have h33 : Keeps m r x32 := setLive_keeps (hm.mono rfl) h28
    clear_value x32
    extract_lets +onlyGivenNames x34
    have h35 : Keeps m r x34 := by
      unfold x34
      refine Keeps.ite ?_ ?_
      · exact cycleLag_keeps (hm.mono rfl) (channelValues_keeps (hm.mono rfl) (energyLatch_keeps (hm.mono rfl) h28))
      · exact Keeps.ite (energyLatch_keeps (hm.mono rfl) h33) (Keeps.ite (surveySample_keeps (hm.mono rfl) h28) h28)
    clear_value x34
    extract_lets +onlyGivenNames x36
    have h37 : Keeps m r x36 := Keeps.ite (sendKeyTo_keeps (hm.mono rfl) h35) h35
    clear_value x36
    extract_lets +onlyGivenNames x38
    have h39 : Keeps m r x38 := Keeps.ite (assignData_keeps (hm.mono rfl) h37) h37
    clear_value x38
    extract_lets +onlyGivenNames x40
    have h41 : Keeps m r x40 := Keeps.ite (imageRestart_keeps (hm.mono rfl) h39) h39
    clear_value x40
    extract_lets +onlyGivenNames x42
    have h43 : Keeps m r x42 := by
      unfold x42
      split
      · rename_i y45 y46 e47
        exact Keeps.ite (Keeps.ite (commandLost_keeps (hm.mono rfl) h41) (sendCommand_keeps (hm.mono rfl) h41)) h41
      · rename_i y48 e49
        exact nextCommand_keeps (hm.mono rfl) h41
    clear_value x42
    exact keyRetry_keeps (hm.mono rfl) h43

theorem presenceTaken_keeps {m : Nat} {r : State} {b0 : Frame} {s : State} (hm : Sub 4722366481783121114205 m) (hs : Keeps m
    r s) :
    Keeps m r (presenceTaken b0 s) := by
  unfold presenceTaken
  extract_lets +onlyGivenNames x1
  refine Keeps.ite hs ?_
  extract_lets +onlyGivenNames x2 x3 x4 x5 x6 x7
  have h8 : Keeps m r x7 := setLive_keeps (hm.mono rfl) (takeAcks_keeps hm hs)
  clear_value x7
  extract_lets +onlyGivenNames x9 x10
  have h11 : Keeps m r x10 := Keeps.ite (post_keeps (hm.mono rfl) h8) h8
  clear_value x10
  extract_lets +onlyGivenNames x12 x13
  refine Keeps.ite h11 ?_
  extract_lets +onlyGivenNames x14
  exact carpetLinks_keeps (hm.mono rfl) h11

theorem upTaken_keeps {m : Nat} {r : State} {b0 : Frame} {b1 : ℕ} {s : State} (hm : Sub 4722366481783121114205 m) (hs : Keeps
    m r s) :
    Keeps m r (upTaken b0 b1 s) := by
  unfold upTaken
  exact Keeps.ite (reportTaken_keeps hm hs) (Keeps.ite (dataTaken_keeps hm hs) (Keeps.ite (presenceTaken_keeps hm hs)
      (Keeps.ite (alarmTaken_keeps hm hs) hs)))

theorem streamCounter_keeps {m : Nat} {r : State} {b0 : ℕ} {s : State} (hm : Sub 8192 m) (hs : Keeps m r s) :
    Keeps m r (streamCounter b0 s) := by
  unfold streamCounter
  split
  · rename_i y2 y3 e4
    exact streamPut_keeps hm hs
  · rename_i y5 e6
    exact hs

theorem takeUp_keeps {m : Nat} {r : State} {b0 : List ℕ} {s : State} (hm : Sub 4722366481783121114205 m) (hs : Keeps m r s) :
    Keeps m r (takeUp b0 s) := by
  unfold takeUp
  split
  · rename_i y2 e3
    exact hs
  · rename_i y4 y5 e6
    split
    · rename_i y8 s9 e10
      have h11 : Keeps m r s9 := (KeepsP.of_eq e10 (coreTake_keeps (hm.mono rfl) hs)).snd
      exact h11
    · rename_i y12 y13 s14 e15
      have h16 : Keeps m r s14 := (KeepsP.of_eq e15 (coreTake_keeps (hm.mono rfl) hs)).snd
      split
      · rename_i y18 y19 e20
        exact upTaken_keeps hm (streamCounter_keeps (hm.mono rfl) h16)
      · rename_i y21 e22
        exact h16

theorem execAlarmReceive_keeps {m : Nat} {r : State} {s : State} (hm : Sub 4722366481783121114205 m) (hs : Keeps m r s) :
    NextKeeps m r (execAlarmReceive s) := by
  unfold execAlarmReceive
  exact NextKeeps.next (takeUp_keeps hm hs)

theorem execCommandRetry_keeps {m : Nat} {r : State} {b0 : BitVec 13} {s : State} (hm : Sub 4521200470471684 m) (hs : Keeps m
    r s) :
    NextKeeps m r (execCommandRetry b0 s) := by
  unfold execCommandRetry
  exact NextKeeps.next (keyRetry_keeps (hm.mono rfl) (commandRetry_keeps hm hs))

theorem execDataFrameReceive_keeps {m : Nat} {r : State} {s : State} (hm : Sub 4722366481783121114205 m) (hs : Keeps m r s) :
    NextKeeps m r (execDataFrameReceive s) := by
  unfold execDataFrameReceive
  exact NextKeeps.next (takeUp_keeps hm hs)

theorem execEpochAgeLimit_keeps {m : Nat} {r : State} {s : State} (hm : Sub 4722366481783085659165 m) (hs : Keeps m r s) :
    NextKeeps m r (execEpochAgeLimit s) := by
  unfold execEpochAgeLimit
  exact NextKeeps.next (epochAge_keeps hm hs)

theorem execEpochDeliveryEnd_keeps {m : Nat} {r : State} {s : State} (hm : Sub 67117056 m) (hs : Keeps m r s) :
    NextKeeps m r (execEpochDeliveryEnd s) := by
  unfold execEpochDeliveryEnd
  exact NextKeeps.next (epochDelivered_keeps hm hs)

theorem execForwardEntryRead_keeps {m : Nat} {r : State} {s : State} (hm : Sub 4722366481783121114205 m) (hs : Keeps m r s) :
    NextKeeps m r (execForwardEntryRead s) := by
  unfold execForwardEntryRead
  exact NextKeeps.next (takeUp_keeps hm hs)

theorem joinCells_keeps {m : Nat} {r : State} {s : State} (hm : Sub 140737555726348 m) (hs : Keeps m r s) :
    Keeps m r (joinCells s) := by
  unfold joinCells
  extract_lets +onlyGivenNames x1 x2
  refine Keeps.ite hs ?_
  refine fwField_keeps (hm.mono rfl) (fun a3 a4 a5 a6 a7 a8 => ?_) (setNodes_keeps (hm.mono rfl) hs)
  exact tteWritten_keeps (hm.mono rfl) a8

theorem execJoinCellsReduce_keeps {m : Nat} {r : State} {s : State} (hm : Sub 140737555726348 m) (hs : Keeps m r s) :
    NextKeeps m r (execJoinCellsReduce s) := by
  unfold execJoinCellsReduce
  exact NextKeeps.next (joinCells_keeps hm hs)

theorem joinResponse_keeps {m : Nat} {r : State} {b0 : List Byte} {b1 : List Byte} {s : State} (hm : Sub 4521191813420036 m)
    (hs : Keeps m r s) :
    Keeps m r (joinResponse b0 b1 s) := by
  unfold joinResponse
  exact (coreQueue_keeps hm hs).snd

theorem joinAccept_keeps {m : Nat} {r : State} {b0 : List Byte} {b1 : List Byte} {s : State} (hm : Sub 4722366481783121114205
    m) (hs : Keeps m r s) :
    Keeps m r (joinAccept b0 b1 s) := by
  unfold joinAccept
  split
  · rename_i y2 y3 y4 s5 y6 y7 y8 e9 e10 e11
    have h12 : Keeps m r s5 := joinRoom_some_keeps (hm.mono rfl) hs e9
    split
    · rename_i y14 e15
      have h16 : Keeps m r s5 := joinRoom_some_keeps (hm.mono rfl) hs e9
      exact h16
    · rename_i y17 y18 e19
      have h20 : Keeps m r s5 := joinRoom_some_keeps (hm.mono rfl) hs e9
      extract_lets +onlyGivenNames x21
      split
      · rename_i y23 y24 s25 e26
        have h27 : Keeps m r s5 := joinRoom_some_keeps (hm.mono rfl) hs e9
        have h28 : Keeps m r s25 := (KeepsP.of_eq e26 (takeFree_keeps (hm.mono rfl) h27)).snd
        extract_lets +onlyGivenNames x29 x30 x31 x32
        split
        · rename_i y34 y35 y36 e37
          have h38 : Keeps m r s5 := joinRoom_some_keeps (hm.mono rfl) hs e9
          extract_lets +onlyGivenNames x39 x40 x41 x42 x43
          have h44 : Keeps m r x43 := clearWindow_keeps (hm.mono rfl) (linkWrite_keeps (hm.mono rfl) (setEntry_keeps (hm.mono
              rfl) h28))
          clear_value x43
          extract_lets +onlyGivenNames x45
          have h46 : Keeps m r x45 := setLive_keeps (hm.mono rfl) h44
          clear_value x45
          extract_lets +onlyGivenNames x47
          have h48 : Keeps m r x47 := planWrite_keeps (hm.mono rfl) (showEntry_keeps (hm.mono rfl) h46)
          clear_value x47
          extract_lets +onlyGivenNames x49
          have h50 : Keeps m r x49 := joinResponse_keeps (hm.mono rfl) h48
          clear_value x49
          extract_lets +onlyGivenNames x51
          have h52 : Keeps m r x51 := resolveNode_keeps (hm.mono rfl) (sendKeyTo_keeps (hm.mono rfl) h50)
          clear_value x51
          extract_lets +onlyGivenNames x53
          have h54 : Keeps m r x53 := sendLevelSlots_keeps (hm.mono rfl) (resendSettings_keeps (hm.mono rfl) h52)
          clear_value x53
          extract_lets +onlyGivenNames x55
          have h56 : Keeps m r x55 := Keeps.ite h54 (sendParams_keeps (hm.mono rfl) h54)
          clear_value x55
          extract_lets +onlyGivenNames x57
          have h58 : Keeps m r x57 := sendParams_keeps (hm.mono rfl) h56
          clear_value x57
          exact fastRefresh_keeps (hm.mono rfl) (headwayAll_keeps (hm.mono rfl) (streamNode_keeps (hm.mono rfl) h58))
  · rename_i y59 y60 y61 e62
    exact hs

theorem joinRequest_keeps {m : Nat} {r : State} {s : State} (hm : Sub 4722366481783121114205 m) (hs : Keeps m r s) :
    Keeps m r (joinRequest s) := by
  unfold joinRequest
  split
  · rename_i y2 s3 e4
    have h5 : Keeps m r s3 := (KeepsP.of_eq e4 (coreTake_keeps (hm.mono rfl) hs)).snd
    exact h5
  · rename_i y6 y7 s8 e9
    have h10 : Keeps m r s8 := (KeepsP.of_eq e9 (coreTake_keeps (hm.mono rfl) hs)).snd
    split
    · rename_i y12 e13
      exact h10
    · rename_i y14 y15 e16
      refine Keeps.ite h10 ?_
      extract_lets +onlyGivenNames x17
      exact Keeps.ite (joinAccept_keeps hm h10) (joinResponse_keeps (hm.mono rfl) (post_keeps (hm.mono rfl) h10))

theorem execJoinRequestReceive_keeps {m : Nat} {r : State} {s : State} (hm : Sub 4722366481783121114205 m) (hs : Keeps m r s) :
    NextKeeps m r (execJoinRequestReceive s) := by
  unfold execJoinRequestReceive
  exact NextKeeps.next (joinRequest_keeps hm hs)

theorem joinExpiry_keeps {m : Nat} {r : State} {s : State} (hm : Sub 158329674403844 m) (hs : Keeps m r s) :
    Keeps m r (joinExpiry s) := by
  unfold joinExpiry
  extract_lets +onlyGivenNames x1
  split
  · rename_i y3 y4 e5
    exact Keeps.ite (releaseHead_keeps (hm.mono rfl) (tteDrop_keeps (hm.mono rfl) hs)) hs
  · rename_i y6 e7
    exact hs

theorem execJoinResponseExpiry_keeps {m : Nat} {r : State} {s : State} (hm : Sub 158329674403844 m) (hs : Keeps m r s) :
    NextKeeps m r (execJoinResponseExpiry s) := by
  unfold execJoinResponseExpiry
  exact NextKeeps.next (joinExpiry_keeps hm hs)

theorem nodeRelease_keeps {m : Nat} {r : State} {b0 : ℕ} {s : State} (hm : Sub 4722366481783121114205 m) (hs : Keeps m r s) :
    Keeps m r (nodeRelease b0 s) := by
  unfold nodeRelease
  exact Keeps.ite hs (nodeOut_keeps hm (post_keeps (hm.mono rfl) (dropCommands_keeps (hm.mono rfl) hs)))

theorem execNodeRelease_keeps {m : Nat} {r : State} {b0 : BitVec 13} {s : State} (hm : Sub 4722366481783121114205 m) (hs :
    Keeps m r s) :
    NextKeeps m r (execNodeRelease b0 s) := by
  unfold execNodeRelease
  exact NextKeeps.next (nodeRelease_keeps hm hs)

theorem execReportReceive_keeps {m : Nat} {r : State} {s : State} (hm : Sub 4722366481783121114205 m) (hs : Keeps m r s) :
    NextKeeps m r (execReportReceive s) := by
  unfold execReportReceive
  exact NextKeeps.next (takeUp_keeps hm hs)

theorem execStandbyBeaconResync_keeps {m : Nat} {r : State} {b0 : ℕ} {b1 : ℕ} {s : State} (hm : Sub 4722366481770133654541 m)
    (hs : Keeps m r s) :
    NextKeeps m r (execStandbyBeaconResync b0 b1 s) := by
  unfold execStandbyBeaconResync
  exact NextKeeps.next (beaconSync_keeps hm hs)

end Sys2Proof.Machine
end

