-- ==== Sys2Proof/Laws/KeepsModule.lean ====
section
/-!
SUPPORT. What each operation keeps (`Keeps`), one lemma per operation.
The operations of: Overrides, Zones, Sched, Balance, Power, Sys, Upd.
-/

namespace Sys2Proof.Machine

/-! ### Overrides -/

theorem sendOverride_keeps {m : Nat} {r : State} {b0 : ℕ} {b1 : ℕ} {b2 : ℕ} {b3 : ℕ} {s : State} (hm : Sub 4521200470471684
    m) (hs : Keeps m r s) :
    Keeps m r (sendOverride b0 b1 b2 b3 s) := by
  unfold sendOverride
  split
  · rename_i y2 y3 y4 e5
    exact sendParams_keeps hm hs
  · rename_i y6 e7
    exact hs

theorem overrideSend_keeps {m : Nat} {r : State} {b0 : Override} {b1 : ℕ} {b2 : ℕ} {s : State} (hm : Sub 4521200470471684 m)
    (hs : Keeps m r s) :
    Keeps m r (overrideSend b0 b1 b2 s) := by
  unfold overrideSend
  refine Keeps.ite (groupCommand_keeps hm hs) ?_
  refine Keeps.foldl hs (fun s2 a1 h3 => ?_)
  exact sendOverride_keeps hm h3

theorem setOverrides_keeps {m : Nat} {r : State} {b0 : List Override} {s : State} (hm : Sub 8589934592 m) (hs : Keeps m r s) :
    Keeps m r (setOverrides b0 s) := by
  unfold setOverrides
  exact Keeps.set_nv (hm.mono rfl) hs

theorem overrideStop_keeps {m : Nat} {r : State} {b0 : Override} {s : State} (hm : Sub 4521200470471700 m) (hs : Keeps m r s) :
    Keeps m r (overrideStop b0 s) := by
  unfold overrideStop
  extract_lets +onlyGivenNames x1
  have h2 : Keeps m r x1 := overrideSend_keeps (hm.mono rfl) hs
  clear_value x1
  extract_lets +onlyGivenNames x3
  have h4 : Keeps m r x3 := by
    unfold x3
    refine Keeps.foldl h2 (fun s6 a5 h7 => ?_)
    exact setHeld_keeps (hm.mono rfl) h7
  clear_value x3
  exact streamPut_keeps (hm.mono rfl) (setOverrides_keeps (hm.mono rfl) h4)

theorem overrideTake_keeps {m : Nat} {r : State} {b0 : List (ℕ × ℕ)} {s : State} (hm : Sub 8589934592 m) (hs : Keeps m r s) :
    Keeps m r (overrideTake b0 s) := by
  unfold overrideTake
  exact setOverrides_keeps hm hs

theorem setSurvey_keeps {m : Nat} {r : State} {b0 : Survey} {s : State} (hm : Sub 67108864 m) (hs : Keeps m r s) :
    Keeps m r (setSurvey b0 s) := by
  unfold setSurvey
  exact setNodes_keeps hm hs

theorem surveyEnd_keeps {m : Nat} {r : State} {b0 : ℕ} {b1 : Bool} {s : State} (hm : Sub 4521200470471700 m) (hs : Keeps m r
    s) :
    Keeps m r (surveyEnd b0 b1 s) := by
  unfold surveyEnd
  extract_lets +onlyGivenNames x1
  refine Keeps.ite hs ?_
  extract_lets +onlyGivenNames x2
  have h3 : Keeps m r x2 := Keeps.ite (sendOverride_keeps (hm.mono rfl) hs) hs
  clear_value x2
  extract_lets +onlyGivenNames x4
  have h5 : Keeps m r x4 := by
    unfold x4
    refine Keeps.foldl h3 (fun s7 a6 h8 => ?_)
    exact setHeld_keeps (hm.mono rfl) h8
  clear_value x4
  exact post_keeps (hm.mono rfl) (setSurvey_keeps (hm.mono rfl) h5)

theorem surveyAbort_keeps {m : Nat} {r : State} {b0 : List ℕ} {s : State} (hm : Sub 4521200470471700 m) (hs : Keeps m r s) :
    Keeps m r (surveyAbort b0 s) := by
  unfold surveyAbort
  extract_lets +onlyGivenNames x1
  exact Keeps.ite (surveyEnd_keeps hm hs) hs

theorem overrideHold_keeps {m : Nat} {r : State} {b0 : Override} {s : State} (hm : Sub 8208 m) (hs : Keeps m r s) :
    Keeps m r (overrideHold b0 s) := by
  unfold overrideHold
  refine Keeps.foldl hs (fun s2 a1 h3 => ?_)
  exact setHeld_keeps hm h3

theorem overrideBegin_keeps {m : Nat} {r : State} {b0 : Override} {s : State} (hm : Sub 4521200470471700 m) (hs : Keeps m r s) :
    KeepsP m r (overrideBegin b0 s) := by
  unfold overrideBegin
  extract_lets +onlyGivenNames x1 x2 x3
  refine KeepsP.ite (KeepsP.mk' hs) ?_
  refine KeepsP.ite (KeepsP.mk' hs) ?_
  extract_lets +onlyGivenNames x4
  have h5 : Keeps m r x4 := overrideTake_keeps (hm.mono rfl) (surveyAbort_keeps hm hs)
  clear_value x4
  extract_lets +onlyGivenNames x6 x7
  have h8 : Keeps m r x7 := overrideHold_keeps (hm.mono rfl) (setOverrides_keeps (hm.mono rfl) h5)
  clear_value x7
  extract_lets +onlyGivenNames x9
  have h10 : Keeps m r x9 := streamPut_keeps (hm.mono rfl) (overrideSend_keeps (hm.mono rfl) h8)
  clear_value x9
  exact KeepsP.mk' h10

theorem keySwitch_keeps {m : Nat} {r : State} {b0 : ℕ} {b1 : Bool} {s : State} (hm : Sub 4521200470471700 m) (hs : Keeps m r
    s) :
    Keeps m r (keySwitch b0 b1 s) := by
  unfold keySwitch
  extract_lets +onlyGivenNames x1
  have h2 : Keeps m r x1 := by
    unfold x1
    refine Keeps.foldl hs (fun s4 a3 h5 => ?_)
    exact Keeps.ite (overrideStop_keeps hm h5) h5
  clear_value x1
  exact Keeps.ite (overrideBegin_keeps hm h2).snd h2

theorem overrideCancel_keeps {m : Nat} {r : State} {b0 : Override} {s : State} (hm : Sub 4521200470471700 m) (hs : Keeps m r
    s) :
    KeepsP m r (overrideCancel b0 s) := by
  unfold overrideCancel
  extract_lets +onlyGivenNames x1 x2 x3
  refine KeepsP.ite (KeepsP.mk' hs) ?_
  extract_lets +onlyGivenNames x4 x5
  have h6 : Keeps m r x5 := by
    unfold x5
    refine Keeps.foldl hs (fun s8 a7 h9 => ?_)
    exact overrideStop_keeps hm h9
  clear_value x5
  extract_lets +onlyGivenNames x10 x11
  have h12 : Keeps m r x11 := by
    unfold x11
    refine Keeps.foldl h6 (fun s14 a13 h15 => ?_)
    exact setHeld_keeps (hm.mono rfl) (sendOverride_keeps (hm.mono rfl) h15)
  clear_value x11
  exact KeepsP.mk' (overrideTake_keeps (hm.mono rfl) h12)

theorem levelOverride_keeps {m : Nat} {r : State} {b0 : ℕ} {b1 : ℕ} {b2 : ℕ} {b3 : ℕ} {b4 : ℕ} {b5 : ℕ} {s : State} (hm : Sub
    4521200470471700 m) (hs : Keeps m r s) :
    KeepsP m r (levelOverride b0 b1 b2 b3 b4 b5 s) := by
  unfold levelOverride
  extract_lets +onlyGivenNames x1
  exact KeepsP.ite (overrideCancel_keeps hm hs) (KeepsP.ite (KeepsP.mk' hs) (overrideBegin_keeps hm hs))

theorem zoneSetOverride_keeps {m : Nat} {r : State} {b0 : ℕ} {b1 : ℕ} {b2 : ℕ} {s : State} (hm : Sub 8589942784 m) (hs :
    Keeps m r s) :
    KeepsP m r (zoneSetOverride b0 b1 b2 s) := by
  unfold zoneSetOverride
  refine KeepsP.ite (KeepsP.mk' hs) ?_
  extract_lets +onlyGivenNames x1
  have h2 : Keeps m r x1 := setOverrides_keeps (hm.mono rfl) hs
  clear_value x1
  extract_lets +onlyGivenNames x3 x4
  have h5 : Keeps m r x4 := Keeps.ite h2 (setOverrides_keeps (hm.mono rfl) h2)
  clear_value x4
  exact KeepsP.mk' (streamPut_keeps (hm.mono rfl) h5)

theorem overridesRestart_keeps {m : Nat} {r : State} {s : State} (hm : Sub 4521200470471700 m) (hs : Keeps m r s) :
    Keeps m r (overridesRestart s) := by
  unfold overridesRestart
  extract_lets +onlyGivenNames x1 x2
  have h3 : Keeps m r x2 := setOverrides_keeps (hm.mono rfl) hs
  clear_value x2
  extract_lets +onlyGivenNames x4
  have h5 : Keeps m r x4 := by
    unfold x4
    refine Keeps.upTo h3 (fun i6 s7 h8 => ?_)
    exact post_keeps (hm.mono rfl) h8
  clear_value x4
  refine Keeps.foldl h5 (fun s10 a9 h11 => ?_)
  exact Keeps.ite (overrideSend_keeps (hm.mono rfl) (overrideHold_keeps (hm.mono rfl) h11)) h11

theorem overridesEnd_keeps {m : Nat} {r : State} {s : State} (hm : Sub 4521200470471700 m) (hs : Keeps m r s) :
    Keeps m r (overridesEnd s) := by
  unfold overridesEnd
  refine Keeps.foldl hs (fun s2 a1 h3 => ?_)
  exact Keeps.ite (Keeps.ite (overrideStop_keeps hm h3) (setOverrides_keeps (hm.mono rfl) h3)) h3

theorem overridesRenew_keeps {m : Nat} {r : State} {s : State} (hm : Sub 4521200470471684 m) (hs : Keeps m r s) :
    Keeps m r (overridesRenew s) := by
  unfold overridesRenew
  refine Keeps.foldl hs (fun s2 a1 h3 => ?_)
  refine Keeps.ite ?_ h3
  extract_lets +onlyGivenNames x4
  have h5 : Keeps m r x4 := overrideSend_keeps hm h3
  clear_value x4
  exact setOverrides_keeps (hm.mono rfl) h5

theorem execOverrideRenew_keeps {m : Nat} {r : State} {s : State} (hm : Sub 4521200470471684 m) (hs : Keeps m r s) :
    NextKeeps m r (execOverrideRenew s) := by
  unfold execOverrideRenew
  exact NextKeeps.next (overridesRenew_keeps hm hs)

/-! ### Zones -/

theorem setZones_keeps {m : Nat} {r : State} {b0 : ZonesState} {s : State} (hm : Sub 134217728 m) (hs : Keeps m r s) :
    Keeps m r (setZones b0 s) := by
  unfold setZones
  exact Keeps.set_zones (hm.mono rfl) hs

theorem surveyHold_keeps {m : Nat} {r : State} {b0 : ℕ} {s : State} (hm : Sub 8208 m) (hs : Keeps m r s) :
    Keeps m r (surveyHold b0 s) := by
  unfold surveyHold
  refine Keeps.foldl hs (fun s2 a1 h3 => ?_)
  exact setHeld_keeps hm h3

theorem surveyStart_keeps {m : Nat} {r : State} {b0 : ℕ} {b1 : ℕ} {b2 : ℤ} {b3 : Bool} {s : State} (hm : Sub 67117072 m) (hs
    : Keeps m r s) :
    KeepsP m r (surveyStart b0 b1 b2 b3 s) := by
  unfold surveyStart
  split
  · rename_i y2 e3
    exact KeepsP.mk' hs
  · rename_i y4 y5 e6
    extract_lets +onlyGivenNames x7
    refine KeepsP.ite (KeepsP.mk' hs) ?_
    refine KeepsP.ite (KeepsP.mk' hs) ?_
    extract_lets +onlyGivenNames x8
    exact KeepsP.mk' (setSurvey_keeps (hm.mono rfl) (surveyHold_keeps (hm.mono rfl) hs))

theorem zoneWrite_keeps {m : Nat} {r : State} {b0 : Option ZRecord} {b1 : Bool} {b2 : ZRecord} {s : State} (hm : Sub
    8858378256 m) (hs : Keeps m r s) :
    KeepsP m r (zoneWrite b0 b1 b2 s) := by
  unfold zoneWrite
  refine KeepsP.ite (KeepsP.mk' hs) ?_
  extract_lets +onlyGivenNames x1 x2 x3 x4 x5 x6
  have h7 : Keeps m r x6 := Keeps.set_nv (hm.mono rfl) hs
  clear_value x6
  extract_lets +onlyGivenNames x8
  have h9 : Keeps m r x8 := tableWrite_keeps (hm.mono rfl) h7
  clear_value x8
  extract_lets +onlyGivenNames x10
  have h11 : Keeps m r x10 := tableWrite_keeps (hm.mono rfl) h9
  clear_value x10
  extract_lets +onlyGivenNames x12
  have h13 : Keeps m r x12 := tableWrite_keeps (hm.mono rfl) h11
  clear_value x12
  exact KeepsP.mk' (Keeps.set_sched (hm.mono rfl) h13)

theorem zoneApply_keeps {m : Nat} {r : State} {b0 : List Byte} {s : State} (hm : Sub 4722366481779228490780 m) (hs : Keeps m
    r s) :
    Keeps m r (zoneApply b0 s) := by
  unfold zoneApply
  extract_lets +onlyGivenNames x1 x2 x3 x4
  have h5 : Keeps m r x4 := surveyAbort_keeps (hm.mono rfl) hs
  clear_value x4
  extract_lets +onlyGivenNames x6
  have h7 : KeepsP m r x6 := by
    unfold x6
    refine KeepsP.foldl (KeepsP.mk' h5) (fun s9 a8 h10 => ?_)
    extract_lets +onlyGivenNames x11
    have h12 : KeepsP m r x11 := zoneWrite_keeps (hm.mono rfl) h10.snd
    clear_value x11
    exact KeepsP.mk' h12.snd
  clear_value x6
  extract_lets +onlyGivenNames x13 x14
  have h15 : Keeps m r x14 := h7.snd
  clear_value x14
  extract_lets +onlyGivenNames x16 x17 x18
  have h19 : Keeps m r x18 := by
    unfold x18
    refine Keeps.foldl h15 (fun s21 a20 h22 => ?_)
    refine Keeps.ite ?_ h22
    split
    · rename_i y24 y25 e26
      exact sendParams_keeps (hm.mono rfl) h22
    · rename_i y27 e28
      exact h22
  clear_value x18
  extract_lets +onlyGivenNames x29 x30
  have h31 : Keeps m r x30 := dirEdit_keeps (hm.mono rfl) h19
  clear_value x30
  extract_lets +onlyGivenNames x32
  have h33 : Keeps m r x32 := by
    unfold x32
    refine fwField_keeps (hm.mono rfl) (fun a34 a35 a36 a37 a38 a39 => ?_) ?_
    · exact lfeWritten_keeps (hm.mono rfl) a39
    · refine fwField_keeps (hm.mono rfl) (fun a40 a41 a42 a43 a44 a45 => ?_) h31
      exact lfeWritten_keeps (hm.mono rfl) a45
  clear_value x32
  extract_lets +onlyGivenNames x46
  have h47 : Keeps m r x46 := Keeps.ite (cmpPath_keeps (hm.mono rfl) h33) h33
  clear_value x46
  extract_lets +onlyGivenNames x48 x49
  have h50 : Keeps m r x49 := Keeps.set_nv (hm.mono rfl) h47
  clear_value x49
  exact setZones_keeps (hm.mono rfl) h50

theorem surveyStep_keeps {m : Nat} {r : State} {s : State} (hm : Sub 4521200470471700 m) (hs : Keeps m r s) :
    Keeps m r (surveyStep s) := by
  unfold surveyStep
  extract_lets +onlyGivenNames x1
  split
  · rename_i y3 e4
    exact hs
  · rename_i y5 y6 e7
    extract_lets +onlyGivenNames x8
    refine Keeps.ite hs ?_
    refine Keeps.ite ?_ ?_
    · extract_lets +onlyGivenNames x9 x10 x11
      have h12 : Keeps m r x11 := by
        unfold x11
        split
        · rename_i y14 y15 e16
          exact sendOverride_keeps (hm.mono rfl) hs
        · rename_i y17 e18
          exact setHeld_keeps (hm.mono rfl) hs
      clear_value x11
      exact setSurvey_keeps (hm.mono rfl) h12
    · refine Keeps.ite (setSurvey_keeps (hm.mono rfl) hs) ?_
      refine Keeps.ite ?_ hs
      extract_lets +onlyGivenNames x19
      refine Keeps.ite ?_ ?_
      · refine Keeps.ite (surveyEnd_keeps hm hs) ?_
        extract_lets +onlyGivenNames x20
        have h21 : Keeps m r x20 := surveyHold_keeps (hm.mono rfl) (sendOverride_keeps (hm.mono rfl) hs)
        clear_value x20
        exact setSurvey_keeps (hm.mono rfl) h21
      · extract_lets +onlyGivenNames x22
        exact surveyEnd_keeps hm (setSurvey_keeps (hm.mono rfl) hs)

theorem execSurveyStep_keeps {m : Nat} {r : State} {s : State} (hm : Sub 4521200470471700 m) (hs : Keeps m r s) :
    NextKeeps m r (execSurveyStep s) := by
  unfold execSurveyStep
  exact NextKeeps.next (surveyStep_keeps hm hs)

theorem execZoneModelApply_keeps {m : Nat} {r : State} {s : State} (hm : Sub 4722366481779228490780 m) (hs : Keeps m r s) :
    NextKeeps m r (execZoneModelApply s) := by
  unfold execZoneModelApply
  refine NextKeeps.next ?_
  split
  · rename_i y2 y3 e4
    exact zoneApply_keeps hm hs
  · rename_i y5 e6
    exact hs

theorem modelEnvelopes_keeps {m : Nat} {r : State} {s : State} (hm : Sub 6773000285205588 m) (hs : Keeps m r s) :
    Keeps m r (modelEnvelopes s) := by
  unfold modelEnvelopes
  refine Keeps.foldl hs (fun s2 a1 h3 => ?_)
  refine Keeps.foldl h3 (fun s5 a4 h6 => ?_)
  split
  · rename_i y8 y9 y10
    refine Keeps.ite ?_ ?_
    · split
      · rename_i y12 y13 e14
        refine Keeps.ite h6 ?_
        extract_lets +onlyGivenNames x15
        have h16 : ∀ a17 a18 a19 s20, Keeps m r s20 → Keeps m r (x15 a17 a18 a19 s20) := by
          intro a17 a18 a19 s20 h21
          unfold x15
          exact odSetNat_keeps (hm.mono rfl) h21
        clear_value x15
        extract_lets +onlyGivenNames x22
        have h23 : Keeps m r x22 := @h16 _ _ _ _ (@h16 _ _ _ _ (@h16 _ _ _ _ (@h16 _ _ _ _ (@h16 _ _ _ _ h6))))
        clear_value x22
        exact wantSettings_keeps (hm.mono rfl) h23
      · rename_i y24 e25
        exact h6
    · refine Keeps.ite ?_ h6
      extract_lets +onlyGivenNames x26 x27
      have h28 : Keeps m r x27 := odSetNat_keeps (hm.mono rfl) (odSetNat_keeps (hm.mono rfl) (odSetNat_keeps (hm.mono rfl)
          (odSetNat_keeps (hm.mono rfl) (odSetNat_keeps (hm.mono rfl) h6))))
      clear_value x27
      exact channelApply_keeps (hm.mono rfl) (setInputEnvelope_keeps (hm.mono rfl) h28)

theorem zoneMaps_keeps {m : Nat} {r : State} {s : State} (hm : Sub 7898900326790228 m) (hs : Keeps m r s) :
    Keeps m r (zoneMaps s) := by
  unfold zoneMaps
  refine Keeps.ite hs ?_
  extract_lets +onlyGivenNames x1
  have h2 : Keeps m r x1 := lower_keeps (hm.mono rfl) hs
  clear_value x1
  extract_lets +onlyGivenNames x3 x4
  have h5 : Keeps m r x4 := setLfe_keeps (hm.mono rfl) h2
  clear_value x4
  extract_lets +onlyGivenNames x6
  have h7 : Keeps m r x6 := by
    unfold x6
    refine Keeps.foldl h5 (fun s9 a8 h10 => ?_)
    refine Keeps.foldl h10 (fun s12 a11 h13 => ?_)
    exact setEng_keeps (hm.mono rfl) h13
  clear_value x6
  extract_lets +onlyGivenNames x14
  have h15 : Keeps m r x14 := by
    unfold x14
    refine Keeps.foldl h7 (fun s17 a16 h18 => ?_)
    split
    · rename_i y20 y21 y22 y23 y24
      exact sendParams_keeps (hm.mono rfl) h18
  clear_value x14
  extract_lets +onlyGivenNames x25 x26
  have h27 : Keeps m r x26 := modelEnvelopes_keeps (hm.mono rfl) (setZones_keeps (hm.mono rfl) h15)
  clear_value x26
  exact headwayAll_keeps (hm.mono rfl) h27

theorem execZoneModelMapsWrite_keeps {m : Nat} {r : State} {s : State} (hm : Sub 7898900326790228 m) (hs : Keeps m r s) :
    NextKeeps m r (execZoneModelMapsWrite s) := by
  unfold execZoneModelMapsWrite
  exact NextKeeps.next (zoneMaps_keeps hm hs)

/-! ### Sched -/

theorem setSched_keeps {m : Nat} {r : State} {b0 : SchedState} {s : State} (hm : Sub 268435456 m) (hs : Keeps m r s) :
    Keeps m r (setSched b0 s) := by
  unfold setSched
  exact Keeps.set_sched (hm.mono rfl) hs

theorem schedEvaluate_keeps {m : Nat} {r : State} {s : State} (hm : Sub 268435456 m) (hs : Keeps m r s) :
    Keeps m r (schedEvaluate s) := by
  unfold schedEvaluate
  exact Keeps.ite hs (setSched_keeps hm hs)

theorem toffUpdate_keeps {m : Nat} {r : State} {s : State} (hm : Sub 4521200470471684 m) (hs : Keeps m r s) :
    Keeps m r (toffUpdate s) := by
  unfold toffUpdate
  extract_lets +onlyGivenNames x1
  refine Keeps.ite hs ?_
  extract_lets +onlyGivenNames x2 x3
  have h4 : Keeps m r x3 := setNodes_keeps (hm.mono rfl) hs
  clear_value x3
  refine Keeps.foldl h4 (fun s6 a5 h7 => ?_)
  refine Keeps.foldl h7 (fun s9 a8 h10 => ?_)
  exact wantSettings_keeps hm h10

theorem meterCount_keeps {m : Nat} {r : State} {b0 : ℕ} {b1 : ℕ} {s : State} (hm : Sub 268435456 m) (hs : Keeps m r s) :
    Keeps m r (meterCount b0 b1 s) := by
  unfold meterCount
  exact Keeps.ite hs (setSched_keeps hm hs)

theorem sourceEvent_keeps {m : Nat} {r : State} {b0 : ℕ} {b1 : ℕ} {b2 : ℕ → ℤ → Option (ℕ × ℤ)} {s : State} (hm : Sub
    4521192081855492 m) (hs : Keeps m r s) :
    Keeps m r (sourceEvent b0 b1 b2 s) := by
  unfold sourceEvent
  refine Keeps.foldl hs (fun s2 a1 h3 => ?_)
  extract_lets +onlyGivenNames x4
  have h5 : Keeps m r x4 := meterCount_keeps (hm.mono rfl) h3
  clear_value x4
  split
  · rename_i y7 y8 y9 e10
    exact commitEvent_keeps (hm.mono rfl) h5
  · rename_i y11 e12
    exact h5

theorem dinChanged_keeps {m : Nat} {r : State} {b0 : ℕ} {s : State} (hm : Sub 4521200738907156 m) (hs : Keeps m r s) :
    Keeps m r (dinChanged b0 s) := by
  unfold dinChanged
  extract_lets +onlyGivenNames x1
  split
  · rename_i y3 e4
    exact Keeps.ite (sourceEvent_keeps (hm.mono rfl) hs) hs
  · rename_i y5 e6
    exact sourceEvent_keeps (hm.mono rfl) hs
  · rename_i y7 e8
    exact keySwitch_keeps (hm.mono rfl) hs
  · rename_i y9 e10 e11 e12
    exact hs

theorem setPhotocell_keeps {m : Nat} {r : State} {b0 : ℕ} {b1 : Photocell} {s : State} (hm : Sub 268435456 m) (hs : Keeps m r
    s) :
    Keeps m r (setPhotocell b0 b1 s) := by
  unfold setPhotocell
  exact setSched_keeps hm hs

theorem photoSample_keeps {m : Nat} {r : State} {b0 : ℕ} {b1 : ℤ} {s : State} (hm : Sub 4503599895872516 m) (hs : Keeps m r s) :
    Keeps m r (photoSample b0 b1 s) := by
  unfold photoSample
  extract_lets +onlyGivenNames x1 x2
  refine Keeps.ite (faultRaise_keeps (hm.mono rfl) (setPhotocell_keeps (hm.mono rfl) hs)) ?_
  extract_lets +onlyGivenNames x3
  exact Keeps.ite (faultGone_keeps (hm.mono rfl) (setPhotocell_keeps (hm.mono rfl) hs)) (setPhotocell_keeps (hm.mono rfl) hs)

theorem execAinSample_keeps {m : Nat} {r : State} {b0 : ℤ} {b1 : ℤ} {s : State} (hm : Sub 76561193933800452 m) (hs : Keeps m
    r s) :
    NextKeeps m r (execAinSample b0 b1 s) := by
  unfold execAinSample
  refine NextKeeps.next ?_
  split
  · rename_i y2 s3 e4
    have h5 : Keeps m r s3 := (KeepsP.of_eq e4 (ainTake_keeps (hm.mono rfl) hs)).snd
    exact photoSample_keeps (hm.mono rfl) (photoSample_keeps (hm.mono rfl) h5)
  · rename_i y6 s7 e8
    have h9 : Keeps m r s7 := (KeepsP.of_eq e8 (ainTake_keeps (hm.mono rfl) hs)).snd
    exact h9

theorem execCalendarEventEdge_keeps {m : Nat} {r : State} {s : State} (hm : Sub 268435456 m) (hs : Keeps m r s) :
    NextKeeps m r (execCalendarEventEdge s) := by
  unfold execCalendarEventEdge
  exact NextKeeps.next (schedEvaluate_keeps hm hs)

theorem execDaylightSavingTransition_keeps {m : Nat} {r : State} {s : State} (hm : Sub 4521200738907140 m) (hs : Keeps m r s) :
    NextKeeps m r (execDaylightSavingTransition s) := by
  unfold execDaylightSavingTransition
  exact NextKeeps.next (schedEvaluate_keeps (hm.mono rfl) (toffUpdate_keeps (hm.mono rfl) hs))

theorem execDinEdge_keeps {m : Nat} {r : State} {b0 : ℕ} {b1 : Bool} {b2 : ℕ} {s : State} (hm : Sub 4722366481779084243988 m)
    (hs : Keeps m r s) :
    NextKeeps m r (execDinEdge b0 b1 b2 s) := by
  unfold execDinEdge
  refine NextKeeps.next ?_
  split
  · rename_i y2 s3 e4
    have h5 : Keeps m r s3 := (KeepsP.of_eq e4 (dinHeld_keeps (hm.mono rfl) hs)).snd
    exact dinChanged_keeps (hm.mono rfl) h5
  · rename_i y6 s7 e8
    have h9 : Keeps m r s7 := (KeepsP.of_eq e8 (dinHeld_keeps (hm.mono rfl) hs)).snd
    exact h9

theorem fieldInput_keeps {m : Nat} {r : State} {s : State} (hm : Sub 4556376458138628 m) (hs : Keeps m r s) :
    Keeps m r (fieldInput s) := by
  unfold fieldInput
  split
  · rename_i y2 s3 e4
    have h5 : Keeps m r s3 := (KeepsP.of_eq e4 (inputTake_keeps (hm.mono rfl) hs)).snd
    exact h5
  · rename_i y6 y7 y8 y9 s10 e11
    have h12 : Keeps m r s10 := (KeepsP.of_eq e11 (inputTake_keeps (hm.mono rfl) hs)).snd
    refine Keeps.ite ?_ (sourceEvent_keeps (hm.mono rfl) h12)
    extract_lets +onlyGivenNames x13 x14 x15
    have h16 : Keeps m r x15 := setFb_keeps (hm.mono rfl) h12
    clear_value x15
    exact Keeps.ite (post_keeps (hm.mono rfl) h16) h16

theorem execInputEventReceive_keeps {m : Nat} {r : State} {s : State} (hm : Sub 4556376458138628 m) (hs : Keeps m r s) :
    NextKeeps m r (execInputEventReceive s) := by
  unfold execInputEventReceive
  exact NextKeeps.next (fieldInput_keeps hm hs)

theorem execLeapSecond_keeps {m : Nat} {r : State} {b0 : Bool} {s : State} (hm : Sub 4521200738907204 m) (hs : Keeps m r s) :
    NextKeeps m r (execLeapSecond b0 s) := by
  unfold execLeapSecond
  exact NextKeeps.next (schedEvaluate_keeps (hm.mono rfl) (toffUpdate_keeps (hm.mono rfl) (odSetNat_keeps (hm.mono rfl) hs)))

theorem localMidnight_keeps {m : Nat} {r : State} {s : State} (hm : Sub 4521200738907140 m) (hs : Keeps m r s) :
    Keeps m r (localMidnight s) := by
  unfold localMidnight
  extract_lets +onlyGivenNames x1
  refine Keeps.ite hs ?_
  extract_lets +onlyGivenNames x2 x3
  have h4 : Keeps m r x3 := setSched_keeps (hm.mono rfl) hs
  clear_value x3
  extract_lets +onlyGivenNames x5
  have h6 : Keeps m r x5 := Keeps.ite (post_keeps (hm.mono rfl) h4) h4
  clear_value x5
  extract_lets +onlyGivenNames x7
  have h8 : Keeps m r x7 := by
    unfold x7
    refine Keeps.foldl h6 (fun s10 a9 h11 => ?_)
    exact sendParams_keeps (hm.mono rfl) h11
  clear_value x7
  exact schedEvaluate_keeps (hm.mono rfl) h8

theorem execLocalMidnight_keeps {m : Nat} {r : State} {s : State} (hm : Sub 4521200738907140 m) (hs : Keeps m r s) :
    NextKeeps m r (execLocalMidnight s) := by
  unfold execLocalMidnight
  exact NextKeeps.next (localMidnight_keeps hm hs)

theorem execOverrideEnd_keeps {m : Nat} {r : State} {s : State} (hm : Sub 4521200738907156 m) (hs : Keeps m r s) :
    NextKeeps m r (execOverrideEnd s) := by
  unfold execOverrideEnd
  exact NextKeeps.next (schedEvaluate_keeps (hm.mono rfl) (overridesEnd_keeps (hm.mono rfl) hs))

theorem photoMeans_keeps {m : Nat} {r : State} {s : State} (hm : Sub 4521192081855492 m) (hs : Keeps m r s) :
    Keeps m r (photoMeans s) := by
  unfold photoMeans
  refine Keeps.foldl hs (fun s2 a1 h3 => ?_)
  extract_lets +onlyGivenNames x4
  refine Keeps.ite h3 ?_
  extract_lets +onlyGivenNames x5 x6
  have h7 : Keeps m r x6 := setPhotocell_keeps (hm.mono rfl) h3
  clear_value x6
  exact Keeps.ite h7 (sourceEvent_keeps hm h7)

theorem execPhotocellMean_keeps {m : Nat} {r : State} {s : State} (hm : Sub 4521192081855492 m) (hs : Keeps m r s) :
    NextKeeps m r (execPhotocellMean s) := by
  unfold execPhotocellMean
  exact NextKeeps.next (photoMeans_keeps hm hs)

theorem photoPoint_keeps {m : Nat} {r : State} {b0 : ℤ} {b1 : ℕ} {b2 : ℕ} {s : State} (hm : Sub 4503599895806980 m) (hs :
    Keeps m r s) :
    Keeps m r (photoPoint b0 b1 b2 s) := by
  unfold photoPoint
  extract_lets +onlyGivenNames x1
  refine Keeps.ite hs ?_
  split
  · rename_i y3 e4
    exact hs
  · rename_i y5 y6 y7 e8
    extract_lets +onlyGivenNames x9 x10
    have h11 : ∀ s12, Keeps m r s12 → Keeps m r (x10 s12) := by
      intro s12 h13
      unfold x10
      exact setSched_keeps (hm.mono rfl) h13
    clear_value x10
    exact Keeps.ite hs (Keeps.ite (@h11 _ hs) (Keeps.ite (post_keeps (hm.mono rfl) (@h11 _ hs)) hs))

theorem photoPoints_keeps {m : Nat} {r : State} {s : State} (hm : Sub 4503599895806980 m) (hs : Keeps m r s) :
    Keeps m r (photoPoints s) := by
  unfold photoPoints
  extract_lets +onlyGivenNames x1 x2
  have h3 : Keeps m r x2 := by
    unfold x2
    refine Keeps.foldl hs (fun s5 a4 h6 => ?_)
    refine Keeps.foldl h6 (fun s8 a7 h9 => ?_)
    refine Keeps.upTo h9 (fun i10 s11 h12 => ?_)
    exact photoPoint_keeps hm h12
  clear_value x2
  exact schedEvaluate_keeps (hm.mono rfl) (setSched_keeps (hm.mono rfl) h3)

theorem execPhotocellPoint_keeps {m : Nat} {r : State} {s : State} (hm : Sub 4503599895806980 m) (hs : Keeps m r s) :
    NextKeeps m r (execPhotocellPoint s) := by
  unfold execPhotocellPoint
  exact NextKeeps.next (photoPoints_keeps hm hs)

theorem execProgramPoint_keeps {m : Nat} {r : State} {s : State} (hm : Sub 268435456 m) (hs : Keeps m r s) :
    NextKeeps m r (execProgramPoint s) := by
  unfold execProgramPoint
  exact NextKeeps.next (schedEvaluate_keeps hm hs)

theorem writeSet_keeps {m : Nat} {r : State} {b0 : ZRecord} {b1 : ℕ} {s : State} (hm : Sub 8208 m) (hs : Keeps m r s) :
    Keeps m r (writeSet b0 b1 s) := by
  unfold writeSet
  extract_lets +onlyGivenNames x1
  refine Keeps.foldl hs (fun s3 a2 h4 => ?_)
  refine Keeps.upTo h4 (fun i5 s6 h7 => ?_)
  extract_lets +onlyGivenNames x8 x9
  exact tableWrite_keeps hm h7

theorem setsWrite_keeps {m : Nat} {r : State} {s : State} (hm : Sub 268443664 m) (hs : Keeps m r s) :
    Keeps m r (setsWrite s) := by
  unfold setsWrite
  refine Keeps.ite hs ?_
  refine Keeps.foldl hs (fun s2 a1 h3 => ?_)
  split
  · rename_i y5 y6 y7 e8
    refine Keeps.ite h3 ?_
    extract_lets +onlyGivenNames x9
    have h10 : Keeps m r x9 := writeSet_keeps (hm.mono rfl) h3
    clear_value x9
    exact setSched_keeps (hm.mono rfl) h10
  · rename_i y11 e12
    exact h3

theorem execRSchedWrite_keeps {m : Nat} {r : State} {s : State} (hm : Sub 268443664 m) (hs : Keeps m r s) :
    NextKeeps m r (execRSchedWrite s) := by
  unfold execRSchedWrite
  exact NextKeeps.next (setsWrite_keeps hm hs)

theorem trafficEvaluate_keeps {m : Nat} {r : State} {s : State} (hm : Sub 4503599895806980 m) (hs : Keeps m r s) :
    Keeps m r (trafficEvaluate s) := by
  unfold trafficEvaluate
  extract_lets +onlyGivenNames x1
  refine Keeps.ite hs ?_
  extract_lets +onlyGivenNames x2 x3
  have h4 : Keeps m r x3 := by
    unfold x3
    refine Keeps.upTo hs (fun i5 s6 h7 => ?_)
    extract_lets +onlyGivenNames x8 x9
    refine Keeps.ite h7 ?_
    refine Keeps.ite (post_keeps (hm.mono rfl) h7) ?_
    extract_lets +onlyGivenNames x10
    exact setSched_keeps (hm.mono rfl) h7
  clear_value x3
  exact schedEvaluate_keeps (hm.mono rfl) (setSched_keeps (hm.mono rfl) h4)

theorem execTrafficEvaluation_keeps {m : Nat} {r : State} {s : State} (hm : Sub 4503599895806980 m) (hs : Keeps m r s) :
    NextKeeps m r (execTrafficEvaluation s) := by
  unfold execTrafficEvaluation
  exact NextKeeps.next (trafficEvaluate_keeps hm hs)

/-! ### Balance -/

theorem setBal_keeps {m : Nat} {r : State} {b0 : BalanceState} {s : State} (hm : Sub 536870912 m) (hs : Keeps m r s) :
    Keeps m r (setBal b0 s) := by
  unfold setBal
  exact Keeps.set_bal (hm.mono rfl) hs

theorem balanceWindow_keeps {m : Nat} {r : State} {s : State} (hm : Sub 536870912 m) (hs : Keeps m r s) :
    Keeps m r (balanceWindow s) := by
  unfold balanceWindow
  extract_lets +onlyGivenNames x1 x2 x3 x4
  exact setBal_keeps hm hs

theorem setCheck_keeps {m : Nat} {r : State} {b0 : MapCheck} {s : State} (hm : Sub 536870912 m) (hs : Keeps m r s) :
    Keeps m r (setCheck b0 s) := by
  unfold setCheck
  exact setBal_keeps hm hs

theorem checkStart_keeps {m : Nat} {r : State} {b0 : ℕ} {b1 : ℕ} {s : State} (hm : Sub 536870912 m) (hs : Keeps m r s) :
    KeepsP m r (checkStart b0 b1 s) := by
  unfold checkStart
  split
  · rename_i y2 e3
    exact KeepsP.mk' hs
  · rename_i y4 y5 e6
    extract_lets +onlyGivenNames x7 x8
    exact KeepsP.ite (KeepsP.mk' hs) (KeepsP.ite (KeepsP.mk' hs) (KeepsP.ite (KeepsP.mk' (setCheck_keeps hm hs)) (KeepsP.mk'
        (setCheck_keeps hm hs))))

theorem balanceAlarm_keeps {m : Nat} {r : State} {b0 : ℕ} {b1 : ℕ} {b2 : ℤ} {s : State} (hm : Sub 4503600164307972 m) (hs :
    Keeps m r s) :
    Keeps m r (balanceAlarm b0 b1 b2 s) := by
  unfold balanceAlarm
  extract_lets +onlyGivenNames x1
  have h2 : Keeps m r x1 := Keeps.ite hs (post_keeps (hm.mono rfl) hs)
  clear_value x1
  refine Keeps.ite (faultRaise_keeps (hm.mono rfl) (setBal_keeps (hm.mono rfl) h2)) ?_
  refine Keeps.ite ?_ (setBal_keeps (hm.mono rfl) h2)
  extract_lets +onlyGivenNames x3 x4 x5
  have h6 : Keeps m r x5 := setBal_keeps (hm.mono rfl) h2
  clear_value x5
  exact Keeps.ite (faultGone_keeps (hm.mono rfl) (setBal_keeps (hm.mono rfl) h6)) h6

theorem meansUpdate_keeps {m : Nat} {r : State} {b0 : ℕ} {b1 : ℕ} {b2 : ℕ} {s : State} (hm : Sub 603979776 m) (hs : Keeps m r
    s) :
    Keeps m r (meansUpdate b0 b1 b2 s) := by
  unfold meansUpdate
  extract_lets +onlyGivenNames x1 x2
  have h3 : Keeps m r x2 := by
    unfold x2
    refine Keeps.foldl hs (fun s5 a4 h6 => ?_)
    exact setLive_keeps (hm.mono rfl) h6
  clear_value x2
  exact setBal_keeps (hm.mono rfl) h3

theorem balanceOne_keeps {m : Nat} {r : State} {b0 : BalJob} {s : State} (hm : Sub 4503608821351429 m) (hs : Keeps m r s) :
    Keeps m r (balanceOne b0 s) := by
  unfold balanceOne
  extract_lets +onlyGivenNames x1 x2 x3 x4 x5 x6 x7 x8 x9
  split
  · rename_i y11 y12 s13 e14
    have h15 : Keeps m r s13 := (KeepsP.of_eq e14 (KeepsP.ite (KeepsP.ite (KeepsP.mk' hs) (takeFree_keeps (hm.mono rfl) hs))
        (KeepsP.mk' hs))).snd
    extract_lets +onlyGivenNames x16 x17 x18 x19 x20 x21
    have h22 : Keeps m r x21 := Keeps.set_nv (hm.mono rfl) h15
    clear_value x21
    extract_lets +onlyGivenNames x23 x24
    have h25 : Keeps m r x24 := setBal_keeps (hm.mono rfl) h22
    clear_value x24
    exact balanceAlarm_keeps (hm.mono rfl) (Keeps.ite h25 (meansUpdate_keeps (hm.mono rfl) h25))

theorem balanceDue_keeps {m : Nat} {r : State} {s : State} (hm : Sub 4503608821351429 m) (hs : Keeps m r s) :
    Keeps m r (balanceDue s) := by
  unfold balanceDue
  extract_lets +onlyGivenNames x1 x2 x3 x4
  have h5 : Keeps m r x4 := setBal_keeps (hm.mono rfl) hs
  clear_value x4
  refine Keeps.ite ?_ h5
  refine Keeps.foldl h5 (fun s7 a6 h8 => ?_)
  exact balanceOne_keeps hm h8

theorem checkEnd_keeps {m : Nat} {r : State} {b0 : List ℤ} {s : State} (hm : Sub 4521201007342612 m) (hs : Keeps m r s) :
    Keeps m r (checkEnd b0 s) := by
  unfold checkEnd
  extract_lets +onlyGivenNames x1 x2 x3
  split
  · rename_i y5 y6 y7 e8
    extract_lets +onlyGivenNames x9
    have h10 : Keeps m r x9 := sendParams_keeps (hm.mono rfl) hs
    clear_value x9
    extract_lets +onlyGivenNames x11
    have h12 : Keeps m r x11 := by
      unfold x11
      split
      · rename_i y14 y15 e16
        exact setHeld_keeps (hm.mono rfl) h10
      · rename_i y17 e18
        exact h10
    clear_value x11
    exact post_keeps (hm.mono rfl) (setCheck_keeps (hm.mono rfl) h12)

theorem checkHold_keeps {m : Nat} {r : State} {b0 : Option (ℕ × ℕ)} {b1 : ℕ} {s : State} (hm : Sub 8208 m) (hs : Keeps m r s) :
    Keeps m r (checkHold b0 b1 s) := by
  unfold checkHold
  split
  · rename_i y2 y3
    exact setHeld_keeps hm hs
  · rename_i y4
    exact hs

theorem checkStep_keeps {m : Nat} {r : State} {s : State} (hm : Sub 4521201007342612 m) (hs : Keeps m r s) :
    Keeps m r (checkStep s) := by
  unfold checkStep
  extract_lets +onlyGivenNames x1
  refine Keeps.ite hs ?_
  refine Keeps.ite ?_ ?_
  · split
    · rename_i y3 e4
      exact hs
    · rename_i y5 y6 e7
      extract_lets +onlyGivenNames x8 x9 x10 x11
      have h12 : Keeps m r x11 := checkHold_keeps (hm.mono rfl) hs
      clear_value x11
      extract_lets +onlyGivenNames x13 x14
      have h15 : Keeps m r x14 := sendParams_keeps (hm.mono rfl) h12
      clear_value x14
      exact setCheck_keeps (hm.mono rfl) h15
  · refine Keeps.ite (Keeps.ite (setCheck_keeps (hm.mono rfl) hs) hs) ?_
    split
    · rename_i y17 y18 e19
      exact checkEnd_keeps hm hs
    · rename_i y20 e21
      exact hs

theorem execBalanceCompute_keeps {m : Nat} {r : State} {s : State} (hm : Sub 4503608821351429 m) (hs : Keeps m r s) :
    NextKeeps m r (execBalanceCompute s) := by
  unfold execBalanceCompute
  exact NextKeeps.next (balanceDue_keeps hm hs)

theorem execMappingCheckStep_keeps {m : Nat} {r : State} {s : State} (hm : Sub 4521201007342612 m) (hs : Keeps m r s) :
    NextKeeps m r (execMappingCheckStep s) := by
  unfold execMappingCheckStep
  exact NextKeeps.next (checkStep_keeps hm hs)

theorem recordCopy_keeps {m : Nat} {r : State} {s : State} (hm : Sub 562959080226820 m) (hs : Keeps m r s) :
    Keeps m r (recordCopy s) := by
  unfold recordCopy
  extract_lets +onlyGivenNames x1 x2
  have h3 : Keeps m r x2 := profileCopy_keeps (hm.mono rfl) hs
  clear_value x2
  split
  · rename_i y5 e6
    exact h3
  · rename_i y7 y8 e9
    extract_lets +onlyGivenNames x10 x11 x12
    exact setBal_keeps (hm.mono rfl) h3

theorem execProfileRecordCopy_keeps {m : Nat} {r : State} {s : State} (hm : Sub 562959080226820 m) (hs : Keeps m r s) :
    NextKeeps m r (execProfileRecordCopy s) := by
  unfold execProfileRecordCopy
  exact NextKeeps.next (recordCopy_keeps hm hs)

/-! ### Power -/

theorem commitsFinish_keeps {m : Nat} {r : State} {s : State} (hm : Sub 5066558172824596 m) (hs : Keeps m r s) :
    Keeps m r (commitsFinish s) := by
  unfold commitsFinish
  exact saveDone_keeps (hm.mono rfl) (spillFinish_keeps (hm.mono rfl) hs)

theorem padsKeep_keeps {m : Nat} {r : State} {o0 : State} {s : State} (hm : Sub 72057594054705156 m) (hs : Keeps m r s) :
    Keeps m r (padsKeep o0 s) := by
  unfold padsKeep
  extract_lets +onlyGivenNames x1 x2
  have h3 : Keeps m r x2 := setIoc_keeps (hm.mono rfl) hs
  clear_value x2
  extract_lets +onlyGivenNames x4
  have h5 : Keeps m r x4 := setFld_keeps (hm.mono rfl) h3
  clear_value x4
  exact dinShow_keeps (hm.mono rfl) (setFld_keeps (hm.mono rfl) h5)

theorem moduleReset_keeps {m : Nat} {r : State} {b0 : ℕ} {s : State} (hm : Sub 4722366481787313455068 m) (hs : Keeps m r s) :
    Keeps m r (moduleReset b0 s) := by
  unfold moduleReset
  extract_lets cold s1 cause t1 t2 t3 t4 t5 t6 t7 t8 t9
  have h1 : Keeps m r s1 := Keeps.ite hs (commitsFinish_keeps (hm.mono rfl) hs)
  have h5 : Keeps m r t5 := by
    refine Keeps.thin h1 rfl rfl rfl rfl List.filter_sublist List.filter_sublist ?_ (List.Sublist.refl _)
      List.filter_sublist List.filter_sublist (hm.mono rfl) ?_
    · show List.Sublist (if cold then s1.mem.filter _ else s1.mem) _
      split
      · exact List.filter_sublist
      · exact List.Sublist.refl _
    · intro p e
      cases p <;> first | rfl | exact (Part.clash hm (by decide) e).elim
  clear_value t5
  have h9 : Keeps m r t9 := Keeps.set_pwr (hm.mono rfl) (lower_keeps (hm.mono rfl) (Keeps.set_bkd (hm.mono rfl) h5))
  clear_value t9
  exact padsKeep_keeps (hm.mono rfl) (setReg_keeps (hm.mono rfl) (setBool_keeps (hm.mono rfl)
    (setTkn_keeps (hm.mono rfl) h9)))

theorem setPwr_keeps {m : Nat} {r : State} {b0 : PwrState} {s : State} (hm : Sub 33554432 m) (hs : Keeps m r s) :
    Keeps m r (setPwr b0 s) := by
  unfold setPwr
  exact Keeps.set_pwr (hm.mono rfl) hs

theorem hibernateEnter_keeps {m : Nat} {r : State} {s : State} (hm : Sub 4503599660925956 m) (hs : Keeps m r s) :
    Keeps m r (hibernateEnter s) := by
  unfold hibernateEnter
  exact spillStart_keeps (hm.mono rfl) (setPwr_keeps (hm.mono rfl) hs)

theorem brownOut_keeps {m : Nat} {r : State} {b0 : ℕ} {s : State} (hm : Sub 4722366481787313455068 m) (hs : Keeps m r s) :
    Keeps m r (brownOut b0 s) := by
  unfold brownOut
  refine Keeps.ite hs ?_
  refine Keeps.ite (setPwr_keeps (hm.mono rfl) hs) ?_
  extract_lets +onlyGivenNames x1
  have h2 : Keeps m r x1 := moduleReset_keeps hm hs
  clear_value x1
  exact setPwr_keeps (hm.mono rfl) h2

theorem earlyWarning_keeps {m : Nat} {r : State} {b0 : ℕ} {b1 : ℕ} {s : State} (hm : Sub 4722366481778764424204 m) (hs :
    Keeps m r s) :
    Keeps m r (earlyWarning b0 b1 s) := by
  unfold earlyWarning
  extract_lets +onlyGivenNames x1
  have h2 : Keeps m r x1 := setFld_keeps (hm.mono rfl) hs
  clear_value x1
  refine Keeps.ite h2 ?_
  extract_lets +onlyGivenNames x3 x4
  have h5 : Keeps m r x4 := setPwr_keeps (hm.mono rfl) h2
  clear_value x4
  extract_lets +onlyGivenNames x6
  have h7 : Keeps m r x6 := raise_keeps (hm.mono rfl) (lower_keeps (hm.mono rfl) h5)
  clear_value x6
  extract_lets +onlyGivenNames x8
  have h9 : Keeps m r x8 := ilkRelease_keeps (hm.mono rfl) h7
  clear_value x8
  extract_lets +onlyGivenNames x10 x11
  have h12 : Keeps m r x11 := hbSend_keeps (hm.mono rfl) (setTkn_keeps (hm.mono rfl) h9)
  clear_value x11
  exact spillStart_keeps (hm.mono rfl) (meterWarning_keeps (hm.mono rfl) h12)

theorem execBrownOut_keeps {m : Nat} {r : State} {b0 : ℕ} {s : State} (hm : Sub 4722366481787313455068 m) (hs : Keeps m r s) :
    NextKeeps m r (execBrownOut b0 s) := by
  unfold execBrownOut
  exact NextKeeps.next (brownOut_keeps hm hs)

theorem execEarlyWarning_keeps {m : Nat} {r : State} {b0 : ℕ} {b1 : ℕ} {s : State} (hm : Sub 4722366481778764424204 m) (hs :
    Keeps m r s) :
    NextKeeps m r (execEarlyWarning b0 b1 s) := by
  unfold execEarlyWarning
  exact NextKeeps.next (earlyWarning_keeps hm hs)

theorem spillInvalidate_keeps {m : Nat} {r : State} {s : State} (hm : Sub 16 m) (hs : Keeps m r s) :
    Keeps m r (spillInvalidate s) := by
  unfold spillInvalidate
  exact setBytes_keeps (hm.mono rfl) hs

theorem powerDown_keeps {m : Nat} {r : State} {s : State} (hm : Sub 4722366481778723520476 m) (hs : Keeps m r s) :
    Keeps m r (powerDown s) := by
  unfold powerDown
  extract_lets keep t1 t2 t3
  have h3 : Keeps m r t3 := by
    refine Keeps.thin hs rfl rfl rfl rfl List.filter_sublist List.filter_sublist List.filter_sublist
      (List.Sublist.refl _) (List.Sublist.refl _) (List.Sublist.refl _) (hm.mono rfl) ?_
    intro p e
    cases p <;> first | rfl | exact (Part.clash hm (by decide) e).elim
  clear_value t3
  exact padsKeep_keeps (hm.mono rfl) (setPwr_keeps (hm.mono rfl) (setBool_keeps (hm.mono rfl)
    (setTkn_keeps (hm.mono rfl) (lower_keeps (hm.mono rfl) (Keeps.set_sys_bkd_flt_icu (hm.mono rfl) h3)))))

theorem hibernateSample_keeps {m : Nat} {r : State} {s : State} (hm : Sub 4722366481778723520476 m) (hs : Keeps m r s) :
    Keeps m r (hibernateSample s) := by
  unfold hibernateSample
  split
  · rename_i y2 e3
    exact hs
  · rename_i y4 y5 e6
    refine Keeps.ite hs ?_
    extract_lets +onlyGivenNames x7 x8
    have h9 : Keeps m r x8 := setPwr_keeps (hm.mono rfl) (spillFinish_keeps (hm.mono rfl) hs)
    clear_value x8
    exact Keeps.ite (raise_keeps (hm.mono rfl) (setFld_keeps (hm.mono rfl) h9)) (powerDown_keeps hm h9)

theorem execHibernatePowerDown_keeps {m : Nat} {r : State} {s : State} (hm : Sub 4722366481778723520476 m) (hs : Keeps m r s) :
    NextKeeps m r (execHibernatePowerDown s) := by
  unfold execHibernatePowerDown
  exact NextKeeps.next (hibernateSample_keeps hm hs)

theorem execPinReset_keeps {m : Nat} {r : State} {b0 : ℕ} {s : State} (hm : Sub 4722366481787313455068 m) (hs : Keeps m r s) :
    NextKeeps m r (execPinReset b0 s) := by
  unfold execPinReset
  exact NextKeeps.next (Keeps.ite (moduleReset_keeps hm hs) hs)

theorem pllLock_keeps {m : Nat} {r : State} {b0 : Bool} {s : State} (hm : Sub 7969260313326604 m) (hs : Keeps m r s) :
    Keeps m r (pllLock b0 s) := by
  unfold pllLock
  refine Keeps.ite ?_ (Keeps.ite (raise_keeps (hm.mono rfl) (setPwr_keeps (hm.mono rfl) hs)) hs)
  refine Keeps.ite hs ?_
  extract_lets +onlyGivenNames x1 x2 x3
  have h4 : Keeps m r x3 := setPwr_keeps (hm.mono rfl) hs
  clear_value x3
  exact Keeps.ite (lfePulse_keeps (hm.mono rfl) h4) h4

theorem execPllLock_keeps {m : Nat} {r : State} {b0 : Bool} {s : State} (hm : Sub 7969260313326604 m) (hs : Keeps m r s) :
    NextKeeps m r (execPllLock b0 s) := by
  unfold execPllLock
  exact NextKeeps.next (pllLock_keeps hm hs)

theorem powerOn_keeps {m : Nat} {r : State} {b0 : ℕ} {s : State} (hm : Sub 4722366481787313455068 m) (hs : Keeps m r s) :
    Keeps m r (powerOn b0 s) := by
  unfold powerOn
  refine Keeps.ite hs ?_
  extract_lets +onlyGivenNames x1
  have h2 : Keeps m r x1 := Keeps.ite (moduleReset_keeps hm hs) hs
  clear_value x1
  exact setFld_keeps (hm.mono rfl) (setPwr_keeps (hm.mono rfl) h2)

theorem execPowerOnReset_keeps {m : Nat} {r : State} {b0 : ℕ} {s : State} (hm : Sub 4722366481787313455068 m) (hs : Keeps m r
    s) :
    NextKeeps m r (execPowerOnReset b0 s) := by
  unfold execPowerOnReset
  exact NextKeeps.next (powerOn_keeps hm hs)

theorem vinRecovery_keeps {m : Nat} {r : State} {b0 : ℕ} {s : State} (hm : Sub 4722366481770168198172 m) (hs : Keeps m r s) :
    Keeps m r (vinRecovery b0 s) := by
  unfold vinRecovery
  extract_lets +onlyGivenNames x1
  have h2 : Keeps m r x1 := setFld_keeps (hm.mono rfl) hs
  clear_value x1
  refine Keeps.ite h2 ?_
  extract_lets +onlyGivenNames x3 x4
  have h5 : Keeps m r x4 := setPwr_keeps (hm.mono rfl) h2
  clear_value x4
  extract_lets +onlyGivenNames x6
  have h7 : Keeps m r x6 := raise_keeps (hm.mono rfl) (raise_keeps (hm.mono rfl) h5)
  clear_value x6
  extract_lets +onlyGivenNames x8 x9
  have h10 : Keeps m r x9 := setTkn_keeps (hm.mono rfl) h7
  clear_value x9
  refine Keeps.ite h10 ?_
  extract_lets +onlyGivenNames x11
  have h12 : Keeps m r x11 := spillInvalidate_keeps (hm.mono rfl) h10
  clear_value x11
  exact Keeps.ite h12 (ilkClaim_keeps (hm.mono rfl) h12)

theorem execVinRecovery_keeps {m : Nat} {r : State} {b0 : ℕ} {s : State} (hm : Sub 4722366481770168198172 m) (hs : Keeps m r
    s) :
    NextKeeps m r (execVinRecovery b0 s) := by
  unfold execVinRecovery
  exact NextKeeps.next (vinRecovery_keeps hm hs)

theorem wakeUp_keeps {m : Nat} {r : State} {s : State} (hm : Sub 4503599669314820 m) (hs : Keeps m r s) :
    Keeps m r (wakeUp s) := by
  unfold wakeUp
  refine Keeps.ite hs ?_
  extract_lets +onlyGivenNames x1 x2 x3
  have h4 : Keeps m r x3 := setPwr_keeps (hm.mono rfl) hs
  clear_value x3
  extract_lets +onlyGivenNames x5 x6
  have h7 : Keeps m r x6 := Keeps.set_sys (hm.mono rfl) h4
  clear_value x6
  extract_lets +onlyGivenNames x8
  have h9 : Keeps m r x8 := by
    unfold x8
    refine Keeps.foldl h7 (fun s11 a10 h12 => ?_)
    exact post_keeps (hm.mono rfl) h12
  clear_value x8
  refine Keeps.ite ?_ h9
  refine Keeps.upTo h9 (fun i13 s14 h15 => ?_)
  exact Keeps.ite (icuPulse_keeps (hm.mono rfl) h15) h15

theorem execWake_keeps {m : Nat} {r : State} {s : State} (hm : Sub 4503599669314820 m) (hs : Keeps m r s) :
    NextKeeps m r (execWake s) := by
  unfold execWake
  exact NextKeeps.next (wakeUp_keeps hm hs)

/-! ### Sys -/

theorem setSys_keeps {m : Nat} {r : State} {b0 : SysState} {s : State} (hm : Sub 256 m) (hs : Keeps m r s) :
    Keeps m r (setSys b0 s) := by
  unfold setSys
  exact Keeps.set_sys (hm.mono rfl) hs

theorem core1Hold_keeps {m : Nat} {r : State} {s : State} (hm : Sub 1099511628036 m) (hs : Keeps m r s) :
    Keeps m r (core1Hold s) := by
  unfold core1Hold
  exact setSys_keeps (hm.mono rfl) (lower_keeps (hm.mono rfl) (lower_keeps (hm.mono rfl) hs))

theorem sysWritten_keeps {m : Nat} {r : State} {b0 : Origin} {b1 : ℕ} {b2 : Word} {o3 : State} {s : State} (hm : Sub
    4722366481787313455068 m) (hs : Keeps m r s) :
    Keeps m r (sysWritten b0 b1 b2 o3 s) := by
  unfold sysWritten
  refine Keeps.ite ?_ ?_
  · extract_lets +onlyGivenNames x1 x2
    have h3 : Keeps m r x2 := Keeps.ite (setSys_keeps (hm.mono rfl) (raise_keeps (hm.mono rfl) hs)) (Keeps.ite
        (core1Hold_keeps (hm.mono rfl) hs) hs)
    clear_value x2
    extract_lets +onlyGivenNames x4
    have h5 : Keeps m r x4 := Keeps.ite (raise_keeps (hm.mono rfl) h3) h3
    clear_value x4
    exact Keeps.ite (moduleReset_keeps hm h5) h5
  · refine Keeps.ite (Keeps.ite (setReg_keeps (hm.mono rfl) (setReg_keeps (hm.mono rfl) hs)) hs) ?_
    refine Keeps.ite (Keeps.ite (Keeps.ite hs (hibernateEnter_keeps (hm.mono rfl) hs)) hs) ?_
    refine Keeps.ite ?_ ?_
    · exact Keeps.ite (setSys_keeps (hm.mono rfl) hs) (cfgErr_keeps (hm.mono rfl) hs)
    · exact Keeps.ite (Keeps.ite (setSys_keeps (hm.mono rfl) hs) (cfgErr_keeps (hm.mono rfl) hs)) (Keeps.ite (Keeps.ite
          (setSys_keeps (hm.mono rfl) hs) hs) hs)

theorem setBscJob_keeps {m : Nat} {r : State} {b0 : ℕ} {b1 : Option BscJob} {s : State} (hm : Sub 144115188075856388 m) (hs :
    Keeps m r s) :
    Keeps m r (setBscJob b0 b1 s) := by
  unfold setBscJob
  extract_lets +onlyGivenNames x1 x2
  have h3 : Keeps m r x2 := Keeps.set_bsc (hm.mono rfl) hs
  clear_value x2
  exact setBool_keeps (hm.mono rfl) h3

theorem bscEnd_keeps {m : Nat} {r : State} {b0 : ℕ} {b1 : ℕ} {b2 : ℕ} {s : State} (hm : Sub 4722366481770133586436 m) (hs :
    Keeps m r s) :
    Keeps m r (bscEnd b0 b1 b2 s) := by
  unfold bscEnd
  extract_lets +onlyGivenNames x1
  have h2 : Keeps m r x1 := setFld_keeps (regMask.any (hm.mono rfl)) (setFld_keeps (regMask.any (hm.mono rfl))
      (setBscJob_keeps (hm.mono rfl) hs))
  clear_value x1
  extract_lets +onlyGivenNames x3
  have h4 : Keeps m r x3 := raiseBit_keeps (hm.mono rfl) h2
  clear_value x3
  exact Keeps.ite h4 (raiseBit_keeps (hm.mono rfl) h4)

theorem bscGo_keeps {m : Nat} {r : State} {b0 : ℕ} {b1 : BscOp} {s : State} (hm : Sub 4722366481770133587460 m) (hs : Keeps m
    r s) :
    Keeps m r (bscGo b0 b1 s) := by
  unfold bscGo
  extract_lets +onlyGivenNames x1
  refine Keeps.ite hs ?_
  refine Keeps.ite (bscEnd_keeps (hm.mono rfl) hs) ?_
  refine Keeps.ite ?_ ?_
  · exact post_keeps (hm.mono rfl) (bscEnd_keeps (hm.mono rfl) hs)
  · exact setFld_keeps (regMask.any (hm.mono rfl)) (setFld_keeps (regMask.any (hm.mono rfl)) (setBscJob_keeps (hm.mono rfl) hs))

theorem bscWritten_keeps {m : Nat} {r : State} {b0 : Origin} {b1 : ℕ} {b2 : Word} {o3 : State} {s : State} (hm : Sub
    4722366481770133587460 m) (hs : Keeps m r s) :
    Keeps m r (bscWritten b0 b1 b2 o3 s) := by
  unfold bscWritten
  refine Keeps.ite ?_ (Keeps.ite (setBool_keeps (hm.mono rfl) hs) hs)
  extract_lets +onlyGivenNames x1 x2
  exact Keeps.ite hs (Keeps.ite (cfgErr_keeps (hm.mono rfl) hs) (bscGo_keeps hm hs))

theorem sysRead_keeps {m : Nat} {r : State} {b0 : Origin} {b1 : ℕ} {b2 : Word} {s : State} (_hm : Sub 0 m) (hs : Keeps m r s) :
    KeepsP m r (sysRead b0 b1 b2 s) := by
  unfold sysRead
  exact KeepsP.ite (KeepsP.mk' hs) (KeepsP.mk' hs)

theorem breakReservations_keeps {m : Nat} {r : State} {b0 : ℕ} {s : State} (hm : Sub 256 m) (hs : Keeps m r s) :
    Keeps m r (breakReservations b0 s) := by
  unfold breakReservations
  extract_lets +onlyGivenNames x1
  exact setSys_keeps hm hs

theorem setReservation_keeps {m : Nat} {r : State} {b0 : CoreId} {b1 : Option ℕ} {s : State} (hm : Sub 256 m) (hs : Keeps m r
    s) :
    Keeps m r (setReservation b0 b1 s) := by
  unfold setReservation
  split
  · rename_i y2
    exact setSys_keeps hm hs
  · rename_i y3
    exact setSys_keeps hm hs

theorem ramAccess_keeps {m : Nat} {r : State} {b0 : Origin} {b1 : MemOp} {b2 : ℕ} {b3 : ℕ} {b4 : Word} {s : State} (hm : Sub
    272 m) (hs : Keeps m r s) :
    Keeps m r (ramAccess b0 b1 b2 b3 b4 s) := by
  unfold ramAccess
  extract_lets +onlyGivenNames x1
  split
  · rename_i y3
    exact setResult_keeps (hm.mono rfl) hs
  · rename_i y4
    exact setResult_keeps (hm.mono rfl) hs
  · rename_i y5
    exact setResult_keeps (hm.mono rfl) (breakReservations_keeps (hm.mono rfl) (setMemNat_keeps (hm.mono rfl) hs))
  · rename_i y6
    exact setResult_keeps (hm.mono rfl) (setReservation_keeps (hm.mono rfl) hs)
  · rename_i y7
    refine Keeps.ite ?_ ?_
    · exact setResult_keeps (hm.mono rfl) (setReservation_keeps (hm.mono rfl) (breakReservations_keeps (hm.mono rfl)
          (setMemNat_keeps (hm.mono rfl) hs)))
    · exact setResult_keeps (hm.mono rfl) (setReservation_keeps (hm.mono rfl) hs)
  · rename_i y8 y9
    exact setResult_keeps (hm.mono rfl) (breakReservations_keeps (hm.mono rfl) (setMemNat_keeps (hm.mono rfl) hs))

theorem eccDouble_keeps {m : Nat} {r : State} {b0 : ℕ} {s : State} (hm : Sub 4504699139065092 m) (hs : Keeps m r s) :
    Keeps m r (eccDouble b0 s) := by
  unfold eccDouble
  extract_lets +onlyGivenNames x1 x2 x3
  have h4 : Keeps m r x3 := setSys_keeps (hm.mono rfl) hs
  clear_value x3
  extract_lets +onlyGivenNames x5
  have h6 : Keeps m r x5 := raise_keeps (hm.mono rfl) (raise_keeps (hm.mono rfl) (setFld_keeps (hm.mono rfl) h4))
  clear_value x5
  extract_lets +onlyGivenNames x7
  have h8 : Keeps m r x7 := post_keeps (hm.mono rfl) (bump_keeps (hm.mono rfl) h6)
  clear_value x7
  exact Keeps.ite h8 (faultRaise_keeps (hm.mono rfl) h8)

theorem eccSingle_keeps {m : Nat} {r : State} {s : State} (hm : Sub 1099511627780 m) (hs : Keeps m r s) :
    Keeps m r (eccSingle s) := by
  unfold eccSingle
  exact raise_keeps (hm.mono rfl) (bump_keeps (hm.mono rfl) hs)

theorem codedAccess_keeps {m : Nat} {r : State} {b0 : Origin} {b1 : MemOp} {b2 : ℕ} {b3 : ℕ} {b4 : Word} {b5 : EccFind} {s :
    State} (hm : Sub 4504699139065108 m) (hs : Keeps m r s) :
    Keeps m r (codedAccess b0 b1 b2 b3 b4 b5 s) := by
  unfold codedAccess
  refine Keeps.ite ?_ ?_
  · exact ramAccess_keeps (hm.mono rfl) (setSys_keeps (hm.mono rfl) hs)
  · exact Keeps.ite (setResult_keeps (hm.mono rfl) (eccDouble_keeps (hm.mono rfl) hs)) (ramAccess_keeps (hm.mono rfl)
        (Keeps.ite (eccSingle_keeps (hm.mono rfl) hs) hs))

theorem memAccess_keeps {m : Nat} {r : State} {b0 : Origin} {b1 : MemOp} {b2 : ℕ} {b3 : ℕ} {b4 : Word} {b5 : EccFind} {s :
    State} (hm : Sub 4504699139065108 m) (hs : Keeps m r s) :
    Keeps m r (memAccess b0 b1 b2 b3 b4 b5 s) := by
  unfold memAccess
  extract_lets +onlyGivenNames x1
  refine Keeps.ite (setResult_keeps (hm.mono rfl) hs) ?_
  refine Keeps.ite (setResult_keeps (hm.mono rfl) hs) ?_
  refine Keeps.ite ?_ ?_
  · exact planeRefuse_keeps (hm.mono rfl) hs
  · exact Keeps.ite (setResult_keeps (hm.mono rfl) hs) (Keeps.ite (Keeps.ite (setResult_keeps (hm.mono rfl) hs)
        (setResult_keeps (hm.mono rfl) hs)) (codedAccess_keeps hm hs))

theorem bscBlocks_keeps {m : Nat} {r : State} {b0 : BscJob} {b1 : ℕ} {s : State} (hm : Sub 48 m) (hs : Keeps m r s) :
    Keeps m r (bscBlocks b0 b1 s) := by
  unfold bscBlocks
  refine Keeps.upTo hs (fun i1 s2 h3 => ?_)
  split
  · rename_i y5 e6
    exact setBytes_keeps (hm.mono rfl) h3
  · rename_i y7 e8
    exact setBulk_keeps (hm.mono rfl) h3
  · rename_i y9 e10
    exact setBulk_keeps (hm.mono rfl) h3

theorem bscDone_keeps {m : Nat} {r : State} {b0 : ℕ} {b1 : StoreFind} {s : State} (hm : Sub 4722366481770133653044 m) (hs :
    Keeps m r s) :
    Keeps m r (bscDone b0 b1 s) := by
  unfold bscDone
  split
  · rename_i y2 e3
    exact hs
  · rename_i y4 y5 e6
    extract_lets +onlyGivenNames x7
    split
    · rename_i y9 y10 y11 e12
      extract_lets +onlyGivenNames x13 x14
      have h15 : Keeps m r x14 := bscEnd_keeps (hm.mono rfl) (bscBlocks_keeps (hm.mono rfl) hs)
      clear_value x14
      exact faultRaise_keeps (hm.mono rfl) (post_keeps (hm.mono rfl) h15)
    · rename_i y16 y17 y18 e19
      extract_lets +onlyGivenNames x20
      exact post_keeps (hm.mono rfl) (bscEnd_keeps (hm.mono rfl) (bscBlocks_keeps (hm.mono rfl) hs))
    · rename_i y21 y22 y23 e24 e25
      exact bscEnd_keeps (hm.mono rfl) (bscBlocks_keeps (hm.mono rfl) hs)

theorem execBscCommandDone_keeps {m : Nat} {r : State} {b0 : ℕ} {b1 : StoreFind} {s : State} (hm : Sub 4722366481770133653044
    m) (hs : Keeps m r s) :
    NextKeeps m r (execBscCommandDone b0 b1 s) := by
  unfold execBscCommandDone
  exact NextKeeps.next (bscDone_keeps hm hs)

theorem execBscRead_keeps {m : Nat} {r : State} {b0 : Origin} {b1 : ℕ} {s : State} (hm : Sub 4722366481770133587724 m) (hs :
    Keeps m r s) :
    NextKeeps m r (execBscRead b0 b1 s) := by
  unfold execBscRead
  refine NextKeeps.next ?_
  refine coreWrite_keeps (regMask.anyOr (hm.mono rfl)) (fun a1 a2 a3 a4 a5 a6 => ?_) hs
  exact bscWritten_keeps (hm.mono rfl) a6

theorem execBscTrim_keeps {m : Nat} {r : State} {b0 : Origin} {b1 : ℕ} {s : State} (hm : Sub 4722366481770133587724 m) (hs :
    Keeps m r s) :
    NextKeeps m r (execBscTrim b0 b1 s) := by
  unfold execBscTrim
  refine NextKeeps.next ?_
  refine coreWrite_keeps (regMask.anyOr (hm.mono rfl)) (fun a1 a2 a3 a4 a5 a6 => ?_) hs
  exact bscWritten_keeps (hm.mono rfl) a6

theorem execBscWrite_keeps {m : Nat} {r : State} {b0 : Origin} {b1 : ℕ} {s : State} (hm : Sub 4722366481770133587724 m) (hs :
    Keeps m r s) :
    NextKeeps m r (execBscWrite b0 b1 s) := by
  unfold execBscWrite
  refine NextKeeps.next ?_
  refine coreWrite_keeps (regMask.anyOr (hm.mono rfl)) (fun a1 a2 a3 a4 a5 a6 => ?_) hs
  exact bscWritten_keeps (hm.mono rfl) a6

theorem execCore1RunWrite_keeps {m : Nat} {r : State} {b0 : Origin} {b1 : Bool} {s : State} (hm : Sub 4722366481787313455068
    m) (hs : Keeps m r s) :
    NextKeeps m r (execCore1RunWrite b0 b1 s) := by
  unfold execCore1RunWrite
  refine NextKeeps.next ?_
  refine coreWrite_keeps (hm.mono rfl) (fun a1 a2 a3 a4 a5 a6 => ?_) hs
  exact sysWritten_keeps hm a6

theorem execHibernateEnter_keeps {m : Nat} {r : State} {b0 : Origin} {s : State} (hm : Sub 4722366481787313455068 m) (hs :
    Keeps m r s) :
    NextKeeps m r (execHibernateEnter b0 s) := by
  unfold execHibernateEnter
  refine NextKeeps.next ?_
  refine coreWrite_keeps (hm.mono rfl) (fun a1 a2 a3 a4 a5 a6 => ?_) hs
  exact sysWritten_keeps hm a6

theorem patrol_keeps {m : Nat} {r : State} {b0 : Bool} {b1 : List Word} {b2 : List Word} {s : State} (hm : Sub
    4504699139065092 m) (hs : Keeps m r s) :
    Keeps m r (patrol b0 b1 b2 s) := by
  unfold patrol
  extract_lets +onlyGivenNames x1 x2
  have h3 : Keeps m r x2 := by
    unfold x2
    refine Keeps.foldl hs (fun s5 a4 h6 => ?_)
    exact eccSingle_keeps (hm.mono rfl) h6
  clear_value x2
  refine Keeps.foldl h3 (fun s8 a7 h9 => ?_)
  exact eccDouble_keeps hm h9

theorem execPatrolScrub_keeps {m : Nat} {r : State} {b0 : Bool} {b1 : List Word} {b2 : List Word} {s : State} (hm : Sub
    4504699139065092 m) (hs : Keeps m r s) :
    NextKeeps m r (execPatrolScrub b0 b1 b2 s) := by
  unfold execPatrolScrub
  exact NextKeeps.next (patrol_keeps hm hs)

theorem execPowerModeWrite_keeps {m : Nat} {r : State} {b0 : Origin} {b1 : BitVec 3} {s : State} (hm : Sub
    4722366481787313455068 m) (hs : Keeps m r s) :
    NextKeeps m r (execPowerModeWrite b0 b1 s) := by
  unfold execPowerModeWrite
  refine NextKeeps.next ?_
  refine coreWrite_keeps (hm.mono rfl) (fun a1 a2 a3 a4 a5 a6 => ?_) hs
  exact sysWritten_keeps hm a6

theorem execSeal_keeps {m : Nat} {r : State} {b0 : Origin} {s : State} (hm : Sub 4722366481787313455068 m) (hs : Keeps m r s) :
    NextKeeps m r (execSeal b0 s) := by
  unfold execSeal
  refine NextKeeps.next ?_
  refine coreWrite_keeps (hm.mono rfl) (fun a1 a2 a3 a4 a5 a6 => ?_) hs
  exact sysWritten_keeps hm a6

theorem execSysrst_keeps {m : Nat} {r : State} {b0 : Origin} {s : State} (hm : Sub 4722366481787313455068 m) (hs : Keeps m r
    s) :
    NextKeeps m r (execSysrst b0 s) := by
  unfold execSysrst
  refine NextKeeps.next ?_
  refine coreWrite_keeps (hm.mono rfl) (fun a1 a2 a3 a4 a5 a6 => ?_) hs
  exact sysWritten_keeps hm a6

theorem wdt0Expire_keeps {m : Nat} {r : State} {s : State} (hm : Sub 4722366481787313455068 m) (hs : Keeps m r s) :
    Keeps m r (wdt0Expire s) := by
  unfold wdt0Expire
  exact Keeps.ite hs (moduleReset_keeps hm hs)

theorem execWdt0Expiry_keeps {m : Nat} {r : State} {s : State} (hm : Sub 4722366481787313455068 m) (hs : Keeps m r s) :
    NextKeeps m r (execWdt0Expiry s) := by
  unfold execWdt0Expiry
  exact NextKeeps.next (wdt0Expire_keeps hm hs)

theorem execWdt0Kick_keeps {m : Nat} {r : State} {b0 : Origin} {b1 : Word} {s : State} (hm : Sub 4722366481787313455068 m)
    (hs : Keeps m r s) :
    NextKeeps m r (execWdt0Kick b0 b1 s) := by
  unfold execWdt0Kick
  refine NextKeeps.next ?_
  refine coreWrite_keeps (hm.mono rfl) (fun a1 a2 a3 a4 a5 a6 => ?_) hs
  exact sysWritten_keeps hm a6

theorem wdt0Warn_keeps {m : Nat} {r : State} {s : State} (hm : Sub 5067657684452612 m) (hs : Keeps m r s) :
    Keeps m r (wdt0Warn s) := by
  unfold wdt0Warn
  refine Keeps.ite hs ?_
  extract_lets +onlyGivenNames x1 x2
  have h3 : Keeps m r x2 := raise_keeps (hm.mono rfl) (setSys_keeps (hm.mono rfl) hs)
  clear_value x2
  exact Keeps.ite (meterSave_keeps (hm.mono rfl) (spillCommand_keeps (hm.mono rfl) h3)) h3

theorem execWdt0Warn_keeps {m : Nat} {r : State} {s : State} (hm : Sub 5067657684452612 m) (hs : Keeps m r s) :
    NextKeeps m r (execWdt0Warn s) := by
  unfold execWdt0Warn
  exact NextKeeps.next (wdt0Warn_keeps hm hs)

theorem wdt1Expire_keeps {m : Nat} {r : State} {s : State} (hm : Sub 4504699139065092 m) (hs : Keeps m r s) :
    Keeps m r (wdt1Expire s) := by
  unfold wdt1Expire
  refine Keeps.ite ?_ hs
  extract_lets +onlyGivenNames x1
  have h2 : Keeps m r x1 := raise_keeps (hm.mono rfl) (raise_keeps (hm.mono rfl) (core1Hold_keeps (hm.mono rfl) hs))
  clear_value x1
  exact faultRaise_keeps (hm.mono rfl) (post_keeps (hm.mono rfl) h2)

theorem execWdt1Expiry_keeps {m : Nat} {r : State} {s : State} (hm : Sub 4504699139065092 m) (hs : Keeps m r s) :
    NextKeeps m r (execWdt1Expiry s) := by
  unfold execWdt1Expiry
  exact NextKeeps.next (wdt1Expire_keeps hm hs)

theorem execWdt1Kick_keeps {m : Nat} {r : State} {b0 : Origin} {b1 : Word} {s : State} (hm : Sub 4722366481787313455068 m)
    (hs : Keeps m r s) :
    NextKeeps m r (execWdt1Kick b0 b1 s) := by
  unfold execWdt1Kick
  refine NextKeeps.next ?_
  refine coreWrite_keeps (hm.mono rfl) (fun a1 a2 a3 a4 a5 a6 => ?_) hs
  exact sysWritten_keeps hm a6

/-! ### Upd -/

theorem setUpd_keeps {m : Nat} {r : State} {b0 : UpdState} {s : State} (hm : Sub 4294967296 m) (hs : Keeps m r s) :
    Keeps m r (setUpd b0 s) := by
  unfold setUpd
  exact Keeps.set_upd (hm.mono rfl) hs

theorem updGo_keeps {m : Nat} {r : State} {s : State} (hm : Sub 18014402804449284 m) (hs : Keeps m r s) :
    Keeps m r (updGo s) := by
  unfold updGo
  exact Keeps.ite (cfgErr_keeps (hm.mono rfl) hs) (blockStart_keeps (hm.mono rfl) (raise_keeps (hm.mono rfl) (setUpd_keeps
      (hm.mono rfl) hs)))

theorem updAbort_keeps {m : Nat} {r : State} {s : State} (hm : Sub 4294967296 m) (hs : Keeps m r s) :
    Keeps m r (updAbort s) := by
  unfold updAbort
  exact setUpd_keeps hm hs

theorem updWritten_keeps {m : Nat} {r : State} {b0 : Origin} {b1 : ℕ} {b2 : Word} {o3 : State} {s : State} (hm : Sub
    18014402804449284 m) (hs : Keeps m r s) :
    Keeps m r (updWritten b0 b1 b2 o3 s) := by
  unfold updWritten
  refine Keeps.ite ?_ hs
  extract_lets +onlyGivenNames x1
  have h2 : Keeps m r x1 := Keeps.ite (updGo_keeps hm hs) hs
  clear_value x1
  exact Keeps.ite (updAbort_keeps (hm.mono rfl) h2) h2

theorem updPulse_keeps {m : Nat} {r : State} {o0 : State} {b1 : Bool} (hm : Sub 18014398509481988 m) (ho0 : Keeps m r o0) :
    Keeps m r (updPulse o0 b1) := by
  unfold updPulse
  exact Keeps.ite (raise_keeps (hm.mono rfl) (bump_keeps (hm.mono rfl) (setBool_keeps (hm.mono rfl) (raise_keeps (hm.mono
      rfl) ho0)))) ho0

theorem execUpdAbort_keeps {m : Nat} {r : State} {b0 : Origin} {s : State} (hm : Sub 22519101943448844 m) (hs : Keeps m r s) :
    NextKeeps m r (execUpdAbort b0 s) := by
  unfold execUpdAbort
  refine NextKeeps.next ?_
  refine coreWrite_keeps (hm.mono rfl) (fun a1 a2 a3 a4 a5 a6 => ?_) hs
  exact updWritten_keeps (hm.mono rfl) a6

theorem execUpdDecrypt_keeps {m : Nat} {r : State} {b0 : Origin} {s : State} (hm : Sub 22519101943448844 m) (hs : Keeps m r s) :
    NextKeeps m r (execUpdDecrypt b0 s) := by
  unfold execUpdDecrypt
  refine NextKeeps.next ?_
  refine coreWrite_keeps (hm.mono rfl) (fun a1 a2 a3 a4 a5 a6 => ?_) hs
  exact updWritten_keeps (hm.mono rfl) a6

theorem execUpdHash_keeps {m : Nat} {r : State} {b0 : Origin} {s : State} (hm : Sub 22519101943448844 m) (hs : Keeps m r s) :
    NextKeeps m r (execUpdHash b0 s) := by
  unfold execUpdHash
  refine NextKeeps.next ?_
  refine coreWrite_keeps (hm.mono rfl) (fun a1 a2 a3 a4 a5 a6 => ?_) hs
  exact updWritten_keeps (hm.mono rfl) a6

theorem updDecrypt_keeps {m : Nat} {r : State} {b0 : UpdJob} {b1 : ℕ} {s : State} (hm : Sub 32 m) (hs : Keeps m r s) :
    Keeps m r (updDecrypt b0 b1 s) := by
  unfold updDecrypt
  extract_lets +onlyGivenNames x1
  exact setBulkBytes_keeps hm hs

theorem showDigest_keeps {m : Nat} {r : State} {b0 : List Byte} {s : State} (hm : Sub 4722366481770133585924 m) (hs : Keeps m
    r s) :
    Keeps m r (showDigest b0 s) := by
  unfold showDigest
  refine Keeps.upTo hs (fun i1 s2 h3 => ?_)
  exact setFld_keeps (regMask.any (hm.mono rfl)) h3

theorem updEnd_keeps {m : Nat} {r : State} {b0 : ℕ} {b1 : List Byte} {s : State} (hm : Sub 4722366481774428553229 m) (hs :
    Keeps m r s) :
    Keeps m r (updEnd b0 b1 s) := by
  unfold updEnd
  extract_lets +onlyGivenNames x1
  have h2 : Keeps m r x1 := setFld_keeps (hm.mono rfl) (lower_keeps (hm.mono rfl) hs)
  clear_value x1
  extract_lets +onlyGivenNames x3 x4
  have h5 : Keeps m r x4 := blockStop_keeps (hm.mono rfl) (setUpd_keeps (hm.mono rfl) h2)
  clear_value x4
  extract_lets +onlyGivenNames x6
  have h7 : Keeps m r x6 := by
    unfold x6
    refine Keeps.ite (showDigest_keeps (hm.mono rfl) h5) ?_
    split
    · rename_i y9 y10 s11 e12
      have h13 : Keeps m r s11 := (KeepsP.of_eq e12 (takeFree_keeps (hm.mono rfl) h5)).snd
      exact showDigest_keeps (hm.mono rfl) h13
  clear_value x6
  extract_lets +onlyGivenNames x14
  have h15 : Keeps m r x14 := raise_keeps (hm.mono rfl) h7
  clear_value x14
  exact Keeps.ite h15 (raise_keeps (hm.mono rfl) h15)

theorem updDone_keeps {m : Nat} {r : State} {b0 : StoreFind} {b1 : ℕ} {s : State} (hm : Sub 4722366481774428553261 m) (hs :
    Keeps m r s) :
    Keeps m r (updDone b0 b1 s) := by
  unfold updDone
  split
  · rename_i y2 e3
    exact hs
  · rename_i y4 y5 e6
    extract_lets +onlyGivenNames x7
    have h8 : ∀ a9 s10, Keeps m r s10 → Keeps m r (x7 a9 s10) := by
      intro a9 s10 h11
      unfold x7
      exact Keeps.ite (updDecrypt_keeps (hm.mono rfl) h11) h11
    clear_value x7
    split
    · rename_i y13 y14 e15
      exact updEnd_keeps (hm.mono rfl) hs
    · rename_i y16 e17
      refine Keeps.ite (updEnd_keeps (hm.mono rfl) (@h8 _ _ hs)) ?_
      refine Keeps.ite (updEnd_keeps (hm.mono rfl) (@h8 _ _ hs)) ?_
      split
      · rename_i y19 y20 y21
        exact updEnd_keeps (hm.mono rfl) (@h8 _ _ hs)
      · rename_i y22 y23 y24 e25
        exact updEnd_keeps (hm.mono rfl) (@h8 _ _ hs)
      · rename_i y26 y27 y28 e29 e30
        extract_lets +onlyGivenNames x31
        exact updEnd_keeps (hm.mono rfl) (@h8 _ _ hs)

theorem execUpdJobDone_keeps {m : Nat} {r : State} {b0 : StoreFind} {b1 : ℕ} {s : State} (hm : Sub 4722366481774428553261 m)
    (hs : Keeps m r s) :
    NextKeeps m r (execUpdJobDone b0 b1 s) := by
  unfold execUpdJobDone
  exact NextKeeps.next (updDone_keeps hm hs)

end Sys2Proof.Machine
end

