-- ==== Sys2Proof/Laws/KeepsDictionary.lean ====
section
/-!
SUPPORT. What each operation keeps (`Keeps`), one lemma per operation.
The operations of: Bus, Images, DictValue, DictStore, DictWrite, Coap, Update, Distribution, Twins.
-/

namespace Sys2Proof.Machine

/-! ### Bus -/

theorem planeWritten_keeps {m : Nat} {r : State} {b0 : Origin} {b1 : ℕ} {b2 : Word} {o3 : State} {s : State} (hm : Sub
    4722366481787313455069 m) (hs : Keeps m r s) :
    Keeps m r (planeWritten b0 b1 b2 o3 s) := by
  unfold planeWritten
  split
  · rename_i y2 e3
    exact sysWritten_keeps (hm.mono rfl) hs
  · rename_i y4 e5
    exact icuWritten_keeps (hm.mono rfl) hs
  · rename_i y6 e7
    exact ntbWritten_keeps (hm.mono rfl) hs
  · rename_i y8 e9
    exact pquWritten_keeps (hm.mono rfl) hs
  · rename_i y10 e11
    exact fbcWritten_keeps (hm.mono rfl) hs
  · rename_i y12 e13
    exact rfeWritten_keeps (hm.mono rfl) hs
  · rename_i y14 e15
    exact tteWritten_keeps (hm.mono rfl) hs
  · rename_i y16 e17
    exact kvtWritten_keeps (hm.mono rfl) hs
  · rename_i y18 e19
    exact mtrWritten_keeps (hm.mono rfl) hs
  · rename_i y20 e21
    exact lfeWritten_keeps (hm.mono rfl) hs
  · rename_i y22 e23
    exact sdcWritten_keeps (hm.mono rfl) hs
  · rename_i y24 e25
    exact evrWritten_keeps (hm.mono rfl) hs
  · rename_i y26 e27
    exact tknWritten_keeps (hm.mono rfl) hs
  · rename_i y28 e29
    exact updWritten_keeps (hm.mono rfl) hs
  · rename_i y30 e31
    exact bhnWritten_keeps (hm.mono rfl) hs
  · rename_i y32 e33
    exact iocWritten_keeps (hm.mono rfl) hs
  · rename_i y34 e35
    exact bscWritten_keeps (hm.mono rfl) hs
  · rename_i y36 e37 e38 e39 e40 e41 e42 e43 e44 e45 e46 e47 e48 e49 e50 e51 e52 e53
    exact hs

theorem planeStore_keeps {m : Nat} {r : State} {b0 : Origin} {b1 : ℕ} {b2 : Word} {b3 : Word} {s : State} (hm : Sub
    4722366481787313455069 m) (hs : Keeps m r s) :
    Keeps m r (planeStore b0 b1 b2 b3 s) := by
  unfold planeStore
  refine Keeps.ite (raiseFlags_keeps (regMask.any (hm.mono rfl)) (bkdWrite_keeps (hm.mono rfl) hs)) ?_
  refine Keeps.ite ?_ ?_
  · refine coreWrite_keeps (regMask.anyOr (hm.mono rfl)) (fun a1 a2 a3 a4 a5 a6 => ?_) hs
    exact icuWritten_keeps (hm.mono rfl) a6
  · refine raiseFlags_keeps (regMask.any (hm.mono rfl)) ?_
    refine coreWrite_keeps (regMask.anyOr (hm.mono rfl)) (fun a7 a8 a9 a10 a11 a12 => ?_) hs
    exact planeWritten_keeps hm a12

theorem planeRead_keeps {m : Nat} {r : State} {b0 : Origin} {b1 : ℕ} {b2 : Word} {s : State} (hm : Sub 7898891546302469 m)
    (hs : Keeps m r s) :
    KeepsP m r (planeRead b0 b1 b2 s) := by
  unfold planeRead
  split
  · rename_i y2 e3
    exact sysRead_keeps (hm.mono rfl) hs
  · rename_i y4 e5
    exact icuRead_keeps (hm.mono rfl) hs
  · rename_i y6 e7
    exact ntbRead_keeps (hm.mono rfl) hs
  · rename_i y8 e9
    exact bkdRead_keeps (hm.mono rfl) hs
  · rename_i y10 e11
    exact pquRead_keeps (hm.mono rfl) hs
  · rename_i y12 e13
    exact rfeRead_keeps (hm.mono rfl) hs
  · rename_i y14 e15
    exact tteRead_keeps (hm.mono rfl) hs
  · rename_i y16 e17
    exact kvtRead_keeps (hm.mono rfl) hs
  · rename_i y18 e19
    exact mtrRead_keeps (hm.mono rfl) hs
  · rename_i y20 e21
    exact lfeRead_keeps (hm.mono rfl) hs
  · rename_i y22 e23
    exact sdcRead_keeps (hm.mono rfl) hs
  · rename_i y24 e25
    exact evrRead_keeps (hm.mono rfl) hs
  · rename_i y26 e27
    exact tknRead_keeps (hm.mono rfl) hs
  · rename_i y28 e29
    exact bhnRead_keeps (hm.mono rfl) hs
  · rename_i y30 e31 e32 e33 e34 e35 e36 e37 e38 e39 e40 e41 e42 e43 e44
    exact KeepsP.mk' hs

theorem planeAccess_keeps {m : Nat} {r : State} {b0 : Origin} {b1 : MemOp} {b2 : ℕ} {b3 : ℕ} {b4 : Word} {s : State} (hm :
    Sub 4722366481787313455069 m) (hs : Keeps m r s) :
    Keeps m r (planeAccess b0 b1 b2 b3 b4 s) := by
  unfold planeAccess
  refine Keeps.ite (setResult_keeps (hm.mono rfl) hs) ?_
  refine Keeps.ite (setResult_keeps (hm.mono rfl) hs) ?_
  refine Keeps.ite (setResult_keeps (hm.mono rfl) hs) ?_
  refine Keeps.ite (planeStore_keeps hm hs) ?_
  refine coreRead_keeps (regMask.anyOr (hm.mono rfl)) (fun a1 a2 a3 a4 a5 => ?_) hs
  exact planeRead_keeps (hm.mono rfl) a5

theorem anyAccess_keeps {m : Nat} {r : State} {b0 : Origin} {b1 : MemOp} {b2 : ℕ} {b3 : ℕ} {b4 : Word} {b5 : EccFind} {s :
    State} (hm : Sub 4722366481787313455069 m) (hs : Keeps m r s) :
    Keeps m r (anyAccess b0 b1 b2 b3 b4 b5 s) := by
  unfold anyAccess
  exact Keeps.ite (planeAccess_keeps hm hs) (memAccess_keeps (hm.mono rfl) hs)

theorem execMemoryAccess_keeps {m : Nat} {r : State} {b0 : Origin} {b1 : MemOp} {b2 : ℕ} {b3 : Word} {b4 : Word} {b5 :
    EccFind} {s : State} (hm : Sub 4722366481787313455069 m) (hs : Keeps m r s) :
    NextKeeps m r (execMemoryAccess b0 b1 b2 b3 b4 b5 s) := by
  unfold execMemoryAccess
  exact NextKeeps.next (anyAccess_keeps hm hs)

theorem execRegisterRead_keeps {m : Nat} {r : State} {b0 : Origin} {b1 : Word} {b2 : List (ℕ × ℕ)} {s : State} (hm : Sub
    4722366481770145946885 m) (hs : Keeps m r s) :
    NextKeeps m r (execRegisterRead b0 b1 b2 s) := by
  unfold execRegisterRead
  refine NextKeeps.next ?_
  refine coreRead_keeps (regMask.anyOr (hm.mono rfl)) (fun a1 a2 a3 a4 a5 => ?_) hs
  exact planeRead_keeps (hm.mono rfl) a5

theorem execRegisterWrite_keeps {m : Nat} {r : State} {b0 : Origin} {b1 : Word} {b2 : Word} {b3 : Word} {s : State} (hm : Sub
    4722366481787313455069 m) (hs : Keeps m r s) :
    NextKeeps m r (execRegisterWrite b0 b1 b2 b3 s) := by
  unfold execRegisterWrite
  exact NextKeeps.next (planeStore_keeps hm hs)

/-! ### Images -/

theorem setUpdNv_keeps {m : Nat} {r : State} {b0 : UpdNv} {s : State} (hm : Sub 8589934592 m) (hs : Keeps m r s) :
    Keeps m r (setUpdNv b0 s) := by
  unfold setUpdNv
  exact Keeps.set_nv (hm.mono rfl) hs

theorem bootWrite_keeps {m : Nat} {r : State} {b0 : Boot} {s : State} (hm : Sub 16 m) (hs : Keeps m r s) :
    Keeps m r (bootWrite b0 s) := by
  unfold bootWrite
  extract_lets +onlyGivenNames x1 x2
  exact setBytes_keeps (hm.mono rfl) hs

theorem setBankState_keeps {m : Nat} {r : State} {b0 : ℕ} {b1 : ℕ} {s : State} (hm : Sub 8589934592 m) (hs : Keeps m r s) :
    Keeps m r (setBankState b0 b1 s) := by
  unfold setBankState
  exact setUpdNv_keeps hm hs

theorem setItem_keeps {m : Nat} {r : State} {b0 : ℕ} {b1 : ImagePlace} {s : State} (hm : Sub 8589934592 m) (hs : Keeps m r s) :
    Keeps m r (setItem b0 b1 s) := by
  unfold setItem
  exact setUpdNv_keeps hm hs

theorem setLibrary_keeps {m : Nat} {r : State} {b0 : ℕ} {b1 : ImagePlace} {s : State} (hm : Sub 8589934592 m) (hs : Keeps m r
    s) :
    Keeps m r (setLibrary b0 b1 s) := by
  unfold setLibrary
  exact setUpdNv_keeps hm hs

/-! ### DictValue -/

theorem meterOctets_keeps {m : Nat} {r : State} {b0 : ℕ} {b1 : ℕ} {b2 : ℕ} {b3 : ℕ} {s : State} (hm : Sub 1 m) (hs : Keeps m
    r s) :
    KeepsP m r (meterOctets b0 b1 b2 b3 s) := by
  unfold meterOctets
  split
  · rename_i y2 y3 y4 y5 s6 e7
    have h8 : Keeps m r s6 := (KeepsP.of_eq e7 (meterValue_keeps hm hs)).snd
    exact KeepsP.mk' h8

theorem roMeter_keeps {m : Nat} {r : State} {b0 : ℕ} {b1 : ℕ} {s : State} (hm : Sub 1 m) (hs : Keeps m r s) :
    KeepsP m r (roMeter b0 b1 s) := by
  unfold roMeter
  refine KeepsP.ite (KeepsP.mk' hs) ?_
  refine KeepsP.ite (KeepsP.mk' hs) ?_
  refine KeepsP.ite (KeepsP.ite (KeepsP.mk' hs) (KeepsP.mk' hs)) ?_
  refine KeepsP.ite ?_ ?_
  · extract_lets +onlyGivenNames x1
    split
    · rename_i y3
      exact meterOctets_keeps hm hs
    · rename_i y4
      exact meterOctets_keeps hm hs
    · rename_i y5
      exact meterOctets_keeps hm hs
    · rename_i y6
      exact KeepsP.mk' hs
    · rename_i y7
      exact KeepsP.mk' hs
    · rename_i y8 e9 e10 e11 e12 e13
      exact meterOctets_keeps hm hs
  · refine KeepsP.ite ?_ (KeepsP.mk' hs)
    extract_lets +onlyGivenNames x14
    split
    · rename_i y16
      exact meterOctets_keeps hm hs
    · rename_i y17
      exact meterOctets_keeps hm hs
    · rename_i y18
      exact meterOctets_keeps hm hs
    · rename_i y19
      exact meterOctets_keeps hm hs
    · rename_i y20 e21 e22 e23 e24
      exact meterOctets_keeps hm hs

theorem elemValue_keeps {m : Nat} {r : State} {b0 : Session} {b1 : ℕ} {b2 : ℕ} {b3 : ℕ} {b4 : OdElem} {s : State} (hm : Sub 1
    m) (hs : Keeps m r s) :
    KeepsP m r (elemValue b0 b1 b2 b3 b4 s) := by
  unfold elemValue
  refine KeepsP.ite (KeepsP.mk' hs) ?_
  refine KeepsP.ite (KeepsP.mk' hs) ?_
  refine KeepsP.ite (KeepsP.mk' hs) ?_
  refine KeepsP.ite ?_ ?_
  · exact KeepsP.mk' hs
  · exact KeepsP.ite (KeepsP.mk' hs) (KeepsP.ite (KeepsP.mk' hs) (KeepsP.ite (roMeter_keeps hm hs) (KeepsP.ite (KeepsP.mk'
        hs) (KeepsP.ite (KeepsP.mk' hs) (KeepsP.mk' hs)))))

theorem readAll_keeps {m : Nat} {r : State} {b0 : Session} {b1 : ℕ} {b2 : ℕ} {b3 : List (ℕ × OdElem)} {s : State} (hm : Sub 1
    m) (hs : Keeps m r s) :
    KeepsP m r (readAll b0 b1 b2 b3 s) := by
  induction b3 generalizing b0 b1 b2 s hs with
  | nil =>
    unfold readAll
    exact KeepsP.mk' hs
  | cons hd tl ih =>
    unfold readAll
    split
    · rename_i y2 y3 s4 e5
      have h6 : Keeps m r s4 := (KeepsP.of_eq e5 (elemValue_keeps hm hs)).snd
      split
      · rename_i y8 y9 s10 e11
        have h12 : Keeps m r s10 := (KeepsP.of_eq e11 (by
            refine @ih _ _ _ _ ?_
            exact h6
          )).snd
        exact KeepsP.mk' h12

theorem odRead_keeps {m : Nat} {r : State} {b0 : Session} {b1 : ℕ} {b2 : ℕ} {b3 : ℕ} {s : State} (hm : Sub 1 m) (hs : Keeps m
    r s) :
    KeepsP m r (odRead b0 b1 b2 b3 s) := by
  unfold odRead
  split
  · rename_i y2 e3
    exact KeepsP.mk' hs
  · rename_i y4 y5 e6
    refine KeepsP.ite ?_ ?_
    · extract_lets +onlyGivenNames x7
      refine KeepsP.ite (KeepsP.mk' hs) ?_
      split
      · rename_i y9 y10 s11 e12
        have h13 : Keeps m r s11 := (KeepsP.of_eq e12 (readAll_keeps hm hs)).snd
        exact KeepsP.mk' h13
    · split
      · rename_i y15 e16
        exact KeepsP.mk' hs
      · rename_i y17 y18 y19 e20
        refine KeepsP.ite (KeepsP.mk' hs) ?_
        split
        · rename_i y22 y23 s24 e25
          have h26 : Keeps m r s24 := (KeepsP.of_eq e25 (elemValue_keeps hm hs)).snd
          exact KeepsP.mk' h26

/-! ### DictStore -/

theorem snapshotPut_keeps {m : Nat} {r : State} {b0 : List DictEntry} {s : State} (hm : Sub 8589934624 m) (hs : Keeps m r s) :
    Keeps m r (snapshotPut b0 s) := by
  unfold snapshotPut
  extract_lets +onlyGivenNames x1
  have h2 : Keeps m r x1 := setBulkBytes_keeps (hm.mono rfl) hs
  clear_value x1
  exact setUpdNv_keeps (hm.mono rfl) h2

theorem snapshotWrite_keeps {m : Nat} {r : State} {b0 : ℕ} {b1 : ℕ} {b2 : ℕ} {b3 : List Byte} {s : State} (hm : Sub
    8589934624 m) (hs : Keeps m r s) :
    Keeps m r (snapshotWrite b0 b1 b2 b3 s) := by
  unfold snapshotWrite
  refine Keeps.ite hs ?_
  extract_lets +onlyGivenNames x1
  exact Keeps.ite (snapshotPut_keeps hm hs) hs

theorem restoreValues_keeps {m : Nat} {r : State} {s : State} (hm : Sub 64 m) (hs : Keeps m r s) :
    Keeps m r (restoreValues s) := by
  unfold restoreValues
  extract_lets +onlyGivenNames x1
  have h2 : Keeps m r x1 := by
    unfold x1
    refine odFilter_keeps (hm.mono rfl) ?_
    exact hs
  clear_value x1
  refine Keeps.foldl h2 (fun s4 a3 h5 => ?_)
  split
  · rename_i y7 y8 y9
    exact odSet_keeps (hm.mono rfl) h5

/-! ### DictWrite -/

theorem odStream_keeps {m : Nat} {r : State} {b0 : ℕ} {b1 : ℕ} {b2 : ℕ} {b3 : List Byte} {s : State} (hm : Sub 8192 m) (hs :
    Keeps m r s) :
    Keeps m r (odStream b0 b1 b2 b3 s) := by
  unfold odStream
  exact Keeps.ite hs (streamPut_keeps hm hs)

theorem odStore_keeps {m : Nat} {r : State} {b0 : ℕ} {b1 : ℕ} {b2 : ℕ} {b3 : OdElem} {b4 : List Byte} {s : State} (hm : Sub
    192 m) (hs : Keeps m r s) :
    Keeps m r (odStore b0 b1 b2 b3 b4 s) := by
  unfold odStore
  extract_lets +onlyGivenNames x1 x2
  have h3 : Keeps m r x2 := by
    unfold x2
    split
    · rename_i y5 e6
      refine Keeps.ite ?_ hs
      refine odHold_keeps (hm.mono rfl) ?_
      exact hs
    · rename_i y7 e8
      refine Keeps.ite ?_ hs
      refine odHold_keeps (hm.mono rfl) ?_
      exact hs
    · rename_i y9 e10 e11
      exact hs
  clear_value x2
  exact odSet_keeps (hm.mono rfl) h3

theorem fieldsWrite_keeps {m : Nat} {r : State} {b0 : List (Field × ℕ)} {s : State} (hm : Sub 4722366481787313455069 m) (hs :
    Keeps m r s) :
    Keeps m r (fieldsWrite b0 s) := by
  unfold fieldsWrite
  refine Keeps.foldl hs (fun s2 a1 h3 => ?_)
  refine fwField_keeps (regMask.anyOr (hm.mono rfl)) (fun a4 a5 a6 a7 a8 a9 => ?_) h3
  exact planeWritten_keeps hm a9

theorem chargerEffects_keeps {m : Nat} {r : State} {s : State} (hm : Sub 4513495232054532 m) (hs : Keeps m r s) :
    Keeps m r (chargerEffects s) := by
  unfold chargerEffects
  extract_lets +onlyGivenNames x1 x2
  have h3 : Keeps m r x2 := setBkd_keeps (hm.mono rfl) hs
  clear_value x2
  extract_lets +onlyGivenNames x4
  exact bkdWrite_keeps hm h3

theorem nodeEffects_keeps {m : Nat} {r : State} {b0 : ℕ} {b1 : List ℕ} {o2 : State} {s : State} (hm : Sub 6773000285205588 m)
    (hs : Keeps m r s) :
    Keeps m r (nodeEffects b0 b1 o2 s) := by
  unfold nodeEffects
  extract_lets +onlyGivenNames x1 x2
  have h3 : Keeps m r x2 := by
    unfold x2
    refine Keeps.foldl hs (fun s5 a4 h6 => ?_)
    exact Keeps.ite (envelopeBefore_keeps (hm.mono rfl) h6) h6
  clear_value x2
  extract_lets +onlyGivenNames x7
  have h8 : Keeps m r x7 := by
    unfold x7
    refine Keeps.foldl h3 (fun s10 a9 h11 => ?_)
    exact wantSettings_keeps (hm.mono rfl) h11
  clear_value x7
  extract_lets +onlyGivenNames x12
  have h13 : Keeps m r x12 := Keeps.ite (headwayAll_keeps (hm.mono rfl) h8) h8
  clear_value x12
  exact Keeps.ite (fastWrite_keeps (hm.mono rfl) h13) (Keeps.ite (fastRefresh_keeps (hm.mono rfl) h13) h13)

theorem chainComparator_keeps {m : Nat} {r : State} {s : State} (hm : Sub 4722366481770133589004 m) (hs : Keeps m r s) :
    Keeps m r (chainComparator s) := by
  unfold chainComparator
  extract_lets +onlyGivenNames x1
  exact cmpPath_keeps hm hs

theorem wiredEffects_keeps {m : Nat} {r : State} {b0 : ℕ} {b1 : List ℕ} {o2 : State} {s : State} (hm : Sub 6773000285205588
    m) (hs : Keeps m r s) :
    Keeps m r (wiredEffects b0 b1 o2 s) := by
  unfold wiredEffects
  extract_lets +onlyGivenNames x1 x2
  have h3 : Keeps m r x2 := by
    unfold x2
    refine Keeps.ite ?_ hs
    refine Keeps.foldl hs (fun s5 a4 h6 => ?_)
    exact setInputEnvelope_keeps (hm.mono rfl) h6
  clear_value x2
  extract_lets +onlyGivenNames x7
  have h8 : Keeps m r x7 := channelApply_keeps (hm.mono rfl) h3
  clear_value x7
  exact Keeps.ite (headwayAll_keeps (hm.mono rfl) h8) h8

theorem joinTableWrite_keeps {m : Nat} {r : State} {s : State} (hm : Sub 4722366481783018538013 m) (hs : Keeps m r s) :
    Keeps m r (joinTableWrite s) := by
  unfold joinTableWrite
  extract_lets +onlyGivenNames x1 x2 x3 x4
  have h5 : Keeps m r x4 := setBytes_keeps (hm.mono rfl) hs
  clear_value x4
  extract_lets +onlyGivenNames x6
  have h7 : Keeps m r x6 := by
    unfold x6
    refine fwWrite_keeps (hm.mono rfl) (fun a8 a9 a10 a11 a12 a13 => ?_) h5
    exact kvtWritten_keeps hm a13
  clear_value x6
  refine fwWrite_keeps (hm.mono rfl) (fun a14 a15 a16 a17 a18 a19 => ?_) h7
  exact kvtWritten_keeps hm a19

theorem securityEffects_keeps {m : Nat} {r : State} {b0 : ℕ} {b1 : ℕ} {b2 : List Byte} {s : State} (hm : Sub
    4722366481783018538077 m) (hs : Keeps m r s) :
    Keeps m r (securityEffects b0 b1 b2 s) := by
  unfold securityEffects
  extract_lets +onlyGivenNames x1
  have h2 : Keeps m r x1 := by
    unfold x1
    refine Keeps.ite (Keeps.ite (odSet_keeps (hm.mono rfl) hs) hs) ?_
    split
    · rename_i y4 y5 e6
      exact odSet_keeps (hm.mono rfl) hs
    · rename_i y7 e8
      exact hs
  clear_value x1
  exact joinTableWrite_keeps (hm.mono rfl) h2

theorem odEffects_keeps {m : Nat} {r : State} {b0 : ℕ} {b1 : ℕ} {b2 : List ℕ} {b3 : List (List Byte)} {o4 : State} {s :
    State} (hm : Sub 4722366481784430984541 m) (hs : Keeps m r s) :
    Keeps m r (odEffects b0 b1 b2 b3 o4 s) := by
  unfold odEffects
  split
  · rename_i y2
    exact Keeps.ite (chargerEffects_keeps (hm.mono rfl) hs) hs
  · rename_i y3
    exact Keeps.ite (schedEvaluate_keeps (hm.mono rfl) (toffUpdate_keeps (hm.mono rfl) hs)) hs
  · rename_i y4
    exact Keeps.ite (groupCommand_keeps (hm.mono rfl) hs) hs
  · rename_i y5
    exact nodeEffects_keeps (hm.mono rfl) hs
  · rename_i y6
    extract_lets +onlyGivenNames x7 x8
    have h9 : Keeps m r x8 := dinShow_keeps (hm.mono rfl) hs
    clear_value x8
    extract_lets +onlyGivenNames x10
    have h11 : Keeps m r x10 := Keeps.ite (Keeps.ite (keySwitch_keeps (hm.mono rfl) h9) h9) hs
    clear_value x10
    exact schedEvaluate_keeps (hm.mono rfl) h11
  · rename_i y12
    refine Keeps.ite ?_ hs
    extract_lets +onlyGivenNames x13
    have h14 : Keeps m r x13 := by
      unfold x13
      refine fwField_keeps (hm.mono rfl) (fun a15 a16 a17 a18 a19 a20 => ?_) hs
      exact mtrWritten_keeps (hm.mono rfl) a20
    clear_value x13
    exact cmpTime_keeps (hm.mono rfl) h14
  · rename_i y21
    refine Keeps.ite (chainComparator_keeps (hm.mono rfl) hs) ?_
    refine Keeps.ite hs ?_
    refine Keeps.ite ?_ ?_
    · exact coefApply_keeps (hm.mono rfl) hs
    · exact Keeps.ite (matrixApply_keeps (hm.mono rfl) hs) (Keeps.ite (deviceApply_keeps (hm.mono rfl) hs)
          (wiredEffects_keeps (hm.mono rfl) hs))
  · rename_i y22
    refine Keeps.ite ?_ hs
    refine Keeps.foldl hs (fun s24 a23 h25 => ?_)
    exact setBhn_keeps (hm.mono rfl) h25
  · rename_i y26
    refine Keeps.foldl hs (fun s28 a27 h29 => ?_)
    exact securityEffects_keeps (hm.mono rfl) h29
  · rename_i y30 e31 e32 e33 e34 e35 e36 e37 e38 e39
    exact hs

theorem odApply_keeps {m : Nat} {r : State} {b0 : ℕ} {b1 : ℕ} {b2 : List ((ℕ × OdElem) × List Byte)} {s : State} (hm : Sub
    4722366481787313455101 m) (hs : Keeps m r s) :
    Keeps m r (odApply b0 b1 b2 s) := by
  unfold odApply
  extract_lets +onlyGivenNames x1
  have h2 : Keeps m r x1 := hs
  clear_value x1
  extract_lets +onlyGivenNames x3
  have h4 : Keeps m r x3 := by
    unfold x3
    refine Keeps.foldl hs (fun s6 a5 h7 => ?_)
    exact odStore_keeps (hm.mono rfl) h7
  clear_value x3
  extract_lets +onlyGivenNames x8
  have h9 : Keeps m r x8 := by
    unfold x8
    refine Keeps.foldl h4 (fun s11 a10 h12 => ?_)
    exact fieldsWrite_keeps (hm.mono rfl) h12
  clear_value x8
  extract_lets +onlyGivenNames x13
  have h14 : Keeps m r x13 := odEffects_keeps (hm.mono rfl) h9
  clear_value x13
  extract_lets +onlyGivenNames x15
  have h16 : Keeps m r x15 := by
    unfold x15
    refine Keeps.foldl h14 (fun s18 a17 h19 => ?_)
    split
    · rename_i y21 y22 y23 y24 e25
      exact snapshotWrite_keeps (hm.mono rfl) (fieldsWrite_keeps (hm.mono rfl) (odSet_keeps (hm.mono rfl) h19))
    · rename_i y26 e27
      exact h19
  clear_value x15
  refine Keeps.foldl h16 (fun s29 a28 h30 => ?_)
  exact Keeps.ite (snapshotWrite_keeps (hm.mono rfl) h30) h30

theorem odWriteCore_keeps {m : Nat} {r : State} {b0 : Session} {b1 : ℕ} {b2 : ℕ} {b3 : ℕ} {b4 : List Byte} {s : State} (hm :
    Sub 4722366481787313455101 m) (hs : Keeps m r s) :
    KeepsP m r (odWriteCore b0 b1 b2 b3 b4 s) := by
  unfold odWriteCore
  split
  · rename_i y2 e3
    exact KeepsP.mk' hs
  · rename_i y4 y5 e6
    split
    · rename_i y8 y9 e10
      exact KeepsP.mk' hs
    · rename_i y11 y12 e13
      extract_lets +onlyGivenNames x14
      have h15 : Keeps m r x14 := by
        unfold x14
        refine Keeps.foldl hs (fun s17 a16 h18 => ?_)
        exact odSet_keeps (hm.mono rfl) h18
      clear_value x14
      split
      · rename_i y20 y21 y22 e23
        exact KeepsP.mk' hs
      · rename_i y24 e25
        refine KeepsP.ite (KeepsP.mk' (putSession_keeps (hm.mono rfl) hs)) ?_
        extract_lets +onlyGivenNames x26
        exact KeepsP.mk' (odStream_keeps (hm.mono rfl) (odApply_keeps hm hs))

theorem odRecord_keeps {m : Nat} {r : State} {b0 : Session} {b1 : ℕ} {b2 : ℕ} {b3 : ℕ} {b4 : ℕ} {b5 : ℕ} {b6 : Bool} {b7 :
    List Byte} {b8 : List Byte} {s : State} (hm : Sub 4503599627371524 m) (hs : Keeps m r s) :
    Keeps m r (odRecord b0 b1 b2 b3 b4 b5 b6 b7 b8 s) := by
  unfold odRecord
  split
  · rename_i y2 y3 y4 e5
    split
    · rename_i y7 y8 y9 e10
      extract_lets +onlyGivenNames x11 x12
      exact evrPost_keeps hm hs

theorem odWrite_keeps {m : Nat} {r : State} {b0 : Session} {b1 : ℕ} {b2 : ℕ} {b3 : ℕ} {b4 : List Byte} {s : State} (hm : Sub
    4722366481787313455101 m) (hs : Keeps m r s) :
    KeepsP m r (odWrite b0 b1 b2 b3 b4 s) := by
  unfold odWrite
  extract_lets +onlyGivenNames x1
  split
  · rename_i y3 y4 s5 e6
    have h7 : Keeps m r s5 := (KeepsP.of_eq e6 (odWriteCore_keeps hm hs)).snd
    exact KeepsP.mk' (odRecord_keeps (hm.mono rfl) h7)

/-! ### Coap -/

theorem relaySend_keeps {m : Nat} {r : State} {b0 : List Byte} {b1 : ℕ} {b2 : ℕ} {b3 : ℕ} {b4 : ℕ} {b5 : ℕ} {b6 : List Byte}
    {s : State} (hm : Sub 4521191813420036 m) (hs : Keeps m r s) :
    Keeps m r (relaySend b0 b1 b2 b3 b4 b5 b6 s) := by
  unfold relaySend
  extract_lets +onlyGivenNames x1
  exact sendBackhaul_keeps hm hs

theorem coapSend_keeps {m : Nat} {r : State} {b0 : ℕ} {b1 : List Byte} {s : State} (hm : Sub 4521193960903684 m) (hs : Keeps
    m r s) :
    Keeps m r (coapSend b0 b1 s) := by
  unfold coapSend
  split
  · rename_i y2 e3
    exact hs
  · rename_i y4 y5 e6
    split
    · rename_i y8 e9
      exact hs
    · rename_i y10 y11 e12
      extract_lets +onlyGivenNames x13
      exact sendDatagram_keeps (hm.mono rfl) (putSession_keeps (hm.mono rfl) hs)

/-! ### Update -/

theorem setAct_keeps {m : Nat} {r : State} {b0 : Activation} {s : State} (hm : Sub 8589934592 m) (hs : Keeps m r s) :
    Keeps m r (setAct b0 s) := by
  unfold setAct
  exact setUpdNv_keeps hm hs

theorem candidatesApply_keeps {m : Nat} {r : State} {s : State} (hm : Sub 4722366481787313455069 m) (hs : Keeps m r s) :
    Keeps m r (candidatesApply s) := by
  unfold candidatesApply
  extract_lets +onlyGivenNames x1
  have h2 : Keeps m r x1 := by
    unfold x1
    refine odRelease_keeps (hm.mono rfl) ?_
    exact hs
  clear_value x1
  extract_lets +onlyGivenNames x3
  have h4 : Keeps m r x3 := by
    unfold x3
    refine fwField_keeps (hm.mono rfl) (fun a5 a6 a7 a8 a9 a10 => ?_) ?_
    · exact planeWritten_keeps hm a10
    · refine fwField_keeps (hm.mono rfl) (fun a11 a12 a13 a14 a15 a16 => ?_) h2
      exact planeWritten_keeps hm a16
  clear_value x3
  refine fwField_keeps (hm.mono rfl) (fun a17 a18 a19 a20 a21 a22 => ?_) h4
  exact planeWritten_keeps hm a22

theorem profileWrite_keeps {m : Nat} {r : State} {b0 : List Byte} {s : State} (hm : Sub 4722366481787313455069 m) (hs : Keeps
    m r s) :
    Keeps m r (profileWrite b0 s) := by
  unfold profileWrite
  extract_lets +onlyGivenNames x1
  have h2 : Keeps m r x1 := by
    unfold x1
    refine Keeps.upTo hs (fun i3 s4 h5 => ?_)
    refine fwField_keeps (regMask.anyOr (hm.mono rfl)) (fun a6 a7 a8 a9 a10 a11 => ?_) h5
    exact planeWritten_keeps hm a11
  clear_value x1
  extract_lets +onlyGivenNames x12
  have h13 : ∀ a14 a15 a16 s17, Keeps m r s17 → Keeps m r (x12 a14 a15 a16 s17) := by
    intro a14 a15 a16 s17 h18
    unfold x12
    refine fwWrite_keeps (regMask.anyOr (hm.mono rfl)) (fun a19 a20 a21 a22 a23 a24 => ?_) h18
    exact planeWritten_keeps hm a24
  clear_value x12
  extract_lets +onlyGivenNames x25
  have h26 : Keeps m r x25 := by
    unfold x25
    refine Keeps.upTo h2 (fun i27 s28 h29 => ?_)
    exact @h13 _ _ _ _ (@h13 _ _ _ _ (@h13 _ _ _ _ h29))
  clear_value x25
  extract_lets +onlyGivenNames x30
  have h31 : Keeps m r x30 := @h13 _ _ _ _ (@h13 _ _ _ _ h26)
  clear_value x30
  extract_lets +onlyGivenNames x32
  refine fwField_keeps (hm.mono rfl) (fun a33 a34 a35 a36 a37 a38 => ?_) ?_
  · exact planeWritten_keeps hm a38
  · refine fwField_keeps (hm.mono rfl) (fun a39 a40 a41 a42 a43 a44 => ?_) ?_
    · exact planeWritten_keeps hm a44
    · refine fwField_keeps (hm.mono rfl) (fun a45 a46 a47 a48 a49 a50 => ?_) ?_
      · exact planeWritten_keeps hm a50
      · refine fwField_keeps (hm.mono rfl) (fun a51 a52 a53 a54 a55 a56 => ?_) h31
        exact planeWritten_keeps hm a56

theorem profileMove_keeps {m : Nat} {r : State} {b0 : ℕ} {b1 : ℕ} {b2 : ℕ} {s : State} (hm : Sub 32 m) (hs : Keeps m r s) :
    Keeps m r (profileMove b0 b1 b2 s) := by
  unfold profileMove
  refine Keeps.upTo hs (fun i1 s2 h3 => ?_)
  exact setBulk_keeps (hm.mono rfl) h3

theorem itemApply_keeps {m : Nat} {r : State} {b0 : Bool} {b1 : ℕ} {s : State} (hm : Sub 4722366481787313455101 m) (hs :
    Keeps m r s) :
    Keeps m r (itemApply b0 b1 s) := by
  unfold itemApply
  split
  · rename_i y2
    extract_lets +onlyGivenNames x3 x4
    have h5 : Keeps m r x4 := setBankState_keeps (hm.mono rfl) (setBankState_keeps (hm.mono rfl) hs)
    clear_value x4
    exact Keeps.ite (bootWrite_keeps (hm.mono rfl) h5) h5
  · rename_i y6
    extract_lets +onlyGivenNames x7 x8
    have h9 : Keeps m r x8 := by
      unfold x8
      refine Keeps.ite ?_ ?_
      · refine Keeps.foldl hs (fun s11 a10 h12 => ?_)
        exact odSet_keeps (hm.mono rfl) h12
      · refine Keeps.foldl hs (fun s14 a13 h15 => ?_)
        exact (odWrite_keeps hm h15).snd
    clear_value x8
    exact setItem_keeps (hm.mono rfl) h9
  · rename_i y16
    extract_lets +onlyGivenNames x17 x18 x19 x20
    have h21 : Keeps m r x20 := Keeps.ite (Keeps.set_nv (hm.mono rfl) hs) (setZones_keeps (hm.mono rfl) hs)
    clear_value x20
    exact setItem_keeps (hm.mono rfl) h21
  · rename_i y22 e23 e24 e25
    exact profileWrite_keeps (hm.mono rfl) (setItem_keeps (hm.mono rfl) (profileMove_keeps (hm.mono rfl) (profileMove_keeps
        (hm.mono rfl) hs)))

theorem setTrial_keeps {m : Nat} {r : State} {b0 : Option Trial} {s : State} (hm : Sub 8589934592 m) (hs : Keeps m r s) :
    Keeps m r (setTrial b0 s) := by
  unfold setTrial
  exact setUpdNv_keeps hm hs

theorem restartSoon_keeps {m : Nat} {r : State} {s : State} (hm : Sub 2147483648 m) (hs : Keeps m r s) :
    Keeps m r (restartSoon s) := by
  unfold restartSoon
  exact Keeps.set_dict (hm.mono rfl) hs

theorem activationApply_keeps {m : Nat} {r : State} {s : State} (hm : Sub 4722366481787313455101 m) (hs : Keeps m r s) :
    Keeps m r (activationApply s) := by
  unfold activationApply
  extract_lets +onlyGivenNames x1 x2 x3 x4 x5
  have h6 : Keeps m r x5 := by
    unfold x5
    refine fwField_keeps (hm.mono rfl) (fun a7 a8 a9 a10 a11 a12 => ?_) hs
    exact updWritten_keeps (hm.mono rfl) a12
  clear_value x5
  extract_lets +onlyGivenNames x13
  have h14 : Keeps m r x13 := postFnd_keeps (hm.mono rfl) (setAct_keeps (hm.mono rfl) h6)
  clear_value x13
  extract_lets +onlyGivenNames x15 x16
  have h17 : Keeps m r x16 := bootWrite_keeps (hm.mono rfl) (candidatesApply_keeps (hm.mono rfl) h14)
  clear_value x16
  refine Keeps.ite ?_ ?_
  · split
    · rename_i y19 y20 e21
      exact journalRelease_keeps (hm.mono rfl) h17
    · rename_i y22 e23
      exact h17
  · extract_lets +onlyGivenNames x24
    have h25 : Keeps m r x24 := snapshotPut_keeps (hm.mono rfl) h17
    clear_value x24
    extract_lets +onlyGivenNames x26
    have h27 : Keeps m r x26 := by
      unfold x26
      refine Keeps.foldl h25 (fun s29 a28 h30 => ?_)
      exact itemApply_keeps hm h30
    clear_value x26
    extract_lets +onlyGivenNames x31
    have h32 : Keeps m r x31 := setTrial_keeps (hm.mono rfl) h27
    clear_value x31
    extract_lets +onlyGivenNames x33
    have h34 : Keeps m r x33 := streamPut_keeps (hm.mono rfl) h32
    clear_value x33
    exact Keeps.ite (meterSave_keeps (hm.mono rfl) h34) (Keeps.ite (restartSoon_keeps (hm.mono rfl) (meterSave_keeps (hm.mono
        rfl) h34)) (setUpd_keeps (hm.mono rfl) h34))

theorem setPlaceState_keeps {m : Nat} {r : State} {b0 : ℕ} {b1 : ℕ} {s : State} (hm : Sub 8589934592 m) (hs : Keeps m r s) :
    Keeps m r (setPlaceState b0 b1 s) := by
  unfold setPlaceState
  exact Keeps.ite (setBankState_keeps hm hs) (setItem_keeps hm hs)

theorem armedEnd_keeps {m : Nat} {r : State} {b0 : ℕ} {s : State} (hm : Sub 4722366481783018499100 m) (hs : Keeps m r s) :
    Keeps m r (armedEnd b0 s) := by
  unfold armedEnd
  extract_lets +onlyGivenNames x1 x2
  have h3 : Keeps m r x2 := by
    unfold x2
    refine Keeps.foldl hs (fun s5 a4 h6 => ?_)
    exact Keeps.ite (setPlaceState_keeps (hm.mono rfl) h6) h6
  clear_value x2
  extract_lets +onlyGivenNames x7
  have h8 : Keeps m r x7 := by
    unfold x7
    split
    · rename_i y10 y11 e12
      exact journalRelease_keeps (hm.mono rfl) h3
    · rename_i y13 e14
      exact h3
  clear_value x7
  extract_lets +onlyGivenNames x15
  have h16 : Keeps m r x15 := by
    unfold x15
    refine fwField_keeps (hm.mono rfl) (fun a17 a18 a19 a20 a21 a22 => ?_) (cmpOff_keeps (hm.mono rfl) h8)
    exact updWritten_keeps (hm.mono rfl) a22
  clear_value x15
  exact bootWrite_keeps (hm.mono rfl) (setAct_keeps (hm.mono rfl) h16)

theorem activationMissed_keeps {m : Nat} {r : State} {s : State} (hm : Sub 4722366481785165982748 m) (hs : Keeps m r s) :
    Keeps m r (activationMissed s) := by
  unfold activationMissed
  extract_lets +onlyGivenNames x1 x2 x3
  have h4 : Keeps m r x3 := setUpd_keeps (hm.mono rfl) hs
  clear_value x3
  extract_lets +onlyGivenNames x5
  have h6 : Keeps m r x5 := Keeps.ite (setFld_keeps (hm.mono rfl) (lower_keeps (hm.mono rfl) h4)) h4
  clear_value x5
  extract_lets +onlyGivenNames x7
  have h8 : Keeps m r x7 := streamPut_keeps (hm.mono rfl) (postFnd_keeps (hm.mono rfl) (armedEnd_keeps (hm.mono rfl) h6))
  clear_value x7
  refine Keeps.ite ?_ h8
  extract_lets +onlyGivenNames x9
  exact restartSoon_keeps (hm.mono rfl) (bootWrite_keeps (hm.mono rfl) (setBankState_keeps (hm.mono rfl) (setBankState_keeps
      (hm.mono rfl) h8)))

theorem activationJudge_keeps {m : Nat} {r : State} {s : State} (hm : Sub 4722366481787313455101 m) (hs : Keeps m r s) :
    Keeps m r (activationJudge s) := by
  unfold activationJudge
  extract_lets +onlyGivenNames x1
  refine Keeps.ite hs ?_
  extract_lets +onlyGivenNames x2 x3 x4
  have h5 : Keeps m r x4 := by
    unfold x4
    refine fwWrite_keeps (hm.mono rfl) (fun a6 a7 a8 a9 a10 a11 => ?_) hs
    exact updWritten_keeps (hm.mono rfl) a11
  clear_value x4
  exact Keeps.ite (activationApply_keeps hm h5) (activationMissed_keeps (hm.mono rfl) h5)

theorem activationPlen_keeps {m : Nat} {r : State} {s : State} (hm : Sub 4722366481785165982748 m) (hs : Keeps m r s) :
    Keeps m r (activationPlen s) := by
  unfold activationPlen
  extract_lets +onlyGivenNames x1 x2
  refine Keeps.ite ?_ hs
  refine Keeps.ite ?_ (activationMissed_keeps hm hs)
  refine setAct_keeps (hm.mono rfl) ?_
  refine fwField_keeps (hm.mono rfl) (fun a3 a4 a5 a6 a7 a8 => ?_) hs
  exact ntbWritten_keeps (hm.mono rfl) a8

theorem snapshotRestore_keeps {m : Nat} {r : State} {b0 : Bool} {s : State} (hm : Sub 4722366481787313455101 m) (hs : Keeps m
    r s) :
    Keeps m r (snapshotRestore b0 s) := by
  unfold snapshotRestore
  extract_lets +onlyGivenNames x1
  refine Keeps.foldl hs (fun s3 a2 h4 => ?_)
  exact Keeps.ite (Keeps.ite (odSet_keeps (hm.mono rfl) h4) (odWrite_keeps hm h4).snd) h4

theorem trialEnd_keeps {m : Nat} {r : State} {s : State} (hm : Sub 12884910080 m) (hs : Keeps m r s) :
    Keeps m r (trialEnd s) := by
  unfold trialEnd
  extract_lets +onlyGivenNames x1
  have h2 : Keeps m r x1 := by
    unfold x1
    split
    · rename_i y4 y5 e6
      exact journalRelease_keeps (hm.mono rfl) hs
    · rename_i y7 e8
      exact hs
  clear_value x1
  exact setUpd_keeps (hm.mono rfl) (setUpdNv_keeps (hm.mono rfl) h2)

theorem revertTrial_keeps {m : Nat} {r : State} {b0 : Bool} {s : State} (hm : Sub 4722366481787313455101 m) (hs : Keeps m r s) :
    Keeps m r (revertTrial b0 s) := by
  unfold revertTrial
  split
  · rename_i y2 e3
    exact hs
  · rename_i y4 y5 e6
    extract_lets +onlyGivenNames x7 x8
    have h9 : Keeps m r x8 := Keeps.ite (profileWrite_keeps (hm.mono rfl) (profileMove_keeps (hm.mono rfl) hs)) hs
    clear_value x8
    extract_lets +onlyGivenNames x10 x11
    have h12 : Keeps m r x11 := Keeps.ite (setZones_keeps (hm.mono rfl) h9) h9
    clear_value x11
    extract_lets +onlyGivenNames x13
    have h14 : Keeps m r x13 := Keeps.ite (snapshotRestore_keeps hm h12) h12
    clear_value x13
    extract_lets +onlyGivenNames x15
    have h16 : Keeps m r x15 := postFnd_keeps (hm.mono rfl) (trialEnd_keeps (hm.mono rfl) h14)
    clear_value x15
    refine Keeps.ite ?_ h16
    extract_lets +onlyGivenNames x17
    have h18 : Keeps m r x17 := setBankState_keeps (hm.mono rfl) (setBankState_keeps (hm.mono rfl) h16)
    clear_value x17
    extract_lets +onlyGivenNames x19 x20
    have h21 : Keeps m r x20 := bootWrite_keeps (hm.mono rfl) h18
    clear_value x20
    exact Keeps.ite h21 (Keeps.ite (setUpd_keeps (hm.mono rfl) h21) (restartSoon_keeps (hm.mono rfl) h21))

theorem relayAll_keeps {m : Nat} {r : State} {b0 : ℕ} {b1 : List Byte} {s : State} (hm : Sub 4521191813420036 m) (hs : Keeps
    m r s) :
    Keeps m r (relayAll b0 b1 s) := by
  unfold relayAll
  refine Keeps.foldl hs (fun s2 a1 h3 => ?_)
  exact Keeps.ite (relaySend_keeps hm h3) (relaySend_keeps hm (relaySend_keeps hm h3))

theorem relayed_keeps {m : Nat} {r : State} {b0 : ℕ} {b1 : List Byte} {b2 : State → ℕ × State} {s : State} (hm : Sub
    4521191813420036 m) (hb2 : ∀ c0, Keeps m r c0 → KeepsP m r (b2 c0)) (hs : Keeps m r s) :
    KeepsP m r (relayed b0 b1 b2 s) := by
  unfold relayed
  exact KeepsP.ite (KeepsP.mk' (@hb2 _ (relayAll_keeps hm hs)).snd) (@hb2 _ hs)

theorem armItems_keeps {m : Nat} {r : State} {b0 : ℕ} {s : State} (hm : Sub 4722366481783018499100 m) (hs : Keeps m r s) :
    Keeps m r (armItems b0 s) := by
  unfold armItems
  extract_lets +onlyGivenNames x1 x2
  split
  · rename_i y4 y5 s6 e7
    have h8 : Keeps m r s6 := (KeepsP.of_eq e7 (journalWrite_keeps (hm.mono rfl) hs)).snd
    extract_lets +onlyGivenNames x9
    have h10 : Keeps m r x9 := by
      unfold x9
      refine Keeps.foldl h8 (fun s12 a11 h13 => ?_)
      exact setPlaceState_keeps (hm.mono rfl) h13
    clear_value x9
    extract_lets +onlyGivenNames x14
    have h15 : Keeps m r x14 := setAct_keeps (hm.mono rfl) h10
    clear_value x14
    extract_lets +onlyGivenNames x16 x17
    have h18 : Keeps m r x17 := bootWrite_keeps (hm.mono rfl) h15
    clear_value x17
    extract_lets +onlyGivenNames x19
    have h20 : Keeps m r x19 := by
      unfold x19
      refine fwField_keeps (hm.mono rfl) (fun a21 a22 a23 a24 a25 a26 => ?_) (cmpTime_keeps (hm.mono rfl) h18)
      exact updWritten_keeps (hm.mono rfl) a26
    clear_value x19
    exact post_keeps (hm.mono rfl) h20

theorem armCommand_keeps {m : Nat} {r : State} {b0 : List Byte} {s : State} (hm : Sub 4722366481783018499100 m) (hs : Keeps m
    r s) :
    KeepsP m r (armCommand b0 s) := by
  unfold armCommand
  extract_lets +onlyGivenNames x1 x2 x3 x4
  exact KeepsP.ite (KeepsP.mk' hs) (KeepsP.ite (KeepsP.mk' hs) (KeepsP.ite (KeepsP.mk' hs) (KeepsP.mk' (armItems_keeps hm hs))))

theorem disarmCommand_keeps {m : Nat} {r : State} {s : State} (hm : Sub 4722366481783018499100 m) (hs : Keeps m r s) :
    KeepsP m r (disarmCommand s) := by
  unfold disarmCommand
  extract_lets +onlyGivenNames x1
  exact KeepsP.ite (KeepsP.mk' hs) (KeepsP.mk' (armedEnd_keeps hm hs))

theorem confirmTrial_keeps {m : Nat} {r : State} {s : State} (hm : Sub 4503612512281620 m) (hs : Keeps m r s) :
    Keeps m r (confirmTrial s) := by
  unfold confirmTrial
  split
  · rename_i y2 e3
    exact hs
  · rename_i y4 y5 e6
    extract_lets +onlyGivenNames x7 x8 x9
    have h10 : Keeps m r x9 := setBankState_keeps (hm.mono rfl) (setBankState_keeps (hm.mono rfl) hs)
    clear_value x9
    extract_lets +onlyGivenNames x11
    have h12 : Keeps m r x11 := Keeps.ite (bootWrite_keeps (hm.mono rfl) h10) hs
    clear_value x11
    exact postFnd_keeps (hm.mono rfl) (trialEnd_keeps (hm.mono rfl) h12)

theorem confirmCommand_keeps {m : Nat} {r : State} {s : State} (hm : Sub 4503612512281620 m) (hs : Keeps m r s) :
    KeepsP m r (confirmCommand s) := by
  unfold confirmCommand
  exact KeepsP.ite (KeepsP.mk' hs) (KeepsP.mk' (confirmTrial_keeps hm hs))

theorem revertCommand_keeps {m : Nat} {r : State} {s : State} (hm : Sub 4722366481787313455101 m) (hs : Keeps m r s) :
    KeepsP m r (revertCommand s) := by
  unfold revertCommand
  exact KeepsP.ite (KeepsP.mk' hs) (KeepsP.mk' (revertTrial_keeps hm hs))

theorem setLoad_keeps {m : Nat} {r : State} {b0 : ImageLoad} {s : State} (hm : Sub 4294967296 m) (hs : Keeps m r s) :
    Keeps m r (setLoad b0 s) := by
  unfold setLoad
  exact setUpd_keeps hm hs

theorem loadRefuse_keeps {m : Nat} {r : State} {b0 : ℕ} {s : State} (hm : Sub 4503603922338820 m) (hs : Keeps m r s) :
    Keeps m r (loadRefuse b0 s) := by
  unfold loadRefuse
  exact post_keeps (hm.mono rfl) (setLoad_keeps (hm.mono rfl) hs)

theorem sectionCopy_keeps {m : Nat} {r : State} {b0 : ℕ} {s : State} (hm : Sub 32 m) (hs : Keeps m r s) :
    Keeps m r (sectionCopy b0 s) := by
  unfold sectionCopy
  extract_lets +onlyGivenNames x1 x2
  refine Keeps.ite ?_ (setBulk_keeps (hm.mono rfl) hs)
  extract_lets +onlyGivenNames x3
  exact setBulkBytes_keeps hm (setBulk_keeps (hm.mono rfl) hs)

theorem loadPlace_keeps {m : Nat} {r : State} {b0 : ℕ} {s : State} (hm : Sub 8589934592 m) (hs : Keeps m r s) :
    Keeps m r (loadPlace b0 s) := by
  unfold loadPlace
  extract_lets +onlyGivenNames x1
  split
  · rename_i y3 e4
    exact setPlaceState_keeps hm hs
  · rename_i y5 y6 e7 e8
    exact setItem_keeps hm hs
  · rename_i y9 e10
    exact setLibrary_keeps hm hs

theorem loadOpen_keeps {m : Nat} {r : State} {b0 : List Byte} {s : State} (hm : Sub 4503612512273444 m) (hs : Keeps m r s) :
    KeepsP m r (loadOpen b0 s) := by
  unfold loadOpen
  extract_lets +onlyGivenNames x1 x2
  refine KeepsP.ite (KeepsP.ite (KeepsP.mk' hs) (KeepsP.mk' hs)) ?_
  refine KeepsP.ite (KeepsP.mk' hs) ?_
  extract_lets +onlyGivenNames x3
  refine KeepsP.ite (KeepsP.mk' (loadRefuse_keeps (hm.mono rfl) hs)) ?_
  extract_lets +onlyGivenNames x4
  split
  · rename_i y6 y7 y8 y9 e10
    extract_lets +onlyGivenNames x11 x12
    have h13 : Keeps m r x12 := Keeps.ite (sectionCopy_keeps (hm.mono rfl) hs) hs
    clear_value x12
    extract_lets +onlyGivenNames x14
    have h15 : Keeps m r x14 := setLoad_keeps (hm.mono rfl) h13
    clear_value x14
    exact KeepsP.mk' (loadPlace_keeps (hm.mono rfl) (setBulk_keeps (hm.mono rfl) h15))

theorem loadData_keeps {m : Nat} {r : State} {b0 : List Byte} {s : State} (hm : Sub 4294967328 m) (hs : Keeps m r s) :
    KeepsP m r (loadData b0 s) := by
  unfold loadData
  extract_lets +onlyGivenNames x1 x2 x3
  split
  · rename_i y5 y6 y7 y8 e9
    refine KeepsP.ite (KeepsP.mk' hs) ?_
    refine KeepsP.ite ?_ ?_
    · exact KeepsP.mk' hs
    · exact KeepsP.ite (KeepsP.mk' (setLoad_keeps (hm.mono rfl) hs)) (KeepsP.ite (KeepsP.mk' hs) (KeepsP.mk' (setLoad_keeps
          (hm.mono rfl) (setBulkBytes_keeps (hm.mono rfl) hs))))

theorem verifyStart_keeps {m : Nat} {r : State} {s : State} (hm : Sub 4722366481774428553228 m) (hs : Keeps m r s) :
    Keeps m r (verifyStart s) := by
  unfold verifyStart
  extract_lets +onlyGivenNames x1
  refine Keeps.ite (setLoad_keeps (hm.mono rfl) hs) ?_
  split
  · rename_i y3 y4 y5 y6 e7
    extract_lets +onlyGivenNames x8 x9
    have h10 : ∀ a11 a12 s13, Keeps m r s13 → Keeps m r (x9 a11 a12 s13) := by
      intro a11 a12 s13 h14
      unfold x9
      refine fwWrite_keeps (regMask.anyOr (hm.mono rfl)) (fun a15 a16 a17 a18 a19 a20 => ?_) h14
      exact updWritten_keeps (hm.mono rfl) a20
    clear_value x9
    extract_lets +onlyGivenNames x21
    have h22 : Keeps m r x21 := @h10 _ _ _ hs
    clear_value x21
    extract_lets +onlyGivenNames x23
    have h24 : Keeps m r x23 := @h10 _ _ _ (@h10 _ _ _ h22)
    clear_value x23
    extract_lets +onlyGivenNames x25
    have h26 : Keeps m r x25 := by
      unfold x25
      refine Keeps.upTo h24 (fun i27 s28 h29 => ?_)
      exact @h10 _ _ _ h29
    clear_value x25
    exact setLoad_keeps (hm.mono rfl) (@h10 _ _ _ h26)

theorem loadClose_keeps {m : Nat} {r : State} {b0 : Session} {s : State} (hm : Sub 4722366481774428553228 m) (hs : Keeps m r
    s) :
    KeepsP m r (loadClose b0 s) := by
  unfold loadClose
  extract_lets +onlyGivenNames x1
  exact KeepsP.ite (KeepsP.mk' hs) (KeepsP.ite (KeepsP.mk' hs) (KeepsP.mk' (verifyStart_keeps hm (setLoad_keeps (hm.mono rfl)
      hs))))

theorem loadDrop_keeps {m : Nat} {r : State} {s : State} (hm : Sub 12884901888 m) (hs : Keeps m r s) :
    Keeps m r (loadDrop s) := by
  unfold loadDrop
  exact setLoad_keeps (hm.mono rfl) (loadPlace_keeps (hm.mono rfl) hs)

theorem loadAbort_keeps {m : Nat} {r : State} {s : State} (hm : Sub 12884901888 m) (hs : Keeps m r s) :
    KeepsP m r (loadAbort s) := by
  unfold loadAbort
  exact KeepsP.ite (KeepsP.mk' (loadDrop_keeps hm hs)) (KeepsP.mk' hs)

theorem contentCheck_keeps {m : Nat} {r : State} {s : State} (hm : Sub 4503599761589316 m) (hs : Keeps m r s) :
    KeepsP m r (contentCheck s) := by
  unfold contentCheck
  extract_lets +onlyGivenNames x1
  split
  · rename_i y3 y4 y5 y6 e7
    extract_lets +onlyGivenNames x8
    refine KeepsP.ite (KeepsP.mk' hs) ?_
    refine KeepsP.ite (KeepsP.mk' hs) ?_
    refine KeepsP.ite ?_ (KeepsP.mk' hs)
    extract_lets +onlyGivenNames x9
    exact KeepsP.mk' (post_keeps (hm.mono rfl) (setZones_keeps (hm.mono rfl) hs))

theorem execActivation_keeps {m : Nat} {r : State} {s : State} (hm : Sub 4722366481787313455101 m) (hs : Keeps m r s) :
    NextKeeps m r (execActivation s) := by
  unfold execActivation
  exact NextKeeps.next (activationJudge_keeps hm hs)

theorem loadIdle_keeps {m : Nat} {r : State} {s : State} (hm : Sub 12884901888 m) (hs : Keeps m r s) :
    Keeps m r (loadIdle s) := by
  unfold loadIdle
  exact Keeps.ite (loadDrop_keeps hm hs) hs

theorem execLoadIdleTimeout_keeps {m : Nat} {r : State} {s : State} (hm : Sub 12884901888 m) (hs : Keeps m r s) :
    NextKeeps m r (execLoadIdleTimeout s) := by
  unfold execLoadIdleTimeout
  exact NextKeeps.next (loadIdle_keeps hm hs)

theorem loadFinish_keeps {m : Nat} {r : State} {s : State} (hm : Sub 4503612646491204 m) (hs : Keeps m r s) :
    Keeps m r (loadFinish s) := by
  unfold loadFinish
  split
  · rename_i y2 y3 s4 e5
    have h6 : Keeps m r s4 := (KeepsP.of_eq e5 (contentCheck_keeps (hm.mono rfl) hs)).snd
    exact Keeps.ite (loadPlace_keeps (hm.mono rfl) (setLoad_keeps (hm.mono rfl) h6)) (loadRefuse_keeps (hm.mono rfl)
        (loadPlace_keeps (hm.mono rfl) h6))

theorem verifyStep_keeps {m : Nat} {r : State} {s : State} (hm : Sub 4722366481783152706636 m) (hs : Keeps m r s) :
    Keeps m r (verifyStep s) := by
  unfold verifyStep
  extract_lets +onlyGivenNames x1 x2
  have h3 : ∀ s4, Keeps m r (x2 s4) := by
    intro s4
    unfold x2
    exact loadRefuse_keeps (hm.mono rfl) (loadPlace_keeps (hm.mono rfl) hs)
  clear_value x2
  extract_lets +onlyGivenNames x6
  have h7 : ∀ s8, Keeps m r (x6 s8) := by
    intro s8
    unfold x6
    exact verifyStart_keeps (hm.mono rfl) (setLoad_keeps (hm.mono rfl) hs)
  clear_value x6
  refine Keeps.ite hs ?_
  refine Keeps.ite (verifyStart_keeps (hm.mono rfl) hs) ?_
  extract_lets +onlyGivenNames x10
  refine Keeps.ite (@h3 _) ?_
  refine Keeps.ite ?_ ?_
  · exact @h3 _
  · exact Keeps.ite (Keeps.ite (@h3 _) (Keeps.ite (@h7 _) (loadFinish_keeps (hm.mono rfl) hs))) (Keeps.ite (@h7 _) (Keeps.ite
        (@h3 _) (loadFinish_keeps (hm.mono rfl) hs)))

theorem execLoadVerifyDone_keeps {m : Nat} {r : State} {s : State} (hm : Sub 4722366481783152706636 m) (hs : Keeps m r s) :
    NextKeeps m r (execLoadVerifyDone s) := by
  unfold execLoadVerifyDone
  exact NextKeeps.next (verifyStep_keeps hm hs)

theorem standbyRestart_keeps {m : Nat} {r : State} {s : State} (hm : Sub 10737418256 m) (hs : Keeps m r s) :
    Keeps m r (standbyRestart s) := by
  unfold standbyRestart
  extract_lets +onlyGivenNames x1
  refine Keeps.ite ?_ hs
  extract_lets +onlyGivenNames x2
  have h3 : Keeps m r x2 := setBankState_keeps (hm.mono rfl) hs
  clear_value x2
  exact restartSoon_keeps (hm.mono rfl) (bootWrite_keeps (hm.mono rfl) h3)

theorem execStandbyTrialRestart_keeps {m : Nat} {r : State} {s : State} (hm : Sub 10737418256 m) (hs : Keeps m r s) :
    NextKeeps m r (execStandbyTrialRestart s) := by
  unfold execStandbyTrialRestart
  exact NextKeeps.next (standbyRestart_keeps hm hs)

theorem trialExpiry_keeps {m : Nat} {r : State} {s : State} (hm : Sub 4722366481787313455101 m) (hs : Keeps m r s) :
    Keeps m r (trialExpiry s) := by
  unfold trialExpiry
  split
  · rename_i y2 y3 e4
    exact Keeps.ite (revertTrial_keeps hm hs) hs
  · rename_i y5 e6
    exact hs

theorem execTrialExpiry_keeps {m : Nat} {r : State} {s : State} (hm : Sub 4722366481787313455101 m) (hs : Keeps m r s) :
    NextKeeps m r (execTrialExpiry s) := by
  unfold execTrialExpiry
  exact NextKeeps.next (trialExpiry_keeps hm hs)

theorem trialCheck_keeps {m : Nat} {r : State} {s : State} (hm : Sub 4722366481787313455101 m) (hs : Keeps m r s) :
    Keeps m r (trialCheck s) := by
  unfold trialCheck
  split
  · rename_i y2 y3 y4 y5 e6 e7
    exact Keeps.ite (Keeps.ite (confirmTrial_keeps (hm.mono rfl) hs) (setUpd_keeps (hm.mono rfl) hs)) (Keeps.ite
        (revertTrial_keeps hm hs) hs)
  · rename_i y8 y9 e10
    exact hs

theorem execTrialStartCheck_keeps {m : Nat} {r : State} {s : State} (hm : Sub 4722366481787313455101 m) (hs : Keeps m r s) :
    NextKeeps m r (execTrialStartCheck s) := by
  unfold execTrialStartCheck
  exact NextKeeps.next (trialCheck_keeps hm hs)

/-! ### Distribution -/

theorem setDist_keeps {m : Nat} {r : State} {b0 : Distribution} {s : State} (hm : Sub 67108864 m) (hs : Keeps m r s) :
    Keeps m r (setDist b0 s) := by
  unfold setDist
  exact setNodes_keeps hm hs

theorem distLane_keeps {m : Nat} {r : State} {b0 : ℕ} {b1 : ℕ} {b2 : ℕ} {b3 : List (ℕ × List Byte)} {s : State} (hm : Sub
    4521191813420036 m) (hs : Keeps m r s) :
    KeepsP m r (distLane b0 b1 b2 b3 s) := by
  induction b2 generalizing b0 b1 b3 s hs with
  | zero =>
    unfold distLane
    exact KeepsP.mk' hs
  | succ n ih =>
    unfold distLane
    split
    · rename_i y2 e3
      exact KeepsP.mk' hs
    · rename_i y4 y5 e6
      split
      · rename_i y8 y9 s10 e11
        have h12 : Keeps m r s10 := (KeepsP.of_eq e11 (queueFrame_keeps hm hs)).snd
        refine KeepsP.ite ?_ (KeepsP.mk' hs)
        refine @ih _ _ _ _ ?_
        exact h12

theorem distFeed_keeps {m : Nat} {r : State} {b0 : ℕ} {s : State} (hm : Sub 4661929369154588 m) (hs : Keeps m r s) :
    Keeps m r (distFeed b0 s) := by
  unfold distFeed
  split
  · rename_i y2 e3
    exact hs
  · rename_i y4 y5 e6
    extract_lets +onlyGivenNames x7
    split
    · rename_i y9 y10 s11 e12
      have h13 : Keeps m r s11 := (KeepsP.of_eq e12 (by
          refine KeepsP.foldl (KeepsP.mk' hs) (fun s15 a14 h16 => ?_)
          exact distLane_keeps (hm.mono rfl) h16.snd
        )).snd
      refine Keeps.ite ?_ (setDist_keeps (hm.mono rfl) h13)
      refine Keeps.foldl (setDist_keeps (hm.mono rfl) h13) (fun s18 a17 h19 => ?_)
      exact Keeps.ite (assignData_keeps (hm.mono rfl) h19) h19

theorem distBegin_keeps {m : Nat} {r : State} {b0 : Distribution} {s : State} (hm : Sub 4661929369154588 m) (hs : Keeps m r s) :
    Keeps m r (distBegin b0 s) := by
  unfold distBegin
  extract_lets +onlyGivenNames x1
  have h2 : Keeps m r x1 := by
    unfold x1
    refine Keeps.foldl hs (fun s4 a3 h5 => ?_)
    exact setLive_keeps (hm.mono rfl) h5
  clear_value x1
  extract_lets +onlyGivenNames x6 x7
  have h8 : Keeps m r x7 := setNodes_keeps (hm.mono rfl) h2
  clear_value x7
  extract_lets +onlyGivenNames x9
  have h10 : Keeps m r x9 := distFeed_keeps hm (setDist_keeps (hm.mono rfl) h8)
  clear_value x9
  split
  · rename_i y12 y13 e14
    exact setDist_keeps (hm.mono rfl) h10
  · rename_i y15 e16
    exact h10

theorem distResize_keeps {m : Nat} {r : State} {b0 : Distribution} {s : State} (hm : Sub 4661929369154588 m) (hs : Keeps m r
    s) :
    Keeps m r (distResize b0 s) := by
  unfold distResize
  extract_lets +onlyGivenNames x1 x2
  have h3 : Keeps m r x2 := setDist_keeps (hm.mono rfl) hs
  clear_value x2
  extract_lets +onlyGivenNames x4
  have h5 : Keeps m r x4 := distFeed_keeps hm (post_keeps (hm.mono rfl) h3)
  clear_value x4
  exact Keeps.ite (setDist_keeps (hm.mono rfl) h5) (distBegin_keeps hm h5)

theorem distMiss_keeps {m : Nat} {r : State} {b0 : List ℕ} {s : State} (hm : Sub 4503599694480388 m) (hs : Keeps m r s) :
    Keeps m r (distMiss b0 s) := by
  unfold distMiss
  split
  · rename_i y2 y3 e4
    extract_lets +onlyGivenNames x5
    refine Keeps.foldl (setDist_keeps (hm.mono rfl) hs) (fun s7 a6 h8 => ?_)
    exact post_keeps (hm.mono rfl) h8
  · rename_i y9 e10
    exact hs

theorem distBoundary_keeps {m : Nat} {r : State} {b0 : ℕ} {s : State} (hm : Sub 4661929369154588 m) (hs : Keeps m r s) :
    Keeps m r (distBoundary b0 s) := by
  unfold distBoundary
  split
  · rename_i y2 e3
    exact hs
  · rename_i y4 y5 e6
    refine Keeps.ite hs ?_
    refine Keeps.ite (distResize_keeps hm hs) ?_
    extract_lets +onlyGivenNames x7
    have h8 : Keeps m r x7 := distFeed_keeps hm hs
    clear_value x7
    refine Keeps.ite ?_ h8
    extract_lets +onlyGivenNames x9
    have h10 : Keeps m r x9 := distMiss_keeps (hm.mono rfl) h8
    clear_value x9
    split
    · rename_i y12 y13 e14
      exact setDist_keeps (hm.mono rfl) h10
    · rename_i y15 e16
      exact h10

theorem nodeDistribution_keeps {m : Nat} {r : State} {b0 : List Byte} {s : State} (hm : Sub 4661929369154588 m) (hs : Keeps m
    r s) :
    KeepsP m r (nodeDistribution b0 s) := by
  unfold nodeDistribution
  extract_lets +onlyGivenNames x1 x2 x3 x4 x5 x6 x7
  exact KeepsP.ite (KeepsP.mk' hs) (KeepsP.ite (KeepsP.mk' hs) (KeepsP.ite (KeepsP.mk' hs) (KeepsP.ite (KeepsP.mk' hs)
      (KeepsP.mk' (distBegin_keeps hm hs)))))

theorem distActivation_keeps {m : Nat} {r : State} {b0 : Distribution} {s : State} (hm : Sub 4503599694480388 m) (hs : Keeps
    m r s) :
    Keeps m r (distActivation b0 s) := by
  unfold distActivation
  extract_lets +onlyGivenNames x1 x2
  have h3 : Keeps m r x2 := setDist_keeps (hm.mono rfl) hs
  clear_value x2
  exact distMiss_keeps hm h3

theorem distPass_keeps {m : Nat} {r : State} {s : State} (hm : Sub 4503599694480388 m) (hs : Keeps m r s) :
    Keeps m r (distPass s) := by
  unfold distPass
  split
  · rename_i y2 e3
    exact hs
  · rename_i y4 y5 e6
    refine Keeps.ite hs ?_
    split
    · rename_i y8 e9
      extract_lets +onlyGivenNames x10
      exact setDist_keeps (hm.mono rfl) hs
    · rename_i y11 y12 e13
      refine Keeps.ite hs ?_
      refine Keeps.ite (distActivation_keeps hm hs) ?_
      extract_lets +onlyGivenNames x14
      exact setDist_keeps (hm.mono rfl) hs

theorem execDistributionPassEnd_keeps {m : Nat} {r : State} {s : State} (hm : Sub 4503599694480388 m) (hs : Keeps m r s) :
    NextKeeps m r (execDistributionPassEnd s) := by
  unfold execDistributionPassEnd
  exact NextKeeps.next (distPass_keeps hm hs)

theorem nextSequences_keeps {m : Nat} {r : State} {s : State} (hm : Sub 8589934592 m) (hs : Keeps m r s) :
    Keeps m r (nextSequences s) := by
  unfold nextSequences
  extract_lets +onlyGivenNames x1
  exact Keeps.set_nv (hm.mono rfl) hs

theorem replayCommand_keeps {m : Nat} {r : State} {b0 : JEntry} {s : State} (hm : Sub 4521200470471684 m) (hs : Keeps m r s) :
    Keeps m r (replayCommand b0 s) := by
  unfold replayCommand
  extract_lets +onlyGivenNames x1 x2
  split
  · rename_i y4 y5 e6
    refine Keeps.ite (journalRelease_keeps (hm.mono rfl) (post_keeps (hm.mono rfl) hs)) ?_
    refine Keeps.ite hs ?_
    extract_lets +onlyGivenNames x7 x8 x9 x10
    have h11 : Keeps m r x10 := setSettings_keeps (hm.mono rfl) (setLive_keeps (hm.mono rfl) hs)
    clear_value x10
    exact Keeps.ite h11 (sendCommand_keeps (hm.mono rfl) h11)
  · rename_i y12 e13
    exact journalRelease_keeps (hm.mono rfl) (post_keeps (hm.mono rfl) hs)

theorem replayGroup_keeps {m : Nat} {r : State} {b0 : JEntry} {s : State} (hm : Sub 4521200470471684 m) (hs : Keeps m r s) :
    Keeps m r (replayGroup b0 s) := by
  unfold replayGroup
  exact Keeps.ite hs (groupStep_keeps hm (setNodes_keeps (hm.mono rfl) hs))

theorem replayActivation_keeps {m : Nat} {r : State} {b0 : JEntry} {s : State} (hm : Sub 4722366481785165982748 m) (hs :
    Keeps m r s) :
    Keeps m r (replayActivation b0 s) := by
  unfold replayActivation
  extract_lets +onlyGivenNames x1 x2
  refine Keeps.ite (journalRelease_keeps (hm.mono rfl) hs) ?_
  refine Keeps.ite ?_ (Keeps.ite hs (Keeps.ite (activationMissed_keeps hm hs) (journalRelease_keeps (hm.mono rfl) hs)))
  refine fwField_keeps (hm.mono rfl) (fun a3 a4 a5 a6 a7 a8 => ?_) (cmpTime_keeps (hm.mono rfl) hs)
  exact updWritten_keeps (hm.mono rfl) a8

theorem journalReplay_keeps {m : Nat} {r : State} {s : State} (hm : Sub 4722366481785233095708 m) (hs : Keeps m r s) :
    Keeps m r (journalReplay s) := by
  unfold journalReplay
  refine Keeps.ite hs ?_
  extract_lets +onlyGivenNames x1 x2 x3
  have h4 : Keeps m r x3 := post_keeps (hm.mono rfl) (setNodes_keeps (hm.mono rfl) hs)
  clear_value x3
  refine Keeps.foldl h4 (fun s6 a5 h7 => ?_)
  split
  · rename_i y9 e10
    exact replayCommand_keeps (hm.mono rfl) h7
  · rename_i y11 e12
    exact replayGroup_keeps (hm.mono rfl) h7
  · rename_i y13 e14
    exact replayActivation_keeps (hm.mono rfl) h7
  · rename_i y15 e16 e17 e18
    exact h7

theorem execJournalReplay_keeps {m : Nat} {r : State} {s : State} (hm : Sub 4722366481785233095708 m) (hs : Keeps m r s) :
    NextKeeps m r (execJournalReplay s) := by
  unfold execJournalReplay
  exact NextKeeps.next (journalReplay_keeps hm hs)

/-! ### Twins -/

theorem streamReset_keeps {m : Nat} {r : State} {s : State} (hm : Sub 8192 m) (hs : Keeps m r s) :
    Keeps m r (streamReset s) := by
  unfold streamReset
  extract_lets +onlyGivenNames x1 x2
  exact setTkn_keeps hm hs

theorem tteReopen_keeps {m : Nat} {r : State} {b0 : Bool} {s : State} (hm : Sub 4644337116005388 m) (hs : Keeps m r s) :
    Keeps m r (tteReopen b0 s) := by
  unfold tteReopen
  extract_lets +onlyGivenNames x1
  have h2 : Keeps m r x1 := tteHalt_keeps hm (lower_keeps (hm.mono rfl) hs)
  clear_value x1
  extract_lets +onlyGivenNames x3
  have h4 : Keeps m r x3 := setBool_keeps (hm.mono rfl) h2
  clear_value x3
  refine fwWrite_keeps (hm.mono rfl) (fun a5 a6 a7 a8 a9 a10 => ?_) h4
  exact tteWritten_keeps (hm.mono rfl) a10

theorem becomeStandby_keeps {m : Nat} {r : State} {s : State} (hm : Sub 4722366481770169203724 m) (hs : Keeps m r s) :
    Keeps m r (becomeStandby s) := by
  unfold becomeStandby
  extract_lets +onlyGivenNames x1
  have h2 : Keeps m r x1 := setFld_keeps (hm.mono rfl) (lower_keeps (hm.mono rfl) (lower_keeps (hm.mono rfl) (setFld_keeps
      (hm.mono rfl) hs)))
  clear_value x1
  extract_lets +onlyGivenNames x3
  have h4 : Keeps m r x3 := by
    unfold x3
    refine fwField_keeps (hm.mono rfl) (fun a5 a6 a7 a8 a9 a10 => ?_) ?_
    · exact tknWritten_keeps (hm.mono rfl) a10
    · refine fwField_keeps (hm.mono rfl) (fun a11 a12 a13 a14 a15 a16 => ?_) h2
      exact tknWritten_keeps (hm.mono rfl) a16
  clear_value x3
  extract_lets +onlyGivenNames x17
  have h18 : Keeps m r x17 := by
    unfold x17
    refine fwField_keeps (hm.mono rfl) (fun a19 a20 a21 a22 a23 a24 => ?_) (cmpOff_keeps (hm.mono rfl) h4)
    exact lfeWritten_keeps (hm.mono rfl) a24
  clear_value x17
  extract_lets +onlyGivenNames x25
  have h26 : Keeps m r x25 := by
    unfold x25
    refine fwField_keeps (hm.mono rfl) (fun a27 a28 a29 a30 a31 a32 => ?_) ?_
    · exact rfeWritten_keeps (hm.mono rfl) a32
    · refine fwField_keeps (hm.mono rfl) (fun a33 a34 a35 a36 a37 a38 => ?_) h18
      exact rfeWritten_keeps (hm.mono rfl) a38
  clear_value x25
  extract_lets +onlyGivenNames x39
  have h40 : Keeps m r x39 := streamReset_keeps (hm.mono rfl) (tteReopen_keeps (hm.mono rfl) h26)
  clear_value x39
  exact setTkn_keeps (hm.mono rfl) h40

theorem handoverBoundary_keeps {m : Nat} {r : State} {b0 : ℕ} {s : State} (hm : Sub 4722366481776611654668 m) (hs : Keeps m r
    s) :
    Keeps m r (handoverBoundary b0 s) := by
  unfold handoverBoundary
  extract_lets +onlyGivenNames x1 x2 x3
  have h4 : Keeps m r x3 := setTkn_keeps (hm.mono rfl) hs
  clear_value x3
  extract_lets +onlyGivenNames x5
  have h6 : Keeps m r x5 := Keeps.ite (raise_keeps (hm.mono rfl) h4) h4
  clear_value x5
  split
  · rename_i y8 y9 e10
    refine Keeps.ite h6 ?_
    extract_lets +onlyGivenNames x11 x12
    have h13 : Keeps m r x12 := post_keeps (hm.mono rfl) (setTkn_keeps (hm.mono rfl) h6)
    clear_value x12
    refine Keeps.ite (setTkn_keeps (hm.mono rfl) h13) ?_
    extract_lets +onlyGivenNames x14 x15
    have h16 : Keeps m r x15 := Keeps.ite (restartSoon_keeps (hm.mono rfl) (setUpd_keeps (hm.mono rfl) h13)) h13
    clear_value x15
    exact becomeStandby_keeps (hm.mono rfl) h16
  · rename_i y17 e18
    exact h6

theorem handoverSet_keeps {m : Nat} {r : State} {b0 : ℕ} {s : State} (hm : Sub 9007199254749188 m) (hs : Keeps m r s) :
    Keeps m r (handoverSet b0 s) := by
  unfold handoverSet
  exact setTkn_keeps (hm.mono rfl) (setFld_keeps (hm.mono rfl) (raise_keeps (hm.mono rfl) hs))

theorem pairUpdate_keeps {m : Nat} {r : State} {s : State} (hm : Sub 9007203549716484 m) (hs : Keeps m r s) :
    Keeps m r (pairUpdate s) := by
  unfold pairUpdate
  extract_lets +onlyGivenNames x1
  refine Keeps.ite hs ?_
  refine Keeps.ite (setUpd_keeps (hm.mono rfl) hs) ?_
  refine Keeps.ite ?_ (Keeps.ite (setUpd_keeps (hm.mono rfl) hs) (Keeps.ite (setUpd_keeps (hm.mono rfl) (handoverSet_keeps
      (hm.mono rfl) hs)) hs))
  extract_lets +onlyGivenNames x2
  exact setUpd_keeps (hm.mono rfl) (handoverSet_keeps (hm.mono rfl) hs)

theorem raiseToken_keeps {m : Nat} {r : State} {s : State} (hm : Sub 4722366481778724578332 m) (hs : Keeps m r s) :
    Keeps m r (raiseToken s) := by
  unfold raiseToken
  extract_lets +onlyGivenNames x1 x2
  have h3 : Keeps m r x2 := by
    unfold x2
    refine Keeps.upTo hs (fun i4 s5 h6 => ?_)
    exact setFld_keeps (regMask.any (hm.mono rfl)) (Keeps.set_nv (hm.mono rfl) h6)
  clear_value x2
  refine fwField_keeps (hm.mono rfl) (fun a7 a8 a9 a10 a11 a12 => ?_) (setBytes_keeps (hm.mono rfl) h3)
  exact tknWritten_keeps (hm.mono rfl) a12

theorem splitResolved_keeps {m : Nat} {r : State} {s : State} (hm : Sub 4722366481778724578332 m) (hs : Keeps m r s) :
    Keeps m r (splitResolved s) := by
  unfold splitResolved
  exact Keeps.ite (raiseToken_keeps hm (setTkn_keeps (hm.mono rfl) hs)) hs

theorem handoverStart_keeps {m : Nat} {r : State} {s : State} (hm : Sub 9007199254749188 m) (hs : Keeps m r s) :
    KeepsP m r (handoverStart s) := by
  unfold handoverStart
  exact KeepsP.ite (KeepsP.mk' hs) (KeepsP.mk' (handoverSet_keeps hm hs))

theorem yieldNow_keeps {m : Nat} {r : State} {s : State} (hm : Sub 4722366481770134643724 m) (hs : Keeps m r s) :
    Keeps m r (yieldNow s) := by
  unfold yieldNow
  extract_lets +onlyGivenNames x1
  have h2 : Keeps m r x1 := by
    unfold x1
    refine fwField_keeps (hm.mono rfl) (fun a3 a4 a5 a6 a7 a8 => ?_) (ilkRelease_keeps hm hs)
    exact tknWritten_keeps hm a8
  clear_value x1
  exact setTkn_keeps (hm.mono rfl) (setFld_keeps (hm.mono rfl) h2)

theorem beaconCompare_keeps {m : Nat} {r : State} {b0 : ℕ} {b1 : ℕ} {s : State} (hm : Sub 4722366481770134643724 m) (hs :
    Keeps m r s) :
    Keeps m r (beaconCompare b0 b1 s) := by
  unfold beaconCompare
  extract_lets +onlyGivenNames x1
  refine Keeps.ite hs ?_
  extract_lets +onlyGivenNames x2 x3
  have h4 : Keeps m r x3 := setTkn_keeps (hm.mono rfl) hs
  clear_value x3
  refine Keeps.ite ?_ ?_
  · exact Keeps.ite (post_keeps (hm.mono rfl) (setTkn_keeps (hm.mono rfl) h4)) h4
  · exact Keeps.ite (Keeps.ite (yieldNow_keeps hm h4) (Keeps.ite h4 (post_keeps (hm.mono rfl) (setTkn_keeps (hm.mono rfl)
        h4)))) h4

theorem becomeActive_keeps {m : Nat} {r : State} {s : State} (hm : Sub 4722366481778724578332 m) (hs : Keeps m r s) :
    Keeps m r (becomeActive s) := by
  unfold becomeActive
  extract_lets +onlyGivenNames x1
  have h2 : Keeps m r x1 := by
    unfold x1
    refine setFld_keeps (hm.mono rfl) ?_
    refine fwField_keeps (hm.mono rfl) (fun a3 a4 a5 a6 a7 a8 => ?_) (raiseToken_keeps hm hs)
    exact tknWritten_keeps (hm.mono rfl) a8
  clear_value x1
  extract_lets +onlyGivenNames x9
  have h10 : Keeps m r x9 := streamReset_keeps (hm.mono rfl) h2
  clear_value x9
  exact setTkn_keeps (hm.mono rfl) h10

theorem streamWired_keeps {m : Nat} {r : State} {s : State} (hm : Sub 8192 m) (hs : Keeps m r s) :
    Keeps m r (streamWired s) := by
  unfold streamWired
  refine Keeps.foldl hs (fun s2 a1 h3 => ?_)
  exact streamPut_keeps hm h3

theorem streamZone_keeps {m : Nat} {r : State} {b0 : ℕ} {b1 : ℕ} {s : State} (hm : Sub 8192 m) (hs : Keeps m r s) :
    Keeps m r (streamZone b0 b1 s) := by
  unfold streamZone
  exact streamPut_keeps hm hs

theorem cycleEnded_keeps {m : Nat} {r : State} {s : State} (hm : Sub 7969260313326604 m) (hs : Keeps m r s) :
    Keeps m r (cycleEnded s) := by
  unfold cycleEnded
  split
  · rename_i y2 e3
    exact hs
  · rename_i y4 y5 e6
    extract_lets +onlyGivenNames x7
    have h8 : Keeps m r x7 := cycleComplete_keeps (hm.mono rfl) hs
    clear_value x7
    refine Keeps.ite h8 ?_
    extract_lets +onlyGivenNames x9
    have h10 : Keeps m r x9 := by
      unfold x9
      refine Keeps.ite ?_ h8
      refine fwField_keeps (hm.mono rfl) (fun a11 a12 a13 a14 a15 a16 => ?_) h8
      exact lfeWritten_keeps hm a16
    clear_value x9
    refine streamWired_keeps (hm.mono rfl) ?_
    refine Keeps.foldl h10 (fun s18 a17 h19 => ?_)
    exact streamZone_keeps (hm.mono rfl) h19

theorem engineTakeover_keeps {m : Nat} {r : State} {s : State} (hm : Sub 4722366481770168794124 m) (hs : Keeps m r s) :
    Keeps m r (engineTakeover s) := by
  unfold engineTakeover
  extract_lets +onlyGivenNames x1
  have h2 : Keeps m r x1 := by
    unfold x1
    refine Keeps.foldl hs (fun s4 a3 h5 => ?_)
    exact setEng_keeps (hm.mono rfl) h5
  clear_value x1
  extract_lets +onlyGivenNames x6
  have h7 : Keeps m r x6 := cmpPath_keeps (hm.mono rfl) h2
  clear_value x6
  refine fwField_keeps (hm.mono rfl) (fun a8 a9 a10 a11 a12 a13 => ?_) ?_
  · exact lfeWritten_keeps (hm.mono rfl) a13
  · refine fwField_keeps (hm.mono rfl) (fun a14 a15 a16 a17 a18 a19 => ?_) h7
    exact lfeWritten_keeps (hm.mono rfl) a19

theorem radioActive_keeps {m : Nat} {r : State} {s : State} (hm : Sub 211106232664076 m) (hs : Keeps m r s) :
    Keeps m r (radioActive s) := by
  unfold radioActive
  refine fwField_keeps (hm.mono rfl) (fun a1 a2 a3 a4 a5 a6 => ?_) ?_
  · exact rfeWritten_keeps hm a6
  · refine fwField_keeps (hm.mono rfl) (fun a7 a8 a9 a10 a11 a12 => ?_) hs
    exact rfeWritten_keeps hm a12

theorem startActive_keeps {m : Nat} {r : State} {s : State} (hm : Sub 4722366481778724973596 m) (hs : Keeps m r s) :
    Keeps m r (startActive s) := by
  unfold startActive
  refine Keeps.ite hs ?_
  extract_lets +onlyGivenNames x1
  have h2 : Keeps m r x1 := radioActive_keeps (hm.mono rfl) (becomeActive_keeps (hm.mono rfl) hs)
  clear_value x1
  extract_lets +onlyGivenNames x3
  have h4 : Keeps m r x3 := setBool_keeps (hm.mono rfl) h2
  clear_value x3
  extract_lets +onlyGivenNames x5
  have h6 : Keeps m r x5 := by
    unfold x5
    refine fwField_keeps (hm.mono rfl) (fun a7 a8 a9 a10 a11 a12 => ?_) h4
    exact tteWritten_keeps (hm.mono rfl) a12
  clear_value x5
  refine Keeps.ite ?_ h6
  extract_lets +onlyGivenNames x13 x14 x15
  exact cmpTime_keeps (hm.mono rfl) h6

theorem execBecomeActive_keeps {m : Nat} {r : State} {s : State} (hm : Sub 4722366481778724973596 m) (hs : Keeps m r s) :
    NextKeeps m r (execBecomeActive s) := by
  unfold execBecomeActive
  exact NextKeeps.next (startActive_keeps hm hs)

theorem handoverDrop_keeps {m : Nat} {r : State} {s : State} (hm : Sub 4722366481787313455101 m) (hs : Keeps m r s) :
    Keeps m r (handoverDrop s) := by
  unfold handoverDrop
  extract_lets +onlyGivenNames x1
  have h2 : Keeps m r x1 := setFld_keeps (hm.mono rfl) (lower_keeps (hm.mono rfl) hs)
  clear_value x1
  extract_lets +onlyGivenNames x3
  have h4 : Keeps m r x3 := by
    unfold x3
    refine Keeps.ite h2 ?_
    refine fwField_keeps (hm.mono rfl) (fun a5 a6 a7 a8 a9 a10 => ?_) h2
    exact lfeWritten_keeps (hm.mono rfl) a10
  clear_value x3
  extract_lets +onlyGivenNames x11 x12
  have h13 : Keeps m r x12 := post_keeps (hm.mono rfl) (setTkn_keeps (hm.mono rfl) h4)
  clear_value x12
  refine Keeps.ite h13 ?_
  refine Keeps.ite (activationMissed_keeps (hm.mono rfl) h13) ?_
  extract_lets +onlyGivenNames x14
  have h15 : Keeps m r x14 := revertTrial_keeps hm h13
  clear_value x14
  exact postFnd_keeps (hm.mono rfl) (setUpd_keeps (hm.mono rfl) (setAct_keeps (hm.mono rfl) h15))

theorem handoverAbandon_keeps {m : Nat} {r : State} {s : State} (hm : Sub 4722366481787313455101 m) (hs : Keeps m r s) :
    Keeps m r (handoverAbandon s) := by
  unfold handoverAbandon
  extract_lets +onlyGivenNames x1
  exact Keeps.ite hs (Keeps.ite (handoverDrop_keeps hm hs) hs)

theorem execHandoverAbandon_keeps {m : Nat} {r : State} {s : State} (hm : Sub 4722366481787313455101 m) (hs : Keeps m r s) :
    NextKeeps m r (execHandoverAbandon s) := by
  unfold execHandoverAbandon
  exact NextKeeps.next (handoverAbandon_keeps hm hs)

theorem handoverPrepare_keeps {m : Nat} {r : State} {s : State} (hm : Sub 4722366481778759138332 m) (hs : Keeps m r s) :
    Keeps m r (handoverPrepare s) := by
  unfold handoverPrepare
  refine Keeps.ite hs ?_
  extract_lets +onlyGivenNames x1
  have h2 : ∀ a3 s4, Keeps m r s4 → Keeps m r (x1 a3 s4) := by
    intro a3 s4 h5
    unfold x1
    extract_lets +onlyGivenNames x6
    exact setQueue_keeps (hm.mono rfl) h5
  clear_value x1
  extract_lets +onlyGivenNames x7
  have h8 : Keeps m r x7 := @h2 _ _ (@h2 _ _ hs)
  clear_value x7
  extract_lets +onlyGivenNames x9
  have h10 : Keeps m r x9 := by
    unfold x9
    refine Keeps.foldl h8 (fun s12 a11 h13 => ?_)
    exact commitEvent_keeps (hm.mono rfl) h13
  clear_value x9
  extract_lets +onlyGivenNames x14 x15
  have h16 : Keeps m r x15 := engineTakeover_keeps (hm.mono rfl) (setTkn_keeps (hm.mono rfl) h10)
  clear_value x15
  extract_lets +onlyGivenNames x17
  have h18 : Keeps m r x17 := radioActive_keeps (hm.mono rfl) (tteReopen_keeps (hm.mono rfl) h16)
  clear_value x17
  refine fwField_keeps (hm.mono rfl) (fun a19 a20 a21 a22 a23 a24 => ?_) (raiseToken_keeps (hm.mono rfl) h18)
  exact tknWritten_keeps (hm.mono rfl) a24

theorem execHandoverPrepare_keeps {m : Nat} {r : State} {s : State} (hm : Sub 4722366481778759138332 m) (hs : Keeps m r s) :
    NextKeeps m r (execHandoverPrepare s) := by
  unfold execHandoverPrepare
  exact NextKeeps.next (handoverPrepare_keeps hm hs)

theorem handoverSwitch_keeps {m : Nat} {r : State} {s : State} (hm : Sub 4722366481770134643724 m) (hs : Keeps m r s) :
    Keeps m r (handoverSwitch s) := by
  unfold handoverSwitch
  refine Keeps.ite hs ?_
  extract_lets +onlyGivenNames x1
  have h2 : Keeps m r x1 := raise_keeps (hm.mono rfl) hs
  clear_value x1
  refine Keeps.ite (ilkRelease_keeps hm (setTkn_keeps (hm.mono rfl) h2)) ?_
  refine Keeps.ite ?_ h2
  extract_lets +onlyGivenNames x3 x4
  have h5 : Keeps m r x4 := autoClaim_keeps hm (setTkn_keeps (hm.mono rfl) h2)
  clear_value x4
  refine Keeps.ite h5 ?_
  extract_lets +onlyGivenNames x6
  have h7 : Keeps m r x6 := setFld_keeps (hm.mono rfl) (lower_keeps (hm.mono rfl) (lower_keeps (hm.mono rfl) (setFld_keeps
      (hm.mono rfl) h5)))
  clear_value x6
  extract_lets +onlyGivenNames x8
  have h9 : Keeps m r x8 := streamReset_keeps (hm.mono rfl) h7
  clear_value x8
  exact setTkn_keeps (hm.mono rfl) h9

theorem execHandoverSwitch_keeps {m : Nat} {r : State} {s : State} (hm : Sub 4722366481770134643724 m) (hs : Keeps m r s) :
    NextKeeps m r (execHandoverSwitch s) := by
  unfold execHandoverSwitch
  exact NextKeeps.next (handoverSwitch_keeps hm hs)

theorem lostStandby_keeps {m : Nat} {r : State} {s : State} (hm : Sub 4722366481770169203724 m) (hs : Keeps m r s) :
    Keeps m r (lostStandby s) := by
  unfold lostStandby
  exact Keeps.ite (becomeStandby_keeps hm hs) hs

theorem execIlkInChange_keeps {m : Nat} {r : State} {b0 : Bool} {s : State} (hm : Sub 4722366481770169203724 m) (hs : Keeps m
    r s) :
    NextKeeps m r (execIlkInChange b0 s) := by
  unfold execIlkInChange
  exact NextKeeps.next (lostStandby_keeps hm (ilkInput_keeps (hm.mono rfl) hs))

theorem execInterlockConflict_keeps {m : Nat} {r : State} {s : State} (hm : Sub 4722366481770169203724 m) (hs : Keeps m r s) :
    NextKeeps m r (execInterlockConflict s) := by
  unfold execInterlockConflict
  exact NextKeeps.next (lostStandby_keeps hm (ilkConflict_keeps (hm.mono rfl) hs))

theorem startClaim_keeps {m : Nat} {r : State} {s : State} (hm : Sub 4722366481770169203724 m) (hs : Keeps m r s) :
    Keeps m r (startClaim s) := by
  unfold startClaim
  extract_lets +onlyGivenNames x1 x2
  have h3 : Keeps m r x2 := ilkClaim_keeps (hm.mono rfl) (setTkn_keeps (hm.mono rfl) hs)
  clear_value x2
  exact Keeps.ite h3 (becomeStandby_keeps hm h3)

theorem startRule_keeps {m : Nat} {r : State} {s : State} (hm : Sub 4722366481770169203724 m) (hs : Keeps m r s) :
    Keeps m r (startRule s) := by
  unfold startRule
  refine Keeps.ite ?_ ?_
  · exact startClaim_keeps hm hs
  · exact Keeps.ite (Keeps.ite hs (becomeStandby_keeps hm hs)) (Keeps.ite (startClaim_keeps hm hs) (Keeps.ite hs
        (setTkn_keeps (hm.mono rfl) hs)))

theorem listenEnd_keeps {m : Nat} {r : State} {s : State} (hm : Sub 4722366481770169203724 m) (hs : Keeps m r s) :
    Keeps m r (listenEnd s) := by
  unfold listenEnd
  exact Keeps.ite hs (Keeps.ite (startRule_keeps hm hs) hs)

theorem execStartListenEnd_keeps {m : Nat} {r : State} {s : State} (hm : Sub 4722366481770169203724 m) (hs : Keeps m r s) :
    NextKeeps m r (execStartListenEnd s) := by
  unfold execStartListenEnd
  exact NextKeeps.next (listenEnd_keeps hm hs)

theorem waitEnd_keeps {m : Nat} {r : State} {s : State} (hm : Sub 4722366481770169203724 m) (hs : Keeps m r s) :
    Keeps m r (waitEnd s) := by
  unfold waitEnd
  exact Keeps.ite hs (Keeps.ite (Keeps.ite (setTkn_keeps (hm.mono rfl) hs) (becomeStandby_keeps hm hs)) (startClaim_keeps hm
      hs))

theorem execStartWaitEnd_keeps {m : Nat} {r : State} {s : State} (hm : Sub 4722366481770169203724 m) (hs : Keeps m r s) :
    NextKeeps m r (execStartWaitEnd s) := by
  unfold execStartWaitEnd
  exact NextKeeps.next (waitEnd_keeps hm hs)

theorem streamResend_keeps {m : Nat} {r : State} {s : State} (hm : Sub 8192 m) (hs : Keeps m r s) :
    Keeps m r (streamResend s) := by
  unfold streamResend
  exact Keeps.ite (setTkn_keeps hm hs) hs

theorem execStreamResend_keeps {m : Nat} {r : State} {s : State} (hm : Sub 8192 m) (hs : Keeps m r s) :
    NextKeeps m r (execStreamResend s) := by
  unfold execStreamResend
  exact NextKeeps.next (streamResend_keeps hm hs)

theorem snapshotRecords_keeps {m : Nat} {r : State} {s : State} (hm : Sub 8208 m) (hs : Keeps m r s) :
    Keeps m r (snapshotRecords s) := by
  unfold snapshotRecords
  extract_lets +onlyGivenNames x1
  have h2 : Keeps m r x1 := by
    unfold x1
    refine Keeps.foldl hs (fun s4 a3 h5 => ?_)
    exact streamCounter_keeps (hm.mono rfl) (streamNode_keeps (hm.mono rfl) h5)
  clear_value x1
  extract_lets +onlyGivenNames x6
  have h7 : ∀ a8 a9 s10, Keeps m r s10 → Keeps m r (x6 a8 a9 s10) := by
    intro a8 a9 s10 h11
    unfold x6
    refine Keeps.foldl h11 (fun s13 a12 h14 => ?_)
    exact streamPut_keeps (hm.mono rfl) h14
  clear_value x6
  extract_lets +onlyGivenNames x15 x16
  have h17 : Keeps m r x16 := @h7 _ _ _ h2
  clear_value x16
  extract_lets +onlyGivenNames x18
  have h19 : Keeps m r x18 := by
    unfold x18
    refine Keeps.foldl h17 (fun s21 a20 h22 => ?_)
    extract_lets +onlyGivenNames x23
    refine Keeps.ite ?_ h22
    extract_lets +onlyGivenNames x24
    have h25 : Keeps m r x24 := tableWrite_keeps hm h22
    clear_value x24
    extract_lets +onlyGivenNames x26
    have h27 : Keeps m r x26 := tableWrite_keeps hm h25
    clear_value x26
    refine streamZone_keeps (hm.mono rfl) ?_
    split
    · rename_i y29 y30 e31
      exact tableWrite_keeps hm h27
    · rename_i y32 e33
      exact h27
  clear_value x18
  extract_lets +onlyGivenNames x34 x35
  have h36 : Keeps m r x35 := tableWrite_keeps hm h19
  clear_value x35
  extract_lets +onlyGivenNames x37
  have h38 : Keeps m r x37 := by
    unfold x37
    refine Keeps.foldl h36 (fun s40 a39 h41 => ?_)
    exact Keeps.ite h41 (streamPut_keeps (hm.mono rfl) h41)
  clear_value x37
  extract_lets +onlyGivenNames x42
  have h43 : Keeps m r x42 := by
    unfold x42
    refine Keeps.foldl h38 (fun s45 a44 h46 => ?_)
    exact streamPut_keeps (hm.mono rfl) h46
  clear_value x42
  extract_lets +onlyGivenNames x47
  have h48 : Keeps m r x47 := by
    unfold x47
    refine Keeps.foldl h43 (fun s50 a49 h51 => ?_)
    exact Keeps.ite (streamPut_keeps (hm.mono rfl) h51) (streamPut_keeps (hm.mono rfl) h51)
  clear_value x47
  extract_lets +onlyGivenNames x52
  have h53 : Keeps m r x52 := streamWired_keeps (hm.mono rfl) (outputMirror_keeps (hm.mono rfl) h48)
  clear_value x52
  extract_lets +onlyGivenNames x54
  exact streamPut_keeps (hm.mono rfl) h53

theorem snapshotSend_keeps {m : Nat} {r : State} {s : State} (hm : Sub 8208 m) (hs : Keeps m r s) :
    Keeps m r (snapshotSend s) := by
  unfold snapshotSend
  extract_lets +onlyGivenNames x1 x2 x3
  have h4 : Keeps m r x3 := setTkn_keeps (hm.mono rfl) hs
  clear_value x3
  extract_lets +onlyGivenNames x5
  have h6 : Keeps m r x5 := streamPut_keeps (hm.mono rfl) h4
  clear_value x5
  extract_lets +onlyGivenNames x7 x8
  have h9 : Keeps m r x8 := snapshotRecords_keeps hm h6
  clear_value x8
  exact streamPut_keeps (hm.mono rfl) h9

theorem streamSnapshot_keeps {m : Nat} {r : State} {s : State} (hm : Sub 8208 m) (hs : Keeps m r s) :
    Keeps m r (streamSnapshot s) := by
  unfold streamSnapshot
  exact Keeps.ite (snapshotSend_keeps hm hs) hs

theorem execStreamSnapshot_keeps {m : Nat} {r : State} {s : State} (hm : Sub 8208 m) (hs : Keeps m r s) :
    NextKeeps m r (execStreamSnapshot s) := by
  unfold execStreamSnapshot
  exact NextKeeps.next (streamSnapshot_keeps hm hs)

theorem takeover_keeps {m : Nat} {r : State} {s : State} (hm : Sub 4722366481778826247196 m) (hs : Keeps m r s) :
    Keeps m r (takeover s) := by
  unfold takeover
  refine Keeps.ite hs ?_
  extract_lets +onlyGivenNames x1
  have h2 : Keeps m r x1 := Keeps.ite (ilkClaim_keeps (hm.mono rfl) hs) hs
  clear_value x1
  refine Keeps.ite h2 ?_
  extract_lets +onlyGivenNames x3
  have h4 : Keeps m r x3 := Keeps.ite h2 (post_keeps (hm.mono rfl) h2)
  clear_value x3
  extract_lets +onlyGivenNames x5
  have h6 : Keeps m r x5 := becomeActive_keeps (hm.mono rfl) (setFld_keeps (hm.mono rfl) (lower_keeps (hm.mono rfl)
      (lower_keeps (hm.mono rfl) h4)))
  clear_value x5
  extract_lets +onlyGivenNames x7
  have h8 : Keeps m r x7 := engineTakeover_keeps (hm.mono rfl) (radioActive_keeps (hm.mono rfl) (tteReopen_keeps (hm.mono
      rfl) h6))
  clear_value x7
  extract_lets +onlyGivenNames x9
  have h10 : Keeps m r x9 := nextSequences_keeps (hm.mono rfl) h8
  clear_value x9
  exact setNodes_keeps (hm.mono rfl) h10

theorem execTakeover_keeps {m : Nat} {r : State} {s : State} (hm : Sub 4722366481778826247196 m) (hs : Keeps m r s) :
    NextKeeps m r (execTakeover s) := by
  unfold execTakeover
  exact NextKeeps.next (takeover_keeps hm hs)

theorem yieldTo_keeps {m : Nat} {r : State} {s : State} (hm : Sub 4722366481770134643724 m) (hs : Keeps m r s) :
    Keeps m r (yieldTo s) := by
  unfold yieldTo
  split
  · rename_i y2 y3 e4
    exact Keeps.ite (yieldNow_keeps hm hs) hs
  · rename_i y5 e6
    exact hs

theorem execYield_keeps {m : Nat} {r : State} {s : State} (hm : Sub 4722366481770134643724 m) (hs : Keeps m r s) :
    NextKeeps m r (execYield s) := by
  unfold execYield
  exact NextKeeps.next (yieldTo_keeps hm hs)

theorem yieldEnd_keeps {m : Nat} {r : State} {s : State} (hm : Sub 4722366481770169203724 m) (hs : Keeps m r s) :
    Keeps m r (yieldEnd s) := by
  unfold yieldEnd
  exact Keeps.ite (becomeStandby_keeps hm hs) hs

theorem execYieldEnd_keeps {m : Nat} {r : State} {s : State} (hm : Sub 4722366481770169203724 m) (hs : Keeps m r s) :
    NextKeeps m r (execYieldEnd s) := by
  unfold execYieldEnd
  exact NextKeeps.next (yieldEnd_keeps hm hs)

end Sys2Proof.Machine
end

