-- ==== Sys2Proof/Laws/KeepsRequests.lean ====
section
/-!
SUPPORT. What each operation keeps (`Keeps`), one lemma per operation.
The operations of: Commands, Requests, Link, PathClock, Start, Tick.
-/

namespace Sys2Proof.Machine

/-! ### Commands -/

theorem odRefused_keeps {m : Nat} {r : State} {b0 : Session} {b1 : ℕ} {b2 : ℕ} {b3 : ℕ} {b4 : ℕ} {b5 : ℕ} {b6 : List Byte} {s
    : State} (hm : Sub 4503599627371524 m) (hs : Keeps m r s) :
    KeepsP m r (odRefused b0 b1 b2 b3 b4 b5 b6 s) := by
  unfold odRefused
  exact KeepsP.mk' (odRecord_keeps hm hs)

theorem uidArg_keeps {m : Nat} {r : State} {b0 : List Byte} {b1 : State → ℕ × State} {s : State} (_hm : Sub 0 m) (hb1 : ∀ c0,
    Keeps m r c0 → KeepsP m r (b1 c0)) (hs : Keeps m r s) :
    KeepsP m r (uidArg b0 b1 s) := by
  unfold uidArg
  exact KeepsP.ite (@hb1 _ hs) (KeepsP.mk' hs)

theorem restoreFactory_keeps {m : Nat} {r : State} {s : State} (hm : Sub 2147483712 m) (hs : Keeps m r s) :
    KeepsP m r (restoreFactory s) := by
  unfold restoreFactory
  exact KeepsP.ite (KeepsP.mk' hs) (KeepsP.mk' (restartSoon_keeps (hm.mono rfl) (restoreValues_keeps (hm.mono rfl) hs)))

theorem forcedSet_keeps {m : Nat} {r : State} {s : State} (hm : Sub 4722366481770133589004 m) (hs : Keeps m r s) :
    KeepsP m r (forcedSet s) := by
  unfold forcedSet
  refine KeepsP.mk' ?_
  refine fwWrite_keeps (hm.mono rfl) (fun a1 a2 a3 a4 a5 a6 => ?_) hs
  exact ntbWritten_keeps (hm.mono rfl) a6

theorem nodeCommand_keeps {m : Nat} {r : State} {b0 : ℕ} {b1 : ℕ} {b2 : List Byte} {s : State} (hm : Sub 4521200470471684 m)
    (hs : Keeps m r s) :
    KeepsP m r (nodeCommand b0 b1 b2 s) := by
  unfold nodeCommand
  split
  · rename_i y2 e3
    exact KeepsP.mk' hs
  · rename_i y4 y5 e6
    extract_lets +onlyGivenNames x7
    exact KeepsP.ite (KeepsP.mk' hs) (KeepsP.ite (KeepsP.mk' hs) (KeepsP.mk' (sendParams_keeps hm hs)))

theorem clearRegisters_keeps {m : Nat} {r : State} {s : State} (hm : Sub 5066549582889988 m) (hs : Keeps m r s) :
    KeepsP m r (clearRegisters s) := by
  unfold clearRegisters
  exact KeepsP.ite (KeepsP.mk' hs) (KeepsP.mk' (meterClear_keeps hm hs))

theorem newEpoch_keeps {m : Nat} {r : State} {s : State} (hm : Sub 4722366481783085650973 m) (hs : Keeps m r s) :
    KeepsP m r (newEpoch s) := by
  unfold newEpoch
  refine KeepsP.ite (KeepsP.mk' hs) ?_
  extract_lets +onlyGivenNames x1
  have h2 : Keeps m r x1 := epochBegin_keeps hm hs
  clear_value x1
  exact KeepsP.ite (KeepsP.mk' hs) (KeepsP.mk' h2)

theorem keyUpdateCommand_keeps {m : Nat} {r : State} {b0 : List Byte} {s : State} (hm : Sub 4793879287096324 m) (hs : Keeps m
    r s) :
    KeepsP m r (keyUpdateCommand b0 s) := by
  unfold keyUpdateCommand
  extract_lets +onlyGivenNames x1 x2
  refine KeepsP.ite (KeepsP.mk' (streamPut_keeps (hm.mono rfl) hs)) ?_
  split
  · rename_i y4 y5 s6 e7
    have h8 : Keeps m r s6 := (KeepsP.of_eq e7 (keyUpdate_keeps (hm.mono rfl) hs)).snd
    exact KeepsP.mk' h8

theorem testStart_keeps {m : Nat} {r : State} {b0 : List Byte} {s : State} (hm : Sub 70368777863180 m) (hs : Keeps m r s) :
    KeepsP m r (testStart b0 s) := by
  unfold testStart
  extract_lets +onlyGivenNames x1 x2 x3 x4 x5
  refine KeepsP.ite (KeepsP.mk' hs) ?_
  refine KeepsP.ite (KeepsP.mk' hs) ?_
  split
  · rename_i y7 e8
    exact KeepsP.mk' hs
  · rename_i y9 y10 e11
    extract_lets +onlyGivenNames x12
    refine KeepsP.ite (KeepsP.mk' hs) ?_
    extract_lets +onlyGivenNames x13 x14
    have h15 : Keeps m r x14 := Keeps.set_rfe (hm.mono rfl) hs
    clear_value x14
    extract_lets +onlyGivenNames x16
    have h17 : Keeps m r x16 := setFld_keeps (hm.mono rfl) (setFld_keeps (hm.mono rfl) (setFld_keeps (hm.mono rfl) h15))
    clear_value x16
    extract_lets +onlyGivenNames x18
    have h19 : Keeps m r x18 := dutyAdd_keeps (hm.mono rfl) (raise_keeps (hm.mono rfl) (setFld_keeps (hm.mono rfl) h17))
    clear_value x18
    exact KeepsP.mk' (rfeShow_keeps (hm.mono rfl) (raise_keeps (hm.mono rfl) h19))

theorem commandRun_keeps {m : Nat} {r : State} {b0 : Session} {b1 : ℕ} {b2 : ℕ} {b3 : ℕ} {b4 : List Byte} {s : State} (hm :
    Sub 4722366481787313455101 m) (hs : Keeps m r s) :
    KeepsP m r (commandRun b0 b1 b2 b3 b4 s) := by
  unfold commandRun
  split
  · rename_i y2 y3
    refine uidArg_keeps (hm.mono rfl) (fun a4 a5 => ?_) hs
    exact KeepsP.mk' (restartSoon_keeps (hm.mono rfl) a5)
  · rename_i y6 y7
    refine uidArg_keeps (hm.mono rfl) (fun a8 a9 => ?_) hs
    exact restoreFactory_keeps (hm.mono rfl) a9
  · rename_i y10 y11
    refine uidArg_keeps (hm.mono rfl) (fun a12 a13 => ?_) hs
    exact forcedSet_keeps (hm.mono rfl) a13
  · rename_i y14 y15
    exact nodeCommand_keeps (hm.mono rfl) hs
  · rename_i y16 y17
    exact surveyStart_keeps (hm.mono rfl) hs
  · rename_i y18 y19
    exact levelOverride_keeps (hm.mono rfl) hs
  · rename_i y20 y21
    exact levelOverride_keeps (hm.mono rfl) hs
  · rename_i y22 y23
    exact levelOverride_keeps (hm.mono rfl) hs
  · rename_i y24 y25
    exact zoneSetOverride_keeps (hm.mono rfl) hs
  · rename_i y26 y27
    exact checkStart_keeps (hm.mono rfl) hs
  · rename_i y28 y29
    refine uidArg_keeps (hm.mono rfl) (fun a30 a31 => ?_) hs
    exact clearRegisters_keeps (hm.mono rfl) a31
  · rename_i y32 y33
    refine uidArg_keeps (hm.mono rfl) (fun a34 a35 => ?_) hs
    exact handoverStart_keeps (hm.mono rfl) a35
  · rename_i y36 y37
    refine uidArg_keeps (hm.mono rfl) (fun a38 a39 => ?_) hs
    exact newEpoch_keeps (hm.mono rfl) a39
  · rename_i y40 y41
    exact keyUpdateCommand_keeps (hm.mono rfl) hs
  · rename_i y42 y43
    refine relayed_keeps (hm.mono rfl) (fun a44 a45 => ?_) hs
    exact armCommand_keeps (hm.mono rfl) a45
  · rename_i y46 y47
    refine uidArg_keeps (hm.mono rfl) (fun a48 a49 => ?_) hs
    refine relayed_keeps (hm.mono rfl) (fun a50 a51 => ?_) a49
    exact disarmCommand_keeps (hm.mono rfl) a51
  · rename_i y52 y53
    refine uidArg_keeps (hm.mono rfl) (fun a54 a55 => ?_) hs
    refine relayed_keeps (hm.mono rfl) (fun a56 a57 => ?_) a55
    exact confirmCommand_keeps (hm.mono rfl) a57
  · rename_i y58 y59
    refine uidArg_keeps (hm.mono rfl) (fun a60 a61 => ?_) hs
    refine relayed_keeps (hm.mono rfl) (fun a62 a63 => ?_) a61
    exact revertCommand_keeps hm a63
  · rename_i y64 y65
    exact nodeDistribution_keeps (hm.mono rfl) hs
  · rename_i y66 y67
    exact loadOpen_keeps (hm.mono rfl) hs
  · rename_i y68 y69
    exact loadData_keeps (hm.mono rfl) hs
  · rename_i y70 y71
    refine uidArg_keeps (hm.mono rfl) (fun a72 a73 => ?_) hs
    exact loadClose_keeps (hm.mono rfl) a73
  · rename_i y74 y75
    refine uidArg_keeps (hm.mono rfl) (fun a76 a77 => ?_) hs
    exact loadAbort_keeps (hm.mono rfl) a77
  · rename_i y78 y79
    exact KeepsP.mk' (radioCleared_keeps (hm.mono rfl) (clearFaults_keeps (hm.mono rfl) hs))
  · rename_i y80 y81
    exact KeepsP.ite (testStart_keeps (hm.mono rfl) hs) (KeepsP.mk' hs)
  · rename_i y82 y83 e84 e85 e86 e87 e88 e89 e90 e91 e92 e93 e94 e95 e96 e97 e98 e99 e100 e101 e102 e103 e104 e105 e106 e107
        e108
    exact KeepsP.mk' hs

theorem odCommand_keeps {m : Nat} {r : State} {b0 : Session} {b1 : ℕ} {b2 : ℕ} {b3 : ℕ} {b4 : List Byte} {b5 : OdElem} {s :
    State} (hm : Sub 4722366481787313455101 m) (hs : Keeps m r s) :
    KeepsP m r (odCommand b0 b1 b2 b3 b4 b5 s) := by
  unfold odCommand
  split
  · rename_i y2 y3 s4 e5
    have h6 : Keeps m r s4 := (KeepsP.of_eq e5 (KeepsP.ite (KeepsP.mk' hs) (KeepsP.ite (KeepsP.mk' hs) (commandRun_keeps hm
        hs)))).snd
    extract_lets +onlyGivenNames x7
    have h8 : Keeps m r x7 := Keeps.ite (odStream_keeps (hm.mono rfl) h6) h6
    clear_value x7
    exact KeepsP.mk' (odRecord_keeps (hm.mono rfl) h8)

theorem odRequest_keeps {m : Nat} {r : State} {b0 : Session} {b1 : ℕ} {b2 : ℕ} {b3 : ℕ} {b4 : ℕ} {b5 : List Byte} {s : State}
    (hm : Sub 4722366481787313455101 m) (hs : Keeps m r s) :
    KeepsP m r (odRequest b0 b1 b2 b3 b4 b5 s) := by
  unfold odRequest
  refine KeepsP.ite (KeepsP.ite (KeepsP.mk' hs) (odRefused_keeps (hm.mono rfl) hs)) ?_
  refine KeepsP.ite (odRead_keeps (hm.mono rfl) hs) ?_
  refine KeepsP.ite (odRefused_keeps (hm.mono rfl) hs) ?_
  split
  · rename_i y2 y3 e4
    exact odCommand_keeps hm hs
  · rename_i y5 e6
    refine KeepsP.ite ?_ (odWrite_keeps hm hs)
    split
    · rename_i y8 e9
      exact odRefused_keeps (hm.mono rfl) hs
    · rename_i y10 y11 e12
      exact odRefused_keeps (hm.mono rfl) hs

theorem testEnd_keeps {m : Nat} {r : State} {s : State} (hm : Sub 4573968405234700 m) (hs : Keeps m r s) :
    Keeps m r (testEnd s) := by
  unfold testEnd
  split
  · rename_i y2 y3 y4 e5
    refine Keeps.ite hs ?_
    extract_lets +onlyGivenNames x6 x7
    have h8 : Keeps m r x7 := lower_keeps (hm.mono rfl) (Keeps.set_rfe (hm.mono rfl) hs)
    clear_value x7
    exact rfeShow_keeps (hm.mono rfl) (post_keeps (hm.mono rfl) (setFld_keeps (hm.mono rfl) (setFld_keeps (hm.mono rfl) h8)))
  · rename_i y9 e10
    exact hs

theorem execTestTransmissionEnd_keeps {m : Nat} {r : State} {s : State} (hm : Sub 4573968405234700 m) (hs : Keeps m r s) :
    NextKeeps m r (execTestTransmissionEnd s) := by
  unfold execTestTransmissionEnd
  exact NextKeeps.next (testEnd_keeps hm hs)

/-! ### Requests -/

theorem block1Discard_keeps {m : Nat} {r : State} {b0 : ℕ} {s : State} (hm : Sub 2147483648 m) (hs : Keeps m r s) :
    Keeps m r (block1Discard b0 s) := by
  unfold block1Discard
  split
  · rename_i y2 y3 e4
    split
    · rename_i y6 y7 e8
      exact Keeps.ite (putSession_keeps hm hs) hs
    · rename_i y9 e10
      exact hs
  · rename_i y11 e12
    exact hs

theorem coapBody_keeps {m : Nat} {r : State} {b0 : Session} {b1 : CoapMsg} {s : State} (hm : Sub 2147483648 m) (hs : Keeps m
    r s) :
    KeepsP m r (coapBody b0 b1 s) := by
  unfold coapBody
  split
  · rename_i y2 e3
    exact KeepsP.mk' hs
  · rename_i y4 y5 y6 y7 e8
    extract_lets +onlyGivenNames x9 x10 x11 x12
    refine KeepsP.ite (KeepsP.mk' hs) ?_
    refine KeepsP.ite (KeepsP.mk' hs) ?_
    refine KeepsP.ite (KeepsP.mk' hs) ?_
    extract_lets +onlyGivenNames x13
    exact KeepsP.ite (KeepsP.mk' (putSession_keeps hm hs)) (KeepsP.ite (KeepsP.mk' (putSession_keeps hm hs)) (KeepsP.mk'
        (putSession_keeps hm hs)))

theorem coapTake_keeps {m : Nat} {r : State} {b0 : Session} {s : State} (hm : Sub 4521192887161860 m) (hs : Keeps m r s) :
    KeepsP m r (coapTake b0 s) := by
  unfold coapTake
  split
  · rename_i y2 y3 e4
    exact netTake_keeps hm hs
  · rename_i y5 e6
    exact KeepsP.mk' hs

theorem coapVersion_keeps {m : Nat} {r : State} {b0 : Session} {b1 : List Byte} {s : State} (hm : Sub 2147483648 m) (hs :
    Keeps m r s) :
    KeepsP m r (coapVersion b0 b1 s) := by
  unfold coapVersion
  refine KeepsP.ite (KeepsP.mk' hs) ?_
  split
  · rename_i y2 e3
    exact KeepsP.mk' hs
  · rename_i y4 y5 e6
    exact KeepsP.mk' (putSession_keeps hm hs)

theorem coapRoute_keeps {m : Nat} {r : State} {b0 : Session} {b1 : CoapMsg} {s : State} (hm : Sub 4722366481787313455101 m)
    (hs : Keeps m r s) :
    KeepsP m r (coapRoute b0 b1 s) := by
  unfold coapRoute
  refine KeepsP.ite (KeepsP.mk' hs) ?_
  refine KeepsP.ite (KeepsP.mk' hs) ?_
  refine KeepsP.ite (KeepsP.mk' hs) ?_
  refine KeepsP.ite (KeepsP.ite (coapVersion_keeps (hm.mono rfl) hs) (KeepsP.mk' hs)) ?_
  split
  · rename_i y2 e3
    exact KeepsP.mk' hs
  · rename_i y4 y5 y6 y7 e8
    refine KeepsP.ite ?_ ?_
    · refine KeepsP.ite (KeepsP.mk' hs) ?_
      split
      · rename_i y10 y11 s12 e13
        have h14 : Keeps m r s12 := (KeepsP.of_eq e13 (odRequest_keeps hm hs)).snd
        exact KeepsP.mk' h14
    · refine KeepsP.ite ?_ (KeepsP.mk' hs)
      split
      · rename_i y16 y17 s18 e19
        have h20 : Keeps m r s18 := (KeepsP.of_eq e19 (coapBody_keeps (hm.mono rfl) hs)).snd
        exact KeepsP.mk' h20
      · rename_i y21 y22 s23 e24
        have h25 : Keeps m r s23 := (KeepsP.of_eq e24 (coapBody_keeps (hm.mono rfl) hs)).snd
        extract_lets +onlyGivenNames x26
        split
        · rename_i y28 y29 s30 e31
          have h32 : Keeps m r s30 := (KeepsP.of_eq e31 (odRequest_keeps hm h25)).snd
          extract_lets +onlyGivenNames x33
          exact KeepsP.mk' h32

theorem coapMessage_keeps {m : Nat} {r : State} {b0 : ℕ} {b1 : CoapMsg} {b2 : Bool} {s : State} (hm : Sub
    4722366481787313455101 m) (hs : Keeps m r s) :
    Keeps m r (coapMessage b0 b1 b2 s) := by
  unfold coapMessage
  split
  · rename_i y2 e3
    exact hs
  · rename_i y4 y5 e6
    split
    · rename_i y8 s9 e10
      have h11 : Keeps m r s9 := (KeepsP.of_eq e10 (coapTake_keeps (hm.mono rfl) hs)).snd
      exact h11
    · rename_i y12 y13 s14 e15
      have h16 : Keeps m r s14 := (KeepsP.of_eq e15 (coapTake_keeps (hm.mono rfl) hs)).snd
      extract_lets +onlyGivenNames x17 x18
      have h19 : Keeps m r x18 := putSession_keeps (hm.mono rfl) h16
      clear_value x18
      split
      · rename_i y21 y22 e23
        exact coapSend_keeps (hm.mono rfl) h19
      · rename_i y24 e25
        refine Keeps.ite h19 ?_
        extract_lets +onlyGivenNames x26
        have h27 : Keeps m r x26 := Keeps.ite (coapSend_keeps (hm.mono rfl) h19) h19
        clear_value x26
        split
        · rename_i y29 y30 s31 e32
          have h33 : Keeps m r s31 := (KeepsP.of_eq e32 (coapRoute_keeps hm h27)).snd
          split
          · rename_i y35 e36
            exact h33
          · rename_i y37 y38 e39
            extract_lets +onlyGivenNames x40 x41 x42 x43
            exact coapSend_keeps (hm.mono rfl) (putSession_keeps (hm.mono rfl) h33)

theorem xferSend_keeps {m : Nat} {r : State} {b0 : ℕ} {b1 : ℕ} {b2 : ℕ} {b3 : ℕ} {b4 : List Byte} {s : State} (hm : Sub
    4722366481770137780236 m) (hs : Keeps m r s) :
    Keeps m r (xferSend b0 b1 b2 b3 b4 s) := by
  unfold xferSend
  extract_lets +onlyGivenNames x1
  exact fbSend_keeps hm hs

theorem xferAbort_keeps {m : Nat} {r : State} {b0 : ℕ} {b1 : ℕ} {b2 : ℕ} {b3 : ℕ} {s : State} (hm : Sub
    4722366481770137780236 m) (hs : Keeps m r s) :
    Keeps m r (xferAbort b0 b1 b2 b3 s) := by
  unfold xferAbort
  exact xferSend_keeps hm hs

theorem xferHead_keeps {m : Nat} {r : State} {b0 : ℕ} {s : State} (hm : Sub 4722366481770137780236 m) (hs : Keeps m r s) :
    KeepsP m r (xferHead b0 s) := by
  induction b0 generalizing s hs with
  | zero =>
    unfold xferHead
    exact KeepsP.mk' hs
  | succ n ih =>
    unfold xferHead
    refine KeepsP.ite (KeepsP.mk' hs) ?_
    split
    · rename_i y2 y3 y4 y5 e6
      extract_lets +onlyGivenNames x7
      refine KeepsP.ite ?_ ?_
      · refine @ih _ ?_
        exact fbPop_keeps (hm.mono rfl) hs
      · refine KeepsP.ite (KeepsP.mk' hs) ?_
        refine KeepsP.ite ?_ (KeepsP.mk' hs)
        refine @ih _ ?_
        exact xferAbort_keeps hm (fbPop_keeps (hm.mono rfl) hs)

theorem xferTake_keeps {m : Nat} {r : State} {b0 : List Byte → Bool} {s : State} (hm : Sub 4722366481770137780236 m) (hs :
    Keeps m r s) :
    KeepsP m r (xferTake b0 s) := by
  unfold xferTake
  split
  · rename_i y2 y3 y4 s5 e6
    have h7 : Keeps m r s5 := (KeepsP.of_eq e6 (xferHead_keeps hm hs)).snd
    exact KeepsP.ite (KeepsP.mk' (fbPop_keeps (hm.mono rfl) h7)) (KeepsP.mk' h7)
  · rename_i y8 s9 e10
    have h11 : Keeps m r s9 := (KeepsP.of_eq e10 (xferHead_keeps hm hs)).snd
    exact KeepsP.mk' h11

theorem xferSession_keeps {m : Nat} {r : State} {b0 : ℕ} {b1 : List Byte} {s : State} (hm : Sub 4722366481772285263884 m) (hs
    : Keeps m r s) :
    KeepsP m r (xferSession b0 b1 s) := by
  unfold xferSession
  split
  · rename_i y2 y3 e4
    extract_lets +onlyGivenNames x5
    exact KeepsP.mk' (putSession_keeps (hm.mono rfl) hs)
  · rename_i y6 e7
    exact KeepsP.mk' (xferSend_keeps (hm.mono rfl) hs)

theorem xferSegments_keeps {m : Nat} {r : State} {b0 : ℕ} {b1 : ℕ} {b2 : ℕ} {b3 : List Byte} {b4 : ℕ} {b5 : ℕ} {s : State}
    (hm : Sub 4722366481770137780236 m) (hs : Keeps m r s) :
    KeepsP m r (xferSegments b0 b1 b2 b3 b4 b5 s) := by
  induction b4 generalizing b0 b1 b2 b3 b5 s hs with
  | zero =>
    unfold xferSegments
    exact KeepsP.mk' hs
  | succ n ih =>
    unfold xferSegments
    extract_lets +onlyGivenNames x1
    refine KeepsP.ite (KeepsP.mk' hs) ?_
    extract_lets +onlyGivenNames x2
    have h3 : Keeps m r x2 := xferSend_keeps hm hs
    clear_value x2
    refine KeepsP.ite (KeepsP.mk' h3) ?_
    refine @ih _ _ _ _ _ _ ?_
    exact h3

theorem xferRespond_keeps {m : Nat} {r : State} {b0 : Session} {b1 : ℕ} {b2 : ℕ} {b3 : ℕ} {b4 : List Byte} {s : State} (hm :
    Sub 4722366481772285263884 m) (hs : Keeps m r s) :
    Keeps m r (xferRespond b0 b1 b2 b3 b4 s) := by
  unfold xferRespond
  extract_lets +onlyGivenNames x1
  have h2 : Keeps m r x1 := xferSend_keeps (hm.mono rfl) hs
  clear_value x1
  split
  · rename_i y4 y5 s6 e7
    have h8 : Keeps m r s6 := (KeepsP.of_eq e7 (xferSegments_keeps (hm.mono rfl) h2)).snd
    extract_lets +onlyGivenNames x9 x10
    split
    · rename_i y12 y13 e14
      exact putSession_keeps (hm.mono rfl) h8
    · rename_i y15 e16
      exact h8

theorem xferComplete_keeps {m : Nat} {r : State} {b0 : Session} {b1 : ℕ} {b2 : ℕ} {b3 : ℕ} {b4 : ℕ} {b5 : ℕ} {b6 : List Byte}
    {s : State} (hm : Sub 4722366481787313455101 m) (hs : Keeps m r s) :
    Keeps m r (xferComplete b0 b1 b2 b3 b4 b5 b6 s) := by
  unfold xferComplete
  split
  · rename_i y2 y3 y4 y5 y6 e7
    refine Keeps.ite (xferRespond_keeps (hm.mono rfl) hs) ?_
    split
    · rename_i y9 y10 s11 e12
      have h13 : Keeps m r s11 := (KeepsP.of_eq e12 (odRequest_keeps hm hs)).snd
      exact Keeps.ite (xferRespond_keeps (hm.mono rfl) h13) (xferRespond_keeps (hm.mono rfl) h13)
  · rename_i y14 e15
    split
    · rename_i y17 y18 s19 e20
      have h21 : Keeps m r s19 := (KeepsP.of_eq e20 (odRequest_keeps hm hs)).snd
      exact Keeps.ite (xferRespond_keeps (hm.mono rfl) h21) (xferRespond_keeps (hm.mono rfl) h21)

theorem xferRequest_keeps {m : Nat} {r : State} {b0 : ℕ} {b1 : List Byte} {s : State} (hm : Sub 4722366481787313455101 m) (hs
    : Keeps m r s) :
    Keeps m r (xferRequest b0 b1 s) := by
  unfold xferRequest
  extract_lets +onlyGivenNames x1 x2
  split
  · rename_i y4 s5 e6
    have h7 : Keeps m r s5 := (KeepsP.of_eq e6 (xferSession_keeps (hm.mono rfl) hs)).snd
    exact h7
  · rename_i y8 y9 s10 e11
    have h12 : Keeps m r s10 := (KeepsP.of_eq e11 (xferSession_keeps (hm.mono rfl) hs)).snd
    extract_lets +onlyGivenNames x13
    refine Keeps.ite (xferSend_keeps (hm.mono rfl) h12) ?_
    extract_lets +onlyGivenNames x14 x15 x16
    refine Keeps.ite (xferComplete_keeps hm h12) ?_
    extract_lets +onlyGivenNames x17 x18
    exact Keeps.ite (xferComplete_keeps hm (putSession_keeps (hm.mono rfl) h12)) (putSession_keeps (hm.mono rfl) h12)

theorem request_keeps {m : Nat} {r : State} {b0 : ReqVia} {b1 : List ℕ} {b2 : ℕ → ℕ → ℕ → Bool} {s : State} (hm : Sub
    4722366481787313455101 m) (hs : Keeps m r s) :
    Keeps m r (request b0 b1 b2 s) := by
  unfold request
  refine Keeps.ite hs ?_
  split
  · rename_i y2
    split
    · rename_i y4 y5 y6 s7 e8
      have h9 : Keeps m r s7 := (KeepsP.of_eq e8 (xferTake_keeps (hm.mono rfl) hs)).snd
      exact xferRequest_keeps hm h9
    · rename_i y10 s11 e12
      have h13 : Keeps m r s11 := (KeepsP.of_eq e12 (xferTake_keeps (hm.mono rfl) hs)).snd
      exact h13
  · rename_i y14 y15 y16
    exact Keeps.ite (coapMessage_keeps hm hs) hs

theorem command_keeps {m : Nat} {r : State} {b0 : ℕ} {b1 : ℕ} {b2 : ReqVia} {s : State} (hm : Sub 4722366481787313455101 m)
    (hs : Keeps m r s) :
    Keeps m r (command b0 b1 b2 s) := by
  unfold command
  exact request_keeps hm hs

theorem dtlsOpen_keeps {m : Nat} {r : State} {b0 : ℕ} {b1 : List Byte} {b2 : ℕ} {b3 : Bool} {b4 : Bool} {s : State} (hm : Sub
    4503601774855172 m) (hs : Keeps m r s) :
    Keeps m r (dtlsOpen b0 b1 b2 b3 b4 s) := by
  unfold dtlsOpen
  exact Keeps.ite hs (Keeps.ite (sessionEvent_keeps (hm.mono rfl) hs) (openSession_keeps hm hs).snd)

theorem execArm_keeps {m : Nat} {r : State} {b0 : ReqVia} {s : State} (hm : Sub 4722366481787313455101 m) (hs : Keeps m r s) :
    NextKeeps m r (execArm b0 s) := by
  unfold execArm
  exact NextKeeps.next (command_keeps hm hs)

theorem execBlock1Discard_keeps {m : Nat} {r : State} {b0 : ℕ} {s : State} (hm : Sub 2147483648 m) (hs : Keeps m r s) :
    NextKeeps m r (execBlock1Discard b0 s) := by
  unfold execBlock1Discard
  exact NextKeeps.next (block1Discard_keeps hm hs)

theorem execClearFault_keeps {m : Nat} {r : State} {b0 : ReqVia} {s : State} (hm : Sub 4722366481787313455101 m) (hs : Keeps
    m r s) :
    NextKeeps m r (execClearFault b0 s) := by
  unfold execClearFault
  exact NextKeeps.next (command_keeps hm hs)

theorem nodeRequest_keeps {m : Nat} {r : State} {b0 : ℕ} {b1 : ReqVia} {s : State} (hm : Sub 4722366481787313455101 m) (hs :
    Keeps m r s) :
    Keeps m r (nodeRequest b0 b1 s) := by
  unfold nodeRequest
  exact request_keeps hm hs

theorem execClearNodeFault_keeps {m : Nat} {r : State} {b0 : ReqVia} {s : State} (hm : Sub 4722366481787313455101 m) (hs :
    Keeps m r s) :
    NextKeeps m r (execClearNodeFault b0 s) := by
  unfold execClearNodeFault
  exact NextKeeps.next (nodeRequest_keeps hm hs)

theorem execClearRegisters_keeps {m : Nat} {r : State} {b0 : ReqVia} {s : State} (hm : Sub 4722366481787313455101 m) (hs :
    Keeps m r s) :
    NextKeeps m r (execClearRegisters b0 s) := by
  unfold execClearRegisters
  exact NextKeeps.next (command_keeps hm hs)

theorem execCoapRequest_keeps {m : Nat} {r : State} {b0 : ℕ} {b1 : CoapMsg} {s : State} (hm : Sub 4722366481787313455101 m)
    (hs : Keeps m r s) :
    NextKeeps m r (execCoapRequest b0 b1 s) := by
  unfold execCoapRequest
  exact NextKeeps.next (Keeps.ite hs (coapMessage_keeps hm hs))

theorem execConfirm_keeps {m : Nat} {r : State} {b0 : ReqVia} {s : State} (hm : Sub 4722366481787313455101 m) (hs : Keeps m r
    s) :
    NextKeeps m r (execConfirm b0 s) := by
  unfold execConfirm
  exact NextKeeps.next (command_keeps hm hs)

theorem execDisarm_keeps {m : Nat} {r : State} {b0 : ReqVia} {s : State} (hm : Sub 4722366481787313455101 m) (hs : Keeps m r
    s) :
    NextKeeps m r (execDisarm b0 s) := by
  unfold execDisarm
  exact NextKeeps.next (command_keeps hm hs)

theorem execForcedSet_keeps {m : Nat} {r : State} {b0 : ReqVia} {s : State} (hm : Sub 4722366481787313455101 m) (hs : Keeps m
    r s) :
    NextKeeps m r (execForcedSet b0 s) := by
  unfold execForcedSet
  exact NextKeeps.next (command_keeps hm hs)

theorem execGainSurvey_keeps {m : Nat} {r : State} {b0 : ReqVia} {s : State} (hm : Sub 4722366481787313455101 m) (hs : Keeps
    m r s) :
    NextKeeps m r (execGainSurvey b0 s) := by
  unfold execGainSurvey
  exact NextKeeps.next (command_keeps hm hs)

theorem execGroupOverride_keeps {m : Nat} {r : State} {b0 : ReqVia} {s : State} (hm : Sub 4722366481787313455101 m) (hs :
    Keeps m r s) :
    NextKeeps m r (execGroupOverride b0 s) := by
  unfold execGroupOverride
  exact NextKeeps.next (command_keeps hm hs)

theorem execHandover_keeps {m : Nat} {r : State} {b0 : ReqVia} {s : State} (hm : Sub 4722366481787313455101 m) (hs : Keeps m
    r s) :
    NextKeeps m r (execHandover b0 s) := by
  unfold execHandover
  exact NextKeeps.next (command_keeps hm hs)

theorem execIdentify_keeps {m : Nat} {r : State} {b0 : ReqVia} {s : State} (hm : Sub 4722366481787313455101 m) (hs : Keeps m
    r s) :
    NextKeeps m r (execIdentify b0 s) := by
  unfold execIdentify
  exact NextKeeps.next (nodeRequest_keeps hm hs)

theorem execInputOverride_keeps {m : Nat} {r : State} {b0 : ReqVia} {s : State} (hm : Sub 4722366481787313455101 m) (hs :
    Keeps m r s) :
    NextKeeps m r (execInputOverride b0 s) := by
  unfold execInputOverride
  exact NextKeeps.next (command_keeps hm hs)

theorem execLeave_keeps {m : Nat} {r : State} {b0 : ReqVia} {s : State} (hm : Sub 4722366481787313455101 m) (hs : Keeps m r s) :
    NextKeeps m r (execLeave b0 s) := by
  unfold execLeave
  exact NextKeeps.next (nodeRequest_keeps hm hs)

theorem execLoadAbort_keeps {m : Nat} {r : State} {b0 : ReqVia} {s : State} (hm : Sub 4722366481787313455101 m) (hs : Keeps m
    r s) :
    NextKeeps m r (execLoadAbort b0 s) := by
  unfold execLoadAbort
  exact NextKeeps.next (command_keeps hm hs)

theorem execLoadClose_keeps {m : Nat} {r : State} {b0 : ReqVia} {s : State} (hm : Sub 4722366481787313455101 m) (hs : Keeps m
    r s) :
    NextKeeps m r (execLoadClose b0 s) := by
  unfold execLoadClose
  exact NextKeeps.next (command_keeps hm hs)

theorem execLoadData_keeps {m : Nat} {r : State} {b0 : ReqVia} {s : State} (hm : Sub 4722366481787313455101 m) (hs : Keeps m
    r s) :
    NextKeeps m r (execLoadData b0 s) := by
  unfold execLoadData
  exact NextKeeps.next (command_keeps hm hs)

theorem execLoadOpen_keeps {m : Nat} {r : State} {b0 : ReqVia} {s : State} (hm : Sub 4722366481787313455101 m) (hs : Keeps m
    r s) :
    NextKeeps m r (execLoadOpen b0 s) := by
  unfold execLoadOpen
  exact NextKeeps.next (command_keeps hm hs)

theorem execMappingCheck_keeps {m : Nat} {r : State} {b0 : ReqVia} {s : State} (hm : Sub 4722366481787313455101 m) (hs :
    Keeps m r s) :
    NextKeeps m r (execMappingCheck b0 s) := by
  unfold execMappingCheck
  exact NextKeeps.next (command_keeps hm hs)

theorem execModuleRestart_keeps {m : Nat} {r : State} {b0 : ReqVia} {s : State} (hm : Sub 4722366481787313455101 m) (hs :
    Keeps m r s) :
    NextKeeps m r (execModuleRestart b0 s) := by
  unfold execModuleRestart
  exact NextKeeps.next (command_keeps hm hs)

theorem execNewEpoch_keeps {m : Nat} {r : State} {b0 : ReqVia} {s : State} (hm : Sub 4722366481787313455101 m) (hs : Keeps m
    r s) :
    NextKeeps m r (execNewEpoch b0 s) := by
  unfold execNewEpoch
  exact NextKeeps.next (command_keeps hm hs)

theorem execNodeDistribution_keeps {m : Nat} {r : State} {b0 : ReqVia} {s : State} (hm : Sub 4722366481787313455101 m) (hs :
    Keeps m r s) :
    NextKeeps m r (execNodeDistribution b0 s) := by
  unfold execNodeDistribution
  exact NextKeeps.next (command_keeps hm hs)

theorem execNodeRead_keeps {m : Nat} {r : State} {b0 : ReqVia} {s : State} (hm : Sub 4722366481787313455101 m) (hs : Keeps m
    r s) :
    NextKeeps m r (execNodeRead b0 s) := by
  unfold execNodeRead
  exact NextKeeps.next (nodeRequest_keeps hm hs)

theorem execOdRead_keeps {m : Nat} {r : State} {b0 : ReqVia} {s : State} (hm : Sub 4722366481787313455101 m) (hs : Keeps m r
    s) :
    NextKeeps m r (execOdRead b0 s) := by
  unfold execOdRead
  exact NextKeeps.next (request_keeps hm hs)

theorem execOdWrite_keeps {m : Nat} {r : State} {b0 : ReqVia} {s : State} (hm : Sub 4722366481787313455101 m) (hs : Keeps m r
    s) :
    NextKeeps m r (execOdWrite b0 s) := by
  unfold execOdWrite
  exact NextKeeps.next (request_keeps hm hs)

theorem execRejoin_keeps {m : Nat} {r : State} {b0 : ReqVia} {s : State} (hm : Sub 4722366481787313455101 m) (hs : Keeps m r
    s) :
    NextKeeps m r (execRejoin b0 s) := by
  unfold execRejoin
  exact NextKeeps.next (nodeRequest_keeps hm hs)

theorem execRestoreFactory_keeps {m : Nat} {r : State} {b0 : ReqVia} {s : State} (hm : Sub 4722366481787313455101 m) (hs :
    Keeps m r s) :
    NextKeeps m r (execRestoreFactory b0 s) := by
  unfold execRestoreFactory
  exact NextKeeps.next (command_keeps hm hs)

theorem execRevert_keeps {m : Nat} {r : State} {b0 : ReqVia} {s : State} (hm : Sub 4722366481787313455101 m) (hs : Keeps m r
    s) :
    NextKeeps m r (execRevert b0 s) := by
  unfold execRevert
  exact NextKeeps.next (command_keeps hm hs)

theorem transfer_keeps {m : Nat} {r : State} {b0 : ℕ} {b1 : ℕ → List Byte → State → State} {s : State} (hm : Sub
    4722366481770137780236 m) (hb1 : ∀ c0 c1 c2, Keeps m r c2 → Keeps m r (b1 c0 c1 c2)) (hs : Keeps m r s) :
    Keeps m r (transfer b0 b1 s) := by
  unfold transfer
  refine Keeps.ite hs ?_
  split
  · rename_i y2 y3 y4 s5 e6
    have h7 : Keeps m r s5 := (KeepsP.of_eq e6 (xferTake_keeps hm hs)).snd
    exact @hb1 _ _ _ h7
  · rename_i y8 s9 e10
    have h11 : Keeps m r s9 := (KeepsP.of_eq e10 (xferTake_keeps hm hs)).snd
    exact h11

theorem xferAck_keeps {m : Nat} {r : State} {b0 : ℕ} {b1 : List Byte} {s : State} (hm : Sub 4722366481772285263884 m) (hs :
    Keeps m r s) :
    Keeps m r (xferAck b0 b1 s) := by
  unfold xferAck
  split
  · rename_i y2 s3 e4
    have h5 : Keeps m r s3 := (KeepsP.of_eq e4 (xferSession_keeps hm hs)).snd
    exact h5
  · rename_i y6 y7 s8 e9
    have h10 : Keeps m r s8 := (KeepsP.of_eq e9 (xferSession_keeps hm hs)).snd
    split
    · rename_i y12 e13
      exact h10
    · rename_i y14 y15 e16
      refine Keeps.ite h10 ?_
      split
      · rename_i y18 y19 s20 e21
        have h22 : Keeps m r s20 := (KeepsP.of_eq e21 (xferSegments_keeps (hm.mono rfl) h10)).snd
        extract_lets +onlyGivenNames x23
        split
        · rename_i y25 y26 e27
          exact putSession_keeps (hm.mono rfl) h22
        · rename_i y28 e29
          exact h22

theorem execSegmentAcknowledgement_keeps {m : Nat} {r : State} {s : State} (hm : Sub 4722366481772285263884 m) (hs : Keeps m
    r s) :
    NextKeeps m r (execSegmentAcknowledgement s) := by
  unfold execSegmentAcknowledgement
  refine NextKeeps.next ?_
  refine transfer_keeps (hm.mono rfl) (fun a1 a2 a3 a4 => ?_) hs
  exact xferAck_keeps hm a4

theorem execSeparateResponse_keeps {m : Nat} {r : State} {b0 : ℕ} {b1 : CoapMsg} {s : State} (hm : Sub 4722366481787313455101
    m) (hs : Keeps m r s) :
    NextKeeps m r (execSeparateResponse b0 b1 s) := by
  unfold execSeparateResponse
  exact NextKeeps.next (Keeps.ite hs (coapMessage_keeps hm hs))

theorem xferClose_keeps {m : Nat} {r : State} {b0 : ℕ} {b1 : List Byte} {s : State} (hm : Sub 4722366481772285264908 m) (hs :
    Keeps m r s) :
    Keeps m r (xferClose b0 b1 s) := by
  unfold xferClose
  split
  · rename_i y2 s3 e4
    have h5 : Keeps m r s3 := (KeepsP.of_eq e4 (xferSession_keeps (hm.mono rfl) hs)).snd
    exact h5
  · rename_i y6 y7 s8 e9
    have h10 : Keeps m r s8 := (KeepsP.of_eq e9 (xferSession_keeps (hm.mono rfl) hs)).snd
    exact closeSession_keeps (hm.mono rfl) (xferSend_keeps (hm.mono rfl) h10)

theorem execSessionClose_keeps {m : Nat} {r : State} {b0 : ℕ} {s : State} (hm : Sub 4722366481772285264908 m) (hs : Keeps m r
    s) :
    NextKeeps m r (execSessionClose b0 s) := by
  unfold execSessionClose
  refine NextKeeps.next ?_
  refine Keeps.ite ?_ ?_
  · refine transfer_keeps (hm.mono rfl) (fun a1 a2 a3 a4 => ?_) hs
    exact xferClose_keeps hm a4
  · split
    · rename_i y6 y7 e8
      exact Keeps.ite hs (closeSession_keeps (hm.mono rfl) hs)
    · rename_i y9 e10
      exact hs

theorem xferOpen_keeps {m : Nat} {r : State} {b0 : ℕ} {b1 : List Byte} {s : State} (hm : Sub 4722366481772285264908 m) (hs :
    Keeps m r s) :
    Keeps m r (xferOpen b0 b1 s) := by
  unfold xferOpen
  extract_lets +onlyGivenNames x1 x2
  clear_value x2
  split
  · rename_i y4 y5
    exact xferRespond_keeps (hm.mono rfl) hs
  · rename_i y6
    split
    · rename_i y8 e9
      exact xferSend_keeps (hm.mono rfl) hs
    · rename_i y10 y11 e12
      extract_lets +onlyGivenNames x13
      split
      · rename_i y15 s16 e17
        have h18 : Keeps m r s16 := (KeepsP.of_eq e17 (openSession_keeps (hm.mono rfl) hs)).snd
        exact xferSend_keeps (hm.mono rfl) h18
      · rename_i y19 y20 s21 e22
        have h23 : Keeps m r s21 := (KeepsP.of_eq e22 (openSession_keeps (hm.mono rfl) hs)).snd
        exact xferRespond_keeps (hm.mono rfl) h23

theorem execSessionOpen_keeps {m : Nat} {r : State} {b0 : OpenVia} {s : State} (hm : Sub 4722366481772285264908 m) (hs :
    Keeps m r s) :
    NextKeeps m r (execSessionOpen b0 s) := by
  unfold execSessionOpen
  refine NextKeeps.next ?_
  split
  · rename_i y2
    refine transfer_keeps (hm.mono rfl) (fun a3 a4 a5 a6 => ?_) hs
    exact xferOpen_keeps hm a6
  · rename_i y7 y8 y9 y10 y11 y12
    exact dtlsOpen_keeps (hm.mono rfl) hs

theorem execTestTransmission_keeps {m : Nat} {r : State} {b0 : ReqVia} {s : State} (hm : Sub 4722366481787313455101 m) (hs :
    Keeps m r s) :
    NextKeeps m r (execTestTransmission b0 s) := by
  unfold execTestTransmission
  exact NextKeeps.next (command_keeps hm hs)

theorem xferEnd_keeps {m : Nat} {r : State} {b0 : ℕ} {b1 : List Byte} {s : State} (hm : Sub 2147483648 m) (hs : Keeps m r s) :
    Keeps m r (xferEnd b0 b1 s) := by
  unfold xferEnd
  split
  · rename_i y2 y3 e4
    exact Keeps.ite (putSession_keeps hm hs) hs
  · rename_i y5 e6
    exact hs

theorem execTransferAbort_keeps {m : Nat} {r : State} {s : State} (hm : Sub 4722366481772285263884 m) (hs : Keeps m r s) :
    NextKeeps m r (execTransferAbort s) := by
  unfold execTransferAbort
  refine NextKeeps.next ?_
  refine transfer_keeps (hm.mono rfl) (fun a1 a2 a3 a4 => ?_) hs
  exact xferEnd_keeps (hm.mono rfl) a4

theorem xferSegment_keeps {m : Nat} {r : State} {b0 : ℕ} {b1 : List Byte} {s : State} (hm : Sub 4722366481787313455101 m) (hs
    : Keeps m r s) :
    Keeps m r (xferSegment b0 b1 s) := by
  unfold xferSegment
  split
  · rename_i y2 s3 e4
    have h5 : Keeps m r s3 := (KeepsP.of_eq e4 (xferSession_keeps (hm.mono rfl) hs)).snd
    exact h5
  · rename_i y6 y7 s8 e9
    have h10 : Keeps m r s8 := (KeepsP.of_eq e9 (xferSession_keeps (hm.mono rfl) hs)).snd
    split
    · rename_i y12 e13
      exact h10
    · rename_i y14 y15 e16
      extract_lets +onlyGivenNames x17
      refine Keeps.ite h10 ?_
      refine Keeps.ite (xferAbort_keeps (hm.mono rfl) (putSession_keeps (hm.mono rfl) h10)) ?_
      extract_lets +onlyGivenNames x18 x19
      have h20 : Keeps m r x19 := Keeps.ite (xferSend_keeps (hm.mono rfl) h10) h10
      clear_value x19
      refine Keeps.ite ?_ (putSession_keeps (hm.mono rfl) h20)
      extract_lets +onlyGivenNames x21
      exact xferComplete_keeps hm (putSession_keeps (hm.mono rfl) h20)

theorem execTransferSegment_keeps {m : Nat} {r : State} {s : State} (hm : Sub 4722366481787313455101 m) (hs : Keeps m r s) :
    NextKeeps m r (execTransferSegment s) := by
  unfold execTransferSegment
  refine NextKeeps.next ?_
  refine transfer_keeps (hm.mono rfl) (fun a1 a2 a3 a4 => ?_) hs
  exact xferSegment_keeps hm a4

theorem xferTimeout_keeps {m : Nat} {r : State} {s : State} (hm : Sub 4722366481772285263884 m) (hs : Keeps m r s) :
    Keeps m r (xferTimeout s) := by
  unfold xferTimeout
  refine Keeps.foldl hs (fun s2 a1 h3 => ?_)
  split
  · rename_i y5 y6 e7
    exact Keeps.ite (xferAbort_keeps (hm.mono rfl) (putSession_keeps (hm.mono rfl) h3)) h3
  · rename_i y8 e9
    exact h3

theorem execTransferTimeout_keeps {m : Nat} {r : State} {s : State} (hm : Sub 4722366481772285263884 m) (hs : Keeps m r s) :
    NextKeeps m r (execTransferTimeout s) := by
  unfold execTransferTimeout
  exact NextKeeps.next (xferTimeout_keeps hm hs)

theorem execVersionPost_keeps {m : Nat} {r : State} {b0 : ℕ} {b1 : CoapMsg} {s : State} (hm : Sub 4722366481787313455101 m)
    (hs : Keeps m r s) :
    NextKeeps m r (execVersionPost b0 b1 s) := by
  unfold execVersionPost
  exact NextKeeps.next (Keeps.ite hs (coapMessage_keeps hm hs))

theorem execZoneOverride_keeps {m : Nat} {r : State} {b0 : ReqVia} {s : State} (hm : Sub 4722366481787313455101 m) (hs :
    Keeps m r s) :
    NextKeeps m r (execZoneOverride b0 s) := by
  unfold execZoneOverride
  exact NextKeeps.next (command_keeps hm hs)

theorem execZoneSetOverride_keeps {m : Nat} {r : State} {b0 : ReqVia} {s : State} (hm : Sub 4722366481787313455101 m) (hs :
    Keeps m r s) :
    NextKeeps m r (execZoneSetOverride b0 s) := by
  unfold execZoneSetOverride
  exact NextKeeps.next (command_keeps hm hs)

/-! ### Link -/

theorem ackTaken_keeps {m : Nat} {r : State} {b0 : ℕ} {b1 : Bool} {s : State} (hm : Sub 8192 m) (hs : Keeps m r s) :
    Keeps m r (ackTaken b0 b1 s) := by
  unfold ackTaken
  extract_lets +onlyGivenNames x1 x2 x3 x4
  have h5 : Keeps m r x4 := Keeps.ite (setTkn_keeps hm hs) hs
  clear_value x4
  extract_lets +onlyGivenNames x6 x7
  have h8 : Keeps m r x7 := Keeps.ite (setTkn_keeps hm h5) h5
  clear_value x7
  exact Keeps.ite (setTkn_keeps hm h8) h8

theorem applyCounter_keeps {m : Nat} {r : State} {b0 : List Byte} {s : State} (hm : Sub 262160 m) (hs : Keeps m r s) :
    Keeps m r (applyCounter b0 s) := by
  unfold applyCounter
  extract_lets +onlyGivenNames x1
  exact setMemNat_keeps (hm.mono rfl) (Keeps.set_tte (hm.mono rfl) hs)

theorem applyEpoch_keeps {m : Nat} {r : State} {b0 : List Byte} {s : State} (hm : Sub 4722366481783085646877 m) (hs : Keeps m
    r s) :
    Keeps m r (applyEpoch b0 s) := by
  unfold applyEpoch
  extract_lets +onlyGivenNames x1 x2
  refine Keeps.ite (Keeps.set_nv (hm.mono rfl) hs) ?_
  extract_lets +onlyGivenNames x3 x4
  have h5 : Keeps m r x4 := startCounter_keeps (hm.mono rfl) (loadContext_keeps (hm.mono rfl) hs)
  clear_value x4
  exact setNodes_keeps (hm.mono rfl) h5

theorem applyJournal_keeps {m : Nat} {r : State} {b0 : JEntry} {s : State} (hm : Sub 8589934592 m) (hs : Keeps m r s) :
    Keeps m r (applyJournal b0 s) := by
  unfold applyJournal
  extract_lets +onlyGivenNames x1
  exact Keeps.set_nv (hm.mono rfl) hs

theorem applyNode_keeps {m : Nat} {r : State} {b0 : List Byte} {s : State} (hm : Sub 4722366481783018538013 m) (hs : Keeps m
    r s) :
    Keeps m r (applyNode b0 s) := by
  unfold applyNode
  extract_lets +onlyGivenNames x1 x2 x3
  exact linkWrite_keeps hm (showEntry_keeps (hm.mono rfl) (setEntry_keeps (hm.mono rfl) hs))

theorem applyOutcome_keeps {m : Nat} {r : State} {b0 : ℕ} {s : State} (hm : Sub 4722366481787313455101 m) (hs : Keeps m r s) :
    Keeps m r (applyOutcome b0 s) := by
  unfold applyOutcome
  extract_lets +onlyGivenNames x1
  exact Keeps.ite (activationApply_keeps hm (setAct_keeps (hm.mono rfl) hs)) (Keeps.ite (revertTrial_keeps hm hs) hs)

theorem applyOutputs_keeps {m : Nat} {r : State} {b0 : List Byte} {s : State} (hm : Sub 72057594046324748 m) (hs : Keeps m r
    s) :
    Keeps m r (applyOutputs b0 s) := by
  unfold applyOutputs
  refine fwField_keeps (hm.mono rfl) (fun a1 a2 a3 a4 a5 a6 => ?_) ?_
  · exact iocWritten_keeps (hm.mono rfl) a6
  · refine fwField_keeps (hm.mono rfl) (fun a7 a8 a9 a10 a11 a12 => ?_) hs
    exact iocWritten_keeps (hm.mono rfl) a12

theorem applyOverride_keeps {m : Nat} {r : State} {b0 : List Byte} {s : State} (hm : Sub 8589934592 m) (hs : Keeps m r s) :
    Keeps m r (applyOverride b0 s) := by
  unfold applyOverride
  split
  · rename_i y2 e3
    exact hs
  · rename_i y4 y5 e6
    extract_lets +onlyGivenNames x7 x8 x9
    refine Keeps.ite (setOverrides_keeps hm hs) ?_
    extract_lets +onlyGivenNames x10
    have h11 : Keeps m r x10 := setOverrides_keeps hm hs
    clear_value x10
    extract_lets +onlyGivenNames x12
    have h13 : Keeps m r x12 := Keeps.ite (overrideTake_keeps hm h11) h11
    clear_value x12
    exact setOverrides_keeps hm h13

theorem applyPlan_keeps {m : Nat} {r : State} {b0 : List Byte} {s : State} (hm : Sub 140737555726364 m) (hs : Keeps m r s) :
    Keeps m r (applyPlan b0 s) := by
  unfold applyPlan
  extract_lets +onlyGivenNames x1 x2 x3 x4 x5 x6
  have h7 : Keeps m r x6 := setMemNat_keeps (hm.mono rfl) hs
  clear_value x6
  extract_lets +onlyGivenNames x8 x9 x10
  have h11 : Keeps m r x10 := setNodes_keeps (hm.mono rfl) h7
  clear_value x10
  refine fwField_keeps (hm.mono rfl) (fun a12 a13 a14 a15 a16 a17 => ?_) h11
  exact tteWritten_keeps (hm.mono rfl) a17

theorem applyZone_keeps {m : Nat} {r : State} {b0 : List Byte} {s : State} (hm : Sub 8192 m) (hs : Keeps m r s) :
    Keeps m r (applyZone b0 s) := by
  unfold applyZone
  exact setTkn_keeps hm hs

theorem applyTable_keeps {m : Nat} {r : State} {b0 : List Byte} {s : State} (hm : Sub 7969260313326620 m) (hs : Keeps m r s) :
    Keeps m r (applyTable b0 s) := by
  unfold applyTable
  extract_lets +onlyGivenNames x1 x2
  have h3 : Keeps m r x2 := setBytes_keeps (hm.mono rfl) hs
  clear_value x2
  extract_lets +onlyGivenNames x4
  refine Keeps.ite ?_ ?_
  · refine fwField_keeps (hm.mono rfl) (fun a5 a6 a7 a8 a9 a10 => ?_) h3
    exact lfeWritten_keeps (hm.mono rfl) a10
  · refine Keeps.ite ?_ h3
    refine fwField_keeps (hm.mono rfl) (fun a11 a12 a13 a14 a15 a16 => ?_) h3
    exact lfeWritten_keeps (hm.mono rfl) a16

theorem applyWrite_keeps {m : Nat} {r : State} {b0 : List Byte} {s : State} (hm : Sub 4722366481787313455101 m) (hs : Keeps m
    r s) :
    Keeps m r (applyWrite b0 s) := by
  unfold applyWrite
  extract_lets +onlyGivenNames x1 x2 x3 x4
  refine Keeps.ite (applyOutcome_keeps hm hs) ?_
  extract_lets +onlyGivenNames x5
  exact (odRequest_keeps hm hs).snd

theorem applyWired_keeps {m : Nat} {r : State} {b0 : List Byte} {s : State} (hm : Sub 2251799814733828 m) (hs : Keeps m r s) :
    Keeps m r (applyWired b0 s) := by
  unfold applyWired
  refine Keeps.upTo hs (fun i1 s2 h3 => ?_)
  exact sdcPut_keeps hm h3

theorem applyRecord_keeps {m : Nat} {r : State} {b0 : StreamRec} {s : State} (hm : Sub 4722366481787313455101 m) (hs : Keeps
    m r s) :
    Keeps m r (applyRecord b0 s) := by
  unfold applyRecord
  extract_lets +onlyGivenNames x1
  split
  · rename_i y3 e4
    exact setTkn_keeps (hm.mono rfl) hs
  · rename_i y5 e6
    refine fwField_keeps (hm.mono rfl) (fun a7 a8 a9 a10 a11 a12 => ?_) (setTkn_keeps (hm.mono rfl) hs)
    exact tknWritten_keeps (hm.mono rfl) a12
  · rename_i y13 e14
    exact applyNode_keeps (hm.mono rfl) hs
  · rename_i y15 e16
    exact applyCounter_keeps (hm.mono rfl) hs
  · rename_i y17 e18
    exact applyPlan_keeps (hm.mono rfl) hs
  · rename_i y19 e20
    exact applyZone_keeps (hm.mono rfl) hs
  · rename_i y21 e22
    exact applyTable_keeps (hm.mono rfl) hs
  · rename_i y23 e24
    exact applyWrite_keeps hm hs
  · rename_i y25 e26
    exact applyOverride_keeps (hm.mono rfl) hs
  · rename_i y27 e28
    split
    · rename_i y30 y31 e32
      exact applyJournal_keeps (hm.mono rfl) hs
    · rename_i y33 e34
      exact hs
  · rename_i y35 e36
    exact applyJournal_keeps (hm.mono rfl) hs
  · rename_i y37 e38
    exact applyOutputs_keeps (hm.mono rfl) hs
  · rename_i y39 e40
    exact applyWired_keeps (hm.mono rfl) hs
  · rename_i y41 e42
    exact energyLatch_keeps (hm.mono rfl) hs
  · rename_i y43 e44
    exact applyEpoch_keeps (hm.mono rfl) hs
  · rename_i y45 e46 e47 e48 e49 e50 e51 e52 e53 e54 e55 e56 e57 e58 e59 e60
    exact setTkn_keeps (hm.mono rfl) hs

theorem applyStream_keeps {m : Nat} {r : State} {b0 : ℕ} {s : State} (hm : Sub 4722366481787313455101 m) (hs : Keeps m r s) :
    Keeps m r (applyStream b0 s) := by
  induction b0 generalizing s hs with
  | zero =>
    unfold applyStream
    exact hs
  | succ n ih =>
    unfold applyStream
    split
    · rename_i y2 e3
      exact hs
    · rename_i y4 y5 y6 e7
      refine @ih _ ?_
      exact applyRecord_keeps hm (setTkn_keeps (hm.mono rfl) hs)

theorem linkSample_keeps {m : Nat} {r : State} {b0 : ℕ} {b1 : ℕ} {b2 : Option ℕ} {s : State} (hm : Sub 4722366481771207396365
    m) (hs : Keeps m r s) :
    Keeps m r (linkSample b0 b1 b2 s) := by
  unfold linkSample
  extract_lets +onlyGivenNames x1 x2 x3
  exact sourceSample_keeps hm hs

theorem cycleFrame_keeps {m : Nat} {r : State} {b0 : ℕ} {b1 : ℕ} {b2 : List Byte} {s : State} (hm : Sub
    4722366481771207404557 m) (hs : Keeps m r s) :
    Keeps m r (cycleFrame b0 b1 b2 s) := by
  unfold cycleFrame
  refine Keeps.ite hs ?_
  extract_lets +onlyGivenNames x1
  have h2 : Keeps m r x1 := hbTaken_keeps (hm.mono rfl) (cycleTaken_keeps (hm.mono rfl) hs)
  clear_value x1
  refine Keeps.ite ?_ h2
  extract_lets +onlyGivenNames x3
  have h4 : Keeps m r x3 := captureEvent_keeps (hm.mono rfl) h2
  clear_value x3
  exact Keeps.ite (linkSample_keeps (hm.mono rfl) h4) h4

theorem eventTaken_keeps {m : Nat} {r : State} {b0 : List Byte} {s : State} (hm : Sub 4521191813428228 m) (hs : Keeps m r s) :
    Keeps m r (eventTaken b0 s) := by
  unfold eventTaken
  exact Keeps.ite (commitEvent_keeps (hm.mono rfl) hs) (Keeps.ite (setTkn_keeps (hm.mono rfl) hs) hs)

theorem readySettle_keeps {m : Nat} {r : State} {s : State} (hm : Sub 9007199254740996 m) (hs : Keeps m r s) :
    Keeps m r (readySettle s) := by
  unfold readySettle
  refine Keeps.ite hs ?_
  extract_lets +onlyGivenNames x1
  exact setBool_keeps (hm.mono rfl) hs

theorem streamTaken_keeps {m : Nat} {r : State} {b0 : ℕ} {b1 : List Byte} {s : State} (hm : Sub 4722366481787313455101 m) (hs
    : Keeps m r s) :
    Keeps m r (streamTaken b0 b1 s) := by
  unfold streamTaken
  extract_lets +onlyGivenNames x1 x2
  refine Keeps.ite ?_ ?_
  · extract_lets +onlyGivenNames x3 x4 x5
    have h6 : Keeps m r x5 := setTkn_keeps (hm.mono rfl) hs
    clear_value x5
    exact applyStream_keeps hm h6
  · refine Keeps.ite ?_ (Keeps.ite (setTkn_keeps (hm.mono rfl) hs) hs)
    extract_lets +onlyGivenNames x7 x8
    have h9 : Keeps m r x8 := setTkn_keeps (hm.mono rfl) hs
    clear_value x8
    exact applyStream_keeps hm h9

theorem foreignLatch_keeps {m : Nat} {r : State} {b0 : ℕ} {b1 : List Byte} {s : State} (hm : Sub 536870912 m) (hs : Keeps m r
    s) :
    Keeps m r (foreignLatch b0 b1 s) := by
  unfold foreignLatch
  extract_lets +onlyGivenNames x1 x2 x3
  exact setBal_keeps hm hs

theorem itemTaken_keeps {m : Nat} {r : State} {b0 : ℕ} {b1 : List Byte} {s : State} (hm : Sub 4722366481787313455101 m) (hs :
    Keeps m r s) :
    Keeps m r (itemTaken b0 b1 s) := by
  unfold itemTaken
  extract_lets +onlyGivenNames x1 x2
  split
  · rename_i y4 e5
    exact Keeps.ite (streamTaken_keeps hm hs) hs
  · rename_i y6 e7
    exact Keeps.ite (ackTaken_keeps (hm.mono rfl) hs) hs
  · rename_i y8 e9
    exact setTkn_keeps (hm.mono rfl) hs
  · rename_i y10 e11 e12 e13
    extract_lets +onlyGivenNames x14
    refine Keeps.ite hs ?_
    extract_lets +onlyGivenNames x15 x16
    have h17 : Keeps m r x16 := setTkn_keeps (hm.mono rfl) hs
    clear_value x16
    exact Keeps.ite (eventTaken_keeps (hm.mono rfl) h17) (foreignLatch_keeps (hm.mono rfl) h17)

theorem itemsIn_keeps {m : Nat} {r : State} {b0 : ℕ} {b1 : List (List Byte)} {s : State} (hm : Sub 4722366481787313455101 m)
    (hs : Keeps m r s) :
    Keeps m r (itemsIn b0 b1 s) := by
  unfold itemsIn
  extract_lets +onlyGivenNames x1
  refine Keeps.foldl hs (fun s3 a2 h4 => ?_)
  refine Keeps.ite h4 ?_
  split
  · rename_i y6 y7 s8 e9
    have h10 : Keeps m r s8 := (KeepsP.of_eq e9 (hwWrite_keeps (hm.mono rfl) h4)).snd
    refine Keeps.ite h10 ?_
    split
    · rename_i y12 y13 s14 e15
      have h16 : Keeps m r s14 := (KeepsP.of_eq e15 (coreTake_keeps (hm.mono rfl) h10)).snd
      exact itemTaken_keeps hm h16
    · rename_i y17 s18 e19
      have h20 : Keeps m r s18 := (KeepsP.of_eq e19 (coreTake_keeps (hm.mono rfl) h10)).snd
      exact h20

theorem slotFrame_keeps {m : Nat} {r : State} {b0 : ℕ} {b1 : ℕ} {b2 : ℕ} {b3 : ℕ} {b4 : List Byte} {s : State} (hm : Sub
    4722366481787313455101 m) (hs : Keeps m r s) :
    Keeps m r (slotFrame b0 b1 b2 b3 b4 s) := by
  unfold slotFrame
  refine Keeps.ite hs ?_
  extract_lets +onlyGivenNames x1
  have h2 : Keeps m r x1 := hbTaken_keeps (hm.mono rfl) hs
  clear_value x1
  extract_lets +onlyGivenNames x3 x4
  have h5 : Keeps m r x4 := Keeps.ite (admitSender_keeps (hm.mono rfl) h2) h2
  clear_value x4
  extract_lets +onlyGivenNames x6
  have h7 : Keeps m r x6 := captureEvent_keeps (hm.mono rfl) h5
  clear_value x6
  extract_lets +onlyGivenNames x8
  have h9 : Keeps m r x8 := Keeps.ite (Keeps.ite (linkSample_keeps (hm.mono rfl) h7) h7) h5
  clear_value x8
  exact readySettle_keeps (hm.mono rfl) (itemsIn_keeps hm h9)

theorem linkReceive_keeps {m : Nat} {r : State} {b0 : List Byte} {b1 : ℕ} {b2 : ℕ} {s : State} (hm : Sub
    4722366481787313455101 m) (hs : Keeps m r s) :
    Keeps m r (linkReceive b0 b1 b2 s) := by
  unfold linkReceive
  refine Keeps.ite hs ?_
  refine Keeps.ite (bump_keeps (hm.mono rfl) hs) ?_
  split
  · rename_i y2 y3 y4 y5 e6
    exact cycleFrame_keeps (hm.mono rfl) hs
  · rename_i y7 y8 y9 y10 y11 e12
    exact slotFrame_keeps hm hs
  · rename_i y13 e14 e15
    exact hs

theorem execLinkFrameReceive_keeps {m : Nat} {r : State} {b0 : List (BitVec 8)} {b1 : ℕ} {b2 : ℕ} {s : State} (hm : Sub
    4722366481787313455101 m) (hs : Keeps m r s) :
    NextKeeps m r (execLinkFrameReceive b0 b1 b2 s) := by
  unfold execLinkFrameReceive
  exact NextKeeps.next (linkReceive_keeps hm hs)

/-! ### PathClock -/

theorem plenSwitch_keeps {m : Nat} {r : State} {s : State} (hm : Sub 4722366481770133589004 m) (hs : Keeps m r s) :
    Keeps m r (plenSwitch s) := by
  unfold plenSwitch
  extract_lets +onlyGivenNames x1 x2
  have h3 : Keeps m r x2 := transferShadows_keeps (hm.mono rfl) (Keeps.set_ntb (hm.mono rfl) hs)
  clear_value x2
  exact cmpPlenCheck_keeps (hm.mono rfl) (raise_keeps (hm.mono rfl) (setFld_keeps (hm.mono rfl) h3))

theorem intervalChange_keeps {m : Nat} {r : State} {b0 : ℕ} {s : State} (hm : Sub 4722366481778725618700 m) (hs : Keeps m r s) :
    Keeps m r (intervalChange b0 s) := by
  unfold intervalChange
  extract_lets +onlyGivenNames x1
  refine Keeps.ite ?_ hs
  refine fwField_keeps (hm.mono rfl) (fun a2 a3 a4 a5 a6 a7 => ?_) hs
  exact mtrWritten_keeps hm a7

theorem routePulse_keeps {m : Nat} {r : State} {b0 : ℕ} {b1 : Bool} {s : State} (hm : Sub 4722366481770699032589 m) (hs :
    Keeps m r s) :
    Keeps m r (routePulse b0 b1 s) := by
  unfold routePulse
  extract_lets +onlyGivenNames x1 x2 x3
  refine Keeps.ite hs ?_
  extract_lets +onlyGivenNames x4 x5
  have h6 : Keeps m r x5 := Keeps.set_ntb (hm.mono rfl) hs
  clear_value x5
  clear_value x1
  split
  · rename_i y8
    exact Keeps.ite (Keeps.set_ntb (hm.mono rfl) h6) h6
  · rename_i y9
    extract_lets +onlyGivenNames x10 x11
    have h12 : Keeps m r x11 := routePulse2_keeps (hm.mono rfl) h6
    clear_value x11
    exact Keeps.ite (balanceWindow_keeps (hm.mono rfl) h12) h12
  · rename_i y13
    exact routePulse3_keeps (hm.mono rfl) h6
  · rename_i y14
    exact updPulse_keeps (hm.mono rfl) h6
  · rename_i y15
    exact routePulse5_keeps (hm.mono rfl) h6
  · rename_i y16
    exact gpioFire_keeps (hm.mono rfl) h6
  · rename_i y17 e18 e19 e20 e21 e22 e23
    exact tteOpen_keeps (hm.mono rfl) h6

theorem intervalRearm_keeps {m : Nat} {r : State} {s : State} (hm : Sub 4722366481770133589004 m) (hs : Keeps m r s) :
    Keeps m r (intervalRearm s) := by
  unfold intervalRearm
  extract_lets +onlyGivenNames x1
  exact Keeps.ite (cmpTime_keeps hm hs) hs

theorem cmpFire_keeps {m : Nat} {r : State} {b0 : ℕ} {b1 : ℕ} {b2 : Bool} {s : State} (hm : Sub 4722366481779288968205 m) (hs
    : Keeps m r s) :
    Keeps m r (cmpFire b0 b1 b2 s) := by
  unfold cmpFire
  extract_lets +onlyGivenNames x1 x2
  have h3 : Keeps m r x2 := setBool_keeps (regMask.any (hm.mono rfl)) (raise_keeps (hm.mono rfl) (raise_keeps (regMask.any
      (hm.mono rfl)) hs))
  clear_value x2
  extract_lets +onlyGivenNames x4
  have h5 : Keeps m r x4 := Keeps.ite (raise_keeps (regMask.any (hm.mono rfl)) h3) h3
  clear_value x4
  extract_lets +onlyGivenNames x6 x7
  have h8 : Keeps m r x7 := Keeps.ite (intervalChange_keeps (hm.mono rfl) h5) h5
  clear_value x7
  extract_lets +onlyGivenNames x9
  have h10 : Keeps m r x9 := routePulse_keeps (hm.mono rfl) h8
  clear_value x9
  exact Keeps.ite (intervalRearm_keeps (hm.mono rfl) h10) (Keeps.ite (meterSave_keeps (hm.mono rfl) h10) h10)

theorem pathFire_keeps {m : Nat} {r : State} {b0 : ℕ} {b1 : ℕ} {b2 : Bool} {s : State} (hm : Sub 4722366481779288968205 m)
    (hs : Keeps m r s) :
    Keeps m r (pathFire b0 b1 b2 s) := by
  unfold pathFire
  exact cmpFire_keeps hm (cmpDisarm_keeps (hm.mono rfl) hs)

theorem timeFire_keeps {m : Nat} {r : State} {b0 : ℕ} {b1 : Bool} {s : State} (hm : Sub 4722366481779288968205 m) (hs : Keeps
    m r s) :
    Keeps m r (timeFire b0 b1 s) := by
  unfold timeFire
  extract_lets +onlyGivenNames x1 x2 x3 x4
  have h5 : Keeps m r x4 := by
    unfold x4
    refine Keeps.ite ?_ ?_
    · exact lower_keeps (regMask.any (hm.mono rfl)) hs
    · exact Keeps.ite (setCmpNext_keeps (hm.mono rfl) (bump_keeps (regMask.any (hm.mono rfl)) hs)) (setCmpNext_keeps (hm.mono
          rfl) hs)
  clear_value x4
  exact cmpFire_keeps hm h5

theorem jumpFire_keeps {m : Nat} {r : State} {b0 : Bool} {b1 : ℕ} {s : State} (hm : Sub 4722366481779288968205 m) (hs : Keeps
    m r s) :
    Keeps m r (jumpFire b0 b1 s) := by
  unfold jumpFire
  refine Keeps.upTo hs (fun i1 s2 h3 => ?_)
  extract_lets +onlyGivenNames x4 x5
  split
  · rename_i y7 y8 e9
    refine Keeps.ite ?_ h3
    refine Keeps.ite ?_ (pathFire_keeps hm h3)
    refine Keeps.ite (bump_keeps (regMask.any (hm.mono rfl)) (pathFire_keeps hm h3)) ?_
    extract_lets +onlyGivenNames x10
    have h11 : Keeps m r x10 := pathFire_keeps hm h3
    clear_value x10
    exact Keeps.set_ntb (hm.mono rfl) h11
  · rename_i y12 e13
    exact Keeps.ite (Keeps.ite (pathFire_keeps hm h3) (Keeps.set_ntb (hm.mono rfl) h3)) (Keeps.ite (timeFire_keeps hm h3) h3)

theorem tokenBoundary_keeps {m : Nat} {r : State} {s : State} (hm : Sub 4722366481770134643724 m) (hs : Keeps m r s) :
    Keeps m r (tokenBoundary s) := by
  unfold tokenBoundary
  extract_lets +onlyGivenNames x1 x2
  have h3 : Keeps m r x2 := tknSettle_keeps hm (transferShadows_keeps (hm.mono rfl) hs)
  clear_value x2
  exact Keeps.ite h3 (tokenCounters_keeps (hm.mono rfl) h3)

theorem firmwareBoundary_keeps {m : Nat} {r : State} {b0 : ℕ} {s : State} (hm : Sub 4722366481783086969885 m) (hs : Keeps m r
    s) :
    Keeps m r (firmwareBoundary b0 s) := by
  unfold firmwareBoundary
  refine Keeps.ite hs ?_
  extract_lets +onlyGivenNames x1
  have h2 : Keeps m r x1 := groupStep_keeps (hm.mono rfl) hs
  clear_value x1
  extract_lets +onlyGivenNames x3
  have h4 : Keeps m r x3 := Keeps.ite (epochTimetable_keeps (hm.mono rfl) h2) h2
  clear_value x3
  exact pairUpdate_keeps (hm.mono rfl) (splitResolved_keeps (hm.mono rfl) (distBoundary_keeps (hm.mono rfl) h4))

theorem pathBoundary_keeps {m : Nat} {r : State} {b0 : ℕ} {b1 : PathObs} {s : State} (hm : Sub 4722366481785268730909 m) (hs
    : Keeps m r s) :
    Keeps m r (pathBoundary b0 b1 s) := by
  unfold pathBoundary
  extract_lets +onlyGivenNames x1
  have h2 : Keeps m r x1 := radioBoundary_keeps (hm.mono rfl) hs
  clear_value x1
  extract_lets +onlyGivenNames x3 x4
  have h5 : Keeps m r x4 := Keeps.set_ntb (hm.mono rfl) h2
  clear_value x4
  extract_lets +onlyGivenNames x6
  have h7 : Keeps m r x6 := raise_keeps (hm.mono rfl) h5
  clear_value x6
  extract_lets +onlyGivenNames x8
  have h9 : Keeps m r x8 := Keeps.ite (raise_keeps (hm.mono rfl) h7) h7
  clear_value x8
  extract_lets +onlyGivenNames x10
  have h11 : Keeps m r x10 := transferShadows_keeps (hm.mono rfl) (transferShadows_keeps (hm.mono rfl) h9)
  clear_value x10
  extract_lets +onlyGivenNames x12 x13
  have h14 : Keeps m r x13 := Keeps.ite (transferShadows_keeps (hm.mono rfl) (transferShadows_keeps (hm.mono rfl) h11)) h11
  clear_value x13
  extract_lets +onlyGivenNames x15
  have h16 : Keeps m r x15 := Keeps.ite h14 (raise_keeps (hm.mono rfl) h14)
  clear_value x15
  extract_lets +onlyGivenNames x17
  have h18 : Keeps m r x17 := Keeps.ite (tokenBoundary_keeps (hm.mono rfl) h16) h16
  clear_value x17
  extract_lets +onlyGivenNames x19
  have h20 : Keeps m r x19 := handoverBoundary_keeps (hm.mono rfl) h18
  clear_value x19
  extract_lets +onlyGivenNames x21
  have h22 : Keeps m r x21 := Keeps.ite (radioTimetable_keeps (hm.mono rfl) h20) h20
  clear_value x21
  extract_lets +onlyGivenNames x23
  have h24 : Keeps m r x23 := tteBoundary_keeps (hm.mono rfl) h22
  clear_value x23
  exact rfeShow_keeps (hm.mono rfl) (firmwareBoundary_keeps (hm.mono rfl) h24)

theorem adjustApply_keeps {m : Nat} {r : State} {b0 : TimeAdj} {b1 : PathObs} {s : State} (hm : Sub 4722366481786101300253 m)
    (hs : Keeps m r s) :
    Keeps m r (adjustApply b0 b1 s) := by
  unfold adjustApply
  extract_lets +onlyGivenNames x1 x2
  have h3 : Keeps m r x2 := lower_keeps (hm.mono rfl) (Keeps.set_ntb (hm.mono rfl) hs)
  clear_value x2
  extract_lets +onlyGivenNames x4 x5 x6 x7
  have h8 : Keeps m r x7 := setFld_keeps (hm.mono rfl) h3
  clear_value x7
  extract_lets +onlyGivenNames x9
  refine Keeps.ite (post_keeps (hm.mono rfl) (raise_keeps (hm.mono rfl) h8)) ?_
  extract_lets +onlyGivenNames x10 x11 x12 x13 x14
  have h15 : Keeps m r x14 := Keeps.set_ntb (hm.mono rfl) h8
  clear_value x14
  extract_lets +onlyGivenNames x16
  have h17 : Keeps m r x16 := raise_keeps (hm.mono rfl) (setFld_keeps (hm.mono rfl) h15)
  clear_value x16
  extract_lets +onlyGivenNames x18
  have h19 : Keeps m r x18 := post_keeps (hm.mono rfl) h17
  clear_value x18
  extract_lets +onlyGivenNames x20 x21
  have h22 : Keeps m r x21 := Keeps.ite (setNodes_keeps (hm.mono rfl) h19) h19
  clear_value x21
  extract_lets +onlyGivenNames x23
  have h24 : Keeps m r x23 := Keeps.ite (schedEvaluate_keeps (hm.mono rfl) h22) h22
  clear_value x23
  refine Keeps.ite ?_ h24
  extract_lets +onlyGivenNames x25 x26
  have h27 : Keeps m r x26 := Keeps.ite (plenSwitch_keeps (hm.mono rfl) h24) h24
  clear_value x26
  extract_lets +onlyGivenNames x28
  exact jumpFire_keeps (hm.mono rfl) (Keeps.ite (pathBoundary_keeps (hm.mono rfl) h27) h27)

theorem armWaiting_keeps {m : Nat} {r : State} {b0 : ℕ} {s : State} (hm : Sub 4722366481779288968205 m) (hs : Keeps m r s) :
    Keeps m r (armWaiting b0 s) := by
  unfold armWaiting
  refine Keeps.upTo hs (fun i1 s2 h3 => ?_)
  refine Keeps.ite ?_ h3
  extract_lets +onlyGivenNames x4
  have h5 : Keeps m r x4 := by
    unfold x4
    split
    · rename_i y7 y8 e9
      exact pathFire_keeps hm h3
    · rename_i y10 e11
      exact h3
  clear_value x4
  exact Keeps.set_ntb (hm.mono rfl) h5

theorem comparatorFire_keeps {m : Nat} {r : State} {b0 : ℕ} {s : State} (hm : Sub 4722366481779288968205 m) (hs : Keeps m r s) :
    Keeps m r (comparatorFire b0 s) := by
  unfold comparatorFire
  refine Keeps.ite hs ?_
  split
  · rename_i y2 y3 e4
    exact Keeps.ite (pathFire_keeps hm hs) hs
  · rename_i y5 e6
    exact Keeps.ite (timeFire_keeps hm hs) hs

theorem execComparatorFire_keeps {m : Nat} {r : State} {b0 : ℕ} {s : State} (hm : Sub 4722366481779288968205 m) (hs : Keeps m
    r s) :
    NextKeeps m r (execComparatorFire b0 s) := by
  unfold execComparatorFire
  exact NextKeeps.next (comparatorFire_keeps hm hs)

theorem pathClock_keeps {m : Nat} {r : State} {b0 : PathObs} {s : State} (hm : Sub 4722366481785832864797 m) (hs : Keeps m r
    s) :
    Keeps m r (pathClock b0 s) := by
  unfold pathClock
  extract_lets +onlyGivenNames x1
  exact armWaiting_keeps (hm.mono rfl) (pathBoundary_keeps (hm.mono rfl) hs)

theorem execPathBoundary_keeps {m : Nat} {r : State} {b0 : PathObs} {s : State} (hm : Sub 4722366481785832864797 m) (hs :
    Keeps m r s) :
    NextKeeps m r (execPathBoundary b0 s) := by
  unfold execPathBoundary
  exact NextKeeps.next (Keeps.ite (pathClock_keeps hm hs) hs)

theorem execPathLengthChange_keeps {m : Nat} {r : State} {b0 : PathObs} {s : State} (hm : Sub 4722366481785832864797 m) (hs :
    Keeps m r s) :
    NextKeeps m r (execPathLengthChange b0 s) := by
  unfold execPathLengthChange
  exact NextKeeps.next (Keeps.ite (pathClock_keeps hm (plenSwitch_keeps (hm.mono rfl) hs)) hs)

theorem frameReceived_keeps {m : Nat} {r : State} {b0 : RxFrame} {s : State} (hm : Sub 4722366481770134991901 m) (hs : Keeps
    m r s) :
    Keeps m r (frameReceived b0 s) := by
  unfold frameReceived
  split
  · rename_i y2 s3 e4
    have h5 : Keeps m r s3 := (KeepsP.of_eq e4 (receiveFrame_keeps (hm.mono rfl) hs)).snd
    exact h5
  · rename_i y6 y7 s8 e9
    have h10 : Keeps m r s8 := (KeepsP.of_eq e9 (receiveFrame_keeps (hm.mono rfl) hs)).snd
    extract_lets +onlyGivenNames x11
    exact Keeps.ite (beaconCompare_keeps (hm.mono rfl) h10) h10

theorem execRxFrame_keeps {m : Nat} {r : State} {b0 : RxFrame} {s : State} (hm : Sub 4722366481770134991901 m) (hs : Keeps m
    r s) :
    NextKeeps m r (execRxFrame b0 s) := by
  unfold execRxFrame
  exact NextKeeps.next (frameReceived_keeps hm hs)

theorem execTimeAdjustApply_keeps {m : Nat} {r : State} {b0 : PathObs} {s : State} (hm : Sub 4722366481786101300253 m) (hs :
    Keeps m r s) :
    NextKeeps m r (execTimeAdjustApply b0 s) := by
  unfold execTimeAdjustApply
  refine NextKeeps.next ?_
  split
  · rename_i y2 y3 e4
    exact Keeps.ite (adjustApply_keeps hm hs) hs
  · rename_i y5 e6
    exact hs

/-! ### Start -/

theorem bankSelect_keeps {m : Nat} {r : State} {s : State} (hm : Sub 18014411394383900 m) (hs : Keeps m r s) :
    KeepsP m r (bankSelect s) := by
  unfold bankSelect
  extract_lets +onlyGivenNames x1 x2 x3 x4 x5 x6 x7 x8 x9 x10
  have h11 : Keeps m r x10 := Keeps.ite (bootWrite_keeps (hm.mono rfl) hs) hs
  clear_value x10
  extract_lets +onlyGivenNames x12 x13
  have h14 : Keeps m r x13 := Keeps.ite h11 (bootWrite_keeps (hm.mono rfl) (setBankState_keeps (hm.mono rfl)
      (setBankState_keeps (hm.mono rfl) h11)))
  clear_value x13
  extract_lets +onlyGivenNames x15
  refine KeepsP.mk' ?_
  refine fwWrite_keeps (hm.mono rfl) (fun a16 a17 a18 a19 a20 a21 => ?_) h14
  exact updWritten_keeps (hm.mono rfl) a21

theorem bootOutcome_keeps {m : Nat} {r : State} {s : State} (hm : Sub 4722366481787313455101 m) (hs : Keeps m r s) :
    Keeps m r (bootOutcome s) := by
  unfold bootOutcome
  extract_lets +onlyGivenNames x1
  exact Keeps.ite (Keeps.ite (revertTrial_keeps hm hs) (postFnd_keeps (hm.mono rfl) (bootWrite_keeps (hm.mono rfl)
      (setBankState_keeps (hm.mono rfl) hs)))) hs

theorem bootRom_keeps {m : Nat} {r : State} {b0 : Bool} {s : State} (hm : Sub 4722366481783052095261 m) (hs : Keeps m r s) :
    Keeps m r (bootRom b0 s) := by
  unfold bootRom
  refine Keeps.ite hs ?_
  extract_lets +onlyGivenNames x1 x2
  have h3 : Keeps m r x2 := setSys_keeps (hm.mono rfl) hs
  clear_value x2
  extract_lets +onlyGivenNames x4
  have h5 : Keeps m r x4 := Keeps.ite h3 (raise_keeps (hm.mono rfl) h3)
  clear_value x4
  extract_lets +onlyGivenNames x6
  have h7 : Keeps m r x6 := by
    unfold x6
    refine fwWrite_keeps (hm.mono rfl) (fun a8 a9 a10 a11 a12 a13 => ?_) h5
    exact kvtWrittenWith_keeps (hm.mono rfl) a13
  clear_value x6
  extract_lets +onlyGivenNames x14
  have h15 : Keeps m r x14 := by
    unfold x14
    refine raise_keeps (hm.mono rfl) ?_
    refine fwField_keeps (hm.mono rfl) (fun a16 a17 a18 a19 a20 a21 => ?_) h7
    exact bscWritten_keeps (hm.mono rfl) a21
  clear_value x14
  extract_lets +onlyGivenNames x22
  have h23 : Keeps m r x22 := by
    unfold x22
    refine fwField_keeps (hm.mono rfl) (fun a24 a25 a26 a27 a28 a29 => ?_) h15
    exact ntbWritten_keeps (hm.mono rfl) a29
  clear_value x22
  split
  · rename_i y31 y32 s33 e34
    have h35 : Keeps m r s33 := (KeepsP.of_eq e34 (bankSelect_keeps (hm.mono rfl) h23)).snd
    exact setPwr_keeps (hm.mono rfl) h35

theorem busRates_keeps {m : Nat} {r : State} {s : State} (hm : Sub 35184376283148 m) (hs : Keeps m r s) :
    Keeps m r (busRates s) := by
  unfold busRates
  extract_lets +onlyGivenNames x1 x2 x3
  have h4 : Keeps m r x3 := by
    unfold x3
    refine fwWrite_keeps (hm.mono rfl) (fun a5 a6 a7 a8 a9 a10 => ?_) hs
    exact fbcWritten_keeps hm a10
  clear_value x3
  extract_lets +onlyGivenNames x11 x12 x13 x14
  have h15 : Keeps m r x14 := by
    unfold x14
    refine fwWrite_keeps (hm.mono rfl) (fun a16 a17 a18 a19 a20 a21 => ?_) h4
    exact fbcWritten_keeps hm a21
  clear_value x14
  refine fwWrite_keeps (hm.mono rfl) (fun a22 a23 a24 a25 a26 a27 => ?_) h15
  exact fbcWritten_keeps hm a27

theorem busStart_keeps {m : Nat} {r : State} {s : State} (hm : Sub 35184376283148 m) (hs : Keeps m r s) :
    Keeps m r (busStart s) := by
  unfold busStart
  extract_lets +onlyGivenNames x1
  have h2 : Keeps m r x1 := by
    unfold x1
    refine fwWrite_keeps (hm.mono rfl) (fun a3 a4 a5 a6 a7 a8 => ?_) hs
    exact fbcWritten_keeps hm a8
  clear_value x1
  extract_lets +onlyGivenNames x9
  have h10 : Keeps m r x9 := by
    unfold x9
    refine fwField_keeps (hm.mono rfl) (fun a11 a12 a13 a14 a15 a16 => ?_) h2
    exact fbcWritten_keeps hm a16
  clear_value x9
  refine claimBegin_keeps hm ?_
  refine fwWrite_keeps (hm.mono rfl) (fun a17 a18 a19 a20 a21 a22 => ?_) h10
  exact fbcWritten_keeps hm a22

theorem coreOneLoad_keeps {m : Nat} {r : State} {s : State} (hm : Sub 4722366481787313455069 m) (hs : Keeps m r s) :
    Keeps m r (coreOneLoad s) := by
  unfold coreOneLoad
  extract_lets +onlyGivenNames x1
  have h2 : ∀ a3 a4 s5, Keeps m r s5 → Keeps m r (x1 a3 a4 s5) := by
    intro a3 a4 s5 h6
    unfold x1
    refine fwWrite_keeps (regMask.anyOr (hm.mono rfl)) (fun a7 a8 a9 a10 a11 a12 => ?_) h6
    exact planeWritten_keeps hm a12
  clear_value x1
  extract_lets +onlyGivenNames x13
  have h14 : Keeps m r x13 := @h2 _ _ _ (@h2 _ _ _ (@h2 _ _ _ (@h2 _ _ _ hs)))
  clear_value x13
  extract_lets +onlyGivenNames x15 x16
  have h17 : Keeps m r x16 := by
    unfold x16
    refine fwWrite_keeps (hm.mono rfl) (fun a18 a19 a20 a21 a22 a23 => ?_) (@h2 _ _ _ h14)
    exact planeWritten_keeps hm a23
  clear_value x16
  refine fwWrite_keeps (hm.mono rfl) (fun a24 a25 a26 a27 a28 a29 => ?_) h17
  exact planeWritten_keeps hm a29

theorem execBootRom_keeps {m : Nat} {r : State} {b0 : Bool} {s : State} (hm : Sub 4722366481783052095261 m) (hs : Keeps m r s) :
    NextKeeps m r (execBootRom b0 s) := by
  unfold execBootRom
  exact NextKeeps.next (bootRom_keeps hm hs)

theorem planeSeal_keeps {m : Nat} {r : State} {s : State} (hm : Sub 4722366481787313455068 m) (hs : Keeps m r s) :
    Keeps m r (planeSeal s) := by
  unfold planeSeal
  refine Keeps.ite hs ?_
  extract_lets +onlyGivenNames x1
  have h2 : Keeps m r x1 := by
    unfold x1
    refine fwWrite_keeps (hm.mono rfl) (fun a3 a4 a5 a6 a7 a8 => ?_) hs
    exact sysWritten_keeps hm a8
  clear_value x1
  refine Keeps.ite ?_ h2
  refine fwField_keeps (hm.mono rfl) (fun a9 a10 a11 a12 a13 a14 => ?_) h2
  exact sysWritten_keeps hm a14

theorem startFinish_keeps {m : Nat} {r : State} {s : State} (hm : Sub 4722366481787313455068 m) (hs : Keeps m r s) :
    Keeps m r (startFinish s) := by
  unfold startFinish
  refine Keeps.ite hs ?_
  extract_lets +onlyGivenNames x1
  refine planeSeal_keeps hm ?_
  refine fwField_keeps (hm.mono rfl) (fun a2 a3 a4 a5 a6 a7 => ?_) hs
  exact sdcWritten_keeps (hm.mono rfl) a7

theorem execCycleComplete_keeps {m : Nat} {r : State} {s : State} (hm : Sub 4722366481787313455068 m) (hs : Keeps m r s) :
    NextKeeps m r (execCycleComplete s) := by
  unfold execCycleComplete
  exact NextKeeps.next (startFinish_keeps hm (cycleEnded_keeps (hm.mono rfl) hs))

theorem startCause_keeps {m : Nat} {r : State} {s : State} (hm : Sub 4504707728999492 m) (hs : Keeps m r s) :
    Keeps m r (startCause s) := by
  unfold startCause
  extract_lets +onlyGivenNames x1 x2 x3
  have h4 : Keeps m r x3 := postFnd_keeps (hm.mono rfl) (odSet_keeps (hm.mono rfl) hs)
  clear_value x3
  extract_lets +onlyGivenNames x5
  have h6 : Keeps m r x5 := setReg_keeps (hm.mono rfl) h4
  clear_value x5
  extract_lets +onlyGivenNames x7 x8 x9
  have h10 : Keeps m r x9 := Keeps.set_nv (hm.mono rfl) h6
  clear_value x9
  extract_lets +onlyGivenNames x11
  exact Keeps.ite (faultRaise_keeps (hm.mono rfl) h10) h10

theorem recorderStart_keeps {m : Nat} {r : State} {s : State} (hm : Sub 4503608217306172 m) (hs : Keeps m r s) :
    Keeps m r (recorderStart s) := by
  unfold recorderStart
  extract_lets +onlyGivenNames x1 x2
  have h3 : Keeps m r x2 := by
    unfold x2
    refine Keeps.foldl hs (fun s5 a4 h6 => ?_)
    exact recordDurable_keeps (hm.mono rfl) h6
  clear_value x2
  extract_lets +onlyGivenNames x7
  have h8 : Keeps m r x7 := Keeps.ite (spillInvalidate_keeps (hm.mono rfl) (setEvrSeq_keeps (hm.mono rfl) h3)) (post_keeps
      (hm.mono rfl) (setEvrSeq_keeps (hm.mono rfl) hs))
  clear_value x7
  refine fwField_keeps (hm.mono rfl) (fun a9 a10 a11 a12 a13 a14 => ?_) h8
  exact evrWritten_keeps (hm.mono rfl) a14

theorem queuesStart_keeps {m : Nat} {r : State} {s : State} (hm : Sub 4722366481770133591052 m) (hs : Keeps m r s) :
    Keeps m r (queuesStart s) := by
  unfold queuesStart
  extract_lets +onlyGivenNames x1
  have h2 : KeepsP m r x1 := by
    unfold x1
    refine KeepsP.foldl (KeepsP.mk' hs) (fun s4 a3 h5 => ?_)
    refine KeepsP.mk' ?_
    refine fwWrite_keeps (regMask.anyOr (hm.mono rfl)) (fun a6 a7 a8 a9 a10 a11 => ?_) h5.snd
    exact pquWritten_keeps hm a11
  clear_value x1
  extract_lets +onlyGivenNames x12
  have h13 : Keeps m r x12 := h2.snd
  clear_value x12
  extract_lets +onlyGivenNames x14
  have h15 : ∀ a16 a17 a18 s19, Keeps m r s19 → Keeps m r (x14 a16 a17 a18 s19) := by
    intro a16 a17 a18 s19 h20
    unfold x14
    refine fwWrite_keeps (regMask.anyOr (hm.mono rfl)) (fun a21 a22 a23 a24 a25 a26 => ?_) h20
    exact pquWritten_keeps hm a26
  clear_value x14
  refine fwField_keeps (hm.mono rfl) (fun a27 a28 a29 a30 a31 a32 => ?_) (@h15 _ _ _ _ (@h15 _ _ _ _ (@h15 _ _ _ _ (@h15 _ _
      _ _ (@h15 _ _ _ _ (@h15 _ _ _ _ h13))))))
  exact pquWritten_keeps hm a32

theorem pairLoad_keeps {m : Nat} {r : State} {s : State} (hm : Sub 4722366481770134643724 m) (hs : Keeps m r s) :
    Keeps m r (pairLoad s) := by
  unfold pairLoad
  extract_lets +onlyGivenNames x1 x2 x3
  have h4 : Keeps m r x3 := by
    unfold x3
    refine fwWrite_keeps (hm.mono rfl) (fun a5 a6 a7 a8 a9 a10 => ?_) hs
    exact tknWritten_keeps hm a10
  clear_value x3
  extract_lets +onlyGivenNames x11
  refine setFld_keeps (hm.mono rfl) ?_
  refine fwField_keeps (hm.mono rfl) (fun a12 a13 a14 a15 a16 a17 => ?_) h4
  exact tknWritten_keeps hm a17

theorem sidingsLoad_keeps {m : Nat} {r : State} {s : State} (hm : Sub 4722366481770134637580 m) (hs : Keeps m r s) :
    Keeps m r (sidingsLoad s) := by
  unfold sidingsLoad
  extract_lets +onlyGivenNames x1
  have h2 : Keeps m r x1 := by
    unfold x1
    refine Keeps.upTo hs (fun i3 s4 h5 => ?_)
    exact coefApply_keeps (hm.mono rfl) h5
  clear_value x1
  extract_lets +onlyGivenNames x6
  have h7 : Keeps m r x6 := by
    unfold x6
    refine Keeps.upTo h2 (fun i8 s9 h10 => ?_)
    exact Keeps.ite (matrixApply_keeps (hm.mono rfl) h10) h10
  clear_value x6
  extract_lets +onlyGivenNames x11
  have h12 : Keeps m r x11 := by
    unfold x11
    refine Keeps.upTo h7 (fun i13 s14 h15 => ?_)
    exact deviceApply_keeps (hm.mono rfl) h15
  clear_value x11
  extract_lets +onlyGivenNames x16
  refine chainComparator_keeps (hm.mono rfl) ?_
  refine Keeps.foldl h12 (fun s18 a17 h19 => ?_)
  exact channelApply_keeps (hm.mono rfl) h19

theorem fieldsLoad_keeps {m : Nat} {r : State} {s : State} (hm : Sub 4722366481787313455069 m) (hs : Keeps m r s) :
    Keeps m r (fieldsLoad s) := by
  unfold fieldsLoad
  refine Keeps.foldl hs (fun s2 a1 h3 => ?_)
  exact Keeps.ite (fieldsWrite_keeps hm h3) h3

theorem settingsLoad_keeps {m : Nat} {r : State} {s : State} (hm : Sub 4722366481787313455069 m) (hs : Keeps m r s) :
    Keeps m r (settingsLoad s) := by
  unfold settingsLoad
  extract_lets +onlyGivenNames x1
  have h2 : Keeps m r x1 := queuesStart_keeps (hm.mono rfl) hs
  clear_value x1
  extract_lets +onlyGivenNames x3
  have h4 : Keeps m r x3 := by
    unfold x3
    refine fwField_keeps (hm.mono rfl) (fun a5 a6 a7 a8 a9 a10 => ?_) h2
    exact ntbWritten_keeps (hm.mono rfl) a10
  clear_value x3
  extract_lets +onlyGivenNames x11
  have h12 : Keeps m r x11 := pairLoad_keeps (hm.mono rfl) h4
  clear_value x11
  extract_lets +onlyGivenNames x13
  have h14 : Keeps m r x13 := coreOneLoad_keeps hm (busRates_keeps (hm.mono rfl) h12)
  clear_value x13
  extract_lets +onlyGivenNames x15
  have h16 : Keeps m r x15 := by
    unfold x15
    refine fwField_keeps (hm.mono rfl) (fun a17 a18 a19 a20 a21 a22 => ?_) h14
    exact planeWritten_keeps hm a22
  clear_value x15
  extract_lets +onlyGivenNames x23
  have h24 : Keeps m r x23 := by
    unfold x23
    refine fwField_keeps (hm.mono rfl) (fun a25 a26 a27 a28 a29 a30 => ?_) ?_
    · exact planeWritten_keeps hm a30
    · refine fwField_keeps (hm.mono rfl) (fun a31 a32 a33 a34 a35 a36 => ?_) h16
      exact planeWritten_keeps hm a36
  clear_value x23
  extract_lets +onlyGivenNames x37
  have h38 : Keeps m r x37 := by
    unfold x37
    refine fwField_keeps (hm.mono rfl) (fun a39 a40 a41 a42 a43 a44 => ?_) h24
    exact planeWritten_keeps hm a44
  clear_value x37
  extract_lets +onlyGivenNames x45
  have h46 : Keeps m r x45 := Keeps.ite (profileWrite_keeps hm h38) h38
  clear_value x45
  extract_lets +onlyGivenNames x47
  have h48 : Keeps m r x47 := sidingsLoad_keeps (hm.mono rfl) (chargerEffects_keeps (hm.mono rfl) (dinShow_keeps (hm.mono
      rfl) (fieldsLoad_keeps hm h46)))
  clear_value x47
  extract_lets +onlyGivenNames x49
  have h50 : Keeps m r x49 := by
    unfold x49
    refine fwField_keeps (hm.mono rfl) (fun a51 a52 a53 a54 a55 a56 => ?_) h48
    exact iocWritten_keeps (hm.mono rfl) a56
  clear_value x49
  extract_lets +onlyGivenNames x57
  have h58 : Keeps m r x57 := by
    unfold x57
    refine fwField_keeps (hm.mono rfl) (fun a59 a60 a61 a62 a63 a64 => ?_) ?_
    · exact mtrWritten_keeps (hm.mono rfl) a64
    · refine fwField_keeps (hm.mono rfl) (fun a65 a66 a67 a68 a69 a70 => ?_) h50
      exact mtrWritten_keeps (hm.mono rfl) a70
  clear_value x57
  extract_lets +onlyGivenNames x71
  refine fwWrite_keeps (hm.mono rfl) (fun a72 a73 a74 a75 a76 a77 => ?_) h58
  exact bhnWritten_keeps (hm.mono rfl) a77

theorem vaultStart_keeps {m : Nat} {r : State} {b0 : List ℕ} {s : State} (hm : Sub 4722366481783018734621 m) (hs : Keeps m r
    s) :
    Keeps m r (vaultStart b0 s) := by
  unfold vaultStart
  extract_lets +onlyGivenNames x1
  have h2 : Keeps m r x1 := by
    unfold x1
    refine Keeps.foldl hs (fun s4 a3 h5 => ?_)
    exact post_keeps (hm.mono rfl) (changeSlot_keeps (hm.mono rfl) h5)
  clear_value x1
  extract_lets +onlyGivenNames x6
  have h7 : Keeps m r x6 := by
    unfold x6
    refine fwField_keeps (hm.mono rfl) (fun a8 a9 a10 a11 a12 a13 => ?_) h2
    exact kvtWritten_keeps (hm.mono rfl) a13
  clear_value x6
  extract_lets +onlyGivenNames x14 x15 x16 x17
  have h18 : Keeps m r x17 := loadContext_keeps (hm.mono rfl) h7
  clear_value x17
  extract_lets +onlyGivenNames x19
  have h20 : Keeps m r x19 := by
    unfold x19
    refine fwWrite_keeps (hm.mono rfl) (fun a21 a22 a23 a24 a25 a26 => ?_) (startCounter_keeps (hm.mono rfl)
        (startCounter_keeps (hm.mono rfl) h18))
    exact kvtWritten_keeps (hm.mono rfl) a26
  clear_value x19
  extract_lets +onlyGivenNames x27
  have h28 : Keeps m r x27 := by
    unfold x27
    refine Keeps.ite (faultRaise_keeps (hm.mono rfl) h7) ?_
    refine fwWrite_keeps (hm.mono rfl) (fun a29 a30 a31 a32 a33 a34 => ?_) h20
    exact kvtWritten_keeps (hm.mono rfl) a34
  clear_value x27
  exact dutyRestore_keeps (hm.mono rfl) (joinTableWrite_keeps (hm.mono rfl) h28)

theorem timeStart_keeps {m : Nat} {r : State} {s : State} (hm : Sub 4722366481786101300253 m) (hs : Keeps m r s) :
    Keeps m r (timeStart s) := by
  unfold timeStart
  extract_lets +onlyGivenNames x1
  have h2 : Keeps m r x1 := by
    unfold x1
    refine fwWrite_keeps (hm.mono rfl) (fun a3 a4 a5 a6 a7 a8 => ?_) hs
    exact mtrWritten_keeps (hm.mono rfl) a8
  clear_value x1
  extract_lets +onlyGivenNames x9
  have h10 : Keeps m r x9 := by
    unfold x9
    refine fwField_keeps (hm.mono rfl) (fun a11 a12 a13 a14 a15 a16 => ?_) h2
    exact mtrWritten_keeps (hm.mono rfl) a16
  clear_value x9
  extract_lets +onlyGivenNames x17 x18
  have h19 : Keeps m r x18 := by
    unfold x18
    refine fwWrite_keeps (hm.mono rfl) (fun a20 a21 a22 a23 a24 a25 => ?_) h10
    exact ntbWritten_keeps (hm.mono rfl) a25
  clear_value x18
  extract_lets +onlyGivenNames x26
  have h27 : Keeps m r x26 := by
    unfold x26
    refine fwWrite_keeps (hm.mono rfl) (fun a28 a29 a30 a31 a32 a33 => ?_) h19
    exact ntbWritten_keeps (hm.mono rfl) a33
  clear_value x26
  extract_lets +onlyGivenNames x34
  have h35 : Keeps m r x34 := by
    unfold x34
    refine fwWrite_keeps (hm.mono rfl) (fun a36 a37 a38 a39 a40 a41 => ?_) ?_
    · exact ntbWritten_keeps (hm.mono rfl) a41
    · refine fwWrite_keeps (hm.mono rfl) (fun a42 a43 a44 a45 a46 a47 => ?_) h27
      exact ntbWritten_keeps (hm.mono rfl) a47
  clear_value x34
  extract_lets +onlyGivenNames x48 x49
  have h50 : Keeps m r x49 := Keeps.set_ntb (hm.mono rfl) h35
  clear_value x49
  extract_lets +onlyGivenNames x51
  have h52 : Keeps m r x51 := by
    unfold x51
    refine Keeps.ite h10 ?_
    split
    · rename_i y54 y55 e56
      exact adjustApply_keeps hm h50
    · rename_i y57 e58
      exact h50
  clear_value x51
  extract_lets +onlyGivenNames x59
  exact cmpTime_keeps (hm.mono rfl) (cmpTime_keeps (hm.mono rfl) (cmpTime_keeps (hm.mono rfl) h52))

theorem zonesStart_keeps {m : Nat} {r : State} {s : State} (hm : Sub 4722366481779228490780 m) (hs : Keeps m r s) :
    Keeps m r (zonesStart s) := by
  unfold zonesStart
  extract_lets +onlyGivenNames x1
  have h2 : ∀ a3 s4, Keeps m r s4 → Keeps m r (x1 a3 s4) := by
    intro a3 s4 h5
    unfold x1
    exact setBytes_keeps (hm.mono rfl) h5
  clear_value x1
  extract_lets +onlyGivenNames x6
  have h7 : Keeps m r x6 := @h2 _ _ (@h2 _ _ hs)
  clear_value x6
  extract_lets +onlyGivenNames x8 x9
  have h10 : Keeps m r x9 := zoneApply_keeps hm h7
  clear_value x9
  extract_lets +onlyGivenNames x11 x12
  have h13 : Keeps m r x12 := Keeps.set_nv (hm.mono rfl) h10
  clear_value x12
  extract_lets +onlyGivenNames x14
  have h15 : Keeps m r x14 := by
    unfold x14
    refine Keeps.foldl h13 (fun s17 a16 h18 => ?_)
    refine Keeps.foldl h18 (fun s20 a19 h21 => ?_)
    exact setEng_keeps (hm.mono rfl) h21
  clear_value x14
  extract_lets +onlyGivenNames x22 x23
  have h24 : Keeps m r x23 := Keeps.ite h7 (lower_keeps (hm.mono rfl) (setZones_keeps (hm.mono rfl) h15))
  clear_value x23
  extract_lets +onlyGivenNames x25
  have h26 : Keeps m r x25 := by
    unfold x25
    refine fwField_keeps (hm.mono rfl) (fun a27 a28 a29 a30 a31 a32 => ?_) ?_
    · exact lfeWritten_keeps (hm.mono rfl) a32
    · refine fwField_keeps (hm.mono rfl) (fun a33 a34 a35 a36 a37 a38 => ?_) h24
      exact lfeWritten_keeps (hm.mono rfl) a38
  clear_value x25
  exact cmpPath_keeps (hm.mono rfl) h26

theorem nodesStart_keeps {m : Nat} {r : State} {s : State} (hm : Sub 4722366481783085917213 m) (hs : Keeps m r s) :
    Keeps m r (nodesStart s) := by
  unfold nodesStart
  extract_lets +onlyGivenNames x1 x2
  have h3 : Keeps m r x2 := by
    unfold x2
    refine Keeps.upTo hs (fun i4 s5 h6 => ?_)
    refine Keeps.upTo h6 (fun i7 s8 h9 => ?_)
    exact setBytes_keeps (hm.mono rfl) h9
  clear_value x2
  extract_lets +onlyGivenNames x10
  have h11 : Keeps m r x10 := by
    unfold x10
    refine Keeps.foldl h3 (fun s13 a12 h14 => ?_)
    exact linkWrite_keeps (hm.mono rfl) (showEntry_keeps (hm.mono rfl) (setNst_keeps (hm.mono rfl) h14))
  clear_value x10
  extract_lets +onlyGivenNames x15
  have h16 : Keeps m r x15 := planWrite_keeps (hm.mono rfl) (fastRefresh_keeps (hm.mono rfl) h11)
  clear_value x15
  extract_lets +onlyGivenNames x17
  have h18 : Keeps m r x17 := by
    unfold x17
    refine fwField_keeps (hm.mono rfl) (fun a19 a20 a21 a22 a23 a24 => ?_) h16
    exact tteWritten_keeps (hm.mono rfl) a24
  clear_value x17
  exact nextSequences_keeps (hm.mono rfl) (setNodes_keeps (hm.mono rfl) h18)

theorem updateStart_keeps {m : Nat} {r : State} {s : State} (hm : Sub 18014411394383884 m) (hs : Keeps m r s) :
    Keeps m r (updateStart s) := by
  unfold updateStart
  extract_lets +onlyGivenNames x1
  have h2 : Keeps m r x1 := by
    unfold x1
    refine fwField_keeps (hm.mono rfl) (fun a3 a4 a5 a6 a7 a8 => ?_) hs
    exact updWritten_keeps (hm.mono rfl) a8
  clear_value x1
  extract_lets +onlyGivenNames x9
  have h10 : Keeps m r x9 := by
    unfold x9
    refine Keeps.upTo h2 (fun i11 s12 h13 => ?_)
    exact Keeps.ite (setBankState_keeps (hm.mono rfl) h13) h13
  clear_value x9
  extract_lets +onlyGivenNames x14
  have h15 : Keeps m r x14 := by
    unfold x14
    refine Keeps.upTo h10 (fun i16 s17 h18 => ?_)
    exact Keeps.ite (setItem_keeps (hm.mono rfl) h18) h18
  clear_value x14
  extract_lets +onlyGivenNames x19
  have h20 : Keeps m r x19 := by
    unfold x19
    refine Keeps.upTo h15 (fun i21 s22 h23 => ?_)
    exact Keeps.ite (setLibrary_keeps (hm.mono rfl) h23) h23
  clear_value x19
  exact Keeps.ite (setUpd_keeps (hm.mono rfl) h20) h20

theorem portsStart_keeps {m : Nat} {r : State} {s : State} (hm : Sub 40620360831407116 m) (hs : Keeps m r s) :
    Keeps m r (portsStart s) := by
  unfold portsStart
  extract_lets +onlyGivenNames x1
  have h2 : Keeps m r x1 := by
    unfold x1
    refine fwField_keeps (hm.mono rfl) (fun a3 a4 a5 a6 a7 a8 => ?_) hs
    exact bhnWritten_keeps hm a8
  clear_value x1
  refine fwField_keeps (hm.mono rfl) (fun a9 a10 a11 a12 a13 a14 => ?_) h2
  exact bhnWritten_keeps hm a14

theorem schedStart_keeps {m : Nat} {r : State} {s : State} (hm : Sub 4521200738907156 m) (hs : Keeps m r s) :
    Keeps m r (schedStart s) := by
  unfold schedStart
  extract_lets +onlyGivenNames x1
  have h2 : Keeps m r x1 := schedEvaluate_keeps (hm.mono rfl) (toffUpdate_keeps (hm.mono rfl) (overridesRestart_keeps
      (hm.mono rfl) hs))
  clear_value x1
  refine Keeps.upTo h2 (fun i3 s4 h5 => ?_)
  exact Keeps.ite (keySwitch_keeps (hm.mono rfl) h5) h5

theorem firmwareStart_keeps {m : Nat} {r : State} {b0 : List ℕ} {s : State} (hm : Sub 4722366481787313455101 m) (hs : Keeps m
    r s) :
    Keeps m r (firmwareStart b0 s) := by
  unfold firmwareStart
  refine Keeps.ite hs ?_
  extract_lets +onlyGivenNames x1 x2
  have h3 : Keeps m r x2 := by
    unfold x2
    refine fwField_keeps (hm.mono rfl) (fun a4 a5 a6 a7 a8 a9 => ?_) (setPwr_keeps (hm.mono rfl) hs)
    exact sysWritten_keeps (hm.mono rfl) a9
  clear_value x2
  extract_lets +onlyGivenNames x10
  have h11 : Keeps m r x10 := startCause_keeps (hm.mono rfl) (recorderStart_keeps (hm.mono rfl) (reconcile_keeps (hm.mono
      rfl) h3))
  clear_value x10
  extract_lets +onlyGivenNames x12
  have h13 : Keeps m r x12 := settingsLoad_keeps (hm.mono rfl) (bootOutcome_keeps hm h11)
  clear_value x12
  extract_lets +onlyGivenNames x14
  have h15 : Keeps m r x14 := vaultStart_keeps (hm.mono rfl) (timeStart_keeps (hm.mono rfl) h13)
  clear_value x14
  extract_lets +onlyGivenNames x16
  have h17 : Keeps m r x16 := zonesStart_keeps (hm.mono rfl) (nodesStart_keeps (hm.mono rfl) h15)
  clear_value x16
  extract_lets +onlyGivenNames x18
  have h19 : Keeps m r x18 := updateStart_keeps (hm.mono rfl) (portsStart_keeps (hm.mono rfl) (busStart_keeps (hm.mono rfl)
      h17))
  clear_value x18
  extract_lets +onlyGivenNames x20
  have h21 : Keeps m r x20 := cellMeasure_keeps (hm.mono rfl) (schedStart_keeps (hm.mono rfl) h19)
  clear_value x20
  exact setPwr_keeps (hm.mono rfl) h21

theorem execFirmwareStart_keeps {m : Nat} {r : State} {b0 : List ℕ} {s : State} (hm : Sub 4722366481787313455101 m) (hs :
    Keeps m r s) :
    NextKeeps m r (execFirmwareStart b0 s) := by
  unfold execFirmwareStart
  exact NextKeeps.next (firmwareStart_keeps hm hs)

theorem timetableKeeping_keeps {m : Nat} {r : State} {s : State} (hm : Sub 4722366481787313455068 m) (hs : Keeps m r s) :
    Keeps m r (timetableKeeping s) := by
  unfold timetableKeeping
  extract_lets +onlyGivenNames x1 x2 x3
  have h4 : Keeps m r x3 := setPwr_keeps (hm.mono rfl) hs
  clear_value x3
  extract_lets +onlyGivenNames x5
  refine Keeps.ite ?_ ?_
  · refine fwField_keeps (hm.mono rfl) (fun a6 a7 a8 a9 a10 a11 => ?_) ?_
    · exact tteWritten_keeps (hm.mono rfl) a11
    · refine fwField_keeps (hm.mono rfl) (fun a12 a13 a14 a15 a16 a17 => ?_) h4
      exact sysWritten_keeps hm a17
  · refine Keeps.ite ?_ h4
    refine fwField_keeps (hm.mono rfl) (fun a18 a19 a20 a21 a22 a23 => ?_) ?_
    · exact tteWritten_keeps (hm.mono rfl) a23
    · refine fwField_keeps (hm.mono rfl) (fun a24 a25 a26 a27 a28 a29 => ?_) h4
      exact sysWritten_keeps hm a29

theorem execTimetableKeepingChange_keeps {m : Nat} {r : State} {s : State} (hm : Sub 4722366481787313455068 m) (hs : Keeps m
    r s) :
    NextKeeps m r (execTimetableKeepingChange s) := by
  unfold execTimetableKeepingChange
  exact NextKeeps.next (Keeps.ite (timetableKeeping_keeps hm hs) hs)

/-! ### Tick -/

theorem restartDue_keeps {m : Nat} {r : State} {s : State} (hm : Sub 4722366481787313455068 m) (hs : Keeps m r s) :
    Keeps m r (restartDue s) := by
  unfold restartDue
  split
  · rename_i y2 y3 e4
    exact Keeps.ite (moduleReset_keeps hm hs) hs
  · rename_i y5 e6
    exact hs

end Sys2Proof.Machine
end

