-- ==== Sys2Proof/Laws/Frames.lean ====
section
/-!
SUPPORT. What `Keeps` says of a register, a field and a part outside an operation's own ones, ready to rewrite with; and the
frame of a whole command, from its lemma and its entries in `partsOf` and `blocksOf`.
-/

namespace Sys2Proof.Machine

variable {m : Nat} {s t : State}

/-- A register of a block outside the set reads as before. -/
theorem Keeps.reg_eq (k : Keeps m s t) (c : Canon s) {a : Nat} (h : m.testBit (40 + blockIndex a) = false) :
    reg t a = reg s a := k.regs c a h

/-- A field of a block outside the set reads as before. -/
theorem Keeps.fld_eq (k : Keeps m s t) (c : Canon s) {f : Field} (h : m.testBit (40 + blockIndex f.addr) = false) :
    fld t f = fld s f := by
  unfold fld
  rw [k.regs c f.addr h]

theorem Keeps.isSet_eq (k : Keeps m s t) (c : Canon s) {f : Field} (h : m.testBit (40 + blockIndex f.addr) = false) :
    isSet t f = isSet s f := by
  unfold isSet
  rw [k.fld_eq c h]

/-- The register store of a canonical state rises. -/
theorem Keeps.rising (k : Keeps m s t) (c : Canon s) : Rising t.regs := (k.canon c).regs.1

/-- A field that no operation of the set's blocks reaches stays as it is. -/
theorem post_fld (c : Canon s) (src code : Nat) (d : List Byte) {f : Field} (hf : blockIndex f.addr ≠ 12) :
    fld (post src code d s) f = fld s f := by
  refine (post_keeps (Sub.refl _) (Keeps.refl s)).fld_eq c ?_
  have hb : blockIndex f.addr < 32 := Nat.mod_lt _ (by decide)
  have key : ∀ i < 32, i ≠ 12 → Nat.testBit 4503599627371524 (40 + i) = false := by decide
  exact key _ hb hf

end Sys2Proof.Machine
end

