-- ==== Sys2Proof/Laws/Memory.lean ====
section
/-!
SUPPORT. The laws of the memories: what an octet reads as after octets were written, and that writes keep the form.
-/

namespace Sys2Proof.Machine

variable {s : State}

theorem rising_setByte (h : Rising s.mem) (a : Nat) (b : Byte) : Rising (setByte s a b).mem := by
  simp only [setByte_fields, sput]
  split
  · exact rising_sdel a h
  · exact rising_sins a b h

theorem memByte_setByte_self (h : Rising s.mem) (a : Nat) (b : Byte) : memByte (setByte s a b) a = b := by
  simpa [memByte] using sget_sput_self memDefault a b h

theorem memByte_setByte_other (h : Rising s.mem) {a c : Nat} (b : Byte) (hc : c ≠ a) :
    memByte (setByte s a b) c = memByte s c := by
  simpa [memByte] using sget_sput_other memDefault b hc h

/-- After octets were written from `a` on, address `c` reads the octet written there, or what it read before. -/
theorem memByte_setBytes (bs : List Byte) (h : Rising s.mem) (a c : Nat) :
    memByte (setBytes s a bs) c = if a ≤ c ∧ c < a + bs.length then (bs[c - a]?).getD 0 else memByte s c := by
  induction bs generalizing s a with
  | nil => simp [setBytes]
  | cons b t ih =>
    rw [setBytes, ih (rising_setByte h a b)]
    by_cases hc : c = a
    · subst hc
      rw [if_neg (by omega), if_pos (by simp), memByte_setByte_self h]
      simp
    · rw [memByte_setByte_other h b hc]
      by_cases hr : a + 1 ≤ c ∧ c < a + 1 + t.length
      · rw [if_pos hr, if_pos (by simp only [List.length_cons]; omega)]
        have e : c - a = (c - (a + 1)) + 1 := by omega
        rw [e, List.getElem?_cons_succ]
      · rw [if_neg hr, if_neg (by simp only [List.length_cons]; omega)]

theorem rising_setBytes (bs : List Byte) (h : Rising s.mem) (a : Nat) : Rising (setBytes s a bs).mem := by
  induction bs generalizing s a with
  | nil => exact h
  | cons b t ih => exact ih (rising_setByte h a b) _

/-- Addresses outside the octets written read as before. -/
theorem memByte_setBytes_outside (bs : List Byte) (h : Rising s.mem) {a c : Nat} (hc : c < a ∨ a + bs.length ≤ c) :
    memByte (setBytes s a bs) c = memByte s c := by
  rw [memByte_setBytes bs h, if_neg (by omega)]

end Sys2Proof.Machine
end

