-- ==== Sys2Proof/Laws/Writes.lean ====
section
/-!
SUPPORT. The laws of register writes: what stands in a block's registers after one field, or all the fields of a register, took
a written word.
-/

namespace Sys2Proof.Machine

/-! ### One written field -/

theorem fld_cfgErr {s : State} (h : Rising s.regs) {i : Nat} {g : Field} (h1 : (cfgStat i).apart g = true)
    (h2 : (cfgFlag i).apart g = true) : fld (cfgErr s i) g = fld s g := by
  exact (fld_setFld_apart (f := cfgFlag i) (rising_setFld h (cfgStat i) 1) 1 (Nat.le_refl 32) h2).trans
    (fld_setFld_apart (f := cfgStat i) h 1 (Nat.le_refl 32) h1)

/-- `cfg_err` is set. -/
theorem isSet_cfgErr {s : State} (h : Rising s.regs) (i : Nat) : isSet (cfgErr s i) (cfgStat i) = true := by
  unfold isSet cfgErr
  rw [show fld (raise (raise s _) _) (cfgStat i) = fld (raise s (cfgStat i)) (cfgStat i) from ?_]
  · exact isSet_raise h _ (Nat.le_refl 32) Nat.one_pos
  · exact fld_setFld_addr (rising_setFld h _ _) _ _ 1 (by simp [cfgStat])

theorem shadows_cfgErr (s : State) (i : Nat) : (cfgErr s i).shadows = s.shadows := by simp [cfgErr]

section
variable {old s : State} {o : Origin} {a : Nat} {w : Word} {fi : FieldInfo}

theorem rising_writeField (h : Rising s.regs) : Rising (writeField old o a w s fi).regs := by
  unfold writeField
  have hc : ∀ (c : Prop) [Decidable c] i, Rising (if c then cfgErr s i else s).regs := by
    intro c _ i; split
    · exact rising_cfgErr h i
    · exact h
  split
  · simp only []
    split
    · exact hc _ _
    · split
      · split
        · simpa using hc _ _
        · exact rising_setFld (hc _ _) _ _
      · split
        · split
          · exact hc _ _
          · exact rising_cfgErr (hc _ _) _
        · exact rising_setFld (hc _ _) _ _
      · exact rising_setFld (hc _ _) _ _
  · exact rising_setFld h _ _
  · refine rising_setFld ?_ _ _
    split
    · exact h
    · exact rising_cfgErr h _
  · exact h

/-- A written field leaves alone every field that shares no bit with it, nor with the block's `cfg_err`. -/
theorem fld_writeField_apart (h : Rising s.regs) {g : Field} (hw : fi.lsb + fi.width ≤ 32) (hg : (fi.at a).apart g = true)
    (h1 : (cfgStat (blockIndex a)).apart g = true) (h2 : (cfgFlag (blockIndex a)).apart g = true) :
    fld (writeField old o a w s fi) g = fld s g := by
  have hc : ∀ (c : Prop) [Decidable c], fld (if c then cfgErr s (blockIndex a) else s) g = fld s g := by
    intro c _; split
    · exact fld_cfgErr h h1 h2
    · rfl
  have hr : ∀ (c : Prop) [Decidable c], Rising (if c then cfgErr s (blockIndex a) else s).regs := by
    intro c _; split
    · exact rising_cfgErr h _
    · exact h
  have hw' : (fi.at a).lsb + (fi.at a).width ≤ 32 := hw
  unfold writeField
  split
  · simp only []
    split
    · exact hc _
    · split
      · split
        · exact hc _
        · rw [show (⟨a, fi.lsb, fi.width⟩ : Field) = fi.at a from rfl, fld_setFld_apart (hr _) _ hw' hg, hc]
      · split
        · split
          · exact hc _
          · rw [fld_cfgErr (hr _) h1 h2, hc]
        · rw [show (⟨a, fi.lsb, fi.width⟩ : Field) = fi.at a from rfl, fld_setFld_apart (hr _) _ hw' hg, hc]
      · rw [show (⟨a, fi.lsb, fi.width⟩ : Field) = fi.at a from rfl, fld_setFld_apart (hr _) _ hw' hg, hc]
  · exact fld_setFld_apart h _ hw' hg
  · have : ∀ (c : Prop) [Decidable c] v, fld (setFld (if c then s else cfgErr s (blockIndex a)) ⟨a, fi.lsb, fi.width⟩ v) g = fld s g := by
      intro c _ v
      split
      · exact fld_setFld_apart h _ hw' hg
      · rw [show (⟨a, fi.lsb, fi.width⟩ : Field) = fi.at a from rfl,
          fld_setFld_apart (rising_cfgErr h _) _ hw' hg, fld_cfgErr h h1 h2]
    exact this _ _
  · rfl

/-- What a written field holds afterwards, by its type and code (R49, R52): the value its block takes, in force or in its shadow;
the old one where the block takes none, or the field is locked; its bits cleared or set; nothing new in a field that software
does not write. -/
theorem fld_writeField_self (h : Rising s.regs) (hw : fi.lsb + fi.width ≤ 32)
    (h1 : (cfgStat (blockIndex a)).apart (fi.at a) = true) (h2 : (cfgFlag (blockIndex a)).apart (fi.at a) = true) :
    fld (writeField old o a w s fi) (fi.at a) =
      (match fi.ty with
      | .rw => match (admitField old o a fi.lsb (bits w.toNat fi.lsb fi.width) w).value with
        | none => fld s (fi.at a)
        | some v => match fi.timing with
          | .shadow _ => if shadowing old a then fld s (fi.at a) else v % 2 ^ fi.width
          | .lock => if locked old a fi.lsb then fld s (fi.at a) else v % 2 ^ fi.width
          | _ => v % 2 ^ fi.width
      | .w1c => (fld s (fi.at a) &&& (2 ^ fi.width - 1 - bits w.toNat fi.lsb fi.width)) % 2 ^ fi.width
      | .sc =>
        let on := bits w.toNat fi.lsb fi.width
        let off := bits w.toNat (fi.lsb + 16) fi.width
        ((fld s (fi.at a) ||| (on - (on &&& off))) &&& (2 ^ fi.width - 1 - (off - (on &&& off)))) % 2 ^ fi.width
      | _ => fld s (fi.at a)) := by
  have hc : ∀ (c : Prop) [Decidable c], fld (if c then cfgErr s (blockIndex a) else s) (fi.at a) = fld s (fi.at a) := by
    intro c _; split
    · exact fld_cfgErr h h1 h2
    · rfl
  have hr : ∀ (c : Prop) [Decidable c], Rising (if c then cfgErr s (blockIndex a) else s).regs := by
    intro c _; split
    · exact rising_cfgErr h _
    · exact h
  have hs : ∀ {t : State} (x : Nat), Rising t.regs → fld (setFld t (fi.at a) x) (fi.at a) = x % 2 ^ fi.width :=
    fun x ht => fld_setFld_self ht (fi.at a) x hw
  unfold writeField
  rw [show (⟨a, fi.lsb, fi.width⟩ : Field) = fi.at a from rfl]
  cases fi.ty
  case rw =>
    simp only []
    cases (admitField old o a fi.lsb (bits w.toNat fi.lsb fi.width) w).value with
    | none => exact hc (_ = true)
    | some v =>
      cases fi.timing with
      | shadow b =>
        simp only []
        split
        · exact hc (_ = true)
        · exact hs _ (hr _)
      | lock =>
        simp only []
        split
        · split
          · exact hc (_ = true)
          · rw [fld_cfgErr (hr _) h1 h2]
            exact hc (_ = true)
        · exact hs _ (hr _)
      | none => exact hs _ (hr _)
      | imm => exact hs _ (hr _)
  case w1c => exact hs _ h
  case sc =>
    simp only []
    split
    · exact hs _ h
    · rw [hs _ (rising_cfgErr h _), fld_cfgErr h h1 h2]
  all_goals rfl

/-- The fields of a register share no bit. -/
def FieldsApart (l : List FieldInfo) : Prop := l.Pairwise (fun x y => ∀ a, (x.at a).apart (y.at a) = true ∧ (y.at a).apart (x.at a) = true)

/-- The writes of the other fields of a register leave a field alone. -/
theorem fld_writeField_foldl (l : List FieldInfo) (h : Rising s.regs) {g : Field} (hw : ∀ x ∈ l, x.lsb + x.width ≤ 32)
    (hg : ∀ x ∈ l, (x.at a).apart g = true) (h1 : (cfgStat (blockIndex a)).apart g = true)
    (h2 : (cfgFlag (blockIndex a)).apart g = true) :
    fld (l.foldl (writeField old o a w) s) g = fld s g ∧ Rising (l.foldl (writeField old o a w) s).regs := by
  induction l generalizing s with
  | nil => exact ⟨rfl, h⟩
  | cons x l ih =>
    have k := ih (s := writeField old o a w s x) (rising_writeField h) (fun y hy => hw y (by simp [hy]))
      (fun y hy => hg y (by simp [hy]))
    rw [List.foldl_cons, k.1]
    exact ⟨fld_writeField_apart h (hw x (by simp)) (hg x (by simp)) h1 h2, k.2⟩

end

end Sys2Proof.Machine
end

