-- ==== Sys2Proof/Laws/Rows.lean ====
section
/-!
SUPPORT. The laws of the commands that write or read one register: what every such command does where the plane lets it, what its
word says of each field, and what the register's fields then hold.
-/

namespace Sys2Proof.Machine

/-! ### An access that is let through -/

section
variable {s : State} {o : Origin} {a : Nat} {w : Word}

theorem coreWrite_lets (hook : WriteHook) (h : Lets s o a) (w : Word) :
    coreWrite hook o a w s = setResult o .done (hook o a w s (writeFields o a w s)) := by
  unfold coreWrite
  rw [h w]
  rfl

theorem coreRead_lets (hook : ReadHook) (g : List (Nat × Nat)) (h : LetsRead s o a) :
    coreRead hook g o a s =
      setResult o (.value (hook o a (readWord s a) (clearRc g a s)).1) (hook o a (readWord s a) (clearRc g a s)).2 := by
  unfold coreRead
  rw [show judge s o a none = .pass from h]
  rfl

/-- Core 0 may write every register of the plane that is not core 1's own. -/
theorem lets_core0 (h : o.core = .core0) (hr : (regAt a).isSome = true) (ho : otherCores .core0 a = false) : Lets s o a := by
  intro w
  unfold judge
  simp [h, ho, Option.isSome_iff_ne_none.1 hr]

theorem letsRead_core0 (h : o.core = .core0) (hr : (regAt a).isSome = true) (ho : otherCores .core0 a = false) : LetsRead s o a := by
  unfold LetsRead judge
  simp [h, ho, Option.isSome_iff_ne_none.1 hr]

@[simp] theorem setResult_fld (s : State) (o : Origin) (x : BusResult) (f : Field) : fld (setResult o x s) f = fld s f := by
  unfold setResult; split <;> rfl

@[simp] theorem setResult_isSet (s : State) (o : Origin) (x : BusResult) (f : Field) : isSet (setResult o x s) f = isSet s f := by
  unfold setResult; split <;> rfl

@[simp] theorem setResult_reg (s : State) (o : Origin) (x : BusResult) (b : Nat) : reg (setResult o x s) b = reg s b := by
  unfold setResult; split <;> rfl

@[simp] theorem lastResult_setResult (s : State) (o : Origin) (x : BusResult) : lastResult (setResult o x s) o.core = x := by
  unfold setResult lastResult; cases o.core <;> rfl

/-- Recording a result changes no part but SYS. -/
theorem setResult_same (s : State) (o : Origin) (x : BusResult) {p : Part} (h : p ≠ .sys) : p.same s (setResult o x s) := by
  unfold setResult
  split <;> (cases p <;> first | rfl | exact absurd rfl h)

/-! ### The fields of a written register -/

theorem writeFields_of {r : RegInfo} (h : regAt a = some r) : writeFields o a w s = r.fields.foldl (writeField s o a w) s := by
  unfold writeFields
  rw [h]

theorem writeFields_canon (c : Canon s) : Canon (writeFields o a w s) :=
  (writeFields_keeps (Sub.refl _) (Keeps.refl s)).canon c

theorem rising_writeFields (c : Canon s) : Rising (writeFields o a w s).regs := (writeFields_canon c).regs.1

/-- A register write's fields touch no part but the registers and the shadows. -/
theorem writeFields_same (o : Origin) (a : Nat) (w : Word) (s : State) {p : Part} (h1 : p ≠ .regs) (h2 : p ≠ .shadows) :
    p.same s (writeFields o a w s) := by
  refine (writeFields_keeps (Sub.refl _) (Keeps.refl s)).parts p ?_
  have hi : blockIndex a < 32 := Nat.mod_lt _ (by decide)
  have key : ∀ i < 32, ∀ k < 34, k ≠ 2 → k ≠ 3 → Nat.testBit (2 ^ 2 ||| 2 ^ (40 + i) ||| 8) k = false := by decide
  refine key _ hi p.idx (by cases p <;> decide) ?_ ?_ <;> (cases p <;> first | decide | exact absurd rfl h1 | exact absurd rfl h2)

/-- No register's table names a field twice. -/
theorem table_nodup : ∀ i < 32, (Regs.table i).all (fun r => decide r.fields.Nodup) = true := by decide

/-- The register tables' fields lie in their words, apart and in rising order. -/
theorem table_apart : ∀ i < 32, (Regs.table i).all (fun r => r.fields.all (fun f => decide (f.lsb + f.width ≤ 32)) &&
    decide (r.fields.Pairwise (fun f g => f.lsb + f.width ≤ g.lsb))) = true := by decide

theorem regAt_mem {r : RegInfo} (h : regAt a = some r) : r ∈ Regs.table (blockIndex a) := List.mem_of_find?_eq_some h

theorem regAt_apart {r : RegInfo} (h : regAt a = some r) :
    (∀ f ∈ r.fields, f.lsb + f.width ≤ 32) ∧ r.fields.Pairwise (fun f g => f.lsb + f.width ≤ g.lsb) := by
  have := List.all_eq_true.1 (table_apart (blockIndex a) (Nat.mod_lt _ (by decide))) r (regAt_mem h)
  simpa using this

theorem apart_of {r : RegInfo} (h : regAt a = some r) {f g : FieldInfo} (hf : f ∈ r.fields) (hg : g ∈ r.fields) (hn : f ≠ g) :
    (f.at a).apart (g.at a) = true := by
  have hp := (regAt_apart h).2
  have key : ∀ l : List FieldInfo, l.Pairwise (fun f g => f.lsb + f.width ≤ g.lsb) → ∀ f ∈ l, ∀ g ∈ l, f ≠ g →
      f.lsb + f.width ≤ g.lsb ∨ g.lsb + g.width ≤ f.lsb := by
    intro l
    induction l with
    | nil => intro _ f hf; cases hf
    | cons x l ih =>
      intro hl f hf g hg hn
      have hx := List.pairwise_cons.1 hl
      rcases List.mem_cons.1 hf with e | hf' <;> rcases List.mem_cons.1 hg with e' | hg'
      · exact absurd (e.trans e'.symm) hn
      · exact .inl (e ▸ hx.1 g hg')
      · exact .inr (e' ▸ hx.1 f hf')
      · exact ih hx.2 f hf' g hg' hn
  rcases key _ hp f hf g hg hn with k | k <;> simp [Field.apart, FieldInfo.at, k]

theorem regAt_nodup {r : RegInfo} (h : regAt a = some r) : r.fields.Nodup := by
  simpa using List.all_eq_true.1 (table_nodup (blockIndex a) (Nat.mod_lt _ (by decide))) r (regAt_mem h)

/-- What every field of a register holds after a write, where the field is none of the block's two `cfg_err` (R49, R52). -/
theorem fld_writeFields {r : RegInfo} (c : Canon s) (h : regAt a = some r) {fi : FieldInfo} (hf : fi ∈ r.fields)
    (h1 : (cfgStat (blockIndex a)).apart (fi.at a) = true) (h2 : (cfgFlag (blockIndex a)).apart (fi.at a) = true) :
    fld (writeFields o a w s) (fi.at a) = fieldAfter s o a w fi := by
  rw [writeFields_of h]
  have hs : Rising s.regs := c.regs.1
  have hw := (regAt_apart h).1
  obtain ⟨l1, l2, hl⟩ := List.append_of_mem hf
  have hn := regAt_nodup h
  have ha : ∀ x ∈ r.fields, x ≠ fi → (x.at a).apart (fi.at a) = true := fun x hx hne => apart_of h hx hf hne
  rw [hl] at hn hw ha
  have n1 : ∀ x ∈ l1, x ≠ fi := by
    intro x hx e
    have := (List.nodup_append.1 hn).2.2 x hx fi (by simp)
    exact this e
  have n2 : ∀ x ∈ l2, x ≠ fi := by
    intro x hx e
    have := (List.nodup_cons.1 (List.nodup_append.1 hn).2.1).1
    exact this (e ▸ hx)
  rw [hl, List.foldl_append, List.foldl_cons]
  have k1 := fld_writeField_foldl (old := s) (o := o) (a := a) (w := w) l1 hs (fun x hx => hw x (by simp [hx])) (fun x hx => ha x (by simp [hx]) (n1 x hx)) h1 h2
  have k2 := fld_writeField_foldl (old := s) (o := o) (a := a) (w := w) l2 (rising_writeField (old := s) (o := o) (a := a) (w := w) (fi := fi) k1.2)
    (fun x hx => hw x (by simp [hx])) (fun x hx => ha x (by simp [hx]) (n2 x hx)) h1 h2
  rw [k2.1, fld_writeField_self k1.2 (hw fi (by simp)) h1 h2]
  unfold fieldAfter
  rw [k1.1]
  all_goals rfl

/-- Every field outside the register and the block's two `cfg_err` stands. -/
theorem fld_writeFields_other (c : Canon s) {g : Field} (hg : g.addr ≠ a)
    (h1 : (cfgStat (blockIndex a)).apart g = true) (h2 : (cfgFlag (blockIndex a)).apart g = true) :
    fld (writeFields o a w s) g = fld s g := by
  cases h : regAt a with
  | none => unfold writeFields; rw [h]
  | some r =>
    rw [writeFields_of h]
    exact (fld_writeField_foldl r.fields c.regs.1 (regAt_apart h).1 (fun x _ => by simp [Field.apart, FieldInfo.at, Ne.symm hg]) h1 h2).1

/-! ### Words -/

/-- A shadow stands for a field that is written at a boundary, and fits it. -/
theorem fldRead_plain (c : Canon s) {fi : FieldInfo} (hl : fi.lsb < 32) (h : fieldInfoAt a fi.lsb = some fi) (ht : ∀ b, fi.timing ≠ .shadow b) :
    fldRead s (fi.at a) = fld s (fi.at a) := by
  unfold fldRead
  cases e : slook s.shadows (shadowKey (fi.at a)) with
  | none => rfl
  | some v =>
    have hm := c.shadows.2 _ (mem_of_slook e)
    have e1 : shadowKey (fi.at a) / 32 = a := by simp only [shadowKey, FieldInfo.at]; omega
    have e2 : shadowKey (fi.at a) % 32 = fi.lsb := by simp only [shadowKey, FieldInfo.at]; omega
    simp only [shadowFits, e1, e2, h, Bool.and_eq_true] at hm
    revert hm
    cases e3 : fi.timing with
    | shadow b => exact absurd e3 (ht b)
    | _ => simp

theorem fld_lt (s : State) (f : Field) : fld s f < 2 ^ f.width := by
  unfold fld bits
  exact Nat.mod_lt _ (Nat.two_pow_pos _)

theorem fldRead_lt (c : Canon s) {fi : FieldInfo} (hl : fi.lsb < 32) (h : fieldInfoAt a fi.lsb = some fi) :
    fldRead s (fi.at a) < 2 ^ fi.width := by
  unfold fldRead
  cases e : slook s.shadows (shadowKey (fi.at a)) with
  | none => exact fld_lt s (fi.at a)
  | some v =>
    have hm := c.shadows.2 _ (mem_of_slook e)
    have e1 : shadowKey (fi.at a) / 32 = a := by simp only [shadowKey, FieldInfo.at]; omega
    have e2 : shadowKey (fi.at a) % 32 = fi.lsb := by simp only [shadowKey, FieldInfo.at]; omega
    simp only [shadowFits, e1, e2, h, Bool.and_eq_true, decide_eq_true_eq] at hm
    exact hm.2

/-- The bits of a word put together from the fields of a register that `p` chooses. -/
theorem bits_fold (v : FieldInfo → Nat) (p : FieldInfo → Bool) :
    ∀ (l : List FieldInfo) (acc : Nat), l.Pairwise (fun f g => f.lsb + f.width ≤ g.lsb) → (∀ f ∈ l, v f < 2 ^ f.width) →
      (∀ f ∈ l, acc < 2 ^ f.lsb) →
      (∀ l0 k, (∀ f ∈ l, l0 + k ≤ f.lsb) →
        bits (l.foldl (fun a f => if p f then a + 2 ^ f.lsb * v f else a) acc) l0 k = bits acc l0 k) ∧
      (∀ f ∈ l, bits (l.foldl (fun a f => if p f then a + 2 ^ f.lsb * v f else a) acc) f.lsb f.width = if p f then v f else 0) ∧
      (∀ n, acc < 2 ^ n → (∀ f ∈ l, f.lsb + f.width ≤ n) →
        l.foldl (fun a f => if p f then a + 2 ^ f.lsb * v f else a) acc < 2 ^ n) := by
  intro l
  induction l with
  | nil => exact fun acc _ _ _ => ⟨fun _ _ _ => rfl, fun f hf => absurd hf (by simp), fun n hn _ => hn⟩
  | cons x l ih =>
    intro acc hp hv ha
    obtain ⟨hx, hl⟩ := List.pairwise_cons.1 hp
    have hax := ha x (by simp)
    have hvx := hv x (by simp)
    have hlt : (if p x then acc + 2 ^ x.lsb * v x else acc) < 2 ^ (x.lsb + x.width) := by
      have h1 : acc < 2 ^ (x.lsb + x.width) := Nat.lt_of_lt_of_le hax (Nat.pow_le_pow_right (by decide) (by omega))
      split
      · calc acc + 2 ^ x.lsb * v x < 2 ^ x.lsb + 2 ^ x.lsb * v x := by omega
          _ = 2 ^ x.lsb * (v x + 1) := by rw [Nat.mul_add, Nat.mul_one, Nat.add_comm]
          _ ≤ 2 ^ x.lsb * 2 ^ x.width := Nat.mul_le_mul_left _ hvx
          _ = 2 ^ (x.lsb + x.width) := (Nat.pow_add _ _ _).symm
      · exact h1
    have ha' : ∀ f ∈ l, (if p x then acc + 2 ^ x.lsb * v x else acc) < 2 ^ f.lsb :=
      fun f hf => Nat.lt_of_lt_of_le hlt (Nat.pow_le_pow_right (by decide) (hx f hf))
    obtain ⟨k1, k2, k3⟩ := ih _ hl (fun f hf => hv f (by simp [hf])) ha'
    refine ⟨fun l0 k h => ?_, fun f hf => ?_, fun n hn hb => ?_⟩
    · rw [List.foldl_cons, k1 l0 k (fun f hf => h f (by simp [hf]))]
      have h0 := h x (by simp)
      split
      · unfold bits
        obtain ⟨d, e⟩ : ∃ d, x.lsb = l0 + (k + d) := ⟨x.lsb - (l0 + k), by omega⟩
        rw [e, Nat.pow_add, Nat.mul_assoc, Nat.add_mul_div_left _ _ (Nat.two_pow_pos _), Nat.pow_add, Nat.mul_assoc,
          Nat.add_mul_mod_self_left]
      · rfl
    · rw [List.foldl_cons]
      rcases List.mem_cons.1 hf with rfl | hf
      · rw [k1 f.lsb f.width hx]
        split
        · unfold bits
          rw [Nat.add_mul_div_left _ _ (Nat.two_pow_pos _), Nat.div_eq_of_lt hax, Nat.zero_add, Nat.mod_eq_of_lt hvx]
        · unfold bits
          rw [Nat.div_eq_of_lt hax, Nat.zero_mod]
      · exact k2 f hf
    · rw [List.foldl_cons]
      refine k3 n (Nat.lt_of_lt_of_le hlt (Nat.pow_le_pow_right (by decide) (hb x (by simp)))) (fun f hf => hb f (by simp [hf]))

theorem foldl_same {α β : Type} {f g : β → α → β} (h : ∀ b x, f b x = g b x) (l : List α) (b : β) : l.foldl f b = l.foldl g b := by
  induction l generalizing b with
  | nil => rfl
  | cons x l ih => rw [List.foldl_cons, List.foldl_cons, h, ih]

/-- The bits of the word that software writes back: an RW field as it reads, any other 0. -/
theorem bits_rwWord {r : RegInfo} (c : Canon s) (h : regAt a = some r) {fi : FieldInfo} (hf : fi ∈ r.fields) :
    bits (rwWord s a).toNat fi.lsb fi.width = if fi.ty = .rw then fldRead s (fi.at a) else 0 := by
  unfold rwWord
  rw [h]
  have hv : ∀ f ∈ r.fields, fldRead s (f.at a) < 2 ^ f.width := fun f hf =>
    fldRead_lt c (fieldInfoAt_of h hf).2 (fieldInfoAt_of h hf).1
  have k := bits_fold (fun fi => fldRead s (fi.at a)) (fun fi => fi.ty == .rw) r.fields 0 (regAt_apart h).2 hv
    (fun f _ => Nat.two_pow_pos _)
  rw [BitVec.toNat_ofNat, foldl_same (g := fun acc fi => if (fi.ty == .rw) = true then acc + 2 ^ fi.lsb * fldRead s (fi.at a) else acc)
    (by intro acc fi; cases fi.ty <;> rfl), Nat.mod_eq_of_lt (k.2.2 32 (by decide) (regAt_apart h).1), k.2.1 fi hf]
  simp

/-- The field that a read-modify-write changes. -/
theorem bits_wordWith_self (f : Field) (v : Nat) (hf : f.lsb + f.width ≤ 32) : bits (wordWith s f v).toNat f.lsb f.width = v % 2 ^ f.width := by
  unfold wordWith
  rw [BitVec.toNat_ofNat, Nat.mod_eq_of_lt (putBits_lt (rwWord s f.addr).isLt hf), bits_putBits_self]

/-- The fields that a read-modify-write leaves. -/
theorem bits_wordWith_other (f : Field) (v : Nat) (hf : f.lsb + f.width ≤ 32) {l k : Nat} (h : l + k ≤ f.lsb ∨ f.lsb + f.width ≤ l) :
    bits (wordWith s f v).toNat l k = bits (rwWord s f.addr).toNat l k := by
  unfold wordWith
  rw [BitVec.toNat_ofNat, Nat.mod_eq_of_lt (putBits_lt (rwWord s f.addr).isLt hf)]
  rcases h with h | h
  · exact bits_putBits_below h
  · exact bits_putBits_above h

theorem bits_or (x y l k : Nat) : bits (x ||| y) l k = bits x l k ||| bits y l k := by
  unfold bits
  apply Nat.eq_of_testBit_eq
  intro i
  simp only [Nat.testBit_or, Nat.testBit_mod_two_pow, Nat.testBit_div_two_pow]
  cases decide (i < k) <;> simp

/-- The bits of the word a read returns (R49-R52): a field's shadow while one waits, else its value; 0 in a WO and a CMD field. -/
theorem bits_readWord {r : RegInfo} (c : Canon s) (h : regAt a = some r) {fi : FieldInfo} (hf : fi ∈ r.fields)
    (hx : a = blockBase (blockIndex a) + 4 → fi.lsb + fi.width ≤ 30 ∨ 31 ≤ fi.lsb) :
    bits (readWord s a).toNat fi.lsb fi.width = if fi.ty = .wo ∨ fi.ty = .cmd then 0 else fldRead s (fi.at a) := by
  unfold readWord
  rw [h]
  have hv : ∀ f ∈ r.fields, fldRead s (f.at a) < 2 ^ f.width := fun f hf =>
    fldRead_lt c (fieldInfoAt_of h hf).2 (fieldInfoAt_of h hf).1
  have k := bits_fold (fun fi => fldRead s (fi.at a)) (fun fi => !(fi.ty == .wo || fi.ty == .cmd)) r.fields 0 (regAt_apart h).2 hv
    (fun f _ => Nat.two_pow_pos _)
  have kb := k.2.2 32 (by decide) (regAt_apart h).1
  have kf := k.2.1 fi hf
  simp only []
  rw [foldl_same (g := fun acc fi => if (!(fi.ty == .wo || fi.ty == .cmd)) = true then acc + 2 ^ fi.lsb * fldRead s (fi.at a) else acc)
    (by intro acc fi; cases fi.ty <;> rfl)]
  have e : (if (!(fi.ty == .wo || fi.ty == .cmd)) = true then fldRead s (fi.at a) else 0) =
      if fi.ty = .wo ∨ fi.ty = .cmd then 0 else fldRead s (fi.at a) := by cases fi.ty <;> rfl
  rw [e] at kf
  split
  · rename_i ha
    rw [BitVec.toNat_ofNat, Nat.mod_eq_of_lt (putBits_lt kb (by decide))]
    rcases hx ha with hx | hx
    · rw [bits_putBits_below hx, kf]
    · rw [bits_putBits_above hx, kf]
  · rw [BitVec.toNat_ofNat, Nat.mod_eq_of_lt kb, kf]

theorem clearRc_keep_foldl (g : List (Nat × Nat)) (l : List FieldInfo) (hs : Rising s.regs) {x : Field} (hw : ∀ f ∈ l, f.lsb + f.width ≤ 32)
    (hx : ∀ f ∈ l, (f.at a).apart x = true) :
    fld (l.foldl (fun s fi => match fi.ty with
      | .rc => setFld s ⟨a, fi.lsb, fi.width⟩ (min ((slook g fi.lsb).getD 0) (2 ^ fi.width - 1))
      | _ => s) s) x = fld s x ∧
    Rising (l.foldl (fun s fi => match fi.ty with
      | .rc => setFld s ⟨a, fi.lsb, fi.width⟩ (min ((slook g fi.lsb).getD 0) (2 ^ fi.width - 1))
      | _ => s) s).regs := by
  induction l generalizing s with
  | nil => exact ⟨rfl, hs⟩
  | cons f l ih =>
    rw [List.foldl_cons]
    have hf := hw f (by simp)
    have ha := hx f (by simp)
    cases f.ty
    case rc =>
      obtain ⟨k1, k2⟩ := ih (s := setFld s ⟨a, f.lsb, f.width⟩ (min ((slook g f.lsb).getD 0) (2 ^ f.width - 1)))
        (rising_setFld hs _ _) (fun y hy => hw y (by simp [hy])) (fun y hy => hx y (by simp [hy]))
      exact ⟨k1.trans (fld_setFld_apart (f := f.at a) hs _ hf ha), k2⟩
    all_goals exact ih hs (fun y hy => hw y (by simp [hy])) (fun y hy => hx y (by simp [hy]))

/-- What a read leaves in the fields of its register (R50): an RC field what hardware added to it meanwhile, any other its value. -/
theorem fld_clearRc {r : RegInfo} (c : Canon s) (h : regAt a = some r) (g : List (Nat × Nat)) {fi : FieldInfo} (hf : fi ∈ r.fields) :
    fld (clearRc g a s) (fi.at a) =
      if fi.ty = .rc then min ((slook g fi.lsb).getD 0) (2 ^ fi.width - 1) else fld s (fi.at a) := by
  unfold clearRc
  rw [h]
  have hw := (regAt_apart h).1
  obtain ⟨l1, l2, hl⟩ := List.append_of_mem hf
  have hn := regAt_nodup h
  have ha : ∀ x ∈ r.fields, x ≠ fi → (x.at a).apart (fi.at a) = true := fun x hx hne => apart_of h hx hf hne
  rw [hl] at hn hw ha
  have n1 : ∀ x ∈ l1, x ≠ fi := fun x hx e => (List.nodup_append.1 hn).2.2 x hx fi (by simp) e
  have n2 : ∀ x ∈ l2, x ≠ fi := fun x hx e => (List.nodup_cons.1 (List.nodup_append.1 hn).2.1).1 (e ▸ hx)
  simp only []
  rw [hl, List.foldl_append, List.foldl_cons]
  obtain ⟨k1, k2⟩ := clearRc_keep_foldl (a := a) g l1 c.regs.1 (fun x hx => hw x (by simp [hx])) (fun x hx => ha x (by simp [hx]) (n1 x hx))
  have hwf := hw fi (by simp)
  have key : ∀ s1, Rising s1.regs → fld (l2.foldl (fun s fi => match fi.ty with
      | .rc => setFld s ⟨a, fi.lsb, fi.width⟩ (min ((slook g fi.lsb).getD 0) (2 ^ fi.width - 1))
      | _ => s) s1) (fi.at a) = fld s1 (fi.at a) := fun s1 h1 =>
    (clearRc_keep_foldl (a := a) g l2 h1 (fun x hx => hw x (by simp [hx])) (fun x hx => ha x (by simp [hx]) (n2 x hx))).1
  cases fi.ty
  case rc =>
    refine (key _ (rising_setFld k2 _ _)).trans ((fld_setFld_self k2 (fi.at a) _ hwf).trans ?_)
    rw [if_pos rfl, Nat.mod_eq_of_lt]
    exact Nat.lt_of_le_of_lt (Nat.min_le_right _ _) (Nat.sub_lt (Nat.two_pow_pos _) Nat.one_pos)
  all_goals exact (key _ k2).trans k1

/-- What a read-modify-write of field `f` says of another field of the register: an RW field as it reads, any other 0. -/
theorem bits_wordWith {r : RegInfo} (c : Canon s) {f : Field} (v : Nat) (h : regAt f.addr = some r) (hf : f.lsb + f.width ≤ 32)
    {fi : FieldInfo} (hm : fi ∈ r.fields) (ha : fi.lsb + fi.width ≤ f.lsb ∨ f.lsb + f.width ≤ fi.lsb) :
    bits (wordWith s f v).toNat fi.lsb fi.width = if fi.ty = .rw then fldRead s (fi.at f.addr) else 0 := by
  rw [bits_wordWith_other f v hf ha, bits_rwWord c h hm]

/-- What a write of the register as it reads with further bits `k` says of a field. -/
theorem bits_rwOr {r : RegInfo} (c : Canon s) (h : regAt a = some r) (k : Word) {fi : FieldInfo} (hm : fi ∈ r.fields) :
    bits (rwWord s a ||| k).toNat fi.lsb fi.width =
      (if fi.ty = .rw then fldRead s (fi.at a) else 0) ||| bits k.toNat fi.lsb fi.width := by
  rw [BitVec.toNat_or, bits_or, bits_rwWord c h hm]

end

/-! ### Everything else -/

theorem reg_cfgErr {s : State} (h : Rising s.regs) {i b : Nat} (h1 : b ≠ (cfgStat i).addr) (h2 : b ≠ (cfgFlag i).addr) :
    reg (cfgErr s i) b = reg s b :=
  (reg_setFld_other (rising_setFld h _ _) (cfgFlag i) 1 h2).trans (reg_setFld_other h (cfgStat i) 1 h1)

theorem reg_writeField_other {old s : State} {o : Origin} {a : Nat} {w : Word} {fi : FieldInfo} (h : Rising s.regs) {b : Nat} (hb : b ≠ a)
    (h1 : b ≠ (cfgStat (blockIndex a)).addr) (h2 : b ≠ (cfgFlag (blockIndex a)).addr) :
    reg (writeField old o a w s fi) b = reg s b := by
  have hc : ∀ (c : Prop) [Decidable c], reg (if c then cfgErr s (blockIndex a) else s) b = reg s b := by
    intro c _; split
    · exact reg_cfgErr h h1 h2
    · rfl
  have hr : ∀ (c : Prop) [Decidable c], Rising (if c then cfgErr s (blockIndex a) else s).regs := by
    intro c _; split
    · exact rising_cfgErr h _
    · exact h
  have hs : ∀ {t : State} (x : Nat), Rising t.regs → reg (setFld t ⟨a, fi.lsb, fi.width⟩ x) b = reg t b :=
    fun x ht => reg_setFld_other ht _ x hb
  unfold writeField
  split
  · simp only []
    split
    · exact hc (_ = true)
    · split
      · split
        · exact hc (_ = true)
        · exact (hs _ (hr _)).trans (hc _)
      · split
        · split
          · exact hc (_ = true)
          · exact (reg_cfgErr (hr _) h1 h2).trans (hc _)
        · exact (hs _ (hr _)).trans (hc _)
      · exact (hs _ (hr _)).trans (hc _)
  · exact hs _ h
  · simp only []
    split
    · exact hs _ h
    · exact (hs _ (rising_cfgErr h _)).trans (reg_cfgErr h h1 h2)
  · rfl

theorem reg_writeFields_other {s : State} {o : Origin} {a : Nat} {w : Word} (h : Rising s.regs) {b : Nat} (hb : b ≠ a)
    (h1 : b ≠ (cfgStat (blockIndex a)).addr) (h2 : b ≠ (cfgFlag (blockIndex a)).addr) :
    reg (writeFields o a w s) b = reg s b := by
  unfold writeFields
  split
  · rename_i r _
    have key : ∀ (old s : State) (l : List FieldInfo), Rising s.regs → reg (l.foldl (writeField old o a w) s) b = reg s b := by
      intro old s l
      induction l generalizing s with
      | nil => exact fun _ => rfl
      | cons x l ih => exact fun hs => (ih _ (rising_writeField hs)).trans (reg_writeField_other hs hb h1 h2)
    exact key _ _ _ h
  · rfl

theorem reg_clearRc_other {s : State} {g : List (Nat × Nat)} {a b : Nat} (h : Rising s.regs) (hb : b ≠ a) : reg (clearRc g a s) b = reg s b := by
  unfold clearRc
  split
  · rfl
  · rename_i r _
    generalize r.fields = l
    induction l generalizing s with
    | nil => rfl
    | cons x l ih =>
      rw [List.foldl_cons]
      cases x.ty
      case rc => exact (ih (rising_setFld h _ _)).trans (reg_setFld_other h _ _ hb)
      all_goals exact ih h

theorem clearRc_same (g : List (Nat × Nat)) (a : Nat) (s : State) {p : Part} (h1 : p ≠ .regs) : p.same s (clearRc g a s) := by
  refine (clearRc_keeps (Sub.refl _) (Keeps.refl s)).parts p ?_
  have hi : blockIndex a < 32 := Nat.mod_lt _ (by decide)
  have key : ∀ i < 32, ∀ k < 34, k ≠ 2 → Nat.testBit (2 ^ 2 ||| 2 ^ (40 + i)) k = false := by decide
  refine key _ hi p.idx (by cases p <;> decide) ?_
  cases p <;> first | decide | exact absurd rfl h1

end Sys2Proof.Machine
end

