-- ==== Sys2Proof/Tests/Slice0.lean ====
section
/-!
SUPPORT. Tests of the model's own: the checks of well-formed commands each refuse an ill-formed one, single steps on small
states against the spec's worked examples, and witnesses that the hypotheses of the statements can be met.
-/

namespace Sys2Proof.Tests

open Sys2Proof Sys2Proof.Machine

/-! ### Well-formedness -/

/-- Core 0 in machine mode. -/
def core0 : Origin := { core := .core0, mmode := true }

/-- A frame that RFE can detect. -/
def airFrame : RxFrame :=
  { chan := 3, phr := true, rate := 1, fec := false, white := true, fcs2 := false, rssiA := -70, rssiB := -72, snr := 40, cfo := 0,
    sof := 1000, psdu := [] }

/-- A path in which nothing was heard. -/
def quiet : PathObs := { demod := 0, detA := 0, detB := 0, agcA := false, agcB := false, floors := [] }

/-- A frame of the field bus without data. -/
def busFrame : FbFrame :=
  { id := 0, xtd := true, fdf := true, brs := true, esi := false, rtr := false, dlc := 0, data := [], pex := false, sof := 0 }

/-- A GET of the root. -/
def getRoot : CoapMsg :=
  { con := true, mid := 1, token := [], code := 1, path := [], format := none, accept := none, block1 := none, block2 := none,
    badOption := false, payload := [] }

/-- A method that CoAP requests do not have. -/
def badVia : ReqVia := .coap 0 { getRoot with code := 5 }

def noneFit (l : List Instr) : Bool := l.all (fun c => !c.wf)

def allFit (l : List Instr) : Bool := l.all Instr.wf

set_option maxRecDepth 20000 in
theorem test_wf_operands : memSizeWf .fetch 1 0 = false ∧ memSizeWf .lr 2 0 = false ∧ memSizeWf (.amo .add) 1 0 = false ∧
    wordAligned false 0x10000002#32 = false ∧ wordAligned true 0x10000000#32 = false ∧ (StoreFind.store 4).wf 4 = false ∧
    { airFrame with rate := 2 }.wf = false ∧ 
    { airFrame with psdu := List.replicate 2048 0 }.wf = false ∧
    (TxEnd.error 0 8 false).wf = false ∧ { busFrame with xtd := false, id := 2048 }.wf = false ∧ { busFrame with dlc := 16 }.wf = false ∧
    { busFrame with fdf := false, data := List.replicate 9 0 }.wf = false := by decide

theorem test_wf_messages : { getRoot with mid := 65536 }.wf = false ∧ { getRoot with token := List.replicate 9 0 }.wf = false ∧
    { getRoot with code := 0 }.wf = false ∧ { getRoot with block1 := some (0, false, 8) }.wf = false ∧
    { getRoot with block2 := some (0, false, 8) }.wf = false ∧ (OpenVia.dtls 0 [1, 2, 3, 4] 5684 true false).wf = false ∧
    (OpenVia.dtls 1 [1, 2, 3] 5684 true false).wf = false ∧ (OpenVia.dtls 1 [1, 2, 3, 4] 65536 true false).wf = false ∧
    captureSource 0xA0 = false ∧ captureSource 0x109 = false ∧ captureSource 0x124 = false := by decide

theorem test_wf_plane : noneFit [.memoryAccess core0 .load 3 0 0 .clean, .patrolScrub true [1] [], .patrolScrub false [] [0],
    .bscRead core0 2, .bscWrite core0 2, .bscTrim core0 2, .bscCommandDone 2 .ok, .bscCommandDone 0 (.ecc 65536),
    .irqRequestChange 160, .irqClaim core0 2, .irqComplete core0 2 0, .priorityWrite core0 160 0, .thresholdWrite core0 2 0,
    .wakeLatchSet 24 0, .cellMeasureDone 65536, .chargerSwitch 65536, .tamper 4 true 0] = true := by decide

theorem test_wf_time : noneFit [.pathBoundary { quiet with floors := List.replicate 65 (0, 0) },
    .timeAdjustApply { quiet with floors := List.replicate 65 (0, 0) }, .pathLengthChange { quiet with floors := List.replicate 65 (0, 0) },
    .comparatorEnable core0 16 0, .comparatorFire 16, .capture 0xA0 true, .ntpResponse 4, .ntpRequest 4, .terminusMessageReceive 4,
    .subscriberExpiry (2 ^ 64), .rxFrame { airFrame with chan := 64 }, .txFrameEnd 4 0 0 false, .bandRegisterWrite core0 4 0 0,
    .bandRegisterWrite core0 0 3 0] = true := by decide

theorem test_wf_lights : noneFit [.lfeIngest 3, .gainSurvey badVia, .inputOverride badVia, .zoneOverride badVia, .groupOverride badVia,
    .zoneSetOverride badVia, .mappingCheck badVia, .chainLatch 4 [], .matrixRowSlot 4 [], .lineCycleEnd 12 ⟨1, 0, []⟩,
    .lineCycleEnd 0 ⟨0, 0, []⟩, .lineCycleTimeout 12 ⟨1, 0, []⟩, .pseudoCycleEntry 12, .pseudoCycleEnd 12 ⟨1, 0, []⟩, .modulatorStuck 16,
    .clockFault 2, .overRange 16 0, .faultLiveEnd true 2, .faultLiveEnd false 16] = true := by decide

theorem test_wf_requests : noneFit [.handover badVia, .odRead badVia, .odWrite badVia, .sessionOpen (.dtls 4 [] 0 true true),
    .sessionClose 65536, .sessionIdleTimeout 65536, .versionPost 0 { getRoot with code := 5 }, .coapRequest 0 { getRoot with code := 5 },
    .block1Discard 65536, .separateResponse 0 { getRoot with code := 5 }, .moduleRestart badVia, .restoreFactory badVia, .forcedSet badVia,
    .identify badVia, .clearNodeFault badVia, .rejoin badVia, .leave badVia, .nodeRead badVia, .clearRegisters badVia, .newEpoch badVia,
    .arm badVia, .disarm badVia, .confirm badVia, .revert badVia, .nodeDistribution badVia, .loadOpen badVia, .loadData badVia,
    .loadClose badVia, .loadAbort badVia, .clearFault badVia, .testTransmission badVia] = true := by decide

set_option maxRecDepth 20000 in
theorem test_wf_wired : noneFit [.linkFrameReceive (List.replicate 1515 0) 0 0, .linkFrameReceive [] (2 ^ 64) 0,
    .fbFrameReceive { busFrame with dlc := 16 }, .fbTxComplete (.error 9 0 false), .fbError 9 0 false, .fbError 1 8 false,
    .xnc8StatusMissing 128, .ethFrameReceive 3 [] true, .ethFrameSend 3, .portLinkChange 4 true true true false true, .dnsResolve [some [1]],
    .hwQueueWrite 5 0 0 [], .hwQueueWrite 0 32 0 [], .portSelect core0 4 0, .portHdrWrite core0 4 0, .portDataWrite core0 4 0,
    .portHdrRead core0 4 false, .portDataRead core0 4, .portCommit core0 4, .portRewind core0 4, .portNext core0 4] = true := by decide

theorem test_wf_stores : noneFit [.contextLoad core0 3 0, .eventPost 256 0 [] true, .eventPost 0 256 [] true,
    .eventPost 0 0 (List.replicate 21 0) true, .portPost core0 2 0, .repeatEntryClose 32, .updJobDone (.ecc 65536) 0, .updJobDone .ok 65537,
    .faultEnd 65536 0, .gpioEdge 16 true, .gpioPulseEnd 16, .dinEdge 8 true 0, .contactorTrip 4, .contactorOpenLoad 4,
    .contactorCurrentReturn 4] = true := by decide

theorem test_wf_good : allFit [.memoryAccess core0 .load 4 0 0 .clean, .bscRead core0 1, .comparatorEnable core0 15 0, .capture 0x123 true,
    .rxFrame airFrame, .fbFrameReceive busFrame, .coapRequest 0 getRoot, .priorityWrite core0 159 0, .updJobDone .ok 65536] = true := by decide

end Sys2Proof.Tests
end

/-! ## Narrow and misaligned accesses (chapter 02, R8, R31, R32) -/

namespace Sys2Proof.Machine

open Sys2Proof

section
variable {o : Origin} {op : MemOp} {size a : Nat} {v : Word} {found : EccFind} {s : State}

/-! ### The access at an address -/

theorem exec_memoryAccess (o : Origin) (op : MemOp) (size : Nat) (addr v : Word) (found : EccFind) (s : State) :
    exec (.memoryAccess o op size addr v found) s = .next (anyAccess o op size addr.toNat v found s) := rfl

theorem anyAccess_of_inPlane (ha : inPlane a = true) : anyAccess o op size a v found s = planeAccess o op size a v s :=
  if_pos ha

theorem anyAccess_of_not_inPlane (ha : ¬ inPlane a = true) :
    anyAccess o op size a v found s = memAccess o op size a v found s :=
  if_neg ha

theorem accessSize_of_load_or_store (hop : op = .load ∨ op = .store) (size : Nat) : accessSize op size = size := by
  obtain rfl | rfl := hop <;> rfl

/-! ### The accesses that do nothing -/

theorem planeAccess_misaligned (hop : op ≠ .fetch) (ha : a % accessSize op size ≠ 0) :
    planeAccess o op size a v s = setResult o .misaligned s :=
  if_pos ⟨hop, ha⟩

theorem planeAccess_narrow (ha : a % accessSize op size = 0) (hn : accessSize op size ≠ 4) :
    planeAccess o op size a v s = setResult o .busError s :=
  (if_neg fun h => h.2 ha).trans (if_pos hn)

theorem memAccess_misaligned (hop : op ≠ .fetch) (ha : a % accessSize op size ≠ 0) :
    memAccess o op size a v found s = setResult o .misaligned s :=
  if_pos ⟨hop, ha⟩

theorem memAccess_unmapped (ha : a % accessSize op size = 0)
    (hm : ¬ (inRom a = true ∨ inSram a = true ∨ inCell a = true ∨ inDram a = true)) :
    memAccess o op size a v found s = setResult o .busError s := by
  have hout : (!(inRom a || inSram a || inCell a || inDram a)) = true := by simpa [and_assoc] using hm
  exact (if_neg fun h => h.2 ha).trans (if_pos hout)

/-- Alignment is judged first, whatever the address is mapped to (R32). -/
theorem anyAccess_misaligned (hop : op ≠ .fetch) (ha : a % accessSize op size ≠ 0) :
    anyAccess o op size a v found s = setResult o .misaligned s := by
  by_cases hp : inPlane a = true
  · rw [anyAccess_of_inPlane hp, planeAccess_misaligned hop ha]
  · rw [anyAccess_of_not_inPlane hp, memAccess_misaligned hop ha]

end

/-- Settles O13: the plane and the memories each judge the alignment first, then the width or the range. -/
theorem narrowAndMisalignedAccessesDoNothing : Obligations.NarrowAndMisalignedAccessesDoNothing := by
  intro s o op size addr v found
  simp only [exec_memoryAccess]
  refine ⟨fun hp hop hsize ha => ?narrow, fun hop ha => ?misaligned, fun ha hm => ?unmapped⟩
  case narrow =>
    have hn : accessSize op size = size := accessSize_of_load_or_store hop size
    rw [anyAccess_of_inPlane hp, planeAccess_narrow (by rwa [hn]) (by omega)]
  case misaligned => rw [anyAccess_misaligned hop ha]
  case unmapped =>
    simp only [not_or] at hm
    obtain ⟨hrom, hsram, hcell, hdram, hplane⟩ := hm
    rw [anyAccess_of_not_inPlane hplane, memAccess_unmapped ha (by simp [hrom, hsram, hcell, hdram])]

/-- The hypotheses of O13 can be met: at reset, a byte load at the base of the plane, a word store two octets into SRAM
and an instruction fetch between the ROM and SRAM. -/
theorem narrowAndMisalignedAccesses_witness (o : Origin) :
    exec (.memoryAccess o .load 1 0x40000000 0 .clean) State.reset = .next (setResult o .busError State.reset) ∧
    exec (.memoryAccess o .store 4 0x10000002 0 .clean) State.reset = .next (setResult o .misaligned State.reset) ∧
    exec (.memoryAccess o .fetch 4 0x00010000 0 .clean) State.reset = .next (setResult o .busError State.reset) :=
  have settled := narrowAndMisalignedAccessesDoNothing State.reset o
  ⟨(settled .load 1 0x40000000 0 .clean).1 (by decide) (.inl rfl) (.inl rfl) (by decide),
    (settled .store 4 0x10000002 0 .clean).2.1 (by decide) (by decide),
    (settled .fetch 4 0x00010000 0 .clean).2.2 (by decide) (by decide)⟩

end Sys2Proof.Machine

/-! ## What every command and every step keeps (chapter 02, R37, R42, R44, R49; chapter 16, R416) -/

namespace Sys2Proof.Machine

open Sys2Proof

/-! ### The parts and blocks of a command -/

/-- The number `m` with the bits of the list set. -/
def withBits (l : List Nat) (m : Nat) : Nat := l.foldl (fun m i => m ||| 2 ^ i) m

theorem testBit_withBits (l : List Nat) (m i : Nat) : (withBits l m).testBit i = (m.testBit i || decide (i ∈ l)) := by
  unfold withBits
  induction l generalizing m with
  | nil => simp
  | cons k l ih => simp [ih, Nat.testBit_two_pow, Bool.or_assoc, eq_comm]

/-- A number whose bits change nothing among those of the list has no others. -/
theorem testBit_of_withBits {l : List Nat} {m i : Nat} (h : withBits l m = withBits l 0) (hi : i ∉ l) : m.testBit i = false := by
  have := congrArg (Nat.testBit · i) h
  simpa [testBit_withBits, hi] using this

/-- What command `c` did from `s`: it went on, and kept every part outside `partsOf c` and the registers of every block outside
`blocksOf c`. -/
def Stays (c : Instr) (s : State) (o : Host.Outcome State Fault Refusal) : Prop :=
  ∃ m, NextKeeps m s o ∧ (∀ p ∉ partsOf c, m.testBit p.idx = false) ∧ ∀ i ∉ blocksOf c, m.testBit (40 + i) = false

theorem Part.every_idx (p : Part) : Part.every[p.idx]? = some p := by cases p <;> rfl

theorem Part.idx_injective {p q : Part} (h : p.idx = q.idx) : p = q :=
  Option.some.inj (p.every_idx.symm.trans ((congrArg (Part.every[·]?) h).trans q.every_idx))

theorem Part.idx_lt (p : Part) : p.idx < 40 := by cases p <;> decide

/-- The set of parts stands below bit 40 of `m`, that of blocks from there on. -/
theorem Stays.of {c : Instr} {s : State} {o : Host.Outcome State Fault Refusal} {m : Nat} (h : NextKeeps m s o)
    (hp : withBits ((partsOf c).map Part.idx) (m % 2 ^ 40) = withBits ((partsOf c).map Part.idx) 0)
    (hb : withBits (blocksOf c) (m / 2 ^ 40) = withBits (blocksOf c) 0) : Stays c s o := by
  refine ⟨m, h, fun p hn => ?_, fun i hn => ?_⟩
  · have hi : p.idx ∉ (partsOf c).map Part.idx := fun hm => by
      obtain ⟨q, hq, e⟩ := List.mem_map.1 hm
      exact hn (Part.idx_injective e ▸ hq)
    have := testBit_of_withBits hp hi
    rwa [Nat.testBit_mod_two_pow, decide_eq_true p.idx_lt, Bool.true_and] at this
  · have := testBit_of_withBits hb hn
    rwa [Nat.testBit_div_two_pow, Nat.add_comm] at this

/-- Every command, by the law of its meaning. -/
theorem exec_stays (c : Instr) (s : State) : Stays c s (exec c s) :=
  match c with
  | .registerWrite .. => .of (execRegisterWrite_keeps (Sub.refl _) (Keeps.refl s)) rfl rfl
  | .memoryAccess .. => .of (execMemoryAccess_keeps (Sub.refl _) (Keeps.refl s)) rfl rfl
  | .patrolScrub .. => .of (execPatrolScrub_keeps (Sub.refl _) (Keeps.refl s)) rfl rfl
  | .bscRead .. => .of (execBscRead_keeps (Sub.refl _) (Keeps.refl s)) rfl rfl
  | .bscWrite .. => .of (execBscWrite_keeps (Sub.refl _) (Keeps.refl s)) rfl rfl
  | .bscTrim .. => .of (execBscTrim_keeps (Sub.refl _) (Keeps.refl s)) rfl rfl
  | .bscCommandDone .. => .of (execBscCommandDone_keeps (Sub.refl _) (Keeps.refl s)) rfl rfl
  | .core1RunWrite .. => .of (execCore1RunWrite_keeps (Sub.refl _) (Keeps.refl s)) rfl rfl
  | .sysrst .. => .of (execSysrst_keeps (Sub.refl _) (Keeps.refl s)) rfl rfl
  | .seal .. => .of (execSeal_keeps (Sub.refl _) (Keeps.refl s)) rfl rfl
  | .powerModeWrite .. => .of (execPowerModeWrite_keeps (Sub.refl _) (Keeps.refl s)) rfl rfl
  | .wdt0Kick .. => .of (execWdt0Kick_keeps (Sub.refl _) (Keeps.refl s)) rfl rfl
  | .wdt0Warn => .of (execWdt0Warn_keeps (Sub.refl _) (Keeps.refl s)) rfl rfl
  | .wdt0Expiry => .of (execWdt0Expiry_keeps (Sub.refl _) (Keeps.refl s)) rfl rfl
  | .wdt1Kick .. => .of (execWdt1Kick_keeps (Sub.refl _) (Keeps.refl s)) rfl rfl
  | .wdt1Expiry => .of (execWdt1Expiry_keeps (Sub.refl _) (Keeps.refl s)) rfl rfl
  | .pathBoundary .. => .of (execPathBoundary_keeps (Sub.refl _) (Keeps.refl s)) rfl rfl
  | .ntbRun .. => .of (execNtbRun_keeps (Sub.refl _) (Keeps.refl s)) rfl rfl
  | .timeRead .. => .of (execTimeRead_keeps (Sub.refl _) (Keeps.refl s)) rfl rfl
  | .timeSet .. => .of (execTimeSet_keeps (Sub.refl _) (Keeps.refl s)) rfl rfl
  | .timeStep .. => .of (execTimeStep_keeps (Sub.refl _) (Keeps.refl s)) rfl rfl
  | .timeAdjustApply .. => .of (execTimeAdjustApply_keeps (Sub.refl _) (Keeps.refl s)) rfl rfl
  | .sourceFed .. => .of (execSourceFed_keeps (Sub.refl _) (Keeps.refl s)) rfl rfl
  | .timeInvalidate .. => .of (execTimeInvalidate_keeps (Sub.refl _) (Keeps.refl s)) rfl rfl
  | .sourceHoldExpiry => .of (execSourceHoldExpiry_keeps (Sub.refl _) (Keeps.refl s)) rfl rfl
  | .pathLengthChange .. => .of (execPathLengthChange_keeps (Sub.refl _) (Keeps.refl s)) rfl rfl
  | .comparatorEnable .. => .of (execComparatorEnable_keeps (Sub.refl _) (Keeps.refl s)) rfl rfl
  | .comparatorFire .. => .of (execComparatorFire_keeps (Sub.refl _) (Keeps.refl s)) rfl rfl
  | .capture .. => .of (execCapture_keeps (Sub.refl _) (Keeps.refl s)) rfl rfl
  | .ntpPoll => .of (execNtpPoll_keeps (Sub.refl _) (Keeps.refl s)) rfl rfl
  | .ntpResponse .. => .of (execNtpResponse_keeps (Sub.refl _) (Keeps.refl s)) rfl rfl
  | .ntpRequest .. => .of (execNtpRequest_keeps (Sub.refl _) (Keeps.refl s)) rfl rfl
  | .terminusAnnounce => .of (execTerminusAnnounce_keeps (Sub.refl _) (Keeps.refl s)) rfl rfl
  | .announceMissed => .of (execAnnounceMissed_keeps (Sub.refl _) (Keeps.refl s)) rfl rfl
  | .deputyClaim => .of (execDeputyClaim_keeps (Sub.refl _) (Keeps.refl s)) rfl rfl
  | .terminusReady => .of (execTerminusReady_keeps (Sub.refl _) (Keeps.refl s)) rfl rfl
  | .handbackSecond => .of (execHandbackSecond_keeps (Sub.refl _) (Keeps.refl s)) rfl rfl
  | .subscribeSend => .of (execSubscribeSend_keeps (Sub.refl _) (Keeps.refl s)) rfl rfl
  | .terminusMessageReceive .. => .of (execTerminusMessageReceive_keeps (Sub.refl _) (Keeps.refl s)) rfl rfl
  | .subscriberExpiry .. => .of (execSubscriberExpiry_keeps (Sub.refl _) (Keeps.refl s)) rfl rfl
  | .conflictExpiry => .of (execConflictExpiry_keeps (Sub.refl _) (Keeps.refl s)) rfl rfl
  | .rxFrame .. => .of (execRxFrame_keeps (Sub.refl _) (Keeps.refl s)) rfl rfl
  | .txFrameEnd .. => .of (execTxFrameEnd_keeps (Sub.refl _) (Keeps.refl s)) rfl rfl
  | .rfeStop .. => .of (execRfeStop_keeps (Sub.refl _) (Keeps.refl s)) rfl rfl
  | .txenWrite .. => .of (execTxenWrite_keeps (Sub.refl _) (Keeps.refl s)) rfl rfl
  | .bandRegisterWrite .. => .of (execBandRegisterWrite_keeps (Sub.refl _) (Keeps.refl s)) rfl rfl
  | .dutyBucketClose => .of (execDutyBucketClose_keeps (Sub.refl _) (Keeps.refl s)) rfl rfl
  | .readmit => .of (execReadmit_keeps (Sub.refl _) (Keeps.refl s)) rfl rfl
  | .tteRunWrite .. => .of (execTteRunWrite_keeps (Sub.refl _) (Keeps.refl s)) rfl rfl
  | .tteOpen .. => .of (execTteOpen_keeps (Sub.refl _) (Keeps.refl s)) rfl rfl
  | .silentFifoRead .. => .of (execSilentFifoRead_keeps (Sub.refl _) (Keeps.refl s)) rfl rfl
  | .joinResponseExpiry => .of (execJoinResponseExpiry_keeps (Sub.refl _) (Keeps.refl s)) rfl rfl
  | .nodeRelease .. => .of (execNodeRelease_keeps (Sub.refl _) (Keeps.refl s)) rfl rfl
  | .joinCellsReduce => .of (execJoinCellsReduce_keeps (Sub.refl _) (Keeps.refl s)) rfl rfl
  | .standbyBeaconResync .. => .of (execStandbyBeaconResync_keeps (Sub.refl _) (Keeps.refl s)) rfl rfl
  | .epochDeliveryEnd => .of (execEpochDeliveryEnd_keeps (Sub.refl _) (Keeps.refl s)) rfl rfl
  | .epochAgeLimit => .of (execEpochAgeLimit_keeps (Sub.refl _) (Keeps.refl s)) rfl rfl
  | .joinRequestReceive => .of (execJoinRequestReceive_keeps (Sub.refl _) (Keeps.refl s)) rfl rfl
  | .reportReceive => .of (execReportReceive_keeps (Sub.refl _) (Keeps.refl s)) rfl rfl
  | .dataFrameReceive => .of (execDataFrameReceive_keeps (Sub.refl _) (Keeps.refl s)) rfl rfl
  | .alarmReceive => .of (execAlarmReceive_keeps (Sub.refl _) (Keeps.refl s)) rfl rfl
  | .forwardEntryRead => .of (execForwardEntryRead_keeps (Sub.refl _) (Keeps.refl s)) rfl rfl
  | .commandRetry .. => .of (execCommandRetry_keeps (Sub.refl _) (Keeps.refl s)) rfl rfl
  | .distributionPassEnd => .of (execDistributionPassEnd_keeps (Sub.refl _) (Keeps.refl s)) rfl rfl
  | .lfeRunWrite .. => .of (execLfeRunWrite_keeps (Sub.refl _) (Keeps.refl s)) rfl rfl
  | .lfeIngest .. => .of (execLfeIngest_keeps (Sub.refl _) (Keeps.refl s)) rfl rfl
  | .lfeGo .. => .of (execLfeGo_keeps (Sub.refl _) (Keeps.refl s)) rfl rfl
  | .innerCycleStart => .of (execInnerCycleStart_keeps (Sub.refl _) (Keeps.refl s)) rfl rfl
  | .cycleOverrun => .of (execCycleOverrun_keeps (Sub.refl _) (Keeps.refl s)) rfl rfl
  | .cycleComplete => .of (execCycleComplete_keeps (Sub.refl _) (Keeps.refl s)) rfl rfl
  | .engineWordAccess .. => .of (execEngineWordAccess_keeps (Sub.refl _) (Keeps.refl s)) rfl rfl
  | .gainSurvey .. => .of (execGainSurvey_keeps (Sub.refl _) (Keeps.refl s)) rfl rfl
  | .surveyStep => .of (execSurveyStep_keeps (Sub.refl _) (Keeps.refl s)) rfl rfl
  | .zoneModelApply => .of (execZoneModelApply_keeps (Sub.refl _) (Keeps.refl s)) rfl rfl
  | .zoneModelMapsWrite => .of (execZoneModelMapsWrite_keeps (Sub.refl _) (Keeps.refl s)) rfl rfl
  | .localMidnight => .of (execLocalMidnight_keeps (Sub.refl _) (Keeps.refl s)) rfl rfl
  | .ainSample .. => .of (execAinSample_keeps (Sub.refl _) (Keeps.refl s)) rfl rfl
  | .photocellMean => .of (execPhotocellMean_keeps (Sub.refl _) (Keeps.refl s)) rfl rfl
  | .photocellPoint => .of (execPhotocellPoint_keeps (Sub.refl _) (Keeps.refl s)) rfl rfl
  | .programPoint => .of (execProgramPoint_keeps (Sub.refl _) (Keeps.refl s)) rfl rfl
  | .calendarEventEdge => .of (execCalendarEventEdge_keeps (Sub.refl _) (Keeps.refl s)) rfl rfl
  | .trafficEvaluation => .of (execTrafficEvaluation_keeps (Sub.refl _) (Keeps.refl s)) rfl rfl
  | .rSchedWrite => .of (execRSchedWrite_keeps (Sub.refl _) (Keeps.refl s)) rfl rfl
  | .inputOverride .. => .of (execInputOverride_keeps (Sub.refl _) (Keeps.refl s)) rfl rfl
  | .zoneOverride .. => .of (execZoneOverride_keeps (Sub.refl _) (Keeps.refl s)) rfl rfl
  | .groupOverride .. => .of (execGroupOverride_keeps (Sub.refl _) (Keeps.refl s)) rfl rfl
  | .zoneSetOverride .. => .of (execZoneSetOverride_keeps (Sub.refl _) (Keeps.refl s)) rfl rfl
  | .overrideRenew => .of (execOverrideRenew_keeps (Sub.refl _) (Keeps.refl s)) rfl rfl
  | .overrideEnd => .of (execOverrideEnd_keeps (Sub.refl _) (Keeps.refl s)) rfl rfl
  | .meterRunWrite .. => .of (execMeterRunWrite_keeps (Sub.refl _) (Keeps.refl s)) rfl rfl
  | .meterLoad .. => .of (execMeterLoad_keeps (Sub.refl _) (Keeps.refl s)) rfl rfl
  | .meterSave .. => .of (execMeterSave_keeps (Sub.refl _) (Keeps.refl s)) rfl rfl
  | .meterSaveDone => .of (execMeterSaveDone_keeps (Sub.refl _) (Keeps.refl s)) rfl rfl
  | .meterClear .. => .of (execMeterClear_keeps (Sub.refl _) (Keeps.refl s)) rfl rfl
  | .meterClose .. => .of (execMeterClose_keeps (Sub.refl _) (Keeps.refl s)) rfl rfl
  | .lineCycleEnd .. => .of (execLineCycleEnd_keeps (Sub.refl _) (Keeps.refl s)) rfl rfl
  | .lineCycleTimeout .. => .of (execLineCycleTimeout_keeps (Sub.refl _) (Keeps.refl s)) rfl rfl
  | .pseudoCycleEntry .. => .of (execPseudoCycleEntry_keeps (Sub.refl _) (Keeps.refl s)) rfl rfl
  | .profileRecordCopy => .of (execProfileRecordCopy_keeps (Sub.refl _) (Keeps.refl s)) rfl rfl
  | .modulatorStuck .. => .of (execModulatorStuck_keeps (Sub.refl _) (Keeps.refl s)) rfl rfl
  | .clockFault .. => .of (execClockFault_keeps (Sub.refl _) (Keeps.refl s)) rfl rfl
  | .overRange .. => .of (execOverRange_keeps (Sub.refl _) (Keeps.refl s)) rfl rfl
  | .faultLiveEnd .. => .of (execFaultLiveEnd_keeps (Sub.refl _) (Keeps.refl s)) rfl rfl
  | .balanceCompute => .of (execBalanceCompute_keeps (Sub.refl _) (Keeps.refl s)) rfl rfl
  | .mappingCheck .. => .of (execMappingCheck_keeps (Sub.refl _) (Keeps.refl s)) rfl rfl
  | .mappingCheckStep => .of (execMappingCheckStep_keeps (Sub.refl _) (Keeps.refl s)) rfl rfl
  | .sdcRunWrite .. => .of (execSdcRunWrite_keeps (Sub.refl _) (Keeps.refl s)) rfl rfl
  | .sdcGo .. => .of (execSdcGo_keeps (Sub.refl _) (Keeps.refl s)) rfl rfl
  | .sdcCfgall .. => .of (execSdcCfgall_keeps (Sub.refl _) (Keeps.refl s)) rfl rfl
  | .chainLatch .. => .of (execChainLatch_keeps (Sub.refl _) (Keeps.refl s)) rfl rfl
  | .matrixRowSlot .. => .of (execMatrixRowSlot_keeps (Sub.refl _) (Keeps.refl s)) rfl rfl
  | .sdcTableAccess .. => .of (execSdcTableAccess_keeps (Sub.refl _) (Keeps.refl s)) rfl rfl
  | .tokenClaim .. => .of (execTokenClaim_keeps (Sub.refl _) (Keeps.refl s)) rfl rfl
  | .tokenRelease .. => .of (execTokenRelease_keeps (Sub.refl _) (Keeps.refl s)) rfl rfl
  | .tknRunWrite .. => .of (execTknRunWrite_keeps (Sub.refl _) (Keeps.refl s)) rfl rfl
  | .autoClaim => .of (execAutoClaim_keeps (Sub.refl _) (Keeps.refl s)) rfl rfl
  | .ilkInChange .. => .of (execIlkInChange_keeps (Sub.refl _) (Keeps.refl s)) rfl rfl
  | .interlockConflict => .of (execInterlockConflict_keeps (Sub.refl _) (Keeps.refl s)) rfl rfl
  | .fbHeartbeatSend => .of (execFbHeartbeatSend_keeps (Sub.refl _) (Keeps.refl s)) rfl rfl
  | .linkCycleFrameSend => .of (execLinkCycleFrameSend_keeps (Sub.refl _) (Keeps.refl s)) rfl rfl
  | .slotFrameSend => .of (execSlotFrameSend_keeps (Sub.refl _) (Keeps.refl s)) rfl rfl
  | .linkFrameReceive .. => .of (execLinkFrameReceive_keeps (Sub.refl _) (Keeps.refl s)) rfl rfl
  | .linkSilence => .of (execLinkSilence_keeps (Sub.refl _) (Keeps.refl s)) rfl rfl
  | .keeperStart => .of (execKeeperStart_keeps (Sub.refl _) (Keeps.refl s)) rfl rfl
  | .admissionTimeout => .of (execAdmissionTimeout_keeps (Sub.refl _) (Keeps.refl s)) rfl rfl
  | .slotCollisionBackoff => .of (execSlotCollisionBackoff_keeps (Sub.refl _) (Keeps.refl s)) rfl rfl
  | .heartbeatPathLoss .. => .of (execHeartbeatPathLoss_keeps (Sub.refl _) (Keeps.refl s)) rfl rfl
  | .streamResend => .of (execStreamResend_keeps (Sub.refl _) (Keeps.refl s)) rfl rfl
  | .streamSnapshot => .of (execStreamSnapshot_keeps (Sub.refl _) (Keeps.refl s)) rfl rfl
  | .startListenEnd => .of (execStartListenEnd_keeps (Sub.refl _) (Keeps.refl s)) rfl rfl
  | .startWaitEnd => .of (execStartWaitEnd_keeps (Sub.refl _) (Keeps.refl s)) rfl rfl
  | .becomeActive => .of (execBecomeActive_keeps (Sub.refl _) (Keeps.refl s)) rfl rfl
  | .yield => .of (execYield_keeps (Sub.refl _) (Keeps.refl s)) rfl rfl
  | .yieldEnd => .of (execYieldEnd_keeps (Sub.refl _) (Keeps.refl s)) rfl rfl
  | .takeover => .of (execTakeover_keeps (Sub.refl _) (Keeps.refl s)) rfl rfl
  | .handover .. => .of (execHandover_keeps (Sub.refl _) (Keeps.refl s)) rfl rfl
  | .handoverPrepare => .of (execHandoverPrepare_keeps (Sub.refl _) (Keeps.refl s)) rfl rfl
  | .handoverSwitch => .of (execHandoverSwitch_keeps (Sub.refl _) (Keeps.refl s)) rfl rfl
  | .handoverAbandon => .of (execHandoverAbandon_keeps (Sub.refl _) (Keeps.refl s)) rfl rfl
  | .odRead .. => .of (execOdRead_keeps (Sub.refl _) (Keeps.refl s)) rfl rfl
  | .odWrite .. => .of (execOdWrite_keeps (Sub.refl _) (Keeps.refl s)) rfl rfl
  | .sessionOpen .. => .of (execSessionOpen_keeps (Sub.refl _) (Keeps.refl s)) rfl rfl
  | .sessionClose .. => .of (execSessionClose_keeps (Sub.refl _) (Keeps.refl s)) rfl rfl
  | .sessionIdleTimeout .. => .of (execSessionIdleTimeout_keeps (Sub.refl _) (Keeps.refl s)) rfl rfl
  | .versionPost .. => .of (execVersionPost_keeps (Sub.refl _) (Keeps.refl s)) rfl rfl
  | .transferSegment => .of (execTransferSegment_keeps (Sub.refl _) (Keeps.refl s)) rfl rfl
  | .segmentAcknowledgement => .of (execSegmentAcknowledgement_keeps (Sub.refl _) (Keeps.refl s)) rfl rfl
  | .transferAbort => .of (execTransferAbort_keeps (Sub.refl _) (Keeps.refl s)) rfl rfl
  | .transferTimeout => .of (execTransferTimeout_keeps (Sub.refl _) (Keeps.refl s)) rfl rfl
  | .coapRequest .. => .of (execCoapRequest_keeps (Sub.refl _) (Keeps.refl s)) rfl rfl
  | .block1Discard .. => .of (execBlock1Discard_keeps (Sub.refl _) (Keeps.refl s)) rfl rfl
  | .separateResponse .. => .of (execSeparateResponse_keeps (Sub.refl _) (Keeps.refl s)) rfl rfl
  | .moduleRestart .. => .of (execModuleRestart_keeps (Sub.refl _) (Keeps.refl s)) rfl rfl
  | .restoreFactory .. => .of (execRestoreFactory_keeps (Sub.refl _) (Keeps.refl s)) rfl rfl
  | .forcedSet .. => .of (execForcedSet_keeps (Sub.refl _) (Keeps.refl s)) rfl rfl
  | .identify .. => .of (execIdentify_keeps (Sub.refl _) (Keeps.refl s)) rfl rfl
  | .clearNodeFault .. => .of (execClearNodeFault_keeps (Sub.refl _) (Keeps.refl s)) rfl rfl
  | .rejoin .. => .of (execRejoin_keeps (Sub.refl _) (Keeps.refl s)) rfl rfl
  | .leave .. => .of (execLeave_keeps (Sub.refl _) (Keeps.refl s)) rfl rfl
  | .nodeRead .. => .of (execNodeRead_keeps (Sub.refl _) (Keeps.refl s)) rfl rfl
  | .clearRegisters .. => .of (execClearRegisters_keeps (Sub.refl _) (Keeps.refl s)) rfl rfl
  | .newEpoch .. => .of (execNewEpoch_keeps (Sub.refl _) (Keeps.refl s)) rfl rfl
  | .arm .. => .of (execArm_keeps (Sub.refl _) (Keeps.refl s)) rfl rfl
  | .disarm .. => .of (execDisarm_keeps (Sub.refl _) (Keeps.refl s)) rfl rfl
  | .confirm .. => .of (execConfirm_keeps (Sub.refl _) (Keeps.refl s)) rfl rfl
  | .revert .. => .of (execRevert_keeps (Sub.refl _) (Keeps.refl s)) rfl rfl
  | .nodeDistribution .. => .of (execNodeDistribution_keeps (Sub.refl _) (Keeps.refl s)) rfl rfl
  | .loadOpen .. => .of (execLoadOpen_keeps (Sub.refl _) (Keeps.refl s)) rfl rfl
  | .loadData .. => .of (execLoadData_keeps (Sub.refl _) (Keeps.refl s)) rfl rfl
  | .loadClose .. => .of (execLoadClose_keeps (Sub.refl _) (Keeps.refl s)) rfl rfl
  | .loadAbort .. => .of (execLoadAbort_keeps (Sub.refl _) (Keeps.refl s)) rfl rfl
  | .loadIdleTimeout => .of (execLoadIdleTimeout_keeps (Sub.refl _) (Keeps.refl s)) rfl rfl
  | .loadVerifyDone => .of (execLoadVerifyDone_keeps (Sub.refl _) (Keeps.refl s)) rfl rfl
  | .clearFault .. => .of (execClearFault_keeps (Sub.refl _) (Keeps.refl s)) rfl rfl
  | .testTransmission .. => .of (execTestTransmission_keeps (Sub.refl _) (Keeps.refl s)) rfl rfl
  | .fbFrameReceive .. => .of (execFbFrameReceive_keeps (Sub.refl _) (Keeps.refl s)) rfl rfl
  | .xnc8StatusReceive => .of (execXnc8StatusReceive_keeps (Sub.refl _) (Keeps.refl s)) rfl rfl
  | .inputEventReceive => .of (execInputEventReceive_keeps (Sub.refl _) (Keeps.refl s)) rfl rfl
  | .claimReceive => .of (execClaimReceive_keeps (Sub.refl _) (Keeps.refl s)) rfl rfl
  | .fbTxRequest .. => .of (execFbTxRequest_keeps (Sub.refl _) (Keeps.refl s)) rfl rfl
  | .fbTxAbort .. => .of (execFbTxAbort_keeps (Sub.refl _) (Keeps.refl s)) rfl rfl
  | .fbTxComplete .. => .of (execFbTxComplete_keeps (Sub.refl _) (Keeps.refl s)) rfl rfl
  | .fbError .. => .of (execFbError_keeps (Sub.refl _) (Keeps.refl s)) rfl rfl
  | .fbBusOff => .of (execFbBusOff_keeps (Sub.refl _) (Keeps.refl s)) rfl rfl
  | .fbRecover .. => .of (execFbRecover_keeps (Sub.refl _) (Keeps.refl s)) rfl rfl
  | .fbBusOffRecovered => .of (execFbBusOffRecovered_keeps (Sub.refl _) (Keeps.refl s)) rfl rfl
  | .fbRecoverPauseEnd => .of (execFbRecoverPauseEnd_keeps (Sub.refl _) (Keeps.refl s)) rfl rfl
  | .fbcRunWrite .. => .of (execFbcRunWrite_keeps (Sub.refl _) (Keeps.refl s)) rfl rfl
  | .fbWakeupPattern => .of (execFbWakeupPattern_keeps (Sub.refl _) (Keeps.refl s)) rfl rfl
  | .fbClaimStart => .of (execFbClaimStart_keeps (Sub.refl _) (Keeps.refl s)) rfl rfl
  | .fbClaimListenEnd => .of (execFbClaimListenEnd_keeps (Sub.refl _) (Keeps.refl s)) rfl rfl
  | .fbDupRecheck => .of (execFbDupRecheck_keeps (Sub.refl _) (Keeps.refl s)) rfl rfl
  | .contactorCommandSend => .of (execContactorCommandSend_keeps (Sub.refl _) (Keeps.refl s)) rfl rfl
  | .xnc8StatusMissing .. => .of (execXnc8StatusMissing_keeps (Sub.refl _) (Keeps.refl s)) rfl rfl
  | .ethFrameReceive .. => .of (execEthFrameReceive_keeps (Sub.refl _) (Keeps.refl s)) rfl rfl
  | .ethFrameSend .. => .of (execEthFrameSend_keeps (Sub.refl _) (Keeps.refl s)) rfl rfl
  | .pppFrameReceive .. => .of (execPppFrameReceive_keeps (Sub.refl _) (Keeps.refl s)) rfl rfl
  | .pppFrameSend => .of (execPppFrameSend_keeps (Sub.refl _) (Keeps.refl s)) rfl rfl
  | .portLinkChange .. => .of (execPortLinkChange_keeps (Sub.refl _) (Keeps.refl s)) rfl rfl
  | .backhaulReturn => .of (execBackhaulReturn_keeps (Sub.refl _) (Keeps.refl s)) rfl rfl
  | .pauseRepeat => .of (execPauseRepeat_keeps (Sub.refl _) (Keeps.refl s)) rfl rfl
  | .dnsResolve .. => .of (execDnsResolve_keeps (Sub.refl _) (Keeps.refl s)) rfl rfl
  | .pquRunWrite .. => .of (execPquRunWrite_keeps (Sub.refl _) (Keeps.refl s)) rfl rfl
  | .hwQueueWrite .. => .of (execHwQueueWrite_keeps (Sub.refl _) (Keeps.refl s)) rfl rfl
  | .portSelect .. => .of (execPortSelect_keeps (Sub.refl _) (Keeps.refl s)) rfl rfl
  | .portHdrWrite .. => .of (execPortHdrWrite_keeps (Sub.refl _) (Keeps.refl s)) rfl rfl
  | .portDataWrite .. => .of (execPortDataWrite_keeps (Sub.refl _) (Keeps.refl s)) rfl rfl
  | .portHdrRead .. => .of (execPortHdrRead_keeps (Sub.refl _) (Keeps.refl s)) rfl rfl
  | .portDataRead .. => .of (execPortDataRead_keeps (Sub.refl _) (Keeps.refl s)) rfl rfl
  | .portCommit .. => .of (execPortCommit_keeps (Sub.refl _) (Keeps.refl s)) rfl rfl
  | .portRewind .. => .of (execPortRewind_keeps (Sub.refl _) (Keeps.refl s)) rfl rfl
  | .portNext .. => .of (execPortNext_keeps (Sub.refl _) (Keeps.refl s)) rfl rfl
  | .regen .. => .of (execRegen_keeps (Sub.refl _) (Keeps.refl s)) rfl rfl
  | .zeroize .. => .of (execZeroize_keeps (Sub.refl _) (Keeps.refl s)) rfl rfl
  | .wipe .. => .of (execWipe_keeps (Sub.refl _) (Keeps.refl s)) rfl rfl
  | .hopload .. => .of (execHopload_keeps (Sub.refl _) (Keeps.refl s)) rfl rfl
  | .flushall .. => .of (execFlushall_keeps (Sub.refl _) (Keeps.refl s)) rfl rfl
  | .cacheFlush .. => .of (execCacheFlush_keeps (Sub.refl _) (Keeps.refl s)) rfl rfl
  | .contextLoad .. => .of (execContextLoad_keeps (Sub.refl _) (Keeps.refl s)) rfl rfl
  | .ceilingRaise => .of (execCeilingRaise_keeps (Sub.refl _) (Keeps.refl s)) rfl rfl
  | .aesCtr => .of (execAesCtr_keeps (Sub.refl _) (Keeps.refl s)) rfl rfl
  | .aesGcmEncrypt => .of (execAesGcmEncrypt_keeps (Sub.refl _) (Keeps.refl s)) rfl rfl
  | .aesGcmDecrypt => .of (execAesGcmDecrypt_keeps (Sub.refl _) (Keeps.refl s)) rfl rfl
  | .aesCmac => .of (execAesCmac_keeps (Sub.refl _) (Keeps.refl s)) rfl rfl
  | .aesKeyWrap => .of (execAesKeyWrap_keeps (Sub.refl _) (Keeps.refl s)) rfl rfl
  | .sha256 => .of (execSha256_keeps (Sub.refl _) (Keeps.refl s)) rfl rfl
  | .ecdsaVerify => .of (execEcdsaVerify_keeps (Sub.refl _) (Keeps.refl s)) rfl rfl
  | .ecdsaSign => .of (execEcdsaSign_keeps (Sub.refl _) (Keeps.refl s)) rfl rfl
  | .ephemeralEcdh => .of (execEphemeralEcdh_keeps (Sub.refl _) (Keeps.refl s)) rfl rfl
  | .random => .of (execRandom_keeps (Sub.refl _) (Keeps.refl s)) rfl rfl
  | .installSecretKey => .of (execInstallSecretKey_keeps (Sub.refl _) (Keeps.refl s)) rfl rfl
  | .invalidate => .of (execInvalidate_keeps (Sub.refl _) (Keeps.refl s)) rfl rfl
  | .installPublicKey => .of (execInstallPublicKey_keeps (Sub.refl _) (Keeps.refl s)) rfl rfl
  | .enrol => .of (execEnrol_keeps (Sub.refl _) (Keeps.refl s)) rfl rfl
  | .certificatePart => .of (execCertificatePart_keeps (Sub.refl _) (Keeps.refl s)) rfl rfl
  | .kvtAbort .. => .of (execKvtAbort_keeps (Sub.refl _) (Keeps.refl s)) rfl rfl
  | .kvtCommandDone => .of (execKvtCommandDone_keeps (Sub.refl _) (Keeps.refl s)) rfl rfl
  | .entropyHealthFail => .of (execEntropyHealthFail_keeps (Sub.refl _) (Keeps.refl s)) rfl rfl
  | .eventPost .. => .of (execEventPost_keeps (Sub.refl _) (Keeps.refl s)) rfl rfl
  | .portPost .. => .of (execPortPost_keeps (Sub.refl _) (Keeps.refl s)) rfl rfl
  | .repeatEntryClose .. => .of (execRepeatEntryClose_keeps (Sub.refl _) (Keeps.refl s)) rfl rfl
  | .evrRunWrite .. => .of (execEvrRunWrite_keeps (Sub.refl _) (Keeps.refl s)) rfl rfl
  | .evrSpill .. => .of (execEvrSpill_keeps (Sub.refl _) (Keeps.refl s)) rfl rfl
  | .spillComplete => .of (execSpillComplete_keeps (Sub.refl _) (Keeps.refl s)) rfl rfl
  | .evrRelease .. => .of (execEvrRelease_keeps (Sub.refl _) (Keeps.refl s)) rfl rfl
  | .recordRead .. => .of (execRecordRead_keeps (Sub.refl _) (Keeps.refl s)) rfl rfl
  | .recordBlockWrite => .of (execRecordBlockWrite_keeps (Sub.refl _) (Keeps.refl s)) rfl rfl
  | .journalBlockWrite => .of (execJournalBlockWrite_keeps (Sub.refl _) (Keeps.refl s)) rfl rfl
  | .updHash .. => .of (execUpdHash_keeps (Sub.refl _) (Keeps.refl s)) rfl rfl
  | .updDecrypt .. => .of (execUpdDecrypt_keeps (Sub.refl _) (Keeps.refl s)) rfl rfl
  | .updAbort .. => .of (execUpdAbort_keeps (Sub.refl _) (Keeps.refl s)) rfl rfl
  | .updJobDone .. => .of (execUpdJobDone_keeps (Sub.refl _) (Keeps.refl s)) rfl rfl
  | .activation => .of (execActivation_keeps (Sub.refl _) (Keeps.refl s)) rfl rfl
  | .trialStartCheck => .of (execTrialStartCheck_keeps (Sub.refl _) (Keeps.refl s)) rfl rfl
  | .trialExpiry => .of (execTrialExpiry_keeps (Sub.refl _) (Keeps.refl s)) rfl rfl
  | .standbyTrialRestart => .of (execStandbyTrialRestart_keeps (Sub.refl _) (Keeps.refl s)) rfl rfl
  | .faultEnd .. => .of (execFaultEnd_keeps (Sub.refl _) (Keeps.refl s)) rfl rfl
  | .faultHandlerEnd => .of (execFaultHandlerEnd_keeps (Sub.refl _) (Keeps.refl s)) rfl rfl
  | .escalation .. => .of (execEscalation_keeps (Sub.refl _) (Keeps.refl s)) rfl rfl
  | .journalReplay => .of (execJournalReplay_keeps (Sub.refl _) (Keeps.refl s)) rfl rfl
  | .irqRequestChange .. => .of (execIrqRequestChange_keeps (Sub.refl _) (Keeps.refl s)) rfl rfl
  | .irqClaim .. => .of (execIrqClaim_keeps (Sub.refl _) (Keeps.refl s)) rfl rfl
  | .irqComplete .. => .of (execIrqComplete_keeps (Sub.refl _) (Keeps.refl s)) rfl rfl
  | .softwareInterrupt .. => .of (execSoftwareInterrupt_keeps (Sub.refl _) (Keeps.refl s)) rfl rfl
  | .priorityWrite .. => .of (execPriorityWrite_keeps (Sub.refl _) (Keeps.refl s)) rfl rfl
  | .thresholdWrite .. => .of (execThresholdWrite_keeps (Sub.refl _) (Keeps.refl s)) rfl rfl
  | .wakeLatchSet .. => .of (execWakeLatchSet_keeps (Sub.refl _) (Keeps.refl s)) rfl rfl
  | .wakeLatchClear .. => .of (execWakeLatchClear_keeps (Sub.refl _) (Keeps.refl s)) rfl rfl
  | .calendarSet .. => .of (execCalendarSet_keeps (Sub.refl _) (Keeps.refl s)) rfl rfl
  | .calendarShift .. => .of (execCalendarShift_keeps (Sub.refl _) (Keeps.refl s)) rfl rfl
  | .cellMeasure .. => .of (execCellMeasure_keeps (Sub.refl _) (Keeps.refl s)) rfl rfl
  | .cellMeasureDone .. => .of (execCellMeasureDone_keeps (Sub.refl _) (Keeps.refl s)) rfl rfl
  | .calendarSecond => .of (execCalendarSecond_keeps (Sub.refl _) (Keeps.refl s)) rfl rfl
  | .trimWindow => .of (execTrimWindow_keeps (Sub.refl _) (Keeps.refl s)) rfl rfl
  | .chargerSwitch .. => .of (execChargerSwitch_keeps (Sub.refl _) (Keeps.refl s)) rfl rfl
  | .tamper .. => .of (execTamper_keeps (Sub.refl _) (Keeps.refl s)) rfl rfl
  | .backupPowerOn => .of (execBackupPowerOn_keeps (Sub.refl _) (Keeps.refl s)) rfl rfl
  | .bkdWriteCarried => .of (execBkdWriteCarried_keeps (Sub.refl _) (Keeps.refl s)) rfl rfl
  | .mirrorCheckpoint => .of (execMirrorCheckpoint_keeps (Sub.refl _) (Keeps.refl s)) rfl rfl
  | .calendarDiscipline => .of (execCalendarDiscipline_keeps (Sub.refl _) (Keeps.refl s)) rfl rfl
  | .earlyWarning .. => .of (execEarlyWarning_keeps (Sub.refl _) (Keeps.refl s)) rfl rfl
  | .vinRecovery .. => .of (execVinRecovery_keeps (Sub.refl _) (Keeps.refl s)) rfl rfl
  | .brownOut .. => .of (execBrownOut_keeps (Sub.refl _) (Keeps.refl s)) rfl rfl
  | .powerOnReset .. => .of (execPowerOnReset_keeps (Sub.refl _) (Keeps.refl s)) rfl rfl
  | .pinReset .. => .of (execPinReset_keeps (Sub.refl _) (Keeps.refl s)) rfl rfl
  | .bootRom .. => .of (execBootRom_keeps (Sub.refl _) (Keeps.refl s)) rfl rfl
  | .firmwareStart .. => .of (execFirmwareStart_keeps (Sub.refl _) (Keeps.refl s)) rfl rfl
  | .hibernateEnter .. => .of (execHibernateEnter_keeps (Sub.refl _) (Keeps.refl s)) rfl rfl
  | .hibernatePowerDown => .of (execHibernatePowerDown_keeps (Sub.refl _) (Keeps.refl s)) rfl rfl
  | .wake => .of (execWake_keeps (Sub.refl _) (Keeps.refl s)) rfl rfl
  | .timetableKeepingChange => .of (execTimetableKeepingChange_keeps (Sub.refl _) (Keeps.refl s)) rfl rfl
  | .pllLock .. => .of (execPllLock_keeps (Sub.refl _) (Keeps.refl s)) rfl rfl
  | .gpioEdge .. => .of (execGpioEdge_keeps (Sub.refl _) (Keeps.refl s)) rfl rfl
  | .gpioPulseEnd .. => .of (execGpioPulseEnd_keeps (Sub.refl _) (Keeps.refl s)) rfl rfl
  | .dinEdge .. => .of (execDinEdge_keeps (Sub.refl _) (Keeps.refl s)) rfl rfl
  | .contactorTrip .. => .of (execContactorTrip_keeps (Sub.refl _) (Keeps.refl s)) rfl rfl
  | .contactorOpenLoad .. => .of (execContactorOpenLoad_keeps (Sub.refl _) (Keeps.refl s)) rfl rfl
  | .temperatureHigh .. => .of (execTemperatureHigh_keeps (Sub.refl _) (Keeps.refl s)) rfl rfl
  | .registerRead .. => .of (execRegisterRead_keeps (Sub.refl _) (Keeps.refl s)) rfl rfl
  | .calendarRead .. => .of (execCalendarRead_keeps (Sub.refl _) (Keeps.refl s)) rfl rfl
  | .meterValueRead .. => .of (execMeterValueRead_keeps (Sub.refl _) (Keeps.refl s)) rfl rfl
  | .pseudoCycleEnd .. => .of (execPseudoCycleEnd_keeps (Sub.refl _) (Keeps.refl s)) rfl rfl
  | .calendarShiftEnd => .of (execCalendarShiftEnd_keeps (Sub.refl _) (Keeps.refl s)) rfl rfl
  | .backupDomainLoss => .of (execBackupDomainLoss_keeps (Sub.refl _) (Keeps.refl s)) rfl rfl
  | .entropyHealthPass => .of (execEntropyHealthPass_keeps (Sub.refl _) (Keeps.refl s)) rfl rfl
  | .testTransmissionEnd => .of (execTestTransmissionEnd_keeps (Sub.refl _) (Keeps.refl s)) rfl rfl
  | .contactorCurrentReturn .. => .of (execContactorCurrentReturn_keeps (Sub.refl _) (Keeps.refl s)) rfl rfl
  | .daylightSavingTransition => .of (execDaylightSavingTransition_keeps (Sub.refl _) (Keeps.refl s)) rfl rfl
  | .leapSecond .. => .of (execLeapSecond_keeps (Sub.refl _) (Keeps.refl s)) rfl rfl

/-- Every command goes on, and keeps what every operation keeps. -/
theorem exec_next (c : Instr) (s : State) : ∃ m t, exec c s = .next t ∧ Keeps m s t :=
  let ⟨m, ⟨t, he, hk⟩, _⟩ := exec_stays c s
  ⟨m, t, he, hk⟩

/-- Settles O5: each command's own law says what it kept, its entry in `partsOf` what that leaves. -/
theorem everyCommandTouchesOnlyItsParts : Obligations.EveryCommandTouchesOnlyItsParts := by
  intro c s
  obtain ⟨m, ⟨t, he, hk⟩, hp, -⟩ := exec_stays c s
  rw [he]
  exact fun p hn => hk.parts p (hp p hn)

/-! ### Steps and runs -/

/-- A tick keeps what every operation keeps, but for the clock itself. -/
theorem canon_tick {s : State} (c : Canon s) : Canon (tick s) := by
  have hc : Canon { s with now := s.now + 1 } := ⟨c.regs, c.shadows, c.mem, c.bulk, c.od, c.held⟩
  have hm := Sub.refl (2 ^ 100 - 1)
  exact (restartDue_keeps (hm.mono rfl) (activationPlen_keeps (hm.mono rfl) (pausesSettle_keeps (hm.mono rfl)
    (radioTick_keeps (hm.mono rfl) (ntbTick_keeps (hm.mono rfl) (Keeps.refl _)))))).canon hc

/-- A step goes on, and keeps the canonical form: it is a tick, or a command on the state without it in the queue. -/
theorem step_next (s : State) : ∃ t, step s = .next t ∧ (Canon s → Canon t) := by
  unfold step
  split
  · exact ⟨tick s, rfl, canon_tick⟩
  · rename_i c rest _
    obtain ⟨m, t, he, hk⟩ := exec_next c { s with pending := rest }
    exact ⟨t, he, fun h => hk.canon ⟨h.regs, h.shadows, h.mem, h.bulk, h.od, h.held⟩⟩

/-- Settles O2: a command by its own law, a tick by the laws of the acts it is made of. -/
theorem everyStepKeepsTheForm : Obligations.EveryStepKeepsTheForm := by
  intro s t hs he
  obtain ⟨u, hu, hc⟩ := step_next s
  rw [hu] at he
  cases he
  exact hc hs

/-- Settles O1: every sparse store of the state after reset is empty. -/
theorem resetIsCanonical : Obligations.ResetIsCanonical := by
  have empty : ∀ {α : Type} [DecidableEq α] (d : Nat → α), Canonical d [] := fun _ => ⟨List.Pairwise.nil, by simp⟩
  exact ⟨empty _, ⟨List.Pairwise.nil, by simp [State.reset]⟩, empty _, empty _, empty _, List.Pairwise.nil⟩

/-- The hypotheses of O2 can be met: at reset, a tick and a seal of the plane. -/
theorem everyStepKeepsTheForm_witness (o : Origin) :
    Canon (tick State.reset) ∧ ∃ t, step { State.reset with pending := [.seal o] } = .next t ∧ Canon t :=
  have hr := resetIsCanonical
  ⟨everyStepKeepsTheForm State.reset _ hr rfl,
    _, rfl, everyStepKeepsTheForm { State.reset with pending := [.seal o] } _
      ⟨hr.regs, hr.shadows, hr.mem, hr.bulk, hr.od, hr.held⟩ rfl⟩

/-- Settles O7, by induction on the number of steps. -/
theorem noRunEverStops : Obligations.NoRunEverStops := by
  intro n
  induction n with
  | zero => exact fun _ => trivial
  | succ n ih =>
    intro s
    obtain ⟨t, ht, -⟩ := step_next s
    change Goes (step s) (Safe n)
    rw [ht]
    exact ih t

/-! ### The state after reset -/

/-- At reset a register reads as its table says. -/
theorem reg_reset (a : Nat) : reg State.reset a = resetWord a := rfl

/-- Settles O8: nothing is listed at reset, so that each clause is a word of the tables. -/
theorem resetHoldsTheTables : Obligations.ResetHoldsTheTables := by
  refine ⟨by decide, by decide, by decide, by decide, by decide, by decide, by decide, by decide, rfl, by decide, reg_reset⟩

end Sys2Proof.Machine

/-! ## Accesses that are let through or refused (chapter 02, R30 to R33, R42 to R44, R49 to R52) -/

namespace Sys2Proof.Machine

open Sys2Proof

/-! ### Plane locks -/

section
variable {s : State} {o : Origin} {a : Nat}

theorem judge_locked {wr : Option Word} (ho : o.core = .core1) (h : planeLocked s a wr.isSome = true) :
    judge s o a wr = .refuse :=
  if_pos ⟨ho, h⟩

/-- No rule of the plane refuses core 0. -/
theorem judge_core0_ne_refuse (ho : o.core = .core0) (wr : Option Word) : judge s o a wr ≠ .refuse := by
  unfold judge
  rw [ho, if_neg (by simp)]
  split
  · decide
  · split
    · decide
    · cases wr <;> simp

/-- The aligned registers that R43 leaves core 1: the kick and its port of EVR. -/
theorem lockExempt_aligned (ha : a % 4 = 0) (h : lockExempt a = true) :
    a ∈ [A.SYS_WDT1_KICK, A.EVR_Pk_Dj 1 0, A.EVR_Pk_Dj 1 1, A.EVR_Pk_Dj 1 2, A.EVR_Pk_Dj 1 3, A.EVR_Pk_Dj 1 4, A.EVR_Pk_POST 1] := by
  simp only [lockExempt, Bool.or_eq_true, beq_iff_eq, Bool.and_eq_true, decide_eq_true_eq] at h
  simp only [List.mem_cons, List.not_mem_nil, or_false]
  simp only [A.SYS_WDT1_KICK, A.EVR_Pk_Dj, A.EVR_Pk_POST] at h ⊢
  omega

theorem planeLocked_write (hl : fldBit s R.SYS_PLANE_WR_lock (blockIndex a) = true) (he : lockExempt a = false) :
    planeLocked s a true = true := by
  simp [planeLocked, hl, he]

theorem planeLocked_read (hl : fldBit s R.SYS_PLANE_RD_lock (blockIndex a) = true) : planeLocked s a false = true := by
  simp [planeLocked, hl]

end

/-- Settles O10: the lock is judged first, and for core 1 only. -/
theorem planeLocksRefuseCoreOneByBlock : Obligations.PlaneLocksRefuseCoreOneByBlock := by
  refine ⟨by decide, fun s mmode a => ⟨fun w hl hx ha => ?_, fun hl => ?_, fun wr => ?_⟩⟩
  · have he : lockExempt a = false := Bool.eq_false_iff.2 fun h => hx (lockExempt_aligned ha h)
    exact judge_locked rfl (planeLocked_write hl he)
  · exact judge_locked rfl (planeLocked_read hl)
  · exact judge_core0_ne_refuse rfl wr

/-- The hypotheses of O10 can be met: reset locks core 1's writes of SYS, and `SYS_C1BOOT` is none of those left to it. -/
theorem planeLocksRefuseCoreOneByBlock_witness : judge State.reset ⟨.core1, true⟩ A.SYS_C1BOOT (some 0) = .refuse :=
  (planeLocksRefuseCoreOneByBlock.2 State.reset true A.SYS_C1BOOT).1 0 (by decide) (by decide) (by decide)

/-! ### Register reads -/

/-- FBC, UPD, IOC and BSC answer a read with the fields' word and start nothing. -/
theorem planeRead_plain {o : Origin} {a : Nat} {v : Word} {s : State} (h : blockIndex a ∈ [5, 14, 16, 17]) :
    planeRead o a v s = (v, s) := by
  simp only [List.mem_cons, List.not_mem_nil, or_false] at h
  rcases h with h | h | h | h <;> simp [planeRead, h]

/-- Settles O16: a read answers the fields' word and clears the RC fields, then its block has its say. -/
theorem readsReturnFieldsAndClearRc : Obligations.ReadsReturnFieldsAndClearRc := by
  intro s o addr gained r hs hl hr a
  have he : exec (.registerRead o addr gained) s = .next (setResult o (.value (planeRead o a (readWord s a) (clearRc gained a s)).1)
      (planeRead o a (readWord s a) (clearRc gained a s)).2) := congrArg _ (coreRead_lets planeRead gained hl)
  refine ⟨readWord s a, clearRc gained a s, he, fun hb => ?own, fun fi hf hx => bits_readWord hs hr hf hx,
    fun fi hf => fld_clearRc hs hr gained hf, fun b hb => reg_clearRc_other hs.regs.1 hb, fun p hp => clearRc_same gained a s hp⟩
  case own =>
    rw [he, planeRead_plain hb]

/-- The hypotheses of O16 can be met: core 0 reads `SYS_ECC`, whose fields are all RC, at reset. -/
theorem readsReturnFieldsAndClearRc_witness : ∃ (v : Word) (s1 : State),
    exec (.registerRead ⟨.core0, true⟩ 0x40000060 [(0, 3)]) State.reset =
      .next (setResult ⟨.core0, true⟩ (.value (planeRead ⟨.core0, true⟩ A.SYS_ECC v s1).1) (planeRead ⟨.core0, true⟩ A.SYS_ECC v s1).2) :=
  let ⟨v, s1, he, _⟩ := readsReturnFieldsAndClearRc State.reset ⟨.core0, true⟩ 0x40000060 [(0, 3)]
    ⟨0x40000060, 0x4, 1, 0x4, 1, [⟨0, 16, .rc, .none, 0⟩, ⟨16, 8, .rc, .none, 0⟩]⟩ resetIsCanonical
    (letsRead_core0 rfl (by decide) (by decide)) (by decide)
  ⟨v, s1, he⟩

end Sys2Proof.Machine

/-! ## Accesses to the memories (chapter 02, R30 to R36) -/

namespace Sys2Proof.Machine

open Sys2Proof

/-! ### Operations that leave a part of the state -/

section
variable {s : State}

/-- A posted event changes the registers and the recorder only. -/
theorem post_same (s : State) (src code : Nat) (d : List Byte) {p : Part} (h1 : p ≠ .regs) (h2 : p ≠ .evr) :
    p.same s (post src code d s) := by
  refine (post_keeps (Sub.refl _) (Keeps.refl s)).parts p ?_
  cases p
  case regs => exact absurd rfl h1
  case evr => exact absurd rfl h2
  all_goals rfl

@[simp] theorem post_sys (s : State) (src code : Nat) (d : List Byte) : (post src code d s).sys = s.sys :=
  post_same s src code d (p := .sys) (by decide) (by decide)

@[simp] theorem post_mem (s : State) (src code : Nat) (d : List Byte) : (post src code d s).mem = s.mem :=
  post_same s src code d (p := .mem) (by decide) (by decide)

/-- A refusal records an access fault; what it does before changes nothing of SYS but its registers. -/
theorem planeRefuse_eq (o : Origin) (a : Nat) (wr : Bool) (s : State) :
    ∃ u, planeRefuse o a wr s = setResult o .accessFault u ∧ u.sys = s.sys := by
  refine ⟨_, rfl, ?_⟩
  by_cases h : isSet s R.SYS_STAT_plane_err = true <;> simp [h]

@[simp] theorem setResult_reserve (s : State) (o : Origin) (x : BusResult) :
    (setResult o x s).sys.reserve0 = s.sys.reserve0 ∧ (setResult o x s).sys.reserve1 = s.sys.reserve1 := by
  unfold setResult
  split <;> exact ⟨rfl, rfl⟩

@[simp] theorem setResult_mem (s : State) (o : Origin) (x : BusResult) : (setResult o x s).mem = s.mem :=
  setResult_same s o x (p := .mem) (by decide)

@[simp] theorem reservation_setResult (s : State) (o : Origin) (x : BusResult) (c : CoreId) :
    reservation (setResult o x s) c = reservation s c := by
  unfold reservation
  cases c <;> simp

@[simp] theorem reservation_setReservation_self (s : State) (c : CoreId) (r : Option Nat) :
    reservation (setReservation c r s) c = r := by
  cases c <;> rfl

theorem reservation_setReservation_other {s : State} {c d : CoreId} (h : d ≠ c) (r : Option Nat) :
    reservation (setReservation c r s) d = reservation s d := by
  cases c <;> cases d <;> first | rfl | exact absurd rfl h

@[simp] theorem setReservation_mem (s : State) (c : CoreId) (r : Option Nat) : (setReservation c r s).mem = s.mem := by
  cases c <;> rfl

@[simp] theorem breakReservations_mem (s : State) (a : Nat) : (breakReservations a s).mem = s.mem := rfl

/-- No core holds a reservation on a word that was stored to. -/
theorem reservation_breakReservations (s : State) (a : Nat) (c : CoreId) :
    reservation (breakReservations a s) c ≠ some (a / 4 * 4) := by
  have cut : ∀ r : Option Nat, (if r = some (a / 4 * 4) then none else r) ≠ some (a / 4 * 4) := fun r => by
    split
    · simp
    · assumption
  cases c <;> exact cut _

theorem memByte_of_mem {s t : State} (h : t.mem = s.mem) (b : Nat) : memByte t b = memByte s b := by
  unfold memByte
  rw [h]

/-! ### Octets written -/

@[simp] theorem length_leBytes (n v : Nat) : (leBytes n v).length = n := by
  induction n generalizing v with
  | zero => rfl
  | succ n ih => simp [leBytes, ih]

theorem getElem?_leBytes {n i : Nat} (v : Nat) (h : i < n) : (leBytes n v)[i]? = some (BitVec.ofNat 8 (v / 256 ^ i)) := by
  induction n generalizing v i with
  | zero => omega
  | succ n ih =>
    cases i with
    | zero => simp [leBytes]
    | succ i => rw [leBytes, List.getElem?_cons_succ, ih _ (by omega), Nat.div_div_eq_div_mul, Nat.pow_succ']

/-- A number written reads back octet by octet, the least significant first. -/
theorem memByte_setMemNat (h : Rising s.mem) {n i : Nat} (a v : Nat) (hi : i < n) :
    memByte (setMemNat s a n v) (a + i) = BitVec.ofNat 8 (v / 256 ^ i) := by
  unfold setMemNat
  rw [memByte_setBytes _ h, if_pos (by simp [hi]), Nat.add_sub_cancel_left, getElem?_leBytes v hi, Option.getD_some]

theorem memByte_setMemNat_outside (h : Rising s.mem) {a n b : Nat} (v : Nat) (hb : b < a ∨ a + n ≤ b) :
    memByte (setMemNat s a n v) b = memByte s b :=
  memByte_setBytes_outside _ h (by simpa using hb)

end

/-! ### The access at an address -/

section
variable {s : State} {o : Origin} {op : MemOp} {size a n : Nat} {v : Word} {found : EccFind}

theorem not_inPlane_of_ram (ha : inSram a = true ∨ inDram a = true) : ¬ inPlane a = true := by
  simp only [inSram, inDram, inPlane, Bool.and_eq_true, decide_eq_true_eq] at *
  omega

theorem not_inRom_of_ram (ha : inSram a = true ∨ inDram a = true) : inRom a = false ∧ inCell a = false := by
  simp only [inSram, inDram, inRom, inCell, Bool.and_eq_true, decide_eq_true_eq, decide_eq_false_iff_not, Bool.and_eq_false_iff] at *
  omega

/-- With no word known bad and none found bad, nothing stands between an access and its memory (R34). -/
theorem codedAccess_clean (hb : s.sys.eccBad = []) : codedAccess o op n a v .clean s = ramAccess o op n a v s := by
  have he : setSys { s.sys with eccBad := s.sys.eccBad.filter (· != a / 4 * 4) } s = s := by
    rw [hb, List.filter_nil, ← hb]
    rfl
  unfold codedAccess
  rw [he, hb]
  simp

/-- An aligned access of a core that is given the address, to words without an error, reaches SRAM or DRAM. -/
theorem exec_ram {addr : Word} (hb : s.sys.eccBad = []) (hr : inSram addr.toNat = true ∨ inDram addr.toNat = true)
    (ho : o.core = .core0 ∨ core1May s addr.toNat = true) (ha : op = .fetch ∨ addr.toNat % accessSize op size = 0) :
    exec (.memoryAccess o op size addr v .clean) s = .next (ramAccess o op (accessSize op size) addr.toNat v s) := by
  obtain ⟨hrom, hcell⟩ := not_inRom_of_ram hr
  have hmap : (!(inRom addr.toNat || inSram addr.toNat || inCell addr.toNat || inDram addr.toNat)) = false := by
    rcases hr with hr | hr <;> simp [hr]
  have hgiven : ¬ (o.core = .core1 ∧ ¬ core1May s addr.toNat = true) := fun h => by
    rcases ho with ho | ho
    · rw [ho] at h
      cases h.1
    · exact h.2 ho
  have halign : ¬ (op ≠ .fetch ∧ addr.toNat % accessSize op size ≠ 0) := fun h => ha.elim h.1 h.2
  rw [exec_memoryAccess, anyAccess_of_not_inPlane (not_inPlane_of_ram hr)]
  unfold memAccess
  rw [if_neg halign, hmap, if_neg (by decide), if_neg hgiven, if_neg (by simp [hrom, hcell]), hrom, if_neg (by decide),
    codedAccess_clean hb]

theorem accessSize_of_atomic (h : isAtomic op = true) (size : Nat) : accessSize op size = 4 := by
  cases op <;> first | rfl | cases h

theorem not_fetch_of_atomic (h : isAtomic op = true) : op ≠ .fetch := by
  rintro rfl
  cases h

/-- In the plane an aligned atomic operation is an access fault, whoever asks (log entry 20). -/
theorem planeAccess_atomic (h : isAtomic op = true) (ha : a % 4 = 0) : planeAccess o op size a v s = setResult o .accessFault s := by
  unfold planeAccess
  rw [accessSize_of_atomic h, if_neg (fun k => k.2 ha), if_neg (by decide), if_pos h]

/-- In the ROM and the cell store an aligned atomic operation is an access fault, and for core 1 outside its windows a refusal. -/
theorem memAccess_atomic (h : isAtomic op = true) (ha : a % 4 = 0) (hm : inRom a = true ∨ inCell a = true) :
    memAccess o op size a v found s =
      if o.core = .core1 ∧ ¬ core1May s a = true then planeRefuse o a (isStore op) s else setResult o .accessFault s := by
  have hmap : (!(inRom a || inSram a || inCell a || inDram a)) = false := by rcases hm with hm | hm <;> simp [hm]
  unfold memAccess
  rw [accessSize_of_atomic h, if_neg (fun k => k.2 ha), hmap, if_neg (by decide), if_pos (c := isAtomic op = true ∧ _) ⟨h, hm⟩]

/-- Outside SRAM and DRAM an aligned atomic operation is an access fault; only core 1 outside the plane is ever refused. -/
theorem anyAccess_atomic (h : isAtomic op = true) (ha : a % 4 = 0) (hm : inRom a = true ∨ inCell a = true ∨ inPlane a = true) :
    anyAccess o op size a v found s = setResult o .accessFault s ∨
      (o.core = .core1 ∧ ¬ inPlane a = true ∧ anyAccess o op size a v found s = planeRefuse o a (isStore op) s) := by
  by_cases hp : inPlane a = true
  · exact .inl (by rw [anyAccess_of_inPlane hp, planeAccess_atomic h ha])
  · have hm' : inRom a = true ∨ inCell a = true := hm.imp_right fun k => k.resolve_right hp
    rw [anyAccess_of_not_inPlane hp, memAccess_atomic h ha hm']
    split
    · rename_i hc
      exact .inr ⟨hc.1, hp, rfl⟩
    · exact .inl rfl

/-! ### What each operation does (R30) -/

theorem ramAccess_read (h : op = .load ∨ op = .fetch) :
    ramAccess o op n a v s = setResult o (.value (BitVec.ofNat 32 (memNat s a n))) s := by
  rcases h with rfl | rfl <;> rfl

theorem accessSize_of_read (h : op = .load ∨ op = .fetch) (size : Nat) : accessSize op size = size := by
  rcases h with rfl | rfl <;> rfl

theorem ramAccess_store : ramAccess o .store n a v s = setResult o .done (breakReservations a (setMemNat s a n v.toNat)) := rfl

theorem ramAccess_lr :
    ramAccess o .lr n a v s = setResult o (.value (BitVec.ofNat 32 (memNat s a n))) (setReservation o.core (some a) s) := rfl

theorem ramAccess_sc_held (h : reservation s o.core = some a) :
    ramAccess o .sc n a v s = setResult o (.value 0) (setReservation o.core none (breakReservations a (setMemNat s a 4 v.toNat))) :=
  if_pos h

theorem ramAccess_sc_lost (h : reservation s o.core ≠ some a) :
    ramAccess o .sc n a v s = setResult o (.value 1) (setReservation o.core none s) :=
  if_neg h

theorem ramAccess_amo (f : AmoOp) :
    ramAccess o (.amo f) n a v s = setResult o (.value (BitVec.ofNat 32 (memNat s a n)))
      (breakReservations a (setMemNat s a 4 (amoValue f (BitVec.ofNat 32 (memNat s a n)) v).toNat)) := rfl

theorem mem_ramAccess_store : (ramAccess o .store n a v s).mem = (setMemNat s a n v.toNat).mem := by
  rw [ramAccess_store, setResult_mem, breakReservations_mem]

theorem mem_ramAccess_sc_held (h : reservation s o.core = some a) :
    (ramAccess o .sc n a v s).mem = (setMemNat s a 4 v.toNat).mem := by
  rw [ramAccess_sc_held h, setResult_mem, setReservation_mem, breakReservations_mem]

theorem mem_ramAccess_amo (f : AmoOp) :
    (ramAccess o (.amo f) n a v s).mem = (setMemNat s a 4 (amoValue f (BitVec.ofNat 32 (memNat s a n)) v).toNat).mem := by
  rw [ramAccess_amo, setResult_mem, breakReservations_mem]

/-- An atomic operation always answers a value from SRAM or DRAM. -/
theorem lastResult_ramAccess_atomic (h : isAtomic op = true) : ∃ w, lastResult (ramAccess o op n a v s) o.core = .value w := by
  cases op
  case sc =>
    by_cases hr : reservation s o.core = some a
    · exact ⟨0, by rw [ramAccess_sc_held hr, lastResult_setResult]⟩
    · exact ⟨1, by rw [ramAccess_sc_lost hr, lastResult_setResult]⟩
  case lr => exact ⟨_, lastResult_setResult _ _ _⟩
  case amo => exact ⟨_, lastResult_setResult _ _ _⟩
  all_goals cases h

/-- An access touches no part but the memory and the cores' results and reservations. -/
theorem ramAccess_same {p : Part} (h1 : p ≠ .mem) (h2 : p ≠ .sys) : p.same s (ramAccess o op n a v s) := by
  refine (ramAccess_keeps (Sub.refl _) (Keeps.refl s)).parts p ?_
  cases p
  case mem => exact absurd rfl h1
  case sys => exact absurd rfl h2
  all_goals rfl

end

/-! ### The obligations -/

/-- What an atomic operation that is not done leaves: an access fault, memory, the reservations and the registers outside SYS and
the recorder. -/
theorem setResult_accessFault_leaves (s : State) (o : Origin) :
    lastResult (setResult o .accessFault s) o.core = .accessFault ∧ (setResult o .accessFault s).mem = s.mem ∧
    (setResult o .accessFault s).sys.reserve0 = s.sys.reserve0 ∧ (setResult o .accessFault s).sys.reserve1 = s.sys.reserve1 ∧
    ∀ a, blockIndex a ∉ [0, 12] → reg (setResult o .accessFault s) a = reg s a := by
  simp

theorem planeRefuse_leaves {s : State} (hs : Canon s) (o : Origin) (a : Nat) (wr : Bool) :
    lastResult (planeRefuse o a wr s) o.core = .accessFault ∧ (planeRefuse o a wr s).mem = s.mem ∧
    (planeRefuse o a wr s).sys.reserve0 = s.sys.reserve0 ∧ (planeRefuse o a wr s).sys.reserve1 = s.sys.reserve1 ∧
    ∀ b, blockIndex b ∉ [0, 12] → reg (planeRefuse o a wr s) b = reg s b := by
  have hk := planeRefuse_keeps (b0 := o) (b1 := a) (b2 := wr) (Sub.refl _) (Keeps.refl s)
  obtain ⟨u, he, hu⟩ := planeRefuse_eq o a wr s
  refine ⟨by rw [he, lastResult_setResult], hk.parts .mem rfl, ?_, ?_, fun b hb => hk.reg_eq hs ?_⟩
  · rw [he, (setResult_reserve u o _).1, hu]
  · rw [he, (setResult_reserve u o _).2, hu]
  · have key : ∀ i < 32, i ∉ [0, 12] → Nat.testBit 4504699138999556 (40 + i) = false := by decide
    exact key _ (Nat.mod_lt _ (by decide)) hb

/-- Settles O12: the map decides whether an atomic operation acts. -/
theorem atomicsActOnSramAndDramOnly : Obligations.AtomicsActOnSramAndDramOnly := by
  intro s o op size addr v hs hop ha
  refine ⟨fun hr ho hb => ?ram, fun hm found => ⟨fun ho => ?fault, ?leaves⟩⟩
  case ram =>
    rw [exec_ram hb hr ho (.inr (by rwa [accessSize_of_atomic hop]))]
    exact lastResult_ramAccess_atomic hop
  case fault =>
    rcases anyAccess_atomic hop ha hm with he | ⟨hc, hp, -⟩
    · rw [exec_memoryAccess, he]
    · rcases ho with ho | ho
      · rw [ho] at hc
        cases hc
      · exact absurd ho hp
  case leaves =>
    rw [exec_memoryAccess]
    rcases anyAccess_atomic hop ha hm with he | ⟨-, -, he⟩ <;> rw [he]
    · exact setResult_accessFault_leaves s o
    · exact planeRefuse_leaves hs o _ _

/-- The hypotheses of O12 can be met: at reset, LR of core 0 in SRAM, and an AMO of core 1 in the ROM, outside its windows. -/
theorem atomicsActOnSramAndDramOnly_witness (m : Bool) :
    (Goes (exec (.memoryAccess ⟨.core0, m⟩ .lr 4 0x10000000 0 .clean) State.reset) fun t => ∃ w, lastResult t .core0 = .value w) ∧
    Goes (exec (.memoryAccess ⟨.core1, m⟩ (.amo .add) 4 0x00000000 1 .clean) State.reset) fun t =>
      lastResult t .core1 = .accessFault ∧ t.mem = [] :=
  have settled := fun o op addr => atomicsActOnSramAndDramOnly State.reset o op 4 addr
  ⟨(settled ⟨.core0, m⟩ .lr 0x10000000 0 resetIsCanonical rfl (by decide)).1 (by decide) (.inl rfl) rfl,
    have h := ((settled ⟨.core1, m⟩ (.amo .add) 0x00000000 1 resetIsCanonical rfl (by decide)).2 (by decide) .clean).2
    ⟨h.1, h.2.1⟩⟩

/-- What a store of `n` octets leaves in memory: its value in its octets, every other octet as it was. -/
theorem octets_of_mem {s t : State} {a n x : Nat} (h : Rising s.mem) (ht : t.mem = (setMemNat s a n x).mem) :
    (∀ i < n, memByte t (a + i) = BitVec.ofNat 8 (x / 256 ^ i)) ∧ ∀ b, b < a ∨ a + n ≤ b → memByte t b = memByte s b :=
  ⟨fun _ hi => (memByte_of_mem ht _).trans (memByte_setMemNat h a x hi),
    fun b hb => (memByte_of_mem ht b).trans (memByte_setMemNat_outside h x hb)⟩

/-- Settles O14: an access that reaches SRAM or DRAM is one of the operations of R30. -/
theorem memoryAccessesReadAndWriteTheirOctets : Obligations.MemoryAccessesReadAndWriteTheirOctets := by
  intro s o size addr v hs hb hsize a hr ho same holds
  have hm : Rising s.mem := hs.mem.1
  have hexec : ∀ op, a % accessSize op size = 0 →
      exec (.memoryAccess o op size addr v .clean) s = .next (ramAccess o op (accessSize op size) a v s) :=
    fun op ha => exec_ram hb hr ho (.inr ha)
  have parts : ∀ op (p : Part), p ∉ [Part.mem, .sys] → p.same s (ramAccess o op (accessSize op size) a v s) := fun op p hp => by
    simp only [List.mem_cons, List.not_mem_nil, or_false, not_or] at hp
    exact ramAccess_same hp.1 hp.2
  have free : ∀ (u : State) (c : CoreId), a % 4 = 0 → reservation (breakReservations a u) c ≠ some a := fun u c ha => by
    have := reservation_breakReservations u a c
    rwa [Nat.div_mul_cancel (Nat.dvd_of_mod_eq_zero ha)] at this
  refine ⟨fun ha op hop => ?read, fun ha => ?store, fun ha => ⟨?lr, fun hres => ?held, fun hres => ?lost, fun f => ?amo⟩⟩
  case read =>
    have hn := accessSize_of_read hop size
    rw [hexec op (by rwa [hn]), ramAccess_read hop, hn]
  case store =>
    rw [hexec .store ha]
    obtain ⟨hin, hout⟩ := octets_of_mem hm (mem_ramAccess_store (o := o) (n := size) (a := a) (v := v))
    exact ⟨lastResult_setResult _ _ _, hin, ⟨hout, parts .store⟩, fun c => by
      rw [ramAccess_store, reservation_setResult]
      exact reservation_breakReservations _ a c⟩
  case lr =>
    rw [hexec .lr ha]
    have hmem : (ramAccess o .lr 4 a v s).mem = s.mem := by rw [ramAccess_lr]; simp
    exact ⟨lastResult_setResult _ _ _, by rw [ramAccess_lr]; simp, hmem, fun b _ => memByte_of_mem hmem b, parts .lr⟩
  case held =>
    rw [hexec .sc ha]
    obtain ⟨hin, hout⟩ := octets_of_mem hm (mem_ramAccess_sc_held (n := 4) (v := v) hres)
    exact ⟨by rw [ramAccess_sc_held hres, lastResult_setResult], hin, ⟨hout, parts .sc⟩, fun c => by
      rw [ramAccess_sc_held hres, reservation_setResult]
      by_cases hc : c = o.core
      · rw [hc, reservation_setReservation_self]
        simp
      · rw [reservation_setReservation_other hc]
        exact free _ c ha⟩
  case lost =>
    rw [hexec .sc ha]
    have hmem : (ramAccess o .sc 4 a v s).mem = s.mem := by rw [ramAccess_sc_lost hres]; simp
    exact ⟨by rw [ramAccess_sc_lost hres, lastResult_setResult], hmem, by rw [ramAccess_sc_lost hres]; simp,
      fun b _ => memByte_of_mem hmem b, parts .sc⟩
  case amo =>
    rw [hexec (.amo f) ha]
    obtain ⟨hin, hout⟩ := octets_of_mem hm (mem_ramAccess_amo (o := o) (n := 4) (a := a) (v := v) f)
    exact ⟨lastResult_setResult _ _ _, hin, ⟨hout, parts (.amo f)⟩, fun c => by
      rw [ramAccess_amo, reservation_setResult]
      exact free _ c ha⟩

/-- The hypotheses of O14 can be met: at reset, core 0 stores a word at the first address of SRAM. -/
theorem memoryAccessesReadAndWriteTheirOctets_witness (m : Bool) :
    Goes (exec (.memoryAccess ⟨.core0, m⟩ .store 4 0x10000000 0x01020304 .clean) State.reset) fun t =>
      lastResult t .core0 = .done ∧ memByte t 0x10000003 = 1 :=
  have h := (memoryAccessesReadAndWriteTheirOctets State.reset ⟨.core0, m⟩ 4 0x10000000 0x01020304 resetIsCanonical rfl
    (by decide) (by decide) (.inl rfl)).2.1 (by decide)
  ⟨h.1, h.2.1 3 (by decide)⟩

end Sys2Proof.Machine

/-! ## The patrol scrubber and the watchdogs (chapter 02, R34, R46, R48; chapter 22, R556) -/

namespace Sys2Proof.Machine

open Sys2Proof

/-! ### What a raised fault leaves -/

section
variable {s : State} {code source : Nat} {stands : Bool}

/-- A raised fault reaches the fault list, and the recorder, which it tells. -/
theorem faultRaise_same {p : Part} (h1 : p ≠ .regs) (h2 : p ≠ .evr) (h3 : p ≠ .flt) :
    p.same s (faultRaise code source stands s) := by
  refine (faultRaise_keeps (Sub.refl _) (Keeps.refl s)).parts p ?_
  cases p
  case regs => exact absurd rfl h1
  case evr => exact absurd rfl h2
  case flt => exact absurd rfl h3
  all_goals rfl

theorem faultRaise_fld (c : Canon s) {f : Field} (hf : blockIndex f.addr ≠ 12) :
    fld (faultRaise code source stands s) f = fld s f := by
  refine (faultRaise_keeps (Sub.refl _) (Keeps.refl s)).fld_eq c ?_
  have key : ∀ i < 32, i ≠ 12 → Nat.testBit 4503599627437060 (40 + i) = false := by decide
  exact key _ (Nat.mod_lt _ (by decide)) hf

@[simp] theorem faultRaise_sys : (faultRaise code source stands s).sys = s.sys :=
  faultRaise_same (p := .sys) (by decide) (by decide) (by decide)

@[simp] theorem faultRaise_mem : (faultRaise code source stands s).mem = s.mem :=
  faultRaise_same (p := .mem) (by decide) (by decide) (by decide)

theorem canon_post (c : Canon s) (src code : Nat) (d : List Byte) : Canon (post src code d s) :=
  (post_keeps (Sub.refl _) (Keeps.refl s)).canon c

end

/-! ### Single and double errors (R34) -/

section
variable {s : State}

@[simp] theorem eccSingle_fields (s : State) : (eccSingle s).mem = s.mem ∧ (eccSingle s).sys = s.sys := by
  simp [eccSingle]

theorem rising_eccSingle (h : Rising s.regs) : Rising (eccSingle s).regs := rising_raise (rising_bump h 1)

theorem isSet_eccSingle (h : Rising s.regs) : isSet (eccSingle s) R.SYS_IFLG_ecc_ce = true :=
  isSet_raise (rising_bump h 1) _ (by decide) (by decide)

theorem fld_eccSingle (h : Rising s.regs) : fld (eccSingle s) R.SYS_ECC_ce = min (fld s R.SYS_ECC_ce + 1) 65535 := by
  unfold eccSingle
  rw [fld_raise_apart (rising_bump h 1) (by decide) (by decide), fld_bump_self h 1 (by decide)]
  rfl

/-- The count of corrected errors runs up to its limit. -/
theorem foldl_eccSingle (l : List Word) (h : Rising s.regs) :
    let t := l.foldl (fun s _ => eccSingle s) s
    fld t R.SYS_ECC_ce = min (fld s R.SYS_ECC_ce + l.length) 65535 ∧
    (isSet s R.SYS_IFLG_ecc_ce = true ∨ l ≠ [] → isSet t R.SYS_IFLG_ecc_ce = true) ∧ t.mem = s.mem ∧ t.sys = s.sys := by
  induction l generalizing s with
  | nil =>
    have hlt : fld s R.SYS_ECC_ce < 2 ^ 16 := fld_lt s R.SYS_ECC_ce
    exact ⟨by simp only [List.foldl_nil, List.length_nil]; omega, fun k => by simpa using k, rfl, rfl⟩
  | cons w l ih =>
    obtain ⟨hn, hf, hm, hs⟩ := ih (rising_eccSingle h)
    rw [List.foldl_cons, List.length_cons]
    refine ⟨?_, fun _ => hf (.inl (isSet_eccSingle h)), hm.trans (eccSingle_fields s).1, hs.trans (eccSingle_fields s).2⟩
    rw [hn, fld_eccSingle h]
    omega

/-- The flags, the address and the count of an error that cannot be corrected, before anyone is told of it. -/
def eccMarked (a : Nat) (s : State) : State :=
  bump (raise (raise (setFld s R.SYS_ECC_ADDR_addr a) R.SYS_STAT_ecc_ue) R.SYS_IFLG_ecc_ue) R.SYS_ECC_ue 1

/-- The words known bad with the word at `a`. -/
def eccBadWith (a : Nat) (s : State) : State :=
  setSys { s.sys with eccBad := if s.sys.eccBad.contains a then s.sys.eccBad else s.sys.eccBad ++ [a] } s

theorem eccDouble_eq {a : Nat} (h : inCell (a / 4 * 4) = false) (s : State) :
    eccDouble a s = faultRaise 0x0104 (a / 4 * 4 % 65536) false
      (post 0x00 0x03 (leBytes 4 (a / 4 * 4)) (eccMarked (a / 4 * 4) (eccBadWith (a / 4 * 4) s))) := by
  unfold eccDouble
  simp only [h]
  rfl

theorem mem_eccBadWith (a : Nat) (s : State) : a ∈ (eccBadWith a s).sys.eccBad := by
  simp only [eccBadWith, setSys_fields]
  split
  · rename_i h
    simpa using h
  · simp

theorem canon_eccMarked (c : Canon s) (a : Nat) : Canon (eccMarked a s) :=
  have hm := Sub.refl (2 ^ 100 - 1)
  (bump_keeps (hm.mono rfl) (raise_keeps (hm.mono rfl) (raise_keeps (hm.mono rfl) (setFld_keeps (hm.mono rfl)
    (Keeps.refl s))))).canon c

theorem canon_eccBadWith (c : Canon s) (a : Nat) : Canon (eccBadWith a s) :=
  (Keeps.set_sys (Sub.refl _) (Keeps.refl s)).canon c

theorem fld_eccMarked (h : Rising s.regs) {a : Nat} (ha : a < 2 ^ 32) :
    fld (eccMarked a s) R.SYS_ECC_ADDR_addr = a ∧ fld (eccMarked a s) R.SYS_STAT_ecc_ue = 1 ∧
    fld (eccMarked a s) R.SYS_IFLG_ecc_ue = 1 ∧ fld (eccMarked a s) R.SYS_ECC_ue = min (fld s R.SYS_ECC_ue + 1) 255 := by
  have h1 := rising_setFld h R.SYS_ECC_ADDR_addr a
  have h2 := rising_raise h1 (f := R.SYS_STAT_ecc_ue)
  have h3 := rising_raise h2 (f := R.SYS_IFLG_ecc_ue)
  have hw : a % 2 ^ R.SYS_ECC_ADDR_addr.width = a := Nat.mod_eq_of_lt ha
  unfold eccMarked
  simp +decide [fld_bump_self, fld_bump_apart, fld_raise_apart, fld_raise_self, fld_setFld_self, fld_setFld_apart, h, h1, h2, h3, hw]
  rfl

/-- What a patrol pass does with one error that cannot be corrected, in memory other than the cell store. -/
theorem eccDouble_marks (c : Canon s) {a : Nat} (ha : a < 2 ^ 32) (hc : inCell (a / 4 * 4) = false) :
    a / 4 * 4 ∈ (eccDouble a s).sys.eccBad ∧ fld (eccDouble a s) R.SYS_ECC_ADDR_addr = a / 4 * 4 ∧
    isSet (eccDouble a s) R.SYS_STAT_ecc_ue = true ∧ isSet (eccDouble a s) R.SYS_IFLG_ecc_ue = true ∧
    fld (eccDouble a s) R.SYS_ECC_ue = min (fld s R.SYS_ECC_ue + 1) 255 ∧ (eccDouble a s).mem = s.mem := by
  have c1 := canon_eccBadWith c (a / 4 * 4)
  have c2 := canon_eccMarked c1 (a / 4 * 4)
  obtain ⟨ha, hs, hf, hn⟩ := fld_eccMarked c1.regs.1 (a := a / 4 * 4) (by omega)
  have told : ∀ f : Field, blockIndex f.addr = 0 →
      fld (eccDouble a s) f = fld (eccMarked (a / 4 * 4) (eccBadWith (a / 4 * 4) s)) f := fun f h => by
    rw [eccDouble_eq hc, faultRaise_fld (canon_post c2 _ _ _) (by omega), post_fld c2 _ _ _ (by omega)]
  unfold isSet
  rw [told _ rfl, told _ rfl, told _ rfl, told _ rfl, ha, hs, hf, hn, eccDouble_eq hc]
  refine ⟨?_, rfl, rfl, rfl, rfl, ?_⟩
  · rw [faultRaise_sys, post_sys]
    exact mem_eccBadWith _ s
  · rw [faultRaise_mem, post_mem]
    simp [eccMarked, eccBadWith]

end

/-- Settles O20: a pass over its own memory corrects each single error, and marks a double one. -/
theorem patrolScrubCountsAndLogs : Obligations.PatrolScrubCountsAndLogs := by
  intro s dram l w hs ours
  refine ⟨fun hl ha => ?singles, fun hw => ?double⟩
  case singles =>
    have hf : l.filter (fun x => ours x.toNat) = l := List.filter_eq_self.2 ha
    have he : exec (.patrolScrub dram l []) s = .next (l.foldl (fun s _ => eccSingle s) s) := by
      change Host.Outcome.next ((l.filter fun x => ours x.toNat).foldl (fun s _ => eccSingle s) s) = _
      rw [hf]
    obtain ⟨hn, hset, hm, hsys⟩ := foldl_eccSingle l hs.regs.1
    rw [he]
    exact ⟨hn, hset (.inr hl), hm, hsys⟩
  case double =>
    have he : exec (.patrolScrub dram [] [w]) s = .next (eccDouble w.toNat s) := by
      change Host.Outcome.next (([w].filter fun x => ours x.toNat).foldl (fun s x => eccDouble x.toNat s) s) = _
      rw [List.filter_eq_self.2 (by simpa using hw)]
      rfl
    have hram : inSram w.toNat = true ∨ inDram w.toNat = true := by
      cases dram
      · exact .inl hw
      · exact .inr hw
    have hc : inCell (w.toNat / 4 * 4) = false := by
      simp only [inSram, inDram, inCell, Bool.and_eq_true, decide_eq_true_eq, Bool.and_eq_false_iff, decide_eq_false_iff_not] at *
      omega
    rw [he]
    exact eccDouble_marks hs w.isLt hc

/-- The hypotheses of O20 can be met: at reset, a corrected error in SRAM and one in DRAM that cannot be. -/
theorem patrolScrubCountsAndLogs_witness :
    (Goes (exec (.patrolScrub false [0x10000000] []) State.reset) fun t => isSet t R.SYS_IFLG_ecc_ce = true) ∧
    Goes (exec (.patrolScrub true [] [0x80000006]) State.reset) fun t => isSet t R.SYS_STAT_ecc_ue = true :=
  ⟨((patrolScrubCountsAndLogs State.reset false [0x10000000] 0 resetIsCanonical).1 (by decide) (by simp [inSram])).2.1,
    ((patrolScrubCountsAndLogs State.reset true [] 0x80000006 resetIsCanonical).2 (by decide)).2.2.1⟩

/-! ### Faults that stand (R557) -/

/-- A fault of this code and source stands in the list or waits for a place in it. -/
def Listed (s : State) (code source : Nat) : Prop := ∃ e ∈ s.flt.list ++ s.flt.unlisted, e.code = code ∧ e.source = source

section
variable {s t : State} {code source : Nat}

theorem Listed.of_flt (h : Listed s code source) (e : t.flt = s.flt) : Listed t code source := by
  unfold Listed at *
  rwa [e]

/-- Entries that keep their code and source keep what is listed. -/
theorem Listed.map {f g : FaultEntry → FaultEntry} (hf : ∀ e, (f e).code = e.code ∧ (f e).source = e.source)
    (hg : ∀ e, (g e).code = e.code ∧ (g e).source = e.source) (hl : t.flt.list = s.flt.list.map f)
    (hu : t.flt.unlisted = s.flt.unlisted.map g) (h : Listed s code source) : Listed t code source := by
  obtain ⟨e, he, hc, hs⟩ := h
  rcases List.mem_append.1 he with he | he
  · exact ⟨f e, by rw [hl]; exact List.mem_append_left _ (List.mem_map_of_mem he), (hf e).1.trans hc, (hf e).2.trans hs⟩
  · exact ⟨g e, by rw [hu]; exact List.mem_append_right _ (List.mem_map_of_mem he), (hg e).1.trans hc, (hg e).2.trans hs⟩

theorem Listed.markHandled {c d : Nat} (h : Listed s code source) : Listed (markHandled c d s) code source := by
  refine h.map (f := fun e => if e.code = c ∧ e.source = d then { e with handled := true } else e) (g := id) (fun e => ?_)
    (fun e => ⟨rfl, rfl⟩) rfl (List.map_id _).symm
  split <;> exact ⟨rfl, rfl⟩

theorem Listed.handlerFor {c d : Nat} (h : Listed s code source) : Listed (handlerFor c d s) code source := by
  unfold Machine.handlerFor
  split
  · exact (h.of_flt (t := setFlt _ s) rfl).markHandled
  · split
    · refine Listed.of_flt ?_ (post_same _ _ _ _ (p := .flt) (by decide) (by decide))
      exact Listed.markHandled h
    · exact h

/-- A raised fault stands, once the resident firmware's start has begun. -/
theorem listed_faultRaise (stands : Bool) (hb : s.pwr.begun = true) : Listed (faultRaise code source stands s) code source := by
  have again : ∀ l : List FaultEntry, (l.any fun e => e.code == code && e.source == source) = true →
      ∃ e ∈ l.map (fun e => if (e.code == code && e.source == source) = true then { e with gone := if stands then none else some s.now }
        else e), e.code = code ∧ e.source = source := fun l h => by
    obtain ⟨e, he, hs⟩ := List.any_eq_true.1 h
    refine ⟨_, List.mem_map_of_mem he, ?_⟩
    rw [if_pos hs]
    simpa using hs
  unfold faultRaise
  simp only [hb, Bool.not_true, Bool.false_eq_true, if_false]
  split
  · rename_i h
    obtain ⟨e, he, hs⟩ := again _ h
    exact ⟨e, List.mem_append_left _ he, hs⟩
  · split
    · rename_i h
      obtain ⟨e, he, hs⟩ := again _ h
      exact ⟨e, List.mem_append_right _ he, hs⟩
    · refine Listed.handlerFor (Listed.of_flt ?_ (post_same _ _ _ _ (p := .flt) (by decide) (by decide)))
      split
      · exact ⟨_, List.mem_append_left _ (List.mem_append_right _ (List.mem_singleton_self _)), rfl, rfl⟩
      · exact ⟨_, List.mem_append_right _ (List.mem_append_right _ (List.mem_singleton_self _)), rfl, rfl⟩

end

/-! ### The watchdogs (R46, R48) -/

section
variable {s : State} {o : Origin}

theorem exec_wdt0Kick (h : Lets s o A.SYS_WDT0_KICK) (w : Word) : exec (.wdt0Kick o w) s = .next (setResult o .done
    (if w = kickKey then setSys { s.sys with wdt0From := s.now, wdt0Warned := false } s else cfgErr s 0)) :=
  congrArg _ (coreWrite_lets sysWritten h w)

theorem exec_wdt1Kick (h : Lets s o A.SYS_WDT1_KICK) (w : Word) : exec (.wdt1Kick o w) s = .next (setResult o .done
    (if w = kickKey then setSys { s.sys with wdt1From := s.now } s else cfgErr s 0)) :=
  congrArg _ (coreWrite_lets sysWritten h w)

theorem exec_wdt0Warn (hb : s.pwr.booted = true) (hw : s.sys.wdt0Warned = false) (he : s.flt.escalated = false)
    (ht : s.sys.wdt0From + 20000000 ≤ s.now) :
    exec .wdt0Warn s = .next (raise (setSys { s.sys with wdt0Warned := true } s) R.SYS_IFLG_wdt0_warn) := by
  change Host.Outcome.next (wdt0Warn s) = _
  unfold wdt0Warn
  rw [if_neg (by simp [hb, hw, msTicks]; omega), if_neg (by simp [he])]

/-- What core 1's expiry leaves in SYS, before anyone is told of it. -/
def wdt1Marked (s : State) : State := raise (raise (core1Hold s) R.SYS_STAT_wdt1_exp) R.SYS_IFLG_wdt1_exp

theorem exec_wdt1Expiry (he : isSet s R.SYS_WDT1_CTRL_en = true) (hb : isSet s R.SYS_STAT_c1_busy = true)
    (ht : s.sys.wdt1From + 500000 * fld s R.SYS_WDT1_CTRL_to ≤ s.now) :
    exec .wdt1Expiry s = .next (faultRaise 0x0102 0 false (post 0x00 0x04 [] (wdt1Marked s))) := by
  change Host.Outcome.next (wdt1Expire s) = _
  unfold wdt1Expire
  rw [if_pos ⟨he, hb, by simp only [msTicks]; omega⟩]
  rfl

theorem canon_core1Hold (c : Canon s) : Canon (core1Hold s) :=
  (core1Hold_keeps (Sub.refl _) (Keeps.refl s)).canon c

theorem core1Hold_stopped (h : Rising s.regs) :
    isSet (core1Hold s) R.SYS_CTRL_c1_run = false ∧ isSet (core1Hold s) R.SYS_STAT_c1_busy = false := by
  have h1 := rising_lower h (f := R.SYS_CTRL_c1_run)
  have hr : fld (lower (lower s R.SYS_CTRL_c1_run) R.SYS_STAT_c1_busy) R.SYS_CTRL_c1_run = 0 := by
    rw [fld_lower_apart h1 (by decide) (by decide), fld_lower_self h (by decide)]
  have hb : fld (lower (lower s R.SYS_CTRL_c1_run) R.SYS_STAT_c1_busy) R.SYS_STAT_c1_busy = 0 := fld_lower_self h1 (by decide)
  exact ⟨congrArg (· == 1) hr, congrArg (· == 1) hb⟩

theorem canon_wdt1Marked (c : Canon s) : Canon (wdt1Marked s) :=
  have hm := Sub.refl (2 ^ 100 - 1)
  (raise_keeps (hm.mono rfl) (raise_keeps (hm.mono rfl) (Keeps.refl (core1Hold s)))).canon (canon_core1Hold c)

theorem isSet_wdt1Marked (c : Canon s) :
    isSet (wdt1Marked s) R.SYS_CTRL_c1_run = false ∧ isSet (wdt1Marked s) R.SYS_STAT_c1_busy = false ∧
    isSet (wdt1Marked s) R.SYS_STAT_wdt1_exp = true ∧ isSet (wdt1Marked s) R.SYS_IFLG_wdt1_exp = true := by
  obtain ⟨hr, hb⟩ := core1Hold_stopped c.regs.1
  have h1 : Rising (core1Hold s).regs := (canon_core1Hold c).regs.1
  have h2 := rising_raise h1 (f := R.SYS_STAT_wdt1_exp)
  unfold isSet wdt1Marked at *
  simp +decide [fld_raise_apart, fld_raise_self, h1, h2, hr, hb]

end

/-- Settles O18: a kick is a write of its register, an expiry marks, tells and raises. -/
theorem watchdogKicksAndExpiries : Obligations.WatchdogKicksAndExpiries := by
  intro s o hs
  refine ⟨fun hl => ⟨?kick0, fun w hw => ?bad0⟩, fun hl => ⟨?kick1, fun w hw => ?bad1⟩, fun hb hw he ht => exec_wdt0Warn hb hw he ht,
    fun he hb ht => ?expiry⟩
  case kick0 => rw [exec_wdt0Kick hl, if_pos rfl, setSys]
  case bad0 => rw [exec_wdt0Kick hl, if_neg hw]
  case kick1 => rw [exec_wdt1Kick hl, if_pos rfl, setSys]
  case bad1 => rw [exec_wdt1Kick hl, if_neg hw]
  case expiry =>
    have c1 := canon_wdt1Marked hs
    obtain ⟨hrun, hbusy, hexp, hflag⟩ := isSet_wdt1Marked hs
    have told : ∀ f : Field, blockIndex f.addr = 0 →
        isSet (faultRaise 0x0102 0 false (post 0x00 0x04 [] (wdt1Marked s))) f = isSet (wdt1Marked s) f := fun f h => by
      unfold isSet
      rw [faultRaise_fld (canon_post c1 _ _ _) (by omega), post_fld c1 _ _ _ (by omega)]
    rw [exec_wdt1Expiry he hb ht]
    refine ⟨(told _ rfl).trans hrun, (told _ rfl).trans hbusy, (told _ rfl).trans hexp, (told _ rfl).trans hflag, ?_, fun hg => ?_⟩
    · rw [faultRaise_sys, post_sys]
      simp [wdt1Marked, core1Hold]
    · refine listed_faultRaise false ?_
      have hp : (post 0x00 0x04 [] (wdt1Marked s)).pwr = (wdt1Marked s).pwr :=
        post_same _ _ _ _ (p := .pwr) (by decide) (by decide)
      rw [hp]
      simpa [wdt1Marked, core1Hold] using hg

/-- The hypotheses of O18 can be met: core 0 kicks at reset. -/
theorem watchdogKicksAndExpiries_witness (m : Bool) :
    exec (.wdt0Kick ⟨.core0, m⟩ 0) State.reset = .next (setResult ⟨.core0, m⟩ .done (cfgErr State.reset 0)) :=
  ((watchdogKicksAndExpiries State.reset ⟨.core0, m⟩ resetIsCanonical).1 (lets_core0 rfl (by decide) (by decide))).2 0 (by decide)

end Sys2Proof.Machine

/-! ## The bulk store (chapter 02, R37 to R40) -/

namespace Sys2Proof.Machine

open Sys2Proof

/-! ### Bits of a field -/

theorem bit_eq_testBit (n i : Nat) : bit n i = n.testBit i := by
  rw [Nat.testBit_eq_decide_div_mod_eq]
  rfl

/-- A bit of a field is the one-bit field at its place. -/
theorem fldBit_eq_isSet (s : State) {f : Field} {i : Nat} (hi : i < f.width) : fldBit s f i = isSet s ⟨f.addr, f.lsb + i, 1⟩ := by
  unfold fldBit isSet fld bits
  rw [bit_eq_testBit, Nat.testBit_mod_two_pow, Nat.testBit_div_two_pow, decide_eq_true hi, Bool.true_and, ← bit_eq_testBit,
    Nat.add_comm i]
  rfl

/-! ### Padded octets -/

theorem length_padTo (n : Nat) (bs : List Byte) : (padTo n bs).length = n := by
  simp only [padTo, octets, List.length_append, List.length_replicate, List.length_take, List.length_drop]
  omega

theorem padTo_of_length {n : Nat} {bs : List Byte} (h : bs.length = n) : padTo n bs = bs := by
  subst h
  simp [padTo, octets]

theorem padTo_nil (n : Nat) : padTo n [] = List.replicate n 0 := by
  simp [padTo, octets]

theorem length_memBytes (s : State) (a n : Nat) : (memBytes s a n).length = n := by
  simp [memBytes]

/-! ### Blocks -/

section
variable {s : State}

/-- What a block's store lists stands for what was to be stored: zeros are not listed. -/
theorem padTo_stored (n : Nat) (bs : List Byte) :
    padTo n (if (padTo n bs).all (· == 0) then zeroBlock else padTo n bs) = padTo n bs := by
  split
  · rename_i h
    have hz : padTo n bs = List.replicate n 0 :=
      List.eq_replicate_iff.2 ⟨length_padTo n bs, fun b hb => by simpa using List.all_eq_true.1 h b hb⟩
    rw [hz]
    exact padTo_nil n
  · exact padTo_of_length (length_padTo n bs)

theorem bulkBlock_setBulk_self (h : Rising s.bulk) (p b : Nat) (bs : List Byte) : bulkBlock (setBulk s p b bs) p b = padTo 4096 bs := by
  unfold bulkBlock setBulk
  rw [sget_sput_self _ _ _ h, padTo_stored]

theorem bulkBlock_setBulk_other (h : Rising s.bulk) {p b q c : Nat} (bs : List Byte)
    (hk : partitionFirst q + c ≠ partitionFirst p + b) : bulkBlock (setBulk s p b bs) q c = bulkBlock s q c := by
  unfold bulkBlock setBulk
  rw [sget_sput_other _ _ hk h]

theorem rising_sput {α : Type} [DecidableEq α] (d : Nat → α) {m : List (Nat × α)} (h : Rising m) (k : Nat) (v : α) :
    Rising (sput d m k v) := by
  unfold sput
  split
  · exact rising_sdel k h
  · exact rising_sins k v h

theorem rising_setBulk (h : Rising s.bulk) (p b : Nat) (bs : List Byte) : Rising (setBulk s p b bs).bulk := by
  unfold setBulk
  dsimp only
  exact rising_sput _ h _ _

theorem upTo_succ {σ : Type} (n : Nat) (f : Nat → σ → σ) (s : σ) : upTo (n + 1) f s = f n (upTo n f s) := by
  simp [upTo, List.range_succ]

@[simp] theorem setBytes_bulk (s : State) (a : Nat) (bs : List Byte) : (setBytes s a bs).bulk = s.bulk := by
  induction bs generalizing s a with
  | nil => rfl
  | cons b t ih => exact ih _ _

theorem bulkBlock_of_bulk {s t : State} (h : t.bulk = s.bulk) (p b : Nat) : bulkBlock t p b = bulkBlock s p b := by
  unfold bulkBlock
  rw [h]

theorem memBytes_of_mem {s t : State} (h : t.mem = s.mem) (a n : Nat) : memBytes t a n = memBytes s a n := by
  unfold memBytes
  simp only [memByte_of_mem h]

/-- After `k` blocks of a read, memory holds them from the buffer on, and the store stands (R38). -/
theorem bscBlocks_read {j : BscJob} (hj : j.op = .read) (k : Nat) (h : Rising s.mem) :
    let t := bscBlocks j k s
    Rising t.mem ∧ t.bulk = s.bulk ∧
    (∀ i < k, ∀ l < 4096, memByte t (j.buf + 4096 * i + l) = (bulkBlock s j.part (j.blk + i)).getD l 0) ∧
    ∀ a, a < j.buf ∨ j.buf + 4096 * k ≤ a → memByte t a = memByte s a := by
  induction k with
  | zero => exact ⟨h, rfl, fun i hi => absurd hi (by omega), fun _ _ => rfl⟩
  | succ k ih =>
    obtain ⟨hr, hb, hin, hout⟩ := ih
    have he : bscBlocks j (k + 1) s =
        setBytes (bscBlocks j k s) (j.buf + 4096 * k) (bulkBlock (bscBlocks j k s) j.part (j.blk + k)) := by
      unfold bscBlocks
      rw [upTo_succ, hj]
    have hl : (bulkBlock (bscBlocks j k s) j.part (j.blk + k)).length = 4096 := length_padTo _ _
    rw [he]
    refine ⟨rising_setBytes _ hr _, (setBytes_bulk _ _ _).trans hb, fun i hi l hl' => ?_, fun a ha => ?_⟩
    · rw [memByte_setBytes _ hr, hl]
      by_cases hik : i = k
      · subst hik
        rw [if_pos (by omega), bulkBlock_of_bulk hb, Nat.add_sub_cancel_left, List.getD_eq_getElem?_getD]
      · rw [if_neg (by omega)]
        exact hin i (by omega) l hl'
    · rw [memByte_setBytes_outside _ hr (by rw [hl]; omega)]
      exact hout a (by omega)

/-- After `k` blocks of a write or a trim, the store holds the buffer's octets or zeros in them, and memory stands (R38). -/
theorem bscBlocks_store {j : BscJob} (hj : j.op ≠ .read) (k : Nat) (h : Rising s.bulk) :
    let t := bscBlocks j k s
    Rising t.bulk ∧ t.mem = s.mem ∧
    (∀ i < k, bulkBlock t j.part (j.blk + i) =
      if j.op = .write then memBytes s (j.buf + 4096 * i) 4096 else List.replicate 4096 0) ∧
    ∀ p b, (∀ i < k, partitionFirst p + b ≠ partitionFirst j.part + (j.blk + i)) → bulkBlock t p b = bulkBlock s p b := by
  induction k with
  | zero => exact ⟨h, rfl, fun i hi => absurd hi (by omega), fun _ _ _ => rfl⟩
  | succ k ih =>
    obtain ⟨hr, hm, hin, hout⟩ := ih
    have he : ∃ bs, bscBlocks j (k + 1) s = setBulk (bscBlocks j k s) j.part (j.blk + k) bs ∧
        padTo 4096 bs = if j.op = .write then memBytes s (j.buf + 4096 * k) 4096 else List.replicate 4096 0 := by
      unfold bscBlocks at hm ⊢
      rw [upTo_succ]
      cases hop : j.op with
      | read => exact absurd hop hj
      | write =>
        refine ⟨memBytes s (j.buf + 4096 * k) 4096, ?_, padTo_of_length (length_memBytes _ _ _)⟩
        rw [hop] at hm
        rw [← memBytes_of_mem hm]
      | trim => exact ⟨[], rfl, padTo_nil _⟩
    obtain ⟨bs, he, hbs⟩ := he
    rw [he]
    refine ⟨rising_setBulk hr _ _ _, hm, fun i hi => ?_, fun p b hk => ?_⟩
    · by_cases hik : i = k
      · subst hik
        rw [bulkBlock_setBulk_self hr, hbs]
      · rw [bulkBlock_setBulk_other hr _ (by omega)]
        exact hin i (by omega)
    · rw [bulkBlock_setBulk_other hr _ (hk k (by omega))]
      exact hout p b fun i hi => hk i (by omega)

end

/-! ### Channels -/

section
variable {s : State} {n : Nat}

theorem bscJob_of_bsc {s t : State} (h : t.bsc = s.bsc) (n : Nat) : bscJob t n = bscJob s n := by
  unfold bscJob
  rw [h]

theorem bscJob_setBscJob_self (s : State) (n : Nat) (j : Option BscJob) : bscJob (setBscJob n j s) n = j := by
  by_cases h : n = 0 <;> simp [bscJob, setBscJob, h]

theorem bscJob_setBscJob_other (hn : n < 2) (s : State) (j : Option BscJob) : bscJob (setBscJob n j s) (1 - n) = bscJob s (1 - n) := by
  obtain rfl | rfl : n = 0 ∨ n = 1 := by omega
  all_goals simp [bscJob, setBscJob]

theorem canon_setBscJob (c : Canon s) (n : Nat) (j : Option BscJob) : Canon (setBscJob n j s) :=
  (setBscJob_keeps (Sub.refl _) (Keeps.refl s)).canon c

/-- A channel that takes a command shows the store busy while it runs. -/
theorem isSet_setBscJob_busy (h : Rising s.regs) (hr : isSet s R.BSC_CTRL_run = true) (j : BscJob) :
    isSet (setBscJob n (some j) s) R.BSC_STAT_busy = true := by
  have hf := fld_setBool_self (s := { s with bsc := if n = 0 then { s.bsc with job0 := some j } else { s.bsc with job1 := some j } })
    (f := R.BSC_STAT_busy) h true (by decide) (by decide)
  have hb : setBscJob n (some j) s = setBool { s with bsc := if n = 0 then { s.bsc with job0 := some j } else { s.bsc with job1 := some j } }
      R.BSC_STAT_busy true := by
    unfold setBscJob
    have hr' : ∀ x, isSet { s with bsc := x } R.BSC_CTRL_run = true := fun _ => hr
    by_cases h0 : n = 0 <;> simp [h0, hr']
  rw [hb]
  exact congrArg (· == 1) hf

/-- The result of channel `n` with its flag, as a command ends. -/
def bscShown (n st k : Nat) (s : State) : State :=
  raiseBit (setFld (setFld s (R.BSC_Cn_RES_status n) st) (R.BSC_Cn_RES_done n) k) R.BSC_IFLG_done n

theorem bscEnd_eq (n st k : Nat) (s : State) :
    bscEnd n st k s = if st = 0 then bscShown n st k (setBscJob n none s) else raiseBit (bscShown n st k (setBscJob n none s)) R.BSC_IFLG_err n :=
  rfl

@[simp] theorem bscShown_fields (n st k : Nat) (s : State) :
    (bscShown n st k s).bsc = s.bsc ∧ (bscShown n st k s).mem = s.mem ∧ (bscShown n st k s).bulk = s.bulk := by
  simp [bscShown]

@[simp] theorem setBscJob_fields (n : Nat) (j : Option BscJob) (s : State) :
    (setBscJob n j s).mem = s.mem ∧ (setBscJob n j s).bulk = s.bulk := by
  simp [setBscJob]

theorem bscResult_width (n : Nat) : 2 ^ (R.BSC_Cn_RES_status n).width = 8 ∧ 2 ^ (R.BSC_Cn_RES_done n).width = 512 := ⟨rfl, rfl⟩

theorem bscShown_shows (hn : n < 2) (h : Rising s.regs) (st k : Nat) :
    fld (bscShown n st k s) (R.BSC_Cn_RES_status n) = st % 8 ∧ fld (bscShown n st k s) (R.BSC_Cn_RES_done n) = k % 512 ∧
    fldBit (bscShown n st k s) R.BSC_IFLG_done n = true ∧ Rising (bscShown n st k s).regs := by
  have h1 := rising_setFld h (R.BSC_Cn_RES_status n) st
  have h2 := rising_setFld h1 (R.BSC_Cn_RES_done n) k
  rw [fldBit_eq_isSet _ hn]
  refine ⟨?_, ?_, ?_, rising_raiseBit h2 n⟩
  all_goals obtain rfl | rfl : n = 0 ∨ n = 1 := by omega
  all_goals simp +decide [bscShown, raiseBit, isSet, fld_raise_self, fld_raise_apart, fld_setFld_self, fld_setFld_apart, bscResult_width,
    h, h1, h2]

/-- What a command of channel `n` leaves when it ends. -/
theorem bscEnd_shows (hn : n < 2) (c : Canon s) (st k : Nat) :
    bscJob (bscEnd n st k s) n = none ∧ fld (bscEnd n st k s) (R.BSC_Cn_RES_status n) = st % 8 ∧
    fld (bscEnd n st k s) (R.BSC_Cn_RES_done n) = k % 512 ∧ fldBit (bscEnd n st k s) R.BSC_IFLG_done n = true ∧
    (st ≠ 0 → fldBit (bscEnd n st k s) R.BSC_IFLG_err n = true) ∧ (bscEnd n st k s).mem = s.mem ∧ (bscEnd n st k s).bulk = s.bulk := by
  have hj := bscJob_setBscJob_self s n none
  obtain ⟨hs, hk, hd, hr⟩ := bscShown_shows hn (canon_setBscJob c n none).regs.1 st k
  rw [bscEnd_eq]
  split
  · rename_i h0
    exact ⟨(bscJob_of_bsc (by simp) n).trans hj, hs, hk, hd, fun h => absurd h0 h, by simp, by simp⟩
  · rw [fldBit_eq_isSet _ hn] at hd ⊢
    rw [fldBit_eq_isSet _ hn]
    refine ⟨(bscJob_of_bsc (by simp) n).trans hj, ?_, ?_, ?_, fun _ => ?_, by simp, by simp⟩
    all_goals obtain rfl | rfl : n = 0 ∨ n = 1 := by omega
    all_goals unfold isSet at *
    all_goals simp +decide [raiseBit, fld_raise_apart, fld_raise_self, hr, hs, hk]
    all_goals simpa using hd

end

/-! ### Commands -/

section
variable {s : State} {o : Origin} {n : Nat}

/-- The job a GO of channel `n` starts, from what its registers hold. -/
def bscAsked (s : State) (n : Nat) (op : BscOp) : BscJob :=
  { op, part := fld s (R.BSC_Cn_LOC_part n), blk := fld s (R.BSC_Cn_LOC_blk n), cnt := fld s (R.BSC_Cn_CNT_cnt n),
    buf := 4 * fld s (R.BSC_Cn_ADDR_addr n) }

/-- The command of the table that writes channel `n`'s GO for `op`. -/
def bscCommand (o : Origin) (n : Nat) : BscOp → Instr
  | .read => .bscRead o n
  | .write => .bscWrite o n
  | .trim => .bscTrim o n

/-- GO holds command fields only: its write alone changes no field. -/
theorem writeFields_bscGo (hn : n < 2) (o : Origin) (w : Word) (s : State) : writeFields o (A.BSC_Cn_GO n) w s = s := by
  obtain rfl | rfl : n = 0 ∨ n = 1 := by omega
  all_goals rfl

theorem exec_bscCommand (hn : n < 2) (h : Lets s o (A.BSC_Cn_GO n)) (op : BscOp) : exec (bscCommand o n op) s =
    .next (setResult o .done (if (bscJob s n).isSome = true then cfgErr s 17 else bscGo n op s)) := by
  have hw : ∀ w : Word, coreWrite bscWritten o (A.BSC_Cn_GO n) w s =
      setResult o .done (bscWritten o (A.BSC_Cn_GO n) w s s) := fun w => by
    rw [coreWrite_lets bscWritten h w, writeFields_bscGo hn]
  have hg : A.BSC_Cn_GO 1 ≠ A.BSC_Cn_GO 0 := by decide
  have hrow : exec (bscCommand o n op) s =
      .next (coreWrite bscWritten o (A.BSC_Cn_GO n) (match op with | .read => 1 | .write => 2 | .trim => 4) s) := by
    cases op <;> rfl
  rw [hrow, hw]
  obtain rfl | rfl : n = 0 ∨ n = 1 := by omega
  all_goals cases op <;> simp [bscWritten, bits, hg]

theorem bscGo_takes (hr : isSet s R.BSC_CTRL_run = true) {op : BscOp} (hi : bscInRange (bscAsked s n op) = true)
    (hp : n = 1 → bscPermitted s (bscAsked s n op) = true) : bscGo n op s =
      setFld (setFld (setBscJob n (some (bscAsked s n op)) s) (R.BSC_Cn_RES_status n) 7) (R.BSC_Cn_RES_done n) 0 := by
  change (if _ then _ else if (!bscInRange (bscAsked s n op)) = true then _ else if n = 1 ∧ ¬ bscPermitted s (bscAsked s n op) = true then _
    else _) = _
  rw [if_neg (by simp [hr]), if_neg (by simp [hi]), if_neg (fun h => h.2 (hp h.1))]
  rfl

theorem bscGo_outOfRange (hr : isSet s R.BSC_CTRL_run = true) {op : BscOp} (hi : bscInRange (bscAsked s n op) = false) :
    bscGo n op s = bscEnd n 1 0 s := by
  change (if _ then _ else if (!bscInRange (bscAsked s n op)) = true then _ else _) = _
  rw [if_neg (by simp [hr]), if_pos (by simp [hi])]

theorem bscGo_notPermitted (hr : isSet s R.BSC_CTRL_run = true) {op : BscOp} (hi : bscInRange (bscAsked s n op) = true) (hn : n = 1)
    (hp : bscPermitted s (bscAsked s n op) = false) :
    ∃ d, bscGo n op s = post 0x11 0x03 d (bscEnd n 2 0 s) := by
  refine ⟨leBytes 1 (bscAsked s n op).part ++ leBytes 1 (bscOpCode op), ?_⟩
  change (if _ then _ else if (!bscInRange (bscAsked s n op)) = true then _ else if n = 1 ∧ ¬ bscPermitted s (bscAsked s n op) = true then _
    else _) = _
  rw [if_neg (by simp [hr]), if_neg (by simp [hi]), if_pos ⟨hn, by simp [hp]⟩]
  rfl

/-- What a channel shows of a command it has taken. -/
theorem bscTaken_shows (hn : n < 2) (c : Canon s) (hr : isSet s R.BSC_CTRL_run = true) (j : BscJob) :
    let t := setFld (setFld (setBscJob n (some j) s) (R.BSC_Cn_RES_status n) 7) (R.BSC_Cn_RES_done n) 0
    bscJob t n = some j ∧ fld t (R.BSC_Cn_RES_status n) = 7 ∧ fld t (R.BSC_Cn_RES_done n) = 0 ∧
    isSet t R.BSC_STAT_busy = true ∧ bscJob t (1 - n) = bscJob s (1 - n) := by
  have h0 := (canon_setBscJob c n (some j)).regs.1
  have h1 := rising_setFld h0 (R.BSC_Cn_RES_status n) 7
  have hb := isSet_setBscJob_busy (n := n) c.regs.1 hr j
  dsimp only
  refine ⟨(bscJob_of_bsc (by simp) n).trans (bscJob_setBscJob_self s n _), ?_, ?_, ?_,
    (bscJob_of_bsc (by simp) (1 - n)).trans (bscJob_setBscJob_other hn s (some j))⟩
  · obtain rfl | rfl : n = 0 ∨ n = 1 := by omega
    all_goals simp +decide [fld_setFld_self, fld_setFld_apart, bscResult_width, h0, h1]
  · obtain rfl | rfl : n = 0 ∨ n = 1 := by omega
    all_goals simp +decide [fld_setFld_self, h1]
  · rw [← hb]
    unfold isSet
    obtain rfl | rfl : n = 0 ∨ n = 1 := by omega
    all_goals rw [fld_setFld_apart h1 _ (by decide) (by decide), fld_setFld_apart h0 _ (by decide) (by decide)]

theorem canon_bscBlocks (c : Canon s) (j : BscJob) (k : Nat) : Canon (bscBlocks j k s) :=
  (bscBlocks_keeps (Sub.refl _) (Keeps.refl s)).canon c

theorem exec_bscCommandDone_ok {j : BscJob} (hj : bscJob s n = some j) :
    exec (.bscCommandDone n .ok) s = .next (bscEnd n 0 j.cnt (bscBlocks j j.cnt s)) := by
  change Host.Outcome.next (bscDone n .ok s) = _
  unfold bscDone
  rw [hj]

/-- A result on the bus changes nothing a channel shows. -/
@[simp] theorem setResult_bscJob (s : State) (o : Origin) (x : BusResult) (n : Nat) : bscJob (setResult o x s) n = bscJob s n :=
  bscJob_of_bsc (setResult_same s o x (p := .bsc) (by decide)) n

@[simp] theorem setResult_fldBit (s : State) (o : Origin) (x : BusResult) (f : Field) (i : Nat) :
    fldBit (setResult o x s) f i = fldBit s f i := by
  unfold fldBit
  rw [setResult_fld]

end

/-- Settles O19: a GO starts or refuses the job its registers describe, and the end of a job moves its blocks one by one. -/
theorem bulkStoreCommands : Obligations.BulkStoreCommands := by
  intro s o n hn hs job
  refine ⟨fun hl hr op => ?go, fun j hj => ?ended⟩
  case go =>
    intro c
    have hc : c = bscCommand o n op := by cases op <;> rfl
    rw [hc, exec_bscCommand hn hl op]
    refine ⟨fun hj hi hp => ?taken, fun hj hi => ?outOfRange, fun hj hi h1 hp => ?notPermitted, fun hj => by rw [if_pos hj]⟩
    case taken =>
      rw [if_neg (by simp [hj]), bscGo_takes hr hi hp, show job op = bscAsked s n op from rfl]
      simpa [Goes] using bscTaken_shows hn hs hr (bscAsked s n op)
    case outOfRange =>
      obtain ⟨hnone, hst, -, hd, herr, -, -⟩ := bscEnd_shows hn hs 1 0
      rw [if_neg (by simp [hj]), bscGo_outOfRange hr hi]
      simpa [Goes] using And.intro hnone (And.intro hst (And.intro hd (herr (by decide))))
    case notPermitted =>
      obtain ⟨hnone, hst, -, -, herr, -, -⟩ := bscEnd_shows hn hs 2 0
      obtain ⟨d, hgo⟩ := bscGo_notPermitted hr hi h1 hp
      have hend : Canon (bscEnd n 2 0 s) := (bscEnd_keeps (Sub.refl _) (Keeps.refl s)).canon hs
      have told : ∀ f : Field, blockIndex f.addr ≠ 12 → fld (post 0x11 0x03 d (bscEnd n 2 0 s)) f = fld (bscEnd n 2 0 s) f :=
        fun f hf => post_fld hend _ _ _ hf
      have herr' : fldBit (post 0x11 0x03 d (bscEnd n 2 0 s)) R.BSC_IFLG_err n = true := by
        unfold fldBit
        rw [told _ (by decide)]
        exact herr (by decide)
      rw [if_neg (by simp [hj]), hgo]
      refine ⟨?_, ?_, ?_⟩
      · rw [setResult_bscJob, bscJob_of_bsc (post_same _ _ _ _ (p := .bsc) (by decide) (by decide))]
        exact hnone
      · rw [setResult_fld, told _ (by subst h1; decide)]
        exact hst
      · rw [setResult_fldBit]
        exact herr'
  case ended =>
    obtain ⟨hnone, hst, hdone, hflag, -, hmem, hbulk⟩ := bscEnd_shows hn (canon_bscBlocks hs j j.cnt) 0 j.cnt
    rw [exec_bscCommandDone_ok hj]
    refine ⟨hnone, hst, hdone, hflag, fun hop => ?readBlocks, fun hop => ?storedBlocks⟩
    case readBlocks =>
      obtain ⟨-, hb, hin, hout⟩ := bscBlocks_read hop j.cnt hs.mem.1
      refine ⟨hbulk.trans hb, fun i hi k hk => ?_, fun a ha => ?_⟩
      · rw [memByte_of_mem hmem]
        exact hin i hi k hk
      · rw [memByte_of_mem hmem]
        exact hout a ha
    case storedBlocks =>
      obtain ⟨-, hm, hin, hout⟩ := bscBlocks_store hop j.cnt hs.bulk.1
      refine ⟨hmem.trans hm, fun i hi => ?_, fun p b hb => ?_⟩
      · rw [bulkBlock_of_bulk hbulk]
        exact hin i hi
      · rw [bulkBlock_of_bulk hbulk]
        exact hout p b hb

/-- Core 0 at reset, with the bulk store running. -/
def bscRunning : State := setBool State.reset R.BSC_CTRL_run true

/-- The hypotheses of O19 can be met: a read of no blocks is out of range. -/
theorem bulkStoreCommands_witness (m : Bool) :
    Goes (exec (.bscRead ⟨.core0, m⟩ 0) bscRunning) fun t => fld t (R.BSC_Cn_RES_status 0) = 1 :=
  ((((bulkStoreCommands bscRunning ⟨.core0, m⟩ 0 (by decide) ((setBool_keeps (Sub.refl _) (Keeps.refl _)).canon resetIsCanonical)).1
    (lets_core0 rfl (by decide) (by decide)) (by decide) .read).2.1 rfl (by decide))).2.1

end Sys2Proof.Machine

/-! ## Writes of SYS_CTRL and SYS_PWR (chapter 02, R28, R45, R54; chapter 25, R603, R605) -/

namespace Sys2Proof.Machine

open Sys2Proof

section
variable {s : State} {o : Origin}

/-! ### What the fields of SYS_CTRL and SYS_PWR take -/

/-- A field in force at once takes a value where its block's condition holds, and refuses it otherwise (R49). -/
theorem writeField_when {old : State} {a : Nat} {w : Word} {fi : FieldInfo} {c : Bool} (ht : fi.ty = .rw) (hi : fi.timing = .imm)
    (h : admitField old o a fi.lsb (bits w.toNat fi.lsb fi.width) w = .when c (bits w.toNat fi.lsb fi.width)) (s : State) :
    writeField old o a w s fi = if c = true then setFld s (fi.at a) (bits w.toNat fi.lsb fi.width) else cfgErr s (blockIndex a) := by
  unfold writeField
  rw [ht]
  dsimp only
  rw [h, hi]
  cases c <;> simp [Admit.when, Admit.take, Admit.refuse, FieldInfo.at]

/-- Core 1 starts only where it runs already or boots in its own SRAM (R54). -/
theorem admitSys_ctrl (s : State) (v : Nat) :
    admitSys s A.SYS_CTRL 0 v = .when (v != 1 || (isSet s R.SYS_CTRL_c1_run || c1BootOk s)) v := by
  unfold admitSys
  rw [if_neg (by decide)]
  split
  · rename_i h
    simp [h.2.2]
  · rename_i h
    have hv : (v != 1) = true := by simpa using h
    rw [hv, if_neg (by decide), if_neg (by decide), if_neg (by decide), if_neg (fun h => absurd h.1 (by decide))]
    rfl

/-- Mode 2 is taken where R605 allows it, modes above it never are (R603). -/
theorem admitSys_pwr (s : State) (v : Nat) : admitSys s A.SYS_PWR 0 v = .when (v < 3 && (v != 2 || mayHibernate s)) v := if_pos rfl

theorem writeFields_sysCtrl (o : Origin) (w : Word) (s : State) : writeFields o A.SYS_CTRL w s =
    if (bits w.toNat 0 1 != 1 || (isSet s R.SYS_CTRL_c1_run || c1BootOk s)) = true then setFld s R.SYS_CTRL_c1_run (bits w.toNat 0 1)
    else cfgErr s 0 :=
  writeField_when (a := A.SYS_CTRL) (old := s) (o := o) (w := w) (fi := ⟨0, 1, .rw, .imm, 0⟩) rfl rfl (admitSys_ctrl s _) s

theorem writeFields_sysPwr (o : Origin) (w : Word) (s : State) : writeFields o A.SYS_PWR w s =
    if (bits w.toNat 0 3 < 3 && (bits w.toNat 0 3 != 2 || mayHibernate s)) = true then setFld s R.SYS_PWR_mode (bits w.toNat 0 3)
    else cfgErr s 0 :=
  writeField_when (a := A.SYS_PWR) (old := s) (o := o) (w := w) (fi := ⟨0, 3, .rw, .imm, 0⟩) rfl rfl (admitSys_pwr s _) s

/-! ### What a write of SYS_CTRL starts -/

/-- Core 1 starts or stops as its run bit says, where it did not run or stop so before. -/
def runTaken (old s : State) : State :=
  if isSet s R.SYS_CTRL_c1_run = true ∧ ¬ isSet old R.SYS_STAT_c1_busy = true then
    setSys { s.sys with wdt1From := s.now } (raise s R.SYS_STAT_c1_busy)
  else if ¬ isSet s R.SYS_CTRL_c1_run = true ∧ isSet old R.SYS_STAT_c1_busy = true then core1Hold s else s

/-- Core 1 as the run bit in a word to SYS_CTRL leaves it. -/
def ctrlTaken (o : Origin) (w : Word) (s : State) : State := runTaken s (writeFields o A.SYS_CTRL w s)

theorem bit_eq_bits (n i : Nat) : bit n i = (bits n i 1 == 1) := rfl

theorem coreWrite_sysCtrl (h : Lets s o A.SYS_CTRL) (w : Word) : coreWrite sysWritten o A.SYS_CTRL w s = setResult o .done
    (let t := if bits w.toNat 8 1 == 1 then raise (ctrlTaken o w s) R.SYS_STAT_sealed else ctrlTaken o w s
     if bits w.toNat 4 1 == 1 then moduleReset 3 t else t) := by
  rw [coreWrite_lets sysWritten h w]
  rfl

theorem regAt_sysCtrl : regAt A.SYS_CTRL =
    some ⟨0x40000000, 0x4, 1, 0x4, 1, [⟨0, 1, .rw, .imm, 0⟩, ⟨4, 1, .cmd, .none, 0⟩, ⟨8, 1, .cmd, .none, 0⟩]⟩ := by decide

theorem fldRead_c1Run (c : Canon s) : fldRead s R.SYS_CTRL_c1_run = fld s R.SYS_CTRL_c1_run :=
  fldRead_plain (a := A.SYS_CTRL) (fi := ⟨0, 1, .rw, .imm, 0⟩) c (by decide) (by decide) (by simp)

/-- A write of the run bit alone writes no command bit. -/
theorem exec_core1RunWrite (c : Canon s) (h : Lets s o A.SYS_CTRL) (run : Bool) : exec (.core1RunWrite o run) s =
    .next (setResult o .done (ctrlTaken o (wordWith s R.SYS_CTRL_c1_run (b2n run)) s)) := by
  have hw : ∀ fi ∈ [(⟨4, 1, .cmd, .none, 0⟩ : FieldInfo), ⟨8, 1, .cmd, .none, 0⟩],
      bits (wordWith s R.SYS_CTRL_c1_run (b2n run)).toNat fi.lsb fi.width = 0 := fun fi hf => by
    rw [bits_wordWith c _ regAt_sysCtrl (by decide) (List.mem_cons_of_mem _ hf) (by simp at hf; rcases hf with rfl | rfl <;> decide)]
    simp at hf
    rcases hf with rfl | rfl <;> rfl
  change Host.Outcome.next (coreWrite sysWritten o A.SYS_CTRL (wordWith s R.SYS_CTRL_c1_run (b2n run)) s) = _
  rw [coreWrite_sysCtrl h, hw ⟨4, 1, .cmd, .none, 0⟩ (by simp), hw ⟨8, 1, .cmd, .none, 0⟩ (by simp)]
  rfl

/-- What SYS_CTRL as it reads says, with further bits: core 1's run bit, and those bits. -/
theorem bits_ctrlOr (c : Canon s) (k : Word) :
    bits (rwWord s A.SYS_CTRL ||| k).toNat 0 1 = fld s R.SYS_CTRL_c1_run ||| bits k.toNat 0 1 ∧
    bits (rwWord s A.SYS_CTRL ||| k).toNat 4 1 = bits k.toNat 4 1 ∧ bits (rwWord s A.SYS_CTRL ||| k).toNat 8 1 = bits k.toNat 8 1 := by
  refine ⟨?_, ?_, ?_⟩
  · rw [← fldRead_c1Run c]
    exact bits_rwOr c regAt_sysCtrl k (fi := ⟨0, 1, .rw, .imm, 0⟩) (by simp)
  · simpa using bits_rwOr c regAt_sysCtrl k (fi := ⟨4, 1, .cmd, .none, 0⟩) (by simp)
  · simpa using bits_rwOr c regAt_sysCtrl k (fi := ⟨8, 1, .cmd, .none, 0⟩) (by simp)

/-- A command bit written leaves core 1's run bit as it stands. -/
theorem ctrlTaken_command (c : Canon s) {k : Word} (hk : bits k.toNat 0 1 = 0) (o : Origin) :
    ctrlTaken o (rwWord s A.SYS_CTRL ||| k) s = runTaken s (setFld s R.SYS_CTRL_c1_run (fld s R.SYS_CTRL_c1_run)) := by
  have h0 := (bits_ctrlOr c k).1
  rw [hk, Nat.or_zero] at h0
  unfold ctrlTaken
  rw [writeFields_sysCtrl, h0, if_pos]
  unfold isSet
  cases hb : (fld s R.SYS_CTRL_c1_run == 1) <;> simp_all

/-- A field put back as it stands still says the same. -/
theorem isSet_setFld_fld (h : Rising s.regs) :
    isSet (setFld s R.SYS_CTRL_c1_run (fld s R.SYS_CTRL_c1_run)) R.SYS_CTRL_c1_run = isSet s R.SYS_CTRL_c1_run := by
  unfold isSet
  rw [fld_setFld_self h _ _ (by decide), Nat.mod_eq_of_lt (fld_lt s R.SYS_CTRL_c1_run)]

theorem exec_seal (c : Canon s) (h : Lets s o A.SYS_CTRL) : exec (.seal o) s = .next (setResult o .done
    (raise (runTaken s (setFld s R.SYS_CTRL_c1_run (fld s R.SYS_CTRL_c1_run))) R.SYS_STAT_sealed)) := by
  change Host.Outcome.next (coreWrite sysWritten o A.SYS_CTRL (rwWord s A.SYS_CTRL ||| 0x100) s) = _
  obtain ⟨-, h4, h8⟩ := bits_ctrlOr c 0x100
  rw [coreWrite_sysCtrl h, h4, h8, ctrlTaken_command c (by decide)]
  rfl

theorem exec_sysrst (c : Canon s) (h : Lets s o A.SYS_CTRL) : exec (.sysrst o) s = .next (setResult o .done
    (moduleReset 3 (runTaken s (setFld s R.SYS_CTRL_c1_run (fld s R.SYS_CTRL_c1_run))))) := by
  change Host.Outcome.next (coreWrite sysWritten o A.SYS_CTRL (rwWord s A.SYS_CTRL ||| 0x10) s) = _
  obtain ⟨-, h4, h8⟩ := bits_ctrlOr c 0x10
  rw [coreWrite_sysCtrl h, h4, h8, ctrlTaken_command c (by decide)]
  rfl

/-! ### What they leave -/

theorem fld_setSys (x : SysState) (s : State) (f : Field) : fld (setSys x s) f = fld s f := rfl

theorem runTaken_starts {old : State} (h : Rising s.regs) (hr : isSet s R.SYS_CTRL_c1_run = true) (hb : isSet old R.SYS_STAT_c1_busy = false) :
    isSet (runTaken old s) R.SYS_CTRL_c1_run = true ∧ isSet (runTaken old s) R.SYS_STAT_c1_busy = true ∧
    (runTaken old s).sys.wdt1From = s.now := by
  unfold runTaken
  rw [if_pos ⟨hr, by simp [hb]⟩]
  refine ⟨?_, isSet_raise h _ (by decide) (by decide), rfl⟩
  rw [← hr]
  exact congrArg (· == 1) (fld_raise_apart h (by decide) (by decide))

theorem runTaken_stops {old : State} (h : Rising s.regs) (hr : isSet s R.SYS_CTRL_c1_run = false) (hb : isSet old R.SYS_STAT_c1_busy = true) :
    isSet (runTaken old s) R.SYS_CTRL_c1_run = false ∧ isSet (runTaken old s) R.SYS_STAT_c1_busy = false ∧
    (runTaken old s).sys.reserve1 = none := by
  unfold runTaken
  rw [if_neg (by simp [hr]), if_pos ⟨by simp [hr], hb⟩]
  obtain ⟨h1, h2⟩ := core1Hold_stopped h
  exact ⟨h1, h2, rfl⟩

/-- Core 1's start or stop leaves the run bit that says so. -/
theorem isSet_runTaken (old : State) (h : Rising s.regs) : isSet (runTaken old s) R.SYS_CTRL_c1_run = isSet s R.SYS_CTRL_c1_run := by
  unfold runTaken
  split
  · exact congrArg (· == 1) (fld_raise_apart h (by decide) (by decide))
  · split
    · rename_i hr
      rw [(core1Hold_stopped h).1]
      exact (eq_false_of_ne_true hr.1).symm
    · rfl

theorem fld_runTaken (old : State) (h : Rising s.regs) {f : Field} (hr : R.SYS_CTRL_c1_run.apart f = true)
    (hb : R.SYS_STAT_c1_busy.apart f = true) : fld (runTaken old s) f = fld s f := by
  unfold runTaken
  split
  · rw [fld_setSys]
    exact fld_raise_apart h (by decide) hb
  · split
    · rw [core1Hold, fld_setSys]
      exact (fld_lower_apart (rising_lower h) (by decide) hb).trans (fld_lower_apart h (by decide) hr)
    · rfl

/-- Core 1's start or stop stays within SYS. -/
theorem runTaken_keeps (old s : State) : Keeps (2 ^ 2 + 2 ^ 8 + 2 ^ 40) s (runTaken old s) := by
  have hm := Sub.refl (2 ^ 2 + 2 ^ 8 + 2 ^ 40)
  unfold runTaken
  split
  · exact Keeps.set_sys (hm.mono rfl) (raise_keeps (hm.mono rfl) (Keeps.refl s))
  · split
    · exact core1Hold_keeps (hm.mono rfl) (Keeps.refl s)
    · exact Keeps.refl s

theorem canon_runTaken (c : Canon s) (old : State) : Canon (runTaken old s) := (runTaken_keeps old s).canon c

theorem canon_setFld (c : Canon s) (f : Field) (v : Nat) : Canon (setFld s f v) := (setFld_keeps (Sub.refl _) (Keeps.refl s)).canon c

theorem cfgErrSet_cfgErr (h : Rising s.regs) (i : Nat) : cfgErrSet (cfgErr s i) i :=
  ⟨isSet_cfgErr h i, isSet_raise (rising_raise h) (cfgFlag i) (by simp [cfgFlag]) (by simp [cfgFlag])⟩

theorem exec_powerModeWrite (h : Lets s o A.SYS_PWR) (mode : BitVec 3) : exec (.powerModeWrite o mode) s = .next (setResult o .done
    (sysWritten o A.SYS_PWR (mode.setWidth 32) s
      (if (mode.toNat < 3 && (mode.toNat != 2 || mayHibernate s)) = true then setFld s R.SYS_PWR_mode mode.toNat else cfgErr s 0))) := by
  have hb : bits (mode.setWidth 32).toNat 0 3 = mode.toNat := by
    have := mode.isLt
    simp only [bits, BitVec.toNat_setWidth]
    omega
  change Host.Outcome.next (coreWrite sysWritten o A.SYS_PWR (mode.setWidth 32) s) = _
  rw [coreWrite_lets sysWritten h, writeFields_sysPwr, hb]

/-- Only a mode 2 that was not in force starts an entry. -/
theorem sysWritten_sysPwr (o : Origin) (w : Word) (old s : State) (h : fld s R.SYS_PWR_mode ≠ 2 ∨ fld old R.SYS_PWR_mode = 2) :
    sysWritten o A.SYS_PWR w old s = s := by
  unfold sysWritten
  rw [if_neg (by decide), if_neg (by decide), if_pos rfl]
  split
  · rename_i k
    rw [if_pos (h.resolve_left fun hn => hn k.1)]
  · rfl

theorem sysWritten_hibernate (o : Origin) (w : Word) {old s : State} (hm : fld s R.SYS_PWR_mode = 2) (he : s.pwr.entering = none)
    (ha : s.pwr.asleep = false) (ho : fld old R.SYS_PWR_mode ≠ 2) : sysWritten o A.SYS_PWR w old s = hibernateEnter s := by
  unfold sysWritten
  rw [if_neg (by decide), if_neg (by decide), if_pos rfl, if_pos ⟨hm, he, by simp [ha]⟩, if_neg ho]

theorem isSet_spillStart (h : Rising s.regs) : isSet (spillStart s) R.EVR_STAT_spill_busy = true :=
  isSet_raise (s := { s with evr := { s.evr with spill := some (spillImage s) } }) h _ (by decide) (by decide)

theorem spillStart_pwr (s : State) : (spillStart s).pwr = s.pwr := rfl

theorem fld_spillStart (h : Rising s.regs) {f : Field} (hf : R.EVR_STAT_spill_busy.apart f = true) : fld (spillStart s) f = fld s f :=
  fld_raise_apart (s := { s with evr := { s.evr with spill := some (spillImage s) } }) h (by decide) hf

/-- The boot address and the run bit decide what a write of run leaves. -/
theorem writeFields_run (s : State) (o : Origin) (run : Bool) : writeFields o A.SYS_CTRL (wordWith s R.SYS_CTRL_c1_run (b2n run)) s =
    if run = true ∧ isSet s R.SYS_CTRL_c1_run = false ∧ c1BootOk s = false then cfgErr s 0 else setFld s R.SYS_CTRL_c1_run (b2n run) := by
  have hw : bits (wordWith s R.SYS_CTRL_c1_run (b2n run)).toNat 0 1 = b2n run := by
    refine (bits_wordWith_self R.SYS_CTRL_c1_run (b2n run) (by decide)).trans ?_
    cases run <;> rfl
  rw [writeFields_sysCtrl, hw]
  cases run
  · simp [b2n]
  · cases isSet s R.SYS_CTRL_c1_run <;> cases c1BootOk s <;> simp [b2n]

end

@[simp] theorem setResult_wdt1From (s : State) (o : Origin) (x : BusResult) : (setResult o x s).sys.wdt1From = s.sys.wdt1From := by
  unfold setResult
  split <;> rfl

@[simp] theorem setResult_pwr (s : State) (o : Origin) (x : BusResult) : (setResult o x s).pwr = s.pwr :=
  setResult_same s o x (p := .pwr) (by decide)

theorem cfgErrSet_iff {s t : State} {i : Nat} (h1 : fld t (cfgStat i) = fld s (cfgStat i)) (h2 : fld t (cfgFlag i) = fld s (cfgFlag i)) :
    cfgErrSet t i ↔ cfgErrSet s i := by
  unfold cfgErrSet isSet
  rw [h1, h2]

/-- Settles O17: each write is its field's write, and then what the block starts on it. -/
theorem platformControlWrites : Obligations.PlatformControlWrites := by
  intro s o hs
  have hr := hs.regs.1
  refine ⟨fun hl => ⟨fun hb hok => ?start, fun hn hbad => ?badAddress, fun hb => ?stop, ?sealed⟩,
    fun hl mode => ⟨fun hm => ?mode, fun hm => ?refused, fun hok hm he ha => ?hibernate⟩⟩
  case start =>
    rw [exec_core1RunWrite hs hl, ctrlTaken, writeFields_run, if_neg (fun h => by rcases hok with hok | hok <;> simp_all)]
    obtain ⟨h1, h2, h3⟩ := runTaken_starts (rising_setFld hr R.SYS_CTRL_c1_run 1)
      (congrArg (· == 1) (fld_setFld_self hr R.SYS_CTRL_c1_run 1 (by decide))) hb
    refine ⟨(setResult_isSet _ _ _ _).trans h1, (setResult_isSet _ _ _ _).trans h2, ?_⟩
    rw [setResult_wdt1From]
    exact h3
  case badAddress =>
    rw [exec_core1RunWrite hs hl, ctrlTaken, writeFields_run, if_pos ⟨rfl, hn, hbad⟩]
    have h1 := rising_cfgErr hr 0
    refine ⟨?_, ?_⟩
    · rw [setResult_isSet, isSet_runTaken _ h1]
      exact (congrArg (· == 1) (fld_cfgErr hr (by decide) (by decide))).trans hn
    · rw [cfgErrSet_iff (s := cfgErr s 0) ((setResult_fld _ _ _ _).trans (fld_runTaken _ h1 (by decide) (by decide)))
        ((setResult_fld _ _ _ _).trans (fld_runTaken _ h1 (by decide) (by decide)))]
      exact cfgErrSet_cfgErr hr 0
  case stop =>
    rw [exec_core1RunWrite hs hl, ctrlTaken, writeFields_run, if_neg (by simp)]
    obtain ⟨h1, h2, h3⟩ := runTaken_stops (rising_setFld hr R.SYS_CTRL_c1_run 0)
      (congrArg (· == 1) (fld_setFld_self hr R.SYS_CTRL_c1_run 0 (by decide))) hb
    refine ⟨(setResult_isSet _ _ _ _).trans h1, (setResult_isSet _ _ _ _).trans h2, ?_⟩
    rw [(setResult_reserve _ _ _).2]
    exact h3
  case sealed =>
    have hc := canon_runTaken (canon_setFld hs R.SYS_CTRL_c1_run (fld s R.SYS_CTRL_c1_run)) s
    rw [exec_seal hs hl]
    refine ⟨?_, ?_⟩
    · unfold sealed
      rw [setResult_isSet]
      exact isSet_raise hc.regs.1 _ (by decide) (by decide)
    · rw [setResult_isSet, ← isSet_setFld_fld hr, ← isSet_runTaken s (rising_setFld hr _ _)]
      exact congrArg (· == 1) (fld_raise_apart hc.regs.1 (by decide) (by decide))
  case mode =>
    have hlt : (mode.toNat < 3 && (mode.toNat != 2 || mayHibernate s)) = true := by
      have : mode.toNat ≠ 2 := by omega
      simp [this]; omega
    have hf : fld (setFld s R.SYS_PWR_mode mode.toNat) R.SYS_PWR_mode = mode.toNat := by
      rw [fld_setFld_self hr R.SYS_PWR_mode _ (by decide)]
      exact Nat.mod_eq_of_lt mode.isLt
    rw [exec_powerModeWrite hl, if_pos hlt, sysWritten_sysPwr _ _ _ _ (.inl (by omega))]
    exact ⟨(setResult_fld _ _ _ _).trans hf, by simp⟩
  case refused =>
    have hno : (mode.toNat < 3 && (mode.toNat != 2 || mayHibernate s)) = false := by
      rcases hm with hm | ⟨rfl, hm⟩
      · simp; omega
      · simp [hm]
    have hf : fld (cfgErr s 0) R.SYS_PWR_mode = fld s R.SYS_PWR_mode := fld_cfgErr hr (by decide) (by decide)
    rw [exec_powerModeWrite hl, if_neg (by simp [hno]), sysWritten_sysPwr _ _ _ _ (by rw [hf]; exact ne_or_eq _ _)]
    exact ⟨(cfgErrSet_iff (setResult_fld _ _ _ _) (setResult_fld _ _ _ _)).2 (cfgErrSet_cfgErr hr 0),
      fun _ => ⟨(setResult_fld _ _ _ _).trans hf, by simp⟩⟩
  case hibernate =>
    have hf : fld (setFld s R.SYS_PWR_mode 2) R.SYS_PWR_mode = 2 := fld_setFld_self hr R.SYS_PWR_mode 2 (by decide)
    have h1 : Rising (setFld s R.SYS_PWR_mode 2).regs := rising_setFld hr _ _
    have hrow : exec (.hibernateEnter o) s = exec (.powerModeWrite o 2) s := rfl
    rw [hrow, exec_powerModeWrite hl, if_pos (by simp [hok]), show (2 : BitVec 3).toNat = 2 from rfl,
      sysWritten_hibernate _ _ hf (by simpa using he) (by simpa using ha) hm]
    refine ⟨?_, ?_, ?_⟩
    · rw [setResult_fld]
      exact (fld_spillStart h1 (by decide)).trans hf
    · rw [setResult_pwr]
      simp [hibernateEnter, spillStart]
    · rw [setResult_isSet]
      exact isSet_spillStart h1

/-- The hypotheses of O17 can be met: core 0 seals the plane at reset, and mode 5 is refused it. -/
theorem platformControlWrites_witness (m : Bool) :
    (Goes (exec (.seal ⟨.core0, m⟩) State.reset) fun t => sealed t = true) ∧
    Goes (exec (.powerModeWrite ⟨.core0, m⟩ 5) State.reset) fun t => cfgErrSet t 0 :=
  have h := platformControlWrites State.reset ⟨.core0, m⟩ resetIsCanonical
  ⟨((h.1 (lets_core0 rfl (by decide) (by decide))).2.2.2).1, ((h.2 (lets_core0 rfl (by decide) (by decide)) 5).2.1 (.inl (by decide))).1⟩

end Sys2Proof.Machine

/-! ## Resets (chapter 02, R46; chapter 25, R612, R613) -/

namespace Sys2Proof.Machine

open Sys2Proof

/-! ### Maps cut down to some of their keys -/

theorem rising_filter {α : Type} {m : List (Nat × α)} (h : Rising m) (q : Nat × α → Bool) : Rising (m.filter q) :=
  h.sublist List.filter_sublist

theorem slook_filter {α : Type} {m : List (Nat × α)} (h : Rising m) (q : Nat → Bool) (k : Nat) :
    slook (m.filter fun p => q p.1) k = if q k = true then slook m k else none := by
  induction m with
  | nil => simp [slook]
  | cons p m ih =>
    obtain ⟨hp, hm⟩ := List.pairwise_cons.1 h
    obtain ⟨j, v⟩ := p
    have above : k ≤ j → slook (m.filter fun p => q p.1) k = none := fun hk =>
      slook_eq_none_of_lt fun x hx => Nat.lt_of_le_of_lt hk (hp x (List.mem_of_mem_filter hx))
    rw [List.filter_cons]
    rcases Nat.lt_trichotomy k j with hk | rfl | hk
    · have hne : k ≠ j := Nat.ne_of_lt hk
      cases q j <;> simp [slook, hne, hk, above (Nat.le_of_lt hk)]
    · cases q k <;> simp [slook, above (Nat.le_refl _)]
    · have hne : k ≠ j := Nat.ne_of_gt hk
      have hle : ¬ k < j := Nat.not_lt_of_gt hk
      cases q j <;> simp [slook, hne, hle, ih hm]

theorem sget_filter {α : Type} (d : Nat → α) {m : List (Nat × α)} (h : Rising m) (q : Nat → Bool) (k : Nat) :
    sget d (m.filter fun p => q p.1) k = if q k = true then sget d m k else d k := by
  unfold sget
  rw [slook_filter h]
  cases q k <;> rfl

/-! ### The state a reset builds -/

section
variable {s t : State} {c : Nat}

/-- The parts that hold working state only: a reset starts them anew. -/
def Part.working : Part → Bool
  | .free | .out | .regs | .shadows | .mem | .bulk | .od | .odHeld | .tkn | .bkd | .ioc | .pwr | .nv => false
  | _ => true

/-- What a reset of cause `c` keeps of `s`, before any register is written. -/
def resetCore (c : Nat) (s : State) : State :=
  { now := s.now, free := s.free, pending := s.pending, out := s.out, bulk := s.bulk, nv := s.nv,
    regs := s.regs.filter (fun p => backupRegister p.1), shadows := s.shadows.filter (fun p => backupRegister (p.1 / 32)),
    mem := if c ≤ 1 then s.mem.filter (fun p => inCell p.1) else s.mem,
    od := s.od.filter (fun p => odKept p.1), odHeld := s.odHeld.filter (fun p => odWaits p.1),
    bkd := { s.bkd with carry := [], hold0 := (0, 0), hold1 := (0, 0), optLo := none, checkAt := none },
    pwr := { vin := s.pwr.vin, warning := s.pwr.warning, vref := s.pwr.vref },
    tkn := { ilkIn := s.tkn.ilkIn, inSince := s.tkn.inSince } }

/-- The word a reset of cause `c` leaves in SYS_RSTCAUSE. -/
def resetCause (c : Nat) (s : State) : Nat := if c ≤ 1 then 2 ^ c else fld s ⟨A.SYS_RSTCAUSE, 0, 5⟩ ||| 2 ^ c

/-- The registers that a reset writes, but for the pads. -/
def resetRegs (c : Nat) (s : State) : State :=
  setReg (setBool (lower (resetCore c s) R.BKD_STAT_sync) R.TKN_STAT_ilk_in s.tkn.ilkIn) A.SYS_RSTCAUSE (BitVec.ofNat 32 (resetCause c s))

/-- The state as a reset of cause `c` finds it: warm resets wait for the commits in progress (R609). -/
def resetFrom (c : Nat) (s : State) : State := if c ≤ 1 then s else commitsFinish s

theorem moduleReset_eq (c : Nat) (s : State) : moduleReset c s = padsKeep (resetFrom c s) (resetRegs c (resetFrom c s)) := rfl

/-- What a reset of cause `c` leaves of the state `s`. -/
structure ResetTo (s : State) (c : Nat) (t : State) : Prop where
  cause : fld t ⟨A.SYS_RSTCAUSE, 0, 5⟩ = resetCause c s
  regs : ∀ a, blockIndex a ∉ [1, 3, 13, 16] → a ≠ A.SYS_RSTCAUSE → reg t a = resetWord a
  backup : ∀ a, blockIndex a ∈ [1, 3] → a ≠ A.BKD_STAT → reg t a = if backupRegister a then reg s a else resetWord a
  shadows : ∀ p ∈ t.shadows, blockIndex (p.1 / 32) ∈ [1, 3]
  working : ∀ p : Part, p.working = true → p.same State.reset t
  pwr : t.pwr.booted = false ∧ t.pwr.started = false
  mem : if c ≤ 1 then ∀ a, memByte t a = if inCell a then memByte s a else 0 else t.mem = s.mem
  stores : t.nv = s.nv ∧ t.bulk = s.bulk

theorem blockIndex_of_backupRegister {a : Nat} (h : backupRegister a = true) : blockIndex a ∈ [1, 3] := by
  simp only [backupRegister, Bool.or_eq_true, beq_iff_eq] at h
  obtain (((h | rfl) | rfl) | rfl) | rfl := h
  · simp [h]
  all_goals decide

theorem canon_resetRegs (h : Canon s) (c : Nat) : Canon (resetRegs c s) := by
  have hm := Sub.refl (2 ^ 100 - 1)
  have hmem : (resetCore c s).mem.Sublist s.mem := by
    unfold resetCore
    dsimp only
    split
    · exact List.filter_sublist
    · exact List.Sublist.refl _
  have hcore : Canon (resetCore c s) :=
    ⟨Keeps.canonical_sublist List.filter_sublist h.regs, h.shadows.sublist List.filter_sublist, Keeps.canonical_sublist hmem h.mem, h.bulk,
      Keeps.canonical_sublist List.filter_sublist h.od, h.held.sublist List.filter_sublist⟩
  exact (setReg_keeps (hm.mono rfl) (setBool_keeps (hm.mono rfl) (lower_keeps (hm.mono rfl) (Keeps.refl _)))).canon hcore

theorem reg_resetCore (h : Rising s.regs) (c a : Nat) : reg (resetCore c s) a = if backupRegister a then reg s a else resetWord a :=
  sget_filter resetWord h backupRegister a

/-- Apart from three registers, a reset's registers are those of the backup domain. -/
theorem reg_resetRegs (h : Rising s.regs) (c : Nat) {a : Nat} (h1 : a ≠ A.SYS_RSTCAUSE) (h2 : a ≠ A.TKN_STAT) (h3 : a ≠ A.BKD_STAT) :
    reg (resetRegs c s) a = if backupRegister a then reg s a else resetWord a := by
  have hr : Rising (resetCore c s).regs := rising_filter h _
  rw [← reg_resetCore h c a]
  unfold resetRegs
  rw [reg_setReg_other (rising_setBool (rising_lower hr) _) _ h1]
  exact (reg_setFld_other (rising_lower hr) R.TKN_STAT_ilk_in _ h2).trans (reg_setFld_other hr R.BKD_STAT_sync 0 h3)

theorem resetCause_lt (hc : c < 5) (s : State) : resetCause c s < 2 ^ 5 := by
  have hp : 2 ^ c < 2 ^ 5 := Nat.pow_lt_pow_right (by decide) hc
  unfold resetCause
  split
  · exact hp
  · exact Nat.or_lt_two_pow (fld_lt s ⟨A.SYS_RSTCAUSE, 0, 5⟩) hp

theorem fld_resetRegs_cause (h : Rising s.regs) (hc : c < 5) : fld (resetRegs c s) ⟨A.SYS_RSTCAUSE, 0, 5⟩ = resetCause c s := by
  have hr : Rising (resetCore c s).regs := rising_filter h _
  have hlt := resetCause_lt hc s
  unfold fld resetRegs
  rw [reg_setReg_self (rising_setBool (rising_lower hr) _)]
  simp only [bits, BitVec.toNat_ofNat]
  omega

theorem pads_block {a : Nat} (h : blockIndex a ≠ 16) : (2 ^ 2 + 2 ^ 24 + 2 ^ 56).testBit (40 + blockIndex a) = false := by
  have key : ∀ i < 32, i ≠ 16 → (2 ^ 2 + 2 ^ 24 + 2 ^ 56).testBit (40 + i) = false := by decide
  exact key _ (Nat.mod_lt _ (by decide)) h

/-- The commits in progress show in the meter's and the recorder's registers. -/
theorem commits_block {a : Nat} (h : blockIndex a ∈ [1, 3]) : Nat.testBit 5066558172824596 (40 + blockIndex a) = false := by
  have key : ∀ i ∈ [1, 3], Nat.testBit 5066558172824596 (40 + i) = false := by decide
  exact key _ h

/-- What a reset builds before the pads show again. -/
theorem resetTo_resetRegs (h : Canon s) (hc : c < 5) : ResetTo s c (resetRegs c s) where
  cause := fld_resetRegs_cause h.regs.1 hc
  regs a ha hn := by
    have hb : backupRegister a ≠ true := fun hb => ha (by have := blockIndex_of_backupRegister hb; simp_all)
    rw [reg_resetRegs h.regs.1 c hn (by rintro rfl; exact ha (by decide)) (by rintro rfl; exact ha (by decide)), if_neg hb]
  backup a ha hn :=
    reg_resetRegs h.regs.1 c (by rintro rfl; exact absurd ha (by decide)) (by rintro rfl; exact absurd ha (by decide)) hn
  shadows p hp := blockIndex_of_backupRegister (List.mem_filter.1 hp).2
  working p hp := by cases p <;> first | rfl | cases hp
  pwr := ⟨rfl, rfl⟩
  mem := by
    split
    · rename_i h1
      intro a
      have hm : (resetRegs c s).mem = s.mem.filter (fun p => inCell p.1) := if_pos h1
      unfold memByte
      rw [hm, sget_filter memDefault h.mem.1 inCell a]
      rfl
    · rename_i h1
      exact if_neg h1
  stores := ⟨rfl, rfl⟩

/-- The pads and the supply's measurement change nothing that a reset leaves. -/
theorem ResetTo.of_keeps {u : State} (h : ResetTo s c t) (ct : Canon t) (k : Keeps (2 ^ 2 + 2 ^ 24 + 2 ^ 56) t u) : ResetTo s c u where
  cause := (k.fld_eq ct (by decide)).trans h.cause
  regs a ha hn := (k.reg_eq ct (pads_block (by simp_all))).trans (h.regs a ha hn)
  backup a ha hn := (k.reg_eq ct (pads_block (by rintro e; rw [e] at ha; exact absurd ha (by decide)))).trans (h.backup a ha hn)
  shadows := by
    rw [k.parts .shadows (by decide)]
    exact h.shadows
  working p hp := by
    have hk := k.parts p (by cases p <;> first | rfl | cases hp)
    have := h.working p hp
    cases p <;> exact Eq.trans hk this
  pwr := by
    rw [k.parts .pwr (by decide)]
    exact h.pwr
  mem := by
    have hm : u.mem = t.mem := k.parts .mem (by decide)
    simp only [memByte_of_mem hm, hm]
    exact h.mem
  stores := by
    rw [k.parts .nv (by decide), k.parts .bulk (by decide)]
    exact h.stores

/-- The power state of a module that has not booted changes nothing else that a reset leaves. -/
theorem ResetTo.setPwr (h : ResetTo s c t) {x : PwrState} (hx : x.booted = false ∧ x.started = false) : ResetTo s c (setPwr x t) where
  cause := h.cause
  regs := h.regs
  backup := h.backup
  shadows := h.shadows
  working p hp := by
    have := h.working p hp
    cases p <;> first | exact this | cases hp
  pwr := hx
  mem := h.mem
  stores := h.stores

/-- `u` is `s` as a reset of cause `c` finds it: what the reset keeps is the same, but for the commits in progress. -/
structure ResetSource (s : State) (c : Nat) (u : State) : Prop where
  cause : resetCause c u = resetCause c s
  backup : ∀ a, blockIndex a ∈ [1, 3] → reg u a = reg s a
  mem : c ≤ 1 ∨ s.evr.spill = none → u.mem = s.mem
  stores : c ≤ 1 ∨ s.mtr.saving = none → u.nv = s.nv ∧ u.bulk = s.bulk

theorem spillFinish_of_none (h : s.evr.spill = none) : spillFinish s = s := by
  unfold spillFinish
  rw [h]

theorem saveDone_of_none (h : s.mtr.saving = none) : saveDone s = s := by
  unfold saveDone
  rw [h]

theorem canon_commitsFinish (h : Canon s) : Canon (commitsFinish s) := (commitsFinish_keeps (Sub.refl _) (Keeps.refl s)).canon h

theorem canon_resetFrom (h : Canon s) (c : Nat) : Canon (resetFrom c s) := by
  unfold resetFrom
  split
  · exact h
  · exact canon_commitsFinish h

/-- The commits in progress reach the memory and the meter's images only (R609). -/
theorem resetSource_commitsFinish (h : Canon s) (hc : ¬ c ≤ 1) : ResetSource s c (commitsFinish s) := by
  have k := commitsFinish_keeps (Sub.refl _) (Keeps.refl s)
  have k1 := spillFinish_keeps (Sub.refl _) (Keeps.refl s)
  have k2 := saveDone_keeps (Sub.refl _) (Keeps.refl (spillFinish s))
  refine ⟨?_, fun a ha => k.reg_eq h (commits_block ha), fun hm => ?_, fun hs => ⟨?_, k.parts .bulk (by decide)⟩⟩
  · unfold resetCause
    rw [k.fld_eq h (by decide)]
  · have e : (commitsFinish s).mem = (spillFinish s).mem := k2.parts .mem (by decide)
    rw [e, spillFinish_of_none (hm.resolve_left hc)]
  · have e : (spillFinish s).mtr = s.mtr := k1.parts .mtr (by decide)
    have e2 : (spillFinish s).nv = s.nv := k1.parts .nv (by decide)
    unfold commitsFinish
    rw [saveDone_of_none (by rw [e]; exact hs.resolve_left hc), e2]

theorem resetSource_resetFrom (h : Canon s) (c : Nat) : ResetSource s c (resetFrom c s) := by
  unfold resetFrom
  split
  · exact ⟨rfl, fun _ _ => rfl, fun _ => rfl, fun _ => ⟨rfl, rfl⟩⟩
  · rename_i hc
    exact resetSource_commitsFinish h hc

/-- What every module reset leaves. -/
theorem resetTo_moduleReset (h : Canon s) (hc : c < 5) : ResetTo (resetFrom c s) c (moduleReset c s) := by
  have hu := canon_resetFrom h c
  rw [moduleReset_eq]
  exact (resetTo_resetRegs hu hc).of_keeps (canon_resetRegs hu c) (padsKeep_keeps (Sub.refl _) (Keeps.refl _))

theorem canon_moduleReset (h : Canon s) (c : Nat) : Canon (moduleReset c s) := (moduleReset_keeps (Sub.refl _) (Keeps.refl s)).canon h

/-- A write of SYS_CTRL that resets has left core 1's run bit to SYS before the reset takes hold. -/
theorem resetSource_sysrst (h : Canon s) (c v : Nat) :
    Canon (runTaken s (setFld s R.SYS_CTRL_c1_run v)) ∧
    ResetSource s c (resetFrom c (runTaken s (setFld s R.SYS_CTRL_c1_run v))) := by
  have h1 := canon_setFld h R.SYS_CTRL_c1_run v
  have h2 := canon_runTaken h1 s
  have k := runTaken_keeps s (setFld s R.SYS_CTRL_c1_run v)
  have src := resetSource_resetFrom h2 c
  refine ⟨h2, src.cause.trans ?_, fun a ha => (src.backup a ha).trans ?_, fun hm => (src.mem ?_).trans (k.parts .mem (by decide)),
    fun hs => ?_⟩
  · unfold resetCause
    rw [fld_runTaken s h1.regs.1 (by decide) (by decide), fld_setFld_apart h.regs.1 v (by decide) (by decide)]
  · have hb : blockIndex a ≠ 0 := fun e => by simp [e] at ha
    have key : ∀ i ∈ [1, 3], (2 ^ 2 + 2 ^ 8 + 2 ^ 40).testBit (40 + i) = false := by decide
    exact (k.reg_eq h1 (key _ ha)).trans (reg_setFld_other h.regs.1 _ v (fun e => hb (by rw [e]; decide)))
  · have e : (runTaken s (setFld s R.SYS_CTRL_c1_run v)).evr = s.evr := k.parts .evr (by decide)
    rwa [e]
  · have e : (runTaken s (setFld s R.SYS_CTRL_c1_run v)).mtr = s.mtr := k.parts .mtr (by decide)
    have st := src.stores (by rwa [e])
    exact ⟨st.1.trans (k.parts .nv (by decide)), st.2.trans (k.parts .bulk (by decide))⟩

/-- A state without SYS's working state is found again below the result on the bus. -/
theorem setResult_sys_reset (h : s.sys = {}) (o : Origin) (x : BusResult) : { setResult o x s with sys := {} } = s := by
  rw [← h]
  unfold setResult
  split <;> rfl

theorem exec_wdt0Expiry (hb : s.pwr.booted = true) (hv : s.pwr.vin = true) (ht : s.sys.wdt0From + 25000000 ≤ s.now) :
    exec .wdt0Expiry s = .next (moduleReset 2 s) := by
  change Host.Outcome.next (wdt0Expire s) = _
  unfold wdt0Expire
  rw [if_neg (by simp [hb, hv, msTicks]; omega)]

theorem exec_pinReset (hv : s.pwr.vin = true) {ns : Nat} (hn : 1000 ≤ ns) : exec (.pinReset ns) s = .next (moduleReset 4 s) := by
  change Host.Outcome.next (if 1000 ≤ ns ∧ s.pwr.vin = true then moduleReset 4 s else s) = _
  rw [if_pos ⟨hn, hv⟩]

theorem exec_brownOut (hv : s.pwr.vin = true) {mv : Nat} (hm : mv < 4500) : exec (.brownOut mv) s =
    .next (setPwr { (moduleReset 1 s).pwr with vin := false, warning := false, cold := mv == 0 } (moduleReset 1 s)) := by
  change Host.Outcome.next (brownOut mv s) = _
  unfold brownOut
  rw [if_neg (by omega), if_neg (by simp [hv])]

theorem exec_powerOnReset (hv : s.pwr.vin = false) (hk : s.pwr.cold = true) {mv : Nat} (hm : 5200 ≤ mv) :
    exec (.powerOnReset mv) s = .next (setFld
      (setPwr { (moduleReset 0 s).pwr with vin := true, warning := false, cold := false } (moduleReset 0 s)) R.IOC_MON_vin (min mv 65535)) := by
  change Host.Outcome.next (powerOn mv s) = _
  unfold powerOn
  rw [if_neg (by simp [hv]; omega), if_pos hk]

end

/-- Settles O21: every reset is one module reset, of the state with its commits finished, and then the supply's own state. -/
theorem resetsKeepTheBackupDomain : Obligations.ResetsKeepTheBackupDomain := by
  intro s hs after
  have leaves : ∀ (c : Nat) (u t : State), ResetSource s c u → ResetTo u c t → after c t := by
    intro c u t src h
    have w : ∀ p : Part, p.working = true → p.same State.reset t := h.working
    have hmem : if c ≤ 1 then ∀ a, memByte t a = if inCell a then memByte s a else 0 else s.evr.spill = none → t.mem = s.mem := by
      have hm := h.mem
      split at hm
      · rename_i hc
        rw [if_pos hc]
        simpa only [memByte_of_mem (src.mem (.inl hc))] using hm
      · rename_i hc
        rw [if_neg hc]
        exact fun hn => hm.trans (src.mem (.inr hn))
    exact ⟨h.cause.trans src.cause, h.regs,
      fun a ha hn => by rw [h.backup a ha hn, src.backup a ha], h.shadows,
      w .sys rfl, w .bsc rfl, w .evr rfl, w .ntb rfl, w .pqu rfl, w .vault rfl, w .flt rfl, w .rfe rfl, w .tte rfl, w .lfe rfl,
      w .sdc rfl, w .mtr rfl, w .fb rfl, w .icu rfl, w .nodes rfl, w .zones rfl, w .sched rfl, w .bal rfl, w .bhn rfl, w .dict rfl,
      w .upd rfl, h.pwr.1, h.pwr.2, hmem, fun hn => ⟨h.stores.1.trans (src.stores hn).1, h.stores.2.trans (src.stores hn).2⟩⟩
  have reset : ∀ c < 5, after c (moduleReset c s) := fun c hc =>
    leaves c _ _ (resetSource_resetFrom hs c) (resetTo_moduleReset hs hc)
  refine ⟨fun o hl => ?sysrst, fun hb hv ht => ?watchdog, fun hv ns hn => ?pin, fun hv mv hm => ?brown, fun hv hk mv hm => ?power⟩
  case sysrst =>
    obtain ⟨hw, src⟩ := resetSource_sysrst hs 3 (fld s R.SYS_CTRL_c1_run)
    have h := resetTo_moduleReset hw (c := 3) (by decide)
    have e := setResult_sys_reset (h.working .sys rfl) o .done
    rw [exec_sysrst hs hl]
    refine ⟨?_, ?_⟩
    · rw [e]
    · rw [e]
      exact leaves 3 _ _ src h
  case watchdog =>
    rw [exec_wdt0Expiry hb hv ht]
    exact reset 2 (by decide)
  case pin =>
    rw [exec_pinReset hv hn]
    exact reset 4 (by decide)
  case brown =>
    have h := resetTo_moduleReset hs (c := 1) (by decide)
    rw [exec_brownOut hv hm]
    exact ⟨leaves 1 _ _ (resetSource_resetFrom hs 1) (h.setPwr h.pwr), rfl⟩
  case power =>
    have h := resetTo_moduleReset hs (c := 0) (by decide)
    have hp := h.setPwr (x := { (moduleReset 0 s).pwr with vin := true, warning := false, cold := false }) h.pwr
    have ct : ∀ x, Canon (setPwr x (moduleReset 0 s)) := fun _ =>
      (setPwr_keeps (Sub.refl _) (Keeps.refl _)).canon (canon_moduleReset hs 0)
    have hsub := Sub.refl (2 ^ 2 + 2 ^ 24 + 2 ^ 56)
    rw [exec_powerOnReset hv hk hm]
    exact ⟨leaves 0 _ _ (resetSource_resetFrom hs 0) (hp.of_keeps (ct _) (setFld_keeps (hsub.mono rfl) (Keeps.refl _))),
      by simp⟩

/-- The hypotheses of O21 can be met: a supplied module at reset is reset by its pin. -/
theorem resetsKeepTheBackupDomain_witness :
    Goes (exec (.pinReset 1000) (setPwr { vin := true } State.reset)) fun t =>
      fld t ⟨A.SYS_RSTCAUSE, 0, 5⟩ = fld State.reset ⟨A.SYS_RSTCAUSE, 0, 5⟩ ||| 16 :=
  ((resetsKeepTheBackupDomain (setPwr { vin := true } State.reset)
    ((setPwr_keeps (Sub.refl _) (Keeps.refl _)).canon resetIsCanonical)).2.2.1 rfl 1000 (by decide)).1

end Sys2Proof.Machine

/-! ## Network time (chapter 03) -/

namespace Sys2Proof.Machine

open Sys2Proof

/-! ### A tick (R55) -/

/-- The acts of a tick keep what every operation keeps, from the moment the clock has advanced on. -/
theorem tick_keeps (s : State) : Keeps (2 ^ 100 - 1) { s with now := s.now + 1 } (tick s) :=
  have hm := Sub.refl (2 ^ 100 - 1)
  restartDue_keeps (hm.mono rfl) (activationPlen_keeps (hm.mono rfl) (pausesSettle_keeps (hm.mono rfl)
    (radioTick_keeps (hm.mono rfl) (ntbTick_keeps (hm.mono rfl) (Keeps.refl _)))))

theorem step_idle {s : State} (h : s.pending = []) : step s = .next (tick s) := by
  unfold step
  rw [h]

/-- Settles O4: the clock advances first, and what the tick does after that moves neither the clock nor the queue. -/
theorem idleStepIsOneTick : Obligations.IdleStepIsOneTick := by
  intro s hq
  have k := tick_keeps s
  rw [step_idle hq]
  exact ⟨k.now, k.pending.trans hq, k.out⟩

/-- The hypothesis of O4 can be met: nothing waits at reset. -/
theorem idleStepIsOneTick_witness : Goes (step State.reset) fun t => t.now = 1 :=
  (idleStepIsOneTick State.reset rfl).1

end Sys2Proof.Machine

/-! ## The commands of network time (chapter 03, R57, R60, R62, R63, R67, R78) -/

namespace Sys2Proof.Machine

open Sys2Proof

section
variable {s t : State} {o : Origin}

/-! ### Parts that hold no register -/

theorem fld_of_regs (h : t.regs = s.regs) (f : Field) : fld t f = fld s f := by
  unfold fld reg
  rw [h]

theorem isSet_of_regs (h : t.regs = s.regs) (f : Field) : isSet t f = isSet s f := congrArg (· == 1) (fld_of_regs h f)

theorem isSet_eq_decide (s : State) (f : Field) : isSet s f = decide (fld s f = 1) := rfl

theorem isSet_setFld_self (h : Rising s.regs) (f : Field) (v : Nat) (hf : f.lsb + f.width ≤ 32) :
    isSet (setFld s f v) f = decide (v % 2 ^ f.width = 1) := by
  rw [isSet_eq_decide, fld_setFld_self h f v hf]

theorem isSet_setFld_apart (h : Rising s.regs) {f g : Field} (v : Nat) (hf : f.lsb + f.width ≤ 32) (hg : f.apart g = true) :
    isSet (setFld s f v) g = isSet s g := congrArg (· == 1) (fld_setFld_apart h v hf hg)

theorem isSet_cfgErr_apart (h : Rising s.regs) {i : Nat} {g : Field} (h1 : (cfgStat i).apart g = true)
    (h2 : (cfgFlag i).apart g = true) : isSet (cfgErr s i) g = isSet s g := congrArg (· == 1) (fld_cfgErr h h1 h2)

@[simp] theorem setResult_ntb (s : State) (o : Origin) (x : BusResult) : (setResult o x s).ntb = s.ntb :=
  setResult_same s o x (p := .ntb) (by decide)

@[simp] theorem setResult_busy (s : State) (o : Origin) (x : BusResult) (i : Nat) : busy (setResult o x s) i = busy s i :=
  setResult_isSet s o x _

theorem setResult_cfgErrSet (s : State) (o : Origin) (x : BusResult) (i : Nat) : cfgErrSet (setResult o x s) i ↔ cfgErrSet s i :=
  cfgErrSet_iff (setResult_fld _ _ _ _) (setResult_fld _ _ _ _)

theorem writeFields_ntb (o : Origin) (a : Nat) (w : Word) (s : State) : (writeFields o a w s).ntb = s.ntb :=
  writeFields_same o a w s (p := .ntb) (by decide) (by decide)

/-! ### NTB_CTRL (R62, R63, R67) -/

theorem regAt_ntbCtrl : regAt A.NTB_CTRL =
    some ⟨0x40020000, 0x4, 1, 0x4, 1, [⟨0, 1, .rw, .imm, 0⟩, ⟨4, 1, .cmd, .none, 0⟩, ⟨8, 1, .cmd, .none, 0⟩]⟩ := by decide

/-- The run bit is taken where it is 1, or where the count does not run (R63). -/
theorem admitNtb_run (s : State) (v : Nat) (w : Word) : admitNtb s A.NTB_CTRL 0 v w = .when (v = 1 || !isSet s R.NTB_CTRL_run) v :=
  if_pos ⟨rfl, rfl⟩

theorem writeFields_ntbCtrl (o : Origin) (w : Word) (s : State) : writeFields o A.NTB_CTRL w s =
    if (bits w.toNat 0 1 = 1 || !isSet s R.NTB_CTRL_run) = true then setFld s R.NTB_CTRL_run (bits w.toNat 0 1) else cfgErr s 2 :=
  writeField_when (a := A.NTB_CTRL) (old := s) (o := o) (w := w) (fi := ⟨0, 1, .rw, .imm, 0⟩) rfl rfl (admitNtb_run s _ w) s

/-- What a word written to NTB_CTRL starts: the count, where run rises, and the word's commands fed and invalidate. -/
def ntbCtrlActs (run fed invalidate : Bool) (s : State) : State :=
  let s := if run then blockStart s 2 else s
  let s := if fed then { s with ntb := { s.ntb with fedAt := some s.now } } else s
  if invalidate then setFld s R.NTB_STAT_tstate 1 else s

theorem coreWrite_ntbCtrl (h : Lets s o A.NTB_CTRL) (w : Word) : coreWrite ntbWritten o A.NTB_CTRL w s =
    setResult o .done (ntbCtrlActs (isSet (writeFields o A.NTB_CTRL w s) R.NTB_CTRL_run && !isSet s R.NTB_CTRL_run)
      (bits w.toNat 4 1 == 1) (bits w.toNat 8 1 == 1) (writeFields o A.NTB_CTRL w s)) := by
  rw [coreWrite_lets ntbWritten h w]
  rfl

theorem fldRead_ntbRun (c : Canon s) : fldRead s R.NTB_CTRL_run = fld s R.NTB_CTRL_run :=
  fldRead_plain (a := A.NTB_CTRL) (fi := ⟨0, 1, .rw, .imm, 0⟩) c (by decide) (by decide) (by simp)

/-- A write of the run bit alone writes no command bit. -/
theorem bits_ntbRunWord (c : Canon s) (run : Bool) : bits (wordWith s R.NTB_CTRL_run (b2n run)).toNat 0 1 = b2n run ∧
    bits (wordWith s R.NTB_CTRL_run (b2n run)).toNat 4 1 = 0 ∧ bits (wordWith s R.NTB_CTRL_run (b2n run)).toNat 8 1 = 0 := by
  refine ⟨(bits_wordWith_self R.NTB_CTRL_run (b2n run) (by decide)).trans (by cases run <;> rfl), ?_, ?_⟩
  · exact bits_wordWith (f := R.NTB_CTRL_run) c (b2n run) regAt_ntbCtrl (by decide) (fi := ⟨4, 1, .cmd, .none, 0⟩) (by simp) (by decide)
  · exact bits_wordWith (f := R.NTB_CTRL_run) c (b2n run) regAt_ntbCtrl (by decide) (fi := ⟨8, 1, .cmd, .none, 0⟩) (by simp) (by decide)

/-- What NTB_CTRL as it reads says, with further bits: the run bit, and those bits. -/
theorem bits_ntbCtrlOr (c : Canon s) (k : Word) :
    bits (rwWord s A.NTB_CTRL ||| k).toNat 0 1 = fld s R.NTB_CTRL_run ||| bits k.toNat 0 1 ∧
    bits (rwWord s A.NTB_CTRL ||| k).toNat 4 1 = bits k.toNat 4 1 ∧ bits (rwWord s A.NTB_CTRL ||| k).toNat 8 1 = bits k.toNat 8 1 := by
  refine ⟨?_, ?_, ?_⟩
  · rw [← fldRead_ntbRun c]
    exact bits_rwOr c regAt_ntbCtrl k (fi := ⟨0, 1, .rw, .imm, 0⟩) (by simp)
  · simpa using bits_rwOr c regAt_ntbCtrl k (fi := ⟨4, 1, .cmd, .none, 0⟩) (by simp)
  · simpa using bits_rwOr c regAt_ntbCtrl k (fi := ⟨8, 1, .cmd, .none, 0⟩) (by simp)

/-- A command bit written leaves the run bit as it stands. -/
theorem writeFields_ntbCommand (c : Canon s) {k : Word} (hk : bits k.toNat 0 1 = 0) (o : Origin) :
    writeFields o A.NTB_CTRL (rwWord s A.NTB_CTRL ||| k) s = setFld s R.NTB_CTRL_run (fld s R.NTB_CTRL_run) := by
  have h0 := (bits_ntbCtrlOr c k).1
  rw [hk, Nat.or_zero] at h0
  rw [writeFields_ntbCtrl, h0, if_pos]
  by_cases hr : fld s R.NTB_CTRL_run = 1 <;> simp [isSet_eq_decide, hr]

theorem exec_ntbRun (c : Canon s) (h : Lets s o A.NTB_CTRL) (run : Bool) : exec (.ntbRun o run) s = .next (setResult o .done
    (if run = true then ntbCtrlActs (!isSet s R.NTB_CTRL_run) false false (setFld s R.NTB_CTRL_run 1)
      else if isSet s R.NTB_CTRL_run = true then cfgErr s 2 else setFld s R.NTB_CTRL_run 0)) := by
  obtain ⟨h0, h4, h8⟩ := bits_ntbRunWord c run
  have hr := c.regs.1
  change Host.Outcome.next (coreWrite ntbWritten o A.NTB_CTRL (wordWith s R.NTB_CTRL_run (b2n run)) s) = _
  rw [coreWrite_ntbCtrl h, h4, h8, writeFields_ntbCtrl, h0]
  cases run
  · cases e : isSet s R.NTB_CTRL_run
    · simp [b2n, ntbCtrlActs, isSet_setFld_self hr R.NTB_CTRL_run 0 (by decide)]
    · simp [b2n, ntbCtrlActs]
  · have hset : isSet (setFld s R.NTB_CTRL_run 1) R.NTB_CTRL_run = true := isSet_raise hr _ (by decide) (by decide)
    simp [b2n, hset]

theorem exec_ntbCommand (c : Canon s) (h : Lets s o A.NTB_CTRL) {k : Word} (hk : bits k.toNat 0 1 = 0) :
    coreWrite ntbWritten o A.NTB_CTRL (rwWord s A.NTB_CTRL ||| k) s = setResult o .done (ntbCtrlActs false (bits k.toNat 4 1 == 1)
      (bits k.toNat 8 1 == 1) (setFld s R.NTB_CTRL_run (fld s R.NTB_CTRL_run))) := by
  obtain ⟨-, h4, h8⟩ := bits_ntbCtrlOr c k
  have hn : (isSet (setFld s R.NTB_CTRL_run (fld s R.NTB_CTRL_run)) R.NTB_CTRL_run && !isSet s R.NTB_CTRL_run) = false := by
    rw [isSet_setFld_self c.regs.1 _ _ (by decide), Nat.mod_eq_of_lt (fld_lt s R.NTB_CTRL_run), ← isSet_eq_decide]
    exact Bool.and_not_self _
  rw [coreWrite_ntbCtrl h, h4, h8, writeFields_ntbCommand c hk, hn]

/-! ### Reading the time, setting and stepping it (R57, R60) -/

/-- The word that a read of NTB_TIME_NS answers, and the time held for the reading core. -/
theorem exec_timeRead (h : LetsRead s o A.NTB_TIME_NS) : exec (.timeRead o) s = .next (setResult o (.value (BitVec.ofNat 32 s.ntb.ns))
    (match o.core with
      | .core0 => { s with ntb := { s.ntb with hold0 := ⟨s.ntb.sec, s.ntb.frac, s.ntb.path % 2 ^ 48⟩ } }
      | .core1 => { s with ntb := { s.ntb with hold1 := ⟨s.ntb.sec, s.ntb.frac, s.ntb.path % 2 ^ 48⟩ } })) :=
  congrArg _ (coreRead_lets ntbRead [] h)

theorem timeHold_setResult (s : State) (o : Origin) (x : BusResult) (c : CoreId) : timeHold (setResult o x s) c = timeHold s c := by
  unfold timeHold
  rw [setResult_ntb]

/-- NTB_ADJ_GO holds command bits only: its write is the request. -/
theorem coreWrite_adjGo (h : Lets s o A.NTB_ADJ_GO) (w : Word) :
    coreWrite ntbWritten o A.NTB_ADJ_GO w s = setResult o .done (requestAdjust w s) := coreWrite_lets ntbWritten h w

/-- The request that NTB_ADJ holds (R60). -/
def adjAsked (s : State) (step : Bool) : TimeAdj :=
  { step, sec := fld s R.NTB_ADJ_SLO_s + 2 ^ 32 * fld s R.NTB_ADJ_SHI_s, ns := fld s R.NTB_ADJ_NS_ns,
    src := isSet s R.NTB_ADJ_NS_src, due := s.now + 2 }

/-- A word that asks for one of set and step takes the request in hand. -/
theorem requestAdjust_taken {w : Word} {step : Bool} (hw : bit w.toNat 0 = !step ∧ bit w.toNat 1 = step) (ha : s.ntb.adj = none)
    (hn : fld s R.NTB_ADJ_NS_ns < 1000000000) :
    requestAdjust w s = raise { s with ntb := { s.ntb with adj := some (adjAsked s step) } } R.NTB_STAT_adj_busy := by
  have hlt : ¬ 999999999 < fld s R.NTB_ADJ_NS_ns := by omega
  unfold requestAdjust
  cases step <;> simp [hw, ha, hlt, adjAsked]

theorem requestAdjust_refused {w : Word} {step : Bool} (hw : bit w.toNat 0 = !step ∧ bit w.toNat 1 = step)
    (h : s.ntb.adj ≠ none ∨ 1000000000 ≤ fld s R.NTB_ADJ_NS_ns) : requestAdjust w s = cfgErr s 2 := by
  have hc : s.ntb.adj.isSome = true ∨ 999999999 < fld s R.NTB_ADJ_NS_ns := h.imp Option.isSome_iff_ne_none.2 (by omega)
  unfold requestAdjust
  cases step <;> rcases hc with hc | hc <;> simp [hw, hc]

/-! ### A comparator's CFG register (R76, R78) -/

theorem regAt_cmpCfg : ∀ n < 16, regAt (A.CMPn_CFG n) =
    some ⟨0x40020100, 0x20, 16, 0x4, 1, [⟨0, 1, .rw, .imm, 0⟩, ⟨1, 1, .rw, .lock, 0⟩, ⟨4, 3, .rw, .lock, 0⟩]⟩ := by decide

theorem blockIndex_cmpCfg {n : Nat} (hn : n < 16) : blockIndex (A.CMPn_CFG n) = 2 := by
  simp only [A.CMPn_CFG, blockIndex]
  omega

/-- The registers of the comparators and the captures lie above those of the count. -/
theorem cfgErr_apart_unit {f : Field} (h : 0x40020100 ≤ f.addr) : (cfgStat 2).apart f = true ∧ (cfgFlag 2).apart f = true := by
  simp [Field.apart, cfgStat, cfgFlag, blockBase]
  omega

theorem admitNtb_unit {a : Nat} (h : 0x40020100 ≤ a) (s : State) (lsb v : Nat) (w : Word) : admitNtb s a lsb v w = .take v := by
  have hne : ∀ b, b < 0x40020100 → a ≠ b := fun b hb => by omega
  unfold admitNtb
  rw [if_neg (fun k => hne _ (by decide) k.1), if_neg (hne _ (by decide)), if_neg (hne _ (by decide)), if_neg (hne _ (by decide)),
    if_neg (hne _ (by decide)), if_neg (hne _ (by decide))]

/-- The fields of a comparator that stands still are locked by its `en` alone. -/
theorem locked_cmpCfg {n : Nat} (hn : n < 16) (s : State) (lsb : Nat) : locked s (A.CMPn_CFG n) lsb = isSet s (R.CMPn_CFG_en n) := by
  have hi : (A.CMPn_CFG n - A.CMPn_CFG 0) / 0x20 = n := by simp only [A.CMPn_CFG]; omega
  have hlo : A.CMPn_CFG 0 ≤ A.CMPn_CFG n ∧ A.CMPn_CFG n < A.CMPn_CFG 16 := by simp only [A.CMPn_CFG]; omega
  have hsys : ∀ b, b < 0x40020000 → A.CMPn_CFG n ≠ b := fun b hb => by simp only [A.CMPn_CFG]; omega
  unfold locked
  rw [if_neg (not_or.2 ⟨hsys _ (by decide), hsys _ (by decide)⟩), if_neg (hsys _ (by decide)), if_pos hlo, hi]

/-- What a comparator's fields hold after a write of its CFG register: `en` what was written, mode and route that too where the
comparator stands still. -/
theorem fld_cmpCfg {n : Nat} (hn : n < 16) (c : Canon s) (o : Origin) (cfg : Word) :
    fld (writeFields o (A.CMPn_CFG n) cfg s) (R.CMPn_CFG_en n) = bits cfg.toNat 0 1 ∧
    (isSet s (R.CMPn_CFG_en n) = false →
      fld (writeFields o (A.CMPn_CFG n) cfg s) (R.CMPn_CFG_mode n) = bits cfg.toNat 1 1 ∧
      fld (writeFields o (A.CMPn_CFG n) cfg s) (R.CMPn_CFG_route n) = bits cfg.toNat 4 3) := by
  have hr := regAt_cmpCfg n hn
  have hb := blockIndex_cmpCfg hn
  have ha : 0x40020100 ≤ A.CMPn_CFG n := by simp only [A.CMPn_CFG]; omega
  have after : ∀ fi ∈ [(⟨0, 1, .rw, .imm, 0⟩ : FieldInfo), ⟨1, 1, .rw, .lock, 0⟩, ⟨4, 3, .rw, .lock, 0⟩],
      (fi.timing = .imm ∨ isSet s (R.CMPn_CFG_en n) = false) →
      fld (writeFields o (A.CMPn_CFG n) cfg s) (fi.at (A.CMPn_CFG n)) = bits cfg.toNat fi.lsb fi.width := fun fi hf hu => by
    obtain ⟨h1, h2⟩ := cfgErr_apart_unit (f := fi.at (A.CMPn_CFG n)) ha
    have hv : bits cfg.toNat fi.lsb fi.width % 2 ^ fi.width = bits cfg.toNat fi.lsb fi.width := Nat.mod_mod _ _
    rw [fld_writeFields c hr hf (by rwa [hb]) (by rwa [hb])]
    unfold fieldAfter admitField
    rw [hb]
    simp only [admitNtb_unit ha, Admit.take, locked_cmpCfg hn]
    simp only [List.mem_cons, List.not_mem_nil, or_false] at hf
    rcases hf with rfl | rfl | rfl
    · exact hv
    · simpa [hu.resolve_left (by decide)] using hv
    · simpa [hu.resolve_left (by decide)] using hv
  exact ⟨after ⟨0, 1, .rw, .imm, 0⟩ (by simp) (.inl rfl), fun he =>
    ⟨after ⟨1, 1, .rw, .lock, 0⟩ (by simp) (.inr he), after ⟨4, 3, .rw, .lock, 0⟩ (by simp) (.inr he)⟩⟩

/-- A write of a comparator's CFG register leaves the fields of the registers beside it. -/
theorem fld_cmpCfg_other {n : Nat} (hn : n < 16) (c : Canon s) (o : Origin) (cfg : Word) {g : Field} (hg : 0x40020100 ≤ g.addr)
    (ha : g.addr ≠ A.CMPn_CFG n) : fld (writeFields o (A.CMPn_CFG n) cfg s) g = fld s g := by
  obtain ⟨h1, h2⟩ := cfgErr_apart_unit hg
  exact fld_writeFields_other c ha (by rwa [blockIndex_cmpCfg hn]) (by rwa [blockIndex_cmpCfg hn])

/-- A comparator's next instant and its period stand in registers of their own. -/
theorem cmpInstants_of_fld {n : Nat} (h : ∀ g : Field, 0x40020100 ≤ g.addr → g.addr % 0x20 ≠ 0 → fld t g = fld s g) :
    cmpNext t n = cmpNext s n ∧ cmpPeriod t n = cmpPeriod s n := by
  unfold cmpNext cmpPeriod
  rw [h (R.CMPn_NXT_SLO_s n) (by simp [R.CMPn_NXT_SLO_s, A.CMPn_NXT_SLO]; omega) (by simp [R.CMPn_NXT_SLO_s, A.CMPn_NXT_SLO]),
    h (R.CMPn_NXT_SHI_s n) (by simp [R.CMPn_NXT_SHI_s, A.CMPn_NXT_SHI]; omega) (by simp [R.CMPn_NXT_SHI_s, A.CMPn_NXT_SHI]),
    h (R.CMPn_NXT_NS_ns n) (by simp [R.CMPn_NXT_NS_ns, A.CMPn_NXT_NS]; omega) (by simp [R.CMPn_NXT_NS_ns, A.CMPn_NXT_NS]),
    h (R.CMPn_PER_S_s n) (by simp [R.CMPn_PER_S_s, A.CMPn_PER_S]; omega) (by simp [R.CMPn_PER_S_s, A.CMPn_PER_S]),
    h (R.CMPn_PER_NS_ns n) (by simp [R.CMPn_PER_NS_ns, A.CMPn_PER_NS]; omega) (by simp [R.CMPn_PER_NS_ns, A.CMPn_PER_NS])]
  exact ⟨rfl, rfl⟩

/-- What a CFG write does beside its fields: a comparator newly enabled is armed, one switched off drops its waiting firing. -/
theorem ntbWritten_cmpCfg {n : Nat} (hn : n < 16) (o : Origin) (w : Word) (old s : State) : ntbWritten o (A.CMPn_CFG n) w old s =
    if isSet s (R.CMPn_CFG_en n) = true then (if isSet old (R.CMPn_CFG_en n) = true then s else cmpArm n s) else cmpDisarm n s := by
  have hne : ∀ b, b < 0x40020100 → A.CMPn_CFG n ≠ b := fun b hb => by simp only [A.CMPn_CFG]; omega
  have hi : (A.CMPn_CFG n - A.CMPn_CFG 0) / 0x20 = n := by simp only [A.CMPn_CFG]; omega
  have hlo : A.CMPn_CFG 0 ≤ A.CMPn_CFG n ∧ A.CMPn_CFG n < A.CMPn_CFG 16 := by simp only [A.CMPn_CFG]; omega
  unfold ntbWritten
  rw [if_neg (hne _ (by decide)), if_neg (hne _ (by decide)), if_neg (hne _ (by decide)), if_pos hlo]
  simp only [hi, if_true]

/-- A time comparator's instant ahead, at a period the block takes: it is armed as it stands. -/
theorem cmpArm_ahead {n : Nat} (hm : isSet s (R.CMPn_CFG_mode n) = false) (hp : cmpPeriod s n = 0 ∨ 100000 ≤ cmpPeriod s n)
    (ht : netNs s < cmpNext s n) : cmpArm n s = s := by
  have hbad : cmpBad s n = false := by
    unfold cmpBad
    rcases hp with hp | hp <;> simp [hm, hp]
  unfold cmpArm
  simp [hbad, hm, Nat.not_le.2 ht]

/-- A time comparator without a period whose instant has passed is past and off. -/
theorem cmpArm_past {n : Nat} (hm : isSet s (R.CMPn_CFG_mode n) = false) (hp : cmpPeriod s n = 0) (ht : cmpNext s n ≤ netNs s) :
    cmpArm n s = post 0x02 0x05 (leBytes 1 n) (raise (lower s (R.CMPn_CFG_en n)) (R.CMPn_CST_past n)) := by
  have hbad : cmpBad s n = false := by
    unfold cmpBad
    simp [hm, hp]
  unfold cmpArm
  simp [hbad, hm, hp, ht]

theorem exec_comparatorEnable {n : Nat} (h : Lets s o (A.CMPn_CFG n)) (cfg : Word) :
    exec (.comparatorEnable o n cfg) s =
      .next (setResult o .done (ntbWritten o (A.CMPn_CFG n) cfg s (writeFields o (A.CMPn_CFG n) cfg s))) :=
  congrArg _ (coreWrite_lets ntbWritten h cfg)

/-- What a write of a comparator's CFG register leaves of the instants and of the count. -/
theorem cmpCfg_leaves {n : Nat} (hn : n < 16) (c : Canon s) (o : Origin) (cfg : Word) :
    cmpNext (writeFields o (A.CMPn_CFG n) cfg s) n = cmpNext s n ∧ cmpPeriod (writeFields o (A.CMPn_CFG n) cfg s) n = cmpPeriod s n ∧
    netNs (writeFields o (A.CMPn_CFG n) cfg s) = netNs s := by
  have hi := cmpInstants_of_fld (n := n) fun g h1 h2 =>
    fld_cmpCfg_other hn c o cfg (g := g) h1 (fun e => h2 (by rw [e, A.CMPn_CFG]; omega))
  refine ⟨hi.1, hi.2, ?_⟩
  unfold netNs
  rw [writeFields_ntb]

/-- What a word that enables a standing comparator as a time comparator leaves in its CFG register. -/
theorem cmpCfg_on {n : Nat} (hn : n < 16) (c : Canon s) (o : Origin) {cfg : Word} (he : isSet s (R.CMPn_CFG_en n) = false)
    (hc : bits cfg.toNat 0 2 = 1) :
    isSet (writeFields o (A.CMPn_CFG n) cfg s) (R.CMPn_CFG_en n) = true ∧
    isSet (writeFields o (A.CMPn_CFG n) cfg s) (R.CMPn_CFG_mode n) = false ∧
    fld (writeFields o (A.CMPn_CFG n) cfg s) (R.CMPn_CFG_route n) = bits cfg.toNat 4 3 := by
  obtain ⟨hen, hrest⟩ := fld_cmpCfg hn c o cfg
  obtain ⟨hmode, hroute⟩ := hrest he
  rw [isSet_eq_decide, isSet_eq_decide, hen, hmode]
  refine ⟨?_, ?_, hroute⟩ <;> (simp [bits] at *; omega)

theorem comparatorEnable_ahead {n : Nat} (hn : n < 16) (c : Canon s) (hl : Lets s o (A.CMPn_CFG n)) {cfg : Word}
    (he : isSet s (R.CMPn_CFG_en n) = false) (hc : bits cfg.toNat 0 2 = 1) (hp : cmpPeriod s n = 0 ∨ 100000 ≤ cmpPeriod s n)
    (ht : netNs s < cmpNext s n) :
    exec (.comparatorEnable o n cfg) s = .next (setResult o .done (writeFields o (A.CMPn_CFG n) cfg s)) := by
  obtain ⟨hon, htime, -⟩ := cmpCfg_on hn c o he hc
  obtain ⟨hnext, hper, hnet⟩ := cmpCfg_leaves hn c o cfg
  rw [exec_comparatorEnable hl, ntbWritten_cmpCfg hn, if_pos hon, if_neg (by simp [he]),
    cmpArm_ahead htime (by rwa [hper]) (by rwa [hnext, hnet])]

theorem comparatorEnable_past {n : Nat} (hn : n < 16) (c : Canon s) (hl : Lets s o (A.CMPn_CFG n)) {cfg : Word}
    (he : isSet s (R.CMPn_CFG_en n) = false) (hc : bits cfg.toNat 0 2 = 1) (hp : cmpPeriod s n = 0) (ht : cmpNext s n ≤ netNs s) :
    exec (.comparatorEnable o n cfg) s = .next (setResult o .done (post 0x02 0x05 (leBytes 1 n)
      (raise (lower (writeFields o (A.CMPn_CFG n) cfg s) (R.CMPn_CFG_en n)) (R.CMPn_CST_past n)))) := by
  obtain ⟨hon, htime, -⟩ := cmpCfg_on hn c o he hc
  obtain ⟨hnext, hper, hnet⟩ := cmpCfg_leaves hn c o cfg
  rw [exec_comparatorEnable hl, ntbWritten_cmpCfg hn, if_pos hon, if_neg (by simp [he]),
    cmpArm_past htime (hper.trans hp) (by rwa [hnext, hnet])]

/-- A CFG word without `en` switches the comparator off. -/
theorem comparatorEnable_off {n : Nat} (hn : n < 16) (c : Canon s) (hl : Lets s o (A.CMPn_CFG n)) {cfg : Word}
    (hc : bits cfg.toNat 0 1 = 0) : isSet (writeFields o (A.CMPn_CFG n) cfg s) (R.CMPn_CFG_en n) = false ∧
    exec (.comparatorEnable o n cfg) s = .next (setResult o .done (cmpDisarm n (writeFields o (A.CMPn_CFG n) cfg s))) := by
  have hoff : isSet (writeFields o (A.CMPn_CFG n) cfg s) (R.CMPn_CFG_en n) = false := by
    rw [isSet_eq_decide, (fld_cmpCfg hn c o cfg).1, hc]
    rfl
  exact ⟨hoff, by rw [exec_comparatorEnable hl, ntbWritten_cmpCfg hn, if_neg (by simp [hoff])]⟩

/-- A comparator that has been marked past is off. -/
theorem isSet_past {n : Nat} (hn : n < 16) (c : Canon s) (d : List Byte) :
    isSet (post 0x02 0x05 d (raise (lower s (R.CMPn_CFG_en n)) (R.CMPn_CST_past n))) (R.CMPn_CFG_en n) = false ∧
    isSet (post 0x02 0x05 d (raise (lower s (R.CMPn_CFG_en n)) (R.CMPn_CST_past n))) (R.CMPn_CST_past n) = true := by
  have h1 := rising_lower c.regs.1 (f := R.CMPn_CFG_en n)
  have c1 : Canon (raise (lower s (R.CMPn_CFG_en n)) (R.CMPn_CST_past n)) := canon_setFld (canon_setFld c _ 0) _ 1
  have hne : (R.CMPn_CST_past n).apart (R.CMPn_CFG_en n) = true := by
    simp [Field.apart, R.CMPn_CST_past, R.CMPn_CFG_en, A.CMPn_CST, A.CMPn_CFG]
  have hb : blockIndex (R.CMPn_CFG_en n).addr = 2 ∧ blockIndex (R.CMPn_CST_past n).addr = 2 := by
    simp only [R.CMPn_CST_past, R.CMPn_CFG_en, A.CMPn_CST, A.CMPn_CFG, blockIndex]
    omega
  have told : ∀ f : Field, blockIndex f.addr = 2 → isSet (post 0x02 0x05 d _) f = isSet _ f := fun f hf =>
    congrArg (· == 1) (post_fld c1 0x02 0x05 d (by omega))
  rw [told _ hb.1, told _ hb.2]
  exact ⟨(isSet_setFld_apart h1 1 (by simp [R.CMPn_CST_past]) hne).trans (isSet_lower c.regs.1 _ (by simp [R.CMPn_CFG_en])),
    isSet_raise h1 _ (by simp [R.CMPn_CST_past]) (by simp [R.CMPn_CST_past])⟩

end

/-- Settles O22: each command is the write or read of its register, then what NTB starts on it. -/
theorem networkTimeCommands : Obligations.NetworkTimeCommands := by
  intro s o hs
  have hr := hs.regs.1
  have h1 : ∀ v, Rising (setFld s R.NTB_CTRL_run v).regs := fun v => rising_setFld hr _ _
  have kept : isSet (setFld s R.NTB_CTRL_run (fld s R.NTB_CTRL_run)) R.NTB_CTRL_run = isSet s R.NTB_CTRL_run := by
    rw [isSet_setFld_self hr _ _ (by decide), Nat.mod_eq_of_lt (fld_lt s R.NTB_CTRL_run), isSet_eq_decide]
  refine ⟨fun hl => ⟨fun hn => ?started, fun hn => ?stays, ?fed, ?invalid⟩, fun hl => ?read, fun hl => ?adjust,
    fun n hn hl cfg => ⟨fun he hc hp ht => ?armed, fun he hc hp ht => ?past, fun hc => ?off⟩⟩
  case started =>
    rw [exec_ntbRun hs hl, if_pos rfl, hn]
    refine ⟨?_, ?_, by simp [ntbCtrlActs, blockStart]⟩
    · rw [setResult_isSet]
      exact (isSet_setFld_apart (h1 1) 1 (by decide) (by decide)).trans (isSet_raise hr _ (by decide) (by decide))
    · rw [setResult_busy]
      exact isSet_raise (h1 1) _ (by decide) (by decide)
  case stays =>
    rw [exec_ntbRun hs hl, if_neg (by decide), if_pos hn]
    refine ⟨?_, (setResult_cfgErrSet _ _ _ _).2 (cfgErrSet_cfgErr hr 2), by simp⟩
    rw [setResult_isSet]
    exact (isSet_cfgErr_apart hr (by decide) (by decide)).trans hn
  case fed =>
    change Goes (Host.Outcome.next (coreWrite ntbWritten o A.NTB_CTRL (rwWord s A.NTB_CTRL ||| 0x10) s)) _
    rw [exec_ntbCommand hs hl (by decide)]
    refine ⟨by simp [ntbCtrlActs, bits], (setResult_isSet _ _ _ _).trans kept, ?_⟩
    rw [setResult_fld]
    exact fld_setFld_apart hr _ (by decide) (by decide)
  case invalid =>
    change Goes (Host.Outcome.next (coreWrite ntbWritten o A.NTB_CTRL (rwWord s A.NTB_CTRL ||| 0x100) s)) _
    rw [exec_ntbCommand hs hl (by decide)]
    refine ⟨?_, by simp [ntbCtrlActs, bits], ?_⟩
    · rw [setResult_fld]
      exact fld_setFld_self (h1 _) R.NTB_STAT_tstate 1 (by decide)
    · rw [setResult_isSet]
      exact (isSet_setFld_apart (h1 _) 1 (by decide) (by decide)).trans kept
  case read =>
    rw [exec_timeRead hl]
    refine ⟨lastResult_setResult _ _ _, ?_, fun c hc => ?_, ?_⟩
    · rw [timeHold_setResult]
      cases o.core <;> rfl
    · rw [timeHold_setResult]
      cases e : o.core <;> cases c <;> first | rfl | exact absurd e.symm hc
    · refine (setResult_same _ o _ (p := .regs) (by decide)).trans ?_
      cases o.core <;> rfl
  case adjust =>
    intro adj
    have row : ∀ step : Bool, exec (if step = true then .timeStep o else .timeSet o) s =
        .next (setResult o .done (requestAdjust (if step = true then 2 else 1) s)) := fun step => by
      cases step
      · exact congrArg _ (coreWrite_adjGo hl 1)
      · exact congrArg _ (coreWrite_adjGo hl 2)
    have word : ∀ step : Bool, bit (if step = true then (2 : Word) else 1).toNat 0 = !step ∧
        bit (if step = true then (2 : Word) else 1).toNat 1 = step := by decide
    refine ⟨fun ha hn => ?taken, fun h => ?refused⟩
    case taken =>
      have goes : ∀ step : Bool, Goes (exec (if step = true then .timeStep o else .timeSet o) s) fun t =>
          t.ntb = { s.ntb with adj := some (adj step) } ∧ isSet t R.NTB_STAT_adj_busy = true := fun step => by
        rw [row, requestAdjust_taken (word step) ha hn]
        refine ⟨by simp [adjAsked, adj], (setResult_isSet _ _ _ _).trans ?_⟩
        exact isSet_raise (s := { s with ntb := { s.ntb with adj := _ } }) hr _ (by decide) (by decide)
      exact ⟨goes false, goes true⟩
    case refused =>
      have goes : ∀ step : Bool, exec (if step = true then .timeStep o else .timeSet o) s = .next (setResult o .done (cfgErr s 2)) :=
        fun step => by rw [row, requestAdjust_refused (word step) h]
      exact ⟨goes false, goes true⟩
  case armed =>
    obtain ⟨hon, htime, hroute⟩ := cmpCfg_on hn hs o he hc
    rw [comparatorEnable_ahead hn hs hl he hc hp ht]
    refine ⟨(setResult_isSet _ _ _ _).trans hon, (setResult_isSet _ _ _ _).trans htime, (setResult_fld _ _ _ _).trans hroute, ?_, ?_⟩
    · exact (cmpInstants_of_fld fun g _ _ => setResult_fld _ _ _ g).1.trans (cmpCfg_leaves hn hs o cfg).1
    · rw [setResult_ntb, writeFields_ntb]
  case past =>
    obtain ⟨hoff, hpast⟩ := isSet_past hn (writeFields_canon (o := o) (a := A.CMPn_CFG n) (w := cfg) hs) (leBytes 1 n)
    rw [comparatorEnable_past hn hs hl he hc hp ht]
    exact ⟨(setResult_isSet _ _ _ _).trans hoff, (setResult_isSet _ _ _ _).trans hpast⟩
  case off =>
    obtain ⟨hoff, hrow⟩ := comparatorEnable_off hn hs hl hc
    rw [hrow]
    refine ⟨(setResult_isSet _ _ _ _).trans hoff, ?_⟩
    rw [setResult_ntb, cmpDisarm, writeFields_ntb]

/-- The hypotheses of O22 can be met: core 0 starts the count at reset, and enables comparator 0 whose instant is then past. -/
theorem networkTimeCommands_witness (m : Bool) :
    (Goes (exec (.ntbRun ⟨.core0, m⟩ true) State.reset) fun t => busy t 2 = true) ∧
    Goes (exec (.comparatorEnable ⟨.core0, m⟩ 0 1) State.reset) fun t => isSet t (R.CMPn_CST_past 0) = true :=
  have h := networkTimeCommands State.reset ⟨.core0, m⟩ resetIsCanonical
  ⟨((h.1 (lets_core0 rfl (by decide) (by decide))).1 (by decide)).2.1,
    ((h.2.2.2 0 (by decide) (lets_core0 rfl (by decide) (by decide)) 1).2.1 (by decide) (by decide) (by decide) (by decide)).2⟩

end Sys2Proof.Machine

/-! ## The events of network time (chapter 03, R61, R64, R65, R67, R74-R76, R79)

A path boundary runs through most of the block. What it leaves of the count is read off in two steps: first the functions of
the other blocks, each of which keeps every NTB register and the whole of NTB's state (`offClock`), then those of NTB
itself, which keep the count and the fields the boundary's caller has set (`CountKept`). -/

namespace Sys2Proof.Machine

open Sys2Proof

section
variable {r s : State}

/-- Every part but NTB's own, and the registers of every block but NTB. -/
def offClock : Nat := 1267650600228229397098656692223

theorem offClock_reg {a : Nat} (h : blockIndex a ≠ 2) : Sub (regMask a) offClock := by
  have hb : blockIndex a < 32 := Nat.mod_lt _ (by decide)
  have key : ∀ i < 32, i ≠ 2 → (2 ^ 2 ||| 2 ^ (40 + i)) ||| offClock = offClock := by decide
  exact (Sub.refl _).mono (key _ hb h)

theorem offClock_regShadow {a : Nat} (h : blockIndex a ≠ 2) : Sub (regMask a ||| 8) offClock := by
  have hb : blockIndex a < 32 := Nat.mod_lt _ (by decide)
  have key : ∀ i < 32, i ≠ 2 → (2 ^ 2 ||| 2 ^ (40 + i) ||| 8) ||| offClock = offClock := by decide
  exact (Sub.refl _).mono (key _ hb h)

/-- A set of parts without NTB's. -/
theorem offClock_of {k : Nat} (e : k ||| offClock = offClock) : Sub k offClock := (Sub.refl _).mono e

/-- A loop whose step keeps a set of parts for every index it takes. -/
theorem keeps_upTo {m n : Nat} {f : Nat → State → State} (h : Keeps m r s)
    (k : ∀ i < n, ∀ t, Keeps m r t → Keeps m r (f i t)) : Keeps m r (upTo n f s) :=
  Keeps.foldl_mem h fun t i hi ht => k i (List.mem_range.1 hi) t ht

/-! ### The key vault -/

theorem blockIndex_context {c : Nat} (h : c < 3) {k : Nat} (hk : k < 16) : blockIndex (0x40080100 + k + 0x10 * c) ≠ 2 := by
  simp only [blockIndex]
  omega

theorem clearKeys_offClock (h : Keeps offClock r s) : Keeps offClock r (clearKeys s) := by
  unfold clearKeys
  extract_lets +onlyGivenNames s1
  have h1 : Keeps offClock r s1 := jobEnd_keeps (offClock_of rfl) h
  clear_value s1
  extract_lets +onlyGivenNames _ s2
  have h2 : Keeps offClock r s2 := Keeps.set_upd (offClock_of rfl) h1
  clear_value s2
  extract_lets +onlyGivenNames _ s3
  have h3 : Keeps offClock r s3 := Keeps.set_vault (offClock_of rfl) h2
  clear_value s3
  exact lower_keeps (offClock_of rfl) (lower_keeps (offClock_of rfl) (keeps_upTo h3 fun c hc t ht =>
    lower_keeps (offClock_reg (blockIndex_context hc (k := 0) (by decide))) ht))

theorem zeroize_offClock {cause tmp : Nat} (h : Keeps offClock r s) : Keeps offClock r (zeroize cause tmp s) := by
  unfold zeroize
  extract_lets +onlyGivenNames s1
  have h1 : Keeps offClock r s1 := clearKeys_offClock h
  clear_value s1
  extract_lets +onlyGivenNames _ s2
  have h2 : Keeps offClock r s2 := Keeps.ite h1 (Keeps.set_bkd (offClock_of rfl) h1)
  clear_value s2
  extract_lets +onlyGivenNames s3 s4 s5
  have h3 : Keeps offClock r s3 := setFld_keeps (offClock_of rfl) h2
  have h4 : Keeps offClock r s4 := setFld_keeps (offClock_of rfl) h3
  have h5 : Keeps offClock r s5 := setFld_keeps (offClock_of rfl) (setFld_keeps (offClock_of rfl) h4)
  exact postFnd_keeps (offClock_of rfl) (raise_keeps (offClock_of rfl) h5)

theorem contextLoad_offClock {c : Nat} (h : Keeps offClock r s) : Keeps offClock r (contextLoad c s) := by
  unfold contextLoad
  extract_lets +onlyGivenNames n
  split
  · exact cfgErr_keeps (offClock_of rfl) h
  · rename_i hc
    split
    · exact cfgErr_keeps (offClock_of rfl) h
    · extract_lets +onlyGivenNames g
      exact setFld_keeps (offClock_reg (blockIndex_context (c := c) (by omega) (k := 0) (by decide))) (setCtxKey_keeps (offClock_of rfl) h)

theorem kvtWritten_offClock {o : Origin} {a : Nat} {w : Word} {old : State} (h : Keeps offClock r s) :
    Keeps offClock r (kvtWritten o a w old s) := by
  unfold kvtWritten kvtWrittenWith
  extract_lets +onlyGivenNames on
  refine Keeps.ite ?_ (Keeps.ite ?_ (Keeps.ite ?_ (Keeps.ite ?_ h)))
  · extract_lets +onlyGivenNames s1
    have h1 : Keeps offClock r s1 := Keeps.ite (Keeps.ite h (blockStart_keeps (offClock_of rfl) h))
      (Keeps.ite (blockStop_keeps (offClock_of rfl) h) h)
    clear_value s1
    extract_lets +onlyGivenNames s2 s3 s4 s5
    have h2 : Keeps offClock r s2 := Keeps.ite (regenerate_keeps (offClock_of rfl) h1) h1
    have h3 : Keeps offClock r s3 := Keeps.ite (zeroize_offClock h2) h2
    have h4 : Keeps offClock r s4 := Keeps.ite (zeroize_offClock h3) h3
    have h5 : Keeps offClock r s5 := Keeps.ite (hopload_keeps (offClock_of rfl) h4) h4
    exact Keeps.ite (flushAll_keeps (offClock_of rfl) h5) h5
  · have h1 : Keeps offClock r (if on 0 then commandGo s else s) := Keeps.ite (commandGo_keeps (offClock_of rfl) h) h
    exact Keeps.ite (jobAbort_keeps (offClock_of rfl) h1) h1
  · exact cacheFlush_keeps (offClock_of rfl) h
  · exact showKeys_keeps (offClock_of rfl) (Keeps.ite (contextLoad_offClock h) h)

/-- The context in force is one of the first two: KVT_EP holds one bit. -/
theorem ctxInForce_lt (s : State) : ctxInForce s < 2 := Nat.mod_lt _ (by decide)

theorem slotMove_offClock (h : Keeps offClock r s) : Keeps offClock r (slotMove s) := by
  have hc : ctxInForce s < 3 := Nat.lt_succ_of_lt (ctxInForce_lt s)
  refine Keeps.ite ?_ h
  exact fwWrite_keeps (offClock_regShadow (blockIndex_context hc (k := 0) (by decide))) (fun _ _ _ _ _ => kvtWritten_offClock)
    (changeSlot_keeps (offClock_of rfl) (changeSlot_keeps (offClock_of rfl) h))

theorem epochTimetable_offClock {p : Nat} (h : Keeps offClock r s) : Keeps offClock r (epochTimetable p s) := by
  have select : ∀ {t : State} (v : Nat), Keeps offClock r t → Keeps offClock r (fwField kvtWritten R.KVT_EP_sel v t) :=
    fun v ht => fwField_keeps (offClock_of rfl) (fun _ _ _ _ _ => kvtWritten_offClock) ht
  have ho : 1 - s.nodes.epoch.ctx < 3 := Nat.lt_of_le_of_lt (Nat.sub_le 1 _) (by decide)
  refine Keeps.ite ?_ (Keeps.ite ?_ (Keeps.ite ?_ h))
  · have h1 := setTte_keeps (b0 := { s.tte with cd := (s.nodes.epoch.switchAt - p) / 256 }) (offClock_of rfl) h
    exact Keeps.ite (select _ h1) h1
  · exact setNodes_keeps (offClock_of rfl) (Keeps.set_nv (offClock_of rfl) (setTte_keeps (offClock_of rfl) (select _ h)))
  · exact slotMove_offClock (setNodes_keeps (offClock_of rfl) (fwField_keeps
      (offClock_regShadow (blockIndex_context ho (k := 0) (by decide))) (fun _ _ _ _ _ => kvtWritten_offClock)
      (setCtxKey_keeps (offClock_of rfl) h)))

theorem tokenCounters_offClock (h : Keeps offClock r s) : Keeps offClock r (tokenCounters s) := by
  refine keeps_upTo h fun c hc t ht => Keeps.ite ?_ ht
  exact setFld_keeps (offClock_reg (blockIndex_context hc (k := 8) (by decide)))
    (setFld_keeps (offClock_reg (blockIndex_context hc (k := 4) (by decide))) ht)

/-! ### The radio -/

theorem blockIndex_branch {b : Nat} (h : b < 2) : blockIndex (A.RFE_BRb_MON b) ≠ 2 := by
  simp only [A.RFE_BRb_MON, blockIndex]
  omega

theorem branchEvaluate_offClock {o : PathObs} {b : Nat} (hb : b < 2) (h : Keeps offClock r s) :
    Keeps offClock r (branchEvaluate o b s) := by
  have show_ : ∀ {t : State} {f : Field} (v : Nat), f.addr = A.RFE_BRb_MON b → Keeps offClock r t → Keeps offClock r (setFld t f v) :=
    fun v e => setFld_keeps (offClock_reg (e ▸ blockIndex_branch hb))
  unfold branchEvaluate
  refine Keeps.ite h ?_
  extract_lets +onlyGivenNames _ _ s1
  have h1 : Keeps offClock r s1 := Keeps.set_rfe (offClock_of rfl) h
  clear_value s1
  extract_lets +onlyGivenNames det other cause mean s2
  have h2 : Keeps offClock r s2 := show_ _ rfl (show_ _ rfl h1)
  clear_value s2
  extract_lets +onlyGivenNames s3
  have h3 : Keeps offClock r s3 := judged_keeps (offClock_of rfl) (show_ _ rfl h2)
  exact Keeps.ite h3 (post_keeps (offClock_of rfl) (raise_keeps (offClock_of rfl) (lowerBit_keeps (offClock_of rfl) h3)))

theorem radioTimetable_offClock {o : PathObs} (h : Keeps offClock r s) : Keeps offClock r (radioTimetable o s) := by
  have h1 := branchEvaluate_offClock (o := o) (b := 1) (by decide) (branchEvaluate_offClock (o := o) (b := 0) (by decide) h)
  exact Keeps.ite h (raise_keeps (offClock_of rfl) (Keeps.set_rfe (offClock_of rfl) h1))

/-! ### Sidings -/

theorem blockIndex_siding {n : Nat} (h : n < 4) {k : Nat} (hk : k < 0x20) : blockIndex (0x400B0100 + 0x20 * n + k) = 11 := by
  simp only [blockIndex]
  omega

theorem transferSiding_offClock {n : Nat} (hn : n < 4) (h : Keeps offClock r s) : Keeps offClock r (transferSiding n s) := by
  unfold transferSiding
  extract_lets +onlyGivenNames mine fb s1
  have h1 : Keeps offClock r s1 := by
    refine applyShadows_in_keeps (a := A.SDC_Cn_CFG n) (fun p hp => ?_) (offClock_regShadow (by
      rw [A.SDC_Cn_CFG, ← Nat.add_zero (_ + _), blockIndex_siding hn (by decide)]; decide)) h
    have hp := (Bool.and_eq_true _ _).mp (List.mem_filter.1 hp).2
    have hlo : A.SDC_Cn_CFG n ≤ p.1 / 32 := of_decide_eq_true hp.1
    have hhi : p.1 / 32 < A.SDC_Cn_CFG n + 0x20 := of_decide_eq_true hp.2
    simp only [A.SDC_Cn_CFG, blockIndex] at *
    omega
  exact Keeps.ite (allPending_keeps (offClock_of rfl) h1) h1

theorem sidingHalt_offClock {n : Nat} (hn : n < 4) (h : Keeps offClock r s) : Keeps offClock r (sidingHalt n s) := by
  have h1 := transferSiding_offClock hn (driveStop_keeps (b0 := n) (offClock_of rfl) h)
  have h2 := setSiding_keeps (b0 := n) (b1 := { sidingAt (transferSiding n (driveStop n s)) n with runs := false }) (offClock_of rfl) h1
  exact Keeps.ite h2 (blockStop_keeps (offClock_of rfl) h2)

theorem sdcOwn_offClock {on : Bool} (h : Keeps offClock r s) : Keeps offClock r (sdcOwn on s) := by
  refine Keeps.ite h (keeps_upTo (setBool_keeps (offClock_of rfl) h) fun n hn t ht => Keeps.ite ?_ ht)
  have h1 := driveStop_keeps (b0 := n) (offClock_of rfl) ht
  exact Keeps.ite (driveStart_keeps (offClock_of rfl) ht) (Keeps.ite h1 (sidingHalt_offClock hn h1))

theorem sidingLate_offClock {n : Nat} (hn : n < 4) (h : Keeps offClock r s) : Keeps offClock r (sidingLate n s) := by
  refine raise_keeps (offClock_of rfl) (bump_keeps (offClock_reg ?_) h)
  simp only [R.SDC_Cn_CNT_late, A.SDC_Cn_CNT, blockIndex]
  omega

theorem frameStart_offClock {n : Nat} (hn : n < 4) (h : Keeps offClock r s) : Keeps offClock r (frameStart n s) := by
  unfold frameStart
  extract_lets +onlyGivenNames x
  refine Keeps.ite h (Keeps.ite (sidingLate_offClock hn h) (Keeps.ite h ?_))
  extract_lets +onlyGivenNames s1
  have h1 : Keeps offClock r s1 := transferSiding_offClock hn h
  clear_value s1
  extract_lets +onlyGivenNames nd shift first b f s2
  have h2 : Keeps offClock r s2 := raiseBit_keeps (offClock_of rfl) (setSiding_keeps (offClock_of rfl) h1)
  exact Keeps.ite h2 (sidingLate_offClock hn h2)

theorem routePulse5_offClock (h : Keeps offClock r s) : Keeps offClock r (routePulse5 s) :=
  keeps_upTo h fun _ hn _ ht => frameStart_offClock hn ht

/-! ### Tokens -/

theorem tknSettle_offClock {quiet : Bool} (h : Keeps offClock r s) : Keeps offClock r (tknSettle quiet s) := by
  unfold tknSettle
  extract_lets +onlyGivenNames out hw both _ s1
  have h1 : Keeps offClock r s1 := setTkn_keeps (offClock_of rfl) h
  clear_value s1
  extract_lets +onlyGivenNames was s2
  have h2 : Keeps offClock r s2 := setBool_keeps (offClock_of rfl) (setBool_keeps (offClock_of rfl) h1)
  clear_value s2
  refine Keeps.ite h2 ?_
  extract_lets +onlyGivenNames s3
  have h3 : Keeps offClock r s3 := ctcSettle_keeps (offClock_of rfl) (meterDrive_keeps (offClock_of rfl) (sdcOwn_offClock h2))
  exact Keeps.ite (post_keeps (offClock_of rfl) (raise_keeps (offClock_of rfl) h3)) h3

theorem ilkClaim_offClock (h : Keeps offClock r s) : Keeps offClock r (ilkClaim s) :=
  Keeps.ite (post_keeps (offClock_of rfl) (raise_keeps (offClock_of rfl) (tknSettle_offClock (raise_keeps (offClock_of rfl) h))))
    (raise_keeps (offClock_of rfl) h)

theorem ilkRelease_offClock {quiet : Bool} (h : Keeps offClock r s) : Keeps offClock r (ilkRelease quiet s) :=
  tknSettle_offClock (lower_keeps (offClock_of rfl) h)

theorem tknWritten_offClock {o : Origin} {a : Nat} {w : Word} {old : State} (h : Keeps offClock r s) :
    Keeps offClock r (tknWritten o a w old s) := by
  unfold tknWritten
  refine Keeps.ite ?_ (Keeps.ite (tknSettle_offClock h) h)
  extract_lets +onlyGivenNames t t1 s1
  have h1 : Keeps offClock r s1 := blockStop_keeps (offClock_of rfl) (ilkRelease_offClock h)
  clear_value s1
  extract_lets +onlyGivenNames _ s2
  have h2 : Keeps offClock r s2 := by
    refine Keeps.ite (hbShow_keeps (offClock_of rfl) (setTkn_keeps (offClock_of rfl) (blockStart_keeps (offClock_of rfl) h)))
      (Keeps.ite (hbShow_keeps (offClock_of rfl) (setTkn_keeps (offClock_of rfl) ?_)) h)
    exact lower_keeps (offClock_of rfl) (lower_keeps (offClock_of rfl) h1)
  clear_value s2
  extract_lets +onlyGivenNames s3
  have h3 : Keeps offClock r s3 := Keeps.ite (ilkRelease_offClock h2) h2
  exact Keeps.ite (ilkClaim_offClock h3) h3

theorem raiseToken_offClock (h : Keeps offClock r s) : Keeps offClock r (raiseToken s) := by
  unfold raiseToken
  extract_lets +onlyGivenNames t s1
  have h1 : Keeps offClock r s1 := keeps_upTo h fun c hc t ht =>
    setFld_keeps (offClock_reg (blockIndex_context hc (k := 12) (by decide))) (Keeps.set_nv (offClock_of rfl) ht)
  exact fwField_keeps (offClock_of rfl) (fun _ _ _ _ _ => tknWritten_offClock) (setBytes_keeps (offClock_of rfl) h1)

theorem tokenBoundary_offClock (h : Keeps offClock r s) : Keeps offClock r (tokenBoundary s) := by
  have h1 := tknSettle_offClock (quiet := false) (transferShadows_keeps (i := 13) (b := .beacon) (offClock_of rfl) h)
  exact Keeps.ite h1 (tokenCounters_offClock h1)

/-- The boundary's work that the firmware does. -/
theorem firmwareBoundary_offClock {p : Nat} (h : Keeps offClock r s) : Keeps offClock r (firmwareBoundary p s) := by
  unfold firmwareBoundary
  refine Keeps.ite h ?_
  extract_lets +onlyGivenNames s1 s2
  have h1 : Keeps offClock r s1 := groupStep_keeps (offClock_of rfl) h
  have h2 : Keeps offClock r s2 := Keeps.ite (epochTimetable_offClock h1) h1
  have h3 := distBoundary_keeps (b0 := p) (offClock_of rfl) h2
  exact pairUpdate_keeps (offClock_of rfl) (Keeps.ite (raiseToken_offClock (setTkn_keeps (offClock_of rfl) h3)) h3)

/-! ### Sending down the timetable -/

/-- The counter a sent frame takes is that of context 2 or of the context in force. -/
theorem sendKey_context {key : Nat} {addr k : List Byte} {c e : Nat} {t : State} (h : sendKey key addr s = (some (k, c, e), t)) : c < 3 := by
  unfold sendKey at h
  split at h
  · split at h <;> cases h
    decide
  · dsimp only at h
    split at h <;> cases h
    exact Nat.lt_succ_of_lt (ctxInForce_lt s)
  · split at h <;> cases h
    decide
  · cases h

theorem nextCounter_offClock {c : Nat} (hc : c < 3) (h : Keeps offClock r s) : KeepsP offClock r (nextCounter c s) := by
  unfold nextCounter
  extract_lets +onlyGivenNames n ceil
  refine KeepsP.ite (KeepsP.mk' h) (KeepsP.ite (KeepsP.mk' (bump_keeps (offClock_of rfl) h)) ?_)
  extract_lets +onlyGivenNames s1
  have h1 : Keeps offClock r s1 := setFld_keeps (offClock_reg (blockIndex_context hc (k := 4) (by decide))) h
  exact KeepsP.mk' (Keeps.ite (raise_keeps (offClock_of rfl) h1) h1)

theorem secure_offClock {plain : List Byte} {items : List (List Byte)} (h : Keeps offClock r s) :
    KeepsP offClock r (secure plain items s) := by
  unfold secure
  extract_lets +onlyGivenNames fc t a
  refine KeepsP.ite (KeepsP.mk' h) ?_
  extract_lets +onlyGivenNames addr
  split
  · rename_i s1 e1
    exact KeepsP.mk' (KeepsP.of_eq e1 (sendKey_keeps (offClock_of rfl) h)).snd
  · rename_i s1 e1
    have h1 : Keeps offClock r s1 := (KeepsP.of_eq e1 (sendKey_keeps (offClock_of rfl) h)).snd
    have hc := sendKey_context e1
    split
    · rename_i s2 e2
      exact KeepsP.mk' (KeepsP.of_eq e2 (nextCounter_offClock hc h1)).snd
    · rename_i s2 e2
      have h2 : Keeps offClock r s2 := (KeepsP.of_eq e2 (nextCounter_offClock hc h1)).snd
      extract_lets +onlyGivenNames hop fc' hop' _ s3
      have h3 : Keeps offClock r s3 := Keeps.ite (setTte_keeps (offClock_of rfl) h2) h2
      exact KeepsP.mk' h3

theorem tryHead_offClock {p lane chan : Nat} {withItems : Bool} {src : LaneSource} (h : Keeps offClock r s) :
    KeepsP offClock r (tryHead p lane chan withItems src s) := by
  have done : ∀ {t : State} {n : Nat}, Keeps offClock r t → Keeps offClock r (dropAcks lane n (sourceDone lane src t)) :=
    fun ht => dropAcks_keeps (offClock_of rfl) (sourceDone_keeps (offClock_of rfl) ht)
  unfold tryHead
  split
  · exact KeepsP.mk' h
  · extract_lets +onlyGivenNames base acks n
    refine KeepsP.ite (KeepsP.mk' (tteDrop_keeps (offClock_of rfl) (sourceDone_keeps (offClock_of rfl) h))) (KeepsP.ite (KeepsP.mk' h) ?_)
    split
    · rename_i s1 e1
      exact KeepsP.mk' (tteDrop_keeps (offClock_of rfl) (done (KeepsP.of_eq e1 (secure_offClock h)).snd))
    · rename_i s1 e1
      have h1 : Keeps offClock r s1 := (KeepsP.of_eq e1 (secure_offClock h)).snd
      extract_lets +onlyGivenNames chains
      split
      · rename_i s2 e2
        exact KeepsP.mk' (done (KeepsP.of_eq e2 (offerFrom_keeps (offClock_of rfl) h1)).snd)
      · rename_i s2 e2
        have h2 : Keeps offClock r s2 := (KeepsP.of_eq e2 (offerFrom_keeps (offClock_of rfl) h1)).snd
        exact KeepsP.ite (KeepsP.mk' (tteDrop_keeps (offClock_of rfl) (done h2))) (KeepsP.mk' h2)

theorem trySource_offClock {p lane chan : Nat} {withItems : Bool} {src : LaneSource} {fuel : Nat} (h : Keeps offClock r s) :
    KeepsP offClock r (trySource p lane chan withItems src fuel s) := by
  induction fuel generalizing s with
  | zero => exact KeepsP.mk' h
  | succ fuel ih =>
    have head : ∀ {x : LaneResult} {t : State}, tryHead p lane chan withItems src s = (x, t) → Keeps offClock r t :=
      fun e => (KeepsP.of_eq e (tryHead_offClock h)).snd
    unfold trySource
    split
    · rename_i e
      exact ih (head e)
    · rename_i e
      exact KeepsP.mk' (head e)
    · rename_i e
      exact KeepsP.mk' (head e)

theorem laneSend_offClock {p lane : Nat} (h : Keeps offClock r s) : Keeps offClock r (laneSend p lane s) :=
  (KeepsP.foldl (KeepsP.mk' h) fun _ _ hq => KeepsP.ite hq (trySource_offClock hq.snd)).snd

theorem sendDown_offClock {p : Nat} (h : Keeps offClock r s) : Keeps offClock r (sendDown p s) :=
  setTte_keeps (offClock_of rfl) (Keeps.upTo h fun _ _ ht => Keeps.ite (trySource_offClock ht).snd (laneSend_offClock ht))

theorem tteBoundary_offClock {own : Bool} {p : Nat} (h : Keeps offClock r s) : Keeps offClock r (tteBoundary own p s) := by
  unfold tteBoundary
  extract_lets +onlyGivenNames s1
  have h1 : Keeps offClock r s1 := Keeps.ite (reportCellsEnd_keeps (offClock_of rfl) h) h
  clear_value s1
  extract_lets +onlyGivenNames _ s2 s3
  have h3 : Keeps offClock r s3 := setBool_keeps (offClock_of rfl) (setTte_keeps (offClock_of rfl) h1)
  clear_value s3
  refine Keeps.ite (tteHalt_keeps (offClock_of rfl) h3) (Keeps.ite (Keeps.set_vault (offClock_of rfl) h3) ?_)
  extract_lets +onlyGivenNames _ s4
  have h4 : Keeps offClock r s4 := Keeps.ite (setTte_keeps (offClock_of rfl) (raise_keeps (offClock_of rfl) h3)) h3
  clear_value s4
  refine Keeps.ite h4 ?_
  extract_lets +onlyGivenNames cells _ s5
  have h5 : Keeps offClock r s5 := setTte_keeps (offClock_of rfl) h4
  clear_value s5
  exact Keeps.ite (Keeps.set_rfe (offClock_of rfl) h5)
    (Keeps.ite (Keeps.ite (sendBeacon_keeps (offClock_of rfl) h5) (sendDown_offClock h5)) h5)

/-! ### Metering -/

theorem mtrWritten_offClock {o : Origin} {a : Nat} {w : Word} {old : State} (h : Keeps offClock r s) :
    Keeps offClock r (mtrWritten o a w old s) := by
  unfold mtrWritten
  refine Keeps.ite ?_ ?_
  · extract_lets +onlyGivenNames s1 s2 s3 s4
    have h1 : Keeps offClock r s1 := Keeps.ite (meterLoad_keeps (offClock_of rfl) h) h
    have h2 : Keeps offClock r s2 := Keeps.ite (meterClear_keeps (offClock_of rfl) h1) h1
    have h3 : Keeps offClock r s3 := Keeps.ite (closeAll_keeps (offClock_of rfl) h2) h2
    have h4 : Keeps offClock r s4 := Keeps.ite (meterSave_keeps (offClock_of rfl) h3) h3
    exact Keeps.ite (Keeps.ite h4 (meterStart_keeps (offClock_of rfl) h4)) (Keeps.ite (meterStop_keeps (offClock_of rfl) h4) h4)
  · split
    · rename_i ha
      exact setMtr_keeps (offClock_of rfl) (setReg_keeps (offClock_reg (by rw [ha.1]; decide)) h)
    · exact h

theorem intervalChange_offClock {t : Nat} (h : Keeps offClock r s) : Keeps offClock r (intervalChange t s) :=
  Keeps.ite (fwField_keeps (offClock_of rfl) (fun _ _ _ _ _ => mtrWritten_offClock) h) h

end

end Sys2Proof.Machine

namespace Sys2Proof.Machine

open Sys2Proof

section
variable {r s t : State}

/-! ### What a boundary's consequences leave of the count -/

/-- The fields that say what network time is and what a boundary or a jump made of it. -/
def countFields : List Field :=
  [R.NTB_STAT_tstate, R.NTB_STAT_adj_busy, R.NTB_STAT_plen_act, R.NTB_PATHCFG_plen, R.NTB_IFLG_jump, R.NTB_IFLG_path, R.NTB_IFLG_bint,
    R.NTB_IFLG_plen]

/-- The count, its requests and its fields stand as they were: only the comparators' firings may have moved. -/
structure CountKept (s t : State) : Prop where
  canon : Canon s → Canon t
  ntb : t.ntb = { s.ntb with waiting := t.ntb.waiting, pulseAt := t.ntb.pulseAt, pulsed := t.ntb.pulsed, pulses := t.ntb.pulses }
  fields : Canon s → ∀ f ∈ countFields, fld t f = fld s f

namespace CountKept

theorem refl (s : State) : CountKept s s := ⟨id, rfl, fun _ _ _ => rfl⟩

theorem trans (h : CountKept r s) (k : CountKept s t) : CountKept r t :=
  ⟨fun c => k.canon (h.canon c), by rw [k.ntb, h.ntb], fun c f hf => (k.fields (h.canon c) f hf).trans (h.fields c f hf)⟩

theorem ite {c : Prop} [Decidable c] (h : CountKept r s) (k : CountKept r t) : CountKept r (if c then s else t) := by
  split <;> assumption

theorem upTo {n : Nat} {f : Nat → State → State} (h : CountKept r s) (k : ∀ i t, CountKept r t → CountKept r (f i t)) :
    CountKept r (upTo n f s) := by
  unfold Machine.upTo
  generalize List.range n = l
  induction l generalizing s with
  | nil => exact h
  | cons i l ih => exact ih (k i s h)

theorem countFields_block : ∀ f ∈ countFields, offClock.testBit (40 + blockIndex f.addr) = false := by decide

/-- What another block does leaves NTB alone. -/
theorem off (h : CountKept r s) (k : Keeps offClock s t) : CountKept r t := by
  have hn : t.ntb = s.ntb := k.parts .ntb (by decide)
  exact h.trans ⟨k.canon, by rw [hn], fun c f hf => k.fld_eq c (countFields_block f hf)⟩

theorem setFld (h : CountKept r s) {f : Field} (v : Nat) (hw : f.lsb + f.width ≤ 32) (hf : ∀ g ∈ countFields, f.apart g = true) :
    CountKept r (setFld s f v) :=
  h.trans ⟨fun c => canon_setFld c f v, rfl, fun c g hg => fld_setFld_apart c.regs.1 v hw (hf g hg)⟩

theorem countFields_below : ∀ g ∈ countFields, g.addr < 0x40020100 := by decide

/-- A field of a comparator or a capture unit. -/
theorem unit (h : CountKept r s) {f : Field} (v : Nat) (hw : f.lsb + f.width ≤ 32) (ha : 0x40020100 ≤ f.addr) :
    CountKept r (Machine.setFld s f v) := by
  refine h.setFld v hw fun g hg => ?_
  have := countFields_below g hg
  have hne : f.addr ≠ g.addr := by omega
  simp [Field.apart, hne]

theorem cfgErr (h : CountKept r s) : CountKept r (cfgErr s 2) :=
  (h.setFld (f := cfgStat 2) 1 (by decide) (by decide)).setFld (f := cfgFlag 2) 1 (by decide) (by decide)

/-- The comparators' own part of NTB's state. -/
theorem set_ntb (h : CountKept r s) {x : NtbState}
    (e : x = { s.ntb with waiting := x.waiting, pulseAt := x.pulseAt, pulsed := x.pulsed, pulses := x.pulses }) :
    CountKept r { s with ntb := x } :=
  h.trans ⟨(Keeps.set_ntb (Sub.refl _) (Keeps.refl s)).canon, e, fun _ _ _ => rfl⟩

/-! ### Comparators -/

theorem setCmpNext {n t : Nat} (h : CountKept r s) : CountKept r (setCmpNext n t s) := by
  have ha : 0x40020100 ≤ A.CMPn_NXT_SLO n ∧ 0x40020100 ≤ A.CMPn_NXT_SHI n ∧ 0x40020100 ≤ A.CMPn_NXT_NS n := by
    simp only [A.CMPn_NXT_SLO, A.CMPn_NXT_SHI, A.CMPn_NXT_NS]
    omega
  obtain ⟨h1, h2, h3⟩ := ha
  exact ((h.unit (f := R.CMPn_NXT_SLO_s n) _ (by decide : 0 + 32 ≤ 32) h1).unit (f := R.CMPn_NXT_SHI_s n) _ (by decide : 0 + 32 ≤ 32) h2).unit
    (f := R.CMPn_NXT_NS_ns n) _ (by decide : 0 + 30 ≤ 32) h3

theorem cmpCfgAddr (n : Nat) : 0x40020100 ≤ A.CMPn_CFG n := by
  simp only [A.CMPn_CFG]
  omega

theorem cmpCstAddr (n : Nat) : 0x40020100 ≤ A.CMPn_CST n := by
  simp only [A.CMPn_CST]
  omega

theorem cmpDisable (h : CountKept r s) (n : Nat) : CountKept r (lower s (R.CMPn_CFG_en n)) := h.unit 0 (by decide : 0 + 1 ≤ 32) (cmpCfgAddr n)

theorem post (h : CountKept r s) (src code : Nat) (d : List Byte) : CountKept r (post src code d s) :=
  h.off (post_keeps (offClock_of rfl) (Keeps.refl s))

theorem cmpArm {n : Nat} (h : CountKept r s) : CountKept r (cmpArm n s) :=
  ite (h.cmpDisable n).cfgErr (ite (ite
    (((h.cmpDisable n).unit (f := R.CMPn_CST_past n) 1 (by decide : 2 + 1 ≤ 32) (cmpCstAddr n)).post _ _ _) h.setCmpNext) h)

theorem cmpDisarm {n : Nat} (h : CountKept r s) : CountKept r (cmpDisarm n s) := h.set_ntb rfl

/-- What a write of a comparator's register starts. -/
theorem ntbWritten {o : Origin} {a : Nat} {w : Word} {old : State} (hlo : 0x40020100 ≤ a) (hhi : a < 0x40020300) (h : CountKept r s) :
    CountKept r (ntbWritten o a w old s) := by
  have hne : ∀ b, b < 0x40020100 → a ≠ b := fun b hb => by omega
  unfold Machine.ntbWritten
  rw [if_neg (hne _ (by decide)), if_neg (hne _ (by decide)), if_neg (hne _ (by decide)), if_pos ⟨hlo, hhi⟩]
  exact ite (ite (ite h h.cmpArm) h.cmpDisarm) (ite (ite h (h.unit 0 (by decide : 8 + 8 ≤ 32) (cmpCstAddr _))) h)

/-- The firmware's write of a comparator's register. -/
theorem cmpWrite {a : Nat} {w : Word} (hlo : 0x40020100 ≤ a) (hhi : a < 0x40020300) (h : CountKept r s) :
    CountKept r (fwWrite Machine.ntbWritten a w s) := by
  have hb : blockIndex a = 2 := by simp only [blockIndex]; omega
  refine ntbWritten (o := firmware) (w := w) (old := s) hlo hhi (h.trans ⟨?_, ?_, ?_⟩)
  · exact (writeFields_keeps (m := 2 ^ 100 - 1) ((Sub.refl _).mono (by rw [regMask, hb]; rfl)) (Keeps.refl s)).canon
  · rw [writeFields_ntb]
  · intro c g hg
    have hg' := countFields_below g hg
    have hs : ∀ g ∈ countFields, (cfgStat 2).apart g = true ∧ (cfgFlag 2).apart g = true := by decide
    exact fld_writeFields_other c (by omega) (by rw [hb]; exact (hs g hg).1) (by rw [hb]; exact (hs g hg).2)

theorem cmpOff {n : Nat} (hn : n < 16) (h : CountKept r s) : CountKept r (cmpOff n s) :=
  h.cmpWrite (cmpCfgAddr n) (by simp only [A.CMPn_CFG]; omega)

theorem cmpTime {n next per route : Nat} (hn : n < 16) (h : CountKept r s) : CountKept r (cmpTime n next per route s) := by
  have h1 := (h.cmpOff hn).setCmpNext (n := n) (t := next)
  have h2 := h1.cmpWrite (a := A.CMPn_PER_S n) (w := BitVec.ofNat 32 (per / 1000000000)) (by simp only [A.CMPn_PER_S]; omega)
    (by simp only [A.CMPn_PER_S]; omega)
  have h3 := h2.cmpWrite (a := A.CMPn_PER_NS n) (w := BitVec.ofNat 32 (per % 1000000000)) (by simp only [A.CMPn_PER_NS]; omega)
    (by simp only [A.CMPn_PER_NS]; omega)
  exact h3.cmpWrite (cmpCfgAddr n) (by simp only [A.CMPn_CFG]; omega)

/-! ### Firings -/

theorem routePulse {n : Nat} {locked : Bool} (h : CountKept r s) : CountKept r (routePulse n locked s) := by
  unfold Machine.routePulse
  extract_lets +onlyGivenNames dest key hit
  refine ite h ?_
  extract_lets +onlyGivenNames _ s1
  have h1 : CountKept r s1 := h.set_ntb rfl
  clear_value s1 dest
  split
  · exact ite (h1.set_ntb rfl) h1
  · extract_lets +onlyGivenNames was s2
    have h2 : CountKept r s2 := h1.off (routePulse2_keeps (offClock_of rfl) (Keeps.refl _))
    exact ite (h2.off (balanceWindow_keeps (offClock_of rfl) (Keeps.refl _))) h2
  · exact h1.off (routePulse3_keeps (offClock_of rfl) (Keeps.refl _))
  · exact h1.off (updPulse_keeps (offClock_of rfl) (Keeps.refl _))
  · exact h1.off (routePulse5_offClock (Keeps.refl _))
  · exact h1.off (gpioFire_keeps (offClock_of rfl) (Keeps.refl _))
  · exact h1.off (tteOpen_keeps (offClock_of rfl) (Keeps.refl _))

theorem cmpFire {n t : Nat} {skip : Bool} (h : CountKept r s) : CountKept r (cmpFire n t skip s) := by
  unfold Machine.cmpFire
  extract_lets +onlyGivenNames locked s1
  have h1 : CountKept r s1 := ((h.unit (f := R.CMPn_CST_fired n) 1 (by decide : 0 + 1 ≤ 32) (cmpCstAddr n)).setFld (f := R.NTB_IFLG_trig) 1
    (by decide) (by decide)).unit (f := R.CMPn_CST_lockd n) (b2n locked) (by decide : 3 + 1 ≤ 32) (cmpCstAddr n)
  clear_value s1
  extract_lets +onlyGivenNames s2
  have h2 : CountKept r s2 := ite (h1.unit (f := R.CMPn_CST_skip n) 1 (by decide : 1 + 1 ≤ 32) (cmpCstAddr n)) h1
  clear_value s2
  extract_lets +onlyGivenNames fw s3
  have h3 : CountKept r s3 := ite (h2.off (intervalChange_offClock (Keeps.refl _))) h2
  clear_value s3
  extract_lets +onlyGivenNames s4
  have h4 : CountKept r s4 := h3.routePulse
  clear_value s4
  split
  · exact ite (h4.cmpTime (n := 2) (by decide)) h4
  · exact ite (h4.off (meterSave_keeps (offClock_of rfl) (Keeps.refl _))) h4

theorem pathFire {n t : Nat} {skip : Bool} (h : CountKept r s) : CountKept r (pathFire n t skip s) := h.cmpDisarm.cmpFire

theorem bumpSkips (h : CountKept r s) (n k : Nat) : CountKept r (bump s (R.CMPn_CST_nskip n) k) :=
  h.unit _ (by decide : 8 + 8 ≤ 32) (cmpCstAddr n)

theorem timeFire {n : Nat} {skip : Bool} (h : CountKept r s) : CountKept r (timeFire n skip s) :=
  cmpFire (ite (h.cmpDisable n) (ite (h.bumpSkips _ _).setCmpNext h.setCmpNext))

/-- A path comparator's instant waits. -/
theorem wait (h : CountKept r s) (n t : Nat) : CountKept r { s with ntb := { s.ntb with waiting := sins s.ntb.waiting n t } } :=
  h.set_ntb rfl

theorem armWaiting {p : Nat} (h : CountKept r s) : CountKept r (armWaiting p s) := by
  refine h.upTo fun n t ht => ite ?_ ht
  extract_lets +onlyGivenNames s1
  have h1 : CountKept r s1 := by
    unfold s1
    split
    · exact ht.pathFire
    · exact ht
  exact h1.wait n _

theorem jumpFire {boundary : Bool} {p : Nat} (h : CountKept r s) : CountKept r (jumpFire boundary p s) := by
  refine h.upTo fun n t ht => ?_
  extract_lets +onlyGivenNames matched at_
  split
  · exact ite (ite (ite (ht.pathFire.bumpSkips _ _) (ht.pathFire.wait n _)) ht.pathFire) ht
  · exact ite (ite ht.pathFire (ht.wait n _)) (ite ht.timeFire ht)

theorem cmpPlenCheck (h : CountKept r s) : CountKept r (cmpPlenCheck s) :=
  h.upTo fun n _ ht => ite ((ht.cmpDisable n).cfgErr.post _ _ _) ht

/-! ### The boundary in the other blocks -/

theorem becomeStandby (h : CountKept r s) : CountKept r (becomeStandby s) := by
  unfold Machine.becomeStandby
  extract_lets +onlyGivenNames s1
  have h1 : Keeps offClock s s1 := setFld_keeps (offClock_of rfl) (lower_keeps (offClock_of rfl) (lower_keeps (offClock_of rfl)
    (setFld_keeps (offClock_of rfl) (Keeps.refl s))))
  clear_value s1
  extract_lets +onlyGivenNames s2
  have h2 : Keeps offClock s s2 := fwField_keeps (offClock_of rfl) (fun _ _ _ _ _ => tknWritten_offClock)
    (fwField_keeps (offClock_of rfl) (fun _ _ _ _ _ => tknWritten_offClock) h1)
  clear_value s2
  have hoff : CountKept r (Machine.cmpOff 0 s2) := (h.off h2).cmpOff (by decide)
  extract_lets +onlyGivenNames s3
  have h3 : Keeps offClock (Machine.cmpOff 0 s2) s3 := fwField_keeps (offClock_of rfl)
    (fun _ _ _ _ _ k => lfeWritten_keeps (offClock_of rfl) k) (Keeps.refl _)
  clear_value s3
  extract_lets +onlyGivenNames s4
  have h4 : Keeps offClock (Machine.cmpOff 0 s2) s4 := fwField_keeps (offClock_of rfl)
    (fun _ _ _ _ _ k => rfeWritten_keeps (offClock_of rfl) k)
    (fwField_keeps (offClock_of rfl) (fun _ _ _ _ _ k => rfeWritten_keeps (offClock_of rfl) k) h3)
  clear_value s4
  exact hoff.off (setTkn_keeps (offClock_of rfl) (streamReset_keeps (offClock_of rfl) (tteReopen_keeps (offClock_of rfl) h4)))

theorem handoverBoundary {p : Nat} (h : CountKept r s) : CountKept r (handoverBoundary p s) := by
  unfold Machine.handoverBoundary
  extract_lets +onlyGivenNames now_ _ s1
  have h1 : Keeps offClock s s1 := setTkn_keeps (offClock_of rfl) (Keeps.refl s)
  clear_value s1
  extract_lets +onlyGivenNames s2
  have h2 : Keeps offClock s s2 := Keeps.ite (raise_keeps (offClock_of rfl) h1) h1
  clear_value s2
  split
  · refine ite (h.off h2) ?_
    extract_lets +onlyGivenNames _ s3
    have h3 : Keeps offClock s s3 := post_keeps (offClock_of rfl) (setTkn_keeps (offClock_of rfl) h2)
    clear_value s3
    refine ite (h.off (setTkn_keeps (offClock_of rfl) h3)) ?_
    extract_lets +onlyGivenNames _ s4
    have h4 : Keeps offClock s s4 := Keeps.ite (restartSoon_keeps (offClock_of rfl) (setUpd_keeps (offClock_of rfl) h3)) h3
    exact (h.off h4).becomeStandby
  · exact h.off h2

end CountKept

end

end Sys2Proof.Machine

namespace Sys2Proof.Machine

open Sys2Proof

section
variable {s t : State}

/-! ### The path boundary (R74) -/

/-- What a boundary shows of itself in NTB. -/
def boundaryShown (p : Nat) (s : State) : State :=
  let s := raise { s with ntb := { s.ntb with path := p } } R.NTB_IFLG_path
  if p % 64 = 0 then raise s R.NTB_IFLG_bint else s

/-- The count after a boundary to path `p`: the path number and the boundary's flags, and nothing else of it. -/
structure Passed (p : Nat) (s t : State) : Prop where
  canon : Canon t
  ntb : t.ntb = { s.ntb with path := p, waiting := t.ntb.waiting, pulseAt := t.ntb.pulseAt, pulsed := t.ntb.pulsed, pulses := t.ntb.pulses }
  path : fld t R.NTB_IFLG_path = 1
  bint : p % 64 = 0 → fld t R.NTB_IFLG_bint = 1
  fields : ∀ f ∈ countFields, R.NTB_IFLG_path.apart f = true → R.NTB_IFLG_bint.apart f = true → fld t f = fld s f

theorem boundaryShown_passed (c : Canon s) (p : Nat) : Passed p s (boundaryShown p s) := by
  have c1 : Canon { s with ntb := { s.ntb with path := p } } := (Keeps.set_ntb (Sub.refl _) (Keeps.refl s)).canon c
  have c2 := canon_setFld c1 R.NTB_IFLG_path 1
  have h1 := fld_raise_self c1.regs.1 (f := R.NTB_IFLG_path) (by decide) (by decide)
  have told : ∀ f : Field, R.NTB_IFLG_path.apart f = true → fld (raise { s with ntb := { s.ntb with path := p } } R.NTB_IFLG_path) f = fld s f :=
    fun f hf => fld_raise_apart c1.regs.1 (by decide) hf
  unfold boundaryShown
  by_cases hp : p % 64 = 0
  · rw [if_pos hp]
    exact ⟨canon_setFld c2 _ 1, rfl, (fld_raise_apart c2.regs.1 (by decide) (by decide)).trans h1,
      fun _ => fld_raise_self c2.regs.1 (by decide) (by decide),
      fun f _ h h' => (fld_raise_apart c2.regs.1 (by decide) h').trans (told f h)⟩
  · rw [if_neg hp]
    exact ⟨c2, rfl, h1, fun h => absurd h hp, fun f _ h _ => told f h⟩

/-- Beyond what it shows, a boundary leaves the count alone, in every block. -/
theorem pathBoundary_countKept (p : Nat) (obs : PathObs) (s : State) :
    CountKept (boundaryShown p (radioBoundary p obs s)) (pathBoundary p obs s) := by
  unfold pathBoundary
  extract_lets +onlyGivenNames s0 _ s1 s2 s3
  have h3 : CountKept (boundaryShown p s0) s3 := CountKept.refl s3
  change CountKept (boundaryShown p s0) _
  clear_value s3
  extract_lets +onlyGivenNames s4
  have h4 : CountKept (boundaryShown p s0) s4 :=
    h3.off (transferShadows_keeps (offClock_of rfl) (transferShadows_keeps (offClock_of rfl) (Keeps.refl _)))
  clear_value s4
  extract_lets +onlyGivenNames plan s5
  have h5 : CountKept (boundaryShown p s0) s5 :=
    CountKept.ite (h4.off (transferShadows_keeps (offClock_of rfl) (transferShadows_keeps (offClock_of rfl) (Keeps.refl _)))) h4
  clear_value s5
  extract_lets +onlyGivenNames s6
  have h6 : CountKept (boundaryShown p s0) s6 := CountKept.ite h5 (h5.off (raise_keeps (offClock_of rfl) (Keeps.refl _)))
  clear_value s6
  extract_lets +onlyGivenNames s7
  have h7 : CountKept (boundaryShown p s0) s7 := CountKept.ite (h6.off (tokenBoundary_offClock (Keeps.refl _))) h6
  clear_value s7
  extract_lets +onlyGivenNames s8
  have h8 : CountKept (boundaryShown p s0) s8 := h7.handoverBoundary
  clear_value s8
  extract_lets +onlyGivenNames s9
  have h9 : CountKept (boundaryShown p s0) s9 := CountKept.ite (h8.off (radioTimetable_offClock (Keeps.refl _))) h8
  clear_value s9
  exact h9.off (rfeShow_keeps (offClock_of rfl) (firmwareBoundary_offClock (tteBoundary_offClock (Keeps.refl _))))

theorem Passed.kept {p : Nat} {u : State} (h : Passed p s t) (k : CountKept t u) : Passed p s u where
  canon := k.canon h.canon
  ntb := by rw [k.ntb, h.ntb]
  path := (k.fields h.canon _ (by decide)).trans h.path
  bint hp := (k.fields h.canon _ (by decide)).trans (h.bint hp)
  fields f hf h1 h2 := (k.fields h.canon f hf).trans (h.fields f hf h1 h2)

theorem pathBoundary_passed (c : Canon s) (p : Nat) (obs : PathObs) : Passed p s (pathBoundary p obs s) := by
  have k := radioBoundary_keeps (m := offClock) (b0 := p) (b1 := obs) (offClock_of rfl) (Keeps.refl s)
  have hn : (radioBoundary p obs s).ntb = s.ntb := k.parts .ntb (by decide)
  have h := boundaryShown_passed (k.canon c) p
  have h' : Passed p s (boundaryShown p (radioBoundary p obs s)) :=
    ⟨h.canon, by rw [h.ntb, hn], h.path, h.bint, fun f hf h1 h2 =>
      (h.fields f hf h1 h2).trans (k.fld_eq c (CountKept.countFields_block f hf))⟩
  exact h'.kept (pathBoundary_countKept p obs s)

theorem pathClock_passed (c : Canon s) (obs : PathObs) : Passed (netNs s / pathLen s % 2 ^ 48) s (pathClock obs s) :=
  (pathBoundary_passed c _ obs).kept (CountKept.refl _).armWaiting

theorem exec_pathBoundary (obs : PathObs) (hb : boundaryDue s = true) (hp : plenDue s = false) :
    exec (.pathBoundary obs) s = .next (pathClock obs s) :=
  congrArg _ (if_pos (by rw [hb, hp]; rfl))

/-! ### A new path length (R75) -/

/-- NTB holds one shadow that waits for a path length's instant. -/
theorem waitsFor_plen (k : Nat) : waitsFor 2 .plen k = decide (k = shadowKey R.NTB_PATHCFG_plen) := by
  have row : ∀ r ∈ Regs.table 2, ∀ f ∈ r.fields, f.timing = .shadow .plen →
      r = ⟨0x4002001C, 0x4, 1, 0x4, 1, [⟨0, 2, .rw, .shadow .plen, 0⟩]⟩ ∧ f.lsb = 0 := by decide
  rw [Bool.eq_iff_iff, decide_eq_true_eq]
  constructor
  · intro h
    unfold waitsFor at h
    obtain ⟨hb, h⟩ := (Bool.and_eq_true _ _).mp h
    have hb : blockIndex (k / 32) = 2 := by simpa using hb
    split at h
    · rename_i f hf
      unfold fieldInfoAt regAt at hf
      rw [hb] at hf
      split at hf
      · rename_i r hr
        obtain ⟨hrow, hlsb⟩ := row r (List.mem_of_find?_eq_some hr) f (List.mem_of_find?_eq_some hf) (by simpa using h)
        have hcov := List.find?_some hr
        have hl := List.find?_some hf
        rw [hrow] at hcov
        have hl : f.lsb = k % 32 := by simpa using hl
        simp [RegInfo.covers] at hcov
        simp [shadowKey, R.NTB_PATHCFG_plen, A.NTB_PATHCFG]
        omega
      · cases hf
    · cases h
  · rintro rfl
    decide

/-- The entries of a rising map at one key are the one it finds there. -/
theorem filter_key {α : Type} {l : List (Nat × α)} (h : Rising l) (k : Nat) :
    l.filter (fun p => decide (p.1 = k)) = (slook l k).toList.map (fun v => (k, v)) := by
  induction l with
  | nil => rfl
  | cons p l ih =>
    obtain ⟨k', v⟩ := p
    obtain ⟨hlt, hl⟩ := List.pairwise_cons.1 h
    have none_at : k ≤ k' → l.filter (fun p => decide (p.1 = k)) = [] := fun hk =>
      List.filter_eq_nil_iff.2 fun q hq => by
        have hq' := hlt q hq
        simp only at hq'
        simp
        omega
    simp only [List.filter_cons, slook, decide_eq_true_eq]
    by_cases hk : k = k'
    · rw [if_pos hk.symm, if_pos hk, none_at (by omega), hk]
      rfl
    · rw [if_neg (Ne.symm hk), if_neg hk]
      by_cases hk' : k < k'
      · rw [if_pos hk', none_at (by omega)]
        rfl
      · rw [if_neg hk', ih hl]

/-- What waits for a path length's instant is the path length alone. -/
theorem transferShadows_plen (c : Canon s) : transferShadows s 2 .plen =
    match slook s.shadows (shadowKey R.NTB_PATHCFG_plen) with
    | some v => setFld { s with shadows := sdel s.shadows (shadowKey R.NTB_PATHCFG_plen) } R.NTB_PATHCFG_plen v
    | none => s := by
  unfold transferShadows
  simp only [waitsFor_plen]
  rw [filter_key c.shadows.1]
  have hf : fieldInfoAt (shadowKey R.NTB_PATHCFG_plen / 32) (shadowKey R.NTB_PATHCFG_plen % 32) = some ⟨0, 2, .rw, .shadow .plen, 0⟩ := by
    decide
  cases slook s.shadows (shadowKey R.NTB_PATHCFG_plen) with
  | none => rfl
  | some v =>
    simp only [applyShadows, Option.toList_some, List.map_cons, List.map_nil, List.foldl_cons, List.foldl_nil, hf]
    rfl

/-- A path length that has waited: the register takes the value it was read with, and NTB's other fields stand. -/
theorem transferShadows_plen_fld (c : Canon s) : Canon (transferShadows s 2 .plen) ∧ (transferShadows s 2 .plen).ntb = s.ntb ∧
    fld (transferShadows s 2 .plen) R.NTB_PATHCFG_plen = fldRead s R.NTB_PATHCFG_plen ∧
    ∀ f : Field, R.NTB_PATHCFG_plen.apart f = true → fld (transferShadows s 2 .plen) f = fld s f := by
  refine ⟨(transferShadows_keeps (m := 2 ^ 100 - 1) ((Sub.refl _).mono rfl) (Keeps.refl s)).canon c, ?_⟩
  have hlt : fldRead s R.NTB_PATHCFG_plen < 2 ^ 2 :=
    fldRead_lt (a := A.NTB_PATHCFG) (fi := ⟨0, 2, .rw, .shadow .plen, 0⟩) c (by decide) (by decide)
  rw [transferShadows_plen c]
  unfold fldRead at hlt ⊢
  cases h : slook s.shadows (shadowKey R.NTB_PATHCFG_plen) with
  | none => exact ⟨rfl, rfl, fun _ _ => rfl⟩
  | some v =>
    rw [h] at hlt
    exact ⟨rfl, (fld_setFld_self c.regs.1 _ v (by decide)).trans (Nat.mod_eq_of_lt hlt),
      fun f hf => fld_setFld_apart (s := { s with shadows := sdel s.shadows (shadowKey R.NTB_PATHCFG_plen) }) c.regs.1 v (by decide) hf⟩

/-- The count after a new path length came into force: the length, its flag, and nothing else of it. -/
structure Relengthed (s t : State) : Prop where
  canon : Canon t
  ntb : t.ntb = { s.ntb with plenAt := none, waiting := t.ntb.waiting, pulseAt := t.ntb.pulseAt, pulsed := t.ntb.pulsed, pulses := t.ntb.pulses }
  act : fld t R.NTB_STAT_plen_act = fldRead s R.NTB_PATHCFG_plen
  cfg : fld t R.NTB_PATHCFG_plen = fldRead s R.NTB_PATHCFG_plen
  flag : fld t R.NTB_IFLG_plen = 1
  fields : ∀ f : Field, f ∈ [R.NTB_STAT_tstate, R.NTB_STAT_adj_busy, R.NTB_IFLG_jump] → fld t f = fld s f

theorem plenSwitch_relengthed (c : Canon s) : Relengthed s (plenSwitch s) := by
  have c0 : Canon { s with ntb := { s.ntb with plenAt := none } } := (Keeps.set_ntb (Sub.refl _) (Keeps.refl s)).canon c
  unfold plenSwitch
  extract_lets +onlyGivenNames _ s1
  obtain ⟨c1, hn, hcfg, hother⟩ := transferShadows_plen_fld c0
  have hlt := fld_lt s1 R.NTB_PATHCFG_plen
  have c2 := canon_setFld c1 R.NTB_STAT_plen_act (fld s1 R.NTB_PATHCFG_plen)
  have c3 := canon_setFld c2 R.NTB_IFLG_plen 1
  have k : CountKept _ (cmpPlenCheck (raise (setFld s1 R.NTB_STAT_plen_act (fld s1 R.NTB_PATHCFG_plen)) R.NTB_IFLG_plen)) :=
    (CountKept.refl _).cmpPlenCheck
  have hn2 : (raise (setFld s1 R.NTB_STAT_plen_act (fld s1 R.NTB_PATHCFG_plen)) R.NTB_IFLG_plen).ntb = { s.ntb with plenAt := none } := hn
  have told : ∀ f : Field, R.NTB_STAT_plen_act.apart f = true → R.NTB_IFLG_plen.apart f = true →
      fld (raise (setFld s1 R.NTB_STAT_plen_act (fld s1 R.NTB_PATHCFG_plen)) R.NTB_IFLG_plen) f = fld s1 f :=
    fun f h1 h2 => (fld_raise_apart c2.regs.1 (by decide) h2).trans (fld_setFld_apart c1.regs.1 _ (by decide) h1)
  refine ⟨k.canon c3, by rw [k.ntb, hn2], ?_, ?_, ?_, ?_⟩
  · rw [k.fields c3 _ (by decide)]
    exact (fld_raise_apart c2.regs.1 (by decide) (by decide)).trans ((fld_setFld_self c1.regs.1 _ _ (by decide)).trans
      ((Nat.mod_eq_of_lt hlt).trans hcfg))
  · rw [k.fields c3 _ (by decide), told _ (by decide) (by decide)]
    exact hcfg
  · rw [k.fields c3 _ (by decide)]
    exact fld_raise_self c2.regs.1 (by decide) (by decide)
  · intro f hf
    have ha : ∀ f ∈ [R.NTB_STAT_tstate, R.NTB_STAT_adj_busy, R.NTB_IFLG_jump], f ∈ countFields ∧
        R.NTB_STAT_plen_act.apart f = true ∧ R.NTB_IFLG_plen.apart f = true ∧ R.NTB_PATHCFG_plen.apart f = true := by decide
    obtain ⟨hf', h1, h2, h3⟩ := ha f hf
    rw [k.fields c3 f hf', told f h1 h2]
    exact hother f h3

theorem Relengthed.netNs (h : Relengthed s t) : netNs t = netNs s := by
  unfold Machine.netNs
  rw [h.ntb]

theorem exec_pathLengthChange (obs : PathObs) (hp : plenDue s = true) :
    exec (.pathLengthChange obs) s = .next (pathClock obs (plenSwitch s)) :=
  congrArg _ (if_pos hp)

/-- A new path length and the boundary of its tick. -/
theorem pathLengthChange_effect (c : Canon s) (obs : PathObs) (hp : plenDue s = true) : Goes (exec (.pathLengthChange obs) s) fun t =>
    fld t R.NTB_STAT_plen_act = fldRead s R.NTB_PATHCFG_plen ∧ fld t R.NTB_PATHCFG_plen = fldRead s R.NTB_PATHCFG_plen ∧
    isSet t R.NTB_IFLG_plen = true ∧ t.ntb.plenAt = none ∧ t.ntb.path = netNs s / plenNs (fldRead s R.NTB_PATHCFG_plen) % 2 ^ 48 := by
  have h := plenSwitch_relengthed c
  have k := pathClock_passed h.canon obs
  rw [exec_pathLengthChange obs hp]
  refine ⟨?_, ?_, ?_, ?_, ?_⟩
  · exact (k.fields _ (by decide) (by decide) (by decide)).trans h.act
  · exact (k.fields _ (by decide) (by decide) (by decide)).trans h.cfg
  · exact decide_eq_true ((k.fields _ (by decide) (by decide) (by decide)).trans h.flag)
  · rw [k.ntb, h.ntb]
  · rw [k.ntb, h.netNs]
    show _ / plenNs (fld _ _) % _ = _
    rw [h.act]

/-- A boundary of the path clock. -/
theorem pathBoundary_effect (c : Canon s) (obs : PathObs) (hb : boundaryDue s = true) (hp : plenDue s = false) :
    Goes (exec (.pathBoundary obs) s) fun t =>
      t.ntb.path = netNs s / pathLen s % 2 ^ 48 ∧ isSet t R.NTB_IFLG_path = true ∧
      (netNs s / pathLen s % 64 = 0 → isSet t R.NTB_IFLG_bint = true) ∧
      t.ntb.sec = s.ntb.sec ∧ t.ntb.ns = s.ntb.ns ∧ t.ntb.frac = s.ntb.frac := by
  have k := pathClock_passed c obs
  rw [exec_pathBoundary obs hb hp]
  have h64 : netNs s / pathLen s % 2 ^ 48 % 64 = netNs s / pathLen s % 64 := Nat.mod_mod_of_dvd _ (by decide)
  refine ⟨?_, decide_eq_true k.path, fun h => decide_eq_true (k.bint (h64.trans h)), ?_, ?_, ?_⟩ <;> rw [k.ntb]

end

end Sys2Proof.Machine

namespace Sys2Proof.Machine

open Sys2Proof

section
variable {r s t : State}

/-! ### Sets of the time (R60, R61, R64) -/

/-- The fields that a set of the time leaves in NTB. -/
def timeFields : List Field := [R.NTB_STAT_tstate, R.NTB_STAT_adj_busy, R.NTB_IFLG_jump]

/-- The time, the request in hand and the fields a set leaves stand as they were. -/
structure TimeStands (s t : State) : Prop where
  canon : Canon s → Canon t
  sec : t.ntb.sec = s.ntb.sec
  ns : t.ntb.ns = s.ntb.ns
  frac : t.ntb.frac = s.ntb.frac
  adj : t.ntb.adj = s.ntb.adj
  fields : Canon s → ∀ f ∈ timeFields, fld t f = fld s f

theorem timeFields_count : ∀ f ∈ timeFields, f ∈ countFields ∧ R.NTB_IFLG_path.apart f = true ∧ R.NTB_IFLG_bint.apart f = true := by
  decide

namespace TimeStands

theorem refl (s : State) : TimeStands s s := ⟨id, rfl, rfl, rfl, rfl, fun _ _ _ => rfl⟩

theorem trans (h : TimeStands r s) (k : TimeStands s t) : TimeStands r t :=
  ⟨fun c => k.canon (h.canon c), k.sec.trans h.sec, k.ns.trans h.ns, k.frac.trans h.frac, k.adj.trans h.adj,
    fun c f hf => (k.fields (h.canon c) f hf).trans (h.fields c f hf)⟩

theorem ite {c : Prop} [Decidable c] (h : TimeStands r s) (k : TimeStands r t) : TimeStands r (if c then s else t) := by
  split <;> assumption

theorem kept (h : TimeStands r s) (k : CountKept s t) : TimeStands r t :=
  h.trans ⟨k.canon, by rw [k.ntb], by rw [k.ntb], by rw [k.ntb], by rw [k.ntb], fun c f hf => k.fields c f (timeFields_count f hf).1⟩

theorem off (h : TimeStands r s) (k : Keeps offClock s t) : TimeStands r t := h.kept ((CountKept.refl s).off k)

end TimeStands

theorem pathBoundary_timeStands (c : Canon s) (p : Nat) (obs : PathObs) : TimeStands s (pathBoundary p obs s) := by
  have k := pathBoundary_passed c p obs
  refine ⟨fun _ => k.canon, ?_, ?_, ?_, ?_, fun _ f hf => ?_⟩
  iterate 4 rw [k.ntb]
  obtain ⟨h, h1, h2⟩ := timeFields_count f hf
  exact k.fields f h h1 h2

theorem plenSwitch_timeStands (c : Canon s) : TimeStands s (plenSwitch s) := by
  have k := plenSwitch_relengthed c
  refine ⟨fun _ => k.canon, ?_, ?_, ?_, ?_, fun _ f hf => k.fields f hf⟩ <;> rw [k.ntb]

/-- The state in which a request is judged: it is gone, and the difference is noted. -/
def adjustSeen (d : Nat) (s : State) : State :=
  setFld (lower { s with ntb := { s.ntb with adj := none } } R.NTB_STAT_adj_busy) R.NTB_JDIFF_us d

theorem canon_adjustSeen (c : Canon s) (d : Nat) : Canon (adjustSeen d s) :=
  canon_setFld (canon_setFld ((Keeps.set_ntb (x0 := { s.ntb with adj := none }) (Sub.refl _) (Keeps.refl s)).canon c) _ _) _ _

theorem fld_adjustSeen (c : Canon s) (d : Nat) {f : Field} (h1 : R.NTB_STAT_adj_busy.apart f = true) (h2 : R.NTB_JDIFF_us.apart f = true) :
    fld (adjustSeen d s) f = fld s f :=
  (fld_setFld_apart (rising_lower (s := { s with ntb := { s.ntb with adj := none } }) c.regs.1) d (by decide) h2).trans
    (fld_lower_apart (s := { s with ntb := { s.ntb with adj := none } }) c.regs.1 (by decide) h1)

theorem adjBusy_adjustSeen (c : Canon s) (d : Nat) : fld (adjustSeen d s) R.NTB_STAT_adj_busy = 0 :=
  (fld_setFld_apart (rising_lower (s := { s with ntb := { s.ntb with adj := none } }) c.regs.1) d (by decide) (by decide)).trans
    (fld_lower_self (s := { s with ntb := { s.ntb with adj := none } }) c.regs.1 (by decide))

@[simp] theorem adjustSeen_ntb (d : Nat) (s : State) : (adjustSeen d s).ntb = { s.ntb with adj := none } := rfl

theorem netNs_adjustSeen (d : Nat) (s : State) : netNs (adjustSeen d s) = netNs s := by
  unfold netNs
  rw [adjustSeen_ntb]

/-- How far a set of the time to `r` would move it, in units of 2^-24 ns. -/
def setDistance (r : TimeAdj) (s : State) : Int :=
  ((r.sec * 1000000000 + r.ns : Nat) : Int) * 2 ^ 24 - ((netNs s : Nat) * 2 ^ 24 + s.ntb.frac : Nat)

/-- The count at the time a request asks for. -/
def timeAsked (r : TimeAdj) (x : NtbState) : NtbState :=
  let value : Int := r.sec * 1000000000 + r.ns
  { x with sec := unsigned 64 (value / 1000000000), ns := (value % 1000000000).toNat, frac := 0 }

/-- The time as a request sets it, with its flags. -/
def timeTaken (r : TimeAdj) (s : State) : State :=
  raise (setFld { s with ntb := timeAsked r s.ntb } R.NTB_STAT_tstate (if r.src then 2 else 1)) R.NTB_IFLG_jump

/-- What follows a time taken: the firmware's schedules, and after a forward jump the boundary and the comparators passed. -/
def jumpFollows (d : List Byte) (old tstate : Nat) (obs : PathObs) (s : State) : State :=
  let s := post 0x02 0x01 d s
  let s := if tstate = 0 then setNodes { s.nodes with startPath := netNs s / pathLen s } s else s
  let s := if s.pwr.started then schedEvaluate s else s
  if old < netNs s then
    let due := boundaryDue s
    let s := if due && plenDue s then plenSwitch s else s
    let p := netNs s / pathLen s % 2 ^ 48
    jumpFire due p (if due then pathBoundary p obs s else s)
  else s

theorem jumpFollows_timeStands (c : Canon s) (d : List Byte) (old tstate : Nat) (obs : PathObs) :
    TimeStands s (jumpFollows d old tstate obs s) := by
  unfold jumpFollows
  extract_lets +onlyGivenNames s1
  have h1 : TimeStands s s1 := (TimeStands.refl s).off (post_keeps (offClock_of rfl) (Keeps.refl s))
  clear_value s1
  extract_lets +onlyGivenNames _ s2
  have h2 : TimeStands s s2 := TimeStands.ite (h1.off (setNodes_keeps (offClock_of rfl) (Keeps.refl s1))) h1
  clear_value s2
  extract_lets +onlyGivenNames s3
  have h3 : TimeStands s s3 := TimeStands.ite (h2.off (schedEvaluate_keeps (offClock_of rfl) (Keeps.refl s2))) h2
  clear_value s3
  refine TimeStands.ite ?_ h3
  extract_lets +onlyGivenNames due s4 p
  have h4 : TimeStands s s4 := TimeStands.ite (h3.trans (plenSwitch_timeStands (h3.canon c))) h3
  have h5 : TimeStands s (if due then pathBoundary p obs s4 else s4) :=
    TimeStands.ite (h4.trans (pathBoundary_timeStands (h4.canon c) p obs)) h4
  exact h5.kept (CountKept.refl _).jumpFire

/-- A request to set the time at its tick, by how far it would move the time. -/
theorem adjustApply_set {q : TimeAdj} (hs : q.step = false) (obs : PathObs) : ∃ d : Nat, ∃ data : List Byte,
    adjustApply q obs s =
      if fld (adjustSeen d s) R.NTB_STAT_tstate = 2 ∧ fld (adjustSeen d s) R.NTB_GUARD_us * 1000 * 2 ^ 24 < (setDistance q s).natAbs then
        post 0x02 0x02 data (raise (adjustSeen d s) R.NTB_IFLG_jref)
      else jumpFollows data (netNs s) (fld (adjustSeen d s) R.NTB_STAT_tstate) obs (timeTaken q (adjustSeen d s)) := by
  refine ⟨jumpMicros (setDistance q s), leBytes 4 (jumpMicros (setDistance q s)), ?_⟩
  unfold adjustApply
  extract_lets +onlyGivenNames _ s1 at_ value diff s2 data
  have hvalue : value = (q.sec : Int) * 1000000000 + q.ns := by simp [value, hs]
  have hns : netNs s1 = netNs s := by unfold netNs; rfl
  have hfrac : s1.ntb.frac = s.ntb.frac := rfl
  have hdiff : diff = setDistance q s := by
    simp only [diff, at_, hs, hvalue, setDistance, hns, hfrac, Bool.false_eq_true, if_false]
    push_cast
    rfl
  have hs2 : s2 = adjustSeen (jumpMicros (setDistance q s)) s := by rw [← hdiff]; rfl
  have hdata : data = leBytes 4 (jumpMicros (setDistance q s)) := by rw [← hdiff]
  clear_value s2 data diff
  subst hs2 hdata hdiff
  rw [← netNs_adjustSeen (jumpMicros (setDistance q s)) s]
  generalize adjustSeen (jumpMicros (setDistance q s)) s = u
  extract_lets +onlyGivenNames old tstate new
  have hnew : new = (q.sec : Int) * 1000000000 + q.ns := by simp [new, hs, hvalue]
  clear_value new
  subst hnew
  unfold jumpFollows timeTaken timeAsked
  rfl

theorem timeAsked_eq {q : TimeAdj} (h1 : q.sec < 2 ^ 64) (h2 : q.ns < 1000000000) (x : NtbState) :
    timeAsked q x = { x with sec := q.sec, ns := q.ns, frac := 0 } := by
  have hsec : ((q.sec : Int) * 1000000000 + q.ns) / 1000000000 = q.sec := by omega
  have hns : (((q.sec : Int) * 1000000000 + q.ns) % 1000000000).toNat = q.ns := by omega
  have hu : unsigned 64 (q.sec : Int) = q.sec := by
    unfold unsigned
    omega
  unfold timeAsked
  simp only [hsec, hns, hu]

@[simp] theorem timeTaken_ntb (q : TimeAdj) (s : State) : (timeTaken q s).ntb = timeAsked q s.ntb := rfl

/-- What a taken time shows of itself. -/
theorem timeTaken_fields (c : Canon s) (q : TimeAdj) : Canon (timeTaken q s) ∧
    fld (timeTaken q s) R.NTB_STAT_tstate = (if q.src then 2 else 1) ∧ fld (timeTaken q s) R.NTB_IFLG_jump = 1 ∧
    fld (timeTaken q s) R.NTB_STAT_adj_busy = fld s R.NTB_STAT_adj_busy := by
  have c1 : Canon { s with ntb := timeAsked q s.ntb } := (Keeps.set_ntb (Sub.refl _) (Keeps.refl s)).canon c
  have hu : ∀ f, fld { s with ntb := timeAsked q s.ntb } f = fld s f := fld_of_regs rfl
  unfold timeTaken
  generalize ({ s with ntb := timeAsked q s.ntb } : State) = u at c1 hu ⊢
  have c2 := canon_setFld c1 R.NTB_STAT_tstate (if q.src then 2 else 1)
  refine ⟨canon_setFld c2 _ 1, ?_, fld_raise_self c2.regs.1 (by decide) (by decide), ?_⟩
  · refine (fld_raise_apart c2.regs.1 (by decide) (by decide)).trans ((fld_setFld_self c1.regs.1 _ _ (by decide)).trans ?_)
    split <;> rfl
  · exact (fld_raise_apart c2.regs.1 (by decide) (by decide)).trans
      ((fld_setFld_apart c1.regs.1 _ (by decide) (by decide)).trans (hu _))

theorem exec_timeAdjustApply {q : TimeAdj} (ha : s.ntb.adj = some q) (hd : q.due ≤ s.now) (obs : PathObs) :
    exec (.timeAdjustApply obs) s = .next (adjustApply q obs s) := by
  show execTimeAdjustApply obs s = _
  unfold execTimeAdjustApply
  rw [ha]
  simp only [hd, if_true]

/-- A set within the guard, or without valid time: the time is the value asked for. -/
theorem timeSet_taken (c : Canon s) {q : TimeAdj} (ha : s.ntb.adj = some q) (hd : q.due ≤ s.now) (hs : q.step = false)
    (h1 : q.sec < 2 ^ 64) (h2 : q.ns < 1000000000) (obs : PathObs)
    (hg : fld s R.NTB_STAT_tstate ≠ 2 ∨ (setDistance q s).natAbs ≤ fld s R.NTB_GUARD_us * 1000 * 2 ^ 24) :
    Goes (exec (.timeAdjustApply obs) s) fun t =>
      t.ntb.sec = q.sec ∧ t.ntb.ns = q.ns ∧ t.ntb.frac = 0 ∧ fld t R.NTB_STAT_tstate = (if q.src then 2 else 1) ∧
      isSet t R.NTB_IFLG_jump = true ∧ t.ntb.adj = none ∧ isSet t R.NTB_STAT_adj_busy = false := by
  obtain ⟨d, data, he⟩ := adjustApply_set hs obs (s := s)
  rw [fld_adjustSeen c d (by decide) (by decide), fld_adjustSeen c d (by decide) (by decide)] at he
  rw [exec_timeAdjustApply ha hd, he, if_neg (fun h => hg.elim (absurd h.1) (Nat.not_le.2 h.2))]
  obtain ⟨ct, hst, hj, hb⟩ := timeTaken_fields (canon_adjustSeen c d) q
  have hn := (timeTaken_ntb q (adjustSeen d s)).trans (timeAsked_eq h1 h2 _)
  have k := jumpFollows_timeStands ct data (netNs s) (fld s R.NTB_STAT_tstate) obs
  refine ⟨?_, ?_, ?_, ?_, ?_, ?_, ?_⟩
  · rw [k.sec, hn]
  · rw [k.ns, hn]
  · rw [k.frac, hn]
  · rw [k.fields ct _ (by decide), hst]
  · exact decide_eq_true ((k.fields ct _ (by decide)).trans hj)
  · rw [k.adj, hn, adjustSeen_ntb]
  · refine decide_eq_false ?_
    rw [k.fields ct _ (by decide), hb, adjBusy_adjustSeen c d]
    decide

/-- A set beyond the guard of a valid time is refused. -/
theorem timeSet_refused (c : Canon s) {q : TimeAdj} (ha : s.ntb.adj = some q) (hd : q.due ≤ s.now) (hs : q.step = false)
    (obs : PathObs) (ht : fld s R.NTB_STAT_tstate = 2) (hg : fld s R.NTB_GUARD_us * 1000 * 2 ^ 24 < (setDistance q s).natAbs) :
    Goes (exec (.timeAdjustApply obs) s) fun t => t.ntb = { s.ntb with adj := none } ∧ fld t R.NTB_STAT_tstate = 2 ∧
      isSet t R.NTB_IFLG_jref = true ∧ isSet t R.NTB_STAT_adj_busy = false := by
  obtain ⟨d, data, he⟩ := adjustApply_set hs obs (s := s)
  rw [fld_adjustSeen c d (by decide) (by decide), fld_adjustSeen c d (by decide) (by decide)] at he
  rw [exec_timeAdjustApply ha hd, he, if_pos ⟨ht, hg⟩]
  have cs := canon_adjustSeen c d
  have c1 : Canon (raise (adjustSeen d s) R.NTB_IFLG_jref) := canon_setFld cs _ 1
  refine ⟨?_, ?_, decide_eq_true ?_, decide_eq_false ?_⟩
  · exact post_same _ _ _ _ (p := .ntb) (by decide) (by decide)
  · rw [post_fld c1 _ _ _ (by decide), fld_raise_apart cs.regs.1 (by decide) (by decide), fld_adjustSeen c d (by decide) (by decide), ht]
  · rw [post_fld c1 _ _ _ (by decide)]
    exact fld_raise_self cs.regs.1 (by decide) (by decide)
  · rw [post_fld c1 _ _ _ (by decide), fld_raise_apart cs.regs.1 (by decide) (by decide), adjBusy_adjustSeen c d]
    decide

/-! ### The loss of the source (R67) -/

theorem sourceHoldExpiry_lost (c : Canon s) {at_ : Nat} (hf : s.ntb.fedAt = some at_) (ht : fld s R.NTB_STAT_tstate = 2)
    (hh : 50000000 * fld s R.NTB_HOLD_s ≤ s.now - at_) :
    Goes (exec .sourceHoldExpiry s) fun t => t.ntb = { s.ntb with fedAt := none } ∧ isSet t R.NTB_IFLG_srclost = true ∧
      (s.pwr.begun = true → ∃ e ∈ t.flt.list ++ t.flt.unlisted, e.code = 0x0502 ∧ e.source = 0) := by
  have c0 : Canon { s with ntb := { s.ntb with fedAt := none } } := (Keeps.set_ntb (Sub.refl _) (Keeps.refl s)).canon c
  have c1 : Canon (raise { s with ntb := { s.ntb with fedAt := none } } R.NTB_IFLG_srclost) := canon_setFld c0 _ 1
  have he : exec .sourceHoldExpiry s = .next (faultRaise 0x0502 0 true (post 0x02 0x03 []
      (raise { s with ntb := { s.ntb with fedAt := none } } R.NTB_IFLG_srclost))) := by
    show Host.Outcome.next (sourceHoldExpiry s) = _
    have hlate : ¬ s.now - at_ < secTicks (fld s R.NTB_HOLD_s) := by unfold secTicks; omega
    have ht' : fld { s with ntb := { s.ntb with fedAt := none } } R.NTB_STAT_tstate = 2 := ht
    unfold sourceHoldExpiry
    rw [hf]
    simp only [hlate, if_false, ht', if_true]
  rw [he]
  have hp : ∀ p : Part, p ≠ .regs → p ≠ .evr →
      p.same (raise { s with ntb := { s.ntb with fedAt := none } } R.NTB_IFLG_srclost) (post 0x02 0x03 [] _) :=
    fun p h1 h2 => post_same _ _ _ _ h1 h2
  refine ⟨?_, decide_eq_true ?_, fun hb => ?_⟩
  · exact (faultRaise_same (p := .ntb) (by decide) (by decide) (by decide)).trans (hp .ntb (by decide) (by decide))
  · rw [faultRaise_fld (canon_post c1 _ _ _) (by decide), post_fld c1 _ _ _ (by decide)]
    exact fld_raise_self c0.regs.1 (by decide) (by decide)
  · exact listed_faultRaise true ((congrArg PwrState.begun (hp .pwr (by decide) (by decide))).trans hb)

end

end Sys2Proof.Machine

namespace Sys2Proof.Machine

open Sys2Proof

section
variable {s t : State} {n : Nat}

/-! ### A time comparator's instant (R76) -/

/-- Each register of a comparator has its own address, above the registers of the count. -/
theorem cmpRegs_addr (n : Nat) : A.CMPn_NXT_SLO n = A.CMPn_CFG n + 0x4 ∧ A.CMPn_NXT_SHI n = A.CMPn_CFG n + 0x8 ∧
    A.CMPn_NXT_NS n = A.CMPn_CFG n + 0xC ∧ A.CMPn_PER_S n = A.CMPn_CFG n + 0x10 ∧ A.CMPn_PER_NS n = A.CMPn_CFG n + 0x14 ∧
    A.CMPn_CST n = A.CMPn_CFG n + 0x18 ∧ 0x40020100 ≤ A.CMPn_CFG n := by
  simp only [A.CMPn_NXT_SLO, A.CMPn_NXT_SHI, A.CMPn_NXT_NS, A.CMPn_PER_S, A.CMPn_PER_NS, A.CMPn_CST, A.CMPn_CFG]
  omega

theorem fld_setCmpNext (h : Rising s.regs) (v : Nat) {g : Field} (h1 : g.addr ≠ A.CMPn_NXT_SLO n) (h2 : g.addr ≠ A.CMPn_NXT_SHI n)
    (h3 : g.addr ≠ A.CMPn_NXT_NS n) : fld (setCmpNext n v s) g = fld s g := by
  unfold setCmpNext
  rw [fld_setFld_addr (rising_setFld (rising_setFld h _ _) _ _) _ _ _ h3, fld_setFld_addr (rising_setFld h _ _) _ _ _ h2,
    fld_setFld_addr h _ _ _ h1]

/-- A comparator's next instant reads as it was written. -/
theorem cmpNext_setCmpNext (h : Rising s.regs) {v : Nat} (hv : v < 2 ^ 64 * 1000000000) : cmpNext (setCmpNext n v s) n = v := by
  obtain ⟨e1, e2, e3, -⟩ := cmpRegs_addr n
  have h1 := rising_setFld h (R.CMPn_NXT_SLO_s n) (v / 1000000000 % 2 ^ 32)
  have h2 := rising_setFld h1 (R.CMPn_NXT_SHI_s n) (v / 1000000000 / 2 ^ 32 % 2 ^ 32)
  have hslo : fld (setCmpNext n v s) (R.CMPn_NXT_SLO_s n) = v / 1000000000 % 2 ^ 32 := by
    unfold setCmpNext
    rw [fld_setFld_addr h2 _ _ _ (by simp only [R.CMPn_NXT_SLO_s, R.CMPn_NXT_NS_ns]; omega),
      fld_setFld_addr h1 _ _ _ (by simp only [R.CMPn_NXT_SLO_s, R.CMPn_NXT_SHI_s]; omega),
      fld_setFld_self h _ _ (by decide : 0 + 32 ≤ 32)]
    exact Nat.mod_mod _ _
  have hshi : fld (setCmpNext n v s) (R.CMPn_NXT_SHI_s n) = v / 1000000000 / 2 ^ 32 % 2 ^ 32 := by
    unfold setCmpNext
    rw [fld_setFld_addr h2 _ _ _ (by simp only [R.CMPn_NXT_SHI_s, R.CMPn_NXT_NS_ns]; omega),
      fld_setFld_self h1 _ _ (by decide : 0 + 32 ≤ 32)]
    exact Nat.mod_mod _ _
  have hns : fld (setCmpNext n v s) (R.CMPn_NXT_NS_ns n) = v % 1000000000 % 2 ^ 30 :=
    fld_setFld_self h2 _ _ (by decide : 0 + 30 ≤ 32)
  unfold cmpNext
  rw [hslo, hshi, hns]
  omega

/-- What a comparator that fires shows of itself. -/
def firedShown (n : Nat) (locked : Bool) (s : State) : State :=
  setBool (raise (raise s (R.CMPn_CST_fired n)) R.NTB_IFLG_trig) (R.CMPn_CST_lockd n) locked

theorem fld_firedShown (h : Rising s.regs) (b : Bool) {g : Field} (h1 : g.addr ≠ A.CMPn_CST n) (h2 : g.addr ≠ A.NTB_IFLG) :
    fld (firedShown n b s) g = fld s g := by
  unfold firedShown setBool raise
  rw [fld_setFld_addr (rising_setFld (rising_setFld h _ _) _ _) _ _ _ h1, fld_setFld_addr (rising_setFld h _ _) _ _ _ h2,
    fld_setFld_addr h _ _ _ h1]

theorem firedShown_shows (h : Rising s.regs) (b : Bool) : isSet (firedShown n b s) (R.CMPn_CST_fired n) = true ∧
    isSet (firedShown n b s) R.NTB_IFLG_trig = true ∧ isSet (firedShown n b s) (R.CMPn_CST_lockd n) = b := by
  obtain ⟨-, -, -, -, -, ecst, hlo⟩ := cmpRegs_addr n
  have hne : A.CMPn_CST n ≠ A.NTB_IFLG := by simp only [A.NTB_IFLG]; omega
  have h1 := rising_raise h (f := R.CMPn_CST_fired n)
  have h2 := rising_raise h1 (f := R.NTB_IFLG_trig)
  have hap : (R.CMPn_CST_lockd n).apart (R.CMPn_CST_fired n) = true := by simp [Field.apart, R.CMPn_CST_lockd, R.CMPn_CST_fired]
  refine ⟨decide_eq_true ?_, decide_eq_true ?_, ?_⟩
  · refine (fld_setFld_apart h2 _ (by decide : 3 + 1 ≤ 32) hap).trans ?_
    exact (fld_setFld_addr h1 _ _ _ hne).trans (fld_raise_self h (by decide : 0 + 1 ≤ 32) (by decide : 0 < 1))
  · exact (fld_setFld_addr h2 _ _ _ (Ne.symm hne)).trans (fld_raise_self h1 (by decide) (by decide))
  · rw [isSet_eq_decide]
    unfold firedShown
    rw [fld_setBool_self h2 b (by decide : 3 + 1 ≤ 32) (by decide : 0 < 1)]
    cases b <;> rfl

/-- A comparator without a destination, beside the firmware's own two. -/
theorem cmpFire_unrouted (h : Rising s.regs) (h2 : n ≠ 2) (h5 : n ≠ 5) (hr : fld s (R.CMPn_CFG_route n) = 0) (at_ : Nat) :
    cmpFire n at_ false s = firedShown n (timeLocked s) s := by
  obtain ⟨-, -, -, -, -, ecst, hlo⟩ := cmpRegs_addr n
  have hroute : fld (firedShown n (timeLocked s) s) (R.CMPn_CFG_route n) = 0 := by
    rw [fld_firedShown h _ (by simp only [R.CMPn_CFG_route]; omega) (by simp only [R.CMPn_CFG_route, A.NTB_IFLG]; omega), hr]
  have hstay : routePulse n (timeLocked s) (firedShown n (timeLocked s) s) = firedShown n (timeLocked s) s := by
    unfold routePulse
    simp only [hroute, true_or, if_true]
  unfold cmpFire
  simp only [h2, h5, false_and, Bool.false_eq_true, if_false]
  exact hstay

/-- The comparator's registers after its instant, before it fires: it is off, or its next instant lies a period on. -/
def timeAdvanced (n : Nat) (s : State) : State :=
  if cmpPeriod s n = 0 then lower s (R.CMPn_CFG_en n) else setCmpNext n (cmpNext s n + cmpPeriod s n) s

theorem rising_timeAdvanced (h : Rising s.regs) : Rising (timeAdvanced n s).regs := by
  unfold timeAdvanced
  split
  · exact rising_lower h
  · exact rising_setFld (rising_setFld (rising_setFld h _ _) _ _) _ _

/-- Beyond the comparator's own registers nothing has changed. -/
theorem fld_timeAdvanced (h : Rising s.regs) {g : Field} (hg : g.addr < 0x40020100) : fld (timeAdvanced n s) g = fld s g := by
  obtain ⟨e1, e2, e3, -, -, -, hlo⟩ := cmpRegs_addr n
  unfold timeAdvanced
  split
  · exact fld_setFld_addr h _ _ _ (by simp only [R.CMPn_CFG_en]; omega)
  · exact fld_setCmpNext h _ (by omega) (by omega) (by omega)

theorem route_timeAdvanced (h : Rising s.regs) : fld (timeAdvanced n s) (R.CMPn_CFG_route n) = fld s (R.CMPn_CFG_route n) := by
  obtain ⟨e1, e2, e3, -⟩ := cmpRegs_addr n
  unfold timeAdvanced
  split
  · exact fld_lower_apart h (by decide : 0 + 1 ≤ 32) (by simp [Field.apart, R.CMPn_CFG_en, R.CMPn_CFG_route])
  · exact fld_setCmpNext h _ (by simp only [R.CMPn_CFG_route]; omega) (by simp only [R.CMPn_CFG_route]; omega)
      (by simp only [R.CMPn_CFG_route]; omega)

theorem timeLocked_timeAdvanced (h : Rising s.regs) : timeLocked (timeAdvanced n s) = timeLocked s := by
  have hp : (timeAdvanced n s).ntb = s.ntb ∧ (timeAdvanced n s).now = s.now := by
    unfold timeAdvanced setCmpNext
    split <;> simp only [lower_fields, setFld_fields, and_self]
  unfold timeLocked
  rw [fld_timeAdvanced h (by decide), fld_timeAdvanced h (by decide), hp.1, hp.2]

/-- A time comparator with no destination at its instant. -/
theorem exec_comparatorFire (c : Canon s) (hn : n < 16) (h25 : n ∉ [2, 5]) (hw : slook s.ntb.waiting n = none)
    (he : isSet s (R.CMPn_CFG_en n) = true) (hm : isSet s (R.CMPn_CFG_mode n) = false) (hr : fld s (R.CMPn_CFG_route n) = 0)
    (ht : cmpNext s n ≤ netNs s) :
    exec (.comparatorFire n) s = .next (firedShown n (timeLocked s) (timeAdvanced n s)) := by
  show Host.Outcome.next (comparatorFire n s) = _
  have hfire : comparatorFire n s = timeFire n false s := by
    unfold comparatorFire
    rw [if_neg (by omega), hw]
    simp [he, hm, ht]
  have hadv : timeFire n false s = cmpFire n (cmpNext s n) false (timeAdvanced n s) := by
    unfold timeFire timeAdvanced
    simp only [Bool.false_eq_true, if_false]
  rw [hfire, hadv, cmpFire_unrouted (rising_timeAdvanced c.regs.1) (fun h => h25 (by simp [h])) (fun h => h25 (by simp [h]))
    ((route_timeAdvanced c.regs.1).trans hr), timeLocked_timeAdvanced c.regs.1]

theorem cmpNext_of_fld (h : ∀ g : Field, g.addr ∈ [A.CMPn_NXT_SLO n, A.CMPn_NXT_SHI n, A.CMPn_NXT_NS n] → fld t g = fld s g) :
    cmpNext t n = cmpNext s n := by
  unfold cmpNext
  rw [h (R.CMPn_NXT_SLO_s n) (by simp [R.CMPn_NXT_SLO_s]), h (R.CMPn_NXT_SHI_s n) (by simp [R.CMPn_NXT_SHI_s]),
    h (R.CMPn_NXT_NS_ns n) (by simp [R.CMPn_NXT_NS_ns])]

theorem comparatorFire_effect (c : Canon s) (hn : n < 16) (h25 : n ∉ [2, 5]) (hw : slook s.ntb.waiting n = none)
    (he : isSet s (R.CMPn_CFG_en n) = true) (hm : isSet s (R.CMPn_CFG_mode n) = false) (hr : fld s (R.CMPn_CFG_route n) = 0)
    (ht : cmpNext s n ≤ netNs s) (hmax : netNs s < 2 ^ 62) :
    Goes (exec (.comparatorFire n) s) fun t => isSet t (R.CMPn_CST_fired n) = true ∧ isSet t R.NTB_IFLG_trig = true ∧
      isSet t (R.CMPn_CST_lockd n) = timeLocked s ∧ (cmpPeriod s n = 0 → isSet t (R.CMPn_CFG_en n) = false) ∧
      (cmpPeriod s n ≠ 0 → cmpNext t n = cmpNext s n + cmpPeriod s n ∧ isSet t (R.CMPn_CFG_en n) = true) := by
  rw [exec_comparatorFire c hn h25 hw he hm hr ht]
  obtain ⟨e1, e2, e3, -, -, ecst, hlo⟩ := cmpRegs_addr n
  have ha := rising_timeAdvanced c.regs.1 (n := n)
  obtain ⟨hfired, htrig, hlock⟩ := firedShown_shows (n := n) ha (timeLocked s)
  have hen : isSet (firedShown n (timeLocked s) (timeAdvanced n s)) (R.CMPn_CFG_en n) = isSet (timeAdvanced n s) (R.CMPn_CFG_en n) :=
    congrArg (· == 1) (fld_firedShown ha _ (by simp only [R.CMPn_CFG_en]; omega) (by simp only [R.CMPn_CFG_en, A.NTB_IFLG]; omega))
  refine ⟨hfired, htrig, hlock, fun hp => ?_, fun hp => ⟨?_, ?_⟩⟩
  · rw [hen, timeAdvanced, if_pos hp]
    exact isSet_lower c.regs.1 _ (by decide : 0 + 1 ≤ 32)
  · rw [cmpNext_of_fld (s := timeAdvanced n s) fun g hg => ?_, timeAdvanced, if_neg hp]
    · refine cmpNext_setCmpNext c.regs.1 ?_
      have h1 := fld_lt s (R.CMPn_PER_S_s n)
      have h2 := fld_lt s (R.CMPn_PER_NS_ns n)
      simp only [R.CMPn_PER_S_s, R.CMPn_PER_NS_ns] at h1 h2
      unfold cmpPeriod
      simp only [R.CMPn_PER_S_s, R.CMPn_PER_NS_ns]
      omega
    · simp only [List.mem_cons, List.not_mem_nil, or_false] at hg
      exact fld_firedShown ha _ (by omega) (by simp only [A.NTB_IFLG]; omega)
  · rw [hen, timeAdvanced, if_neg hp]
    exact (congrArg (· == 1) (fld_setCmpNext c.regs.1 _ (by simp only [R.CMPn_CFG_en]; omega) (by simp only [R.CMPn_CFG_en]; omega)
      (by simp only [R.CMPn_CFG_en]; omega))).trans he

end

end Sys2Proof.Machine

namespace Sys2Proof.Machine

open Sys2Proof

section
variable {s t : State} {n at_ src : Nat} {edge : Bool}

/-! ### Captures (R79) -/

/-- Whether unit `n` takes an event of source `src`. -/
def capTakes (n src : Nat) (edge : Bool) (s : State) : Bool :=
  isSet s (R.CAPn_CFG_en n) && fld s (R.CAPn_CFG_src n) == src &&
    (!(decide (0x100 ≤ src) && decide (src ≤ 0x11F)) || isSet s (R.CAPn_CFG_edge n) != edge)

/-- The time in the registers of unit `n`. -/
def capHold (n at_ : Nat) (s : State) : State :=
  setFld (setFld (setFld s (R.CAPn_NS_ns n) (at_ % 1000000000)) (R.CAPn_SLO_s n) (at_ / 1000000000 % 2 ^ 32)) (R.CAPn_SHI_s n)
    (at_ / 1000000000 / 2 ^ 32 % 2 ^ 32)

/-- What an event does in unit `n`. -/
def capUnit (at_ src : Nat) (edge : Bool) (n : Nat) (s : State) : State :=
  if capTakes n src edge s then
    if isSet s (R.CAPn_CFG_full n) then raise s (R.CAPn_CFG_ovr n)
    else raise (raise (capHold n at_ s) (R.CAPn_CFG_full n)) R.NTB_IFLG_cap
  else s

theorem captureAt_eq : captureAt at_ src edge s = upTo 16 (capUnit at_ src edge) s := rfl

/-- The fields of capture unit `n`. -/
def InCap (n : Nat) (g : Field) : Prop := A.CAPn_CFG n ≤ g.addr ∧ g.addr < A.CAPn_CFG n + 0x10

theorem capRegs_addr (n : Nat) : A.CAPn_NS n = A.CAPn_CFG n + 0x4 ∧ A.CAPn_SLO n = A.CAPn_CFG n + 0x8 ∧ A.CAPn_SHI n = A.CAPn_CFG n + 0xC ∧
    A.CAPn_CFG n = 0x40020300 + 0x10 * n := by
  simp only [A.CAPn_NS, A.CAPn_SLO, A.CAPn_SHI, A.CAPn_CFG]
  exact ⟨by omega, by omega, by omega, trivial⟩

/-- An update of a field keeps a property of the state. -/
theorem capUnit_induct {P : State → Prop} (hs : P s)
    (step : ∀ (u : State) (f : Field) (v : Nat), InCap n f ∨ (f = R.NTB_IFLG_cap ∧ v = 1) → P u → P (setFld u f v)) :
    P (capUnit at_ src edge n s) := by
  obtain ⟨e1, e2, e3, -⟩ := capRegs_addr n
  have hcfg : ∀ f : Field, f.addr = A.CAPn_CFG n → InCap n f := fun f e => by unfold InCap; omega
  have hold : P (capHold n at_ s) :=
    step _ _ _ (.inl ⟨by simp only [R.CAPn_SHI_s]; omega, by simp only [R.CAPn_SHI_s]; omega⟩)
      (step _ _ _ (.inl ⟨by simp only [R.CAPn_SLO_s]; omega, by simp only [R.CAPn_SLO_s]; omega⟩)
        (step _ _ _ (.inl ⟨by simp only [R.CAPn_NS_ns]; omega, by simp only [R.CAPn_NS_ns]; omega⟩) hs))
  unfold capUnit
  split
  · split
    · exact step _ _ _ (.inl (hcfg (R.CAPn_CFG_ovr n) rfl)) hs
    · exact step _ _ _ (.inr ⟨rfl, rfl⟩) (step _ _ _ (.inl (hcfg (R.CAPn_CFG_full n) rfl)) hold)
  · exact hs

theorem rising_capUnit (h : Rising s.regs) : Rising (capUnit at_ src edge n s).regs :=
  capUnit_induct (P := fun u => Rising u.regs) h fun _ f v _ hu => rising_setFld hu f v

/-- A unit leaves the fields of the others. -/
theorem fld_capUnit_other (h : Rising s.regs) {m : Nat} (hne : m ≠ n) {g : Field} (hg : InCap m g) :
    fld (capUnit at_ src edge n s) g = fld s g := by
  refine (capUnit_induct (n := n) (P := fun u => Rising u.regs ∧ fld u g = fld s g) ⟨h, rfl⟩ fun u f v hf hu => ?_).2
  refine ⟨rising_setFld hu.1 f v, (fld_setFld_addr hu.1 f g v ?_).trans hu.2⟩
  unfold InCap at hf hg
  have hm := (capRegs_addr m).2.2.2
  have hn := (capRegs_addr n).2.2.2
  rcases hf with hf | ⟨rfl, -⟩
  · omega
  · simp only [R.NTB_IFLG_cap, A.NTB_IFLG]
    omega

/-- No unit clears the flag. -/
theorem cap_capUnit (h : Rising s.regs) (hc : isSet s R.NTB_IFLG_cap = true) : isSet (capUnit at_ src edge n s) R.NTB_IFLG_cap = true := by
  refine (capUnit_induct (n := n) (P := fun u => Rising u.regs ∧ isSet u R.NTB_IFLG_cap = true) ⟨h, hc⟩ fun u f v hf hu => ?_).2
  refine ⟨rising_setFld hu.1 f v, ?_⟩
  rcases hf with hf | ⟨rfl, rfl⟩
  · have hn := (capRegs_addr n).2.2.2
    unfold InCap at hf
    exact (congrArg (· == 1) (fld_setFld_addr hu.1 f R.NTB_IFLG_cap v (by simp only [R.NTB_IFLG_cap, A.NTB_IFLG]; omega))).trans hu.2
  · exact isSet_raise hu.1 _ (by decide) (by decide)

/-- What an event leaves in unit `n` is what the unit does with it: the units before and after have no part in it. -/
theorem captureAt_unit (h : Rising s.regs) (hn : n < 16) : ∃ u, Rising u.regs ∧ (∀ g, InCap n g → fld u g = fld s g) ∧
    (∀ g, InCap n g → fld (captureAt at_ src edge s) g = fld (capUnit at_ src edge n u) g) ∧
    (isSet (capUnit at_ src edge n u) R.NTB_IFLG_cap = true → isSet (captureAt at_ src edge s) R.NTB_IFLG_cap = true) := by
  have rises : ∀ k, Rising (upTo k (capUnit at_ src edge) s).regs := fun k => by
    induction k with
    | zero => exact h
    | succ k ih =>
      rw [upTo_succ]
      exact rising_capUnit ih
  have before : ∀ k ≤ n, ∀ g, InCap n g → fld (upTo k (capUnit at_ src edge) s) g = fld s g := fun k => by
    induction k with
    | zero => exact fun _ _ _ => rfl
    | succ k ih =>
      intro hk g hg
      rw [upTo_succ]
      exact (fld_capUnit_other (rises k) (by omega) hg).trans (ih (by omega) g hg)
  have after : ∀ k, let v := capUnit at_ src edge n (upTo n (capUnit at_ src edge) s)
      (∀ g, InCap n g → fld (upTo (n + 1 + k) (capUnit at_ src edge) s) g = fld v g) ∧
      (isSet v R.NTB_IFLG_cap = true → isSet (upTo (n + 1 + k) (capUnit at_ src edge) s) R.NTB_IFLG_cap = true) := fun k => by
    induction k with
    | zero =>
      rw [Nat.add_zero, upTo_succ]
      exact ⟨fun _ _ => rfl, id⟩
    | succ k ih =>
      obtain ⟨ih1, ih2⟩ := ih
      rw [← Nat.add_assoc, upTo_succ]
      exact ⟨fun g hg => (fld_capUnit_other (rises _) (by omega) hg).trans (ih1 g hg), fun hv => cap_capUnit (rises _) (ih2 hv)⟩
  have hall := after (15 - n)
  rw [show n + 1 + (15 - n) = 16 by omega] at hall
  exact ⟨_, rises n, before n (Nat.le_refl n), hall.1, hall.2⟩

/-- An empty unit holds the time and is full; the flag rises. -/
theorem capHold_shows (h : Rising s.regs) : let t := raise (raise (capHold n at_ s) (R.CAPn_CFG_full n)) R.NTB_IFLG_cap
    fld t (R.CAPn_NS_ns n) = at_ % 1000000000 ∧ fld t (R.CAPn_SLO_s n) = at_ / 1000000000 % 2 ^ 32 ∧
    fld t (R.CAPn_SHI_s n) = at_ / 1000000000 / 2 ^ 32 % 2 ^ 32 ∧ isSet t (R.CAPn_CFG_full n) = true ∧ isSet t R.NTB_IFLG_cap = true := by
  obtain ⟨e1, e2, e3, e0⟩ := capRegs_addr n
  have h1 := rising_setFld h (R.CAPn_NS_ns n) (at_ % 1000000000)
  have h2 := rising_setFld h1 (R.CAPn_SLO_s n) (at_ / 1000000000 % 2 ^ 32)
  have h3 : Rising (capHold n at_ s).regs := rising_setFld h2 (R.CAPn_SHI_s n) (at_ / 1000000000 / 2 ^ 32 % 2 ^ 32)
  have h4 := rising_raise h3 (f := R.CAPn_CFG_full n)
  have told : ∀ g : Field, g.addr ≠ A.CAPn_CFG n → g.addr ≠ A.NTB_IFLG →
      fld (raise (raise (capHold n at_ s) (R.CAPn_CFG_full n)) R.NTB_IFLG_cap) g = fld (capHold n at_ s) g := fun g hg hi =>
    (fld_setFld_addr h4 _ g _ hi).trans (fld_setFld_addr h3 _ g _ hg)
  refine ⟨?_, ?_, ?_, ?_, isSet_raise h4 _ (by decide) (by decide)⟩
  · rw [told _ (by simp only [R.CAPn_NS_ns]; omega) (by simp only [R.CAPn_NS_ns, A.NTB_IFLG]; omega), capHold,
      fld_setFld_addr h2 _ _ _ (by simp only [R.CAPn_NS_ns, R.CAPn_SHI_s]; omega),
      fld_setFld_addr h1 _ _ _ (by simp only [R.CAPn_NS_ns, R.CAPn_SLO_s]; omega), fld_setFld_self h _ _ (by decide : 0 + 30 ≤ 32)]
    simp only [R.CAPn_NS_ns]
    omega
  · rw [told _ (by simp only [R.CAPn_SLO_s]; omega) (by simp only [R.CAPn_SLO_s, A.NTB_IFLG]; omega), capHold,
      fld_setFld_addr h2 _ _ _ (by simp only [R.CAPn_SLO_s, R.CAPn_SHI_s]; omega), fld_setFld_self h1 _ _ (by decide : 0 + 32 ≤ 32)]
    exact Nat.mod_mod _ _
  · rw [told _ (by simp only [R.CAPn_SHI_s]; omega) (by simp only [R.CAPn_SHI_s, A.NTB_IFLG]; omega), capHold,
      fld_setFld_self h2 _ _ (by decide : 0 + 32 ≤ 32)]
    exact Nat.mod_mod _ _
  · exact (congrArg (· == 1) (fld_setFld_addr h4 _ _ _ (by simp only [R.CAPn_CFG_full, R.NTB_IFLG_cap, A.NTB_IFLG]; omega))).trans
      (isSet_raise h3 _ (by decide : 30 + 1 ≤ 32) (by decide : 0 < 1))

/-- An event of a source beside the pulse per second is captured, and nothing else. -/
theorem exec_capture (hs : src ≠ 0x100) : exec (.capture src edge) s = .next (captureAt (netNs s) src edge s) := by
  show execCapture src edge s = _
  unfold execCapture captureEvent
  simp only [hs, if_false]

/-- An event in a unit that matches it, empty or full. -/
theorem capture_effect (h : Rising s.regs) (hn : n < 16) (hs : src ≠ 0x100) (he : isSet s (R.CAPn_CFG_en n) = true)
    (hsrc : fld s (R.CAPn_CFG_src n) = src) (hedge : 0x100 ≤ src ∧ src ≤ 0x11F → isSet s (R.CAPn_CFG_edge n) = !edge) :
    (isSet s (R.CAPn_CFG_full n) = false → Goes (exec (.capture src edge) s) fun t =>
      fld t (R.CAPn_NS_ns n) = netNs s % 1000000000 ∧ fld t (R.CAPn_SLO_s n) = netNs s / 1000000000 % 2 ^ 32 ∧
      fld t (R.CAPn_SHI_s n) = netNs s / 1000000000 / 2 ^ 32 % 2 ^ 32 ∧ isSet t (R.CAPn_CFG_full n) = true ∧
      isSet t R.NTB_IFLG_cap = true) ∧
    (isSet s (R.CAPn_CFG_full n) = true → Goes (exec (.capture src edge) s) fun t => isSet t (R.CAPn_CFG_ovr n) = true ∧
      fld t (R.CAPn_NS_ns n) = fld s (R.CAPn_NS_ns n) ∧ fld t (R.CAPn_SLO_s n) = fld s (R.CAPn_SLO_s n)) := by
  obtain ⟨u, hu, hsame, hunit, hflag⟩ := captureAt_unit (at_ := netNs s) (src := src) (edge := edge) h hn
  obtain ⟨e1, e2, e3, -⟩ := capRegs_addr n
  have icfg : ∀ lsb w, InCap n ⟨A.CAPn_CFG n, lsb, w⟩ := fun _ _ => ⟨Nat.le_refl _, Nat.lt_add_of_pos_right (by decide)⟩
  have ins : InCap n (R.CAPn_NS_ns n) := by unfold InCap; simp only [R.CAPn_NS_ns]; omega
  have islo : InCap n (R.CAPn_SLO_s n) := by unfold InCap; simp only [R.CAPn_SLO_s]; omega
  have ishi : InCap n (R.CAPn_SHI_s n) := by unfold InCap; simp only [R.CAPn_SHI_s]; omega
  have bits_same : ∀ g, InCap n g → isSet u g = isSet s g := fun g hg => congrArg (· == 1) (hsame g hg)
  have takes : capTakes n src edge u = true := by
    unfold capTakes
    rw [bits_same (R.CAPn_CFG_en n) (icfg _ _), he, hsame (R.CAPn_CFG_src n) (icfg _ _), hsrc, bits_same (R.CAPn_CFG_edge n) (icfg _ _)]
    by_cases hp : 0x100 ≤ src ∧ src ≤ 0x11F
    · rw [hedge hp]
      cases edge <;> simp
    · simp only [← Bool.decide_and, hp, beq_self_eq_true, decide_false, Bool.not_false, Bool.true_or, Bool.and_self]
  have hfull := bits_same (R.CAPn_CFG_full n) (icfg _ _)
  rw [exec_capture hs]
  refine ⟨fun hf => ?_, fun hf => ?_⟩
  · have hcu : capUnit (netNs s) src edge n u = raise (raise (capHold n (netNs s) u) (R.CAPn_CFG_full n)) R.NTB_IFLG_cap := by
      rw [capUnit, if_pos takes, if_neg (by rw [hfull, hf]; decide)]
    rw [hcu] at hunit hflag
    obtain ⟨kns, kslo, kshi, kfull, kcap⟩ := capHold_shows (n := n) (at_ := netNs s) hu
    exact ⟨(hunit _ ins).trans kns, (hunit _ islo).trans kslo, (hunit _ ishi).trans kshi,
      (congrArg (· == 1) (hunit (R.CAPn_CFG_full n) (icfg _ _))).trans kfull, hflag kcap⟩
  · have hcu : capUnit (netNs s) src edge n u = raise u (R.CAPn_CFG_ovr n) := by
      rw [capUnit, if_pos takes, if_pos (by rw [hfull, hf])]
    rw [hcu] at hunit
    have told : ∀ g, InCap n g → g.addr ≠ A.CAPn_CFG n → fld (captureAt (netNs s) src edge s) g = fld s g := fun g hg ha =>
      (hunit g hg).trans ((fld_setFld_addr hu _ _ _ ha).trans (hsame g hg))
    refine ⟨(congrArg (· == 1) (hunit (R.CAPn_CFG_ovr n) (icfg _ _))).trans
      (isSet_raise hu _ (by decide : 31 + 1 ≤ 32) (by decide : 0 < 1)), told _ ins ?_, told _ islo ?_⟩
    · simp only [R.CAPn_NS_ns]
      omega
    · simp only [R.CAPn_SLO_s]
      omega

end

/-- Settles O23: each event is its function of the model; what a boundary and a jump start in the other blocks leaves the count
alone (`pathBoundary_passed`, `jumpFollows_timeStands`). -/
theorem networkTimeEvents : Obligations.NetworkTimeEvents := by
  intro s obs c
  refine ⟨pathBoundary_effect c obs, pathLengthChange_effect c obs, fun q ha hd hs h1 h2 => ?_, fun at_ hf ht hh => ?_,
    fun n hn h25 hw he hm hr ht hmax => ?_, fun n hn src edge hs he hsrc hedge => ?_⟩
  · exact ⟨timeSet_taken c ha hd hs h1 h2 obs, timeSet_refused c ha hd hs obs⟩
  · exact sourceHoldExpiry_lost c hf ht hh
  · exact comparatorFire_effect c hn h25 hw he hm hr ht hmax
  · exact capture_effect c.regs.1 hn hs he hsrc hedge

/-- A block at reset with a request to set the time to 5 s from a source, and a path length that has waited for its instant. -/
def timeRequested : State :=
  { State.reset with ntb := { State.reset.ntb with adj := some ⟨false, 5, 0, true, 0⟩, plenAt := some 0 } }

theorem goes_mono {x : Host.Outcome State Fault Refusal} {P Q : State → Prop} (h : Goes x P) (k : ∀ t, P t → Q t) : Goes x Q := by
  cases x with
  | next t => exact k t h
  | fault => exact h
  | refused => exact h

/-- The hypotheses of O23 can be met: the request is taken at its tick, and the path length at its instant. -/
theorem networkTimeEvents_witness (obs : PathObs) :
    Goes (exec (.timeAdjustApply obs) timeRequested) (fun t => t.ntb.sec = 5 ∧ fld t R.NTB_STAT_tstate = 2) ∧
    Goes (exec (.pathLengthChange obs) timeRequested) fun t => isSet t R.NTB_IFLG_plen = true ∧ t.ntb.plenAt = none := by
  have c : Canon timeRequested := (Keeps.set_ntb (Sub.refl _) (Keeps.refl State.reset)).canon resetIsCanonical
  obtain ⟨-, hlength, hset, -⟩ := networkTimeEvents timeRequested obs c
  have h1 := (hset ⟨false, 5, 0, true, 0⟩ rfl (by decide) rfl (by decide) (by decide)).1 (.inl (by decide))
  have h2 := hlength (by decide)
  exact ⟨goes_mono h1 fun _ ⟨hsec, _, _, hst, _⟩ => ⟨hsec, hst⟩, goes_mono h2 fun _ ⟨_, _, hflag, hat, _⟩ => ⟨hflag, hat⟩⟩

end Sys2Proof.Machine

/-! ## The end of an identity conflict (chapter 18, R474) -/

namespace Sys2Proof.Machine

open Sys2Proof

/-- A canonical state in which a conflict is 180 s old, the firmware may open paths, and TTE shows itself open although it does not
run: the hypotheses of O28 rule that out nowhere. -/
def openWhileStopped : State :=
  { odSet (raise State.reset R.TTE_STAT_open) 9 1 0 [0, 0] with
    now := 9000000000, pwr := { started := true }, bhn := { conflictAt := some 0 } }

theorem canon_openWhileStopped : Canon openWhileStopped := by
  have hm := Sub.refl (2 ^ 100 - 1)
  have hc := (Keeps.set_bhn (x0 := { conflictAt := some 0 }) (hm.mono rfl) (Keeps.set_pwr (x0 := { started := true }) (hm.mono rfl)
    (odSet_keeps (area := 9) (obj := 1) (el := 0) (v := [0, 0]) (hm.mono rfl) (raise_keeps (f := R.TTE_STAT_open) (hm.mono rfl)
      (Keeps.refl State.reset))))).canon resetIsCanonical
  exact ⟨hc.regs, hc.shadows, hc.mem, hc.bulk, hc.od, hc.held⟩

/-- The firmware opens paths again only where TTE is not open, and so it writes nothing here. -/
theorem conflictExpiry_openWhileStopped : conflictExpiry openWhileStopped = setBhn {} openWhileStopped := by
  have hopen : isSet (setBhn {} openWhileStopped) R.TTE_STAT_open = true := by decide
  change pathsReopen (setBhn {} openWhileStopped) = _
  unfold pathsReopen
  rw [hopen, Bool.not_true, Bool.and_false, if_neg Bool.false_ne_true]

/-- Refutes O28: where TTE shows itself open without running, CONFLICT_EXPIRY ends the conflict and leaves TTE's run bit clear. -/
theorem not_terminusCommands : ¬ Obligations.TerminusCommands := by
  intro h
  obtain ⟨-, -, -, -, -, -, -, -, -, expiry⟩ := h openWhileStopped canon_openWhileStopped
  have hgoes : Goes (.next (conflictExpiry openWhileStopped)) _ := expiry 0 rfl (by decide)
  rw [conflictExpiry_openWhileStopped] at hgoes
  have hrun := hgoes.2 rfl (by decide) (by decide) (by decide)
  exact absurd hrun (by decide)

end Sys2Proof.Machine

/-! ## Schedules (chapter 10, R285) -/

namespace Sys2Proof.Machine

open Sys2Proof

/-- A canonical state in network time whose one event source feeds traffic meter 0 and whose store of rates names meter 0 twice,
which the hypotheses of O32 rule out for the effective and the written sets only. -/
def doubledRates : State :=
  { odSet (odSet (setFld State.reset R.NTB_STAT_tstate 1) 6 0x800 0 [1]) 6 0x800 5 [0] with
    sched := { trafficAt := 900, rates := [(0, 1), (0, 1)] } }

theorem canon_doubledRates : Canon doubledRates := by
  have hm := Sub.refl (2 ^ 100 - 1)
  exact (Keeps.set_sched (hm.mono rfl) (odSet_keeps (hm.mono rfl) (odSet_keeps (hm.mono rfl) (setFld_keeps (hm.mono rfl)
    (Keeps.refl State.reset))))).canon resetIsCanonical

/-- The evaluation puts the rate 0 by taking out the first entry of meter 0, and so the second one shows. -/
theorem rates_trafficEvaluate_doubledRates : (trafficEvaluate doubledRates).sched.rates = [(0, 1)] := by decide

/-- Refutes O32: where the store of rates names a meter twice, TRAFFIC_EVALUATION of a meter whose source counted nothing leaves the
second entry in place of the rate 0. -/
theorem not_scheduleCommands : ¬ Obligations.ScheduleCommands := by
  intro h
  obtain ⟨-, -, -, -, traffic, -⟩ := h doubledRates canon_doubledRates List.Pairwise.nil List.Pairwise.nil
  obtain ⟨-, -, meters⟩ : Goes (.next (trafficEvaluate doubledRates)) _ := traffic (by decide) (by decide)
  have hrate := (meters 0 (by decide) (by decide)).1
  rw [rates_trafficEvaluate_doubledRates] at hrate
  exact absurd hrate (by decide)

end Sys2Proof.Machine

/-! ## The radio's duty buckets (chapter 04, R98) -/

namespace Sys2Proof.Machine

open Sys2Proof

/-- A canonical state in the second minute of network time whose store of duty buckets lists that minute's bucket of band 0 and chain 0
twice, which O24 rules out nowhere: `Canon` says nothing of the buckets. -/
def doubledBucket : State :=
  { State.reset with ntb := { sec := 60 }, rfe := { duty := [(1, 5), (1, 7)] } }

theorem canon_doubledBucket : Canon doubledBucket :=
  ⟨resetIsCanonical.regs, resetIsCanonical.shadows, resetIsCanonical.mem, resetIsCanonical.bulk, resetIsCanonical.od, resetIsCanonical.held⟩

/-- The close empties the minute's bucket by taking out its first entry, and so the second one shows. -/
theorem bucket_dutyClose_doubledBucket :
    bucket (dutyClose doubledBucket) (bucketKey 0 0 (dutyClose doubledBucket).rfe.minute) = 7 := by decide

/-- Refutes O24: where the store of duty buckets names the opening minute's bucket twice, DUTY_BUCKET_CLOSE leaves 7 µs in it. -/
theorem not_radioCommands : ¬ Obligations.RadioCommands := by
  intro h
  obtain ⟨-, -, -, close, -⟩ := h doubledBucket ⟨.core0, true⟩ canon_doubledBucket
  obtain ⟨-, -, -, empty⟩ : Goes (.next (dutyClose doubledBucket)) _ := close (by decide)
  have hzero := empty 0 (by decide) 0 (by decide)
  rw [bucket_dutyClose_doubledBucket] at hzero
  exact absurd hzero (by decide)

end Sys2Proof.Machine

/-! ## The timetable engine's registers (chapter 05, R109, R124, R126, R141, R143; chapter 25, R604) -/

namespace Sys2Proof.Machine

open Sys2Proof

@[simp] theorem setResult_tte (s : State) (o : Origin) (x : BusResult) : (setResult o x s).tte = s.tte :=
  setResult_same s o x (p := .tte) (by decide)

section
variable {s : State} {o : Origin}

/-! ### A write of TTE_CTRL (R141, R143) -/

/-- A write of the standing value to an L field leaves it, locked or not (R52). -/
theorem writeField_lock_stands {old : State} {a : Nat} {w : Word} {fi : FieldInfo} (ht : fi.ty = .rw) (hl : fi.timing = .lock)
    (h : admitField old o a fi.lsb (bits w.toNat fi.lsb fi.width) w = .take (bits w.toNat fi.lsb fi.width))
    (hv : bits w.toNat fi.lsb fi.width = fld old (fi.at a)) (t : State) :
    writeField old o a w t fi = if locked old a fi.lsb = true then t else setFld t (fi.at a) (fld old (fi.at a)) := by
  unfold writeField
  rw [ht]
  dsimp only
  rw [h, hl, hv]
  simp [Admit.take, FieldInfo.at]

theorem regAt_tteCtrl : regAt A.TTE_CTRL =
    some ⟨0x40070000, 0x4, 1, 0x4, 1, [⟨0, 1, .rw, .imm, 0⟩, ⟨4, 1, .cmd, .none, 0⟩, ⟨8, 1, .rw, .lock, 0⟩]⟩ := by decide

/-- The run bit is taken where it is 0, where TTE runs already, or where it may start (R109, R124). -/
theorem admitTte_run (s : State) (v : Nat) :
    admitTte s A.TTE_CTRL 0 v = .when (v != 1 || (busy s 7 || tteMayRun s)) v := by
  unfold admitTte
  by_cases hv : v = 1
  · subst hv
    rfl
  · have hne : (v != 1) = true := by simpa using hv
    rw [hne, Bool.true_or]
    simp [hv, A.TTE_CTRL, A.TTE_TIMING, A.TTE_SHARE, A.TTE_RXQ, A.TTE_TXQ, Admit.when]

/-- The run bit as a written value `v` leaves it. -/
def tteRunTaken (v : Nat) (s : State) : State :=
  if (v != 1 || (busy s 7 || tteMayRun s)) = true then setFld s R.TTE_CTRL_run v else cfgErr s 7

/-- TTE's registers as a word with run bit `v`, and `follow` as it stands, leaves them. -/
def tteCtrlTaken (v : Nat) (s : State) : State :=
  if busy s 7 = true then tteRunTaken v s else setFld (tteRunTaken v s) R.TTE_CTRL_follow (fld s R.TTE_CTRL_follow)

/-- A write that says of `follow` what stands there leaves it, and takes or refuses the run bit. -/
theorem writeFields_tteCtrl {w : Word} (hf : bits w.toNat 8 1 = fld s R.TTE_CTRL_follow) (o : Origin) :
    writeFields o A.TTE_CTRL w s = tteCtrlTaken (bits w.toNat 0 1) s := by
  have hrun : writeField s o A.TTE_CTRL w s ⟨0, 1, .rw, .imm, 0⟩ = tteRunTaken (bits w.toNat 0 1) s :=
    writeField_when (a := A.TTE_CTRL) (old := s) (o := o) (w := w) (fi := ⟨0, 1, .rw, .imm, 0⟩) rfl rfl (admitTte_run s _) s
  have hfollow : ∀ t, writeField s o A.TTE_CTRL w t ⟨8, 1, .rw, .lock, 0⟩ = _ :=
    writeField_lock_stands (fi := ⟨8, 1, .rw, .lock, 0⟩) (w := w) rfl rfl rfl hf
  rw [writeFields_of regAt_tteCtrl, List.foldl_cons, List.foldl_cons, List.foldl_cons, hrun]
  exact hfollow _

theorem rising_tteRunTaken (h : Rising s.regs) (v : Nat) : Rising (tteRunTaken v s).regs := by
  unfold tteRunTaken
  split
  · exact rising_setFld h _ _
  · exact rising_cfgErr h _

theorem tteRunTaken_tte (v : Nat) (s : State) : (tteRunTaken v s).tte = s.tte := by
  unfold tteRunTaken
  split <;> simp

/-- A run bit that is taken touches no other field. -/
theorem fld_tteRunTaken (h : Rising s.regs) {v : Nat} (hv : v ≠ 1 ∨ busy s 7 = true ∨ tteMayRun s = true) (g : Field)
    (hg : R.TTE_CTRL_run.apart g = true) : fld (tteRunTaken v s) g = fld s g := by
  unfold tteRunTaken
  rw [if_pos (by simpa using hv)]
  exact fld_setFld_apart h v (by decide) hg

theorem run_tteRunTaken (h : Rising s.regs) {v : Nat} (hv : v ≠ 1 ∨ busy s 7 = true ∨ tteMayRun s = true) :
    isSet (tteRunTaken v s) R.TTE_CTRL_run = decide (v % 2 = 1) := by
  unfold tteRunTaken
  rw [if_pos (by simpa using hv)]
  exact isSet_setFld_self h R.TTE_CTRL_run v (by decide)

theorem tteRunTaken_refused (hb : busy s 7 = false) (hm : tteMayRun s = false) : tteRunTaken 1 s = cfgErr s 7 := by
  unfold tteRunTaken
  rw [hb, hm]
  rfl

/-- What a word written to TTE_CTRL starts: a start where `run` stands and TTE does not run, a stop at the next boundary where it
runs without, and an opening where the word's bit 4 says so. -/
def tteCtrlActs (open_ : Bool) (s : State) : State :=
  let s := if isSet s R.TTE_CTRL_run = true then (if busy s 7 = true then s else blockStart s 7)
    else if busy s 7 = true then setTte { s.tte with stopping := true } s else s
  if open_ = true then tteOpen s else s

theorem coreWrite_tteCtrl (h : Lets s o A.TTE_CTRL) {w : Word} (hf : bits w.toNat 8 1 = fld s R.TTE_CTRL_follow) :
    coreWrite tteWritten o A.TTE_CTRL w s =
      setResult o .done (tteCtrlActs (bits w.toNat 4 1 == 1) (tteCtrlTaken (bits w.toNat 0 1) s)) := by
  rw [coreWrite_lets tteWritten h w, writeFields_tteCtrl hf]
  rfl

theorem rising_tteCtrlTaken (h : Rising s.regs) (v : Nat) : Rising (tteCtrlTaken v s).regs := by
  unfold tteCtrlTaken
  split
  · exact rising_tteRunTaken h v
  · exact rising_setFld (rising_tteRunTaken h v) _ _

theorem tteCtrlTaken_tte (v : Nat) (s : State) : (tteCtrlTaken v s).tte = s.tte := by
  unfold tteCtrlTaken
  split <;> simp [tteRunTaken_tte]

theorem fld_tteCtrlTaken (h : Rising s.regs) (v : Nat) {g : Field} (hg : R.TTE_CTRL_follow.apart g = true) :
    fld (tteCtrlTaken v s) g = fld (tteRunTaken v s) g := by
  unfold tteCtrlTaken
  split
  · rfl
  · exact fld_setFld_apart (rising_tteRunTaken h v) _ (by decide) hg

theorem isSet_tteCtrlTaken (h : Rising s.regs) (v : Nat) {g : Field} (hg : R.TTE_CTRL_follow.apart g = true) :
    isSet (tteCtrlTaken v s) g = isSet (tteRunTaken v s) g := congrArg (· == 1) (fld_tteCtrlTaken h v hg)

/-- The words of the two commands leave `follow` as it stands; the run bit is as asked, or as it stands. -/
theorem bits_tteRunWord (c : Canon s) (run : Bool) :
    bits (wordWith s R.TTE_CTRL_run (b2n run)).toNat 0 1 = b2n run ∧ bits (wordWith s R.TTE_CTRL_run (b2n run)).toNat 4 1 = 0 ∧
    bits (wordWith s R.TTE_CTRL_run (b2n run)).toNat 8 1 = fld s R.TTE_CTRL_follow := by
  have word := fun fi hm ha => bits_wordWith (f := R.TTE_CTRL_run) c (b2n run) regAt_tteCtrl (by decide) (fi := fi) hm ha
  refine ⟨(bits_wordWith_self R.TTE_CTRL_run (b2n run) (by decide)).trans (by cases run <;> rfl), ?_, ?_⟩
  · exact word ⟨4, 1, .cmd, .none, 0⟩ (by simp) (by decide)
  · exact (word ⟨8, 1, .rw, .lock, 0⟩ (by simp) (by decide)).trans
      (fldRead_plain (a := A.TTE_CTRL) (fi := ⟨8, 1, .rw, .lock, 0⟩) c (by decide) (by decide) (by simp))

theorem bits_tteOpenWord (c : Canon s) :
    bits (rwWord s A.TTE_CTRL ||| 0x10).toNat 0 1 = fld s R.TTE_CTRL_run ∧ bits (rwWord s A.TTE_CTRL ||| 0x10).toNat 4 1 = 1 ∧
    bits (rwWord s A.TTE_CTRL ||| 0x10).toNat 8 1 = fld s R.TTE_CTRL_follow := by
  have word := fun fi hm => bits_rwOr c regAt_tteCtrl 0x10 (fi := fi) hm
  refine ⟨?_, ?_, ?_⟩
  · exact (word ⟨0, 1, .rw, .imm, 0⟩ (by simp)).trans ((Nat.or_zero _).trans
      (fldRead_plain (a := A.TTE_CTRL) (fi := ⟨0, 1, .rw, .imm, 0⟩) c (by decide) (by decide) (by simp)))
  · simpa [bits] using word ⟨4, 1, .cmd, .none, 0⟩ (by simp)
  · exact (word ⟨8, 1, .rw, .lock, 0⟩ (by simp)).trans ((Nat.or_zero _).trans
      (fldRead_plain (a := A.TTE_CTRL) (fi := ⟨8, 1, .rw, .lock, 0⟩) c (by decide) (by decide) (by simp)))

theorem exec_tteRunWrite (c : Canon s) (h : Lets s o A.TTE_CTRL) (run : Bool) : exec (.tteRunWrite o run) s =
    .next (setResult o .done (tteCtrlActs false (tteCtrlTaken (b2n run) s))) := by
  obtain ⟨h0, h4, h8⟩ := bits_tteRunWord c run
  change Host.Outcome.next (coreWrite tteWritten o A.TTE_CTRL (wordWith s R.TTE_CTRL_run (b2n run)) s) = _
  rw [coreWrite_tteCtrl h h8, h0, h4]
  rfl

theorem exec_tteOpen (c : Canon s) (h : Lets s o A.TTE_CTRL) : exec (.tteOpen o) s =
    .next (setResult o .done (tteCtrlActs true (tteCtrlTaken (fld s R.TTE_CTRL_run) s))) := by
  obtain ⟨h0, h4, h8⟩ := bits_tteOpenWord c
  change Host.Outcome.next (coreWrite tteWritten o A.TTE_CTRL (rwWord s A.TTE_CTRL ||| 0x10) s) = _
  rw [coreWrite_tteCtrl h h8, h0, h4]
  rfl

/-- A run bit that is taken leaves whether TTE runs and is open. -/
theorem shown_tteCtrlTaken (h : Rising s.regs) {v : Nat} (hv : v ≠ 1 ∨ busy s 7 = true ∨ tteMayRun s = true) :
    isSet (tteCtrlTaken v s) R.TTE_CTRL_run = decide (v % 2 = 1) ∧ busy (tteCtrlTaken v s) 7 = busy s 7 ∧
    isSet (tteCtrlTaken v s) R.TTE_STAT_open = isSet s R.TTE_STAT_open := by
  have stands : ∀ g : Field, R.TTE_CTRL_follow.apart g = true → R.TTE_CTRL_run.apart g = true →
      isSet (tteCtrlTaken v s) g = isSet s g := fun g h1 h2 =>
    (isSet_tteCtrlTaken h v h1).trans (congrArg (· == 1) (fld_tteRunTaken h hv g h2))
  exact ⟨(isSet_tteCtrlTaken h v (by decide)).trans (run_tteRunTaken h hv), stands _ (by decide) (by decide),
    stands _ (by decide) (by decide)⟩

theorem blockStart_tte (s : State) (i : Nat) : (blockStart s i).tte = s.tte := by simp [blockStart]

theorem isSet_blockStart_run (h : Rising s.regs) : isSet (blockStart s 7) R.TTE_CTRL_run = isSet s R.TTE_CTRL_run :=
  isSet_setFld_apart h 1 (by decide) (by decide)

/-- A start: TTE shows itself busy, and nothing else of it changes. -/
theorem tteRunWrite_starts (c : Canon s) (h : Lets s o A.TTE_CTRL) (hb : busy s 7 = false) (hm : tteMayRun s = true) :
    Goes (exec (.tteRunWrite o true) s) fun t => isSet t R.TTE_CTRL_run = true ∧ busy t 7 = true ∧ t.tte = s.tte := by
  have rises := rising_tteCtrlTaken c.regs.1 1
  obtain ⟨hrun, hidle, -⟩ := shown_tteCtrlTaken c.regs.1 (v := 1) (.inr (.inr hm))
  have hacts : tteCtrlActs false (tteCtrlTaken 1 s) = blockStart (tteCtrlTaken 1 s) 7 := by
    simp [tteCtrlActs, hrun, hidle, hb]
  rw [exec_tteRunWrite c h]
  simp only [Goes, b2n, if_true, setResult_isSet, setResult_busy, setResult_tte, hacts]
  exact ⟨(isSet_blockStart_run rises).trans hrun, isSet_raise rises _ (by decide) (by decide),
    (blockStart_tte _ _).trans (tteCtrlTaken_tte 1 s)⟩

/-- A refused start: `cfg_err`, and the run bit stands. -/
theorem tteRunWrite_refused (c : Canon s) (h : Lets s o A.TTE_CTRL) (hb : busy s 7 = false) (hm : tteMayRun s = false) :
    Goes (exec (.tteRunWrite o true) s) fun t =>
      cfgErrSet t 7 ∧ isSet t R.TTE_CTRL_run = isSet s R.TTE_CTRL_run ∧ t.tte = s.tte := by
  have hr := c.regs.1
  have rises := rising_tteCtrlTaken hr 1
  have left : ∀ g : Field, R.TTE_CTRL_follow.apart g = true → fld (tteCtrlTaken 1 s) g = fld (cfgErr s 7) g := fun g hg =>
    (fld_tteCtrlTaken hr 1 hg).trans (by rw [tteRunTaken_refused hb hm])
  have herr : cfgErrSet (tteCtrlTaken 1 s) 7 :=
    (cfgErrSet_iff (left _ (by decide)) (left _ (by decide))).2 (cfgErrSet_cfgErr hr 7)
  have hrun : isSet (tteCtrlTaken 1 s) R.TTE_CTRL_run = isSet s R.TTE_CTRL_run :=
    (congrArg (· == 1) (left _ (by decide))).trans (isSet_cfgErr_apart hr (by decide) (by decide))
  have hidle : busy (tteCtrlTaken 1 s) 7 = false :=
    ((congrArg (· == 1) (left _ (by decide))).trans (isSet_cfgErr_apart hr (by decide) (by decide))).trans hb
  rw [exec_tteRunWrite c h]
  simp only [Goes, b2n, if_true, setResult_isSet, setResult_cfgErrSet, setResult_tte]
  rcases hset : isSet s R.TTE_CTRL_run with _ | _
  · have hacts : tteCtrlActs false (tteCtrlTaken 1 s) = tteCtrlTaken 1 s := by
      simp [tteCtrlActs, hrun, hset, hidle]
    rw [hacts]
    exact ⟨herr, hrun.trans hset, tteCtrlTaken_tte 1 s⟩
  · have hacts : tteCtrlActs false (tteCtrlTaken 1 s) = blockStart (tteCtrlTaken 1 s) 7 := by
      simp [tteCtrlActs, hrun, hset, hidle]
    rw [hacts]
    refine ⟨(cfgErrSet_iff ?_ ?_).2 herr, (isSet_blockStart_run rises).trans (hrun.trans hset),
      (blockStart_tte _ _).trans (tteCtrlTaken_tte 1 s)⟩
    · exact fld_raise_apart rises (by decide) (by decide)
    · exact fld_raise_apart rises (by decide) (by decide)

/-- A stop waits for the next boundary. -/
theorem tteRunWrite_stops (c : Canon s) (h : Lets s o A.TTE_CTRL) (hb : busy s 7 = true) :
    Goes (exec (.tteRunWrite o false) s) fun t =>
      isSet t R.TTE_CTRL_run = false ∧ busy t 7 = true ∧ t.tte = { s.tte with stopping := true } := by
  obtain ⟨hrun, hbusy, -⟩ := shown_tteCtrlTaken c.regs.1 (v := 0) (.inl (by decide))
  have hacts : tteCtrlActs false (tteCtrlTaken 0 s) = setTte { s.tte with stopping := true } (tteCtrlTaken 0 s) := by
    simp [tteCtrlActs, hrun, hbusy, hb, tteCtrlTaken_tte]
  rw [exec_tteRunWrite c h]
  simp only [Goes, b2n, Bool.false_eq_true, if_false, setResult_isSet, setResult_busy, setResult_tte, hacts]
  exact ⟨hrun, hbusy.trans hb, rfl⟩

/-- An opening waits for the next boundary. -/
theorem tteOpen_waits (c : Canon s) (h : Lets s o A.TTE_CTRL) (hb : busy s 7 = true) (hr : isSet s R.TTE_CTRL_run = true)
    (hs : s.tte.stopping = false) (ho : isSet s R.TTE_STAT_open = false) :
    Goes (exec (.tteOpen o) s) fun t => t.tte = { s.tte with opening := true } ∧ isSet t R.TTE_CTRL_run = true := by
  have hv : fld s R.TTE_CTRL_run = 1 := by simpa [isSet] using hr
  obtain ⟨hrun, hbusy, hopen⟩ := shown_tteCtrlTaken c.regs.1 (v := 1) (.inr (.inl hb))
  have hacts : tteCtrlActs true (tteCtrlTaken 1 s) = setTte { s.tte with opening := true } (tteCtrlTaken 1 s) := by
    simp [tteCtrlActs, Machine.tteOpen, hrun, hbusy, hb, hopen, ho, tteCtrlTaken_tte, hs]
  rw [exec_tteOpen c h, hv]
  simp only [Goes, setResult_isSet, setResult_tte, hacts]
  exact ⟨rfl, hrun⟩

/-! ### The silent list (R126) -/

/-- A read of the silent list takes its oldest node off it. -/
theorem exec_silentFifoRead_cons (h : LetsRead s o A.TTE_SILENT) {n : Nat} {l : List Nat} (hn : s.tte.silent = n :: l) :
    exec (.silentFifoRead o) s = .next (setResult o (.value (BitVec.ofNat 32 (n + 2 ^ 31)))
      (setTte { s.tte with silent := l } (clearRc [] A.TTE_SILENT s))) := by
  have htte : (clearRc [] A.TTE_SILENT s).tte = s.tte := clearRc_same [] A.TTE_SILENT s (p := .tte) (by decide)
  have hread : ∀ v, tteRead o A.TTE_SILENT v (clearRc [] A.TTE_SILENT s) =
      (BitVec.ofNat 32 (n + 2 ^ 31), setTte { s.tte with silent := l } (clearRc [] A.TTE_SILENT s)) := fun v => by
    unfold tteRead
    rw [if_neg (by decide), if_pos rfl, htte, hn]
  change Host.Outcome.next (coreRead tteRead [] o A.TTE_SILENT s) = _
  rw [coreRead_lets tteRead [] h, hread]

theorem exec_silentFifoRead_nil (h : LetsRead s o A.TTE_SILENT) (hn : s.tte.silent = []) :
    exec (.silentFifoRead o) s = .next (setResult o (.value 0) (clearRc [] A.TTE_SILENT s)) := by
  have htte : (clearRc [] A.TTE_SILENT s).tte = s.tte := clearRc_same [] A.TTE_SILENT s (p := .tte) (by decide)
  have hread : ∀ v, tteRead o A.TTE_SILENT v (clearRc [] A.TTE_SILENT s) = (0, clearRc [] A.TTE_SILENT s) := fun v => by
    unfold tteRead
    rw [if_neg (by decide), if_pos rfl, htte, hn]
  change Host.Outcome.next (coreRead tteRead [] o A.TTE_SILENT s) = _
  rw [coreRead_lets tteRead [] h, hread]

theorem silentFifoRead_oldest (c : Canon s) (h : LetsRead s o A.TTE_SILENT) {n : Nat} (hn : s.tte.silent.head? = some n) :
    Goes (exec (.silentFifoRead o) s) fun t =>
      lastResult t o.core = .value (BitVec.ofNat 32 (n + 2 ^ 31)) ∧ t.tte = { s.tte with silent := s.tte.silent.tail } ∧
      ∀ a, a ≠ A.TTE_SILENT → reg t a = reg s a := by
  obtain ⟨l, hl⟩ := List.head?_eq_some_iff.1 hn
  rw [exec_silentFifoRead_cons h hl, hl]
  refine ⟨lastResult_setResult _ _ _, setResult_tte _ _ _, fun a ha => ?_⟩
  exact (setResult_reg _ _ _ a).trans (reg_clearRc_other c.regs.1 ha)

theorem silentFifoRead_empty (h : LetsRead s o A.TTE_SILENT) (hn : s.tte.silent = []) :
    Goes (exec (.silentFifoRead o) s) fun t => lastResult t o.core = .value 0 ∧ t.tte = s.tte := by
  rw [exec_silentFifoRead_nil h hn]
  exact ⟨lastResult_setResult _ _ _, (setResult_tte _ _ _).trans (clearRc_same [] A.TTE_SILENT s (p := .tte) (by decide))⟩

/-! ### Timetable keeping (R604) -/

/-- The firmware's write of a power mode below 2 starts nothing (R603). -/
theorem fwField_powerMode {v : Nat} (hv : v < 2) (h : Rising s.regs) :
    fwField sysWritten R.SYS_PWR_mode v s = setFld s R.SYS_PWR_mode v := by
  have hw : bits (wordWith s R.SYS_PWR_mode v).toNat 0 3 = v :=
    (bits_wordWith_self R.SYS_PWR_mode v (by decide)).trans (Nat.mod_eq_of_lt (by simp only [R.SYS_PWR_mode]; omega))
  have htaken : writeFields firmware A.SYS_PWR (wordWith s R.SYS_PWR_mode v) s = setFld s R.SYS_PWR_mode v := by
    rw [writeFields_sysPwr, hw, if_pos]
    simp only [Bool.and_eq_true, Bool.or_eq_true, bne_iff_ne, decide_eq_true_eq]
    omega
  change sysWritten firmware A.SYS_PWR (wordWith s R.SYS_PWR_mode v) s
    (writeFields firmware A.SYS_PWR (wordWith s R.SYS_PWR_mode v) s) = _
  rw [htaken]
  refine sysWritten_sysPwr _ _ _ _ (.inl ?_)
  rw [fld_setFld_self h _ _ (by decide)]
  simp only [R.SYS_PWR_mode]
  omega

theorem regAt_tteShare : regAt A.TTE_SHARE = some ⟨0x40070028, 0x4, 1, 0x4, 1,
    [⟨0, 3, .rw, .shadow .timetable, 1⟩, ⟨4, 3, .rw, .shadow .timetable, 2⟩, ⟨8, 4, .rw, .shadow .timetable, 15⟩]⟩ := by decide

/-- The map written to TTE_SHARE is what software then reads of it: in its shadow while TTE runs, else in force (R52, R118). -/
theorem map_writeFields_share (c : Canon s) (o : Origin) (w : Word) :
    (if busy s 7 = true then fldRead (writeFields o A.TTE_SHARE w s) R.TTE_SHARE_map
      else fld (writeFields o A.TTE_SHARE w s) R.TTE_SHARE_map) = bits w.toNat 8 4 % 2 ^ 4 := by
  have hmap : ∀ t, writeField s o A.TTE_SHARE w t ⟨8, 4, .rw, .shadow .timetable, 15⟩ =
      if busy s 7 = true then shadow t R.TTE_SHARE_map (bits w.toNat 8 4) else setFld t R.TTE_SHARE_map (bits w.toNat 8 4) := fun t => by
    have hs : shadowing s A.TTE_SHARE = busy s 7 := Bool.and_true _
    rw [← hs]
    rfl
  have rises : ∀ fi gi, Rising (writeField s o A.TTE_SHARE w (writeField s o A.TTE_SHARE w s fi) gi).regs := fun _ _ =>
    rising_writeField (rising_writeField c.regs.1)
  rw [writeFields_of regAt_tteShare, List.foldl_cons, List.foldl_cons, List.foldl_cons, List.foldl_nil, hmap]
  split
  · unfold fldRead
    simp only [shadow_fields, slook_sins_self, Option.getD_some, R.TTE_SHARE_map]
  · exact fld_setFld_self (rises _ _) R.TTE_SHARE_map _ (by decide)

/-- The firmware's two writes at a change: the power mode and the map are as written, and nothing of the power state moves. -/
theorem keepingWrites {mode map : Nat} (c : Canon s) (h1 : mode < 2) (h2 : map < 16) :
    let t := fwField tteWritten R.TTE_SHARE_map map (fwField sysWritten R.SYS_PWR_mode mode s)
    fld t R.SYS_PWR_mode = mode ∧ (if busy s 7 = true then fldRead t R.TTE_SHARE_map else fld t R.TTE_SHARE_map) = map ∧
    t.pwr = s.pwr := by
  intro t
  have c1 := canon_setFld c R.SYS_PWR_mode mode
  have hb : busy (setFld s R.SYS_PWR_mode mode) 7 = busy s 7 := isSet_setFld_apart c.regs.1 mode (by decide) (by decide)
  have ht : t = writeFields firmware A.TTE_SHARE (wordWith (setFld s R.SYS_PWR_mode mode) R.TTE_SHARE_map map)
      (setFld s R.SYS_PWR_mode mode) := by
    change fwField tteWritten R.TTE_SHARE_map map (fwField sysWritten R.SYS_PWR_mode mode s) = _
    rw [fwField_powerMode h1 c.regs.1]
    rfl
  rw [ht]
  refine ⟨?_, ?_, ?_⟩
  · rw [fld_writeFields_other c1 (by decide) (by decide) (by decide), fld_setFld_self c.regs.1 _ _ (by decide)]
    exact Nat.mod_eq_of_lt (by simp only [R.SYS_PWR_mode]; omega)
  · rw [← hb, map_writeFields_share c1, show bits (wordWith _ R.TTE_SHARE_map map).toNat 8 4 = map % 2 ^ 4 from
      bits_wordWith_self R.TTE_SHARE_map map (by decide)]
    omega
  · rw [writeFields_same _ _ _ _ (p := .pwr) (by decide) (by decide)]
    simp

/-- What the firmware's look at an inner cycle leaves of the run of dark cycles. -/
def cycleSeen (s : State) : State := setPwr { s.pwr with dark := if allDark s then min 2 (s.pwr.dark + 1) else 0 } s

theorem canon_cycleSeen (c : Canon s) : Canon (cycleSeen s) := (setPwr_keeps (Sub.refl _) (Keeps.refl s)).canon c

theorem exec_timetableKeepingChange (hs : s.pwr.started = true) (hc : s.lfe.cyc = none) : exec .timetableKeepingChange s = .next
    (if fld s R.SYS_PWR_mode = 0 ∧ (cycleSeen s).pwr.dark = 2 ∧ odNat s 1 0x11 0 = 1 then
      fwField tteWritten R.TTE_SHARE_map 1 (fwField sysWritten R.SYS_PWR_mode 1 (cycleSeen s))
    else if fld s R.SYS_PWR_mode = 1 ∧ (!allDark s ∨ odNat s 1 0x11 0 = 0) then
      fwField tteWritten R.TTE_SHARE_map 0xF (fwField sysWritten R.SYS_PWR_mode 0 (cycleSeen s))
    else cycleSeen s) := by
  change Host.Outcome.next (if (s.pwr.started && s.lfe.cyc.isNone) = true then timetableKeeping s else s) = _
  rw [if_pos (by simp [hs, hc])]
  rfl

theorem timetableKeeping_dark (c : Canon s) (hs : s.pwr.started = true) (hc : s.lfe.cyc = none) (ha : allDark s = true)
    (hd : s.pwr.dark = 1 ∨ s.pwr.dark = 2) (hm : fld s R.SYS_PWR_mode = 0) (ho : odNat s 1 0x11 0 = 1) :
    Goes (exec .timetableKeepingChange s) fun t => fld t R.SYS_PWR_mode = 1 ∧
      (if busy s 7 then fldRead t R.TTE_SHARE_map else fld t R.TTE_SHARE_map) = 1 ∧ t.pwr = { s.pwr with dark := 2 } := by
  have hseen : (cycleSeen s).pwr = { s.pwr with dark := 2 } := by
    rcases hd with hd | hd <;> simp [cycleSeen, ha, hd]
  rw [exec_timetableKeepingChange hs hc, if_pos ⟨hm, by rw [hseen], ho⟩, ← hseen]
  exact keepingWrites (canon_cycleSeen c) (by decide) (by decide)

theorem timetableKeeping_lit (c : Canon s) (hs : s.pwr.started = true) (hc : s.lfe.cyc = none) (ha : allDark s = false)
    (hm : fld s R.SYS_PWR_mode = 1) : Goes (exec .timetableKeepingChange s) fun t => fld t R.SYS_PWR_mode = 0 ∧
      (if busy s 7 then fldRead t R.TTE_SHARE_map else fld t R.TTE_SHARE_map) = 0xF ∧ t.pwr = { s.pwr with dark := 0 } := by
  have hseen : (cycleSeen s).pwr = { s.pwr with dark := 0 } := by simp [cycleSeen, ha]
  rw [exec_timetableKeepingChange hs hc, if_neg (by simp [hm]), if_pos ⟨hm, .inl (by simp [ha])⟩, ← hseen]
  exact keepingWrites (canon_cycleSeen c) (by decide) (by decide)

theorem timetableKeeping_firstDark (hs : s.pwr.started = true) (hc : s.lfe.cyc = none) (ha : allDark s = true) (hd : s.pwr.dark = 0)
    (hm : fld s R.SYS_PWR_mode = 0) : exec .timetableKeepingChange s = .next { s with pwr := { s.pwr with dark := 1 } } := by
  have hseen : cycleSeen s = { s with pwr := { s.pwr with dark := 1 } } := by simp [cycleSeen, setPwr, ha, hd]
  rw [exec_timetableKeepingChange hs hc, hseen, if_neg (by simp), if_neg (by simp [hm])]

end

end Sys2Proof.Machine

/-! ## Frames received (chapter 04, R89; chapter 05, R124)

A frame that TTE takes is counted between what its checks did before and what its acceptance starts afterwards. Neither touches the
counters and flags that say what became of it (`ReceptionKept`), nor does the comparison of a beacon's token, which may make the
module yield and so reaches the sidings, the meter and the outputs. -/

namespace Sys2Proof.Machine

open Sys2Proof

section
variable {m n : Nat} {r s t u : State}

/-! ### The blocks that captures, sidings and tokens reach -/

/-- The registers of NTB. -/
def clockSet : Nat := 2 ^ 2 + 2 ^ 42

/-- The registers of SDC, their shadows, and the sidings. -/
def sidingSet : Nat := 2 ^ 2 + 2 ^ 3 + 2 ^ 20 + 2 ^ 51

/-- What a change of ownership reaches: the sidings, the meter's drive, the control outputs, TKN, and the recorder's events. -/
def tokenSet : Nat := sidingSet + (2 ^ 10 + 2 ^ 13 + 2 ^ 49 + 2 ^ 52 + 2 ^ 53 + 2 ^ 56)

/-- The capture units lie in NTB. -/
theorem captureAt_within {at_ src : Nat} {edge : Bool} (hm : Sub clockSet m) (h : Keeps m r s) : Keeps m r (captureAt at_ src edge s) := by
  rw [captureAt_eq]
  refine keeps_upTo h fun n hn t ht => capUnit_induct ht fun u f v hf hu => setFld_keeps ?_ hu
  have hb : blockIndex f.addr = 2 := by
    rcases hf with hf | ⟨rfl, -⟩
    · have hc := (capRegs_addr n).2.2.2
      simp only [InCap, blockIndex] at *
      omega
    · decide
  exact hm.mono (by rw [regMask, hb]; rfl)

theorem transferSiding_within (hn : n < 4) (hm : Sub sidingSet m) (h : Keeps m r s) : Keeps m r (transferSiding n s) := by
  have hb : ∀ k < 0x20, blockIndex (A.SDC_Cn_CFG n + k) = 11 := fun k hk => by
    rw [A.SDC_Cn_CFG]
    exact blockIndex_siding hn hk
  have h1 : Keeps m r (applyShadows s (s.shadows.filter fun p =>
      A.SDC_Cn_CFG n ≤ p.1 / 32 && p.1 / 32 < A.SDC_Cn_CFG n + 0x20)) := by
    refine applyShadows_in_keeps (a := A.SDC_Cn_CFG n) (fun p hp => ?_) (hm.mono ?_) h
    swap
    · rw [regMask, ← Nat.add_zero (A.SDC_Cn_CFG n), hb 0 (by decide)]
      rfl
    obtain ⟨hlo, hhi⟩ : A.SDC_Cn_CFG n ≤ p.1 / 32 ∧ p.1 / 32 < A.SDC_Cn_CFG n + 0x20 := by
      simpa using (List.mem_filter.1 hp).2
    rw [← Nat.add_zero (A.SDC_Cn_CFG n), hb 0 (by decide), ← hb (p.1 / 32 - A.SDC_Cn_CFG n) (by omega)]
    congr 1
    omega
  exact Keeps.ite (allPending_keeps (hm.mono rfl) h1) h1

theorem sidingHalt_within (hn : n < 4) (hm : Sub sidingSet m) (h : Keeps m r s) : Keeps m r (sidingHalt n s) := by
  have h1 := setSiding_keeps (b0 := n) (b1 := { sidingAt (transferSiding n (driveStop n s)) n with runs := false }) (hm.mono rfl)
    (transferSiding_within hn hm (driveStop_keeps (b0 := n) (hm.mono rfl) h))
  exact Keeps.ite h1 (blockStop_keeps (hm.mono rfl) h1)

/-- There are four sidings. -/
theorem sdcOwn_within {on : Bool} (hm : Sub sidingSet m) (h : Keeps m r s) : Keeps m r (sdcOwn on s) := by
  refine Keeps.ite h (keeps_upTo (setBool_keeps (hm.mono rfl) h) fun n hn t ht => Keeps.ite ?_ ht)
  have h1 := driveStop_keeps (b0 := n) (hm.mono rfl) ht
  exact Keeps.ite (driveStart_keeps (hm.mono rfl) ht) (Keeps.ite h1 (sidingHalt_within hn hm h1))

theorem tknSettle_within {quiet : Bool} (hm : Sub tokenSet m) (h : Keeps m r s) : Keeps m r (tknSettle quiet s) := by
  unfold tknSettle
  extract_lets +onlyGivenNames out hw both _ s1
  have h1 : Keeps m r s1 := setTkn_keeps (hm.mono rfl) h
  clear_value s1
  extract_lets +onlyGivenNames was s2
  have h2 : Keeps m r s2 := setBool_keeps (hm.mono rfl) (setBool_keeps (hm.mono rfl) h1)
  clear_value s2
  refine Keeps.ite h2 ?_
  extract_lets +onlyGivenNames s3
  have h3 : Keeps m r s3 := ctcSettle_keeps (hm.mono rfl) (meterDrive_keeps (hm.mono rfl) (sdcOwn_within (hm.mono rfl) h2))
  exact Keeps.ite (post_keeps (hm.mono rfl) (raise_keeps (hm.mono rfl) h3)) h3

/-- A yield gives up the line and the air (R373). -/
theorem yieldNow_within (hm : Sub tokenSet m) (h : Keeps m r s) : Keeps m r (yieldNow s) := by
  have h1 : Keeps m r (ilkRelease true s) := tknSettle_within hm (lower_keeps (hm.mono rfl) h)
  have h2 : Keeps m r (fwField tknWritten R.TKN_AIR_en 0 (ilkRelease true s)) :=
    tknSettle_within hm (writeFields_keeps (o := firmware) (a := A.TKN_AIR) (hm.mono rfl) h1)
  exact setTkn_keeps (hm.mono rfl) (setFld_keeps (hm.mono rfl) h2)

theorem beaconCompare_within {token side : Nat} (hm : Sub tokenSet m) (h : Keeps m r s) : Keeps m r (beaconCompare token side s) := by
  unfold beaconCompare
  extract_lets +onlyGivenNames mine
  refine Keeps.ite h ?_
  extract_lets +onlyGivenNames _ s1
  have h1 : Keeps m r s1 := setTkn_keeps (hm.mono rfl) h
  clear_value s1
  refine Keeps.ite (Keeps.ite (post_keeps (hm.mono rfl) (setTkn_keeps (hm.mono rfl) h1)) h1) (Keeps.ite ?_ h1)
  exact Keeps.ite (yieldNow_within hm h1) (Keeps.ite h1 (post_keeps (hm.mono rfl) (setTkn_keeps (hm.mono rfl) h1)))

/-! ### What leaves the count of frames alone -/

/-- The counters and flags that say what became of a frame. -/
def receptionFields : List Field :=
  [R.RFE_CNT_RX_n, R.RFE_CNT_ERR_fcs, R.TTE_CNT_RX_n, R.TTE_CNT_DROP_rx, R.TTE_IFLG_rx, R.TTE_IFLG_qfull]

/-- The count of frames stands as it was. -/
structure ReceptionKept (s t : State) : Prop where
  canon : Canon t
  fields : ∀ f ∈ receptionFields, fld t f = fld s f

namespace ReceptionKept

theorem refl (c : Canon s) : ReceptionKept s s := ⟨c, fun _ _ => rfl⟩

theorem ite {c : Prop} [Decidable c] (h : ReceptionKept r s) (k : ReceptionKept r t) : ReceptionKept r (if c then s else t) := by
  split <;> assumption

theorem foldl {α : Type} {l : List α} {f : State → α → State} (h : ReceptionKept r s)
    (k : ∀ t a, ReceptionKept r t → ReceptionKept r (f t a)) : ReceptionKept r (l.foldl f s) := by
  induction l generalizing s with
  | nil => exact h
  | cons a l ih => exact ih (k s a h)

/-- What reaches no register of the radio and of TTE. -/
theorem off (h : ReceptionKept r s) (k : Keeps m s t)
    (hm : ∀ f ∈ receptionFields, m.testBit (40 + blockIndex f.addr) = false) : ReceptionKept r t :=
  ⟨k.canon h.canon, fun f hf => (k.fld_eq h.canon (hm f hf)).trans (h.fields f hf)⟩

/-- Another field of those registers. -/
theorem setFld (h : ReceptionKept r s) {f : Field} (v : Nat) (hw : f.lsb + f.width ≤ 32)
    (hf : ∀ g ∈ receptionFields, f.apart g = true) : ReceptionKept r (setFld s f v) :=
  ⟨canon_setFld h.canon f v, fun g hg => (fld_setFld_apart h.canon.regs.1 v hw (hf g hg)).trans (h.fields g hg)⟩

theorem setTte (h : ReceptionKept r s) {x : TteState} : ReceptionKept r (setTte x s) :=
  h.off (setTte_keeps (Sub.refl _) (Keeps.refl s)) (by decide)

theorem setNst (h : ReceptionKept r s) {short k : Nat} {v : List Byte} : ReceptionKept r (setNst short k v s) :=
  h.off (setNst_keeps (Sub.refl _) (Keeps.refl s)) (by decide)

theorem tteDrop (h : ReceptionKept r s) : ReceptionKept r (tteDrop s) :=
  (h.setFld (f := R.TTE_CNT_DROP_tx) _ (by decide) (by decide)).setFld (f := R.TTE_IFLG_drop) 1 (by decide) (by decide)

theorem nodeHeard {p short sof : Nat} {report : List Byte} {cell : Cell} {now : Bool} (h : ReceptionKept r s) :
    ReceptionKept r (nodeHeard p short report sof cell now s) := by
  unfold Machine.nodeHeard
  extract_lets +onlyGivenNames old us s1 s2 s3 s4 _ s5
  have h1 : ReceptionKept r s1 := ite (h.setFld (f := R.TTE_IFLG_drift) 1 (by decide) (by decide)) h
  have h4 : ReceptionKept r s4 := h1.setNst.setNst.setNst
  have h5 : ReceptionKept r s5 := ite (h4.setTte.off (silentFault_keeps (Sub.refl _) (Keeps.refl _)) (by decide)) h4
  exact ite (ite h5.setTte h5.setNst) h5

theorem fastAdd {lane group : Nat} {item : List Byte} (h : ReceptionKept r s) : ReceptionKept r (fastAdd lane group item s) := by
  unfold Machine.fastAdd
  extract_lets +onlyGivenNames cap
  refine ite h.tteDrop ?_
  split
  · exact h.setTte
  · exact h.setTte

theorem fastPath {f : Frame} {plain : List Byte} (h : ReceptionKept r s) : ReceptionKept r (fastPath f plain s).2 := by
  unfold Machine.fastPath
  extract_lets +onlyGivenNames e mask item
  split
  · exact h
  · split
    · exact h.tteDrop
    · exact h.foldl fun t l ht => ite ht.fastAdd ht

end ReceptionKept

/-! ### A frame counted -/

/-- The radio's counters stand, and TTE counted the frame as received or as dropped for want of room. -/
structure FrameCounted (s t : State) : Prop where
  canon : Canon t
  radio : fld t R.RFE_CNT_RX_n = fld s R.RFE_CNT_RX_n ∧ fld t R.RFE_CNT_ERR_fcs = fld s R.RFE_CNT_ERR_fcs
  queue : (fld t R.TTE_CNT_RX_n = min (fld s R.TTE_CNT_RX_n + 1) (2 ^ 32 - 1) ∧ isSet t R.TTE_IFLG_rx = true) ∨
    (fld t R.TTE_CNT_DROP_rx = min (fld s R.TTE_CNT_DROP_rx + 1) 65535 ∧ isSet t R.TTE_IFLG_qfull = true)

theorem FrameCounted.kept (h : FrameCounted s t) (k : ReceptionKept t u) : FrameCounted s u where
  canon := k.canon
  radio := by
    rw [k.fields R.RFE_CNT_RX_n (by decide), k.fields R.RFE_CNT_ERR_fcs (by decide)]
    exact h.radio
  queue := by
    unfold isSet
    rw [k.fields R.TTE_CNT_RX_n (by decide), k.fields R.TTE_CNT_DROP_rx (by decide), k.fields R.TTE_IFLG_rx (by decide),
      k.fields R.TTE_IFLG_qfull (by decide)]
    exact h.queue

theorem frameCounted_received (h : ReceptionKept s u) : FrameCounted s (raise (bump u R.TTE_CNT_RX_n 1) R.TTE_IFLG_rx) := by
  have hr := h.canon.regs.1
  have rises : Rising (bump u R.TTE_CNT_RX_n 1).regs := rising_bump hr 1
  have apart : ∀ g ∈ receptionFields, R.TTE_CNT_RX_n.apart g = true → R.TTE_IFLG_rx.apart g = true →
      fld (raise (bump u R.TTE_CNT_RX_n 1) R.TTE_IFLG_rx) g = fld s g := fun g hg h1 h2 =>
    ((fld_raise_apart rises (by decide) h2).trans (fld_bump_apart hr 1 (by decide) h1)).trans (h.fields g hg)
  refine ⟨canon_setFld (canon_setFld h.canon _ _) _ _,
    ⟨apart _ (by decide) (by decide) (by decide), apart _ (by decide) (by decide) (by decide)⟩,
    .inl ⟨?_, isSet_raise rises _ (by decide) (by decide)⟩⟩
  rw [fld_raise_apart rises (by decide) (by decide), fld_bump_self hr 1 (by decide), h.fields _ (by decide)]
  rfl

theorem frameCounted_dropped (h : ReceptionKept s u) : FrameCounted s (raise (bump u R.TTE_CNT_DROP_rx 1) R.TTE_IFLG_qfull) := by
  have hr := h.canon.regs.1
  have rises : Rising (bump u R.TTE_CNT_DROP_rx 1).regs := rising_bump hr 1
  have apart : ∀ g ∈ receptionFields, R.TTE_CNT_DROP_rx.apart g = true → R.TTE_IFLG_qfull.apart g = true →
      fld (raise (bump u R.TTE_CNT_DROP_rx 1) R.TTE_IFLG_qfull) g = fld s g := fun g hg h1 h2 =>
    ((fld_raise_apart rises (by decide) h2).trans (fld_bump_apart hr 1 (by decide) h1)).trans (h.fields g hg)
  refine ⟨canon_setFld (canon_setFld h.canon _ _) _ _,
    ⟨apart _ (by decide) (by decide) (by decide), apart _ (by decide) (by decide) (by decide)⟩,
    .inr ⟨?_, isSet_raise rises _ (by decide) (by decide)⟩⟩
  rw [fld_raise_apart rises (by decide) (by decide), fld_bump_self hr 1 (by decide), h.fields _ (by decide)]
  rfl

/-- A frame that TTE takes in a cell is counted once, whatever its checks found. -/
theorem receiveIn_counted {f : RxFrame} {report : List Byte} {p : Nat} {cell : Cell} (c : Canon s) :
    FrameCounted s (receiveIn f report p cell s).2 := by
  unfold receiveIn
  split
  rename_i v s0 e0
  have h0 : ReceptionKept s s0 :=
    (ReceptionKept.refl c).off (KeepsP.of_eq e0 (receiveChecks_keeps (Sub.refl _) (Keeps.refl s))).snd (by decide)
  extract_lets +onlyGivenNames upFrom s1
  have h1 : ReceptionKept s s1 := by
    unfold s1
    clear_value upFrom
    split
    · exact h0.nodeHeard
    · exact h0
  clear_value s1 upFrom
  extract_lets +onlyGivenNames s2
  have h2 : ReceptionKept s s2 := by
    unfold s2
    split
    · exact .ite (h1.off (captureAt_within (Sub.refl _) (Keeps.refl s1)) (by decide)) h1
    · exact h1
  clear_value s2
  extract_lets +onlyGivenNames tag body q
  have written : ∀ {b s3}, hwWrite agentTte q 0 (tag ++ report ++ body) s2 = (b, s3) → ReceptionKept s s3 := fun e =>
    h2.off (KeepsP.of_eq e (hwWrite_keeps (Sub.refl _) (Keeps.refl s2))).snd (by decide)
  split
  · rename_i s3 e3
    exact frameCounted_dropped (written e3)
  · rename_i s3 e3
    extract_lets +onlyGivenNames s4
    have h4 : FrameCounted s s4 := frameCounted_received (written e3)
    clear_value s4
    extract_lets +onlyGivenNames s5
    have k4 := ReceptionKept.refl h4.canon
    have k5 : ReceptionKept s4 s5 := .ite (k4.off (windowMove_keeps (Sub.refl _) (Keeps.refl s4)) (by decide)) k4
    clear_value s5
    extract_lets +onlyGivenNames s6
    have k6 : ReceptionKept s4 s6 := by
      unfold s6
      split
      · exact k5
      · refine .ite k5 ?_
        split
        rename_i built s7 e7
        have k7 : ReceptionKept s4 s7 := by
          rw [show s7 = (built, s7).2 from rfl, ← e7]
          split
          · exact k5.fastPath
          · exact k5
        exact .ite (k7.off (ackFor_keeps (Sub.refl _) (Keeps.refl s7)) (by decide)) k7
    have h6 := h4.kept k6
    split
    · split <;> exact h6
    · exact h6

/-! ### RX_FRAME (R89) -/

/-- The path whose cells a frame came in: that of the end of its SFD. -/
def rxPath (f : RxFrame) (s : State) : Nat := if netNs s < pathStart s s.ntb.path + f.sof then s.ntb.path - 1 else s.ntb.path

/-- Whether the radio receives the frame. -/
def rxHeard (f : RxFrame) (s : State) : Bool :=
  chanUsable s f.chan && f.rate == fld s R.RFE_PHY_rxrate && rxOn s (rxPath f s) && s.pwr.pllR

/-- The state with the frame counted by its FCS. -/
def rxCounted (f : RxFrame) (s : State) : State := if fcsOk f = true then bump s R.RFE_CNT_RX_n 1 else bump s R.RFE_CNT_ERR_fcs 1

/-- The cell that is listened to for the frame. -/
def rxCell (f : RxFrame) (s : State) : Option Cell :=
  (if rxPath f s = s.ntb.path then s.tte.cells else s.tte.cellsBefore).find? (fun c => c.chan == f.chan && c.listen)

theorem rxCounted_parts (f : RxFrame) (s : State) : (rxCounted f s).ntb = s.ntb ∧ (rxCounted f s).tte = s.tte := by
  unfold rxCounted
  split <;> simp

theorem canon_rxCounted (c : Canon s) (f : RxFrame) : Canon (rxCounted f s) := by
  unfold rxCounted
  split <;> exact canon_setFld c _ _

/-- The radio's count by the FCS reaches no register of TTE. -/
theorem fld_rxCounted (c : Canon s) (f : RxFrame) {g : Field} (hg : blockIndex g.addr = 7) : fld (rxCounted f s) g = fld s g := by
  have apart : ∀ a : Nat, blockIndex a = 6 → g.addr ≠ a := fun a ha e => by
    rw [e, ha] at hg
    exact absurd hg (by decide)
  unfold rxCounted
  split
  · exact fld_setFld_addr c.regs.1 R.RFE_CNT_RX_n g _ (apart _ (by decide))
  · exact fld_setFld_addr c.regs.1 R.RFE_CNT_ERR_fcs g _ (apart _ (by decide))

theorem receiveFrame_badHeader {f : RxFrame} (hh : rxHeard f s = true) (hb : f.phr = false ∨ f.psdu.length < 5 ∨ 255 < f.psdu.length) :
    receiveFrame f s = (none, bump s R.RFE_CNT_ERR_phr 1) := by
  change (if (!rxHeard f s) = true then _ else _) = _
  rw [hh, if_neg (by decide), if_pos (by simpa [or_assoc] using hb)]

/-- A frame whose header stands goes to TTE where TTE is open and listens for it. -/
theorem receiveFrame_header {f : RxFrame} (hh : rxHeard f s = true) (hp : f.phr = true) (h5 : 5 ≤ f.psdu.length)
    (h255 : f.psdu.length ≤ 255) : receiveFrame f s = match rxCell f s with
      | some c => if isSet (rxCounted f s) R.TTE_STAT_open = true then
          receiveIn f (rxReport (rxCounted f s) f) (rxPath f s) c (rxCounted f s) else (none, rxCounted f s)
      | none => (none, rxCounted f s) := by
  have hcell : rxCell f s =
      (if rxPath f s = (rxCounted f s).ntb.path then (rxCounted f s).tte.cells else (rxCounted f s).tte.cellsBefore).find?
        (fun c => c.chan == f.chan && c.listen) := by
    rw [(rxCounted_parts f s).1, (rxCounted_parts f s).2, rxCell]
  unfold receiveFrame
  extract_lets p s1 cells
  have hheard : (chanUsable s f.chan && f.rate == fld s R.RFE_PHY_rxrate && rxOn s p && s.pwr.pllR) = true := hh
  have hlisten : cells.find? (fun c => c.chan == f.chan && c.listen) = rxCell f s := hcell.symm
  have hlength : ¬ (!f.phr || decide (f.psdu.length < 5) || decide (255 < f.psdu.length)) = true := by
    simp [hp]
    omega
  rw [hheard, if_neg (by decide), if_neg hlength, hlisten]
  cases rxCell f s <;> rfl

theorem exec_rxFrame_badHeader {f : RxFrame} (hh : rxHeard f s = true)
    (hb : f.phr = false ∨ f.psdu.length < 5 ∨ 255 < f.psdu.length) : exec (.rxFrame f) s = .next (bump s R.RFE_CNT_ERR_phr 1) := by
  change Host.Outcome.next (frameReceived f s) = _
  unfold frameReceived
  rw [receiveFrame_badHeader hh hb]

theorem exec_rxFrame_notTaken {f : RxFrame} (c : Canon s) (hh : rxHeard f s = true) (hp : f.phr = true) (h5 : 5 ≤ f.psdu.length)
    (h255 : f.psdu.length ≤ 255) (hn : isSet s R.TTE_STAT_open = false ∨ rxCell f s = none) :
    exec (.rxFrame f) s = .next (rxCounted f s) := by
  have hopen : isSet (rxCounted f s) R.TTE_STAT_open = isSet s R.TTE_STAT_open := congrArg (· == 1) (fld_rxCounted c f (by decide))
  have hf : receiveFrame f s = (none, rxCounted f s) := by
    rw [receiveFrame_header hh hp h5 h255]
    cases e : rxCell f s with
    | none => rfl
    | some cell => exact if_neg (by simp [hopen, hn.resolve_right (by simp [e])])
  change Host.Outcome.next (frameReceived f s) = _
  unfold frameReceived
  rw [hf]

theorem exec_rxFrame_taken {f : RxFrame} (c : Canon s) (hh : rxHeard f s = true) (hp : f.phr = true) (h5 : 5 ≤ f.psdu.length)
    (h255 : f.psdu.length ≤ 255) (ho : isSet s R.TTE_STAT_open = true) (hc : rxCell f s ≠ none) :
    Goes (exec (.rxFrame f) s) (FrameCounted (rxCounted f s)) := by
  have hopen : isSet (rxCounted f s) R.TTE_STAT_open = true := (congrArg (· == 1) (fld_rxCounted c f (by decide))).trans ho
  obtain ⟨cell, hcell⟩ := Option.ne_none_iff_exists'.1 hc
  have hf : receiveFrame f s = receiveIn f (rxReport (rxCounted f s) f) (rxPath f s) cell (rxCounted f s) := by
    rw [receiveFrame_header hh hp h5 h255, hcell]
    exact if_pos hopen
  have counted : FrameCounted (rxCounted f s) (receiveFrame f s).2 := by
    rw [hf]
    exact receiveIn_counted (canon_rxCounted c f)
  change FrameCounted (rxCounted f s) (frameReceived f s)
  unfold frameReceived
  generalize receiveFrame f s = received at counted
  obtain ⟨beacon, t⟩ := received
  cases beacon with
  | none => exact counted
  | some b =>
    have kept := ReceptionKept.refl counted.canon
    exact counted.kept (.ite (kept.off (beaconCompare_within (Sub.refl _) (Keeps.refl t)) (by decide)) kept)

end

end Sys2Proof.Machine

namespace Sys2Proof.Machine

open Sys2Proof

/-- Settles O25: the frame goes through the radio to TTE (`exec_rxFrame_taken`), the commands are writes and reads of TTE's registers,
and timetable keeping is the firmware's two writes. -/
theorem timetableCommands : Obligations.TimetableCommands := by
  intro s o c
  refine ⟨fun f => ?_,
    fun hl => ⟨tteRunWrite_starts c hl, tteRunWrite_refused c hl, tteRunWrite_stops c hl, tteOpen_waits c hl⟩,
    fun hl => ⟨fun n _ hn => silentFifoRead_oldest c hl hn, silentFifoRead_empty hl⟩,
    fun hs hc => ⟨timetableKeeping_dark c hs hc, timetableKeeping_lit c hs hc, timetableKeeping_firstDark hs hc⟩⟩
  intro p heard cells counted
  refine ⟨exec_rxFrame_badHeader, fun hh hp h5 h255 => ⟨exec_rxFrame_notTaken c hh hp h5 h255, fun ho hc => ?_⟩⟩
  have taken : Goes (exec (.rxFrame f) s) (FrameCounted counted) := exec_rxFrame_taken c hh hp h5 h255 ho hc
  have hrx : fld counted R.TTE_CNT_RX_n = fld s R.TTE_CNT_RX_n := fld_rxCounted c f (by decide)
  have hdrop : fld counted R.TTE_CNT_DROP_rx = fld s R.TTE_CNT_DROP_rx := fld_rxCounted c f (by decide)
  refine goes_mono taken fun t ⟨_, ⟨hr1, hr2⟩, hqueue⟩ => ⟨hr1, hr2, ?_⟩
  rwa [hrx, hdrop] at hqueue

/-- A module at reset that receives with its PLL locked, whose TTE is open, listens on channel 3 and has node 5 in its silent list. -/
def listening : State :=
  setTte { cells := [⟨3, 0, 1, 0, true⟩], silent := [5] } (setPwr { pllR := true, started := true }
    (raise (setFld State.reset R.RFE_CTRL_mode 1) R.TTE_STAT_open))

theorem canon_listening : Canon listening :=
  (setTte_keeps (m := 2 ^ 100 - 1) ((Sub.refl _).mono rfl) (setPwr_keeps ((Sub.refl _).mono rfl) (Keeps.refl _))).canon
    (canon_setFld (canon_setFld resetIsCanonical R.RFE_CTRL_mode 1) R.TTE_STAT_open 1)

/-- A frame of six octets on channel 3, at the segment's rate. -/
def sixOctets : RxFrame :=
  { chan := 3, phr := true, rate := 1, fec := false, white := false, fcs2 := true, rssiA := 0, rssiB := 0, snr := 0, cfo := 0, sof := 0,
    psdu := [0, 0, 0, 0, 0, 0] }

/-- The hypotheses of O25 can be met: the listening module counts a frame of six octets, starts its TTE, reads its silent node, and
counts its first dark cycle. -/
theorem timetableCommands_witness (mmode : Bool) :
    Goes (exec (.rxFrame sixOctets) listening) (fun t =>
      fld t R.TTE_CNT_RX_n = 1 ∨ fld t R.TTE_CNT_DROP_rx = 1) ∧
    Goes (exec (.tteRunWrite ⟨.core0, mmode⟩ true) listening) (fun t => busy t 7 = true) ∧
    Goes (exec (.silentFifoRead ⟨.core0, mmode⟩) listening) (fun t => t.tte.silent = []) ∧
    Goes (exec .timetableKeepingChange listening) (fun t => t.pwr.dark = 1) := by
  obtain ⟨frames, control, silent, keeping⟩ := timetableCommands listening ⟨.core0, mmode⟩ canon_listening
  have hframe := ((frames sixOctets).2 (by decide) rfl (by decide) (by decide)).2 rfl (by decide)
  have hstart := (control (lets_core0 rfl (by decide) (by decide))).1 (by decide) (by decide)
  have hread := (silent (letsRead_core0 rfl (by decide) (by decide))).1 5 (by decide) rfl
  have hdark := (keeping rfl rfl).2.2 (by decide) rfl (by decide)
  refine ⟨goes_mono hframe fun t ⟨_, _, h⟩ => h.imp And.left And.left, goes_mono hstart fun t ⟨_, h, _⟩ => h,
    goes_mono hread fun t ⟨_, h, _⟩ => ?_, ?_⟩
  · rw [h]
    rfl
  · rw [hdark]
    rfl

end Sys2Proof.Machine

/-! ## Frames from nodes, and the node table's times (chapter 07, R200, R212) -/

namespace Sys2Proof.Machine

open Sys2Proof

/-- A module at reset in path 258 of network time that has joined node 5, and whose store of live nodes lists the node twice, with what
is held in `l`. O26 and O27 rule that out nowhere: `Canon` says nothing of the live nodes. -/
def doubledNode (l : NodeLive) : State :=
  { State.reset with nv := { nodes := [(5, {})] }, nodes := { live := [(5, l), (5, l)] }, ntb := { path := 258 } }

theorem canon_doubledNode (l : NodeLive) : Canon (doubledNode l) :=
  ⟨resetIsCanonical.regs, resetIsCanonical.shadows, resetIsCanonical.mem, resetIsCanonical.bulk, resetIsCanonical.od, resetIsCanonical.held⟩

/-! ### An alarm of code 0 -/

/-- The entry that TTE writes for node 5's alarm of code 0: tag and report, then the frame of type 11 with its MIC and FCS. -/
def alarmEnd : QEntry := { tag := 0, body := List.replicate 20 0 ++ [0x0B, 0, 5, 0, 0, 0, 0, 0, 0, 0] ++ List.replicate 12 0 }

/-- Node 5, listed twice with fault 5, has told the end of its fault: its alarm stands in queue 0, which TTE fills. -/
def doubledFault : State :=
  raise (setFld { doubledNode { fault := 5 } with pqu := { queues := [(0, { entries := [alarmEnd] })] } } (R.PQU_Qn_CFG_prod 0) 1)
    R.PQU_CTRL_run

theorem canon_doubledFault : Canon doubledFault :=
  have hm := Sub.refl (2 ^ 100 - 1)
  (raise_keeps (hm.mono rfl) (setFld_keeps (hm.mono rfl) (Keeps.set_pqu (hm.mono rfl) (Keeps.refl _)))).canon (canon_doubledNode _)

/-- Fault 0 is the default, so that the alarm takes out the node's first entry, and the second one shows. -/
theorem fault_takeUp_doubledFault : (live (takeUp [11] doubledFault) 5).fault = 5 := by decide

/-- Refutes O26: where the store of live nodes names a node twice, ALARM_RECEIVE of the end of its fault leaves the fault of the second
entry. -/
theorem not_nodeFramesTaken : ¬ Obligations.NodeFramesTaken := by
  intro h
  obtain ⟨-, -, -, alarm, -⟩ := h doubledFault canon_doubledFault
  obtain ⟨f, hframe⟩ : ∃ f, entryFrame alarmEnd.body = some f := ⟨_, rfl⟩
  obtain ⟨hshort, hcode⟩ : f.short = 5 ∧ leAt (f.body.take (f.body.length - 4 * f.nack)) 0 1 = 0 := by
    cases hframe
    decide
  obtain ⟨-, hfault⟩ : Goes (.next (takeUp [11] doubledFault)) _ :=
    alarm 0 (by decide) alarmEnd (by decide) f hframe (by rw [hshort]; decide) (by rw [hshort]; decide) (by decide) (by decide)
  rw [hshort, hcode, fault_takeUp_doubledFault] at hfault
  exact absurd hfault (by decide)

/-! ### A command that no send has brought to its node -/

/-- A command of code 0x0A sent to a node five times, last in path 0. -/
def fifthSend : NodeCmd := { code := 0x0A, idx := 0, body := [2], seq := 0, sends := 5, sentPath := 0, jseq := 0 }

/-- A node without a command is the default, so that the end of the command takes out the node's first entry, and the second one
shows. -/
theorem cmd_commandRetry_doubledNode :
    (live (keyRetry 5 (commandRetry 5 (doubledNode { cmd := some fifthSend }))) 5).cmd = some fifthSend := by decide

/-- Refutes O27: where the store of live nodes names a node twice, COMMAND_RETRY after the fifth send leaves the command of the second
entry in hand. -/
theorem not_nodeTableTimes : ¬ Obligations.NodeTableTimes := by
  intro h
  obtain ⟨retry, -⟩ := h (doubledNode { cmd := some fifthSend }) (canon_doubledNode _)
  obtain ⟨-, ended⟩ : Goes (.next (keyRetry 5 (commandRetry 5 (doubledNode { cmd := some fifthSend })))) _ :=
    retry 5 {} rfl fifthSend rfl rfl (by decide) (by decide)
  have hcmd := ended (by decide) rfl
  exact absurd (cmd_commandRetry_doubledNode.symm.trans hcmd) (by decide)

end Sys2Proof.Machine

/-! ## The light field engine's words (chapter 08, R251) -/

namespace Sys2Proof.Machine

open Sys2Proof

/-- A module at reset whose engine SRAM lists octet 0 twice, with 1 each time. The engine's address stands at word 0, and O30 rules the
double out nowhere: `Canon` says nothing of the engine SRAM. -/
def doubledOctet : State := { State.reset with lfe := { sram := [(0, 1), (0, 1)] } }

theorem canon_doubledOctet : Canon doubledOctet :=
  ⟨resetIsCanonical.regs, resetIsCanonical.shadows, resetIsCanonical.mem, resetIsCanonical.bulk, resetIsCanonical.od, resetIsCanonical.held⟩

theorem eaddr_doubledOctet : fld doubledOctet R.LFE_EADDR_addr = 0 := by decide

/-- The write puts octet 0 to its default 0 by taking out the first entry, and so the second one shows. -/
theorem engNat_writeEdata_doubledOctet : engNat (coreWrite lfeWritten firmware A.LFE_EDATA 0 doubledOctet) 0 4 = 1 := by decide

/-- Refutes O30: where the engine SRAM lists an octet twice, ENGINE_WORD_ACCESS of the word 0 leaves the second entry in place of it. -/
theorem not_lightFieldCommands : ¬ Obligations.LightFieldCommands := by
  intro h
  obtain ⟨-, -, -, -, -, -, write, -⟩ := h doubledOctet firmware canon_doubledOctet
  rw [eaddr_doubledOctet] at write
  have lets : Lets doubledOctet firmware A.LFE_EDATA := lets_core0 rfl (by decide) (by decide)
  obtain ⟨hword, -⟩ : Goes (.next (coreWrite lfeWritten firmware A.LFE_EDATA 0 doubledOctet)) _ := write lets (.inl (by decide)) 0
  exact absurd (engNat_writeEdata_doubledOctet.symm.trans hword) (by decide)

end Sys2Proof.Machine

/-! ## Frames out of the modem's port (chapter 18, R462, R475, R477) -/

namespace Sys2Proof.Machine

open Sys2Proof

/-- A queue that holds one frame for BHN to send. -/
def oneFrame : Queue := { entries := [{ tag := 0, body := [] }], cons := agentBhn }

/-- A module at reset whose modem port is on with its link, and whose PQU runs. Its store of queues lists the modem's transmit queue,
28, twice, which O29 rules out nowhere: `Canon` says nothing of the queues. The queue's register names the core as its next consumer
(R477). -/
def doubledQueue : State :=
  { raise (raiseBit (raiseBit State.reset R.BHN_CTRL_en 3) R.BHN_STAT_link 3) R.PQU_CTRL_run with
    pqu := { queues := [(28, oneFrame), (28, oneFrame)] } }

theorem canon_doubledQueue : Canon doubledQueue :=
  have hm := Sub.refl (2 ^ 100 - 1)
  (Keeps.set_pqu (hm.mono rfl) (raise_keeps (hm.mono rfl) (raiseBit_keeps (hm.mono rfl) (raiseBit_keeps (hm.mono rfl)
    (Keeps.refl State.reset))))).canon resetIsCanonical

/-- The release of its one frame makes the queue the default, so that it takes out the first entry of the store, and the second one
shows. -/
theorem entries_pppSend_doubledQueue :
    (queueAt (pppSend doubledQueue) (portTx doubledQueue 3)).entries = oneFrame.entries := by decide

/-- Refutes O29: where the store of queues lists the modem's transmit queue twice, PPP_FRAME_SEND of its one frame leaves the frame of
the second entry at its head. -/
theorem not_backhaulPorts : ¬ Obligations.BackhaulPorts := by
  intro h
  obtain ⟨-, -, -, send, -⟩ := h doubledQueue canon_doubledQueue
  obtain ⟨-, htail, -⟩ : Goes (.next (pppSend doubledQueue)) _ :=
    send { tag := 0, body := [] } (by decide) (by decide) (.inr (by decide))
  rw [entries_pppSend_doubledQueue] at htail
  exact absurd htail (by decide)

end Sys2Proof.Machine

/-! ## The queue and the clock (log entry 2) -/

namespace Sys2Proof.Machine

open Sys2Proof

/-- A command is taken off the queue before it runs: it sees only the rest of the queue. -/
theorem step_front {c : Instr} {rest : List Instr} {s : State} (h : s.pending = c :: rest) :
    step s = exec c { s with pending := rest } := by
  unfold step
  rw [h]

/-- Settles O3: the command in front is the one taken off. -/
theorem stepRunsTheFrontCommand : Obligations.StepRunsTheFrontCommand :=
  fun _ _ _ => step_front rfl

/-- Settles O6: the command's own law (`exec_next`) is a `Keeps`, and these are the fields of a `Keeps` that name no part. -/
theorem noCommandMovesClockOrQueue : Obligations.NoCommandMovesClockOrQueue := by
  intro c s
  obtain ⟨m, t, he, hk⟩ := exec_next c s
  rw [he]
  exact ⟨hk.now, hk.pending, hk.free, hk.out⟩

end Sys2Proof.Machine
